-- ==== Sys2Proof/Word.lean ====
section
/-!
DEFINITION. The word types of the ZM3680 and their plainest arithmetic: 32-bit registers (R23), the
64-bit counters and compact frames, and the integer readings of a bit pattern that the rules use.
-/

namespace Sys2Proof

/-- A register of the local space (R23), a host dword, or a four-byte item. -/
abbrev Word := BitVec 32

/-- A byte of a frame, of a buffer or of the Burl die. -/
abbrev Byte := BitVec 8

/-- A compact frame (R323), a 64-bit counter or a 64-bit time. -/
abbrev Word64 := BitVec 64

/-- The number `v` read as a signed number of `w` bits (two's complement). -/
def toSigned (w v : Nat) : Int :=
  if v % 2 ^ w < 2 ^ (w - 1) then ((v % 2 ^ w : Nat) : Int) else ((v % 2 ^ w : Nat) : Int) - ((2 ^ w : Nat) : Int)

/-- The `w`-bit pattern of a signed number, as a natural number. -/
def ofSigned (w : Nat) (v : Int) : Nat := (v % ((2 ^ w : Nat) : Int)).toNat

/-- Integer division rounded to the nearest, halves rounded up (R96, R101, R129); `0` for a divisor of zero. -/
def roundDiv (n : Int) (d : Nat) : Int := if d = 0 then 0 else (2 * n + d).fdiv (2 * d)

end Sys2Proof
end

