-- ==== Sys2Proof/Syntax.lean ====
section
/-!
DEFINITION. The commands of the ZM3680: one constructor of `Instr` per row of spec/opcode_table.json, with the
operands that the rule of the row names, and the plain records that carry what the outside world shows the part
at that step (converter integrals, comparator levels, received frames, descriptors).
-/

namespace Sys2Proof

/-- The three builds (Table 0-1). -/
inductive Build where | F | H | B
  deriving DecidableEq, Repr

/-- The two roles (R12). -/
inductive Role where | member | head
  deriving DecidableEq, Repr

/-- The dies of Table 1-1. -/
inductive Die where | core | afeL | afeU | phyN | phyS | bpdL | bpdU | burl
  deriving DecidableEq, Repr

/-- An AFE die with its bank: `L` holds cells 1 to 18, `U` cells 19 to 36. -/
inductive Afe where | L | U
  deriving DecidableEq, Repr

/-- A Spindle port (R299). -/
inductive Port where | north | south
  deriving DecidableEq, Repr

/-- What a bus clear meets (R464): the level of SDA, whether nine pulses release it, and whether SCL is held low. -/
structure IicBusObs where
  sdaHigh   : Bool
  freed     : Bool
  sclHeld   : Bool
  deriving DecidableEq, Repr

/-- What a start from power-on finds: the HEADSEL level (`true` = VDRV, R12), which stored copies fail their
integrity check (R169, R265, R296) which firmware images verify (R502), and
what the bus clear of the I²C port meets (R464). -/
structure BootObs where
  headsel : Bool
  badBzlL : Bool
  badBzlU : Bool
  badCalL : Bool
  badCalU : Bool
  badSdc  : Bool
  imgAOk  : Bool
  imgBOk  : Bool
  iic     : IicBusObs
  deriving DecidableEq, Repr

/-- What one converter adds over the window that closes (R83, R86): the integral of the window in units of the
channel, whether the integrator saturated, and whether it integrated for the whole window. -/
structure ChanIn where
  delta : Int
  sat   : Bool
  whole : Bool
  deriving DecidableEq, Repr

/-- The mean currents of one flyback stage over the window that closes, in mA: cell side, signed as in R175, and
the mean current delivered to the module bus (R192, R210). -/
structure StageIn where
  cell : Nat
  cellmA : Int
  busmA  : Int
  deriving DecidableEq, Repr

/-- What the part measures at a fast-window boundary (R85): the MTICK of the boundary edge, the integrals of the
cells in global order, those of ISH and ISB, and the stage currents. -/
structure WinIn where
  mtick  : Nat
  cells  : List ChanIn
  ish    : ChanIn
  isb    : ChanIn
  stages : List StageIn
  deriving DecidableEq, Repr

/-- One conversion of the aux SAR (R126, R128): the code and the range detector. -/
structure SarConv where
  code  : Nat
  above : Bool
  below : Bool
  deriving DecidableEq, Repr

/-- The trigger sources of Table 5-3 that occur by themselves. -/
inductive AuxSrc where | timer | window | extpwm | bsw
  deriving DecidableEq, Repr

/-- What a BPD die meters of one stage over one switching period (R196, R197): the signed cell-side charge in 2⁻¹⁶ nAh; the
cell-side energy, the module-side energy and the energy lost in the switches, in 2⁻¹⁶ nWh; and the squares of the primary
and the secondary RMS current, in mA². -/
structure StageMeter where
  cell : Nat
  qc   : Int
  ec   : Nat
  em   : Nat
  es   : Nat
  ip2  : Nat
  is2  : Nat
  deriving DecidableEq, Repr

/-- The comparator kinds, coded 0 to 3 in event 0x3001. -/
inductive CmpKind where | ov | uv | ot | ut
  deriving DecidableEq, Repr

/-- One comparator: its die, its kind and its input (local cell 1 to 18, or AUX index 0 to 7). -/
structure CmpId where
  die  : Afe
  kind : CmpKind
  idx  : Nat
  deriving DecidableEq, Repr

/-- Where a comparator input has gone (R247): beyond the trip threshold, beyond the release threshold, or back
between the two. -/
inductive CrossSide where | trip | release | band
  deriving DecidableEq, Repr

/-- The cell voltages, in units of 0.1 mV and in global order, that the comparators of a PATROL check see in the
band check, the odd-wire pull and the even-wire pull, first run and repeat (Table 3-5). -/
structure PatrolObs where
  band  : List Int
  odd   : List Int
  even  : List Int
  bandR : List Int
  oddR  : List Int
  evenR : List Int
  deriving DecidableEq, Repr

/-- The four SDC switches, in the order of SDC_STAT.SW (Table 11-10). -/
inductive SdcSw where | phs | pls | nhs | nls
  deriving DecidableEq, Repr

/-- The channels of R284, coded 1 to 5 in SDC_GREM.CH. -/
inductive Chan where | bezelL | bezelU | processor | sdcP | sdcN
  deriving DecidableEq, Repr

/-- The result of a memory scrub (R292). -/
inductive ScrubObs where | clean | corrected | uncorrectable
  deriving DecidableEq, Repr

/-- An extended frame as received (Table 13-3): the header fields, the payload bytes and the CRC it carries. -/
structure XFrame where
  ftype : Nat
  tc    : Nat
  pos   : Nat
  dir   : Bool
  bcast : Bool
  sfull : Bool
  more  : Bool
  turn  : Bool
  seql  : Nat
  tag   : Nat
  seqf  : Nat
  payload : List Byte
  crc   : Word
  deriving DecidableEq, Repr

/-- A command descriptor (Table 15-5) with the words its host buffer holds, 32 bits each, little-endian. `rsvd1` and
`rsvd4` say whether a reserved bit of byte 0x01 or of byte 0x04 is set. -/
structure Desc where
  wait  : Bool
  fence : Bool
  rsvd1 : Bool
  rsvd4 : Bool
  cid   : Nat
  bcast : Bool
  pos   : Nat
  count : Nat
  len   : Nat
  addr  : Nat
  data  : Word
  haddr : Nat
  param : Nat
  buf   : List Word
  deriving DecidableEq, Repr

/-- The kinds of PCIe reset of R410. -/
inductive PcieResetKind where | perst | hotReset | linkDown | flr
  deriving DecidableEq, Repr

/-- What came back in a Beadline frame (R433 to R437): a start bit or none; for a reply that carries fields, the
bits after the start bit in the order they were sent, CRC included; and whether a cell broke the coding. -/
structure BdlReply where
  start  : Bool
  coding : Bool
  bits   : List Bool
  deriving DecidableEq, Repr

/-- How a controller transfer of the I²C port went (R455): bytes written and acknowledged or read, and the end. -/
inductive IicEnd where
  | ok (read : List Byte)
  | nackAddr
  | nackData (acked : Nat)
  deriving DecidableEq, Repr

/-- The name a foreign controller addresses when the device loses arbitration (R459). -/
inductive IicAddressed where | none | ta | toda
  deriving DecidableEq, Repr

/-- What a bank test finds (R491, R495): pass or fail, the failing rows, the first failing byte, the OR of the
failing bits and the number of failing reads. -/
structure BistObs where
  pass  : Bool
  frows : Nat
  faddr : Nat
  fbit  : Word
  fcnt  : Nat
  deriving DecidableEq, Repr

/-- How a firmware operation ended (R503): the RESULT code, and for VERIFY the version and security version found. -/
structure FwObs where
  result  : Nat
  version : Word
  svn     : Nat
  deriving DecidableEq, Repr

/-- The commands of the part: those with operands in the order of the opcode table, then those without. An operand with a default
is what the part finds beside what the table's row names: the time of an edge or of a write, MTICK at the end of a conversion, a
die that does not come back, the end of a link that a write was made at. -/
inductive Instr where
  -- reset (02, 03, 21)
  | powerOnReset (b : BootObs)
  | brownOut (b : BootObs)
  | dieReset (d : Die) (lasting : Bool := false)
  | warmResetEnd (imgAOk imgBOk : Bool) (iic : IicBusObs)
  -- registers and commit (02)
  | registerWrite (addr : Nat) (v : Word)
  | cintlRead (addr : Nat)
  | commitArm (addr : Nat) (groups : BitVec 4)
  | commitDiscard (addr : Nat) (groups : BitVec 4)
  | commitClrrej (addr : Nat)
  | blockClockBoundary (blockBase : Nat)
  -- modes and power (03)
  | pwrBudgetWrite (v : Word)
  | shipEntryDone (b : BootObs)
  | wakeTone (p : Port) (time : Nat := 0)
  | toneEnd (p : Port)
  | patrolCheck (o : PatrolObs)
  | clockFail (domain : Nat)
  -- windows and capture (04, 19)
  | integrationStart (mtick : Nat)
  | fastWindowBoundary (w : WinIn)
  | mark (v : Word)
  | burlError (addr : Nat) (writing : Bool)
  -- aux (05)
  | auxGo (d : Afe)
  | auxEnable (d : Afe) (en : Bool)
  | auxTriggerEvent (d : Afe) (src : AuxSrc)
  | auxPassStart (d : Afe)
  | auxDlyExpiry (d : Afe) (mtick : Nat := 0)
  | auxEntryComplete (d : Afe) (convs : List SarConv) (mtick : Nat := 0)
  | auxUrgGo (d : Afe) (sel input : Nat) (diag : Option (Nat × Nat) := none)
  | urgentResult (d : Afe) (c : SarConv) (mtick : Nat := 0)
  | plausibilitySlot (d : Afe) (convs : List SarConv)
  -- calibration (06)
  | calBegin (d : Afe) | calPointLo (d : Afe) | calPointHi (d : Afe) | calApply (d : Afe)
  | calRefresh (d : Afe) | calFactory (d : Afe) | calAbort (d : Afe)
  | calStepUnlisted (d : Afe) (code : Nat)
  | calPointTimeout (d : Afe) | calSessionTimeout (d : Afe)
  | calNvmStoreDone (d : Afe) (ok : Bool)
  -- balancing (07)
  | switchingPeriodEnd (b : Afe) (meters : List StageMeter) (mtick : Nat := 0) (busmV : Nat := 0)
  | bpdMeterInterval (b : Afe) (milliwatts : Nat) (tj : Int)
  | bpdOvertemp (b : Afe) (tj : Int)
  | bpdTempRecovered (b : Afe) (tj : Int)
  -- impedance and wiring (08, 09)
  | tapProbeEnd (meanmA : Int)
  | owdJreq (wire : Nat)
  -- comparators and Bezel (10)
  | comparatorInputCrossing (c : CmpId) (side : CrossSide)
  | comparatorTrip (c : CmpId) | comparatorRelease (c : CmpId)
  | bezelStartHeld (d : Afe)
  | bezelRowSup (d : Afe) | bezelRowRef (d : Afe) | bezelRowClk (d : Afe)
  | bezelLatchReset (d : Afe) | bezelTtrip (d : Afe)
  | bzlSave (d : Afe) | bzlSaveDone (d : Afe) (ok : Bool)
  | selftestSlot (d : Afe)
  | selftestSlotEnd (d : Afe) (failedStep : Option Nat)
  -- safety (11)
  | sdcEnable (en : Bool)
  | carrierPresent (time : Nat := 0)
  | sdcLatchReset (time : Nat := 0)
  | processorLatchReset (time : Nat := 0)
  | darkPulseStart (sw : SdcSw)
  | darkPulseEnd (sw : SdcSw) (offReached : Bool)
  | darkPulseReturnTimeout (sw : SdcSw) (onReached : Bool)
  | lineTestSpan (sw : SdcSw) (openLine : Bool) (joined : Bool := false)
  | sdcFaultClear (c : Chan)
  | gapCheck (pos : Nat) (arrived : Bool)
  | channelFaultClear (c : Chan)
  | sdcGraceWrite (v : Word)
  | sdcSaveDone (ok : Bool)
  | guardLoss (pos : Nat)
  | memScrub (o : ScrubObs)
  -- Spindle link (12)
  | linkWord (p : Port) (w : BitVec 16) (inv : Bool := false)
  | linkWordSend (p : Port)
  | preambleTimeout (p : Port)
  | legacyFrameTimeout (p : Port)
  | downSilenceEnd (p : Port)
  | trainingDone (p : Port) (preset eyeh eyev : Nat) (rxinv : Bool)
  | trainingFail (p : Port) (eyeh eyev : Nat)
  | hrRetryExpiry (p : Port)
  | syncHeaderErrors (p : Port) (n : Nat)
  | blockLockRegained (p : Port)
  | retrainTimeout (p : Port) (signal : Bool)
  | prtRetrn (p : Port) (far : Bool := false)
  | prtHrdis (p : Port) (v : Bool)
  | lineCheck (p : Port)
  | lineCheckDone (p : Port) (rtx rrx dtx drx : Nat)
  -- Spindle frames (13)
  | trip (p : Port) (w : Word64)
  | guard (p : Port) (w : Word64)
  | capreq (p : Port) (w : Word64)
  | capture (p : Port) (w : Word64)
  | credit (p : Port) (w : Word64)
  | creditInit (p : Port) (w : Word64)
  | creditSend (p : Port)
  | evack (p : Port) (w : Word64)
  | resetFrame (p : Port) (w : Word64)
  | enumerationFrame (p : Port) (w : Word64)
  | route (p : Port) (w : Word64)
  | sync (p : Port) (w : Word64)
  | noticeLinkdown (p : Port) (w : Word64)
  | noticeLinkup (p : Port) (w : Word64)
  | noticeWarmreset (p : Port) (w : Word64)
  | noticeUnnumbered (p : Port) (w : Word64)
  | noticeSynced (p : Port) (w : Word64)
  | enumans (p : Port) (w : Word64)
  | timingStamp (p : Port) (w : Word64) (rx tx : Nat)
  | timingReq (p : Port) (w : Word64) (rx : Nat)
  | timingResp (p : Port) (w : Word64)
  | timingInfo (p : Port) (w : Word64) (edge : Nat)
  | timingExchangeStart (p : Port) (tx : Nat)
  | commandRd (p : Port) (x : XFrame)
  | commandWr (p : Port) (x : XFrame)
  | commandWrl (p : Port) (x : XFrame)
  | commandRdm (p : Port) (x : XFrame)
  | commandBadOp (p : Port) (x : XFrame)
  | bcommand (p : Port) (x : XFrame)
  | response (p : Port) (x : XFrame)
  | responseTimeout (pos : Nat)
  | event (p : Port) (x : XFrame)
  | evackSend (pos : Nat)
  | eventGapTimeout (pos : Nat)
  | stream (p : Port) (x : XFrame)
  -- timebase (14)
  | ptmDialogue (srcNs tbUnits : Int)
  | ppsEdge (tbUnits : Int)
  | timeOfDayMessage (bytes : List Byte) (msSinceEdge : Nat)
  | tbTodWrite (lo hi : Word) (msSinceEdge : Nat)
  | tbSet (lo hi : Word)
  -- host (15)
  | pcieReset (k : PcieResetKind)
  | hifEnable (en : Bool) (speed width : Nat)
  | ringEnable (r : Nat) (v : Word)
  | ringDisable (r : Nat)
  | producerDoorbell (r : Nat) (v : Word)
  | consumerDoorbell (r : Nat) (v : Word)
  | heldCompletionDrain (q : Nat)
  | nop (r : Nat) (d : Desc)
  | rd (r : Nat) (d : Desc)
  | wr (r : Nat) (d : Desc)
  | wrl (r : Nat) (d : Desc)
  | rdm (r : Nat) (d : Desc)
  | commit (r : Nat) (d : Desc)
  | commitWaitPoll (r cid : Nat) (expired : Bool)
  | modereq (r : Nat) (d : Desc)
  | budget (r : Nat) (d : Desc)
  | plan (r : Nat) (d : Desc)
  | sweep (r : Nat) (d : Desc)
  | calstep (r : Nat) (d : Desc)
  | bind (r : Nat) (d : Desc)
  | bindTimeout (cid : Nat)
  | unbind (r : Nat) (d : Desc)
  | enum (r : Nat) (d : Desc)
  | interruptCoalesceTimer (r : Nat)
  | dmaError (r cid : Nat) (addr : Nat)
  -- Beadline (16)
  | bdlSearch (lines : BitVec 2)
  | autoSearch (l : Nat)
  | bdlFrameEnd (l : Nat) (rep : BdlReply)
  | bdlWaitEnd (l : Nat)
  | bdlScheduleFrame (l : Nat)
  | bdlXctlGo (v : Word)
  | bdlSpuFault (l : Nat)
  | bdlShort (l : Nat)
  | bdlLineEnable (l : Nat) (en : Bool)
  -- I²C (17)
  | iicClrstk (o : IicBusObs)
  | iicCenWrite (o : IicBusObs)
  | iicTransferEnd (e : IicEnd)
  | arbitrationLost (bit : Nat) (read : List Byte) (a : IicAddressed)
  | iicStretchTimeout (acked : Nat) (read : List Byte) (o : IicBusObs)
  | iicTargetRx (bytes : List Byte)
  | iicTargetRead (n : Nat)
  | iicTodaWrite (bytes : List Byte) (msSinceEdge : Nat)
  | iicTargetTimeout (addr : Nat)
  -- CRC (18)
  | crcData (c : Nat) (v : Word)
  | crcInit (c : Nat)
  | crcCtxWrite (c : Nat) (v : Word)
  | crcValWrite (c : Nat) (v : Word)
  -- recorder, self-test, life-cycle, firmware (19)
  | rcdProt (mask : BitVec 12)
  | rcdUnprot (mask : BitVec 12)
  | rcdEraseSlot (mask : BitVec 12)
  | bistBankDone (o : BistObs)
  | bstGo (pllLocked vcoreOk : Bool)
  | lcsReq (target : Nat)
  | lcsResp (v : Word) (sigOk : Bool)
  | fuseBurnDone (ok : Bool)
  | fwOperationDone (o : FwObs)
  | fwAct (rst : Bool)
  -- legacy (20)
  | setaddr (p : Port) (w : BitVec 48)
  | legacyWr (p : Port) (w : BitVec 48)
  | legacyRd (p : Port) (w : BitVec 48)
  | ovthUvthWrite (p : Port) (w : BitVec 48)
  | disch (p : Port) (w : BitVec 48)
  | clear (p : Port) (w : BitVec 48)
  | convert (p : Port) (w : BitVec 48)
  | legacyReset (p : Port) (w : BitVec 48)
  | legDto (v : Nat)
  | legChain (p : Port) (answers : Nat)
  | legacyResponse (w : BitVec 48)
  -- the rest
  | readClear (addr : Nat)
  | vstkCrossing (above : Bool)
  | pmStateChange (d3hot : Bool)
  | bezelRowRelease (d : Afe) (row : Nat)
  | calReadingEnd (d : Afe) (codes : List Int)
  -- without operands
  -- reset (02, 03, 21)
  | watchdogExpiry | drstWarm | drstPhyn | drstPhys | drstBpdl | drstBpdu | drstBurl
  -- registers and commit (02)
  | tbNowlRead
  -- modes and power (03)
  | enterShip | enterProvision | leaveProvision | holdExpiry | modeTransitionDone | wakePin
  -- windows and capture (04, 19)
  | blockFormation | captureForce | snapshotCopyDone | captureThaw
  -- balancing (07)
  | balStart | balStop
  -- impedance and wiring (08, 09)
  | impArm | impAbort
  -- comparators and Bezel (10)
  | comparatorsValid | xbCrossingLost
  -- safety (11)
  | keepAliveLoss | carrierLoss | gapSlot | graceTimerExpiry
  | sdcSave | guardFrameSend | tripRepeat
  -- Spindle frames (13)
  | eventResend | spnEnumGo | enumStart | enumSweepTimeout | ringCheckWaitExpiry | unnumberedNoticeSend
  -- timebase (14)
  | ptmLoss | ppsLoss | tbStep | holdoverEnd
  -- host (15)
  | eventQueueDrain
  -- I²C (17)
  | iicGo | iicBusIdle | iicRetry
  -- recorder, self-test, life-cycle, firmware (19)
  | rcdEraseHist | bistBackground | bstAbort | vcoreOutOfWindow | bstRepair | bstRetire | authTimeout | fwErase
  | fwProg | fwVerify | fwActResetStart | fwConfirm | fwTrialExpiry | fwLegSave
  -- legacy (20)
  | legacyIdleSend | fwLpxcGo | lpxTimeout
  -- the rest
  | linkL2Entry | iicMoveWaitTto
  deriving DecidableEq, Repr

end Sys2Proof
end

