-- ==== Sys2Proof/Decode.lean ====
section
/-!
DEFINITION. The command that a word spells by the bits of the opcode table.
-/

namespace Sys2Proof

/-- No row of the opcode table gives bits: the part takes commands as pins, frames, register accesses and descriptors, and
no word spells one. -/
def decodeTableWord (_nbits _w : Nat) : Option Instr := none

end Sys2Proof
end

