-- ==== Sys2Proof/Machine/Bytes.lean ====
section
/-!
DEFINITION. Byte order, bit fields of a word, and the cyclic redundancy checks of the part (R323, R325, R327, R331,
R376): every multi-byte field of the part is little-endian.
-/

namespace Sys2Proof.Machine

/-- `n` bytes of a number, least significant first. -/
def leBytes : Nat → Nat → List Byte
  | 0, _ => []
  | n + 1, v => BitVec.ofNat 8 v :: leBytes n (v / 256)

/-- The number that bytes spell, least significant first. -/
def leNat : List Byte → Nat
  | [] => 0
  | b :: bs => b.toNat + 256 * leNat bs

/-- The bytes `[i, i + n)` of a list, zero past its end. -/
def bytesAt (bs : List Byte) (i n : Nat) : List Byte :=
  let t := (bs.drop i).take n
  t ++ List.replicate (n - t.length) 0

/-- Bits `hi` to `lo` of a number. -/
def bitsNat (v hi lo : Nat) : Nat := v / 2 ^ lo % 2 ^ (hi + 1 - lo)

/-- Bits `hi` to `lo` of a word. -/
def bitsOf {n : Nat} (w : BitVec n) (hi lo : Nat) : Nat := bitsNat w.toNat hi lo

/-- A number with bits `hi` to `lo` replaced. -/
def setNat (n hi lo v : Nat) : Nat :=
  n % 2 ^ lo + 2 ^ lo * (v % 2 ^ (hi + 1 - lo)) + 2 ^ (hi + 1) * (n / 2 ^ (hi + 1))

/-- A word with bits `hi` to `lo` replaced. -/
def setBits (w : Word) (hi lo v : Nat) : Word := BitVec.ofNat 32 (setNat w.toNat hi lo v)

/-- The 32-bit words that bytes spell, little-endian, the last one padded with zero bytes; `n` words. -/
def wordsOf : Nat → List Byte → List Word
  | 0, _ => []
  | n + 1, bs => BitVec.ofNat 32 (leNat (bs.take 4)) :: wordsOf n (bs.drop 4)

/-- The bytes of words, little-endian. -/
def wordBytes (ws : List Word) : List Byte := ws.flatMap (fun w => leBytes 4 w.toNat)

/-- One bit of a CRC shifted out at the most significant end. -/
def crcMsbStep {n : Nat} (poly : BitVec n) (c : BitVec n) : BitVec n :=
  if c.msb then (c <<< 1) ^^^ poly else c <<< 1

/-- One bit of a reflected CRC shifted out at the least significant end; `poly` is the reflected polynomial. -/
def crcLsbStep {n : Nat} (poly : BitVec n) (c : BitVec n) : BitVec n :=
  if c.getLsbD 0 then (c >>> 1) ^^^ poly else c >>> 1

/-- `k` steps of a shift. -/
def iterate {α : Type} (f : α → α) : Nat → α → α
  | 0, a => a
  | k + 1, a => iterate f k (f a)

/-- One byte into a CRC of the most-significant-bit-first kind. -/
def crcMsbByte {n : Nat} (poly : BitVec n) (c : BitVec n) (b : Byte) : BitVec n :=
  iterate (crcMsbStep poly) 8 (c ^^^ (b.zeroExtend n <<< (n - 8)))

/-- One byte into a reflected CRC. -/
def crcLsbByte {n : Nat} (poly : BitVec n) (c : BitVec n) (b : Byte) : BitVec n :=
  iterate (crcLsbStep poly) 8 (c ^^^ b.zeroExtend n)

/-- CRC-16/CCITT (R327). -/
def crc16 (bs : List Byte) : BitVec 16 := bs.foldl (crcMsbByte 0x1021#16) 0xFFFF#16

/-- CRC-32C (R331): polynomial 0x1EDC6F41 reflected, initial value all ones, final value inverted. -/
def crc32c (bs : List Byte) : BitVec 32 := ~~~ (bs.foldl (crcLsbByte 0x82F63B78#32) 0xFFFFFFFF#32)

/-- CRC-8 with polynomial 0x2F and initial value 0xFF (Table 14-3). -/
def crc8 (bs : List Byte) : BitVec 8 := bs.foldl (crcMsbByte 0x2F#8) 0xFF#8

end Sys2Proof.Machine
end

