-- ==== Sys2Proof/Config.lean ====
section
/-!
DEFINITION. What one part fixes and the specification does not say: the free values. Each is a constant without a
body, so no proof can see it. Every one has a row of the assumption log.
-/

namespace Sys2Proof.Config

/-- The PCI vendor identifier, HIF_ID.VID, whose reset value the manual gives only as fixed (log 9). -/
opaque vendorId : BitVec 16

/-- The 64-bit unique identifier of the part; its low 16 bits are the HID of a head (R324, R390; log 9). -/
opaque uid : BitVec 64

/-- The number by which the payload of an event, or a status that no table numbers, names a cause or a kind that no
table numbers: by the event code and a plain name of the cause (log 24). -/
opaque eventCause : Nat → Nat → BitVec 32

/-- What a converter had gathered in a window that a stop of integration cuts short: by draw and channel (log 30). -/
opaque partialIntegral : Nat → Nat → Int

/-- The impedance, in nΩ, that a span gives when no current flowed at the bin: a quotient by zero (log 31). -/
opaque zeroCurrentZ : Nat → Int × Int

/-- How many bytes of a snapshot a Burl slot holds whose writing was broken off: by draw (log 32). -/
opaque burlWritten : Nat → Nat

/-- How many of the physical fuses of a logical fuse a burn that failed or was broken off has burned: by draw, taken
modulo 4 (log 33). -/
opaque fuseBurned : Nat → Nat

/-- What the part finds at a write whose command does not say it: the levels of a bus clear (0 to 2), the PLL, VCORE and
a signature (3 to 5), the speed and width of the link (6, 7), the milliseconds since the last PPS edge (8); by draw
and number (log 35). -/
opaque observed : Nat → Nat → Nat

/-- The nonce of an authentication window (R500): by draw (log 34). -/
opaque lcsNonce : Nat → BitVec 128

/-- The charge, in 2⁻¹⁶ nAh, to which the ledger refers an energy when the mean voltage it divides by has no value: by
draw (log 123). -/
opaque referredCharge : Nat → Nat

/-- Whether the links of a member's route beyond its own head-side link all run at the high rate, by way and time: no command
tells a member (R326, log 23). -/
opaque restHr : Nat → Nat → Bool

end Sys2Proof.Config
end

