-- ==== Sys2Proof/Machine/RegMap.lean ====
section
/-!
DEFINITION. The register map: the die windows and block offsets of Tables 2-1 and 2-2, one row per register of the
register tables (offset, array, and for each field its bits, access, staged group and reset value), and one handle
per field, named REGISTER_FIELD, that the meanings use.
-/

namespace Sys2Proof.Machine

/-- The access types and classes of Table 0-3 that the register tables use; `rwS g` is staged in group `g`. -/
inductive Acc where | ro | rc | w1s | wo | w1c | rwL | rwK | rwS (g : Nat)
  deriving DecidableEq, Repr

/-- One field of a register: its bits, its access and its value after a power-on reset (R7). -/
structure FieldSpec where
  hi  : Nat
  lo  : Nat
  acc : Acc
  rst : Nat
  deriving DecidableEq, Repr

/-- One register, or an array of `count` registers `stride` bytes apart, at a block offset. -/
structure RegRow where
  off    : Nat
  stride : Nat
  count  : Nat
  fields : List FieldSpec
  deriving DecidableEq, Repr

/-- The register blocks of Table 2-2. -/
inductive Blk where
  | sys | pwr | clk | tb | hif | spn | crc | iic | bdl | imp | bal | lcs | bst | fw
  | cvw | aux | cal | cmp | bzl | owd | sdc | grd | prt | bps | rcd
  deriving DecidableEq, Repr

/-- A field of a register at a local address. -/
structure Fld where
  addr : Nat
  hi   : Nat
  lo   : Nat
  deriving DecidableEq, Repr

/-- Window base of an AFE die (Table 1-1). -/
def afeBase : Afe → Nat | .L => 0x400000 | .U => 0x500000

/-- Window base of a BPD die (Table 1-1). -/
def bpsBase : Afe → Nat | .L => 0x700000 | .U => 0x780000

/-- Window base of a PHY die (Table 1-1). -/
def prtBase : Port → Nat | .north => 0x600000 | .south => 0x680000

/-- The die whose window holds an address (Table 2-1), with the window's base; `none` outside every window (R24). -/
def dieOf (a : Nat) : Option (Die × Nat) :=
  if a < 0x100000 then some (.core, 0)
  else if 0x400000 ≤ a ∧ a < 0x500000 then some (.afeL, 0x400000)
  else if 0x500000 ≤ a ∧ a < 0x600000 then some (.afeU, 0x500000)
  else if 0x600000 ≤ a ∧ a < 0x680000 then some (.phyN, 0x600000)
  else if 0x680000 ≤ a ∧ a < 0x700000 then some (.phyS, 0x680000)
  else if 0x700000 ≤ a ∧ a < 0x780000 then some (.bpdL, 0x700000)
  else if 0x780000 ≤ a ∧ a < 0x800000 then some (.bpdU, 0x780000)
  else if 0x800000 ≤ a ∧ a < 0x900000 then some (.burl, 0x800000)
  else none

/-- The block at an offset of a die's window, with the block's offset (Table 2-2). -/
def blkOf (d : Die) (o : Nat) : Option (Blk × Nat) :=
  match d with
  | .core =>
    match o / 0x4000 with
    | 0 => some (.sys, 0) | 1 => some (.pwr, 0x4000) | 2 => some (.clk, 0x8000) | 3 => some (.tb, 0xC000)
    | 4 => some (.hif, 0x10000) | 5 => some (.spn, 0x14000) | 6 => some (.crc, 0x18000)
    | 7 => some (.iic, 0x1C000) | 8 => some (.bdl, 0x20000) | 9 => some (.imp, 0x24000)
    | 10 => some (.bal, 0x28000) | 11 => some (.lcs, 0x2C000) | 12 => some (.bst, 0x30000)
    | 13 => some (.fw, 0x34000) | _ => none
  | .afeL | .afeU =>
    match o / 0x1000 with
    | 0 => some (.cvw, 0) | 1 => some (.aux, 0x1000) | 2 => some (.cal, 0x2000) | 3 => some (.cmp, 0x3000)
    | 4 => some (.bzl, 0x4000) | 5 => some (.owd, 0x5000) | 6 => some (.sdc, 0x6000)
    | 7 => some (.grd, 0x7000) | _ => none
  | .phyN | .phyS => if o < 0x1000 then some (.prt, 0) else none
  | .bpdL | .bpdU => if o < 0x1000 then some (.bps, 0) else none
  | .burl => if o < 0x1000 then some (.rcd, 0) else none

/-- The registers of block SYS: the register tables of 01_architecture.md, 02_configuration_model.md. -/
def rowsSys : List RegRow := [
  -- SYS_STAT
  ⟨0x0, 0, 1, [⟨0, 0, .ro, 0⟩]⟩,
  -- SYS_SVIOL
  ⟨0x40, 0, 1, [⟨31, 24, .rc, 0⟩, ⟨23, 0, .ro, 0⟩]⟩,
  -- SYS_RSTCAUSE
  ⟨0x44, 0, 1, [⟨7, 0, .ro, 1⟩]⟩,
  -- SYS_DRST
  ⟨0x48, 0, 1, [⟨7, 7, .w1s, 0⟩, ⟨4, 4, .w1s, 0⟩, ⟨3, 3, .w1s, 0⟩, ⟨2, 2, .w1s, 0⟩, ⟨1, 1, .w1s, 0⟩, ⟨0, 0, .w1s, 0⟩]⟩]

/-- The registers of block PWR: the register tables of 03_modes_power_clocks.md. -/
def rowsPwr : List RegRow := [
  -- PWR_REQ
  ⟨0x0, 0, 1, [⟨2, 0, .wo, 0⟩]⟩,
  -- PWR_BUDGET
  ⟨0x4, 0, 1, [⟨31, 24, .rwL, 10⟩, ⟨17, 16, .rwL, 2⟩, ⟨15, 0, .rwL, 0⟩]⟩,
  -- PWR_STAT
  ⟨0x8, 0, 1, [⟨23, 20, .ro, 4⟩, ⟨16, 16, .rc, 0⟩, ⟨11, 10, .ro, 0⟩, ⟨9, 9, .ro, 0⟩, ⟨7, 4, .ro, 4⟩, ⟨3, 0, .ro, 4⟩]⟩,
  -- PWR_PATROL
  ⟨0xc, 0, 1, [⟨20, 20, .rwL, 1⟩, ⟨17, 16, .rwL, 1⟩, ⟨12, 12, .rwL, 1⟩, ⟨9, 0, .rwL, 10⟩]⟩,
  -- PWR_PBAND
  ⟨0x10, 0, 1, [⟨25, 16, (.rwS 0), 650⟩, ⟨9, 0, (.rwS 0), 300⟩]⟩,
  -- PWR_PSTAT
  ⟨0x14, 0, 1, [⟨23, 22, .ro, 0⟩, ⟨21, 16, .ro, 0⟩, ⟨15, 0, .ro, 0⟩]⟩]

/-- The registers of block CLK: the register tables of 03_modes_power_clocks.md. -/
def rowsClk : List RegRow := [
  -- CLK_STAT
  ⟨0x0, 0, 1, [⟨14, 0, .ro, 3⟩]⟩,
  -- CLK_FAIL
  ⟨0x4, 0, 1, [⟨14, 0, .w1c, 0⟩]⟩]

/-- The registers of block TB: the register tables of 14_timebase.md. -/
def rowsTb : List RegRow := [
  -- TB_CFG
  ⟨0x0, 0, 1, [⟨31, 24, (.rwS 0), 50⟩, ⟨23, 16, (.rwS 0), 16⟩, ⟨15, 8, (.rwS 0), 100⟩, ⟨7, 4, (.rwS 0), 1⟩, ⟨2, 0, (.rwS 0), 1⟩]⟩,
  -- TB_PTMOFSL
  ⟨0x4, 0, 1, [⟨31, 0, (.rwS 0), 0⟩]⟩,
  -- TB_PTMOFSH
  ⟨0x8, 0, 1, [⟨31, 0, (.rwS 0), 0⟩]⟩,
  -- TB_HOLD
  ⟨0xc, 0, 1, [⟨31, 16, (.rwS 0), 3600⟩, ⟨15, 0, (.rwS 0), 10⟩]⟩,
  -- TB_SETL
  ⟨0x10, 0, 1, [⟨31, 0, .wo, 0⟩]⟩,
  -- TB_SETH
  ⟨0x14, 0, 1, [⟨31, 0, .wo, 0⟩]⟩,
  -- TB_ASYM
  ⟨0x18, 0, 1, [⟨31, 16, (.rwS 0), 0⟩, ⟨15, 0, (.rwS 0), 0⟩]⟩,
  -- TB_TODL
  ⟨0x1c, 0, 1, [⟨31, 0, .wo, 0⟩]⟩,
  -- TB_STAT
  ⟨0x20, 0, 1, [⟨31, 30, .ro, 0⟩, ⟨29, 29, .ro, 0⟩, ⟨28, 28, .ro, 0⟩, ⟨27, 26, .ro, 0⟩, ⟨25, 25, .ro, 0⟩, ⟨24, 19, .ro, 0⟩, ⟨15, 0, .ro, 0⟩]⟩,
  -- TB_ERR
  ⟨0x24, 0, 1, [⟨31, 0, .ro, 0⟩]⟩,
  -- TB_DLYN
  ⟨0x28, 0, 1, [⟨31, 0, .ro, 0⟩]⟩,
  -- TB_DLYS
  ⟨0x2c, 0, 1, [⟨31, 0, .ro, 0⟩]⟩,
  -- TB_NOWL
  ⟨0x30, 0, 1, [⟨31, 0, .ro, 0⟩]⟩,
  -- TB_NOWH
  ⟨0x34, 0, 1, [⟨31, 0, .ro, 0⟩]⟩,
  -- TB_NOWF
  ⟨0x38, 0, 1, [⟨31, 16, .ro, 0⟩]⟩,
  -- TB_TODH
  ⟨0x3c, 0, 1, [⟨31, 0, .wo, 0⟩]⟩]

/-- The registers of block HIF: the register tables of 15_host_rings.md. -/
def rowsHif : List RegRow := [
  -- HIF_CTRL
  ⟨0x0, 0, 1, [⟨0, 0, .rwL, 0⟩]⟩,
  -- HIF_STAT
  ⟨0x4, 0, 1, [⟨31, 31, .ro, 0⟩, ⟨30, 30, .rc, 0⟩, ⟨29, 29, .rc, 0⟩, ⟨28, 28, .rc, 0⟩, ⟨27, 27, .rc, 0⟩, ⟨15, 0, .ro, 0⟩]⟩,
  -- HIF_LINK
  ⟨0x8, 0, 1, [⟨9, 9, .ro, 0⟩, ⟨8, 8, .ro, 0⟩, ⟨7, 4, .ro, 0⟩, ⟨3, 0, .ro, 0⟩]⟩,
  -- HIF_WBL
  ⟨0x10, 0, 1, [⟨31, 9, .rwK, 0⟩]⟩,
  -- HIF_WBH
  ⟨0x14, 0, 1, [⟨31, 0, .rwK, 0⟩]⟩,
  -- HIF_MEM
  ⟨0x18, 0, 1, [⟨10, 0, .ro, 0⟩]⟩,
  -- HIF_ID
  ⟨0x1c, 0, 1, [⟨31, 16, .ro, 0⟩, ⟨15, 0, .ro, 13952⟩]⟩,
  -- HIF_RBASEL
  ⟨0x100, 16, 34, [⟨31, 12, .rwK, 0⟩]⟩,
  -- HIF_RBASEH
  ⟨0x104, 16, 34, [⟨31, 0, .rwK, 0⟩]⟩,
  -- HIF_RCFG
  ⟨0x108, 16, 34, [⟨31, 31, .rwL, 0⟩, ⟨30, 30, .ro, 0⟩, ⟨20, 16, .rwK, 0⟩, ⟨4, 0, .rwK, 0⟩]⟩,
  -- HIF_RIRQ
  ⟨0x10c, 16, 34, [⟨31, 16, .rwL, 0⟩, ⟨15, 0, .rwL, 0⟩]⟩,
  -- HIF_SBML
  ⟨0x400, 16, 16, [⟨31, 0, .ro, 0⟩]⟩,
  -- HIF_SBMH
  ⟨0x404, 16, 16, [⟨31, 0, .ro, 0⟩]⟩,
  -- HIF_SBST
  ⟨0x408, 16, 16, [⟨31, 31, .ro, 0⟩, ⟨30, 30, .ro, 0⟩, ⟨25, 16, .ro, 0⟩, ⟨7, 4, .ro, 0⟩, ⟨0, 0, .ro, 0⟩]⟩]

/-- The registers of block SPN: the register tables of 12_spindle_link.md, 13_spindle_frames.md. -/
def rowsSpn : List RegRow := [
  -- SPN_POS
  ⟨0x0, 0, 1, [⟨31, 31, .ro, 0⟩, ⟨30, 30, .ro, 0⟩, ⟨29, 24, .ro, 0⟩, ⟨23, 16, .ro, 0⟩, ⟨15, 0, .ro, 0⟩]⟩,
  -- SPN_ROUTE
  ⟨0x4, 0, 1, [⟨2, 2, .ro, 0⟩, ⟨1, 1, .ro, 0⟩, ⟨0, 0, .ro, 0⟩]⟩,
  -- SPN_ENUM
  ⟨0x8, 0, 1, [⟨31, 31, .w1s, 0⟩, ⟨30, 30, .ro, 0⟩, ⟨29, 29, .ro, 0⟩, ⟨23, 16, .ro, 0⟩, ⟨13, 8, .ro, 0⟩, ⟨5, 0, .ro, 0⟩]⟩,
  -- SPN_RING
  ⟨0xc, 0, 1, [⟨31, 31, .ro, 0⟩, ⟨30, 30, .ro, 0⟩, ⟨21, 16, .ro, 0⟩, ⟨13, 8, .ro, 0⟩, ⟨7, 0, .ro, 0⟩]⟩,
  -- SPN_MAPL
  ⟨0x10, 0, 1, [⟨31, 0, .ro, 0⟩]⟩,
  -- SPN_MAPH
  ⟨0x14, 0, 1, [⟨31, 0, .ro, 0⟩]⟩,
  -- SPN_LOSTL
  ⟨0x18, 0, 1, [⟨31, 0, .ro, 0⟩]⟩,
  -- SPN_LOSTH
  ⟨0x1c, 0, 1, [⟨31, 0, .ro, 0⟩]⟩,
  -- SPN_UNNUM
  ⟨0x20, 0, 1, [⟨31, 16, .ro, 0⟩, ⟨7, 0, .ro, 0⟩]⟩,
  -- SPN_RCFG
  ⟨0x24, 0, 1, [⟨31, 24, .rwL, 50⟩, ⟨23, 16, .rwL, 20⟩, ⟨3, 0, .rwL, 3⟩]⟩,
  -- SPN_CMD
  ⟨0x28, 0, 1, [⟨31, 16, .ro, 0⟩, ⟨0, 0, .ro, 0⟩]⟩,
  -- SPN_EVQ
  ⟨0x2c, 0, 1, [⟨31, 16, .rc, 0⟩, ⟨7, 0, .ro, 0⟩]⟩,
  -- SPN_DISC
  ⟨0x30, 0, 1, [⟨31, 16, .rc, 0⟩, ⟨15, 0, .rc, 0⟩]⟩,
  -- SPN_ALIVE
  ⟨0x34, 0, 1, [⟨15, 0, .rc, 0⟩]⟩,
  -- SPN_PORTN
  ⟨0x40, 0, 1, [⟨31, 16, .ro, 0⟩, ⟨15, 8, .ro, 0⟩, ⟨7, 7, .ro, 0⟩, ⟨6, 6, .ro, 0⟩, ⟨5, 5, .ro, 0⟩, ⟨4, 4, .ro, 0⟩, ⟨2, 0, .ro, 1⟩]⟩,
  -- SPN_PORTS
  ⟨0x44, 0, 1, [⟨31, 16, .ro, 0⟩, ⟨15, 8, .ro, 0⟩, ⟨7, 7, .ro, 0⟩, ⟨6, 6, .ro, 0⟩, ⟨5, 5, .ro, 0⟩, ⟨4, 4, .ro, 0⟩, ⟨2, 0, .ro, 1⟩]⟩,
  -- SPN_TONE
  ⟨0x48, 0, 1, [⟨31, 16, .ro, 0⟩, ⟨15, 0, .ro, 0⟩]⟩,
  -- SPN_ERRN
  ⟨0x50, 0, 1, [⟨31, 16, .rc, 0⟩, ⟨15, 0, .rc, 0⟩]⟩,
  -- SPN_ERRS
  ⟨0x54, 0, 1, [⟨31, 16, .rc, 0⟩, ⟨15, 0, .rc, 0⟩]⟩,
  -- SPN_CREDN
  ⟨0x58, 0, 1, [⟨31, 31, .ro, 0⟩, ⟨27, 16, .ro, 0⟩, ⟨15, 8, .ro, 0⟩, ⟨7, 0, .ro, 0⟩]⟩,
  -- SPN_CREDS
  ⟨0x5c, 0, 1, [⟨31, 31, .ro, 0⟩, ⟨27, 16, .ro, 0⟩, ⟨15, 8, .ro, 0⟩, ⟨7, 0, .ro, 0⟩]⟩,
  -- SPN_RORD
  ⟨0x100, 4, 16, [⟨31, 0, .ro, 4294967295⟩]⟩]

/-- The registers of block CRC: the register tables of 18_crc_unit.md. -/
def rowsCrc : List RegRow := [
  -- CRC_CTX
  ⟨0x0, 32, 4, [⟨9, 9, .w1s, 0⟩, ⟨8, 8, .rwL, 0⟩, ⟨5, 4, .rwL, 2⟩, ⟨3, 2, .rwL, 0⟩, ⟨1, 0, .rwL, 3⟩]⟩,
  -- CRC_DATA
  ⟨0x4, 32, 4, [⟨31, 0, .wo, 0⟩]⟩,
  -- CRC_VAL
  ⟨0x8, 32, 4, [⟨31, 0, .rwL, 4294967295⟩]⟩,
  -- CRC_RES
  ⟨0xc, 32, 4, [⟨31, 0, .ro, 0⟩]⟩,
  -- CRC_CNT
  ⟨0x10, 32, 4, [⟨31, 0, .ro, 0⟩]⟩,
  -- CRC_STAT
  ⟨0x80, 0, 1, [⟨3, 0, .w1c, 0⟩]⟩]

/-- The registers of block IIC: the register tables of 17_i2c_port.md. -/
def rowsIic : List RegRow := [
  -- IIC_CFG
  ⟨0x0, 0, 1, [⟨31, 24, .rwK, 25⟩, ⟨23, 20, .rwK, 3⟩, ⟨15, 8, .rwK, 25⟩, ⟨7, 2, .rwK, 10⟩, ⟨1, 1, .rwK, 0⟩, ⟨0, 0, .rwK, 1⟩]⟩,
  -- IIC_TIM1
  ⟨0x4, 0, 1, [⟨31, 16, .rwK, 205⟩, ⟨15, 0, .rwK, 240⟩]⟩,
  -- IIC_TIM2
  ⟨0x8, 0, 1, [⟨31, 16, .rwK, 240⟩, ⟨15, 0, .rwK, 205⟩]⟩,
  -- IIC_TIM3
  ⟨0xc, 0, 1, [⟨31, 16, .rwK, 240⟩, ⟨15, 0, .rwK, 205⟩]⟩,
  -- IIC_TIM4
  ⟨0x10, 0, 1, [⟨7, 0, .rwK, 15⟩]⟩,
  -- IIC_TADR
  ⟨0x14, 0, 1, [⟨22, 16, .rwK, 44⟩, ⟨6, 0, .rwK, 58⟩]⟩,
  -- IIC_CTRL
  ⟨0x18, 0, 1, [⟨1, 1, .w1s, 0⟩, ⟨0, 0, .w1s, 0⟩]⟩,
  -- IIC_XCTL
  ⟨0x1c, 0, 1, [⟨31, 31, .rwL, 0⟩, ⟨25, 16, .rwL, 0⟩, ⟨15, 8, .rwL, 0⟩, ⟨7, 0, .rwL, 0⟩]⟩,
  -- IIC_STAT
  ⟨0x20, 0, 1, [⟨31, 31, .ro, 0⟩, ⟨30, 30, .ro, 0⟩, ⟨29, 29, .ro, 0⟩, ⟨28, 28, .ro, 0⟩, ⟨27, 16, .ro, 0⟩, ⟨15, 15, .rc, 0⟩, ⟨11, 8, .ro, 0⟩, ⟨7, 0, .ro, 0⟩]⟩,
  -- IIC_CNT
  ⟨0x24, 0, 1, [⟨31, 16, .rc, 0⟩, ⟨15, 0, .rc, 0⟩]⟩,
  -- IIC_TSTAT
  ⟨0x28, 0, 1, [⟨31, 31, .rc, 0⟩, ⟨30, 30, .rc, 0⟩, ⟨6, 0, .ro, 0⟩]⟩,
  -- IIC_TTXL
  ⟨0x2c, 0, 1, [⟨6, 0, .rwL, 0⟩]⟩,
  -- IIC_XBUF
  ⟨0x100, 4, 16, [⟨31, 0, .rwL, 0⟩]⟩,
  -- IIC_TRX
  ⟨0x200, 4, 16, [⟨31, 0, .ro, 0⟩]⟩,
  -- IIC_TTX
  ⟨0x300, 4, 16, [⟨31, 0, .rwL, 0⟩]⟩]

/-- The registers of block BDL: the register tables of 16_beadline.md. -/
def rowsBdl : List RegRow := [
  -- BDL_CFG
  ⟨0x0, 0, 1, [⟨11, 8, .rwL, 3⟩, ⟨5, 4, .rwL, 3⟩, ⟨1, 0, .rwL, 3⟩]⟩,
  -- BDL_CTRL
  ⟨0x4, 0, 1, [⟨1, 0, .w1s, 0⟩]⟩,
  -- BDL_XCTL
  ⟨0x8, 0, 1, [⟨31, 31, .w1s, 0⟩, ⟨24, 24, .rwL, 0⟩, ⟨20, 16, .rwL, 0⟩, ⟨13, 8, .rwL, 1⟩, ⟨7, 0, .rwL, 0⟩]⟩,
  -- BDL_XRES
  ⟨0xc, 0, 1, [⟨31, 31, .rc, 0⟩, ⟨30, 30, .rc, 0⟩, ⟨29, 28, .ro, 0⟩, ⟨27, 24, .ro, 0⟩, ⟨15, 0, .ro, 0⟩]⟩,
  -- BDL_IDV0
  ⟨0x10, 0, 1, [⟨31, 0, .ro, 0⟩]⟩,
  -- BDL_IDV1
  ⟨0x14, 0, 1, [⟨31, 0, .ro, 0⟩]⟩,
  -- BDL_SCH
  ⟨0x40, 32, 2, [⟨31, 31, (.rwS 0), 0⟩, ⟨30, 30, (.rwS 0), 1⟩, ⟨23, 16, (.rwS 0), 50⟩, ⟨15, 0, (.rwS 0), 0⟩]⟩,
  -- BDL_SCODE
  ⟨0x44, 32, 2, [⟨27, 24, (.rwS 0), 7⟩, ⟨19, 16, (.rwS 0), 0⟩, ⟨11, 8, (.rwS 0), 1⟩, ⟨7, 0, (.rwS 0), 10⟩]⟩,
  -- BDL_RMASK
  ⟨0x48, 32, 2, [⟨31, 0, (.rwS 0), 4294967295⟩]⟩,
  -- BDL_R2MASK
  ⟨0x4c, 32, 2, [⟨31, 0, (.rwS 0), 0⟩]⟩,
  -- BDL_LSTAT
  ⟨0x50, 32, 2, [⟨31, 31, .ro, 0⟩, ⟨30, 30, .ro, 0⟩, ⟨29, 29, .ro, 0⟩, ⟨28, 28, .ro, 0⟩, ⟨27, 27, .ro, 0⟩, ⟨26, 26, .ro, 0⟩, ⟨25, 25, .rc, 0⟩, ⟨21, 16, .ro, 0⟩, ⟨15, 8, .rc, 0⟩, ⟨7, 0, .ro, 0⟩]⟩,
  -- BDL_ROSTER
  ⟨0x54, 32, 2, [⟨31, 0, .ro, 0⟩]⟩,
  -- BDL_FAILED
  ⟨0x58, 32, 2, [⟨31, 0, .ro, 0⟩]⟩,
  -- BDL_FSEQ
  ⟨0x5c, 32, 2, [⟨31, 0, .ro, 0⟩]⟩,
  -- BDL_RES
  ⟨0x100, 4, 64, [⟨31, 31, .ro, 0⟩, ⟨30, 30, .ro, 0⟩, ⟨29, 29, .ro, 0⟩, ⟨28, 28, .ro, 0⟩, ⟨27, 24, .ro, 0⟩, ⟨15, 0, .ro, 0⟩]⟩,
  -- BDL_RES2
  ⟨0x200, 4, 64, [⟨31, 31, .ro, 0⟩, ⟨30, 30, .ro, 0⟩, ⟨29, 29, .ro, 0⟩, ⟨28, 28, .ro, 0⟩, ⟨27, 24, .ro, 0⟩, ⟨15, 0, .ro, 0⟩]⟩,
  -- BDL_IDL
  ⟨0x300, 8, 64, [⟨31, 16, .ro, 0⟩, ⟨15, 12, .ro, 0⟩, ⟨11, 8, .ro, 0⟩, ⟨7, 0, .ro, 0⟩]⟩,
  -- BDL_IDH
  ⟨0x304, 8, 64, [⟨31, 0, .ro, 0⟩]⟩]

/-- The registers of block IMP: the register tables of 08_impedance.md. -/
def rowsImp : List RegRow := [
  -- IMP_CTRL
  ⟨0x0, 0, 1, [⟨1, 1, .w1s, 0⟩, ⟨0, 0, .w1s, 0⟩]⟩,
  -- IMP_CFG
  ⟨0x4, 0, 1, [⟨31, 31, (.rwS 0), 0⟩, ⟨29, 28, (.rwS 0), 0⟩, ⟨27, 27, (.rwS 0), 0⟩, ⟨24, 24, (.rwS 0), 0⟩, ⟨0, 0, (.rwS 0), 1⟩]⟩,
  -- IMP_STARTL
  ⟨0x8, 0, 1, [⟨31, 0, (.rwS 0), 0⟩]⟩,
  -- IMP_STARTH
  ⟨0xc, 0, 1, [⟨31, 0, (.rwS 0), 0⟩]⟩,
  -- IMP_SHR
  ⟨0x10, 0, 1, [⟨31, 0, (.rwS 0), 500⟩]⟩,
  -- IMP_CMASKL
  ⟨0x14, 0, 1, [⟨31, 0, (.rwS 0), 0⟩]⟩,
  -- IMP_CMASKH
  ⟨0x18, 0, 1, [⟨3, 0, (.rwS 0), 0⟩]⟩,
  -- IMP_LIM
  ⟨0x1c, 0, 1, [⟨15, 0, (.rwS 0), 1000⟩]⟩,
  -- IMP_NPT
  ⟨0x20, 0, 1, [⟨6, 0, (.rwS 1), 1⟩]⟩,
  -- IMP_STAT
  ⟨0x24, 0, 1, [⟨31, 28, .ro, 0⟩, ⟨27, 24, .ro, 0⟩, ⟨20, 16, .ro, 0⟩, ⟨15, 8, .ro, 0⟩, ⟨0, 0, .ro, 0⟩]⟩,
  -- IMP_PROG
  ⟨0x28, 0, 1, [⟨31, 0, .ro, 0⟩]⟩,
  -- IMP_RSEL
  ⟨0x2c, 0, 1, [⟨5, 0, .rwL, 0⟩]⟩,
  -- IMP_PTA
  ⟨0x100, 8, 64, [⟨31, 24, (.rwS 1), 0⟩, ⟨23, 22, (.rwS 1), 1⟩, ⟨21, 18, (.rwS 1), 3⟩, ⟨15, 0, (.rwS 1), 36⟩]⟩,
  -- IMP_PTB
  ⟨0x104, 8, 64, [⟨19, 0, (.rwS 1), 45⟩]⟩,
  -- IMP_RWIN
  ⟨0x1000, 4, 152, [⟨31, 0, .ro, 0⟩]⟩]

/-- The registers of block BAL: the register tables of 07_balancing.md. -/
def rowsBal : List RegRow := [
  -- BAL_CTRL
  ⟨0x0, 0, 1, [⟨1, 1, .w1s, 0⟩, ⟨0, 0, .w1s, 0⟩]⟩,
  -- BAL_PCFG
  ⟨0x4, 0, 1, [⟨31, 31, (.rwS 0), 0⟩, ⟨30, 30, (.rwS 0), 1⟩, ⟨29, 29, (.rwS 0), 0⟩, ⟨23, 16, (.rwS 0), 0⟩, ⟨7, 0, (.rwS 0), 50⟩]⟩,
  -- BAL_LIM
  ⟨0x8, 0, 1, [⟨31, 24, (.rwS 0), 18⟩, ⟨23, 16, (.rwS 0), 120⟩, ⟨15, 0, (.rwS 0), 1000⟩]⟩,
  -- BAL_PTMAX
  ⟨0xc, 0, 1, [⟨31, 0, (.rwS 0), 0⟩]⟩,
  -- BAL_XFMR
  ⟨0x10, 0, 1, [⟨31, 16, .rwK, 150⟩, ⟨15, 0, .rwK, 200⟩]⟩,
  -- BAL_LCHK
  ⟨0x14, 0, 1, [⟨31, 16, .rwL, 50⟩, ⟨7, 0, .rwL, 20⟩]⟩,
  -- BAL_STAT
  ⟨0x18, 0, 1, [⟨31, 16, .ro, 0⟩, ⟨13, 8, .ro, 0⟩, ⟨7, 4, .ro, 0⟩, ⟨2, 2, .ro, 0⟩, ⟨1, 1, .ro, 0⟩, ⟨0, 0, .ro, 0⟩]⟩,
  -- BAL_CSET
  ⟨0x100, 4, 36, [⟨31, 30, (.rwS 1), 0⟩, ⟨29, 28, (.rwS 1), 0⟩, ⟨7, 0, (.rwS 1), 0⟩]⟩,
  -- BAL_CTGT
  ⟨0x200, 4, 36, [⟨31, 0, (.rwS 1), 0⟩]⟩,
  -- BAL_RW
  ⟨0x300, 4, 37, [⟨15, 0, (.rwS 2), 0⟩]⟩,
  -- BAL_CSTS
  ⟨0x400, 4, 36, [⟨31, 28, .ro, 0⟩, ⟨23, 16, .ro, 0⟩, ⟨15, 0, .ro, 0⟩]⟩,
  -- BAL_CPROG
  ⟨0x500, 4, 36, [⟨31, 0, .ro, 0⟩]⟩]

/-- The registers of block LCS: the register tables of 19_recorder_bist_lifecycle.md. -/
def rowsLcs : List RegRow := [
  -- LCS_STAT
  ⟨0x0, 0, 1, [⟨31, 29, .ro, 0⟩, ⟨28, 28, .ro, 0⟩, ⟨27, 27, .ro, 0⟩, ⟨26, 26, .ro, 0⟩, ⟨21, 16, .ro, 0⟩, ⟨3, 0, .ro, 0⟩]⟩,
  -- LCS_REQ
  ⟨0x4, 0, 1, [⟨2, 0, .wo, 0⟩]⟩,
  -- LCS_CHAL
  ⟨0x10, 4, 4, [⟨31, 0, .ro, 0⟩]⟩,
  -- LCS_RESP
  ⟨0x20, 4, 16, [⟨31, 0, .wo, 0⟩]⟩]

/-- The registers of block BST: the register tables of 19_recorder_bist_lifecycle.md. -/
def rowsBst : List RegRow := [
  -- BST_CTRL
  ⟨0x0, 0, 1, [⟨3, 3, .w1s, 0⟩, ⟨2, 2, .w1s, 0⟩, ⟨1, 1, .w1s, 0⟩, ⟨0, 0, .w1s, 0⟩]⟩,
  -- BST_CFG
  ⟨0x4, 0, 1, [⟨21, 16, .rwL, 0⟩, ⟨9, 8, .rwL, 0⟩, ⟨1, 0, .rwL, 0⟩]⟩,
  -- BST_STAT
  ⟨0x8, 0, 1, [⟨31, 28, .ro, 0⟩, ⟨27, 24, .ro, 0⟩, ⟨23, 20, .ro, 0⟩, ⟨2, 0, .ro, 0⟩]⟩,
  -- BST_BG
  ⟨0xc, 0, 1, [⟨31, 16, .ro, 0⟩, ⟨15, 0, .rwL, 10⟩]⟩,
  -- BST_MAP
  ⟨0x10, 0, 1, [⟨13, 8, .ro, 0⟩, ⟨5, 0, .ro, 0⟩]⟩,
  -- BST_RES
  ⟨0x100, 16, 6, [⟨31, 30, .ro, 0⟩, ⟨29, 24, .ro, 0⟩, ⟨23, 20, .ro, 0⟩, ⟨19, 0, .ro, 0⟩]⟩,
  -- BST_FBIT
  ⟨0x104, 16, 6, [⟨31, 0, .ro, 0⟩]⟩,
  -- BST_FCNT
  ⟨0x108, 16, 6, [⟨31, 0, .ro, 0⟩]⟩]

/-- The registers of block FW: the register tables of 11_safety.md, 19_recorder_bist_lifecycle.md, 20_legacy_mode.md. -/
def rowsFw : List RegRow := [
  -- FW_IMG
  ⟨0x0, 0, 1, [⟨9, 9, .ro, 0⟩, ⟨8, 8, .ro, 0⟩, ⟨4, 4, .ro, 0⟩, ⟨0, 0, .ro, 0⟩]⟩,
  -- FW_VERA
  ⟨0x4, 0, 1, [⟨31, 0, .ro, 0⟩]⟩,
  -- FW_VERB
  ⟨0x8, 0, 1, [⟨31, 0, .ro, 0⟩]⟩,
  -- FW_SVN
  ⟨0xc, 0, 1, [⟨15, 8, .ro, 0⟩, ⟨7, 0, .ro, 0⟩]⟩,
  -- FW_UPDCTL
  ⟨0x10, 0, 1, [⟨23, 16, .rwL, 0⟩, ⟨5, 5, .rwL, 0⟩, ⟨4, 4, .w1s, 0⟩, ⟨3, 3, .w1s, 0⟩, ⟨2, 2, .w1s, 0⟩, ⟨1, 1, .w1s, 0⟩, ⟨0, 0, .w1s, 0⟩]⟩,
  -- FW_UPDSTAT
  ⟨0x14, 0, 1, [⟨31, 28, .ro, 0⟩, ⟨27, 24, .ro, 0⟩, ⟨7, 0, .ro, 0⟩]⟩,
  -- FW_TRIAL
  ⟨0x18, 0, 1, [⟨15, 0, .rwL, 600⟩]⟩,
  -- FW_PPCFG
  ⟨0x100, 0, 1, [⟨23, 16, (.rwS 3), 20⟩, ⟨3, 3, (.rwS 3), 1⟩, ⟨2, 2, (.rwS 3), 0⟩, ⟨1, 1, (.rwS 3), 0⟩, ⟨0, 0, (.rwS 3), 1⟩]⟩,
  -- FW_PPOV
  ⟨0x104, 0, 1, [⟨31, 0, (.rwS 3), 42500000⟩]⟩,
  -- FW_PPUV
  ⟨0x108, 0, 1, [⟨31, 0, (.rwS 3), 25000000⟩]⟩,
  -- FW_PPDEG
  ⟨0x10c, 0, 1, [⟨31, 16, (.rwS 3), 500⟩, ⟨15, 0, (.rwS 3), 500⟩]⟩,
  -- FW_PPOC
  ⟨0x110, 0, 1, [⟨31, 0, (.rwS 3), 25000000⟩]⟩,
  -- FW_PPTML
  ⟨0x114, 0, 1, [⟨31, 0, (.rwS 3), 0⟩]⟩,
  -- FW_PPTMU
  ⟨0x118, 0, 1, [⟨31, 0, (.rwS 3), 0⟩]⟩,
  -- FW_PPXC
  ⟨0x11c, 0, 1, [⟨31, 16, (.rwS 3), 50⟩, ⟨4, 0, (.rwS 3), 0⟩]⟩,
  -- FW_PPCTRL
  ⟨0x120, 0, 1, [⟨0, 0, .w1s, 0⟩]⟩,
  -- FW_PPSTAT
  ⟨0x124, 0, 1, [⟨31, 31, .ro, 0⟩, ⟨30, 30, .rc, 0⟩, ⟨27, 24, .ro, 0⟩, ⟨21, 16, .ro, 0⟩, ⟨15, 0, .ro, 0⟩]⟩,
  -- FW_CAPCFG
  ⟨0x200, 0, 1, [⟨31, 16, (.rwS 0), 1000⟩, ⟨15, 0, (.rwS 0), 3000⟩]⟩,
  -- FW_CAPCTL
  ⟨0x204, 0, 1, [⟨0, 0, .w1s, 0⟩]⟩,
  -- FW_CAPST
  ⟨0x208, 0, 1, [⟨31, 31, .ro, 0⟩, ⟨30, 30, .ro, 0⟩, ⟨29, 29, .ro, 0⟩, ⟨15, 0, .ro, 0⟩]⟩,
  -- FW_CAPOLD
  ⟨0x20c, 0, 1, [⟨31, 0, .ro, 0⟩]⟩,
  -- FW_CAPCNT
  ⟨0x210, 0, 1, [⟨31, 16, .rc, 0⟩, ⟨15, 0, .ro, 0⟩]⟩,
  -- FW_LEG
  ⟨0x300, 0, 1, [⟨31, 31, .w1s, 0⟩, ⟨16, 16, .rwL, 0⟩, ⟨15, 8, .rwL, 60⟩, ⟨7, 0, .rwL, 10⟩]⟩,
  -- FW_LPXC
  ⟨0x304, 0, 1, [⟨31, 31, .w1s, 0⟩, ⟨27, 24, .rwL, 0⟩, ⟨21, 16, .rwL, 0⟩, ⟨7, 0, .rwL, 0⟩]⟩,
  -- FW_LPXD
  ⟨0x308, 0, 1, [⟨15, 0, .rwL, 0⟩]⟩,
  -- FW_LPXR
  ⟨0x30c, 0, 1, [⟨31, 31, .rc, 0⟩, ⟨30, 29, .ro, 0⟩, ⟨27, 24, .ro, 0⟩, ⟨21, 16, .ro, 0⟩, ⟨15, 0, .ro, 0⟩]⟩,
  -- FW_LSTAT
  ⟨0x310, 0, 1, [⟨31, 31, .ro, 0⟩, ⟨30, 30, .ro, 0⟩, ⟨5, 0, .ro, 0⟩]⟩,
  -- FW_UPDBUF
  ⟨0x1000, 4, 1024, [⟨31, 0, .rwL, 0⟩]⟩]

/-- The registers of block CVW: the register tables of 04_cell_windows.md. -/
def rowsCvw : List RegRow := [
  -- CVW_WLEN
  ⟨0x0, 0, 1, [⟨22, 0, (.rwS 0), 120000⟩]⟩,
  -- CVW_SUMM
  ⟨0x4, 0, 1, [⟨15, 0, (.rwS 0), 50⟩]⟩,
  -- CVW_EPOCHL
  ⟨0x8, 0, 1, [⟨31, 0, (.rwS 0), 0⟩]⟩,
  -- CVW_EPOCHH
  ⟨0xc, 0, 1, [⟨31, 0, (.rwS 0), 0⟩]⟩,
  -- CVW_APPLYL
  ⟨0x10, 0, 1, [⟨31, 0, (.rwS 0), 0⟩]⟩,
  -- CVW_APPLYH
  ⟨0x14, 0, 1, [⟨31, 0, (.rwS 0), 0⟩]⟩,
  -- CVW_OUT
  ⟨0x18, 0, 1, [⟨7, 4, (.rwS 1), 4⟩, ⟨0, 0, (.rwS 1), 0⟩]⟩,
  -- CVW_CAPT
  ⟨0x20, 0, 1, [⟨16, 16, .w1s, 0⟩, ⟨8, 8, (.rwS 2), 0⟩, ⟨4, 4, (.rwS 2), 1⟩, ⟨3, 3, (.rwS 2), 1⟩, ⟨2, 2, (.rwS 2), 0⟩, ⟨1, 1, (.rwS 2), 0⟩, ⟨0, 0, (.rwS 2), 0⟩]⟩,
  -- CVW_CTHI
  ⟨0x24, 0, 1, [⟨31, 0, (.rwS 2), 45000000⟩]⟩,
  -- CVW_CTLO
  ⟨0x28, 0, 1, [⟨31, 0, (.rwS 2), 15000000⟩]⟩,
  -- CVW_CITH
  ⟨0x2c, 0, 1, [⟨31, 0, (.rwS 2), 30000000⟩]⟩,
  -- CVW_MARK
  ⟨0x30, 0, 1, [⟨8, 8, .wo, 0⟩, ⟨7, 0, .wo, 0⟩]⟩,
  -- CVW_MARKW
  ⟨0x34, 0, 1, [⟨31, 0, .rwL, 0⟩]⟩,
  -- CVW_EVEN
  ⟨0x38, 0, 1, [⟨3, 3, .rwL, 0⟩, ⟨2, 2, .rwL, 0⟩, ⟨1, 1, .rwL, 1⟩, ⟨0, 0, .rwL, 1⟩]⟩,
  -- CVW_STAT
  ⟨0x40, 0, 1, [⟨31, 24, .ro, 0⟩, ⟨23, 16, .ro, 0⟩, ⟨3, 3, .rc, 0⟩, ⟨2, 2, .rc, 0⟩, ⟨1, 1, .ro, 0⟩]⟩,
  -- CVW_WSEQ
  ⟨0x44, 0, 1, [⟨31, 0, .ro, 0⟩]⟩,
  -- CVW_SSEQ
  ⟨0x48, 0, 1, [⟨31, 0, .ro, 0⟩]⟩,
  -- CVW_CCYCL
  ⟨0x4c, 0, 1, [⟨31, 0, .ro, 0⟩]⟩,
  -- CVW_CCYCH
  ⟨0x50, 0, 1, [⟨31, 0, .ro, 0⟩]⟩,
  -- CVW_WLAST
  ⟨0x54, 0, 1, [⟨31, 0, .ro, 0⟩]⟩,
  -- CVW_ICFG
  ⟨0x60, 0, 1, [⟨0, 0, (.rwS 3), 1⟩]⟩,
  -- CVW_FRES
  ⟨0x100, 4, 19, [⟨31, 0, .ro, 0⟩]⟩,
  -- CVW_FFLG
  ⟨0x180, 4, 19, [⟨15, 0, .ro, 0⟩]⟩,
  -- CVW_SMEAN
  ⟨0x200, 4, 19, [⟨31, 0, .ro, 0⟩]⟩,
  -- CVW_SMIN
  ⟨0x280, 4, 19, [⟨31, 0, .ro, 0⟩]⟩,
  -- CVW_SMAX
  ⟨0x300, 4, 19, [⟨31, 0, .ro, 0⟩]⟩,
  -- CVW_SFLG
  ⟨0x380, 4, 19, [⟨31, 31, .ro, 0⟩, ⟨15, 0, .ro, 0⟩]⟩,
  -- CVW_CINTL
  ⟨0x400, 8, 19, [⟨31, 0, .ro, 0⟩]⟩,
  -- CVW_CINTH
  ⟨0x404, 8, 19, [⟨31, 0, .ro, 0⟩]⟩]

/-- The registers of block AUX: the register tables of 05_aux_converter.md. -/
def rowsAux : List RegRow := [
  -- AUX_CTRL
  ⟨0x0, 0, 1, [⟨1, 1, .w1s, 0⟩, ⟨0, 0, .rwL, 0⟩]⟩,
  -- AUX_TRIG
  ⟨0x4, 0, 1, [⟨20, 16, (.rwS 0), 0⟩, ⟨15, 8, (.rwS 0), 0⟩, ⟨5, 4, (.rwS 0), 1⟩, ⟨2, 0, (.rwS 0), 0⟩]⟩,
  -- AUX_TDLY
  ⟨0x8, 0, 1, [⟨15, 0, (.rwS 0), 0⟩]⟩,
  -- AUX_TPER
  ⟨0xc, 0, 1, [⟨23, 0, (.rwS 0), 100000⟩]⟩,
  -- AUX_TOFS
  ⟨0x10, 0, 1, [⟨23, 0, (.rwS 0), 0⟩]⟩,
  -- AUX_SEQ
  ⟨0x14, 0, 1, [⟨15, 8, (.rwS 0), 0⟩, ⟨4, 0, (.rwS 0), 0⟩]⟩,
  -- AUX_STAT
  ⟨0x18, 0, 1, [⟨31, 16, .ro, 0⟩, ⟨15, 8, .ro, 0⟩, ⟨2, 2, .ro, 0⟩, ⟨1, 1, .ro, 0⟩, ⟨0, 0, .ro, 0⟩]⟩,
  -- AUX_TMISS
  ⟨0x1c, 0, 1, [⟨15, 0, .rc, 0⟩]⟩,
  -- AUX_DROP
  ⟨0x20, 0, 1, [⟨15, 0, .rc, 0⟩]⟩,
  -- AUX_EVEN
  ⟨0x24, 0, 1, [⟨3, 3, .rwL, 0⟩, ⟨2, 2, .rwL, 0⟩, ⟨1, 1, .rwL, 0⟩, ⟨0, 0, .rwL, 1⟩]⟩,
  -- AUX_URG
  ⟨0x28, 0, 1, [⟨31, 31, .w1s, 0⟩, ⟨12, 8, .rwL, 1⟩, ⟨4, 0, .rwL, 0⟩]⟩,
  -- AUX_URES
  ⟨0x2c, 0, 1, [⟨31, 31, .rc, 0⟩, ⟨30, 30, .rc, 0⟩, ⟨29, 29, .ro, 0⟩, ⟨15, 0, .ro, 0⟩]⟩,
  -- AUX_PLC
  ⟨0x30, 0, 1, [⟨15, 12, (.rwS 1), 2⟩, ⟨9, 8, (.rwS 1), 1⟩, ⟨6, 4, (.rwS 1), 2⟩, ⟨0, 0, (.rwS 1), 1⟩]⟩,
  -- AUX_PLIM
  ⟨0x34, 0, 1, [⟨31, 16, (.rwS 1), 50⟩, ⟨15, 0, (.rwS 1), 50⟩]⟩,
  -- AUX_PSTAT
  ⟨0x38, 0, 1, [⟨31, 31, .ro, 0⟩, ⟨21, 16, .ro, 0⟩, ⟨15, 0, .ro, 0⟩]⟩,
  -- AUX_PSKIP
  ⟨0x3c, 0, 1, [⟨31, 16, .rc, 0⟩]⟩,
  -- AUX_SETX
  ⟨0x40, 0, 1, [⟨31, 24, .rwK, 0⟩, ⟨23, 16, .rwK, 0⟩, ⟨15, 8, .rwK, 0⟩, ⟨7, 0, .rwK, 0⟩]⟩,
  -- AUX_ENTA
  ⟨0x100, 8, 32, [⟨31, 16, (.rwS 0), 0⟩, ⟨15, 8, (.rwS 0), 0⟩, ⟨7, 7, (.rwS 0), 0⟩, ⟨6, 6, (.rwS 0), 0⟩, ⟨4, 0, (.rwS 0), 0⟩]⟩,
  -- AUX_ENTB
  ⟨0x104, 8, 32, [⟨20, 16, (.rwS 0), 1⟩, ⟨15, 0, (.rwS 0), 0⟩]⟩,
  -- AUX_BAND
  ⟨0x200, 4, 32, [⟨31, 16, (.rwS 0), 65535⟩, ⟨15, 0, (.rwS 0), 0⟩]⟩,
  -- AUX_RES
  ⟨0x280, 4, 32, [⟨31, 31, .ro, 0⟩, ⟨30, 30, .ro, 0⟩, ⟨29, 29, .rc, 0⟩, ⟨23, 16, .ro, 0⟩, ⟨15, 0, .ro, 0⟩]⟩,
  -- AUX_BOUT
  ⟨0x300, 0, 1, [⟨31, 0, .ro, 0⟩]⟩]

/-- The registers of block CAL: the register tables of 06_calibration.md. -/
def rowsCal : List RegRow := [
  -- CAL_CTRL
  ⟨0x0, 0, 1, [⟨3, 0, .wo, 0⟩]⟩,
  -- CAL_CFG
  ⟨0x4, 0, 1, [⟨31, 22, (.rwS 0), 600⟩, ⟨21, 14, (.rwS 0), 20⟩, ⟨13, 13, (.rwS 0), 0⟩, ⟨12, 11, (.rwS 0), 0⟩, ⟨10, 5, (.rwS 0), 20⟩, ⟨4, 0, (.rwS 0), 8⟩]⟩,
  -- CAL_DEV
  ⟨0x8, 0, 1, [⟨31, 16, (.rwS 0), 10000⟩, ⟨15, 0, (.rwS 0), 4000⟩]⟩,
  -- CAL_STAT
  ⟨0xc, 0, 1, [⟨31, 28, .ro, 0⟩, ⟨27, 24, .ro, 0⟩, ⟨23, 23, .rc, 0⟩, ⟨21, 20, .ro, 0⟩, ⟨4, 0, .ro, 0⟩]⟩,
  -- CAL_CNT
  ⟨0x10, 0, 1, [⟨31, 0, .ro, 0⟩]⟩,
  -- CAL_TL
  ⟨0x14, 0, 1, [⟨31, 0, .ro, 0⟩]⟩,
  -- CAL_TH
  ⟨0x18, 0, 1, [⟨31, 0, .ro, 0⟩]⟩,
  -- CAL_PLO
  ⟨0x100, 4, 19, [⟨31, 0, .rwK, 0⟩]⟩,
  -- CAL_PHI
  ⟨0x180, 4, 19, [⟨31, 0, .rwK, 0⟩]⟩,
  -- CAL_OFS
  ⟨0x200, 4, 19, [⟨15, 0, .ro, 0⟩]⟩,
  -- CAL_GAIN
  ⟨0x280, 4, 19, [⟨15, 0, .ro, 0⟩]⟩,
  -- CAL_VCALM
  ⟨0x300, 4, 19, [⟨31, 0, .ro, 0⟩]⟩,
  -- CAL_MEAS
  ⟨0x380, 4, 19, [⟨31, 0, .ro, 0⟩]⟩]

/-- The registers of block CMP: the register tables of 10_comparators_bezel.md. -/
def rowsCmp : List RegRow := [
  -- CMP_CFG
  ⟨0x0, 0, 1, [⟨13, 11, (.rwS 0), 3⟩, ⟨10, 8, (.rwS 0), 3⟩, ⟨3, 2, (.rwS 0), 2⟩, ⟨1, 0, (.rwS 0), 2⟩]⟩,
  -- CMP_DEG
  ⟨0x4, 0, 1, [⟨22, 16, (.rwS 0), 10⟩, ⟨6, 0, (.rwS 0), 10⟩]⟩,
  -- CMP_TCFG
  ⟨0x8, 0, 1, [⟨23, 16, (.rwS 1), 0⟩, ⟨10, 8, (.rwS 1), 5⟩, ⟨3, 0, (.rwS 1), 8⟩]⟩,
  -- CMP_STCFG
  ⟨0xc, 0, 1, [⟨3, 0, (.rwS 2), 5⟩]⟩,
  -- CMP_THR
  ⟨0x100, 4, 18, [⟨25, 16, (.rwS 0), 650⟩, ⟨9, 0, (.rwS 0), 300⟩]⟩,
  -- CMP_TTHR
  ⟨0x180, 4, 8, [⟨25, 16, (.rwS 1), 209⟩, ⟨9, 0, (.rwS 1), 907⟩]⟩,
  -- CMP_OVST
  ⟨0x200, 0, 1, [⟨17, 0, .ro, 262143⟩]⟩,
  -- CMP_UVST
  ⟨0x204, 0, 1, [⟨17, 0, .ro, 262143⟩]⟩,
  -- CMP_TST
  ⟨0x208, 0, 1, [⟨15, 8, .ro, 255⟩, ⟨7, 0, .ro, 255⟩]⟩,
  -- CMP_STAT
  ⟨0x210, 0, 1, [⟨31, 16, .ro, 0⟩, ⟨8, 8, .ro, 1⟩, ⟨4, 0, .ro, 0⟩]⟩,
  -- CMP_STFAIL
  ⟨0x214, 0, 1, [⟨31, 31, .ro, 0⟩, ⟨9, 8, .ro, 0⟩, ⟨4, 0, .ro, 0⟩]⟩]

/-- The registers of block BZL: the register tables of 10_comparators_bezel.md. -/
def rowsBzl : List RegRow := [
  -- BZL_CTRL
  ⟨0x0, 0, 1, [⟨1, 1, .w1s, 0⟩, ⟨0, 0, .w1s, 0⟩]⟩,
  -- BZL_STAT
  ⟨0x4, 0, 1, [⟨8, 8, .rc, 0⟩, ⟨6, 6, .ro, 0⟩, ⟨5, 5, .ro, 0⟩, ⟨4, 4, .ro, 0⟩, ⟨1, 0, .ro, 0⟩]⟩,
  -- BZL_CAUSE
  ⟨0x8, 0, 1, [⟨31, 16, .ro, 0⟩, ⟨7, 0, .ro, 0⟩]⟩,
  -- BZL_MTX
  ⟨0x10, 0, 1, [⟨5, 4, (.rwS 0), 1⟩, ⟨3, 2, (.rwS 0), 2⟩, ⟨1, 0, (.rwS 0), 2⟩]⟩,
  -- BZL_CMASK
  ⟨0x14, 0, 1, [⟨17, 0, (.rwS 0), 262143⟩]⟩,
  -- BZL_TMASK
  ⟨0x18, 0, 1, [⟨15, 8, (.rwS 0), 0⟩, ⟨7, 0, (.rwS 0), 0⟩]⟩,
  -- BZL_ENV
  ⟨0x1c, 0, 1, [⟨25, 16, (.rwS 0), 790⟩, ⟨9, 0, (.rwS 0), 0⟩]⟩,
  -- BZL_NV
  ⟨0x20, 0, 1, [⟨2, 2, .ro, 0⟩, ⟨1, 1, .ro, 0⟩, ⟨0, 0, .w1s, 0⟩]⟩]

/-- The registers of block OWD: the register tables of 09_sense_wiring.md. -/
def rowsOwd : List RegRow := [
  -- OWD_CFG
  ⟨0x0, 0, 1, [⟨24, 24, (.rwS 0), 1⟩, ⟨23, 8, (.rwS 0), 50⟩, ⟨0, 0, (.rwS 0), 1⟩]⟩,
  -- OWD_THR
  ⟨0x4, 0, 1, [⟨31, 24, (.rwS 0), 40⟩, ⟨23, 16, (.rwS 0), 20⟩, ⟨15, 8, (.rwS 0), 15⟩, ⟨7, 0, (.rwS 0), 20⟩]⟩,
  -- OWD_TOL
  ⟨0x8, 0, 1, [⟨31, 16, (.rwS 0), 400⟩, ⟨15, 0, (.rwS 0), 50⟩]⟩,
  -- OWD_TAP
  ⟨0xc, 0, 1, [⟨15, 0, (.rwS 0), 50⟩]⟩,
  -- OWD_CTRL
  ⟨0x10, 0, 1, [⟨31, 31, .w1s, 0⟩, ⟨5, 0, .rwL, 1⟩]⟩,
  -- OWD_STAT
  ⟨0x14, 0, 1, [⟨10, 10, .ro, 0⟩, ⟨9, 9, .ro, 0⟩, ⟨8, 8, .ro, 0⟩, ⟨1, 0, .ro, 0⟩]⟩,
  -- OWD_SKIP
  ⟨0x18, 0, 1, [⟨15, 0, .rc, 0⟩]⟩,
  -- OWD_JSTAT
  ⟨0x100, 4, 37, [⟨31, 28, .ro, 0⟩, ⟨27, 24, .ro, 0⟩, ⟨15, 0, .ro, 0⟩]⟩]

/-- The registers of block SDC: the register tables of 11_safety.md. -/
def rowsSdc : List RegRow := [
  -- SDC_CTRL
  ⟨0x0, 0, 1, [⟨1, 1, .w1s, 0⟩, ⟨0, 0, .rwL, 0⟩]⟩,
  -- SDC_STAT
  ⟨0x4, 0, 1, [⟨15, 15, .rc, 0⟩, ⟨14, 14, .ro, 0⟩, ⟨13, 13, .ro, 1⟩, ⟨12, 12, .ro, 0⟩, ⟨9, 9, .ro, 0⟩, ⟨8, 8, .ro, 0⟩, ⟨3, 0, .ro, 0⟩]⟩,
  -- SDC_FAIL
  ⟨0x8, 0, 1, [⟨31, 16, .ro, 0⟩, ⟨11, 8, .ro, 0⟩, ⟨3, 0, .ro, 0⟩]⟩,
  -- SDC_GRACE
  ⟨0xc, 0, 1, [⟨26, 16, (.rwS 0), 60⟩, ⟨10, 0, .rwL, 60⟩]⟩,
  -- SDC_GREM
  ⟨0x10, 0, 1, [⟨29, 24, .ro, 0⟩, ⟨18, 16, .ro, 0⟩, ⟨10, 0, .ro, 0⟩]⟩,
  -- SDC_DPCFG
  ⟨0x14, 0, 1, [⟨8, 0, (.rwS 0), 200⟩]⟩,
  -- SDC_NV
  ⟨0x18, 0, 1, [⟨2, 2, .ro, 0⟩, ⟨1, 1, .ro, 0⟩, ⟨0, 0, .w1s, 0⟩]⟩]

/-- The registers of block GRD: the register tables of 11_safety.md. -/
def rowsGrd : List RegRow := [
  -- GRD_CFG
  ⟨0x0, 0, 1, [⟨0, 0, (.rwS 0), 1⟩]⟩,
  -- GRD_STAT
  ⟨0x4, 0, 1, [⟨31, 16, .ro, 0⟩, ⟨15, 8, .ro, 0⟩, ⟨2, 2, .rc, 0⟩, ⟨1, 1, .ro, 0⟩, ⟨0, 0, .ro, 0⟩]⟩,
  -- GRD_GAPOKL
  ⟨0x8, 0, 1, [⟨31, 0, .ro, 0⟩]⟩,
  -- GRD_GAPOKH
  ⟨0xc, 0, 1, [⟨31, 0, .ro, 0⟩]⟩,
  -- GRD_GAPFAIL
  ⟨0x10, 0, 1, [⟨31, 16, .ro, 0⟩, ⟨6, 6, .ro, 0⟩, ⟨5, 0, .ro, 0⟩]⟩]

/-- The registers of block PRT: the register tables of 12_spindle_link.md. -/
def rowsPrt : List RegRow := [
  -- PRT_CTRL
  ⟨0x0, 0, 1, [⟨2, 2, .w1s, 0⟩, ⟨1, 1, .w1s, 0⟩, ⟨0, 0, .rwL, 0⟩]⟩,
  -- PRT_STAT
  ⟨0x4, 0, 1, [⟨31, 24, .ro, 0⟩, ⟨19, 16, .ro, 0⟩, ⟨9, 9, .ro, 0⟩, ⟨8, 8, .ro, 0⟩, ⟨1, 0, .ro, 0⟩]⟩,
  -- PRT_TXCFG
  ⟨0x8, 0, 1, [⟨5, 4, .rwK, 1⟩, ⟨3, 3, .rwK, 0⟩, ⟨2, 0, .rwK, 3⟩]⟩,
  -- PRT_ERR
  ⟨0xc, 0, 1, [⟨31, 16, .rc, 0⟩, ⟨15, 0, .rc, 0⟩]⟩,
  -- PRT_EYE
  ⟨0x10, 0, 1, [⟨15, 8, .ro, 0⟩, ⟨7, 0, .ro, 0⟩]⟩,
  -- PRT_LCHK
  ⟨0x14, 0, 1, [⟨31, 31, .ro, 0⟩, ⟨30, 28, .ro, 0⟩, ⟨27, 25, .ro, 0⟩, ⟨23, 12, .ro, 0⟩, ⟨11, 0, .ro, 0⟩]⟩]

/-- The registers of block BPS: the register tables of 07_balancing.md. -/
def rowsBps : List RegRow := [
  -- BPS_STAT
  ⟨0x0, 0, 1, [⟨31, 16, .ro, 0⟩, ⟨2, 2, .ro, 0⟩, ⟨1, 1, .ro, 0⟩, ⟨0, 0, .ro, 0⟩]⟩,
  -- BPS_PDISS
  ⟨0x4, 0, 1, [⟨15, 0, .ro, 0⟩]⟩,
  -- BPS_QOUTL
  ⟨0x100, 8, 18, [⟨31, 0, .ro, 0⟩]⟩,
  -- BPS_QOUTH
  ⟨0x104, 8, 18, [⟨31, 0, .ro, 0⟩]⟩,
  -- BPS_QINL
  ⟨0x200, 8, 18, [⟨31, 0, .ro, 0⟩]⟩,
  -- BPS_QINH
  ⟨0x204, 8, 18, [⟨31, 0, .ro, 0⟩]⟩,
  -- BPS_MBINL
  ⟨0x300, 0, 1, [⟨31, 0, .ro, 0⟩]⟩,
  -- BPS_MBINH
  ⟨0x304, 0, 1, [⟨31, 0, .ro, 0⟩]⟩,
  -- BPS_MBOUTL
  ⟨0x308, 0, 1, [⟨31, 0, .ro, 0⟩]⟩,
  -- BPS_MBOUTH
  ⟨0x30c, 0, 1, [⟨31, 0, .ro, 0⟩]⟩,
  -- BPS_LOSSL
  ⟨0x310, 0, 1, [⟨31, 0, .ro, 0⟩]⟩,
  -- BPS_LOSSH
  ⟨0x314, 0, 1, [⟨31, 0, .ro, 0⟩]⟩,
  -- BPS_LRES
  ⟨0x318, 0, 1, [⟨31, 0, .ro, 0⟩]⟩,
  -- BPS_LRCELL
  ⟨0x31c, 0, 1, [⟨4, 0, .ro, 0⟩]⟩]

/-- The registers of block RCD: the register tables of 19_recorder_bist_lifecycle.md. -/
def rowsRcd : List RegRow := [
  -- RCD_CFG
  ⟨0x0, 0, 1, [⟨31, 16, .rwL, 60⟩, ⟨0, 0, .rwL, 1⟩]⟩,
  -- RCD_STAT
  ⟨0x4, 0, 1, [⟨31, 28, .ro, 0⟩, ⟨27, 24, .ro, 0⟩, ⟨1, 1, .rc, 0⟩, ⟨0, 0, .ro, 0⟩]⟩,
  -- RCD_HWP
  ⟨0x8, 0, 1, [⟨31, 0, .ro, 0⟩]⟩,
  -- RCD_SNO
  ⟨0xc, 0, 1, [⟨31, 0, .ro, 0⟩]⟩,
  -- RCD_PROT
  ⟨0x10, 0, 1, [⟨27, 16, .w1s, 0⟩, ⟨11, 0, .w1s, 0⟩]⟩,
  -- RCD_ERASE
  ⟨0x14, 0, 1, [⟨31, 31, .w1s, 0⟩, ⟨11, 0, .w1s, 0⟩]⟩]

/-- The registers of a block. -/
def rowsOf : Blk → List RegRow
  | .sys => rowsSys
  | .pwr => rowsPwr
  | .clk => rowsClk
  | .tb => rowsTb
  | .hif => rowsHif
  | .spn => rowsSpn
  | .crc => rowsCrc
  | .iic => rowsIic
  | .bdl => rowsBdl
  | .imp => rowsImp
  | .bal => rowsBal
  | .lcs => rowsLcs
  | .bst => rowsBst
  | .fw => rowsFw
  | .cvw => rowsCvw
  | .aux => rowsAux
  | .cal => rowsCal
  | .cmp => rowsCmp
  | .bzl => rowsBzl
  | .owd => rowsOwd
  | .sdc => rowsSdc
  | .grd => rowsGrd
  | .prt => rowsPrt
  | .bps => rowsBps
  | .rcd => rowsRcd

/-- The row of a block that holds an offset, with the index of the register in the row. -/
def findRow (o : Nat) : List RegRow → Option (RegRow × Nat)
  | [] => none
  | r :: rs =>
    if r.off ≤ o ∧ (if r.stride = 0 then o = r.off else (o - r.off) % r.stride = 0 ∧ (o - r.off) / r.stride < r.count)
    then some (r, if r.stride = 0 then 0 else (o - r.off) / r.stride) else findRow o rs

/-- Where an address (bits [1:0] cleared) lies: its die, block, block base address, block offset, row and index. -/
structure Loc where
  die  : Die
  blk  : Blk
  base : Nat
  off  : Nat
  row  : RegRow
  idx  : Nat
  deriving DecidableEq, Repr

/-- The register at a live address, if the map has one there (R24, R25). The commit and status registers, which
every block has (R26), are found by their own offsets. -/
def locate (a : Nat) : Option Loc :=
  match dieOf a with
  | none => none
  | some (d, wb) =>
    match blkOf d (a - wb) with
    | none => none
    | some (b, bo) =>
      match findRow (a - wb - bo) (rowsOf b) with
      | none => none
      | some (r, i) => some ⟨d, b, wb + bo, a - wb - bo, r, i⟩

/-- The block base of an address: every block is found from any address inside it. -/
def blockAt (a : Nat) : Option (Die × Blk × Nat) :=
  match dieOf a with
  | none => none
  | some (d, wb) => match blkOf d (a - wb) with | none => none | some (b, bo) => some (d, b, wb + bo)

/-- The reset word that the fields of a row give (R7). -/
def RegRow.resetNat (r : RegRow) : Nat := r.fields.foldl (fun n f => n + f.rst * 2 ^ f.lo) 0

/-! The field handles: one per field of the register tables, in the order of Table 2-2. Their bits are those of the
row of the register; array handles take the index that the chapter numbers from. -/

def SYS_STAT_ROLE : Fld := ⟨0x0, 0, 0⟩
def SYS_SVIOL_CNT : Fld := ⟨0x40, 31, 24⟩
def SYS_SVIOL_ADDR : Fld := ⟨0x40, 23, 0⟩
def SYS_RSTCAUSE_CAUSE : Fld := ⟨0x44, 7, 0⟩
def SYS_DRST_WARM : Fld := ⟨0x48, 7, 7⟩
def SYS_DRST_BURL : Fld := ⟨0x48, 4, 4⟩
def SYS_DRST_BPDU : Fld := ⟨0x48, 3, 3⟩
def SYS_DRST_BPDL : Fld := ⟨0x48, 2, 2⟩
def SYS_DRST_PHYS : Fld := ⟨0x48, 1, 1⟩
def SYS_DRST_PHYN : Fld := ⟨0x48, 0, 0⟩
def PWR_REQ_ACT : Fld := ⟨0x4000, 2, 0⟩
def PWR_BUDGET_HOLD : Fld := ⟨0x4004, 31, 24⟩
def PWR_BUDGET_FLOOR : Fld := ⟨0x4004, 17, 16⟩
def PWR_BUDGET_BUDGET : Fld := ⟨0x4004, 15, 0⟩
def PWR_STAT_TARGET : Fld := ⟨0x4008, 23, 20⟩
def PWR_STAT_REFUSED : Fld := ⟨0x4008, 16, 16⟩
def PWR_STAT_CALBANK : Fld := ⟨0x4008, 11, 10⟩
def PWR_STAT_TRANS : Fld := ⟨0x4008, 9, 9⟩
def PWR_STAT_BASE : Fld := ⟨0x4008, 7, 4⟩
def PWR_STAT_CUR : Fld := ⟨0x4008, 3, 0⟩
def PWR_PATROL_WAKEH : Fld := ⟨0x400c, 20, 20⟩
def PWR_PATROL_OWM : Fld := ⟨0x400c, 17, 16⟩
def PWR_PATROL_OWEN : Fld := ⟨0x400c, 12, 12⟩
def PWR_PATROL_IVL : Fld := ⟨0x400c, 9, 0⟩
def PWR_PBAND_HI : Fld := ⟨0x4010, 25, 16⟩
def PWR_PBAND_LO : Fld := ⟨0x4010, 9, 0⟩
def PWR_PSTAT_KIND : Fld := ⟨0x4014, 23, 22⟩
def PWR_PSTAT_CELL : Fld := ⟨0x4014, 21, 16⟩
def PWR_PSTAT_CNT : Fld := ⟨0x4014, 15, 0⟩
def CLK_STAT_RUN : Fld := ⟨0x8000, 14, 0⟩
def CLK_FAIL : Fld := ⟨0x8004, 14, 0⟩
def TB_CFG_SLEW : Fld := ⟨0xc000, 31, 24⟩
def TB_CFG_PTMI : Fld := ⟨0xc000, 23, 16⟩
def TB_CFG_STEPLIM : Fld := ⟨0xc000, 15, 8⟩
def TB_CFG_BW : Fld := ⟨0xc000, 7, 4⟩
def TB_CFG_SRC : Fld := ⟨0xc000, 2, 0⟩
def TB_PTMOFSL : Fld := ⟨0xc004, 31, 0⟩
def TB_PTMOFSH : Fld := ⟨0xc008, 31, 0⟩
def TB_HOLD_HMAX : Fld := ⟨0xc00c, 31, 16⟩
def TB_HOLD_ELIM : Fld := ⟨0xc00c, 15, 0⟩
def TB_SETL : Fld := ⟨0xc010, 31, 0⟩
def TB_SETH : Fld := ⟨0xc014, 31, 0⟩
def TB_ASYM_ASYMN : Fld := ⟨0xc018, 31, 16⟩
def TB_ASYM_ASYMS : Fld := ⟨0xc018, 15, 0⟩
def TB_TODL : Fld := ⟨0xc01c, 31, 0⟩
def TB_STAT_TQ : Fld := ⟨0xc020, 31, 30⟩
def TB_STAT_RLOCK : Fld := ⟨0xc020, 29, 29⟩
def TB_STAT_STEPPEND : Fld := ⟨0xc020, 28, 28⟩
def TB_STAT_ACT : Fld := ⟨0xc020, 27, 26⟩
def TB_STAT_TPORT : Fld := ⟨0xc020, 25, 25⟩
def TB_STAT_HOPS : Fld := ⟨0xc020, 24, 19⟩
def TB_STAT_STEPCNT : Fld := ⟨0xc020, 15, 0⟩
def TB_ERR : Fld := ⟨0xc024, 31, 0⟩
def TB_DLYN : Fld := ⟨0xc028, 31, 0⟩
def TB_DLYS : Fld := ⟨0xc02c, 31, 0⟩
def TB_NOWL : Fld := ⟨0xc030, 31, 0⟩
def TB_NOWH : Fld := ⟨0xc034, 31, 0⟩
def TB_NOWF : Fld := ⟨0xc038, 31, 16⟩
def TB_TODH : Fld := ⟨0xc03c, 31, 0⟩
def HIF_CTRL_EN : Fld := ⟨0x10000, 0, 0⟩
def HIF_STAT_READY : Fld := ⟨0x10004, 31, 31⟩
def HIF_STAT_WARM : Fld := ⟨0x10004, 30, 30⟩
def HIF_STAT_PRST : Fld := ⟨0x10004, 29, 29⟩
def HIF_STAT_DBERR : Fld := ⟨0x10004, 28, 28⟩
def HIF_STAT_DMAERR : Fld := ⟨0x10004, 27, 27⟩
def HIF_STAT_HELD : Fld := ⟨0x10004, 15, 0⟩
def HIF_LINK_PTMV : Fld := ⟨0x10008, 9, 9⟩
def HIF_LINK_PTMEN : Fld := ⟨0x10008, 8, 8⟩
def HIF_LINK_SPEED : Fld := ⟨0x10008, 7, 4⟩
def HIF_LINK_WIDTH : Fld := ⟨0x10008, 3, 0⟩
def HIF_WBL_WB : Fld := ⟨0x10010, 31, 9⟩
def HIF_WBH : Fld := ⟨0x10014, 31, 0⟩
def HIF_MEM_MIB : Fld := ⟨0x10018, 10, 0⟩
def HIF_ID_VID : Fld := ⟨0x1001c, 31, 16⟩
def HIF_ID_DID : Fld := ⟨0x1001c, 15, 0⟩
def HIF_RBASEL_BASE (i : Nat) : Fld := ⟨0x10100 + 16 * i, 31, 12⟩
def HIF_RBASEH (i : Nat) : Fld := ⟨0x10104 + 16 * i, 31, 0⟩
def HIF_RCFG_EN (i : Nat) : Fld := ⟨0x10108 + 16 * i, 31, 31⟩
def HIF_RCFG_ERR (i : Nat) : Fld := ⟨0x10108 + 16 * i, 30, 30⟩
def HIF_RCFG_VEC (i : Nat) : Fld := ⟨0x10108 + 16 * i, 20, 16⟩
def HIF_RCFG_LSIZE (i : Nat) : Fld := ⟨0x10108 + 16 * i, 4, 0⟩
def HIF_RIRQ_CTIME (i : Nat) : Fld := ⟨0x1010c + 16 * i, 31, 16⟩
def HIF_RIRQ_CCNT (i : Nat) : Fld := ⟨0x1010c + 16 * i, 15, 0⟩
def HIF_SBML_MASKL (i : Nat) : Fld := ⟨0x10400 + 16 * i, 31, 0⟩
def HIF_SBMH_MASKH (i : Nat) : Fld := ⟨0x10404 + 16 * i, 31, 0⟩
def HIF_SBST_BOUND (i : Nat) : Fld := ⟨0x10408 + 16 * i, 31, 31⟩
def HIF_SBST_LOWRATE (i : Nat) : Fld := ⟨0x10408 + 16 * i, 30, 30⟩
def HIF_SBST_LOAD (i : Nat) : Fld := ⟨0x10408 + 16 * i, 25, 16⟩
def HIF_SBST_ANCH (i : Nat) : Fld := ⟨0x10408 + 16 * i, 7, 4⟩
def HIF_SBST_FMT (i : Nat) : Fld := ⟨0x10408 + 16 * i, 0, 0⟩
def SPN_POS_VALID : Fld := ⟨0x14000, 31, 31⟩
def SPN_POS_BOUND : Fld := ⟨0x14000, 30, 30⟩
def SPN_POS_POS : Fld := ⟨0x14000, 29, 24⟩
def SPN_POS_EID : Fld := ⟨0x14000, 23, 16⟩
def SPN_POS_HID : Fld := ⟨0x14000, 15, 0⟩
def SPN_ROUTE_HRS : Fld := ⟨0x14004, 2, 2⟩
def SPN_ROUTE_HRN : Fld := ⟨0x14004, 1, 1⟩
def SPN_ROUTE_WAY : Fld := ⟨0x14004, 0, 0⟩
def SPN_ENUM_GO : Fld := ⟨0x14008, 31, 31⟩
def SPN_ENUM_BUSY : Fld := ⟨0x14008, 30, 30⟩
def SPN_ENUM_CLOSED : Fld := ⟨0x14008, 29, 29⟩
def SPN_ENUM_EID : Fld := ⟨0x14008, 23, 16⟩
def SPN_ENUM_NLAST : Fld := ⟨0x14008, 13, 8⟩
def SPN_ENUM_SFIRST : Fld := ⟨0x14008, 5, 0⟩
def SPN_RING_OPEN : Fld := ⟨0x1400c, 31, 31⟩
def SPN_RING_RWAIT : Fld := ⟨0x1400c, 30, 30⟩
def SPN_RING_BRKN : Fld := ⟨0x1400c, 21, 16⟩
def SPN_RING_BRKS : Fld := ⟨0x1400c, 13, 8⟩
def SPN_RING_REPCNT : Fld := ⟨0x1400c, 7, 0⟩
def SPN_MAPL : Fld := ⟨0x14010, 31, 0⟩
def SPN_MAPH : Fld := ⟨0x14014, 31, 0⟩
def SPN_LOSTL : Fld := ⟨0x14018, 31, 0⟩
def SPN_LOSTH : Fld := ⟨0x1401c, 31, 0⟩
def SPN_UNNUM_UID : Fld := ⟨0x14020, 31, 16⟩
def SPN_UNNUM_CNT : Fld := ⟨0x14020, 7, 0⟩
def SPN_RCFG_RTOL : Fld := ⟨0x14024, 31, 24⟩
def SPN_RCFG_RTOH : Fld := ⟨0x14024, 23, 16⟩
def SPN_RCFG_RETRY : Fld := ⟨0x14024, 3, 0⟩
def SPN_CMD_LAST : Fld := ⟨0x14028, 31, 16⟩
def SPN_CMD_SYNCWAIT : Fld := ⟨0x14028, 0, 0⟩
def SPN_EVQ_DROP : Fld := ⟨0x1402c, 31, 16⟩
def SPN_EVQ_QUEUED : Fld := ⟨0x1402c, 7, 0⟩
def SPN_DISC_DISC : Fld := ⟨0x14030, 31, 16⟩
def SPN_DISC_TXDROP : Fld := ⟨0x14030, 15, 0⟩
def SPN_ALIVE_GAP : Fld := ⟨0x14034, 15, 0⟩
def SPN_PORTN_PWORD : Fld := ⟨0x14040, 31, 16⟩
def SPN_PORTN_DOWNCNT : Fld := ⟨0x14040, 15, 8⟩
def SPN_PORTN_INV : Fld := ⟨0x14040, 7, 7⟩
def SPN_PORTN_LEG : Fld := ⟨0x14040, 6, 6⟩
def SPN_PORTN_MISW : Fld := ⟨0x14040, 5, 5⟩
def SPN_PORTN_ONEWAY : Fld := ⟨0x14040, 4, 4⟩
def SPN_PORTN_STATE : Fld := ⟨0x14040, 2, 0⟩
def SPN_PORTS_PWORD : Fld := ⟨0x14044, 31, 16⟩
def SPN_PORTS_DOWNCNT : Fld := ⟨0x14044, 15, 8⟩
def SPN_PORTS_INV : Fld := ⟨0x14044, 7, 7⟩
def SPN_PORTS_LEG : Fld := ⟨0x14044, 6, 6⟩
def SPN_PORTS_MISW : Fld := ⟨0x14044, 5, 5⟩
def SPN_PORTS_ONEWAY : Fld := ⟨0x14044, 4, 4⟩
def SPN_PORTS_STATE : Fld := ⟨0x14044, 2, 0⟩
def SPN_TONE_TX : Fld := ⟨0x14048, 31, 16⟩
def SPN_TONE_RX : Fld := ⟨0x14048, 15, 0⟩
def SPN_ERRN_CRC16 : Fld := ⟨0x14050, 31, 16⟩
def SPN_ERRN_CRC32 : Fld := ⟨0x14050, 15, 0⟩
def SPN_ERRS_CRC16 : Fld := ⟨0x14054, 31, 16⟩
def SPN_ERRS_CRC32 : Fld := ⟨0x14054, 15, 0⟩
def SPN_CREDN_FROZEN : Fld := ⟨0x14058, 31, 31⟩
def SPN_CREDN_TC3 : Fld := ⟨0x14058, 27, 16⟩
def SPN_CREDN_TC2 : Fld := ⟨0x14058, 15, 8⟩
def SPN_CREDN_TC1 : Fld := ⟨0x14058, 7, 0⟩
def SPN_CREDS_FROZEN : Fld := ⟨0x1405c, 31, 31⟩
def SPN_CREDS_TC3 : Fld := ⟨0x1405c, 27, 16⟩
def SPN_CREDS_TC2 : Fld := ⟨0x1405c, 15, 8⟩
def SPN_CREDS_TC1 : Fld := ⟨0x1405c, 7, 0⟩
def SPN_RORD (i : Nat) : Fld := ⟨0x14100 + 4 * i, 31, 0⟩
def CRC_CTX_INIT (i : Nat) : Fld := ⟨0x18000 + 32 * i, 9, 9⟩
def CRC_CTX_EN (i : Nat) : Fld := ⟨0x18000 + 32 * i, 8, 8⟩
def CRC_CTX_DW (i : Nat) : Fld := ⟨0x18000 + 32 * i, 5, 4⟩
def CRC_CTX_TAP (i : Nat) : Fld := ⟨0x18000 + 32 * i, 3, 2⟩
def CRC_CTX_POLY (i : Nat) : Fld := ⟨0x18000 + 32 * i, 1, 0⟩
def CRC_DATA (i : Nat) : Fld := ⟨0x18004 + 32 * i, 31, 0⟩
def CRC_VAL (i : Nat) : Fld := ⟨0x18008 + 32 * i, 31, 0⟩
def CRC_RES (i : Nat) : Fld := ⟨0x1800c + 32 * i, 31, 0⟩
def CRC_CNT (i : Nat) : Fld := ⟨0x18010 + 32 * i, 31, 0⟩
def CRC_STAT_DERR : Fld := ⟨0x18080, 3, 0⟩
def IIC_CFG_CSTO : Fld := ⟨0x1c000, 31, 24⟩
def IIC_CFG_RETRY : Fld := ⟨0x1c000, 23, 20⟩
def IIC_CFG_TTO : Fld := ⟨0x1c000, 15, 8⟩
def IIC_CFG_TIDLE : Fld := ⟨0x1c000, 7, 2⟩
def IIC_CFG_TEN : Fld := ⟨0x1c000, 1, 1⟩
def IIC_CFG_CEN : Fld := ⟨0x1c000, 0, 0⟩
def IIC_TIM1_THIGH : Fld := ⟨0x1c004, 31, 16⟩
def IIC_TIM1_TLOW : Fld := ⟨0x1c004, 15, 0⟩
def IIC_TIM2_TSUSTA : Fld := ⟨0x1c008, 31, 16⟩
def IIC_TIM2_THDSTA : Fld := ⟨0x1c008, 15, 0⟩
def IIC_TIM3_TBUF : Fld := ⟨0x1c00c, 31, 16⟩
def IIC_TIM3_TSUSTO : Fld := ⟨0x1c00c, 15, 0⟩
def IIC_TIM4_THDDAT : Fld := ⟨0x1c010, 7, 0⟩
def IIC_TADR_TODA : Fld := ⟨0x1c014, 22, 16⟩
def IIC_TADR_TA : Fld := ⟨0x1c014, 6, 0⟩
def IIC_CTRL_CLRSTK : Fld := ⟨0x1c018, 1, 1⟩
def IIC_CTRL_GO : Fld := ⟨0x1c018, 0, 0⟩
def IIC_XCTL_A10 : Fld := ⟨0x1c01c, 31, 31⟩
def IIC_XCTL_ADDR : Fld := ⟨0x1c01c, 25, 16⟩
def IIC_XCTL_RLEN : Fld := ⟨0x1c01c, 15, 8⟩
def IIC_XCTL_WLEN : Fld := ⟨0x1c01c, 7, 0⟩
def IIC_STAT_BUSY : Fld := ⟨0x1c020, 31, 31⟩
def IIC_STAT_STUCK : Fld := ⟨0x1c020, 30, 30⟩
def IIC_STAT_STUCKSCL : Fld := ⟨0x1c020, 29, 29⟩
def IIC_STAT_XRUN : Fld := ⟨0x1c020, 28, 28⟩
def IIC_STAT_LOSTBIT : Fld := ⟨0x1c020, 27, 16⟩
def IIC_STAT_XDONE : Fld := ⟨0x1c020, 15, 15⟩
def IIC_STAT_XST : Fld := ⟨0x1c020, 11, 8⟩
def IIC_STAT_XCNT : Fld := ⟨0x1c020, 7, 0⟩
def IIC_CNT_ARBCNT : Fld := ⟨0x1c024, 31, 16⟩
def IIC_CNT_TTOCNT : Fld := ⟨0x1c024, 15, 0⟩
def IIC_TSTAT_RXNEW : Fld := ⟨0x1c028, 31, 31⟩
def IIC_TSTAT_TXRD : Fld := ⟨0x1c028, 30, 30⟩
def IIC_TSTAT_RXLEN : Fld := ⟨0x1c028, 6, 0⟩
def IIC_TTXL_TXLEN : Fld := ⟨0x1c02c, 6, 0⟩
def IIC_XBUF (i : Nat) : Fld := ⟨0x1c100 + 4 * i, 31, 0⟩
def IIC_TRX (i : Nat) : Fld := ⟨0x1c200 + 4 * i, 31, 0⟩
def IIC_TTX (i : Nat) : Fld := ⟨0x1c300 + 4 * i, 31, 0⟩
def BDL_CFG_ERRLIM : Fld := ⟨0x20000, 11, 8⟩
def BDL_CFG_AUTOS : Fld := ⟨0x20000, 5, 4⟩
def BDL_CFG_LEN : Fld := ⟨0x20000, 1, 0⟩
def BDL_CTRL_SRCH : Fld := ⟨0x20004, 1, 0⟩
def BDL_XCTL_GO : Fld := ⟨0x20008, 31, 31⟩
def BDL_XCTL_LINE : Fld := ⟨0x20008, 24, 24⟩
def BDL_XCTL_CODE : Fld := ⟨0x20008, 20, 16⟩
def BDL_XCTL_ADDR : Fld := ⟨0x20008, 13, 8⟩
def BDL_XCTL_SPU : Fld := ⟨0x20008, 7, 0⟩
def BDL_XRES_DONE : Fld := ⟨0x2000c, 31, 31⟩
def BDL_XRES_REFUSED : Fld := ⟨0x2000c, 30, 30⟩
def BDL_XRES_ERR : Fld := ⟨0x2000c, 29, 28⟩
def BDL_XRES_ST : Fld := ⟨0x2000c, 27, 24⟩
def BDL_XRES_DATA : Fld := ⟨0x2000c, 15, 0⟩
def BDL_IDV0 : Fld := ⟨0x20010, 31, 0⟩
def BDL_IDV1 : Fld := ⟨0x20014, 31, 0⟩
def BDL_SCH_EN (i : Nat) : Fld := ⟨0x20040 + 32 * i, 31, 31⟩
def BDL_SCH_FCHK (i : Nat) : Fld := ⟨0x20040 + 32 * i, 30, 30⟩
def BDL_SCH_SPER (i : Nat) : Fld := ⟨0x20040 + 32 * i, 23, 16⟩
def BDL_SCH_SOFS (i : Nat) : Fld := ⟨0x20040 + 32 * i, 15, 0⟩
def BDL_SCODE_R2CODE (i : Nat) : Fld := ⟨0x20044 + 32 * i, 27, 24⟩
def BDL_SCODE_READCODE (i : Nat) : Fld := ⟨0x20044 + 32 * i, 19, 16⟩
def BDL_SCODE_CONVCODE (i : Nat) : Fld := ⟨0x20044 + 32 * i, 11, 8⟩
def BDL_SCODE_TCONV (i : Nat) : Fld := ⟨0x20044 + 32 * i, 7, 0⟩
def BDL_RMASK (i : Nat) : Fld := ⟨0x20048 + 32 * i, 31, 0⟩
def BDL_R2MASK (i : Nat) : Fld := ⟨0x2004c + 32 * i, 31, 0⟩
def BDL_LSTAT_VALID (i : Nat) : Fld := ⟨0x20050 + 32 * i, 31, 31⟩
def BDL_LSTAT_SRCH (i : Nat) : Fld := ⟨0x20050 + 32 * i, 30, 30⟩
def BDL_LSTAT_RCHG (i : Nat) : Fld := ⟨0x20050 + 32 * i, 29, 29⟩
def BDL_LSTAT_FULL (i : Nat) : Fld := ⟨0x20050 + 32 * i, 28, 28⟩
def BDL_LSTAT_NEWPRB (i : Nat) : Fld := ⟨0x20050 + 32 * i, 27, 27⟩
def BDL_LSTAT_SHORT (i : Nat) : Fld := ⟨0x20050 + 32 * i, 26, 26⟩
def BDL_LSTAT_SPUERR (i : Nat) : Fld := ⟨0x20050 + 32 * i, 25, 25⟩
def BDL_LSTAT_NPROBE (i : Nat) : Fld := ⟨0x20050 + 32 * i, 21, 16⟩
def BDL_LSTAT_OVRUN (i : Nat) : Fld := ⟨0x20050 + 32 * i, 15, 8⟩
def BDL_LSTAT_FCNT (i : Nat) : Fld := ⟨0x20050 + 32 * i, 7, 0⟩
def BDL_ROSTER (i : Nat) : Fld := ⟨0x20054 + 32 * i, 31, 0⟩
def BDL_FAILED (i : Nat) : Fld := ⟨0x20058 + 32 * i, 31, 0⟩
def BDL_FSEQ (i : Nat) : Fld := ⟨0x2005c + 32 * i, 31, 0⟩
def BDL_RES_VALID (i : Nat) : Fld := ⟨0x20100 + 4 * (i - 1), 31, 31⟩
def BDL_RES_STALE (i : Nat) : Fld := ⟨0x20100 + 4 * (i - 1), 30, 30⟩
def BDL_RES_ALARM (i : Nat) : Fld := ⟨0x20100 + 4 * (i - 1), 29, 29⟩
def BDL_RES_FRESH (i : Nat) : Fld := ⟨0x20100 + 4 * (i - 1), 28, 28⟩
def BDL_RES_ERRC (i : Nat) : Fld := ⟨0x20100 + 4 * (i - 1), 27, 24⟩
def BDL_RES_DATA (i : Nat) : Fld := ⟨0x20100 + 4 * (i - 1), 15, 0⟩
def BDL_RES2_VALID (i : Nat) : Fld := ⟨0x20200 + 4 * (i - 1), 31, 31⟩
def BDL_RES2_STALE (i : Nat) : Fld := ⟨0x20200 + 4 * (i - 1), 30, 30⟩
def BDL_RES2_ALARM (i : Nat) : Fld := ⟨0x20200 + 4 * (i - 1), 29, 29⟩
def BDL_RES2_FRESH (i : Nat) : Fld := ⟨0x20200 + 4 * (i - 1), 28, 28⟩
def BDL_RES2_ERRC (i : Nat) : Fld := ⟨0x20200 + 4 * (i - 1), 27, 24⟩
def BDL_RES2_DATA (i : Nat) : Fld := ⟨0x20200 + 4 * (i - 1), 15, 0⟩
def BDL_IDL_LOT (i : Nat) : Fld := ⟨0x20300 + 8 * (i - 1), 31, 16⟩
def BDL_IDL_CHAN (i : Nat) : Fld := ⟨0x20300 + 8 * (i - 1), 15, 12⟩
def BDL_IDL_VER (i : Nat) : Fld := ⟨0x20300 + 8 * (i - 1), 11, 8⟩
def BDL_IDL_TYPE (i : Nat) : Fld := ⟨0x20300 + 8 * (i - 1), 7, 0⟩
def BDL_IDH_SERIAL (i : Nat) : Fld := ⟨0x20304 + 8 * (i - 1), 31, 0⟩
def IMP_CTRL_ABORT : Fld := ⟨0x24000, 1, 1⟩
def IMP_CTRL_ARM : Fld := ⟨0x24000, 0, 0⟩
def IMP_CFG_REQLK : Fld := ⟨0x24004, 31, 31⟩
def IMP_CFG_PSRC : Fld := ⟨0x24004, 29, 28⟩
def IMP_CFG_PNEG : Fld := ⟨0x24004, 27, 27⟩
def IMP_CFG_MODE : Fld := ⟨0x24004, 24, 24⟩
def IMP_CFG_PTEV : Fld := ⟨0x24004, 0, 0⟩
def IMP_STARTL : Fld := ⟨0x24008, 31, 0⟩
def IMP_STARTH : Fld := ⟨0x2400c, 31, 0⟩
def IMP_SHR : Fld := ⟨0x24010, 31, 0⟩
def IMP_CMASKL : Fld := ⟨0x24014, 31, 0⟩
def IMP_CMASKH : Fld := ⟨0x24018, 3, 0⟩
def IMP_LIM_ASUM : Fld := ⟨0x2401c, 15, 0⟩
def IMP_NPT : Fld := ⟨0x24020, 6, 0⟩
def IMP_STAT_STATE : Fld := ⟨0x24024, 31, 28⟩
def IMP_STAT_RESULT : Fld := ⟨0x24024, 27, 24⟩
def IMP_STAT_CHK : Fld := ⟨0x24024, 20, 16⟩
def IMP_STAT_PT : Fld := ⟨0x24024, 15, 8⟩
def IMP_STAT_CORR : Fld := ⟨0x24024, 0, 0⟩
def IMP_PROG : Fld := ⟨0x24028, 31, 0⟩
def IMP_RSEL_PT : Fld := ⟨0x2402c, 5, 0⟩
def IMP_PTA_AMP (i : Nat) : Fld := ⟨0x24100 + 8 * i, 31, 24⟩
def IMP_PTA_SETTLE (i : Nat) : Fld := ⟨0x24100 + 8 * i, 23, 22⟩
def IMP_PTA_AVGM1 (i : Nat) : Fld := ⟨0x24100 + 8 * i, 21, 18⟩
def IMP_PTA_KB (i : Nat) : Fld := ⟨0x24100 + 8 * i, 15, 0⟩
def IMP_PTB_PB (i : Nat) : Fld := ⟨0x24104 + 8 * i, 19, 0⟩
def IMP_RWIN_W (i : Nat) : Fld := ⟨0x25000 + 4 * i, 31, 0⟩
def BAL_CTRL_STOP : Fld := ⟨0x28000, 1, 1⟩
def BAL_CTRL_START : Fld := ⟨0x28000, 0, 0⟩
def BAL_PCFG_TRESUME : Fld := ⟨0x28004, 31, 31⟩
def BAL_PCFG_GSTOP : Fld := ⟨0x28004, 30, 30⟩
def BAL_PCFG_CDEV : Fld := ⟨0x28004, 29, 29⟩
def BAL_PCFG_QK : Fld := ⟨0x28004, 23, 16⟩
def BAL_PCFG_PWIN : Fld := ⟨0x28004, 7, 0⟩
def BAL_LIM_NMAX : Fld := ⟨0x28008, 31, 24⟩
def BAL_LIM_TDER : Fld := ⟨0x28008, 23, 16⟩
def BAL_LIM_ISUM : Fld := ⟨0x28008, 15, 0⟩
def BAL_PTMAX : Fld := ⟨0x2800c, 31, 0⟩
def BAL_XFMR_RWS : Fld := ⟨0x28010, 31, 16⟩
def BAL_XFMR_RWP : Fld := ⟨0x28010, 15, 0⟩
def BAL_LCHK_LTOLA : Fld := ⟨0x28014, 31, 16⟩
def BAL_LCHK_LTOLP : Fld := ⟨0x28014, 7, 0⟩
def BAL_STAT_PCNT : Fld := ⟨0x28018, 31, 16⟩
def BAL_STAT_PAUSE : Fld := ⟨0x28018, 13, 8⟩
def BAL_STAT_ENDC : Fld := ⟨0x28018, 7, 4⟩
def BAL_STAT_SPEND : Fld := ⟨0x28018, 2, 2⟩
def BAL_STAT_PAUSED : Fld := ⟨0x28018, 1, 1⟩
def BAL_STAT_ACTIVE : Fld := ⟨0x28018, 0, 0⟩
def BAL_CSET_DIR (i : Nat) : Fld := ⟨0x28100 + 4 * (i - 1), 31, 30⟩
def BAL_CSET_TTYP (i : Nat) : Fld := ⟨0x28100 + 4 * (i - 1), 29, 28⟩
def BAL_CSET_ISET (i : Nat) : Fld := ⟨0x28100 + 4 * (i - 1), 7, 0⟩
def BAL_CTGT_TGT (i : Nat) : Fld := ⟨0x28200 + 4 * (i - 1), 31, 0⟩
def BAL_RW (i : Nat) : Fld := ⟨0x28300 + 4 * i, 15, 0⟩
def BAL_CSTS_STATE (i : Nat) : Fld := ⟨0x28400 + 4 * (i - 1), 31, 28⟩
def BAL_CSTS_IEFF (i : Nat) : Fld := ⟨0x28400 + 4 * (i - 1), 23, 16⟩
def BAL_CSTS_ILAST (i : Nat) : Fld := ⟨0x28400 + 4 * (i - 1), 15, 0⟩
def BAL_CPROG (i : Nat) : Fld := ⟨0x28500 + 4 * (i - 1), 31, 0⟩
def LCS_STAT_STATE : Fld := ⟨0x2c000, 31, 29⟩
def LCS_STAT_TORN : Fld := ⟨0x2c000, 28, 28⟩
def LCS_STAT_BUSY : Fld := ⟨0x2c000, 27, 27⟩
def LCS_STAT_AUTHW : Fld := ⟨0x2c000, 26, 26⟩
def LCS_STAT_SVCLEFT : Fld := ⟨0x2c000, 21, 16⟩
def LCS_STAT_RESULT : Fld := ⟨0x2c000, 3, 0⟩
def LCS_REQ_TARGET : Fld := ⟨0x2c004, 2, 0⟩
def LCS_CHAL (i : Nat) : Fld := ⟨0x2c010 + 4 * i, 31, 0⟩
def LCS_RESP (i : Nat) : Fld := ⟨0x2c020 + 4 * i, 31, 0⟩
def BST_CTRL_RETIRE : Fld := ⟨0x30000, 3, 3⟩
def BST_CTRL_REPAIR : Fld := ⟨0x30000, 2, 2⟩
def BST_CTRL_ABORT : Fld := ⟨0x30000, 1, 1⟩
def BST_CTRL_GO : Fld := ⟨0x30000, 0, 0⟩
def BST_CFG_BANKS : Fld := ⟨0x30004, 21, 16⟩
def BST_CFG_MARG : Fld := ⟨0x30004, 9, 8⟩
def BST_CFG_ALG : Fld := ⟨0x30004, 1, 0⟩
def BST_STAT_STATE : Fld := ⟨0x30008, 31, 28⟩
def BST_STAT_RESULT : Fld := ⟨0x30008, 27, 24⟩
def BST_STAT_CAUSE : Fld := ⟨0x30008, 23, 20⟩
def BST_STAT_BANK : Fld := ⟨0x30008, 2, 0⟩
def BST_BG_CYC : Fld := ⟨0x3000c, 31, 16⟩
def BST_BG_PER : Fld := ⟨0x3000c, 15, 0⟩
def BST_MAP_FUSERET : Fld := ⟨0x30010, 13, 8⟩
def BST_MAP_SOFTRET : Fld := ⟨0x30010, 5, 0⟩
def BST_RES_RES (i : Nat) : Fld := ⟨0x30100 + 16 * i, 31, 30⟩
def BST_RES_FROWS (i : Nat) : Fld := ⟨0x30100 + 16 * i, 29, 24⟩
def BST_RES_SPARES (i : Nat) : Fld := ⟨0x30100 + 16 * i, 23, 20⟩
def BST_RES_FADDR (i : Nat) : Fld := ⟨0x30100 + 16 * i, 19, 0⟩
def BST_FBIT (i : Nat) : Fld := ⟨0x30104 + 16 * i, 31, 0⟩
def BST_FCNT (i : Nat) : Fld := ⟨0x30108 + 16 * i, 31, 0⟩
def FW_IMG_FALLBK : Fld := ⟨0x34000, 9, 9⟩
def FW_IMG_TRIAL : Fld := ⟨0x34000, 8, 8⟩
def FW_IMG_NEXT : Fld := ⟨0x34000, 4, 4⟩
def FW_IMG_RUN : Fld := ⟨0x34000, 0, 0⟩
def FW_VERA_VER : Fld := ⟨0x34004, 31, 0⟩
def FW_VERB_VER : Fld := ⟨0x34008, 31, 0⟩
def FW_SVN_RUN : Fld := ⟨0x3400c, 15, 8⟩
def FW_SVN_MIN : Fld := ⟨0x3400c, 7, 0⟩
def FW_UPDCTL_PAGE : Fld := ⟨0x34010, 23, 16⟩
def FW_UPDCTL_RST : Fld := ⟨0x34010, 5, 5⟩
def FW_UPDCTL_CONFIRM : Fld := ⟨0x34010, 4, 4⟩
def FW_UPDCTL_ACT : Fld := ⟨0x34010, 3, 3⟩
def FW_UPDCTL_VERIFY : Fld := ⟨0x34010, 2, 2⟩
def FW_UPDCTL_PROG : Fld := ⟨0x34010, 1, 1⟩
def FW_UPDCTL_ERASE : Fld := ⟨0x34010, 0, 0⟩
def FW_UPDSTAT_STATE : Fld := ⟨0x34014, 31, 28⟩
def FW_UPDSTAT_RESULT : Fld := ⟨0x34014, 27, 24⟩
def FW_UPDSTAT_PAGES : Fld := ⟨0x34014, 7, 0⟩
def FW_TRIAL_TTRIAL : Fld := ⟨0x34018, 15, 0⟩
def FW_PPCFG_GPER : Fld := ⟨0x34100, 23, 16⟩
def FW_PPCFG_WTRIP : Fld := ⟨0x34100, 3, 3⟩
def FW_PPCFG_XEN : Fld := ⟨0x34100, 2, 2⟩
def FW_PPCFG_OCEN : Fld := ⟨0x34100, 1, 1⟩
def FW_PPCFG_EN : Fld := ⟨0x34100, 0, 0⟩
def FW_PPOV : Fld := ⟨0x34104, 31, 0⟩
def FW_PPUV : Fld := ⟨0x34108, 31, 0⟩
def FW_PPDEG_DUV : Fld := ⟨0x3410c, 31, 16⟩
def FW_PPDEG_DOV : Fld := ⟨0x3410c, 15, 0⟩
def FW_PPOC : Fld := ⟨0x34110, 31, 0⟩
def FW_PPTML : Fld := ⟨0x34114, 31, 0⟩
def FW_PPTMU : Fld := ⟨0x34118, 31, 0⟩
def FW_PPXC_XTOL : Fld := ⟨0x3411c, 31, 16⟩
def FW_PPXC_XENT : Fld := ⟨0x3411c, 4, 0⟩
def FW_PPCTRL_LRST : Fld := ⟨0x34120, 0, 0⟩
def FW_PPSTAT_LATCH : Fld := ⟨0x34124, 31, 31⟩
def FW_PPSTAT_LRREF : Fld := ⟨0x34124, 30, 30⟩
def FW_PPSTAT_CAUSE : Fld := ⟨0x34124, 27, 24⟩
def FW_PPSTAT_CELL : Fld := ⟨0x34124, 21, 16⟩
def FW_PPSTAT_TRIPCNT : Fld := ⟨0x34124, 15, 0⟩
def FW_CAPCFG_POST : Fld := ⟨0x34200, 31, 16⟩
def FW_CAPCFG_PRE : Fld := ⟨0x34200, 15, 0⟩
def FW_CAPCTL_THAW : Fld := ⟨0x34204, 0, 0⟩
def FW_CAPST_FROZEN : Fld := ⟨0x34208, 31, 31⟩
def FW_CAPST_POSTING : Fld := ⟨0x34208, 30, 30⟩
def FW_CAPST_HELD : Fld := ⟨0x34208, 29, 29⟩
def FW_CAPST_NCAP : Fld := ⟨0x34208, 15, 0⟩
def FW_CAPOLD : Fld := ⟨0x3420c, 31, 0⟩
def FW_CAPCNT_LOST : Fld := ⟨0x34210, 31, 16⟩
def FW_CAPCNT_HELD : Fld := ⟨0x34210, 15, 0⟩
def FW_LEG_SAVE : Fld := ⟨0x34300, 31, 31⟩
def FW_LEG_EN : Fld := ⟨0x34300, 16, 16⟩
def FW_LEG_DTO : Fld := ⟨0x34300, 15, 8⟩
def FW_LEG_ISET : Fld := ⟨0x34300, 7, 0⟩
def FW_LPXC_GO : Fld := ⟨0x34304, 31, 31⟩
def FW_LPXC_CMD : Fld := ⟨0x34304, 27, 24⟩
def FW_LPXC_ADDR : Fld := ⟨0x34304, 21, 16⟩
def FW_LPXC_REG : Fld := ⟨0x34304, 7, 0⟩
def FW_LPXD_DATA : Fld := ⟨0x34308, 15, 0⟩
def FW_LPXR_DONE : Fld := ⟨0x3430c, 31, 31⟩
def FW_LPXR_ERR : Fld := ⟨0x3430c, 30, 29⟩
def FW_LPXR_CC : Fld := ⟨0x3430c, 27, 24⟩
def FW_LPXR_STS : Fld := ⟨0x3430c, 21, 16⟩
def FW_LPXR_DATA : Fld := ⟨0x3430c, 15, 0⟩
def FW_LSTAT_BRIDGE : Fld := ⟨0x34310, 31, 31⟩
def FW_LSTAT_PORT : Fld := ⟨0x34310, 30, 30⟩
def FW_LSTAT_NLEG : Fld := ⟨0x34310, 5, 0⟩
def FW_UPDBUF (i : Nat) : Fld := ⟨0x35000 + 4 * i, 31, 0⟩
def CVW_WLEN (d : Afe) : Fld := ⟨afeBase d, 22, 0⟩
def CVW_SUMM_M (d : Afe) : Fld := ⟨afeBase d + 0x4, 15, 0⟩
def CVW_EPOCHL_EPOCH (d : Afe) : Fld := ⟨afeBase d + 0x8, 31, 0⟩
def CVW_EPOCHH_EPOCH (d : Afe) : Fld := ⟨afeBase d + 0xc, 31, 0⟩
def CVW_APPLYL_APPLY (d : Afe) : Fld := ⟨afeBase d + 0x10, 31, 0⟩
def CVW_APPLYH_APPLY (d : Afe) : Fld := ⟨afeBase d + 0x14, 31, 0⟩
def CVW_OUT_ANCH (d : Afe) : Fld := ⟨afeBase d + 0x18, 7, 4⟩
def CVW_OUT_FMT (d : Afe) : Fld := ⟨afeBase d + 0x18, 0, 0⟩
def CVW_CAPT_FORCE (d : Afe) : Fld := ⟨afeBase d + 0x20, 16, 16⟩
def CVW_CAPT_PROP (d : Afe) : Fld := ⟨afeBase d + 0x20, 8, 8⟩
def CVW_CAPT_CHAIN (d : Afe) : Fld := ⟨afeBase d + 0x20, 4, 4⟩
def CVW_CAPT_TRIP (d : Afe) : Fld := ⟨afeBase d + 0x20, 3, 3⟩
def CVW_CAPT_IHI (d : Afe) : Fld := ⟨afeBase d + 0x20, 2, 2⟩
def CVW_CAPT_CELLLO (d : Afe) : Fld := ⟨afeBase d + 0x20, 1, 1⟩
def CVW_CAPT_CELLHI (d : Afe) : Fld := ⟨afeBase d + 0x20, 0, 0⟩
def CVW_CTHI_THI (d : Afe) : Fld := ⟨afeBase d + 0x24, 31, 0⟩
def CVW_CTLO_TLO (d : Afe) : Fld := ⟨afeBase d + 0x28, 31, 0⟩
def CVW_CITH_ITH (d : Afe) : Fld := ⟨afeBase d + 0x2c, 31, 0⟩
def CVW_MARK_ATEN (d : Afe) : Fld := ⟨afeBase d + 0x30, 8, 8⟩
def CVW_MARK_CODE (d : Afe) : Fld := ⟨afeBase d + 0x30, 7, 0⟩
def CVW_MARKW (d : Afe) : Fld := ⟨afeBase d + 0x34, 31, 0⟩
def CVW_EVEN_SUMEV (d : Afe) : Fld := ⟨afeBase d + 0x38, 3, 3⟩
def CVW_EVEN_RNGEV (d : Afe) : Fld := ⟨afeBase d + 0x38, 2, 2⟩
def CVW_EVEN_OVREV (d : Afe) : Fld := ⟨afeBase d + 0x38, 1, 1⟩
def CVW_EVEN_BRKEV (d : Afe) : Fld := ⟨afeBase d + 0x38, 0, 0⟩
def CVW_STAT_ERAU (d : Afe) : Fld := ⟨afeBase d + 0x40, 31, 24⟩
def CVW_STAT_ERAL (d : Afe) : Fld := ⟨afeBase d + 0x40, 23, 16⟩
def CVW_STAT_MRKOVW (d : Afe) : Fld := ⟨afeBase d + 0x40, 3, 3⟩
def CVW_STAT_LATE (d : Afe) : Fld := ⟨afeBase d + 0x40, 2, 2⟩
def CVW_STAT_INTEG (d : Afe) : Fld := ⟨afeBase d + 0x40, 1, 1⟩
def CVW_WSEQ (d : Afe) : Fld := ⟨afeBase d + 0x44, 31, 0⟩
def CVW_SSEQ (d : Afe) : Fld := ⟨afeBase d + 0x48, 31, 0⟩
def CVW_CCYCL (d : Afe) : Fld := ⟨afeBase d + 0x4c, 31, 0⟩
def CVW_CCYCH (d : Afe) : Fld := ⟨afeBase d + 0x50, 31, 0⟩
def CVW_WLAST (d : Afe) : Fld := ⟨afeBase d + 0x54, 31, 0⟩
def CVW_ICFG_IEN (d : Afe) : Fld := ⟨afeBase d + 0x60, 0, 0⟩
def CVW_FRES (d : Afe) (i : Nat) : Fld := ⟨afeBase d + 0x100 + 4 * (i - 1), 31, 0⟩
def CVW_FFLG (d : Afe) (i : Nat) : Fld := ⟨afeBase d + 0x180 + 4 * (i - 1), 15, 0⟩
def CVW_SMEAN (d : Afe) (i : Nat) : Fld := ⟨afeBase d + 0x200 + 4 * (i - 1), 31, 0⟩
def CVW_SMIN (d : Afe) (i : Nat) : Fld := ⟨afeBase d + 0x280 + 4 * (i - 1), 31, 0⟩
def CVW_SMAX (d : Afe) (i : Nat) : Fld := ⟨afeBase d + 0x300 + 4 * (i - 1), 31, 0⟩
def CVW_SFLG_PART (d : Afe) (i : Nat) : Fld := ⟨afeBase d + 0x380 + 4 * (i - 1), 31, 31⟩
def CVW_SFLG_FLG (d : Afe) (i : Nat) : Fld := ⟨afeBase d + 0x380 + 4 * (i - 1), 15, 0⟩
def CVW_CINTL (d : Afe) (i : Nat) : Fld := ⟨afeBase d + 0x400 + 8 * (i - 1), 31, 0⟩
def CVW_CINTH (d : Afe) (i : Nat) : Fld := ⟨afeBase d + 0x404 + 8 * (i - 1), 31, 0⟩
def AUX_CTRL_GO (d : Afe) : Fld := ⟨afeBase d + 0x1000, 1, 1⟩
def AUX_CTRL_EN (d : Afe) : Fld := ⟨afeBase d + 0x1000, 0, 0⟩
def AUX_TRIG_PH (d : Afe) : Fld := ⟨afeBase d + 0x1004, 20, 16⟩
def AUX_TRIG_TDIV (d : Afe) : Fld := ⟨afeBase d + 0x1004, 15, 8⟩
def AUX_TRIG_EDGE (d : Afe) : Fld := ⟨afeBase d + 0x1004, 5, 4⟩
def AUX_TRIG_SRC (d : Afe) : Fld := ⟨afeBase d + 0x1004, 2, 0⟩
def AUX_TDLY (d : Afe) : Fld := ⟨afeBase d + 0x1008, 15, 0⟩
def AUX_TPER (d : Afe) : Fld := ⟨afeBase d + 0x100c, 23, 0⟩
def AUX_TOFS (d : Afe) : Fld := ⟨afeBase d + 0x1010, 23, 0⟩
def AUX_SEQ_LOOP (d : Afe) : Fld := ⟨afeBase d + 0x1014, 15, 8⟩
def AUX_SEQ_LAST (d : Afe) : Fld := ⟨afeBase d + 0x1014, 4, 0⟩
def AUX_STAT_PASSCNT (d : Afe) : Fld := ⟨afeBase d + 0x1018, 31, 16⟩
def AUX_STAT_ENTRY (d : Afe) : Fld := ⟨afeBase d + 0x1018, 15, 8⟩
def AUX_STAT_DONE (d : Afe) : Fld := ⟨afeBase d + 0x1018, 2, 2⟩
def AUX_STAT_WAIT (d : Afe) : Fld := ⟨afeBase d + 0x1018, 1, 1⟩
def AUX_STAT_BUSY (d : Afe) : Fld := ⟨afeBase d + 0x1018, 0, 0⟩
def AUX_TMISS (d : Afe) : Fld := ⟨afeBase d + 0x101c, 15, 0⟩
def AUX_DROP (d : Afe) : Fld := ⟨afeBase d + 0x1020, 15, 0⟩
def AUX_EVEN_OVREV (d : Afe) : Fld := ⟨afeBase d + 0x1024, 3, 3⟩
def AUX_EVEN_TMEV (d : Afe) : Fld := ⟨afeBase d + 0x1024, 2, 2⟩
def AUX_EVEN_DROPEV (d : Afe) : Fld := ⟨afeBase d + 0x1024, 1, 1⟩
def AUX_EVEN_BANDEV (d : Afe) : Fld := ⟨afeBase d + 0x1024, 0, 0⟩
def AUX_URG_GO (d : Afe) : Fld := ⟨afeBase d + 0x1028, 31, 31⟩
def AUX_URG_SEL (d : Afe) : Fld := ⟨afeBase d + 0x1028, 12, 8⟩
def AUX_URG_INPUT (d : Afe) : Fld := ⟨afeBase d + 0x1028, 4, 0⟩
def AUX_URES_DONE (d : Afe) : Fld := ⟨afeBase d + 0x102c, 31, 31⟩
def AUX_URES_DROP (d : Afe) : Fld := ⟨afeBase d + 0x102c, 30, 30⟩
def AUX_URES_OVR (d : Afe) : Fld := ⟨afeBase d + 0x102c, 29, 29⟩
def AUX_URES_CODE (d : Afe) : Fld := ⟨afeBase d + 0x102c, 15, 0⟩
def AUX_PLC_PCONS (d : Afe) : Fld := ⟨afeBase d + 0x1030, 15, 12⟩
def AUX_PLC_CPW (d : Afe) : Fld := ⟨afeBase d + 0x1030, 9, 8⟩
def AUX_PLC_SLOG (d : Afe) : Fld := ⟨afeBase d + 0x1030, 6, 4⟩
def AUX_PLC_EN (d : Afe) : Fld := ⟨afeBase d + 0x1030, 0, 0⟩
def AUX_PLIM_BALW (d : Afe) : Fld := ⟨afeBase d + 0x1034, 31, 16⟩
def AUX_PLIM_LIM (d : Afe) : Fld := ⟨afeBase d + 0x1034, 15, 0⟩
def AUX_PSTAT_SUSP (d : Afe) : Fld := ⟨afeBase d + 0x1038, 31, 31⟩
def AUX_PSTAT_CELL (d : Afe) : Fld := ⟨afeBase d + 0x1038, 21, 16⟩
def AUX_PSTAT_FCNT (d : Afe) : Fld := ⟨afeBase d + 0x1038, 15, 0⟩
def AUX_PSKIP_SKIP (d : Afe) : Fld := ⟨afeBase d + 0x103c, 31, 16⟩
def AUX_SETX_D (d : Afe) : Fld := ⟨afeBase d + 0x1040, 31, 24⟩
def AUX_SETX_C (d : Afe) : Fld := ⟨afeBase d + 0x1040, 23, 16⟩
def AUX_SETX_B (d : Afe) : Fld := ⟨afeBase d + 0x1040, 15, 8⟩
def AUX_SETX_A (d : Afe) : Fld := ⟨afeBase d + 0x1040, 7, 0⟩
def AUX_ENTA_DLY (d : Afe) (i : Nat) : Fld := ⟨afeBase d + 0x1100 + 8 * i, 31, 16⟩
def AUX_ENTA_REPM1 (d : Afe) (i : Nat) : Fld := ⟨afeBase d + 0x1100 + 8 * i, 15, 8⟩
def AUX_ENTA_WAITTRG (d : Afe) (i : Nat) : Fld := ⟨afeBase d + 0x1100 + 8 * i, 7, 7⟩
def AUX_ENTA_BEN (d : Afe) (i : Nat) : Fld := ⟨afeBase d + 0x1100 + 8 * i, 6, 6⟩
def AUX_ENTA_INPUT (d : Afe) (i : Nat) : Fld := ⟨afeBase d + 0x1100 + 8 * i, 4, 0⟩
def AUX_ENTB_SEL (d : Afe) (i : Nat) : Fld := ⟨afeBase d + 0x1104 + 8 * i, 20, 16⟩
def AUX_ENTB_HYS (d : Afe) (i : Nat) : Fld := ⟨afeBase d + 0x1104 + 8 * i, 15, 0⟩
def AUX_BAND_HI (d : Afe) (i : Nat) : Fld := ⟨afeBase d + 0x1200 + 4 * i, 31, 16⟩
def AUX_BAND_LO (d : Afe) (i : Nat) : Fld := ⟨afeBase d + 0x1200 + 4 * i, 15, 0⟩
def AUX_RES_OVR (d : Afe) (i : Nat) : Fld := ⟨afeBase d + 0x1280 + 4 * i, 31, 31⟩
def AUX_RES_OUT (d : Afe) (i : Nat) : Fld := ⟨afeBase d + 0x1280 + 4 * i, 30, 30⟩
def AUX_RES_NEW (d : Afe) (i : Nat) : Fld := ⟨afeBase d + 0x1280 + 4 * i, 29, 29⟩
def AUX_RES_PASS (d : Afe) (i : Nat) : Fld := ⟨afeBase d + 0x1280 + 4 * i, 23, 16⟩
def AUX_RES_CODE (d : Afe) (i : Nat) : Fld := ⟨afeBase d + 0x1280 + 4 * i, 15, 0⟩
def AUX_BOUT (d : Afe) : Fld := ⟨afeBase d + 0x1300, 31, 0⟩
def CAL_CTRL_STEP (d : Afe) : Fld := ⟨afeBase d + 0x2000, 3, 0⟩
def CAL_CFG_STOUT (d : Afe) : Fld := ⟨afeBase d + 0x2004, 31, 22⟩
def CAL_CFG_TOUT (d : Afe) : Fld := ⟨afeBase d + 0x2004, 21, 14⟩
def CAL_CFG_ICAL (d : Afe) : Fld := ⟨afeBase d + 0x2004, 13, 13⟩
def CAL_CFG_CWIN (d : Afe) : Fld := ⟨afeBase d + 0x2004, 12, 11⟩
def CAL_CFG_STAB (d : Afe) : Fld := ⟨afeBase d + 0x2004, 10, 5⟩
def CAL_CFG_STK (d : Afe) : Fld := ⟨afeBase d + 0x2004, 4, 0⟩
def CAL_DEV_DEVG (d : Afe) : Fld := ⟨afeBase d + 0x2008, 31, 16⟩
def CAL_DEV_DEVO (d : Afe) : Fld := ⟨afeBase d + 0x2008, 15, 0⟩
def CAL_STAT_STATE (d : Afe) : Fld := ⟨afeBase d + 0x200c, 31, 28⟩
def CAL_STAT_RESULT (d : Afe) : Fld := ⟨afeBase d + 0x200c, 27, 24⟩
def CAL_STAT_SEQERR (d : Afe) : Fld := ⟨afeBase d + 0x200c, 23, 23⟩
def CAL_STAT_SRC (d : Afe) : Fld := ⟨afeBase d + 0x200c, 21, 20⟩
def CAL_STAT_CH (d : Afe) : Fld := ⟨afeBase d + 0x200c, 4, 0⟩
def CAL_CNT (d : Afe) : Fld := ⟨afeBase d + 0x2010, 31, 0⟩
def CAL_TL (d : Afe) : Fld := ⟨afeBase d + 0x2014, 31, 0⟩
def CAL_TH (d : Afe) : Fld := ⟨afeBase d + 0x2018, 31, 0⟩
def CAL_PLO (d : Afe) (i : Nat) : Fld := ⟨afeBase d + 0x2100 + 4 * (i - 1), 31, 0⟩
def CAL_PHI (d : Afe) (i : Nat) : Fld := ⟨afeBase d + 0x2180 + 4 * (i - 1), 31, 0⟩
def CAL_OFS (d : Afe) (i : Nat) : Fld := ⟨afeBase d + 0x2200 + 4 * (i - 1), 15, 0⟩
def CAL_GAIN (d : Afe) (i : Nat) : Fld := ⟨afeBase d + 0x2280 + 4 * (i - 1), 15, 0⟩
def CAL_VCALM (d : Afe) (i : Nat) : Fld := ⟨afeBase d + 0x2300 + 4 * (i - 1), 31, 0⟩
def CAL_MEAS (d : Afe) (i : Nat) : Fld := ⟨afeBase d + 0x2380 + 4 * (i - 1), 31, 0⟩
def CMP_CFG_UVFLT (d : Afe) : Fld := ⟨afeBase d + 0x3000, 13, 11⟩
def CMP_CFG_OVFLT (d : Afe) : Fld := ⟨afeBase d + 0x3000, 10, 8⟩
def CMP_CFG_UVHYS (d : Afe) : Fld := ⟨afeBase d + 0x3000, 3, 2⟩
def CMP_CFG_OVHYS (d : Afe) : Fld := ⟨afeBase d + 0x3000, 1, 0⟩
def CMP_DEG_DUV (d : Afe) : Fld := ⟨afeBase d + 0x3004, 22, 16⟩
def CMP_DEG_DOV (d : Afe) : Fld := ⟨afeBase d + 0x3004, 6, 0⟩
def CMP_TCFG_POL (d : Afe) : Fld := ⟨afeBase d + 0x3008, 23, 16⟩
def CMP_TCFG_TFLT (d : Afe) : Fld := ⟨afeBase d + 0x3008, 10, 8⟩
def CMP_TCFG_THYS (d : Afe) : Fld := ⟨afeBase d + 0x3008, 3, 0⟩
def CMP_STCFG_STI (d : Afe) : Fld := ⟨afeBase d + 0x300c, 3, 0⟩
def CMP_THR_OV (d : Afe) (i : Nat) : Fld := ⟨afeBase d + 0x3100 + 4 * (i - 1), 25, 16⟩
def CMP_THR_UV (d : Afe) (i : Nat) : Fld := ⟨afeBase d + 0x3100 + 4 * (i - 1), 9, 0⟩
def CMP_TTHR_OT (d : Afe) (i : Nat) : Fld := ⟨afeBase d + 0x3180 + 4 * i, 25, 16⟩
def CMP_TTHR_UT (d : Afe) (i : Nat) : Fld := ⟨afeBase d + 0x3180 + 4 * i, 9, 0⟩
def CMP_OVST (d : Afe) : Fld := ⟨afeBase d + 0x3200, 17, 0⟩
def CMP_UVST (d : Afe) : Fld := ⟨afeBase d + 0x3204, 17, 0⟩
def CMP_TST_UT (d : Afe) : Fld := ⟨afeBase d + 0x3208, 15, 8⟩
def CMP_TST_OT (d : Afe) : Fld := ⟨afeBase d + 0x3208, 7, 0⟩
def CMP_STAT_CYC (d : Afe) : Fld := ⟨afeBase d + 0x3210, 31, 16⟩
def CMP_STAT_ROT (d : Afe) : Fld := ⟨afeBase d + 0x3210, 8, 8⟩
def CMP_STAT_SLOT (d : Afe) : Fld := ⟨afeBase d + 0x3210, 4, 0⟩
def CMP_STFAIL_VALID (d : Afe) : Fld := ⟨afeBase d + 0x3214, 31, 31⟩
def CMP_STFAIL_STEP (d : Afe) : Fld := ⟨afeBase d + 0x3214, 9, 8⟩
def CMP_STFAIL_SLOT (d : Afe) : Fld := ⟨afeBase d + 0x3214, 4, 0⟩
def BZL_CTRL_TTRIP (d : Afe) : Fld := ⟨afeBase d + 0x4000, 1, 1⟩
def BZL_CTRL_LRST (d : Afe) : Fld := ⟨afeBase d + 0x4000, 0, 0⟩
def BZL_STAT_LRREF (d : Afe) : Fld := ⟨afeBase d + 0x4004, 8, 8⟩
def BZL_STAT_XBOK (d : Afe) : Fld := ⟨afeBase d + 0x4004, 6, 6⟩
def BZL_STAT_GIN (d : Afe) : Fld := ⟨afeBase d + 0x4004, 5, 5⟩
def BZL_STAT_CARRO (d : Afe) : Fld := ⟨afeBase d + 0x4004, 4, 4⟩
def BZL_STAT_STATE (d : Afe) : Fld := ⟨afeBase d + 0x4004, 1, 0⟩
def BZL_CAUSE_TRIPCNT (d : Afe) : Fld := ⟨afeBase d + 0x4008, 31, 16⟩
def BZL_CAUSE_ROW (d : Afe) : Fld := ⟨afeBase d + 0x4008, 7, 0⟩
def BZL_MTX_STFACT (d : Afe) : Fld := ⟨afeBase d + 0x4010, 5, 4⟩
def BZL_MTX_UTACT (d : Afe) : Fld := ⟨afeBase d + 0x4010, 3, 2⟩
def BZL_MTX_OTACT (d : Afe) : Fld := ⟨afeBase d + 0x4010, 1, 0⟩
def BZL_CMASK (d : Afe) : Fld := ⟨afeBase d + 0x4014, 17, 0⟩
def BZL_TMASK_UTEN (d : Afe) : Fld := ⟨afeBase d + 0x4018, 15, 8⟩
def BZL_TMASK_OTEN (d : Afe) : Fld := ⟨afeBase d + 0x4018, 7, 0⟩
def BZL_ENV_OVMAX (d : Afe) : Fld := ⟨afeBase d + 0x401c, 25, 16⟩
def BZL_ENV_UVMIN (d : Afe) : Fld := ⟨afeBase d + 0x401c, 9, 0⟩
def BZL_NV_ERR (d : Afe) : Fld := ⟨afeBase d + 0x4020, 2, 2⟩
def BZL_NV_BUSY (d : Afe) : Fld := ⟨afeBase d + 0x4020, 1, 1⟩
def BZL_NV_SAVE (d : Afe) : Fld := ⟨afeBase d + 0x4020, 0, 0⟩
def OWD_CFG_TEN (d : Afe) : Fld := ⟨afeBase d + 0x5000, 24, 24⟩
def OWD_CFG_PER (d : Afe) : Fld := ⟨afeBase d + 0x5000, 23, 8⟩
def OWD_CFG_EN (d : Afe) : Fld := ⟨afeBase d + 0x5000, 0, 0⟩
def OWD_THR_OTHR (d : Afe) : Fld := ⟨afeBase d + 0x5004, 31, 24⟩
def OWD_THR_HTHR (d : Afe) : Fld := ⟨afeBase d + 0x5004, 23, 16⟩
def OWD_THR_OMARG (d : Afe) : Fld := ⟨afeBase d + 0x5004, 15, 8⟩
def OWD_THR_PTOL (d : Afe) : Fld := ⟨afeBase d + 0x5004, 7, 0⟩
def OWD_TOL_TTOL (d : Afe) : Fld := ⟨afeBase d + 0x5008, 31, 16⟩
def OWD_TOL_ATOL (d : Afe) : Fld := ⟨afeBase d + 0x5008, 15, 0⟩
def OWD_TAP_TPER (d : Afe) : Fld := ⟨afeBase d + 0x500c, 15, 0⟩
def OWD_CTRL_JREQ (d : Afe) : Fld := ⟨afeBase d + 0x5010, 31, 31⟩
def OWD_CTRL_JWIRE (d : Afe) : Fld := ⟨afeBase d + 0x5010, 5, 0⟩
def OWD_STAT_PERADJ (d : Afe) : Fld := ⟨afeBase d + 0x5014, 10, 10⟩
def OWD_STAT_REFBADU (d : Afe) : Fld := ⟨afeBase d + 0x5014, 9, 9⟩
def OWD_STAT_REFBADL (d : Afe) : Fld := ⟨afeBase d + 0x5014, 8, 8⟩
def OWD_STAT_PHASE (d : Afe) : Fld := ⟨afeBase d + 0x5014, 1, 0⟩
def OWD_SKIP (d : Afe) : Fld := ⟨afeBase d + 0x5018, 15, 0⟩
def OWD_JSTAT_CLASS (d : Afe) (i : Nat) : Fld := ⟨afeBase d + 0x5100 + 4 * i, 31, 28⟩
def OWD_JSTAT_VERD (d : Afe) (i : Nat) : Fld := ⟨afeBase d + 0x5100 + 4 * i, 27, 24⟩
def OWD_JSTAT_RP (d : Afe) (i : Nat) : Fld := ⟨afeBase d + 0x5100 + 4 * i, 15, 0⟩
def SDC_CTRL_LRST (d : Afe) : Fld := ⟨afeBase d + 0x6000, 1, 1⟩
def SDC_CTRL_EN (d : Afe) : Fld := ⟨afeBase d + 0x6000, 0, 0⟩
def SDC_STAT_LRREF (d : Afe) : Fld := ⟨afeBase d + 0x6004, 15, 15⟩
def SDC_STAT_GRUN (d : Afe) : Fld := ⟨afeBase d + 0x6004, 14, 14⟩
def SDC_STAT_HWL (d : Afe) : Fld := ⟨afeBase d + 0x6004, 13, 13⟩
def SDC_STAT_GIN (d : Afe) : Fld := ⟨afeBase d + 0x6004, 12, 12⟩
def SDC_STAT_NFLT (d : Afe) : Fld := ⟨afeBase d + 0x6004, 9, 9⟩
def SDC_STAT_PFLT (d : Afe) : Fld := ⟨afeBase d + 0x6004, 8, 8⟩
def SDC_STAT_SW (d : Afe) : Fld := ⟨afeBase d + 0x6004, 3, 0⟩
def SDC_FAIL_CNT (d : Afe) : Fld := ⟨afeBase d + 0x6008, 31, 16⟩
def SDC_FAIL_KIND (d : Afe) : Fld := ⟨afeBase d + 0x6008, 11, 8⟩
def SDC_FAIL_SW (d : Afe) : Fld := ⟨afeBase d + 0x6008, 3, 0⟩
def SDC_GRACE_TGMAX (d : Afe) : Fld := ⟨afeBase d + 0x600c, 26, 16⟩
def SDC_GRACE_TG (d : Afe) : Fld := ⟨afeBase d + 0x600c, 10, 0⟩
def SDC_GREM_POS (d : Afe) : Fld := ⟨afeBase d + 0x6010, 29, 24⟩
def SDC_GREM_CH (d : Afe) : Fld := ⟨afeBase d + 0x6010, 18, 16⟩
def SDC_GREM_REM (d : Afe) : Fld := ⟨afeBase d + 0x6010, 10, 0⟩
def SDC_DPCFG_DPW (d : Afe) : Fld := ⟨afeBase d + 0x6014, 8, 0⟩
def SDC_NV_ERR (d : Afe) : Fld := ⟨afeBase d + 0x6018, 2, 2⟩
def SDC_NV_BUSY (d : Afe) : Fld := ⟨afeBase d + 0x6018, 1, 1⟩
def SDC_NV_SAVE (d : Afe) : Fld := ⟨afeBase d + 0x6018, 0, 0⟩
def GRD_CFG_GAPEN (d : Afe) : Fld := ⟨afeBase d + 0x7000, 0, 0⟩
def GRD_STAT_CYC (d : Afe) : Fld := ⟨afeBase d + 0x7004, 31, 16⟩
def GRD_STAT_SLOT (d : Afe) : Fld := ⟨afeBase d + 0x7004, 15, 8⟩
def GRD_STAT_LOSS (d : Afe) : Fld := ⟨afeBase d + 0x7004, 2, 2⟩
def GRD_STAT_COUT (d : Afe) : Fld := ⟨afeBase d + 0x7004, 1, 1⟩
def GRD_STAT_CIN (d : Afe) : Fld := ⟨afeBase d + 0x7004, 0, 0⟩
def GRD_GAPOKL (d : Afe) : Fld := ⟨afeBase d + 0x7008, 31, 0⟩
def GRD_GAPOKH (d : Afe) : Fld := ⟨afeBase d + 0x700c, 31, 0⟩
def GRD_GAPFAIL_CNT (d : Afe) : Fld := ⟨afeBase d + 0x7010, 31, 16⟩
def GRD_GAPFAIL_VALID (d : Afe) : Fld := ⟨afeBase d + 0x7010, 6, 6⟩
def GRD_GAPFAIL_POS (d : Afe) : Fld := ⟨afeBase d + 0x7010, 5, 0⟩
def PRT_CTRL_LCHK (p : Port) : Fld := ⟨prtBase p, 2, 2⟩
def PRT_CTRL_RETRN (p : Port) : Fld := ⟨prtBase p, 1, 1⟩
def PRT_CTRL_HRDIS (p : Port) : Fld := ⟨prtBase p, 0, 0⟩
def PRT_STAT_TRNCNT (p : Port) : Fld := ⟨prtBase p + 0x4, 31, 24⟩
def PRT_STAT_PRESET (p : Port) : Fld := ⟨prtBase p + 0x4, 19, 16⟩
def PRT_STAT_RXINV (p : Port) : Fld := ⟨prtBase p + 0x4, 9, 9⟩
def PRT_STAT_HRFAIL (p : Port) : Fld := ⟨prtBase p + 0x4, 8, 8⟩
def PRT_STAT_ATT (p : Port) : Fld := ⟨prtBase p + 0x4, 1, 0⟩
def PRT_TXCFG_SWING (p : Port) : Fld := ⟨prtBase p + 0x8, 5, 4⟩
def PRT_TXCFG_PFIX (p : Port) : Fld := ⟨prtBase p + 0x8, 3, 3⟩
def PRT_TXCFG_PSET (p : Port) : Fld := ⟨prtBase p + 0x8, 2, 0⟩
def PRT_ERR_HDRERR (p : Port) : Fld := ⟨prtBase p + 0xc, 31, 16⟩
def PRT_ERR_RELOCK (p : Port) : Fld := ⟨prtBase p + 0xc, 15, 0⟩
def PRT_EYE_EYEH (p : Port) : Fld := ⟨prtBase p + 0x10, 15, 8⟩
def PRT_EYE_EYEV (p : Port) : Fld := ⟨prtBase p + 0x10, 7, 0⟩
def PRT_LCHK_VALID (p : Port) : Fld := ⟨prtBase p + 0x14, 31, 31⟩
def PRT_LCHK_RTX (p : Port) : Fld := ⟨prtBase p + 0x14, 30, 28⟩
def PRT_LCHK_RRX (p : Port) : Fld := ⟨prtBase p + 0x14, 27, 25⟩
def PRT_LCHK_DTX (p : Port) : Fld := ⟨prtBase p + 0x14, 23, 12⟩
def PRT_LCHK_DRX (p : Port) : Fld := ⟨prtBase p + 0x14, 11, 0⟩
def BPS_STAT_TJ (d : Afe) : Fld := ⟨bpsBase d, 31, 16⟩
def BPS_STAT_OTS (d : Afe) : Fld := ⟨bpsBase d, 2, 2⟩
def BPS_STAT_DER (d : Afe) : Fld := ⟨bpsBase d, 1, 1⟩
def BPS_STAT_SW (d : Afe) : Fld := ⟨bpsBase d, 0, 0⟩
def BPS_PDISS (d : Afe) : Fld := ⟨bpsBase d + 0x4, 15, 0⟩
def BPS_QOUTL (d : Afe) (i : Nat) : Fld := ⟨bpsBase d + 0x100 + 8 * (i - 1), 31, 0⟩
def BPS_QOUTH (d : Afe) (i : Nat) : Fld := ⟨bpsBase d + 0x104 + 8 * (i - 1), 31, 0⟩
def BPS_QINL (d : Afe) (i : Nat) : Fld := ⟨bpsBase d + 0x200 + 8 * (i - 1), 31, 0⟩
def BPS_QINH (d : Afe) (i : Nat) : Fld := ⟨bpsBase d + 0x204 + 8 * (i - 1), 31, 0⟩
def BPS_MBINL (d : Afe) : Fld := ⟨bpsBase d + 0x300, 31, 0⟩
def BPS_MBINH (d : Afe) : Fld := ⟨bpsBase d + 0x304, 31, 0⟩
def BPS_MBOUTL (d : Afe) : Fld := ⟨bpsBase d + 0x308, 31, 0⟩
def BPS_MBOUTH (d : Afe) : Fld := ⟨bpsBase d + 0x30c, 31, 0⟩
def BPS_LOSSL (d : Afe) : Fld := ⟨bpsBase d + 0x310, 31, 0⟩
def BPS_LOSSH (d : Afe) : Fld := ⟨bpsBase d + 0x314, 31, 0⟩
def BPS_LRES (d : Afe) : Fld := ⟨bpsBase d + 0x318, 31, 0⟩
def BPS_LRCELL (d : Afe) : Fld := ⟨bpsBase d + 0x31c, 4, 0⟩
def RCD_CFG_SUMK : Fld := ⟨0x800000, 31, 16⟩
def RCD_CFG_HEN : Fld := ⟨0x800000, 0, 0⟩
def RCD_STAT_NEXT : Fld := ⟨0x800004, 31, 28⟩
def RCD_STAT_FREE : Fld := ⟨0x800004, 27, 24⟩
def RCD_STAT_ERR : Fld := ⟨0x800004, 1, 1⟩
def RCD_STAT_BUSY : Fld := ⟨0x800004, 0, 0⟩
def RCD_HWP : Fld := ⟨0x800008, 31, 0⟩
def RCD_SNO : Fld := ⟨0x80000c, 31, 0⟩
def RCD_PROT_UNPROT : Fld := ⟨0x800010, 27, 16⟩
def RCD_PROT_PROT : Fld := ⟨0x800010, 11, 0⟩
def RCD_ERASE_HIST : Fld := ⟨0x800014, 31, 31⟩
def RCD_ERASE_SLOT : Fld := ⟨0x800014, 11, 0⟩

end Sys2Proof.Machine
end

