-- ==== Sys2Proof/Machine/State.lean ====
section
/-!
DEFINITION. The state of one ZM3680: the registers, the staged copies, the hidden state of every block, what the
part has sent to the outside, the fuses and the queue of waiting commands; the faults and refusals; and the state
right after a power-on reset. All of it is plain data.
-/

namespace Sys2Proof.Machine

/-- The modes of Table 3-1. -/
inductive Mode where
  | ship | patrol | doze | watch | monitor | stream | spectro | calibrate | degraded | safe | legacy | provision
  deriving DecidableEq, Repr

/-- A sparse store: (address, word) pairs, addresses strictly rising, no word equal to what its address holds when
it is not listed (the reset word for the registers, the value in force for the staged copies). -/
abbrev Store := List (Nat × Word)

/-- An event record (Table 15-10); the payload is held as its 4-byte items (R414). -/
structure EventRec where
  code  : Nat
  tq    : Nat
  pos   : Nat
  src   : Nat
  hr    : Bool
  eseq  : Nat
  time  : Nat
  frac  : Nat
  items : List Nat
  deriving DecidableEq, Repr

/-- A frame waiting in a port or leaving it: a compact word or an extended frame. -/
inductive Body where
  | compact (w : Word64)
  | ext (x : XFrame)
  deriving DecidableEq, Repr

/-- What the part shows the outside, in the order in which it does so. -/
inductive Output where
  | frame (p : Port) (b : Body)
  | timingMark (p : Port) (payload : Nat)
  | linkWord (p : Port) (w : BitVec 16)
  | tone (p : Port) (inBand : Bool)
  | legacyFrame (p : Port) (w : BitVec 48)
  | hostWrite (addr : Nat) (bytes : List Byte)
  | msix (vector : Nat)
  | pme
  | wakePin (low : Bool)
  | girdleToken (present : Bool)
  | beadline (line code addr spu : Nat)
  | beadlineReset (line : Nat)
  | iicBytes (bytes : List Byte)
  | iicStart (addr wlen rlen : Nat)
  | iicPulses
  deriving DecidableEq, Repr

/-- A transition of Table 3-4 under way: the mode it leads to and its trigger code (Table 3-17). -/
structure Trans where
  goal : Mode
  trig : Nat
  deriving DecidableEq, Repr

/-- What started the wake during an entry to SHIP, or starts the part from SHIP (R64). -/
inductive ShipWake where | quiet | tone (p : Port) | pin
  deriving DecidableEq, Repr

/-- Modes and power (03). -/
structure PowerSt where
  /-- a start from power-on has not yet reached MONITOR (Table 3-4) -/
  starting : Bool
  /-- the transition in progress -/
  trans : Option Trans
  /-- the latest ladder trigger that arrived during it (R62): the level it asks for, 0 where it is the budget rule's, and its
  code -/
  later : Option (Nat × Nat)
  /-- the events of PATROL findings, which wait for the low-rate chain (R69) -/
  found : List Nat
  /-- HOLD counts (R57) -/
  hold : Bool
  /-- a stream ring is bound to the device (R55) -/
  streamBound : Bool
  /-- the 5 ms entry to SHIP is running, with the wake that arrived during it (R64) -/
  shipEntry : Option ShipWake
  /-- VDRV has collapsed: the device is in SHIP -/
  off : Bool
  /-- a CORE warm reset is running: Lathe does not run (R47) -/
  warm : Bool
  /-- unnumbered behind a sweep's frontier: held in DOZE (R362) -/
  heldDoze : Bool
  /-- clock domains that failed and have not been started again (R80) -/
  clkBad : BitVec 15
  /-- tones sent: the time of the last one on each port (R73) -/
  toneN : Option Nat
  toneS : Option Nat
  /-- a move below MONITOR waits for the I²C port, with its trigger (R449) -/
  iicWait : Option Nat
  /-- VSTK lets the buck run (R532) -/
  vstkOk : Bool
  /-- dies that have failed and do not come back before a power-on reset (R294) -/
  failed : List Die
  deriving DecidableEq, Repr

/-- A frame queued in a port: its class, its 64-byte units, the port whose buffer it occupies, and the frame. -/
structure TxItem where
  tc    : Nat
  units : Nat
  src   : Option Port
  body  : Body
  deriving DecidableEq, Repr

/-- One Spindle port beyond its registers. -/
structure PortSt where
  /-- own word periods since the last valid partner word, 3 = none heard (R304) -/
  quietPeriods : Nat
  /-- a word with HEARD = 1 and the other PORT value has come since the port went DOWN or PARKED (R308) -/
  gotHeard : Bool
  /-- a word with HEARD = 1 has been sent since then (R308) -/
  sentHeard : Bool
  /-- valid words in a row without HEARD (R314) -/
  unheard : Nat
  /-- the 100 us silence after entering DOWN runs (R313) -/
  silent : Bool
  /-- a line check runs (R318) -/
  lineCheck : Bool
  /-- frames ready and held -/
  txq : List TxItem
  /-- units freed since CREDIT_INIT, per class (R338) -/
  freed1 : Nat
  freed2 : Nat
  freed3 : Nat
  /-- units freed since the last CREDIT (R338) -/
  owed : Nat
  /-- cumulative counts last taken from the partner's CREDIT (R338) -/
  taken1 : Nat
  taken2 : Nat
  taken3 : Nat
  deriving DecidableEq, Repr

/-- The last accepted ALIVE of a sender and kind (R329). -/
structure AliveRow where
  pos  : Nat
  kind : Nat
  last : Nat
  deriving DecidableEq, Repr

/-- A response as the member keeps it (R348). -/
structure KeptResp where
  tag  : Nat
  body : List Byte
  deriving DecidableEq, Repr

/-- Frames and counters that every device keeps (13). -/
structure SpnSt where
  north : PortSt
  south : PortSt
  /-- alive counters of the compact kinds the device originates, by kind 0 to 15 (R328) -/
  aliveOut : List Nat
  aliveIn : List AliveRow
  /-- member: SEQ of the next frame of TC1 and TC3 (R333); that of TC2 is `evBase + evSent` (R357) -/
  seq1 : Nat
  seq3 : Nat
  /-- member: the next frame of the class carries SFULL because of a route change or a drop (R333) -/
  full1 : Bool
  full2 : Bool
  full3 : Bool
  /-- member: E of COMMAND frames and of broadcasts (R334) -/
  exp1 : Nat
  expB : Nat
  /-- member: the kept response (R348) -/
  kept : Option KeptResp
  /-- member: kept events, oldest first, the SEQ of the oldest and how many were sent (R357) -/
  evq : List EventRec
  evBase : Nat
  evSent : Nat
  /-- member: events not queued since the last EVENTS_LOST (R357) -/
  evLost : Nat
  /-- member: CVW group 1 was armed since the high-rate bit of its way was set (log 25) -/
  outArmed : Bool
  /-- member: the notice of a CORE warm reset has not left yet (R368) -/
  warmDue : Bool
  /-- member: the port of its way has gone DOWN and no ROUTE has come since (R344) -/
  swapped : Bool
  deriving DecidableEq, Repr

/-- What the head knows of a numbered position (R53, R286, R333, R349, R357). -/
structure Member where
  pos    : Nat
  build  : Nat
  uid15  : Nat
  way    : Nat
  cur    : Nat
  base   : Nat
  latch  : Bool
  arml   : Bool
  armu   : Bool
  fbzl   : Bool
  fbzu   : Bool
  fprc   : Bool
  grun   : Bool
  /-- the last guard frame had LAST = 1: no guard frame is expected (R286) -/
  last   : Bool
  /-- a guard frame has come since enumeration, and it is now missing (R286) -/
  guarded : Bool
  missing : Bool
  wseq   : Nat
  /-- TAG of the last command sent (R348) -/
  tag    : Nat
  /-- SEQ of the next COMMAND; E of responses, events and stream frames -/
  seq1   : Nat
  full1  : Bool
  exp1   : Nat
  exp2   : Nat
  exp3   : Nat
  /-- events received ahead of a gap, oldest first, with their SEQ (R357) -/
  ahead  : List (Nat × EventRec)
  /-- records of this position dropped since its previous record (R421) -/
  rdrop  : Nat
  /-- fragments of the response and of the window block in progress -/
  frag   : List Byte
  sfrag  : List Byte
  /-- frames found missing before the window block in progress (R334) -/
  smiss  : Nat
  /-- its onward port has a legacy partner (Table 13-10) -/
  legn   : Bool
  /-- `cur` and `base` come from a report of the member (R53) -/
  told   : Bool
  /-- the head has acted on the TRIP that holds there (R353) -/
  tripSeen : Bool
  /-- payload of the last ROUTE sent to it (R342) -/
  route  : Option Nat
  deriving DecidableEq, Repr

/-- An answer to a sweep (Table 13-10, ENUMANS). -/
structure EnumAns where
  pos   : Nat
  build : Nat
  uid15 : Nat
  legn  : Bool
  deriving DecidableEq, Repr

/-- A sweep of the head: the 30 ms after the tone, the north sweep, the south sweep, or a CHECK sweep out of the north or,
after a warm reset of the head, out of the south port (R358, R360, R367). -/
inductive EnumPhase where | wait | north | back (next : Nat) | south | check | checkBack | checkS
  deriving DecidableEq, Repr

/-- An enumeration or CHECK run in progress. -/
structure EnumRun where
  phase   : EnumPhase
  north   : List EnumAns
  south   : List EnumAns
  /-- notices that wait for its end (R364): positions, port, up -/
  notices : List (Nat × Port × Bool × Bool)
  deriving DecidableEq, Repr

/-- One link of the head's ring order, from index `i` to `i + 1` (index 0 and m + 1 are the head). -/
structure LinkSt where
  up : Bool
  hr : Bool
  deriving DecidableEq, Repr

/-- The accesses that a descriptor turns into, one frame each for a member (R403). -/
inductive Act where
  /-- read `n` registers; the values become DATA (`buf = false`) or go to the host buffer -/
  | rd (addr n : Nat) (buf : Bool)
  | wr (addr : Nat) (vals : List Word)
  | wrl (pairs : List (Nat × Word))
  /-- read `n` bytes of a memory space from `addr`, to the host buffer -/
  | rdm (addr n : Nat)
  /-- read CSTAT and remember GEN, before an ARM whose outcome is waited for -/
  | gen (addr : Nat)
  /-- poll CSTAT at `addr` until the PEND bits of `mask` clear -/
  | poll (addr : Nat) (mask : Nat)
  /-- complete REFUSED with the value read if PWR_STAT.REFUSED was set (MODEREQ) -/
  | chkRefused (addr : Nat)
  deriving DecidableEq, Repr

/-- A consumed descriptor that has not completed (R404, R405). -/
structure Run where
  /-- the number of the run, which tells runs of equal CID apart -/
  id      : Nat
  ring    : Nat
  cid     : Nat
  opc     : Nat
  fence   : Bool
  bcast   : Bool
  pos     : Nat
  haddr   : Nat
  acts    : List Act
  started : Bool
  /-- the frame of `acts.head` is out and waits for its response -/
  sent    : Bool
  retries : Nat
  /-- TAG of the COMMAND, or SEQ of the broadcast, that is out (R349, R352) -/
  tag     : Nat
  data    : Nat
  /-- bytes already written to the host buffer -/
  done    : Nat
  gen     : Nat
  /-- BIND waits for these positions (R418) -/
  waitPos : List Nat
  deriving DecidableEq, Repr

/-- A held completion (R410 to R412). -/
structure HeldComp where
  ring : Nat
  cid  : Nat
  cause : Nat
  tq   : Nat
  time : Nat
  deriving DecidableEq, Repr

/-- The indices of one ring (R395) and its interrupt and stop state. -/
structure RingSt where
  pidx    : Nat
  cidx    : Nat
  stopped : Bool
  /-- entries written since the last signal (R423) -/
  unsig   : Nat
  /-- records dropped since enable (Table 15-4) -/
  dropped : Nat
  deriving DecidableEq, Repr

/-- The head's ring and host side (13, 15). -/
structure HeadSt where
  order   : List Nat
  links   : List LinkSt
  members : List Member
  enum    : Option EnumRun
  /-- UIDs heard from unnumbered devices (R362) -/
  unnum   : List Nat
  seqB    : Nat
  fullB   : Bool
  /-- ESEQ of the head's next own event (R413) -/
  eseq    : Nat
  /-- a warm reset lost the picture of the ring, and CHECK sweeps make it anew (R367) -/
  rebuild : Bool
  /-- a CHECK sweep of the open ring did not return: the next link change starts the wait again (R367) -/
  tried   : Bool
  deriving DecidableEq, Repr

/-- The host interface (15). -/
structure HifSt where
  d3hot     : Bool
  l2        : Bool
  wakeLow   : Bool
  rings     : List RingSt
  runs      : List Run
  /-- number of the next run -/
  nextRun   : Nat
  /-- completions whose outcome is known and which wait for host memory: completion ring and bytes (R425) -/
  compq     : List (Nat × List Byte)
  held      : List HeldComp
  /-- how many completions of each ring 0 to 7 were held when it was enabled -/
  heldCount : List Nat
  evq       : List EventRec
  /-- EVENT_QUEUE_FULL is due when the queue has room (R416) -/
  evFullDue : Bool
  /-- STREAM_DROP: ring and time of its last event (R421) -/
  dropAt : List (Nat × Nat)
  deriving DecidableEq, Repr

/-- One record of the Burl history log (R486): the 64-byte unit it starts at and its bytes. -/
structure HistRec where
  unit  : Nat
  bytes : List Byte
  deriving DecidableEq, Repr

/-- One entry of the Burl directory (Table 19-3), its bytes from offset 0x02 on as `entry`, with the bytes of its slot from
offset 0 on; bytes past the list are zero. -/
structure Slot where
  state : Nat
  prot  : Bool
  entry : List Byte
  data  : List Byte
  deriving DecidableEq, Repr

/-- The Burl die (19), build F. -/
structure BurlSt where
  hist  : List HistRec
  slots : List Slot
  deriving DecidableEq, Repr

/-- What one channel has gathered since the last summary boundary (R96, R97). -/
structure SumAcc where
  /-- sum of the integrals less the compensation, in units of the channel, and of the cycles, over the windows that
  SMEAN covers -/
  sum  : Int
  len  : Nat
  lo   : Int
  hi   : Int
  flg  : Nat
  part : Bool
  /-- a fast window of the channel was valid -/
  any  : Bool
  deriving DecidableEq, Repr

/-- A closed window whose block is not yet formed (R100): the fields of Table 4-3 and the channels of the device. -/
structure Closed where
  wseq   : Nat
  ccyc   : Nat
  tick   : Nat
  tq     : Nat
  bflags : Nat
  wlen   : Nat
  eral   : Nat
  erau   : Nat
  mrk    : Nat
  cgen   : Nat
  balw   : Nat
  /-- results and flags by channel 1 to 38, CINT or CQ by channel -/
  res    : List Int
  flg    : List Nat
  cint   : List Nat
  /-- capture sources that occurred, as the bits of Table 19-3, and the originating WSEQ of CHAIN -/
  srcs   : Nat
  origin : Nat
  deriving DecidableEq, Repr

/-- Windows and converters (04). -/
structure WinSt where
  /-- a window is in progress; CCYC and MTICK of its opening edge, and the first MTICK at which it may close -/
  opened   : Bool
  openCcyc : Nat
  openTick : Int
  earliest : Int
  /-- cycles with MCLK running since power-on (Table 4-3), and MCLK has stopped since the last edge seen -/
  ccyc     : Nat
  still    : Bool
  /-- a bank has integrated since power-on, and CORE's copy of its era (R93) -/
  ranL : Bool
  ranU : Bool
  eraL : Nat
  eraU : Nat
  /-- integration of a bank was broken in the window in progress (R106, R108) -/
  brokenL : Bool
  brokenU : Bool
  newcfg : Bool
  tstep  : Bool
  calL : Bool
  calU : Bool
  /-- the current channel of the bank integrates through the bank's calibration (R158) -/
  shuntL : Bool
  shuntU : Bool
  trimL : Bool
  trimU : Bool
  /-- cells whose stage switched, cells excited, sense wires pulled in the window in progress -/
  switched : List Nat
  excited  : List Nat
  pulled   : List Nat
  /-- cells whose OV, whose UV latch has released in the window in progress (R106) -/
  ovt : List Nat
  uvt : List Nat
  /-- the window in progress is a quiet window of the plan -/
  quiet : Bool
  balw  : Nat
  /-- integrals of a window that a stop cut short, by channel 1 to 38 -/
  carry : List Int
  mark : Option Nat
  markAt : List (Nat × Nat)
  prevEraL : Nat
  prevEraU : Nat
  miss : Bool
  sums : List SumAcc
  sumPart : Bool
  evRaised : List Nat
  capSrc : Nat
  capOrigin : Nat
  closed : Option Closed
  /-- MTICK of the first boundary after CVW group 0 was armed, from which APPLY may lie 2⁴⁰ ahead (R123) -/
  armedAt : Option Nat
  /-- copies of high halves taken by reads of low halves: address of the high half and its word (R113) -/
  latches : List (Nat × Word)
  deriving DecidableEq, Repr

/-- A block held in the capture buffer (R478). -/
structure CapBlock where
  wseq  : Nat
  tick  : Nat
  bytes : List Byte
  deriving DecidableEq, Repr

/-- The snapshot that a trigger formed (R479, Table 19-3). -/
structure Snap where
  srcs  : Nat
  twseq : Nat
  tick  : Nat
  /-- WSEQ of the block formed for the trigger window, and PRE in force -/
  wseq  : Nat
  pre   : Nat
  /-- position of the device when it formed -/
  pos   : Nat
  /-- post-trigger blocks stored and still to come -/
  npost : Nat
  left  : Nat
  /-- the slot it is copied into -/
  slot  : Option Nat
  deriving DecidableEq, Repr

/-- The capture buffer (19): blocks held, oldest first, the snapshot under way, and WSEQ of blocks given up to a bank test
or a retirement (R491). -/
structure CapSt where
  blocks : List CapBlock
  snap   : Option Snap
  gave   : List Nat
  deriving DecidableEq, Repr

/-- The timebase (14): a step that is decided or announced, the halves of TB_SET and TB_TOD, the loop counters. -/
structure TbSt where
  setLow : Nat
  todLow : Nat
  /-- the second S, the new seconds count and the new MTICK within the second of a step to come (R380) -/
  step : Option (Nat × Nat × Nat)
  /-- member: SECL, SECH and STEPT announced so far -/
  annL : Option Nat
  annH : Option Nat
  annT : Option Nat
  /-- next INFO subtype to send on each port (R384) -/
  infoN : Nat
  infoS : Nat
  /-- head: updates within 200 ns in a row (R377); member: exchanges within and beyond the limits (R385) -/
  good : Nat
  bad  : Nat
  /-- member: time stamps of the exchange by arrival port north, south: t1, t2, t3 -/
  t1 : Nat
  t2 : Nat
  t3 : Nat
  /-- the second named for the next PPS edge, and the second of the last edge (R376) -/
  tod : Option Nat
  lastSec : Option Nat
  /-- TBTIME of the last valid PPS edge, 2⁻⁸ ns -/
  lastEdge : Option Int
  /-- the step to come was announced after its edge (R380) -/
  late : Bool
  /-- source validity at the head: PTM, PPS -/
  ptmOk : Bool
  ppsOk : Bool
  /-- the head's quality as the ring carries it (R551) -/
  headTq : Nat
  deriving DecidableEq, Repr

/-- What the sequencer of an AFE die does (R130 to R136). -/
inductive AuxPhase where
  | stopped
  /-- waits for a pass -/
  | waitPass
  /-- the trigger has come and TDLY runs -/
  | delay
  /-- step 1 of an entry: waits for a trigger -/
  | waitEntry (e : Nat)
  /-- step 2: DLY runs -/
  | dly (e : Nat)
  /-- DLY is over; the entry waits for a request or a slot to end (R140, R145) -/
  | ready (e : Nat)
  /-- steps 3 and 4: the SAR works on the entry -/
  | conv (e : Nat)
  /-- held before the entry while the bank is in CALIBRATE (R136) -/
  | held (e : Nat)
  deriving DecidableEq, Repr

/-- The plausibility slots of the window in progress (R142, R143), under the settings it opened with (R149). -/
structure PlausWin where
  cells   : List Nat
  /-- input and selector of each conversion of a slot: the cells, or the views of a junction check (R238) -/
  jobs    : List (Nat × Nat)
  samples : Nat
  lim     : Nat
  balw    : Nat
  pcons   : Nat
  /-- next slot -/
  next    : Nat
  skipped : Bool
  /-- per job: sum of the codes, and whether one carried OVR -/
  sums    : List (Nat × Bool)
  /-- the window is a junction-check window of the bank (R147, R238) -/
  junction : Bool
  deriving DecidableEq, Repr

/-- The aux converter of one AFE die (05). -/
structure AuxSt where
  phase  : AuxPhase
  /-- passes left under the loop count; `none` without end -/
  left   : Option Nat
  /-- events of the divided sources since the last that counted -/
  div    : Nat
  /-- an urgent request in progress: whether the host asked -/
  urgent : Option Bool
  /-- input and selector of the previous conversion (R126) -/
  prev   : Option (Nat × Nat)
  /-- the local cell before the next one of the rotation (R143) -/
  rot    : Nat
  plaus  : Option PlausWin
  /-- CORE: failures in a row by local cell, and the cells whose event is raised (R148) -/
  fails  : List Nat
  raised : List Nat
  /-- EN was cleared, or MONITOR left, while an entry was in progress: the sequencer stops at its end (R135) -/
  halt   : Bool
  /-- slots of the next window that a table entry overlaps (R145) -/
  skip   : Nat
  deriving DecidableEq, Repr

/-- A run of the pull test (R229): its phase, the wires pulled, the windows still to close, and the results and flags
of the reference window by cell. -/
structure OwdRun where
  phase : Nat
  wires : List Nat
  left  : Nat
  refx  : List Int
  deriving DecidableEq, Repr

/-- A junction check that waits for its window (R237): the wire, its class, the verdict that R236 names (0 none) and
the windows it has waited. -/
structure JReq where
  wire  : Nat
  cls   : Nat
  named : Nat
  cell  : Nat
  age   : Nat
  deriving DecidableEq, Repr

/-- Wiring diagnostics (09). -/
structure OwdSt where
  run  : Option OwdRun
  /-- a run fell due in a quiet window and starts with the next that is not (R229) -/
  due  : Bool
  /-- by wire 0 to 36: class of the last run that was not skipped, and confirmed class -/
  last : List Nat
  conf : List Nat
  reqs : List JReq
  /-- the checks whose window is in progress -/
  jchk : List JReq
  /-- checks that repeat at the next run of their wire (Table 9-3 row 9) -/
  again : List JReq
  /-- findings that set WIRE: wire, cells, NOMINAL runs in a row (R240) -/
  finds : List (Nat × List Nat × Nat)
  /-- wires whose confirmed OPEN set REFBADL or REFBADU without such a verdict: wire, NOMINAL runs in a row (R234, R240) -/
  refs : List (Nat × Nat)
  /-- tap probe: windows since the last, the cell before the next, the cell probed -/
  count : Nat
  rot   : Nat
  probe : Option Nat
  /-- by cell 1 to 36: failed probes in a row -/
  fails : List Nat
  deriving DecidableEq, Repr

/-- The ledger of one stage (R196, R197): what the interval has metered, in the units of `StageMeter` (charge, energies, and
the sums of the squared RMS currents over its periods), the fractions of QOUT and QIN below 1 nAh in 2⁻¹⁶ nAh, and
whether the last interval failed. -/
structure StageLed where
  qc   : Int
  ec   : Nat
  em   : Nat
  es   : Nat
  ip2  : Nat
  is2  : Nat
  fout : Nat
  fin  : Nat
  bad  : Bool
  said : Bool
  deriving DecidableEq, Repr

/-- The balancing planner and the ledger (07). -/
structure BalSt where
  /-- cells whose stage switches in the period in progress -/
  live : List Nat
  /-- cells whose stage has been stopped and completes the period in progress (R179), and whether the plan drove it -/
  tail : List (Nat × Bool)
  /-- banks that a sweep drives -/
  swept : List Afe
  /-- after a step of the count or a change of EPOCH: MTICK of the first period start, until which all stages idle (R178, R380) -/
  idleTo : Option Nat
  /-- STOP was written and the period in progress ends the plan (R186) -/
  stop : Bool
  /-- the plan became active while a trip held: the trip pauses it and does not end it (R181) -/
  held : Bool
  /-- plan periods run (R186) -/
  ran : Nat
  /-- by cell: setpoint under R189, plan charge in 2⁻¹⁶ nAh, windows missed in a row -/
  iset : List Nat
  prog : List Nat
  miss : List Nat
  /-- BPD_DERATE was raised in this plan for the lower, the upper die -/
  derL : Bool
  derU : Bool
  led  : List StageLed
  /-- the module-bus voltage metered since the last plan-period start: by die its sum in mV and its periods (R555) -/
  bus  : List (Nat × Nat)
  /-- by die: the highest dissipation metered since the last plan-period start, in mW; 0 where none was (R189) -/
  peak : List Nat
  /-- fractions of MBIN, MBOUT and LOSS of each die, and the interval is not reconciled (R198) -/
  fmb  : List Nat
  skip : Bool
  deriving DecidableEq, Repr

/-- A trim set of a bank (R153, R168): offsets, gains and reference readings by channel 1 to 19, the count, the time
and the source of CAL_STAT.SRC. -/
structure TrimSet where
  ofs   : List Int
  gain  : List Int
  vcalm : List Int
  cnt   : Nat
  time  : Nat
  src   : Nat
  deriving DecidableEq, Repr

/-- What a calibration session does (CAL_STAT.STATE, R161, R165, R166). -/
inductive CalPhase where | entering | ready | lo | hi | zero | vcal | refs
  deriving DecidableEq, Repr

/-- A calibration session (R155 to R168) with the settings it opened with (R159). -/
structure CalSess where
  refresh : Bool
  ical  : Bool
  stk   : Nat
  stab  : Nat
  devo  : Nat
  devg  : Nat
  plo   : List Int
  phi   : List Int
  phase : CalPhase
  /-- the bank is in CALIBRATE -/
  inside : Bool
  /-- measured lower (or zero) and upper points by channel -/
  mlo   : Option (List Int)
  mhi   : Option (List Int)
  /-- the next reading follows a switch of inputs and is discarded -/
  discard : Bool
  /-- readings of the point in progress, newest first -/
  reads : List (List Int)
  /-- the set that passed its checks -/
  set   : Option TrimSet
  /-- the session ends at the next boundary with this RESULT; 1 applies the set -/
  ending : Option Nat
  deriving DecidableEq, Repr

/-- Calibration of one bank (06): the session of BEGIN or REFRESH; the session of FACTORY, which waits for its boundary,
with the ICAL in force when it opened, and the RESULT of an abort of it; and the set whose NVM store runs, with the ICAL
of its session. -/
structure CalSt where
  sess       : Option CalSess
  factory    : Bool
  factoryIcal : Bool
  factoryEnd : Option Nat
  store      : Option (TrimSet × Bool)
  deriving DecidableEq, Repr

/-- What one window gives the correlator (R210, R212): by cell the result, the net and the cell-side current (in mA
times SHR, or in mA), the cells whose result may not be used, and whether the window spoils the span for every cell. -/
structure ImpRow where
  x   : List Int
  i   : List Int
  ic  : List Int
  bad : List Nat
  all : Bool
  deriving DecidableEq, Repr

/-- What a correlated span gives a cell (R211): X and Y at the bin, in the correlator's scale; the voltage at the double
bin; the cell-side current at the bin. `none` where the span was discarded. -/
structure SpanRes where
  xre : Int
  xim : Int
  yre : Int
  yim : Int
  x2  : Nat
  ic  : Nat
  deriving DecidableEq, Repr

/-- An impedance sweep (08). -/
structure ImpSt where
  /-- the point in progress: MTICK of its start, WSEQ and worst time quality -/
  tick  : Nat
  wseq  : Nat
  worst : Nat
  /-- the span in progress: its number in the point and its windows, newest first -/
  span  : Nat
  rows  : List ImpRow
  /-- by cell: spans correlated so far (newest first), charge of the span in progress, of the span before it and of the
  point (2⁻¹⁶ nAh), and setpoint (mA) -/
  done  : List (List (Option SpanRes))
  qspan : List Int
  qlast : List Int
  qpt   : List Int
  setp  : List Int
  /-- the point that an abort broke off while its stages complete their period (R220) -/
  broken : Option Nat
  /-- a point has ended and the next has not started -/
  gap   : Bool
  /-- the result buffer: point number and the words of its result window -/
  res   : List (Nat × List Word)
  deriving DecidableEq, Repr

/-- One Bezel block with the comparators of its die (10). -/
structure BzlSt where
  /-- the comparators are valid since the last power-up or rise (R249) -/
  valid : Bool
  /-- where an input was last reported to be -/
  sides : List (CmpId × CrossSide)
  /-- event 0x3009 was raised in this stay in START (R552) -/
  held  : Bool
  /-- inputs of the rows STF, SUP, REF, CLK, TTRIP and CFG -/
  stf   : Bool
  sup   : Bool
  ref   : Bool
  clk   : Bool
  ttrip : Bool
  cfg   : Bool
  /-- a self-test slot is in progress, with the check its first run failed (0 none) -/
  slot  : Option Nat
  /-- the slot that the rotation runs next (R261) -/
  next  : Nat
  /-- group 0 as the NVM save in progress stores it, and a further save waits (R265) -/
  save   : Option (List Word)
  queued : Bool
  deriving DecidableEq, Repr

/-- The causes of a channel fault (Table 11-5); `reported` is a fault that a guard frame reports (R287). -/
inductive FaultCause where
  | stf | gap | plaus | wire | findings | clock | xchk | guardLoss | reported | test
  deriving DecidableEq, Repr

/-- A channel fault: the position concerned, 0 for this device, its channel and its cause. -/
structure ChFault where
  pos   : Nat
  ch    : Chan
  cause : FaultCause
  deriving DecidableEq, Repr

/-- Safety supervision (11). -/
structure SafeSt where
  /-- the in-package channel from Bezel-U is lost (R259) -/
  crossLost : Bool
  faults : List ChFault
  /-- faults on two channels have been acted on (R557) -/
  two : Bool
  /-- the grace timer: when it started, and the fault that started it -/
  grace   : Option Nat
  graceOf : Option (Nat × Chan)
  /-- it expired while CORE did not run (R285) -/
  graceDue : Bool
  /-- faults that refuse the latch resets while they hold (R289) -/
  hold : List (Nat × Chan)
  /-- HWL was set with the outputs energised while CORE did not run: SAFE follows, with this detail (R275) -/
  hwlDue : Option Nat
  /-- SAFE was entered from LEGACY (R508) -/
  fromLegacy : Bool
  /-- positions with a gap fault and the good slots since (Table 11-5); failing positions of the cycle -/
  gapBad   : List (Nat × Nat)
  cycFail  : List Nat
  /-- when the carrier came back at the input -/
  carrierAt : Nat
  /-- GRD_GAPOKL and GRD_GAPOKH as the last complete cycle left them (R298) -/
  gapLast : Nat × Nat
  /-- cross-check: the codes of the passes of the window in progress, and failures in a row (R291) -/
  xcodes : List Nat
  xfails : Nat
  /-- members in WATCH whose SINGLE_CHANNEL was raised (R273) -/
  watchSaid : List Nat
  /-- the SDC switch whose dark pulse runs, or which has been turned on again and is not yet judged -/
  dark : Option SdcSw
  back : Option SdcSw
  /-- by switch: KIND of its last test (0 passed), 1 where that was a span of a line, and the confirmed KIND (R278) -/
  tests : List Nat
  spans : List Nat
  conf  : List Nat
  /-- SDC and GRD group 0 as the NVM save in progress stores them, and a further save waits (R296) -/
  save   : Option (List Word)
  queued : Bool
  deriving DecidableEq, Repr

/-- What a Beadline line does (16): the steps of a search (R438), of a schedule frame (R440) and of a host transaction. -/
inductive BdlAct where
  | idle
  /-- the restart of the line: 3 ms low, 2 ms high -/
  | restart
  | frontier
  | assign (p : Nat)
  /-- CHECK p - 1 after ASSIGN p passed -/
  | checkPrev (p : Nat)
  /-- CHECK p - 1 after ASSIGN p had no reply -/
  | checkLast (p : Nat)
  | pass (p : Nat)
  /-- the 2 ms in which the probe after p powers up -/
  | powerUp (p : Nat)
  | back (q : Nat)
  | convert
  | pull
  /-- the reads to do, the first of them on the line: position and whether it is the second channel -/
  | reads (todo : List (Nat × Bool))
  | found
  | host
  | hostPull
  deriving DecidableEq, Repr

/-- One Beadline line beyond its registers. -/
structure BdlLine where
  act : BdlAct
  /-- the frame on the line is the repeat of R437 -/
  again : Bool
  /-- a search waits for the line -/
  wanted : Bool
  /-- 0xA008 was raised since OVRUN was read (R441) -/
  overSaid : Bool
  /-- identity bits gathered, by position (R436) -/
  ids : List (Nat × List Bool)
  /-- reads of the frame in progress: position and outcome -/
  done : List (Nat × Bool)
  deriving DecidableEq, Repr

/-- A host transaction, pending or running: line, code, address, pull-up in ms. -/
structure BdlXfer where
  line : Nat
  code : Nat
  addr : Nat
  spu  : Nat
  deriving DecidableEq, Repr

structure BdlSt where
  l0 : BdlLine
  l1 : BdlLine
  xfer : Option BdlXfer
  deriving DecidableEq, Repr

/-- A controller transfer of the I²C port (R455): what IIC_XCTL said at GO, the retries made, and whether it runs on
the bus, waits for a free bus, or has lost arbitration. -/
inductive IicPhase where | waiting | running | lost
  deriving DecidableEq, Repr

structure IicXfer where
  a10  : Bool
  addr : Nat
  wlen : Nat
  rlen : Nat
  tries : Nat
  phase : IicPhase
  deriving DecidableEq, Repr

/-- The I²C port (17). -/
structure IicSt where
  /-- the bus has not been seen idle since a reset or an enable (R454) -/
  fresh : Bool
  /-- no write of CEN = 1 since the reset of the block (R464) -/
  cenDue : Bool
  xfer : Option IicXfer
  /-- addressed as a target within a lost transfer (R459) -/
  target : Bool
  deriving DecidableEq, Repr

/-- The self-test of the SRAM banks (R491 to R496). -/
structure BistSt where
  /-- the bank under the background test, and the bank the rotation tries next -/
  bg   : Option Nat
  next : Nat
  /-- banks the host test still has to do, the first of them under test; whether one has failed -/
  host : List Nat
  bad  : Bool
  /-- by bank: failing rows found by its last host test and not yet repaired -/
  rows : List Nat
  deriving DecidableEq, Repr

/-- The life-cycle (R498 to R500): the target whose authentication window is open, and the burn in progress with its
logical fuse and its target. -/
structure LcsSt where
  auth : Option Nat
  burn : Option (Nat × Nat)
  deriving DecidableEq, Repr

/-- A firmware operation in progress (R503); a program operation carries its page and what UPDBUF held. -/
inductive FwOp where
  | erase
  | prog (page : Nat) (words : List Word)
  | verify
  deriving DecidableEq, Repr

/-- One programmed page of an image slot in embedded NVM (R501). -/
structure FwPage where
  slot  : Nat
  page  : Nat
  words : List Word
  deriving DecidableEq, Repr

/-- Firmware images (R501 to R504). -/
structure FwSt where
  op       : Option FwOp
  /-- VERIFY has passed on the slot not running since its last ERASE or PROG -/
  verified : Bool
  /-- ACT with RST was written: a warm reset is due -/
  rstDue   : Bool
  /-- NEXT was selected by ACT and has not booted (kept in NVM) -/
  fresh    : Bool
  /-- a trial ended without CONFIRM: event 0xC034 is due after the restart, with its cause (R504) -/
  revert   : Option Nat
  /-- neither slot verified: CORE runs no firmware (R502) -/
  dead     : Bool
  /-- security versions of the images in slots A and B, and the pages programmed since their last ERASE -/
  svnA     : Nat
  svnB     : Nat
  pages    : List FwPage
  deriving DecidableEq, Repr

/-- One virtual ZM1210 of a device in LEGACY (R509 to R519). -/
structure VDev where
  /-- legacy address, 0 while it has none -/
  addr  : Nat
  cc    : Nat
  /-- CELL1 to CELL12, STACK, TEMP0 and TEMP1 as latched, and whether a result of the set was INV -/
  cells : List Nat
  stack : Nat
  temp0 : Nat
  temp1 : Nat
  inv   : Bool
  /-- CONVERT waits for the next boundary; a threshold was staged and not yet armed -/
  conv  : Bool
  thr   : Bool
  deriving DecidableEq, Repr

/-- ZM1210 compatibility (20): the virtual devices, FW_LEG.ISET and DTO as they took effect at power-on (R506), and the
command and address that FW_LPXC sent and that wait for their response. -/
structure LegSt where
  vdevs : List VDev
  iset  : Nat
  dto   : Nat
  lpx   : Option (Nat × Nat)
  deriving DecidableEq, Repr

/-- What the embedded NVM and the fuses of the AFE dies hold through every reset: the stored and the factory trim sets,
the stored copies of BZL group 0 of each die (R265) and of SDC and GRD group 0 (R296), `none` where never written, which
of them a load has found bad, and FW_LEG as it was saved (R506). -/
structure NvmSt where
  calL  : TrimSet
  calU  : TrimSet
  factL : TrimSet
  factU : TrimSet
  bzlL  : Option (List Word)
  bzlU  : Option (List Word)
  sdc   : Option (List Word)
  badL  : Bool
  badU  : Bool
  badSdc : Bool
  leg   : Word
  deriving DecidableEq, Repr

/-- The fuses of the part. -/
structure Fuses where
  /-- how many of its three physical fuses are burned, for each logical fuse 0 to 63 of the life-cycle chain (R498) -/
  chain  : List Nat
  /-- FW_SVN.MIN (R504) -/
  svn    : Nat
  /-- by bank 0 to 5: 1 once fuse-retired, and spare rows used (R496) -/
  banks  : List Nat
  spares : List Nat
  deriving DecidableEq, Repr

/-- What a register access asks of the device beyond its block, done at the end of the command that holds the access: the
resets of SYS_DRST by bit, a Spindle-ordered reset by level, an enumeration, HIF_CTRL.EN, EN of a ring, and a look at
whether CVW group 1 binds the device to a stream ring. -/
inductive Ask where
  | drst (bits : Nat)
  | spindle (level : Nat)
  | enumGo
  | hif (en : Bool) (speed width : Nat)
  | ring (r : Nat) (en : Bool)
  | binding
  deriving DecidableEq, Repr

/-- One ZM3680 without its queue of commands. -/
structure Dev where
  build : Build
  role  : Role
  /-- the registers: words in force that differ from the reset word -/
  regs  : Store
  /-- the staged copies that were written and not yet applied or discarded (R31) -/
  staged : Store
  /-- the value returned by the last register read -/
  readData : Word
  /-- what the part has sent, newest first -/
  out   : List Output
  /-- cycles of 1/6 us since power-on -/
  now   : Nat
  /-- the MTICK count of the timebase (R88) -/
  mtick : Nat
  /-- free values drawn so far -/
  draws : Nat
  pw    : PowerSt
  spn   : SpnSt
  hd    : HeadSt
  hif   : HifSt
  burl  : BurlSt
  win   : WinSt
  cap   : CapSt
  tb    : TbSt
  auxL  : AuxSt
  auxU  : AuxSt
  owd   : OwdSt
  bal   : BalSt
  calL  : CalSt
  calU  : CalSt
  imp   : ImpSt
  bdl   : BdlSt
  iic   : IicSt
  bzlL  : BzlSt
  bzlU  : BzlSt
  saf   : SafeSt
  nvm   : NvmSt
  bst   : BistSt
  lcs   : LcsSt
  fw    : FwSt
  leg   : LegSt
  fz    : Fuses
  asks  : List Ask
  deriving DecidableEq, Repr

/-! ## The state of each block after a power-on reset -/

def zerosN (n : Nat) : List Nat := List.replicate n 0

def PowerSt.init : PowerSt :=
  { starting := true, trans := none, later := none, hold := false, streamBound := false, shipEntry := none, off := false
    warm := false, heldDoze := false, clkBad := 0, toneN := none, toneS := none, iicWait := none, vstkOk := true, found := []
    failed := [] }

def PortSt.init : PortSt :=
  { quietPeriods := 3, gotHeard := false, sentHeard := false, unheard := 0, silent := false, lineCheck := false
    txq := [], freed1 := 0, freed2 := 0, freed3 := 0, owed := 0, taken1 := 0, taken2 := 0, taken3 := 0 }

def SpnSt.init : SpnSt :=
  { north := PortSt.init, south := PortSt.init, aliveOut := zerosN 16, aliveIn := [], seq1 := 0, seq3 := 0
    full1 := true, full2 := true, full3 := true, exp1 := 0, expB := 0, kept := none, evq := [], evBase := 0, evSent := 0
    evLost := 0, outArmed := false, warmDue := false, swapped := false }

def HeadSt.init : HeadSt :=
  { order := [], links := [], members := [], enum := none, unnum := [], seqB := 0, fullB := true, eseq := 0, rebuild := false
    tried := false }

def HifSt.init : HifSt :=
  { d3hot := false, l2 := false, wakeLow := false, rings := List.replicate 34 ⟨0, 0, false, 0, 0⟩, runs := [], nextRun := 0, compq := []
    held := [], heldCount := zerosN 8, evq := [], evFullDue := false, dropAt := [] }

def BurlSt.init : BurlSt := ⟨[], List.replicate 12 ⟨0, false, [], []⟩⟩

def WinSt.init : WinSt :=
  { opened := false, openCcyc := 0, openTick := 0, earliest := 0, ccyc := 0, still := true, ranL := false, ranU := false, eraL := 0
    eraU := 0, brokenL := false, brokenU := false, newcfg := false, tstep := false, calL := false, calU := false
    shuntL := false, shuntU := false, trimL := false, trimU := false, switched := [], excited := [], pulled := []
    ovt := [], uvt := [], quiet := false, balw := 0, carry := List.replicate 38 0, mark := none, markAt := [], prevEraL := 0, prevEraU := 0
    miss := false, sums := List.replicate 38 ⟨0, 0, 0, 0, 0, false, false⟩, sumPart := false, evRaised := [], capSrc := 0
    capOrigin := 0, closed := none, armedAt := none, latches := [] }

def CapSt.init : CapSt := ⟨[], none, []⟩

def TbSt.init : TbSt :=
  { setLow := 0, todLow := 0, step := none, annL := none, annH := none, annT := none, infoN := 0, infoS := 0, good := 0
    bad := 0, t1 := 0, t2 := 0, t3 := 0, tod := none, lastSec := none, lastEdge := none, late := false, ptmOk := false
    ppsOk := false, headTq := 0 }

def AuxSt.init : AuxSt :=
  { phase := .stopped, left := none, div := 0, urgent := none, prev := none, rot := 0, plaus := none, fails := zerosN 18
    raised := [], halt := false, skip := 0 }

def OwdSt.init : OwdSt :=
  { run := none, due := false, last := zerosN 37, conf := zerosN 37, reqs := [], jchk := [], again := [], finds := [], refs := []
    count := 0, rot := 0, probe := none, fails := zerosN 36 }

def BalSt.init : BalSt :=
  { live := [], tail := [], swept := [], idleTo := none, stop := false, held := false, ran := 0, iset := zerosN 36, prog := zerosN 36, miss := zerosN 36
    derL := false, derU := false, led := List.replicate 36 ⟨0, 0, 0, 0, 0, 0, 0, 0, false, false⟩
    bus := [(0, 0), (0, 0)], peak := [0, 0], fmb := zerosN 6, skip := false }

def CalSt.init : CalSt := ⟨none, false, false, none, none⟩

def ImpSt.init : ImpSt :=
  { tick := 0, wseq := 0, worst := 0, span := 0, rows := [], done := List.replicate 36 []
    qspan := List.replicate 36 0, qlast := List.replicate 36 0, qpt := List.replicate 36 0, setp := List.replicate 36 0
    broken := none, gap := false, res := [] }

def BdlLine.init : BdlLine := ⟨.idle, false, false, false, [], []⟩

def BdlSt.init : BdlSt := ⟨BdlLine.init, BdlLine.init, none⟩

def IicSt.init : IicSt := ⟨true, true, none, false⟩

def BzlSt.init : BzlSt :=
  { valid := false, sides := [], held := false, stf := false, sup := false, ref := false, clk := false, ttrip := false
    cfg := false, slot := none, next := 0, save := none, queued := false }

def SafeSt.init : SafeSt :=
  { crossLost := false, faults := [], two := false, grace := none, graceOf := none, graceDue := false, hold := []
    hwlDue := none, fromLegacy := false, gapBad := [], cycFail := [], carrierAt := 0, gapLast := (0, 0), xcodes := [], xfails := 0, watchSaid := []
    dark := none, back := none, tests := zerosN 4, spans := zerosN 4, conf := zerosN 4, save := none, queued := false }

def BistSt.init : BistSt := ⟨none, 0, [], false, zerosN 6⟩

def LegSt.init : LegSt := ⟨[], 10, 60, none⟩

/-- The trims of a bank as the part leaves the factory: zero trims and the references read at their nominal values (log 6). -/
def TrimSet.factory : TrimSet :=
  { ofs := List.replicate 19 0, gain := List.replicate 19 0, vcalm := List.replicate 18 41000000 ++ [20000000], cnt := 0
    time := 0, src := 0 }

/-- Embedded NVM of a part on which nothing was saved (log 7). -/
def NvmSt.blank : NvmSt :=
  { calL := .factory, calU := .factory, factL := .factory, factU := .factory, bzlL := none, bzlU := none, sdc := none, badL := false, badU := false
    badSdc := false, leg := 0x3C0A#32 }

/-- The fuses of a part in BLANK (log 8). -/
def Fuses.blank : Fuses := ⟨zerosN 64, 0, zerosN 6, zerosN 6⟩

def FwSt.init : FwSt :=
  { op := none, verified := false, rstDue := false, fresh := false, revert := none, dead := false, svnA := 0, svnB := 0, pages := [] }

/-- A device of a build and a role whose registers all hold their reset words, and whose blocks start anew. -/
def Dev.anew (b : Build) (r : Role) : Dev :=
  { build := b, role := r, regs := [], staged := [], readData := 0, out := [], now := 0, mtick := 0, draws := 0
    pw := .init, spn := .init, hd := .init, hif := .init, burl := .init, win := .init, cap := .init, tb := .init
    auxL := .init, auxU := .init, owd := .init, bal := .init, calL := .init, calU := .init, imp := .init
    bdl := .init, iic := .init, bzlL := .init, bzlU := .init, saf := .init, nvm := .blank, bst := .init
    lcs := ⟨none, none⟩, fw := .init, leg := .init, fz := .blank, asks := [] }
/-- The faults: none. No command stops the block; what the specification calls an error is an effect on the state. -/
inductive Fault where
  deriving DecidableEq, Repr

/-- The refusals: a command to which the model gives no meaning yet, raised only by `exec`; safe. -/
inductive Refusal where
  | notModelled (mnemonic : String)
  deriving DecidableEq, Repr


/-- The machine: the device and the commands that wait, first in, first out. -/
structure State where
  dev     : Dev
  pending : List Instr
  deriving DecidableEq, Repr

/-- Words that NVM, fuses and the Burl directory of a new part give their registers at power-on, where they differ from the
reset word: LCS_STAT.SVCLEFT, BST_RES.SPARES, FW_VERA (log 36), CAL_VCALM of both banks (log 6) and RCD_STAT.FREE. -/
def shownRegs : Store :=
  [(0x2C000, 0x1E0000#32)]
  ++ (List.range 6).map (fun i => (0x30100 + 16 * i, 0x400000#32))
  ++ [(0x34004, 0x02040000#32)]
  ++ (List.range 19).map (fun i => (0x402300 + 4 * i, if i = 18 then 20000000#32 else 41000000#32))
  ++ (List.range 19).map (fun i => (0x502300 + 4 * i, if i = 18 then 20000000#32 else 41000000#32))
  ++ [(0x800004, 0x0C000000#32)]

/-- The machine right after a power-on reset: a ZM3680-F in the member role (log 1) with blank NVM and fuses, and no
command waiting. -/
def State.reset : State := ⟨{ Dev.anew .F .member with regs := shownRegs }, []⟩

end Sys2Proof.Machine
end

