-- ==== Sys2Proof/Machine/Ops.lean ====
section
/-!
DEFINITION. The named operations that every block shares: reading and writing a register field, the clock and its
time, what the part sends out, and counters that saturate or wrap.
-/

namespace Sys2Proof.Machine

/-! ## The register store -/

/-- The word a store lists at an address. -/
def Store.find (a : Nat) : Store → Option Word
  | [] => none
  | (b, w) :: rest => if b = a then some w else Store.find a rest

/-- A store without an address. -/
def Store.drop (a : Nat) : Store → Store
  | [] => []
  | (b, w) :: rest => if b = a then Store.drop a rest else (b, w) :: Store.drop a rest

/-- A store with a word at an address. -/
def Store.insert (a : Nat) (v : Word) : Store → Store
  | [] => [(a, v)]
  | (b, w) :: rest =>
    if b = a then (a, v) :: rest else if a < b then (a, v) :: (b, w) :: rest else (b, w) :: Store.insert a v rest

/-- A store with a word at an address where `rst` is what the address reads as when it is not listed. -/
def Store.set (rst : Word) (a : Nat) (v : Word) (s : Store) : Store :=
  if v = rst then Store.drop a s else Store.insert a v s

/-- The canonical form: addresses strictly rising, and no word equal to `rst` of its address. -/
def Store.wf (rst : Nat → Word) : Store → Bool
  | [] => true
  | [(a, w)] => decide (w ≠ rst a)
  | (a, w) :: (b, v) :: rest => decide (w ≠ rst a) && decide (a < b) && Store.wf rst ((b, v) :: rest)

/-- The capture capacity NCAP in blocks (Table 19-1): by build and role, with four banks in service. -/
def ncapFour : Build → Role → Nat
  | _, .head => 32768
  | .F, .member => 7281
  | _, .member => 13107

/-- The reset word of an address (R7): the Reset column, with the values that depend on the build and the role. -/
def resetWord (b : Build) (r : Role) (a : Nat) : Word :=
  match a with
  | 0x0 => if r = .head then 1 else 0
  | 0xC020 => if r = .head then 0x20000000 else 0
  | 0x1001C => BitVec.ofNat 32 (Config.vendorId.toNat * 65536 + 0x3680)
  | 0x24014 => match b, r with
    | .F, .member => 0xFFFFFFFF | .H, .member => 0x0003FFFF | _, _ => 0
  | 0x24018 => match b, r with
    | .F, .member => 0xF | _, _ => 0
  | 0x34208 => BitVec.ofNat 32 (ncapFour b r)
  | a => match locate a with
    | some l => BitVec.ofNat 32 l.row.resetNat
    | none => 0

/-- The word a register holds in force. -/
def Dev.word (d : Dev) (a : Nat) : Word :=
  match Store.find a d.regs with
  | some w => w
  | none => resetWord d.build d.role a

/-- The device with a register word. -/
def Dev.setWord (d : Dev) (a : Nat) (v : Word) : Dev :=
  { d with regs := Store.set (resetWord d.build d.role a) a v d.regs }

/-- The value of a field in force. -/
def Dev.get (d : Dev) (f : Fld) : Nat := bitsOf (d.word f.addr) f.hi f.lo

/-- The value of a one-bit field in force. -/
def Dev.bit (d : Dev) (f : Fld) : Bool := decide (d.get f ≠ 0)

/-- The value of a field in force, read as a signed number of its width. -/
def Dev.getS (d : Dev) (f : Fld) : Int := toSigned (f.hi + 1 - f.lo) (d.get f)

/-- The device with a field. -/
def Dev.put (d : Dev) (f : Fld) (v : Nat) : Dev := d.setWord f.addr (setBits (d.word f.addr) f.hi f.lo v)

/-- The device with a signed field. -/
def Dev.putS (d : Dev) (f : Fld) (v : Int) : Dev := d.put f (ofSigned (f.hi + 1 - f.lo) v)

/-- The device with a one-bit field. -/
def Dev.putB (d : Dev) (f : Fld) (b : Bool) : Dev := d.put f (if b then 1 else 0)

/-- The greatest value of a field. -/
def Fld.max (f : Fld) : Nat := 2 ^ (f.hi + 1 - f.lo) - 1

/-- A field that counts and saturates. -/
def Dev.countSat (d : Dev) (f : Fld) (n : Nat) : Dev := d.put f (min f.max (d.get f + n))

/-- A field that counts modulo its range. -/
def Dev.countMod (d : Dev) (f : Fld) (n : Nat) : Dev := d.put f (d.get f + n)

/-- A 64-bit value held in two registers, low word first. -/
def Dev.get64 (d : Dev) (lo hi : Fld) : Nat := d.get lo + 2 ^ 32 * d.get hi

/-- The device with a 64-bit value in two registers. -/
def Dev.put64 (d : Dev) (lo hi : Fld) (v : Nat) : Dev := (d.put lo v).put hi (v / 2 ^ 32)

/-- The staged value of a field: its staged copy, or the value in force where nothing was staged (R31). -/
def Dev.stg (d : Dev) (f : Fld) : Nat :=
  match Store.find f.addr d.staged with
  | some w => bitsOf w f.hi f.lo
  | none => d.get f

/-- A staged value, read as a signed number of its width. -/
def Dev.stgS (d : Dev) (f : Fld) : Int := toSigned (f.hi + 1 - f.lo) (d.stg f)

/-! ## Builds, dies and cells -/

/-- The builds that fit a die (Table 1-1). -/
def fits : Build → Die → Bool
  | _, .core => true
  | _, .afeL => true
  | .F, _ => true
  | .H, .phyN => true
  | .H, .phyS => true
  | .H, .bpdL => true
  | _, _ => false

/-- The number of cells of a build (R8). -/
def cellCount : Build → Nat | .F => 36 | _ => 18

/-- The cells the device measures: none in the head role (R13). -/
def Dev.cells (d : Dev) : Nat := if d.role = .head then 0 else cellCount d.build

/-- The AFE dies that are fitted and powered: a head powers AFE-L alone (R13, R15). -/
def Dev.fitted (d : Dev) : List Afe := if d.role = .member ∧ d.build = .F then [.L, .U] else [.L]

/-- A die has failed (R294). -/
def Dev.dead (d : Dev) (x : Die) : Bool := d.pw.failed.contains x

/-- The AFE die of a bank. -/
def afeDie : Afe → Die | .L => .afeL | .U => .afeU

/-- The AFE dies that work. -/
def Dev.banks (d : Dev) : List Afe := d.fitted.filter (fun a => !d.dead (afeDie a))

/-- The bank of a global cell. -/
def bankOf (n : Nat) : Afe := if n ≤ 18 then .L else .U

/-- The local number of a global cell (R9). -/
def localOf (n : Nat) : Nat := if n ≤ 18 then n else n - 18

/-- The global number of a local cell (R9). -/
def globalOf (a : Afe) (k : Nat) : Nat := match a with | .L => k | .U => k + 18

/-- The numbers from `a` to `b`. -/
def rangeL (a b : Nat) : List Nat := (List.range (b + 1 - a)).map (· + a)

/-- The source code of a die in an event record (Table 15-10). -/
def afeSrc : Afe → Nat | .L => 1 | .U => 2

/-! ## Modes -/

/-- The codes of Table 3-1. -/
def Mode.code : Mode → Nat
  | .ship => 0 | .patrol => 1 | .doze => 2 | .watch => 3 | .monitor => 4 | .stream => 5 | .spectro => 6
  | .calibrate => 8 | .degraded => 9 | .safe => 10 | .legacy => 11 | .provision => 12

/-- The mode of a code; codes that Table 3-1 leaves out do not occur and read as MONITOR. -/
def Mode.ofCode : Nat → Mode
  | 0 => .ship | 1 => .patrol | 2 => .doze | 3 => .watch | 4 => .monitor | 5 => .stream | 6 => .spectro
  | 8 => .calibrate | 9 => .degraded | 10 => .safe | 11 => .legacy | 12 => .provision | _ => .monitor

/-- The current mode, PWR_STAT.CUR. -/
def Dev.cur (d : Dev) : Mode := Mode.ofCode (d.get PWR_STAT_CUR)

/-- The ladder mode beneath it, PWR_STAT.BASE. -/
def Dev.base (d : Dev) : Mode := Mode.ofCode (d.get PWR_STAT_BASE)

/-- The ladder modes, SHIP to SPECTRO. -/
def Mode.ladder (m : Mode) : Bool := decide (m.code ≤ 6)

/-- The ladder level whose services run: BASE, at least MONITOR in SAFE (R547), MONITOR in LEGACY. -/
def Dev.level (d : Dev) : Nat :=
  match d.cur with
  | .safe => max 4 (d.get PWR_STAT_BASE)
  | .legacy => 4
  | .degraded | .calibrate | .provision => d.get PWR_STAT_BASE
  | m => m.code

/-- Lathe runs and the device is powered: outside SHIP and outside a CORE warm reset, with an image that verified (R47, R64,
R502). -/
def Dev.lathe (d : Dev) : Bool := !d.pw.off && !d.pw.warm && !d.fw.dead

/-- The device answers as ZM1210s: in LEGACY, or in SAFE entered from it (R507, R508). -/
def Dev.inLegacy (d : Dev) : Bool := decide (d.cur = Mode.legacy) || (decide (d.cur = Mode.safe) && d.saf.fromLegacy)

/-- The services of MONITOR run (R547): CORE, TB, converters, aux sequencer and the low-rate chain. -/
def Dev.monitoring (d : Dev) : Bool := d.lathe && !d.pw.starting && decide (4 ≤ d.level)

/-- MCLK of the converters runs: with the services of MONITOR, and on through a CORE warm reset (R47). -/
def Dev.mclkOn (d : Dev) : Bool := !d.pw.off && !d.fw.dead && !d.pw.starting && decide (4 ≤ d.level)

/-! ## Time -/

/-- TBTIME of an MTICK, in whole nanoseconds (R371). -/
def tbTime (m : Nat) : Nat := m * 1000 / 6

/-- TBFRAC of an MTICK (R371): the fraction truncated to 16 bits. -/
def tbFrac (m : Nat) : Nat := (m * 1000 % 6) * 65536 / 6

/-- The time quality in force (R372). -/
def Dev.tq (d : Dev) : Nat := d.get TB_STAT_TQ

/-- The position of the device: P0 for a head (R10). -/
def Dev.pos (d : Dev) : Nat := if d.role = .head then 0 else d.get SPN_POS_POS

/-! ## Output -/

/-- The device with one more thing sent. -/
def Dev.emit (d : Dev) (o : Output) : Dev := { d with out := o :: d.out }

/-- A value drawn from the free values: the counter is read and advanced. -/
def Dev.draw (d : Dev) : Nat × Dev := (d.draws, { d with draws := d.draws + 1 })

/-- Apply a function for every element of a list, from the first to the last. -/
def Dev.each {α : Type} (d : Dev) (xs : List α) (f : Dev → α → Dev) : Dev := xs.foldl f d

/-- Apply a function if a condition holds. -/
def Dev.when (d : Dev) (c : Bool) (f : Dev → Dev) : Dev := if c then f d else d

end Sys2Proof.Machine
end

