-- ==== Sys2Proof/Machine/Commit.lean ====
section
/-!
DEFINITION. Staged copies and the status of a block (02, R31 to R39): staging a field, arming and discarding a group,
applying it or reloading it, and the fields of BLOCK_CSTAT. The consistency checks are in Groups.lean.
-/

namespace Sys2Proof.Machine

/-- The fields of BLOCK_CSTAT of the block at a base (Table 2-5); RUN is computed when it is read. -/
def csGen (b : Nat) : Fld := ⟨b + 0xF04, 31, 16⟩
def csReject (b : Nat) : Fld := ⟨b + 0xF04, 15, 11⟩
def csRejgrp (b : Nat) : Fld := ⟨b + 0xF04, 10, 9⟩
def csDirty (b g : Nat) : Fld := ⟨b + 0xF04, 4 + g, 4 + g⟩
def csPend (b g : Nat) : Fld := ⟨b + 0xF04, g, g⟩

/-- The staged word of an address: its staged copy, or the word in force where nothing was staged. -/
def Dev.stagedWord (d : Dev) (a : Nat) : Word := (Store.find a d.staged).getD (d.word a)

/-- The device with a staged word. -/
def Dev.setStaged (d : Dev) (a : Nat) (w : Word) : Dev := { d with staged := Store.set (d.word a) a w d.staged }

/-- Write a staged field of a group of the block at a base (R31): only the staged copy changes, and DIRTY is set. -/
def Dev.stage (d : Dev) (base g : Nat) (f : Fld) (v : Nat) : Dev :=
  (d.setStaged f.addr (setBits (d.stagedWord f.addr) f.hi f.lo v)).put (csDirty base g) 1

/-- Arm a group (R33). -/
def Dev.arm (d : Dev) (base g : Nat) : Dev := d.put (csPend base g) 1

/-- A group is pending. -/
def Dev.pend (d : Dev) (base g : Nat) : Bool := d.bit (csPend base g)

/-- A word with some fields taken from another. -/
def takeFields (fs : List FieldSpec) (from' into : Word) : Word :=
  fs.foldl (fun w f => setBits w f.hi f.lo (bitsOf from' f.hi f.lo)) into

/-- The staged copies inside the block at a base. -/
def Dev.stagedIn (d : Dev) (base : Nat) : Store := d.staged.filter (fun p => base ≤ p.1 && p.1 < base + 0xF00)

/-- The group of a staged field of a register: the lines of BDL have a group each (R446). -/
def Loc.group (l : Loc) (g : Nat) : Nat := if l.blk = .bdl then l.idx else g

/-- The fields of a group of a staged register, where it has some. -/
def stagedFields (g a : Nat) : List FieldSpec :=
  match locate a with
  | some l => l.row.fields.filter (fun f => match f.acc with | .rwS h => l.group h = g | _ => false)
  | none => []

/-- Every field of a group takes its staged value (R35). -/
def Dev.applyGroup (d : Dev) (base g : Nat) : Dev :=
  d.each (d.stagedIn base) (fun d p =>
    let new := takeFields (stagedFields g p.1) p.2 (d.word p.1)
    (d.setWord p.1 new).setStaged p.1 p.2)

/-- The staged copy of a group is reloaded from the values in force (R36, R39). -/
def Dev.reloadGroup (d : Dev) (base g : Nat) : Dev :=
  d.each (d.stagedIn base) (fun d p => d.setStaged p.1 (takeFields (stagedFields g p.1) (d.word p.1) p.2))

/-- A pending group has passed its checks (R35). -/
def Dev.acceptGroup (d : Dev) (base g : Nat) : Dev :=
  (((d.applyGroup base g).countMod (csGen base) 1).put (csPend base g) 0).put (csDirty base g) 0

/-- A pending group has failed a check (R36). -/
def Dev.rejectGroup (d : Dev) (base g check : Nat) : Dev :=
  let d := d.reloadGroup base g
  (((d.put (csReject base) check).put (csRejgrp base) g).put (csPend base g) 0).put (csDirty base g) 0

/-- DISCARD of a group (R39). -/
def Dev.discardGroup (d : Dev) (base g : Nat) : Dev :=
  ((d.reloadGroup base g).put (csPend base g) 0).put (csDirty base g) 0

/-- COMMIT_CLRREJ: a write of BLOCK_COMMIT.CLRREJ (Table 2-4). -/
def Dev.clearReject (d : Dev) (base : Nat) : Dev := (d.put (csReject base) 0).put (csRejgrp base) 0

end Sys2Proof.Machine
end

