-- ==== Sys2Proof/Machine/Frames.lean ====
section
/-!
DEFINITION. Frames and ports (12, 13): the compact word, the extended frame and their checks, the classes, units and
credits, sending, and the way of a member.
-/

namespace Sys2Proof.Machine

/-! ## Compact frames (Table 13-1) -/

/-- The kinds of Table 13-2. -/
def kTrip : Nat := 1
def kGuard : Nat := 2
def kCapreq : Nat := 3
def kCapture : Nat := 4
def kCredit : Nat := 5
def kCreditInit : Nat := 6
def kEvack : Nat := 7
def kReset : Nat := 8
def kEnum : Nat := 9
def kRoute : Nat := 11
def kNotice : Nat := 12
def kSync : Nat := 13
def kTiming : Nat := 14

/-- The class of a compact kind (Table 13-2): TC0 for TRIP, GUARD, CAPREQ, CAPTURE and TIMING, else TC1. -/
def kindTc (k : Nat) : Nat := if k ≤ 4 ∨ k = 14 then 0 else 1

def cfKind (w : Word64) : Nat := bitsOf w 63 60
def cfTc (w : Word64) : Nat := bitsOf w 59 58
def cfPos (w : Word64) : Nat := bitsOf w 57 52
def cfAlive (w : Word64) : Nat := bitsOf w 51 48
def cfPay (w : Word64) : Nat := bitsOf w 47 16
def cfCrc (w : Word64) : Nat := bitsOf w 15 0

/-- The CRC-16 that a compact word must carry (R327): over bits [63:16] as six bytes, [63:56] first. -/
def cfCrcOf (w : Word64) : BitVec 16 := crc16 ((leBytes 6 (w.toNat / 65536)).reverse)

/-- The compact word with its CRC right. -/
def cfOk (w : Word64) : Bool := decide (cfCrc w = (cfCrcOf w).toNat)

/-- A compact word with its CRC. -/
def cfMake (kind pos alive pay : Nat) : Word64 :=
  let n := kind % 16 * 2 ^ 60 + kindTc kind * 2 ^ 58 + pos % 64 * 2 ^ 52 + alive % 16 * 2 ^ 48 + pay % 2 ^ 32 * 2 ^ 16
  BitVec.ofNat 64 (n + (cfCrcOf (BitVec.ofNat 64 n)).toNat)

/-- A received compact word with another payload and a new CRC, as a device forwards ENUM (R359). -/
def cfWithPay (w : Word64) (pay : Nat) : Word64 := cfMake (cfKind w) (cfPos w) (cfAlive w) pay

/-! ## Extended frames (Table 13-3) -/

/-- Zero padding to a multiple of four bytes (R325). -/
def padded (bs : List Byte) : List Byte := bs ++ List.replicate ((4 - bs.length % 4) % 4) 0

/-- The transmitted bytes of an extended frame before its CRC. -/
def xBytes (x : XFrame) : List Byte :=
  let b2 := (if x.dir then 128 else 0) + (if x.bcast then 64 else 0) + (if x.sfull then 32 else 0)
    + (if x.more then 16 else 0) + (if x.turn then 8 else 0)
  leBytes 1 x.ftype ++ leBytes 1 (x.tc % 4 * 64 + x.pos % 64) ++ leBytes 1 b2 ++ leBytes 1 x.seql
    ++ leBytes 2 x.payload.length ++ leBytes 2 x.tag ++ (if x.sfull then leBytes 4 x.seqf else []) ++ padded x.payload

/-- The CRC-32C of an extended frame (R331): over the eight bytes that are not transmitted and then the frame. -/
def xCrc (x : XFrame) (ipos seq : Nat) : Word :=
  crc32c (leBytes 1 ipos ++ leBytes 1 (if x.dir then 1 else 0) ++ leBytes 1 x.tc ++ leBytes 1 0 ++ leBytes 4 seq ++ xBytes x)

/-- An extended frame ready to send, with its CRC. -/
def xSeal (x : XFrame) (ipos seq : Nat) : XFrame := { x with crc := xCrc x ipos seq }

/-- The frame as a relay sends it back at a break (R344): TURN set, and the CRC corrected for that one bit, which a
linear code allows without the bytes that are not transmitted (log 21). -/
def xTurn (x : XFrame) : XFrame :=
  { x with turn := true, crc := x.crc ^^^ xCrc x 0 0 ^^^ xCrc { x with turn := true } 0 0 }

/-- The sequence number of a received frame (R334): SEQF, or the one value from E - 128 to E + 127 with that low byte. -/
def xSeqOf (x : XFrame) (e : Nat) : Nat :=
  if x.sfull then x.seqf % 2 ^ 32
  else
    let lowest := (e + 2 ^ 32 - 128) % 2 ^ 32
    (lowest + (x.seql + 256 - lowest % 256) % 256) % 2 ^ 32

/-- A frame whose SEQ lies before E, counted modulo 2^32, is a duplicate (R334). -/
def seqBefore (seq e : Nat) : Bool := decide ((seq + 2 ^ 32 - e) % 2 ^ 32 ≥ 2 ^ 31)

/-- Bytes on the wire, from offset 0x00 to the end of the CRC (R337). -/
def Body.size : Body → Nat
  | .compact _ => 8
  | .ext x => (xBytes x).length + 4

/-- The units of 64 bytes a frame needs (R337). -/
def Body.units : Body → Nat
  | .compact _ => 1
  | .ext x => ((xBytes x).length + 4 + 63) / 64

/-- The class of a frame. -/
def Body.tc : Body → Nat
  | .compact w => cfTc w
  | .ext x => x.tc

/-! ## Ports -/

/-- The other port. -/
def otherPort : Port → Port | .north => .south | .south => .north

def Dev.port (d : Dev) : Port → PortSt | .north => d.spn.north | .south => d.spn.south

def Dev.setPort (d : Dev) (p : Port) (s : PortSt) : Dev :=
  match p with
  | .north => { d with spn := { d.spn with north := s } }
  | .south => { d with spn := { d.spn with south := s } }

def SPN_PORT_STATE : Port → Fld | .north => SPN_PORTN_STATE | .south => SPN_PORTS_STATE
def SPN_PORT_PWORD : Port → Fld | .north => SPN_PORTN_PWORD | .south => SPN_PORTS_PWORD
def SPN_PORT_DOWNCNT : Port → Fld | .north => SPN_PORTN_DOWNCNT | .south => SPN_PORTS_DOWNCNT
def SPN_PORT_LEG : Port → Fld | .north => SPN_PORTN_LEG | .south => SPN_PORTS_LEG
def SPN_PORT_MISW : Port → Fld | .north => SPN_PORTN_MISW | .south => SPN_PORTS_MISW
def SPN_PORT_ONEWAY : Port → Fld | .north => SPN_PORTN_ONEWAY | .south => SPN_PORTS_ONEWAY
def SPN_PORT_INV : Port → Fld | .north => SPN_PORTN_INV | .south => SPN_PORTS_INV
def SPN_ERR_CRC16 : Port → Fld | .north => SPN_ERRN_CRC16 | .south => SPN_ERRS_CRC16
def SPN_ERR_CRC32 : Port → Fld | .north => SPN_ERRN_CRC32 | .south => SPN_ERRS_CRC32
def SPN_CRED_FROZEN : Port → Fld | .north => SPN_CREDN_FROZEN | .south => SPN_CREDS_FROZEN

/-- The transmit credits of a port and a class. -/
def SPN_CRED (p : Port) (tc : Nat) : Fld :=
  match p, tc with
  | .north, 1 => SPN_CREDN_TC1 | .north, 2 => SPN_CREDN_TC2 | .north, _ => SPN_CREDN_TC3
  | .south, 1 => SPN_CREDS_TC1 | .south, 2 => SPN_CREDS_TC2 | .south, _ => SPN_CREDS_TC3

/-- The code of a port in events: 0 north, 1 south. -/
def portCode : Port → Nat | .north => 0 | .south => 1

/-- The port states of Table 12-5. -/
def pOff : Nat := 0
def pDown : Nat := 1
def pParked : Nat := 2
def pLr : Nat := 3
def pTrain : Nat := 4
def pHr : Nat := 5
def pRetrain : Nat := 6

def Dev.pstate (d : Dev) (p : Port) : Nat := d.get (SPN_PORT_STATE p)

/-- The link carries frames: LR or HR. -/
def Dev.linkUp (d : Dev) (p : Port) : Bool := d.pstate p = pLr || d.pstate p = pHr

/-- The units offered per receiving port (Table 13-6). -/
def unitsOffered (hr : Bool) (tc : Nat) : Nat := match tc with | 1 => 32 | 2 => 16 | _ => if hr then 256 else 32

/-- CREDIT leaves a port with what its receive buffers have freed since CREDIT_INIT (R338). A link kind is never held, so it
passes the queue by (log 22). -/
def Dev.sendCredit (d : Dev) (p : Port) : Dev :=
  let s := d.port p
  (d.setPort p { s with owed := 0 }).emit
    (.frame p (.compact (cfMake kCredit 0 0 (s.freed1 % 1024 * 2 ^ 22 + s.freed2 % 1024 * 2 ^ 12 + s.freed3 % 4096))))

/-- CREDIT is due at once: 16 units have been freed since the last one (R338). -/
def Dev.creditDue (d : Dev) (p : Port) : Dev :=
  if 16 ≤ (d.port p).owed ∧ d.linkUp p ∧ !d.bit (SPN_PORT_LEG p) then d.sendCredit p else d

/-- Count units of a class as freed from the receive buffer of a port (R337, R338). -/
def Dev.freeUnits (d : Dev) (p : Port) (tc n : Nat) : Dev :=
  let s := d.port p
  match tc with
  | 1 => (d.setPort p { s with freed1 := s.freed1 + n, owed := s.owed + n }).creditDue p
  | 2 => (d.setPort p { s with freed2 := s.freed2 + n, owed := s.owed + n }).creditDue p
  | 3 => (d.setPort p { s with freed3 := s.freed3 + n, owed := s.owed + n }).creditDue p
  | _ => d

/-- The kinds that cross one hop: they neither need nor occupy units (log 22). -/
def linkKind (kind : Nat) : Bool := kind = kCredit || kind = kCreditInit || kind = kTiming

def Body.linkKind : Body → Bool
  | .compact w => Sys2Proof.Machine.linkKind (cfKind w)
  | .ext _ => false

/-- The item may leave the port now: the link is up and the class holds the units (R335, R337). -/
def Dev.mayLeave (d : Dev) (p : Port) (i : TxItem) : Bool :=
  d.linkUp p && (i.tc = 0 || i.body.linkKind || decide (i.units ≤ d.get (SPN_CRED p i.tc)))

/-- The item leaves the port: units are deducted, and those it held in the other port's buffer are free (R337). -/
def Dev.leave (d : Dev) (p : Port) (i : TxItem) : Dev :=
  let d := d.emit (.frame p i.body)
  let d := if i.tc = 0 || i.body.linkKind then d
    else d.put (SPN_CRED p i.tc) (d.get (SPN_CRED p i.tc) - i.units)
  match i.src with
  | some q => d.freeUnits q i.tc i.units
  | none => d

/-- The first item of a queue that meets a condition, with the queue without it. -/
def pickItem (sel : TxItem → Bool) : List TxItem → Option (TxItem × List TxItem)
  | [] => none
  | i :: rest =>
    if sel i then some (i, rest)
    else match pickItem sel rest with
      | some (j, r) => some (j, i :: r)
      | none => none

/-- What a port sends next: its link kinds, which no credit holds, and then the first frame of the lowest class that may
leave (R335, log 22). -/
def Dev.nextItem (d : Dev) (p : Port) : Option (TxItem × List TxItem) :=
  let q := (d.port p).txq
  let picks := [pickItem (fun i => i.tc = 0) q, pickItem (fun i => i.body.linkKind) q, pickItem (fun i => i.tc = 1) q,
    pickItem (fun i => i.tc = 2) q, pickItem (fun i => i.tc = 3) q]
  (picks.filterMap id).find? (fun x => d.mayLeave p x.1)

/-- Send what the queue of a port holds and the port may send, lowest class first, each class in order (R335). -/
def Dev.drainPort : Nat → Dev → Port → Dev
  | 0, d, _ => d
  | n + 1, d, p =>
    match d.nextItem p with
    | some (i, r) => Dev.drainPort n ((d.setPort p { d.port p with txq := r }).leave p i) p
    | none => d

/-- Send everything that may leave a port. -/
def Dev.drain (d : Dev) (p : Port) : Dev := Dev.drainPort ((d.port p).txq.length) d p

/-- Hand a frame to a port: it leaves at once or waits; a port that is off, down or parked, or whose partner is a
legacy chain, takes no frame (R343, R344, R521). -/
def Dev.portSend (d : Dev) (p : Port) (src : Option Port) (b : Body) : Dev :=
  let i : TxItem := ⟨b.tc, b.units, src, b⟩
  if d.pstate p = pOff ∨ d.pstate p = pDown ∨ d.pstate p = pParked ∨ d.bit (SPN_PORT_LEG p) then
    match src with
    | some q => if b.linkKind then d else d.freeUnits q b.tc b.units
    | none => d
  else
    (d.setPort p { d.port p with txq := (d.port p).txq ++ [i] }).drain p

/-- The next ALIVE of a kind this device originates (R328), and the device with the counter advanced. -/
def Dev.nextAlive (d : Dev) (kind : Nat) : Nat × Dev :=
  let a := ((d.spn.aliveOut[kind]?).getD 0 + 1) % 16
  (a, { d with spn := { d.spn with aliveOut := d.spn.aliveOut.set kind a } })

/-- Send one compact frame of this device out of the ports given, with one ALIVE for all copies (R328). -/
def Dev.sendCompact (d : Dev) (ports : List Port) (kind pos pay : Nat) : Dev :=
  let (a, d) := d.nextAlive kind
  d.each ports (fun d p => d.portSend p none (.compact (cfMake kind pos a pay)))

/-- Send a compact frame that carries ALIVE = 0 (R328): CREDIT, CREDIT_INIT, TIMING and NOTICE UNNUMBERED. -/
def Dev.sendPlain (d : Dev) (ports : List Port) (kind pos pay : Nat) : Dev :=
  d.each ports (fun d p => d.portSend p none (.compact (cfMake kind pos 0 pay)))

/-- The port by which a member sends to the head: south on the north way, north on the south way; once that port has gone
DOWN, the other one until a ROUTE arrives (R342, R344). -/
def Dev.wayPortOf (d : Dev) : Port := if d.get SPN_ROUTE_WAY = 0 then .south else .north

def Dev.headPort (d : Dev) : Port :=
  let p := d.wayPortOf
  if d.spn.swapped ∨ d.pstate p = pDown then (otherPort p) else p

/-- The head-bound frame of a member with the next SEQ of its class (R333). -/
def Dev.sendToHead (d : Dev) (ftype tc tag : Nat) (more : Bool) (payload : List Byte) : Dev :=
  let (seq, full, d) : Nat × Bool × Dev := match tc with
    | 1 => (d.spn.seq1, d.spn.full1, { d with spn := { d.spn with seq1 := (d.spn.seq1 + 1) % 2 ^ 32, full1 := false } })
    | 3 => (d.spn.seq3, d.spn.full3, { d with spn := { d.spn with seq3 := (d.spn.seq3 + 1) % 2 ^ 32, full3 := false } })
    | _ => (d.spn.evBase + d.spn.evSent, d.spn.full2, d)
  let sfull := full || decide (seq % 64 = 0)
  let x : XFrame := ⟨ftype, tc, d.pos, true, false, sfull, more, false, seq % 256, tag, seq, payload, 0⟩
  d.portSend d.headPort none (.ext (xSeal x d.pos seq))

/-- A compact frame of a member to the head by its way. -/
def Dev.compactToHead (d : Dev) (kind pay : Nat) : Dev := d.sendCompact [d.headPort] kind d.pos pay

/-- Largest payload of an extended frame of a member (R326): 1,024 bytes on a route whose links all run at the high rate, else
256. A member sees the rate of its own head-side link; what the links beyond it run at is a free value (log 23). -/
def Dev.maxPayload (d : Dev) : Nat :=
  if d.pstate d.headPort = pHr ∧ Config.restHr (d.get SPN_ROUTE_WAY) d.now then 1024 else 256

end Sys2Proof.Machine
end

