-- ==== Sys2Proof/Machine/Events.lean ====
section
/-!
DEFINITION. Events and host memory (13, 15, 19): the event record, the history log, a member's kept events, the
head's event ring and queue, ring indices, completions and interrupts.
-/

namespace Sys2Proof.Machine

/-! ## Records -/

/-- The 64 bytes of an event record (Table 15-10). -/
def EventRec.bytes (e : EventRec) : List Byte :=
  let pay := (e.items.flatMap (leBytes 4)).take 40
  leBytes 2 e.code ++ leBytes 1 (e.tq * 64 + e.pos % 64) ++ leBytes 1 (e.src % 16 * 16 + if e.hr then 1 else 0)
    ++ leBytes 4 e.eseq ++ leBytes 8 e.time ++ leBytes 1 0 ++ leBytes 1 pay.length ++ leBytes 2 e.frac
    ++ leBytes 4 0 ++ pay ++ List.replicate (40 - pay.length) 0

/-- The record that an EVENT frame carries (R413). -/
def EventRec.ofBytes (bs : List Byte) : EventRec :=
  let n (i k : Nat) : Nat := leNat (bytesAt bs i k)
  ⟨n 0 2, n 2 1 / 64, n 2 1 % 64, n 3 1 / 16, decide (n 3 1 % 2 = 1), n 4 4, n 8 8, n 0x12 2,
    (wordsOf (n 0x11 1 / 4) (bs.drop 0x18)).map (·.toNat)⟩

/-- The two items of a cell mask (R414): bit n - 1 of the first for cell n up to 32, bit n - 33 of the second. -/
def cellMask (cells : List Nat) : List Nat :=
  let m := cells.eraseDups.foldl (fun a n => a + 2 ^ (n - 1)) 0
  [m % 2 ^ 32, m / 2 ^ 32]

/-- The two items of a 64-bit item (R414). -/
def item64 (v : Nat) : List Nat := [v % 2 ^ 32, v / 2 ^ 32 % 2 ^ 32]

/-! ## The history log of the Burl die (R486) -/

/-- Units of 64 bytes in the history log (Table 19-2). -/
def histUnits : Nat := 245760

/-- Units `[a, a + n)` and `[b, b + m)` meet. -/
def unitsMeet (a n b m : Nat) : Bool := decide (a < b + m ∧ b < a + n)

/-- The log with a record at a unit: records that it overwrites are gone. -/
def histPlace (h : List HistRec) (u : Nat) (bs : List Byte) : List HistRec :=
  (h.filter (fun r => !unitsMeet r.unit (r.bytes.length / 64) u (bs.length / 64))) ++ [⟨u, bs⟩]

/-- The Burl die is fitted and works. -/
def Dev.burlWorks (d : Dev) : Bool := decide (d.build = .F) && !d.dead .burl

/-- Append a record to the history log of a member; a head's Burl die holds its snapshots alone (R15). A record that would
pass the end starts at the beginning, after zero units. -/
def Dev.histAppend (d : Dev) (bs : List Byte) : Dev :=
  if d.burlWorks ∧ d.role = .member ∧ d.bit RCD_CFG_HEN then
    let u := d.get RCD_HWP
    let n := bs.length / 64
    let (h, u) := if u + n ≤ histUnits then (d.burl.hist, u)
      else (if u < histUnits then histPlace d.burl.hist u (List.replicate (64 * (histUnits - u)) 0) else d.burl.hist, 0)
    ({ d with burl := { d.burl with hist := histPlace h u bs } }).put RCD_HWP ((u + n) % histUnits)
  else d

/-! ## Ring indices, interrupts and completions (15) -/

/-- Registers of ring r (Table 15-14). -/
def Dev.ringEn (d : Dev) (r : Nat) : Bool := d.bit (HIF_RCFG_EN r)

def Dev.ring (d : Dev) (r : Nat) : RingSt := (d.hif.rings[r]?).getD ⟨0, 0, false, 0, 0⟩

def Dev.setRing (d : Dev) (r : Nat) (s : RingSt) : Dev :=
  { d with hif := { d.hif with rings := d.hif.rings.set r s } }

/-- Entries of ring r (Table 15-3); a stream ring counts 64-byte units. -/
def Dev.ringSize (d : Dev) (r : Nat) : Nat :=
  if 18 ≤ r then 2 ^ d.get (HIF_RCFG_LSIZE r) / 64 else 2 ^ d.get (HIF_RCFG_LSIZE r)

/-- Bytes of one entry, or of one unit of a stream ring. -/
def entryBytes (r : Nat) : Nat := if r ≤ 8 then 32 else if r ≤ 16 then 16 else 64

/-- Free slots of a device-written ring (R395). -/
def Dev.ringFree (d : Dev) (r : Nat) : Nat :=
  let s := d.ring r
  d.ringSize r - (s.pidx + 2 ^ 32 - s.cidx) % 2 ^ 32

/-- Host address of the slot of an index (R395). -/
def Dev.slotAddr (d : Dev) (r idx : Nat) : Nat :=
  d.get (HIF_RBASEL_BASE r) * 4096 + d.get (HIF_RBASEH r) * 2 ^ 32
    + (if d.ringSize r = 0 then 0 else idx % d.ringSize r) * entryBytes r

/-- Host address of the write-back block. -/
def Dev.wbBase (d : Dev) : Nat := d.get HIF_WBL_WB * 512 + d.get HIF_WBH * 2 ^ 32

/-- Offset of a ring's word in the write-back block (Table 15-4). -/
def wbOffset (r : Nat) : Nat :=
  if r = 0 then 0 else if r ≤ 8 then 4 + 4 * (r - 1) else if r ≤ 16 then 0x40 + 4 * (r - 9)
  else if r = 17 then 0x60 else 0x80 + 4 * (r - 18)

/-- Write an index word of the write-back block (R399). -/
def Dev.writeBack (d : Dev) (off v : Nat) : Dev := d.emit (.hostWrite (d.wbBase + off) (leBytes 4 v))

/-- The part may use host memory: enabled, bus master, not in D3hot and with a link (R397, R425, R426). -/
def Dev.hostUp (d : Dev) : Bool :=
  d.role = .head && d.bit HIF_CTRL_EN && !d.hif.d3hot && !d.hif.l2 && d.lathe

/-- Signal the vector of a ring when CCNT entries wait (R423); otherwise they wait for the timer. -/
def Dev.ringSignal (d : Dev) (r n : Nat) : Dev :=
  let s := d.ring r
  let u := s.unsig + n
  if d.get (HIF_RIRQ_CCNT r) ≤ u then
    (d.setRing r { s with unsig := 0 }).emit (.msix (d.get (HIF_RCFG_VEC r)))
  else d.setRing r { s with unsig := u }

/-- Write bytes that fill `n` slots of a device-written ring: the entry, the write-back word, the signal (R400). -/
def Dev.ringWrite (d : Dev) (r n : Nat) (bs : List Byte) : Dev :=
  let s := d.ring r
  let d := d.emit (.hostWrite (d.slotAddr r s.pidx) bs)
  let p := (s.pidx + n) % 2 ^ 32
  let d := d.setRing r { s with pidx := p }
  (d.writeBack (wbOffset r) p).ringSignal r n

/-- A device-written ring takes entries: enabled and not stopped. -/
def Dev.ringLive (d : Dev) (r : Nat) : Bool := d.hostUp && d.ringEn r && !(d.ring r).stopped

/-! ## Raising an event -/

/-- The event ring has room for a record, and CORE runs to write it (R270, R416). -/
def Dev.eventRoom (d : Dev) : Bool := d.monitoring && d.ringLive 17 && decide (0 < d.ringFree 17)

/-- The head's event queue takes a record, or the event ring does when nothing waits before it (R416). -/
def Dev.hostEvent (d : Dev) (e : EventRec) : Dev :=
  if d.hif.evq.isEmpty ∧ d.eventRoom then d.ringWrite 17 1 e.bytes
  else if d.hif.evq.length < 4096 then
    let q := d.hif.evq ++ [e]
    { d with hif := { d.hif with evq := q, evFullDue := d.hif.evFullDue || decide (q.length = 4096) } }
  else d

/-- The event record of this moment. -/
def Dev.mkEvent (d : Dev) (code src pos : Nat) (hr : Bool) (eseq : Nat) (items : List Nat) : EventRec :=
  ⟨code, d.tq, pos, src, hr, eseq, tbTime d.mtick, tbFrac d.mtick, items⟩

/-- A member may send frames of its own to the head: numbered, running and not in LEGACY. -/
def Dev.talks (d : Dev) : Bool :=
  d.role = .member && d.bit SPN_POS_VALID && d.monitoring && !d.inLegacy

/-- Send the kept events that were not sent, or all of them again (R357). -/
def Dev.sendEvents (d : Dev) : Dev :=
  if d.talks then
    let todo := (d.spn.evq.zipIdx).drop d.spn.evSent
    let d := d.each todo (fun d (e, i) =>
      let seq := (d.spn.evBase + i) % 2 ^ 32
      let sfull := d.spn.full2 || decide (seq % 64 = 0)
      let x : XFrame := ⟨0xF4, 2, d.pos, true, false, sfull, false, false, seq % 256, 0, seq, ({ e with eseq := seq, pos := d.pos } : EventRec).bytes, 0⟩
      let d := d.portSend d.headPort none (.ext (xSeal x d.pos seq))
      { d with spn := { d.spn with full2 := false } })
    { d with spn := { d.spn with evSent := d.spn.evq.length } }
  else d

/-- A member keeps an event until EVACK covers it, at most 128 of them; one more is counted (R357). -/
def Dev.keepEvent (d : Dev) (e : EventRec) : Dev :=
  if d.spn.evq.length < 128 then
    (({ d with spn := { d.spn with evq := d.spn.evq ++ [e] } }).put SPN_EVQ_QUEUED (d.spn.evq.length + 1)).sendEvents
  else ({ d with spn := { d.spn with evLost := d.spn.evLost + 1 } }).countSat SPN_EVQ_DROP 1

/-- Raise an event of this device from a source die, with its items (R413, R414). It goes to the history log, and to
the head and its host unless the device is in LEGACY (R507). -/
def Dev.raise (d : Dev) (code src : Nat) (items : List Nat) : Dev :=
  match d.role with
  | .head =>
    let e := d.mkEvent code src 0 false d.hd.eseq items
    let d := { d with hd := { d.hd with eseq := (d.hd.eseq + 1) % 2 ^ 32 } }
    (d.histAppend e.bytes).hostEvent e
  | .member =>
    let e := d.mkEvent code src d.pos false ((d.spn.evBase + d.spn.evq.length) % 2 ^ 32) items
    let d := d.histAppend e.bytes
    if d.inLegacy then d else d.keepEvent e

/-- Raise an event of the head about a position (HR = 1, Table 15-10). -/
def Dev.raiseAbout (d : Dev) (pos code src : Nat) (items : List Nat) : Dev :=
  let e := d.mkEvent code src pos true d.hd.eseq items
  let d := { d with hd := { d.hd with eseq := (d.hd.eseq + 1) % 2 ^ 32 } }
  (d.histAppend e.bytes).hostEvent e

/-- Move queued events into the event ring while it has room (R416). -/
def drainEvents : Nat → Dev → Dev
  | 0, d => d
  | n + 1, d =>
    match d.hif.evq with
    | e :: rest =>
      if d.eventRoom then drainEvents n (({ d with hif := { d.hif with evq := rest } }).ringWrite 17 1 e.bytes) else d
    | [] => d

/-! ## Waking the host -/

/-- A wake is signalled to the host (R426). -/
def Dev.hostWake (d : Dev) : Dev :=
  if d.role ≠ .head then d
  else if d.hif.l2 then
    if d.hif.wakeLow then d else ({ d with hif := { d.hif with wakeLow := true } }).emit (.wakePin true)
  else if d.hif.d3hot then d.emit .pme else d

end Sys2Proof.Machine
end

