-- ==== Sys2Proof/Machine/Ring.lean ====
section
/-!
DEFINITION. The head's picture of the ring (R342, R360 to R367): the ring order, the links, what each position can
be reached by, the ROUTE frames and the repair of a broken ring.
-/

namespace Sys2Proof.Machine

/-- The entry of a position in the head's member table. -/
def Dev.member (d : Dev) (p : Nat) : Option Member := d.hd.members.find? (fun m => m.pos = p)

/-- The head's member table with one entry changed. -/
def Dev.setMember (d : Dev) (p : Nat) (f : Member → Member) : Dev :=
  { d with hd := { d.hd with members := d.hd.members.map (fun m => if m.pos = p then f m else m) } }

/-- A member as the head knows it right after it was numbered. Until the member has reported a mode, R53 does not count it;
the MONITOR that stands here meanwhile is the model's (log 125). -/
def freshMember (pos build uid15 : Nat) : Member :=
  { pos := pos, build := build, uid15 := uid15, way := 0, cur := 4, base := 4, latch := false, arml := false,
    armu := false, fbzl := false, fbzu := false, fprc := false, grun := false, last := true, guarded := false,
    missing := false, wseq := 0, tag := 0, seq1 := 0, full1 := true, exp1 := 0, exp2 := 0, exp3 := 0, ahead := [],
    rdrop := 0, frag := [], sfrag := [], smiss := 0, legn := false, told := false, tripSeen := false, route := none }

/-- A member numbered anew keeps the modes that the same device reported before, told by its UID and build (R53, log 125). -/
def Member.carry (old : List Member) (m : Member) : Member :=
  match old.find? (fun o => o.uid15 = m.uid15 && o.build = m.build && o.told) with
  | some o => { m with cur := o.cur, base := o.base, told := true }
  | none => m

/-- A bit of a two-word position map. -/
def Dev.mapBit (d : Dev) (lo hi : Fld) (k : Nat) : Bool := decide (d.get64 lo hi / 2 ^ k % 2 = 1)

/-- A position is recorded as lost (R366). -/
def Dev.lost (d : Dev) (p : Nat) : Bool := d.mapBit SPN_LOSTL SPN_LOSTH p

/-- A position is numbered in the current enumeration. -/
def Dev.numbered (d : Dev) (p : Nat) : Bool := (d.member p).isSome

/-- The set of positions as a 64-bit map. -/
def posMap (ps : List Nat) : Nat := ps.foldl (fun a p => if a / 2 ^ p % 2 = 1 then a else a + 2 ^ p) 0

/-- How many members, counted from index 1, the unbroken links from the head's north port reach. -/
def reachFrom : List LinkSt → Nat
  | [] => 0
  | l :: ls => if l.up then 1 + reachFrom ls else 0

/-- Members reachable by the north way and by the south way: runs of the order from either end. -/
def Dev.northReach (d : Dev) : List Nat := d.hd.order.take (reachFrom d.hd.links)
def Dev.southReach (d : Dev) : List Nat := d.hd.order.reverse.take (reachFrom d.hd.links.reverse)

/-- The ring is intact: every link is up. -/
def Dev.ringIntact (d : Dev) : Bool := d.hd.links.all (·.up) && !d.hd.links.isEmpty

/-- The index of a position in the ring order, from 1. -/
def Dev.ringIndex (d : Dev) (p : Nat) : Nat := (d.hd.order.findIdx (· = p)) + 1

/-- The way R342 gives a position: 0 north, 1 south; `none` where neither reaches it. -/
def Dev.wayOf (d : Dev) (p : Nat) : Option Nat :=
  let n := d.northReach.contains p
  let s := d.southReach.contains p
  if d.ringIntact then
    if d.ringIndex p ≤ d.hd.order.length + 1 - d.ringIndex p then some 0 else some 1
  else if n then some 0 else if s then some 1 else none

/-- The positions bound to any stream ring (R417). -/
def Dev.boundMask (d : Dev) : Nat :=
  (List.range 16).foldl (fun a s => a ||| d.get64 (HIF_SBML_MASKL s) (HIF_SBMH_MASKH s)) 0

def Dev.bound (d : Dev) (p : Nat) : Bool := decide (d.boundMask / 2 ^ p % 2 = 1)

/-- The links a position's traffic crosses, by link index 0 to m, along its way. -/
def Dev.routeLinks (d : Dev) (p : Nat) : List Nat :=
  match d.member p with
  | none => []
  | some m =>
    let i := d.ringIndex p
    if m.way = 0 then List.range i else rangeL i d.hd.order.length

/-- A link lies on the way of a bound member (R342). -/
def Dev.linkBound (d : Dev) (l : Nat) : Bool :=
  d.hd.order.any (fun q => d.bound q && !d.lost q && (d.routeLinks q).contains l)

/-- Every link of a position's route runs at the high rate. -/
def Dev.routeHr (d : Dev) (p : Nat) : Bool :=
  (d.routeLinks p).all (fun l => (d.hd.links[l]?).any (fun x => x.up && x.hr)) && !(d.routeLinks p).isEmpty

/-- The payload of ROUTE for a position (Table 13-2): WAY, HRN, HRS. -/
def Dev.routePay (d : Dev) (p : Nat) (way : Nat) : Nat :=
  let i := d.ringIndex p
  way * 2 ^ 31 + (if d.linkBound i then 2 ^ 30 else 0) + (if d.linkBound (i - 1) then 2 ^ 29 else 0)

/-- The head's port toward a member on its way. -/
def wayPort (way : Nat) : Port := if way = 0 then .north else .south

/-- Send ROUTE to one position by its way (R342). -/
def Dev.sendRoute (d : Dev) (p : Nat) : Dev :=
  match d.member p with
  | none => d
  | some m =>
    let pay := d.routePay p m.way
    (d.setMember p (fun m => { m with route := some pay })).sendCompact [wayPort m.way] kRoute p pay

/-- The head's own high-rate requests: the links at its ports on the way of a bound member (R342). -/
def Dev.headRoutes (d : Dev) : Dev :=
  (d.putB SPN_ROUTE_HRN (d.linkBound 0)).putB SPN_ROUTE_HRS (d.linkBound d.hd.order.length)

/-- Send ROUTE to every reachable position whose way or high-rate bits differ from the last one sent to it (R342, R418). -/
def Dev.sendRoutes (d : Dev) : Dev :=
  let due (p : Nat) : Bool := match d.member p with
    | some m => decide (m.route ≠ some (d.routePay p m.way))
    | none => false
  (d.each (d.hd.order.filter (fun p => !d.lost p && due p)) Dev.sendRoute).headRoutes

/-- No ROUTE stands at the positions given: the next one goes out whatever it says. -/
def Dev.forgetRoutes (d : Dev) (ps : List Nat) : Dev :=
  d.each ps (fun d p => d.setMember p (fun m => { m with route := none }))

/-- Give every reachable position its way, and send the ROUTE frames that follow (R342, R366). -/
def Dev.setWays (d : Dev) : Dev :=
  (d.each d.hd.order (fun d p =>
    match d.member p, d.wayOf p with
    | some m, some w => if m.way = w then d else d.setMember p (fun m => { m with way := w, full1 := true })
    | _, _ => d)).sendRoutes

/-- Write the registers that report order, map and loss (R361, R366). -/
def Dev.writeMaps (d : Dev) (lostSet : List Nat) : Dev :=
  let d := d.each (List.range 16) (fun d i => d.put (SPN_RORD i)
    (leNat ((List.range 4).map (fun b => BitVec.ofNat 8 ((d.hd.order[4 * i + b]?).getD 255)))))
  let d := d.put64 SPN_MAPL SPN_MAPH (posMap (d.hd.order.filter (fun p => !lostSet.contains p)))
  d.put64 SPN_LOSTL SPN_LOSTH (posMap lostSet)

/-- The lost positions of the current picture: numbered and reached by neither way, and those lost before that no
CHECK sweep has found. -/
def Dev.unreached (d : Dev) : List Nat :=
  d.hd.order.filter (fun p => !d.northReach.contains p && !d.southReach.contains p)
    ++ (d.hd.members.map (·.pos)).filter (fun p => d.lost p && !d.hd.order.contains p)

/-- What the head does when a link of its ring goes down (R366); after a CHECK sweep that did not return it waits for the next
one again (R367). -/
def Dev.ringBreak (d : Dev) (l : Nat) : Dev :=
  match d.hd.links[l]? with
  | none => d
  | some x =>
    if !x.up then d
    else
      let d := { d with hd := { d.hd with links := d.hd.links.set l ⟨false, false⟩ } }
      let d := (d.put SPN_RING_OPEN 1).countMod SPN_RING_REPCNT 1
      let gone := d.unreached
      let fresh := gone.filter (fun p => !d.lost p)
      let d := d.writeMaps gone
      let d := d.each fresh (fun d p => d.raiseAbout p 0x7014 0 [])
      let d := (d.forgetRoutes gone).setWays
      let d := if d.hd.tried then ({ d with hd := { d.hd with tried := false } }).put SPN_RING_RWAIT 1 else d
      let bn := (d.northReach.getLast?).getD 0
      let bs := (d.southReach.getLast?).getD 0
      let d := (d.put SPN_RING_BRKN bn).put SPN_RING_BRKS bs
      d.raise 0x7012 0 [bn, bs]

/-- What the head does when a link of its ring comes up (R367): while the ring is open it waits 1 s for a CHECK
sweep; a rate change of a link that is up is only noted. -/
def Dev.ringMend (d : Dev) (l : Nat) (hr : Bool) : Dev :=
  match d.hd.links[l]? with
  | none => d
  | some x =>
    if x.up then { d with hd := { d.hd with links := d.hd.links.set l ⟨true, hr⟩ } }
    else if d.bit SPN_RING_OPEN then ({ d with hd := { d.hd with tried := false } }).put SPN_RING_RWAIT 1 else d

/-- The link index of a position and a port: north of index i is link i, south is link i - 1; the head's north is
link 0 and its south link m. -/
def Dev.linkOf (d : Dev) (pos : Nat) (p : Port) : Nat :=
  if pos = 0 then (match p with | .north => 0 | .south => d.hd.order.length)
  else match p with | .north => d.ringIndex pos | .south => d.ringIndex pos - 1

/-- A change of a link reported to the head, held while an enumeration runs (R364). -/
def Dev.linkChange (d : Dev) (pos : Nat) (p : Port) (up hr : Bool) : Dev :=
  match d.hd.enum with
  | some e => { d with hd := { d.hd with enum := some { e with notices := e.notices ++ [(pos, p, up, hr)] } } }
  | none =>
    if pos ≠ 0 ∧ !d.numbered pos then d
    else if up then d.ringMend (d.linkOf pos p) hr else d.ringBreak (d.linkOf pos p)

end Sys2Proof.Machine
end

