-- ==== Sys2Proof/Machine/Links.lean ====
section
/-!
DEFINITION. The Spindle link (12): link words, port states, training, retraining, line checks and wake tones. Each
command of the link has its meaning here as a function of the device.
-/

namespace Sys2Proof.Machine

/-- Even parity over [15:1] (Table 12-4): the word has an even number of ones. -/
def evenParity (w : BitVec 16) : Bool := decide ((List.range 16).countP (fun i => w.getLsbD i) % 2 = 0)

/-- A link word that the receiver does not ignore (R304). -/
def wordValid (w : BitVec 16) : Bool := bitsOf w 15 12 = 0xA && evenParity w

def lwPort (w : BitVec 16) : Nat := bitsOf w 11 11
def lwHeard (w : BitVec 16) : Bool := w.getLsbD 10
def lwHrcap (w : BitVec 16) : Bool := w.getLsbD 9
def lwHrreq (w : BitVec 16) : Bool := w.getLsbD 8
def lwPark (w : BitVec 16) : Bool := w.getLsbD 5

/-- The partner's last word on a port. -/
def Dev.partnerWord (d : Dev) (p : Port) : BitVec 16 := BitVec.ofNat 16 (d.get (SPN_PORT_PWORD p))

/-- The device can run the high rate: it has PHY dies and is not in LEGACY (Table 12-4). -/
def Dev.hrCap (d : Dev) : Bool := fits d.build .phyN && !d.inLegacy

/-- The ROUTE bit of a port (R342). -/
def Dev.routeBit (d : Dev) (p : Port) : Bool := match p with | .north => d.bit SPN_ROUTE_HRN | .south => d.bit SPN_ROUTE_HRS

/-- The device's own mode calls for the high rate (R310). -/
def Dev.streamMode (d : Dev) : Bool :=
  match d.cur with
  | .stream => true
  | .spectro => d.pw.streamBound
  | .calibrate | .degraded | .safe => d.get PWR_STAT_BASE = 5 || (d.get PWR_STAT_BASE = 6 && d.pw.streamBound)
  | _ => false

/-- The PHY die of a port. -/
def phyDie : Port → Die | .north => .phyN | .south => .phyS

/-- The partner on a port asks for the high rate by its last word, on a link that is up (R363). -/
def Dev.partnerAsks (d : Dev) (p : Port) : Bool := decide (pLr ≤ d.pstate p) && lwHrreq (d.partnerWord p)

/-- HRREQ of a port (R310, R363). -/
def Dev.hrReq (d : Dev) (p : Port) : Bool :=
  d.hrCap && !d.dead (phyDie p) && !d.bit (PRT_CTRL_HRDIS p) &&
    (d.streamMode || d.routeBit p ||
      (d.role = .member && !d.bit SPN_POS_VALID && (d.partnerAsks .north || d.partnerAsks .south)))

/-- The link word a port sends (Table 12-4). -/
def Dev.linkWordOf (d : Dev) (p : Port) (park : Bool) : BitVec 16 :=
  let b (c : Bool) (i : Nat) : Nat := if c then 2 ^ i else 0
  let n := 0xA000 + b (p = .south) 11 + b (decide ((d.port p).quietPeriods < 3)) 10 + b d.hrCap 9 + b (d.hrReq p) 8
    + b (d.role = .head) 7 + b (d.level = 2 || d.level = 3) 6 + b park 5
  let w := BitVec.ofNat 16 n
  if evenParity w then w else w ||| 1

/-- Enter LR or HR: CREDIT_INIT with the figures of Table 13-6 (R338); the device's queue may leave. -/
def Dev.creditInit (d : Dev) (p : Port) (hr : Bool) : Dev :=
  let d := d.setPort p { d.port p with freed1 := 0, freed2 := 0, freed3 := 0, owed := 0 }
  d.sendPlain [p] kCreditInit 0
    (unitsOffered hr 1 * 2 ^ 24 + unitsOffered hr 2 * 2 ^ 16 + unitsOffered hr 3 * 2 ^ 4)

/-- A numbered member tells the head of a link change (R365, Table 13-10), in DOZE and WATCH too. -/
def Dev.linkNotice (d : Dev) (p : Port) (up : Bool) (low : Nat) : Dev :=
  if d.role = .member ∧ d.bit SPN_POS_VALID ∧ d.lathe ∧ !d.inLegacy then
    d.compactToHead kNotice ((if up then 2 else 1) * 2 ^ 28 + portCode p * 2 ^ 27 + low)
  else d

/-- A numbered member that has reset tells the head once a port of it carries frames (R368). -/
def Dev.warmNotice (d : Dev) : Dev :=
  if d.spn.warmDue ∧ d.talks then
    ({ d with spn := { d.spn with warmDue := false } }).compactToHead kNotice (3 * 2 ^ 28)
  else d

/-- The findings of the PATROL check are reported once the low-rate chain is up (R69): with the services of MONITOR, or when a
port carries frames outside PATROL (log 58). -/
def Dev.reportFound (d : Dev) : Dev :=
  if !d.pw.found.isEmpty ∧ d.lathe ∧ 2 ≤ d.level ∧ (d.monitoring ∨ d.linkUp .north ∨ d.linkUp .south) then
    ({ d with pw := { d.pw with found := [] } }).each d.pw.found (fun d c => d.raise c 0 [])
  else d

/-- The port enters LR, from DOWN or PARKED with an event (R308, Table 12-12), or from TRAIN without one (R311). -/
def Dev.enterLr (d : Dev) (p : Port) (raises : Bool) : Dev :=
  let d := d.put (SPN_PORT_STATE p) pLr
  let d := (d.put (SPN_PORT_ONEWAY p) 0).put (SPN_PORT_MISW p) 0
  let d := (d.put (SPN_CRED_FROZEN p) 0).creditInit p false
  let d := if raises then
      let d := d.raise 0x7001 0 [portCode p, (Config.eventCause 0x7001 0).toNat]
      if d.role = .head then d.linkChange 0 p true false else ((d.warmNotice).linkNotice p true 0).reportFound
    else d
  d.drain p

/-- The port enters HR (R310, R312) with the event of Table 12-12; with CREDIT_INIT and the notice unless it returns from
RETRAIN. -/
def Dev.enterHr (d : Dev) (p : Port) (fresh : Bool) : Dev :=
  let d := (d.put (SPN_PORT_STATE p) pHr).put (SPN_CRED_FROZEN p) 0
  let d := if fresh then
      let d := (d.creditInit p true).raise 0x7001 0 [portCode p, (Config.eventCause 0x7001 1).toNat]
      if d.role = .head then d.linkChange 0 p true true else d.linkNotice p true (2 ^ 26)
    else (d.raise 0x7001 0 [portCode p, (Config.eventCause 0x7001 1).toNat]).creditDue p
  d.drain p

/-- What a port held is discarded and counted, and its credits and its partner are forgotten (R313, R340). -/
def Dev.flushPort (d : Dev) (p : Port) : Dev :=
  let q := otherPort p
  let lost := (d.port p).txq.length + ((d.port q).txq.filter (fun i => i.src = some p)).length
  let back := (d.port p).txq.filter (fun i => i.src = some q)
  let d := d.countSat SPN_DISC_DISC lost
  let d := d.setPort q { d.port q with txq := (d.port q).txq.filter (fun i => i.src ≠ some p) }
  let d := d.each back (fun d i => d.freeUnits q i.tc i.units)
  let d := d.setPort p { d.port p with
    quietPeriods := 3, gotHeard := false, sentHeard := false, unheard := 0, silent := false, txq := [],
    freed1 := 0, freed2 := 0, freed3 := 0, owed := 0, taken1 := 0, taken2 := 0, taken3 := 0 }
  let d := ((d.put (SPN_CRED p 1) 0).put (SPN_CRED p 2) 0).put (SPN_CRED p 3) 0
  let d := (d.put (SPN_CRED_FROZEN p) 0).put (SPN_PORT_LEG p) 0
  (d.put (PRT_STAT_HRFAIL p) 0).put (PRT_STAT_ATT p) 0

/-- The port enters DOWN from any state: it is silent for 100 us, and the entry is counted (R313, Table 12-10). -/
def Dev.intoDown (d : Dev) (p : Port) : Dev :=
  let d := d.flushPort p
  (((d.setPort p { d.port p with silent := true }).put (SPN_PORT_STATE p) pDown).countMod (SPN_PORT_DOWNCNT p) 1)

/-- The port enters DOWN (R313, R340, R365, R366); the device reports the loss if the link was up, and a member whose way
leads to the port turns to the other one (R344). `cause` 0 loss of signal, 1 word timeout, 2 lock. -/
def Dev.enterDown (d : Dev) (p : Port) (cause : Nat) : Dev :=
  let was := d.pstate p
  let d := d.intoDown p
  if was = pLr ∨ was = pTrain ∨ was = pHr ∨ was = pRetrain then
    let d := { d with spn := { d.spn with swapped := d.spn.swapped || (decide (d.role = Role.member) && decide (p = d.wayPortOf)) } }
    let d := d.raise 0x7002 0 [portCode p, (Config.eventCause 0x7002 cause).toNat, d.get (SPN_PORT_ONEWAY p)]
    if d.role = .head then d.linkChange 0 p false false
    else d.linkNotice p false ((Config.eventCause 0x7002 cause).toNat % 8 * 2 ^ 24)
  else d

/-- The port enters LR once both conditions of R308 hold. -/
def Dev.tryLr (d : Dev) (p : Port) : Dev :=
  let s := d.port p
  if (d.pstate p = pDown ∨ d.pstate p = pParked) ∧ s.gotHeard ∧ s.sentHeard then
    d.enterLr p true
  else d

/-- Send a link word on a port (R304); `park` announces PATROL or SHIP. -/
def Dev.sendWord (d : Dev) (p : Port) (park : Bool) : Dev :=
  let s := d.port p
  let heard := decide (s.quietPeriods < 3)
  let d := d.emit (.linkWord p (d.linkWordOf p park))
  let d := d.setPort p { s with quietPeriods := min 3 (s.quietPeriods + 1), sentHeard := s.sentHeard || heard }
  d.tryLr p

/-- A port that has sent a word while its partner asks for the high rate starts training (R310): both ends in LR with
HRREQ and HRCAP, and fewer than three failed attempts. -/
def Dev.tryTrain (d : Dev) (p : Port) : Dev :=
  let w := d.partnerWord p
  if d.pstate p = pLr ∧ !d.bit (SPN_PORT_LEG p) ∧ d.hrReq p ∧ lwHrreq w ∧ lwHrcap w ∧ !d.bit (PRT_STAT_HRFAIL p)
  then (d.sendWord p false).put (SPN_PORT_STATE p) pTrain
  else d

/-- A word from a partner of the same PORT value (R314): MISW and its event; the answer of R308 goes out all the same, and a
port in DOWN does not leave it. -/
def Dev.miswired (d : Dev) (p : Port) : Dev :=
  let d := d.setPort p { d.port p with gotHeard := false, sentHeard := false }
  let d := if d.bit (SPN_PORT_MISW p) then d else (d.put (SPN_PORT_MISW p) 1).raise 0x7005 0 [portCode p]
  if (d.port p).silent ∨ d.pstate p = pLr then d else d.sendWord p false

/-- A link word is received (R304, R306, R308, R309, R310, R314); `inv` says that the receiver corrected its polarity. -/
def linkWordDev (p : Port) (w : BitVec 16) (inv : Bool) (d : Dev) : Dev :=
  if !wordValid w ∨ d.pstate p = pOff ∨ d.inLegacy ∨ !d.lathe ∨ d.bit (SPN_PORT_LEG p) then d
  else
    let d := (d.put (SPN_PORT_PWORD p) w.toNat).putB (SPN_PORT_INV p) inv
    let st := d.pstate p
    if lwPort w = portCode p ∧ (st = pDown ∨ st = pParked ∨ st = pLr) then d.miswired p
    else if st = pDown ∨ st = pParked then
      let s := d.port p
      let un := if lwHeard w then 0 else s.unheard + 1
      let d := d.setPort p { s with quietPeriods := 0, gotHeard := s.gotHeard || lwHeard w, unheard := un }
      let d := if st = pDown ∧ 3 ≤ un then d.put (SPN_PORT_ONEWAY p) 1 else d
      if s.silent then d else (d.sendWord p false).tryLr p
    else if st = pLr then
      let d := d.setPort p { d.port p with quietPeriods := 0 }
      if lwPark w then
        let d := d.setPort p { d.port p with gotHeard := false, sentHeard := false, quietPeriods := 3 }
        (d.put (SPN_PORT_STATE p) pParked).raise 0x7004 0 [portCode p]
      else d.tryTrain p
    else d

/-- The port sends a word when R304 lets it: not while off, silent, at the high rate, in LEGACY or to a legacy partner. -/
def linkWordSendDev (p : Port) (d : Dev) : Dev :=
  let st := d.pstate p
  if !d.lathe ∨ d.inLegacy ∨ (d.port p).silent ∨ d.bit (SPN_PORT_LEG p) then d
  else if st = pDown ∨ (st = pParked ∧ (d.level = 2 ∨ d.level = 3)) then d.sendWord p false
  else if st = pLr then (d.sendWord p false).tryTrain p
  else d

/-- No valid preamble for 3 ms, or 300 ms after SLEEP (R309): LR goes DOWN. -/
def preambleTimeoutDev (p : Port) (d : Dev) : Dev :=
  if d.pstate p = pLr ∧ !d.bit (SPN_PORT_LEG p) ∧ d.lathe then d.enterDown p 1 else d

/-- A legacy partner has sent no frame for 300 ms (R308). -/
def legacyFrameTimeoutDev (p : Port) (d : Dev) : Dev :=
  if d.pstate p = pLr ∧ d.bit (SPN_PORT_LEG p) ∧ d.lathe then d.enterDown p 1 else d

/-- The 100 us silence of a port in DOWN ends (R313). -/
def downSilenceEndDev (p : Port) (d : Dev) : Dev :=
  if d.pstate p = pDown then d.setPort p { d.port p with silent := false } else d

/-- Training succeeds (Table 12-6): the port enters HR with the preset and the eye that were found. -/
def trainingDoneDev (p : Port) (preset eyeh eyev : Nat) (rxinv : Bool) (d : Dev) : Dev :=
  if d.pstate p = pTrain then
    let used := if d.bit (PRT_TXCFG_PFIX p) then d.get (PRT_TXCFG_PSET p) else preset % 8
    let d := ((d.put (PRT_STAT_PRESET p) used).putB (PRT_STAT_RXINV p) rxinv).put (PRT_STAT_ATT p) 0
    let d := (d.put (PRT_EYE_EYEH p) eyeh).put (PRT_EYE_EYEV p) eyev
    (d.countMod (PRT_STAT_TRNCNT p) 1).enterHr p true
  else d

/-- A training attempt fails (R311): back to LR, and after the third in a row HRFAIL and the event. -/
def trainingFailDev (p : Port) (eyeh eyev : Nat) (d : Dev) : Dev :=
  if d.pstate p = pTrain then
    let d := (d.put (PRT_EYE_EYEH p) eyeh).put (PRT_EYE_EYEV p) eyev
    let n := d.get (PRT_STAT_ATT p) + 1
    let d := (d.put (PRT_STAT_ATT p) n).enterLr p false
    if 3 ≤ n then (d.put (PRT_STAT_HRFAIL p) 1).raise 0x7003 0 [portCode p, eyeh, eyev] else d
  else d

/-- 60 s have passed since the third failed attempt (R311): attempts may start again. -/
def hrRetryExpiryDev (p : Port) (d : Dev) : Dev :=
  if d.bit (PRT_STAT_HRFAIL p) then ((d.put (PRT_STAT_HRFAIL p) 0).put (PRT_STAT_ATT p) 0).tryTrain p else d

/-- Invalid sync headers at the high rate (R312): 16 of 64 send the port to RETRAIN and freeze the credits (R340). -/
def syncHeaderErrorsDev (p : Port) (n : Nat) (d : Dev) : Dev :=
  if d.pstate p = pHr then
    let d := d.countSat (PRT_ERR_HDRERR p) n
    if 16 ≤ n then
      ((d.put (SPN_PORT_STATE p) pRetrain).countSat (PRT_ERR_RELOCK p) 1).put (SPN_CRED_FROZEN p) 1
    else d
  else d

/-- Block lock returns within 2 ms (R312): HR on the frozen counts. -/
def blockLockRegainedDev (p : Port) (d : Dev) : Dev :=
  if d.pstate p = pRetrain then d.enterHr p false else d

/-- 2 ms in RETRAIN without lock (R312): a full attempt if signal is present, DOWN if it is lost. -/
def retrainTimeoutDev (p : Port) (signal : Bool) (d : Dev) : Dev :=
  if d.pstate p = pRetrain then
    if signal then d.put (SPN_PORT_STATE p) pTrain else d.enterDown p 0
  else d

/-- A ring that must run at the low rate as its head knows it (R16): a ZM3680-B or a chain of ZM1210s takes part. -/
def Dev.lowRing (d : Dev) : Bool :=
  d.role = .head && (d.build = .B || d.hd.members.any (fun m => m.build = 2 || m.legn)
    || d.bit (SPN_PORT_LEG .north) || d.bit (SPN_PORT_LEG .south))

/-- PRT_CTRL.RETRN (R311, Table 12-11): clear HRFAIL and start a full attempt if the link is in LR or HR; `far` says that the
partner wrote it, whose training releases this end. No attempt starts where the partner has no PHY die, nor at the head
of a ring that R16 keeps at the low rate. -/
def prtRetrnDev (p : Port) (far : Bool) (d : Dev) : Dev :=
  if fits d.build .phyN ∧ !d.dead (phyDie p) then
    let d := (d.put (PRT_STAT_HRFAIL p) 0).put (PRT_STAT_ATT p) 0
    if d.pstate p = pHr then d.put (SPN_PORT_STATE p) pTrain
    else if d.pstate p = pLr ∧ !d.bit (SPN_PORT_LEG p) ∧ lwHrcap (d.partnerWord p) ∧ !d.lowRing ∧ (!far ∨ d.hrReq p) then
      d.put (SPN_PORT_STATE p) pTrain
    else d
  else d

/-- PRT_CTRL.HRDIS (R310). -/
def prtHrdisDev (p : Port) (v : Bool) (d : Dev) : Dev :=
  if fits d.build .phyN then d.putB (PRT_CTRL_HRDIS p) v else d

/-- The word of PRT_LCHK as the event carries it. -/
def Dev.lchkWord (d : Dev) (p : Port) : Nat := (d.word (prtBase p + 0x14)).toNat

/-- PRT_CTRL.LCHK (R318): a check starts in DOWN with the services of MONITOR, and is refused otherwise. -/
def lineCheckDev (p : Port) (d : Dev) : Dev :=
  if !fits d.build .phyN then d
  else if d.pstate p = pDown ∧ d.monitoring then
    (d.setPort p { d.port p with lineCheck := true }).put (PRT_LCHK_VALID p) 0
  else
    let d := (d.put (PRT_LCHK_RTX p) 4).put (PRT_LCHK_RRX p) 4
    let d := (d.put (PRT_LCHK_VALID p) 1)
    d.raise 0x7006 (match p with | .north => 3 | .south => 4) [portCode p, d.lchkWord p]

/-- A line check ends with what the reflections show (R318). -/
def lineCheckDoneDev (p : Port) (rtx rrx dtx drx : Nat) (d : Dev) : Dev :=
  if (d.port p).lineCheck then
    let d := d.setPort p { d.port p with lineCheck := false }
    let d := ((d.put (PRT_LCHK_RTX p) rtx).put (PRT_LCHK_RRX p) rrx).put (PRT_LCHK_DTX p) dtx
    let d := (d.put (PRT_LCHK_DRX p) drx).put (PRT_LCHK_VALID p) 1
    d.raise 0x7006 (match p with | .north => 3 | .south => 4) [portCode p, d.lchkWord p]
  else d

/-! ## Tones -/

def Dev.lastTone (d : Dev) : Port → Option Nat | .north => d.pw.toneN | .south => d.pw.toneS

/-- A wake tone goes out on a port (R316): analogue, or a wake block in TRAIN, HR and RETRAIN. -/
def Dev.sendTone (d : Dev) (p : Port) : Dev :=
  let inBand := decide (pTrain ≤ d.pstate p)
  let d := (d.emit (.tone p inBand)).countMod SPN_TONE_TX 1
  match p with
  | .north => { d with pw := { d.pw with toneN := some d.now } }
  | .south => { d with pw := { d.pw with toneS := some d.now } }

/-- A port that runs at the high rate with nothing to call for it returns to LR (R319, Table 12-9). -/
def Dev.hrSettle (d : Dev) : Dev :=
  d.each [Port.north, Port.south] (fun d p =>
    if pTrain ≤ d.pstate p ∧ !d.hrReq p then (d.flushPort p).enterLr p false else d)

/-- The word with PARK = 1 that a port at the low rate sends once before its device enters PATROL or SHIP (R304). -/
def Dev.parkWords (d : Dev) : Dev :=
  d.each [Port.north, Port.south] (fun d p =>
    if d.pstate p = pLr ∧ !d.bit (SPN_PORT_LEG p) then d.sendWord p true else d)

/-- The ports of a device that has entered SHIP or PATROL go off (R319). -/
def Dev.portsOff (d : Dev) : Dev :=
  d.each [Port.north, Port.south] (fun d p => (d.flushPort p).put (SPN_PORT_STATE p) pOff)

/-- The ports are powered again, and enter DOWN (R313). -/
def Dev.portsOn (d : Dev) : Dev :=
  d.each [Port.north, Port.south] (fun d p => if d.pstate p = pOff then d.intoDown p else d)

/-- A partner that sends no link words but legacy frames (R308): a port that has heard no native partner takes LR with LEG = 1,
on any device and in any mode with its ports on. -/
def Dev.legUp (d : Dev) (p : Port) : Dev :=
  if (d.pstate p = pDown ∨ d.pstate p = pParked) ∧ !(d.port p).gotHeard then
    let d := (d.put (SPN_PORT_LEG p) 1).put (SPN_PORT_STATE p) pLr
    let d := (d.put (SPN_PORT_ONEWAY p) 0).put (SPN_PORT_MISW p) 0
    (d.raise 0x7001 0 [portCode p, (Config.eventCause 0x7001 0).toNat]).linkNotice p true 0
  else d

/-- A tone was sent on the port in the last 10 ms (R73): 60,000 cycles. -/
def Dev.toneRecent (d : Dev) (p : Port) : Bool :=
  match d.lastTone p with | some t => decide (d.now < t + 60000) | none => false

/-- The tone that a port sent ends: PARKED goes to DOWN 1 ms later (R309). -/
def toneEndDev (p : Port) (d : Dev) : Dev :=
  if (d.lastTone p).isSome ∧ d.pstate p = pParked then d.enterDown p 0 else d

end Sys2Proof.Machine
end

