-- ==== Sys2Proof/Machine/Windows.lean ====
section
/-!
DEFINITION. Measurement windows (04): the start and stop of integration, where boundaries fall, results and flags,
summary windows, markers, and the window block. Channels are numbered 1 to 36 for cells, 37 for ISH, 38 for ISB (R414).
-/

namespace Sys2Proof.Machine

/-! ## Channels and settings in force -/

/-- Die and array index of a channel (R121). -/
def chanAt (n : Nat) : Afe × Nat := if n = 37 then (.L, 19) else if n = 38 then (.U, 19) else (bankOf n, localOf n)

/-- The bank of a channel. -/
def chanBank (n : Nat) : Afe := (chanAt n).1

/-- The channels the device has: its cells, ISH, and ISB where AFE-U is fitted and powered. -/
def Dev.channels (d : Dev) : List Nat := rangeL 1 d.cells ++ (if d.fitted.contains .U then [37, 38] else [37])

/-- The code that an INV result reads (R101). -/
def invCode : Int := -2147483648

def Dev.wlen (d : Dev) : Nat := d.get (CVW_WLEN .L)
def Dev.summM (d : Dev) : Nat := d.get (CVW_SUMM_M .L)

/-- The window epoch, a signed 64-bit count of MTICK (R90). -/
def Dev.epoch (d : Dev) : Int := toSigned 64 (d.get64 (CVW_EPOCHL_EPOCH .L) (CVW_EPOCHH_EPOCH .L))

/-- MTICK satisfies R89 under a length and an epoch. -/
def onBoundary (n : Nat) (e m : Int) : Bool := decide ((m - e) % (n : Int) = 0)

/-- WSEQ of the window that closes at an MTICK (R90): the difference is a signed 64-bit number. -/
def wseqAt (n : Nat) (e : Int) (m : Int) : Nat :=
  ((Int.fdiv (toSigned 64 ((m - e) % (2 ^ 64 : Int)).toNat) n) % (2 ^ 32 : Int)).toNat

/-- The first MTICK from `m` on that satisfies R89. -/
def boundaryFrom (n : Nat) (e m : Int) : Int := m + (e - m) % (n : Int)

/-- The MTICK at which the window in progress closes (R89, R92, R94): a window shorter than 192 cycles is joined to the
next. -/
def Dev.nextBoundary (d : Dev) : Int :=
  let b := boundaryFrom d.wlen d.epoch d.win.earliest
  if b - d.win.openTick < 192 then b + d.wlen else b

/-- Time moves on to an MTICK: MCLK cycles are counted with it, but not those in which MCLK stood still (Table 4-3). -/
def Dev.advanceTo (d : Dev) (m : Nat) : Dev :=
  let dt := m - d.mtick
  { d with
    mtick := max m d.mtick, now := d.now + dt
    win := { d.win with ccyc := d.win.ccyc + (if d.win.still then 0 else dt), still := false } }

/-! ## Start and stop of integration (R93) -/

def Dev.integrates (d : Dev) (a : Afe) : Bool := d.bit (CVW_STAT_INTEG a)

/-- The bank is in calibration (R157). -/
def Dev.inCal (d : Dev) (a : Afe) : Bool := decide (d.get PWR_STAT_CALBANK / (match a with | .L => 1 | .U => 2) % 2 = 1)

/-- The mode and the state of the bank call for integration (R19). -/
def Dev.convWanted (d : Dev) (a : Afe) : Bool := d.monitoring && d.banks.contains a && !d.inCal a

/-- Write both eras as both dies report them (R93, Table 4-16). -/
def Dev.showEras (d : Dev) : Dev :=
  d.each d.banks (fun d a => (d.put (CVW_STAT_ERAL a) d.win.eraL).put (CVW_STAT_ERAU a) d.win.eraU)

/-- A bank starts integrating (R93): a start after a stop moves its era on; within a window it breaks that window. -/
def Dev.startBank (d : Dev) (a : Afe) (atEdge : Bool) : Dev :=
  if d.integrates a then d
  else
    let d := d.put (CVW_STAT_INTEG a) 1
    let ran : Bool := match a with | .L => d.win.ranL | .U => d.win.ranU
    let w := d.win
    let w := match a with
      | .L => { w with ranL := true, eraL := if ran then (w.eraL + 1) % 256 else w.eraL, brokenL := w.brokenL || !atEdge }
      | .U => { w with ranU := true, eraU := if ran then (w.eraU + 1) % 256 else w.eraU, brokenU := w.brokenU || !atEdge }
    let d := ({ d with win := w }).showEras
    if ran ∧ d.bit (CVW_EVEN_BRKEV .L) then
      let era := match a with | .L => d.win.eraL | .U => d.win.eraU
      d.raise 0x1004 (afeSrc a) [(Config.eventCause 0x1004 (afeSrc a)).toNat, era]
    else d

/-- Integration of the channels of a bank breaks within the summary window (R97): what it has gathered no longer counts
for the means, and it is partial. -/
def Dev.breakSums (d : Dev) (a : Afe) : Dev :=
  { d with win := { d.win with sums := d.win.sums.zipIdx.map (fun (s, i) =>
    if chanBank (i + 1) = a then { s with sum := 0, len := 0, part := true } else s) } }

/-- A bank stops integrating: its integrals hold what they had gathered (R84), and the window in progress is broken. -/
def Dev.stopBank (d : Dev) (a : Afe) (atEdge : Bool) : Dev :=
  if !d.integrates a then d
  else
    let d := d.put (CVW_STAT_INTEG a) 0
    if atEdge then d
    else
      let d := d.breakSums a
      let (n, d) := d.draw
      let carry := d.win.carry.zipIdx.map (fun (c, i) => if chanBank (i + 1) = a then c + Config.partialIntegral n (i + 1) else c)
      match a with
      | .L => { d with win := { d.win with carry := carry, brokenL := true } }
      | .U => { d with win := { d.win with carry := carry, brokenU := true } }

/-- A window opens at this edge; a commit accepted while no window was in progress marks the first (Table 4-4). -/
def Dev.openWindow (d : Dev) : Dev :=
  let w := d.win
  { d with win := { w with
    opened := true, openCcyc := w.ccyc, openTick := (d.mtick : Int), earliest := (d.mtick : Int) + 1
    newcfg := !w.opened && w.newcfg, tstep := false, brokenL := false, brokenU := false, calL := d.inCal .L, calU := d.inCal .U
    trimL := false, trimU := false, switched := [], excited := [], pulled := [], ovt := [], uvt := []
    quiet := false } }

/-- The converters stop with the mode: no window is in progress (R93). -/
def Dev.stopWindows (d : Dev) : Dev :=
  let d := d.each d.banks (fun d a => d.stopBank a false)
  { d with win := { d.win with opened := false, newcfg := false, pulled := [] } }

/-! ## Closing a window (R85 to R87, R101, R106 to R108) -/

/-- The input of a channel in the window that closes: nothing where the environment shows none. -/
def winChan (w : WinIn) (n : Nat) : ChanIn :=
  if n = 37 then w.ish else if n = 38 then w.isb else (w.cells[n - 1]?).getD ⟨0, false, false⟩

/-- The channel integrates: its bank does and, for a current channel, IEN = 1; a current channel that takes no part in
its bank's calibration goes on through it (R158). -/
def Dev.chanRuns (d : Dev) (n : Nat) : Bool :=
  let a := chanBank n
  if n ≤ 36 then d.integrates a
  else d.bit (CVW_ICFG_IEN a) && (d.integrates a || (d.inCal a && match a with | .L => d.win.shuntL | .U => d.win.shuntU))

/-- The channel integrated for the whole window: its bank ran unbroken and, for a current channel, IEN = 1. -/
def Dev.wholeWindow (d : Dev) (n : Nat) (c : ChanIn) : Bool :=
  d.chanRuns n && c.whole && !(match chanBank n with | .L => d.win.brokenL | .U => d.win.brokenU)

/-- Limits of a result (R87) and of the measurement range. -/
def clampCode (n : Nat) (v : Int) : Int :=
  if n ≤ 36 then max (-6000000) (min 56000000 v) else max (-33000000) (min 33000000 v)

def outOfRange (n : Nat) (v : Int) : Bool :=
  if n ≤ 36 then decide (v < -5000000 ∨ 55000000 < v) else decide (v < -30000000 ∨ 30000000 < v)

/-- A cell or one of its neighbours is in a list. -/
def near (xs : List Nat) (n : Nat) : Bool := xs.contains n || xs.contains (n + 1) || (0 < n && xs.contains (n - 1))

def flagBit (c : Bool) (i : Nat) : Nat := if c then 2 ^ i else 0

/-- A bit of a register field by index. -/
def Dev.bitAt (d : Dev) (f : Fld) (i : Nat) : Bool := decide (d.get f / 2 ^ i % 2 = 1)

/-- The channel flags of Table 4-5; `cmp` says that compensation was subtracted and `wire` that a finding marks the cell. -/
def Dev.chanFlags (d : Dev) (n : Nat) (inv sat rng cmp wire : Bool) : Nat :=
  let common := flagBit inv 0 + flagBit sat 1 + flagBit rng 2
  if 36 < n then common
  else
    let bal := near d.win.switched n
    let a := bankOf n
    let trim := match a with | .L => d.win.trimL | .U => d.win.trimU
    common + flagBit bal 3 + flagBit cmp 4 + flagBit (bal && d.wlen % 30 ≠ 0) 5
      + flagBit (d.win.pulled.contains (n - 1) || d.win.pulled.contains n) 6
      + flagBit (near d.win.excited n) 8 + flagBit (d.bitAt (CMP_OVST a) (localOf n - 1) || d.win.ovt.contains n) 9
      + flagBit (d.bitAt (CMP_UVST a) (localOf n - 1) || d.win.uvt.contains n) 10 + flagBit trim 11 + flagBit wire 12

/-- One channel of the window that closes: CINT or CQ moves on, and the result, its flags and its summary follow.
`comp` is the compensation where one applies. -/
def Dev.closeChannel (d : Dev) (len : Nat) (c : ChanIn) (comp : Option Int) (wire : Bool) (n : Nat) : Dev :=
  let (a, k) := chanAt n
  let runs := d.chanRuns n
  let delta := (if runs then c.delta else 0) + (d.win.carry[n - 1]?).getD 0
  let cint := (((d.get64 (CVW_CINTL a k) (CVW_CINTH a k) : Nat) : Int) + delta) % (2 ^ 64 : Int)
  let valid := d.wholeWindow n c
  let cv := if valid then comp.getD 0 else 0
  let res := if valid then clampCode n (roundDiv c.delta len - cv) else invCode
  let flags := d.chanFlags n (!valid) (runs && c.sat) (valid && outOfRange n res) (valid && comp.isSome) wire
  let d := d.put64 (CVW_CINTL a k) (CVW_CINTH a k) cint.toNat
  let d := (d.putS (CVW_FRES a k) res).put (CVW_FFLG a k) flags
  let s := (d.win.sums[n - 1]?).getD ⟨0, 0, 0, 0, 0, false, false⟩
  let s := if valid then
      { s with
        sum := s.sum + c.delta - cv * len, len := s.len + len
        lo := if s.any then min s.lo res else res, hi := if s.any then max s.hi res else res, any := true }
    else { s with sum := 0, len := 0, part := true }
  let s := { s with flg := s.flg ||| flags }
  { d with win := { d.win with
    carry := d.win.carry.set (n - 1) 0, sums := d.win.sums.set (n - 1) s } }

/-- OVR and RNG events (R124): once per channel and summary window. -/
def Dev.rangeEvents (d : Dev) (wseq : Nat) : Dev :=
  d.each d.channels (fun d n =>
    let (a, k) := chanAt n
    let f := d.get (CVW_FFLG a k)
    let due := (f / 2 % 2 = 1 && d.bit (CVW_EVEN_OVREV .L)) || (f / 4 % 2 = 1 && d.bit (CVW_EVEN_RNGEV .L))
    if due ∧ !d.win.evRaised.contains n then
      ({ d with win := { d.win with evRaised := n :: d.win.evRaised } }).raise 0x1001 (afeSrc a) [n, wseq]
    else d)

/-- The block flags known at the boundary (Table 4-4); CAPT and MISS follow when the block is formed. Every window of a pull run
carries DIAG (R231). -/
def Dev.blockFlags (d : Dev) (len : Nat) : Nat :=
  let sw := !d.win.switched.isEmpty
  flagBit (decide (len ≠ d.wlen)) 0 + flagBit d.win.newcfg 1 + flagBit d.owd.run.isSome 5
    + flagBit (d.win.quiet && !sw) 6 + flagBit (!d.win.excited.isEmpty) 7 + flagBit (d.wlen % 30 ≠ 0 && sw) 8
    + flagBit d.win.calL 11 + flagBit d.win.calU 12 + flagBit d.win.tstep 13

/-- The marker due for the window WSEQ (R114). Where one placed at once and one placed by number meet although neither
write could see the other's window, the first is taken (log 52). -/
def Dev.takeMark (d : Dev) (wseq : Nat) : Option Nat × Dev :=
  match d.win.mark with
  | some c =>
    let d := if d.win.markAt.any (fun m => m.1 = wseq) then d.put (CVW_STAT_MRKOVW .L) 1 else d
    (some c, { d with win := { d.win with mark := none, markAt := d.win.markAt.filter (fun m => m.1 ≠ wseq) } })
  | none =>
    match d.win.markAt.find? (fun m => m.1 = wseq) with
    | some m => (some m.2, { d with win := { d.win with markAt := d.win.markAt.filter (fun m => m.1 ≠ wseq) } })
    | none => (none, d)

/-- A flag is added to a channel of the window that has just closed, and to its summary. -/
def Dev.addFlag (d : Dev) (n bit : Nat) : Dev :=
  let (a, k) := chanAt n
  let d := d.put (CVW_FFLG a k) (d.get (CVW_FFLG a k) ||| 2 ^ bit)
  let s := (d.win.sums[n - 1]?).getD ⟨0, 0, 0, 0, 0, false, false⟩
  { d with win := { d.win with sums := d.win.sums.set (n - 1) { s with flg := s.flg ||| 2 ^ bit } } }

/-- The window in progress closes at the present edge: channels, counters, and what its block will carry. `checks` is
what CORE does with the results before the block holds their flags (R146). -/
def Dev.closeWindow (d : Dev) (w : WinIn) (comp : Nat → Option Int) (wire : Nat → Bool) (checks : Dev → Dev) : Dev :=
  let len := d.win.ccyc - d.win.openCcyc
  let wseq := wseqAt d.wlen d.epoch d.mtick
  let d := if d.win.switched.isEmpty then d else { d with win := { d.win with balw := (d.win.balw + 1) % 2 ^ 32 } }
  let bflags := d.blockFlags len
  let d := d.each d.channels (fun d n => d.closeChannel len (winChan w n) (comp n) (wire n) n)
  let d := checks d
  let d := d.each d.banks (fun d a =>
    let d := ((d.put (CVW_WSEQ a) wseq).put (CVW_WLAST a) len)
    d.put64 (CVW_CCYCL a) (CVW_CCYCH a) d.win.ccyc)
  let d := d.rangeEvents wseq
  let (mrk, d) := d.takeMark wseq
  let at38 (f : Nat → Nat) : List Nat := (rangeL 1 38).map (fun n => if d.channels.contains n then f n else 0)
  let c : Closed :=
    { wseq := wseq, ccyc := d.win.ccyc, tick := d.mtick, tq := d.tq
      bflags := bflags + (if mrk.isSome then 2 ^ 9 else 0), wlen := len, eral := d.win.eraL
      erau := if d.fitted.contains .U then d.win.eraU else 0, mrk := mrk.getD 0, cgen := bitsOf (d.word 0x400F04) 31 16 % 256
      balw := d.win.balw
      res := (rangeL 1 38).map (fun n => if d.channels.contains n then d.getS (CVW_FRES (chanAt n).1 (chanAt n).2) else invCode)
      flg := at38 (fun n => d.get (CVW_FFLG (chanAt n).1 (chanAt n).2))
      cint := at38 (fun n => d.get64 (CVW_CINTL (chanAt n).1 (chanAt n).2) (CVW_CINTH (chanAt n).1 (chanAt n).2))
      srcs := d.win.capSrc, origin := d.win.capOrigin }
  { d with win := { d.win with
    miss := d.win.miss || d.win.closed.isSome, closed := some c, capSrc := 0, capOrigin := 0 } }

/-! ## Summary windows (R95 to R98, R556) -/

def noSum : SumAcc := ⟨0, 0, 0, 0, 0, false, false⟩

/-- The present boundary is a summary boundary under R95 with given settings. -/
def summaryBoundary (n m : Nat) (e t : Int) : Bool := decide (m ≠ 0) && onBoundary (n * m) e t

/-- Write one channel's summary (R96, R97). -/
def Dev.writeSummary (d : Dev) (part : Bool) (n : Nat) : Dev :=
  let (a, k) := chanAt n
  let s := (d.win.sums[n - 1]?).getD noSum
  let mean := if s.len = 0 then invCode else roundDiv s.sum s.len
  let d := d.putS (CVW_SMEAN a k) mean
  let d := (d.putS (CVW_SMIN a k) (if s.any then s.lo else invCode)).putS (CVW_SMAX a k) (if s.any then s.hi else invCode)
  ((d.put (CVW_SFLG_FLG a k) s.flg).putB (CVW_SFLG_PART a k) (s.part || part))

/-- A summary record of the history log (Table 19-4). -/
def Dev.summaryRecord (d : Dev) : List Byte :=
  let word (f : Fld) : List Byte := leBytes 4 (d.get f)
  let sflg := d.channels.foldl (fun v n => v ||| d.get (CVW_SFLG_FLG (chanAt n).1 (chanAt n).2)) 0
  let isb := d.fitted.contains .U
  leBytes 2 0xC0F0 ++ leBytes 1 d.pos ++ leBytes 1 d.cells ++ word (CVW_SSEQ .L) ++ leBytes 8 (tbTime d.mtick)
    ++ leBytes 2 sflg ++ leBytes 1 d.win.eraL ++ leBytes 1 (if isb then d.win.eraU else 0) ++ leBytes 4 0
    ++ word (CVW_SMEAN .L 19) ++ (if isb then word (CVW_SMEAN .U 19) else leBytes 4 0x80000000)
    ++ (rangeL 1 36).flatMap (fun n => if n ≤ d.cells then word (CVW_SMEAN (bankOf n) (localOf n)) else leBytes 4 0)
    ++ leBytes 8 (d.get64 (CVW_CINTL .L 19) (CVW_CINTH .L 19))
    ++ leBytes 8 (if isb then d.get64 (CVW_CINTL .U 19) (CVW_CINTH .U 19) else 0)

/-- A summary boundary (R96, R97): registers, SSEQ, the event and the history record; a new summary window opens. -/
def Dev.closeSummary (d : Dev) (extraPart nextPart : Bool) : Dev :=
  let d := d.each d.channels (fun d n => d.writeSummary (d.win.sumPart || extraPart) n)
  let d := d.each d.banks (fun d a => d.countMod (CVW_SSEQ a) 1)
  let d := { d with win := { d.win with sums := List.replicate 38 noSum, sumPart := nextPart, evRaised := [] } }
  let d := if d.bit (CVW_EVEN_SUMEV .L) then d.raise 0x1003 0 [] else d
  let k := d.get RCD_CFG_SUMK
  if k ≠ 0 ∧ d.get (CVW_SSEQ .L) % k = 0 then d.histAppend d.summaryRecord else d

/-! ## Markers (R114) -/

/-- WSEQ of the window in progress, which the next boundary closes. -/
def Dev.markNow (d : Dev) : Option Nat := if d.win.opened then some (wseqAt d.wlen d.epoch d.nextBoundary) else none

/-- A marker for the window in progress: the later of two writes wins (R114). -/
def Dev.markHere (d : Dev) (code : Nat) : Dev :=
  let now := d.markNow
  let d := if d.win.mark.isSome ∨ d.win.markAt.any (fun m => now = some m.1) then d.put (CVW_STAT_MRKOVW .L) 1 else d
  { d with win := { d.win with mark := some code, markAt := d.win.markAt.filter (fun m => now ≠ some m.1) } }

/-- MARK: CVW_MARK written with this word. -/
def markDev (v : Word) (d : Dev) : Dev :=
  let code := bitsOf v 7 0
  if bitsOf v 8 8 = 0 then d.markHere code
  else
    let target := d.get (CVW_MARKW .L)
    let past := decide ((d.get (CVW_WSEQ .L) + 2 ^ 32 - target) % 2 ^ 32 < 2 ^ 31)
    if past then ((d.markHere code).put (CVW_STAT_LATE .L) 1).raise 0x1005 1 []
    else
      let same := decide (d.markNow = some target)
      let d := if d.win.markAt.any (fun m => m.1 = target) ∨ (same ∧ d.win.mark.isSome) then d.put (CVW_STAT_MRKOVW .L) 1 else d
      { d with win := { d.win with
        mark := if same then none else d.win.mark, markAt := (target, code) :: d.win.markAt.filter (fun m => m.1 ≠ target) } }

/-! ## The window block (R102 to R105) -/

/-- Bytes of a block by cell count and format (Table 4-2). -/
def blockBytes (cells : Nat) (lean : Bool) : Nat :=
  if cells = 0 then 128 else if cells ≤ 18 then (if lean then 192 else 320) else if lean then 320 else 576

/-- The bytes of a block: header, results, flags, in FULL the integrals, zero padding (Tables 4-2, 4-3). -/
def Dev.blockOf (d : Dev) (c : Closed) (lean : Bool) : List Byte :=
  let n := d.cells
  let i32 (v : Int) : List Byte := leBytes 4 (ofSigned 32 v)
  let res (k : Nat) : Int := (c.res[k - 1]?).getD invCode
  let flg (k : Nat) : Nat := (c.flg[k - 1]?).getD 0
  let cint (k : Nat) : Nat := (c.cint[k - 1]?).getD 0
  let body :=
    leBytes 1 (if lean then 2 else 1) ++ leBytes 1 1 ++ leBytes 1 d.pos ++ leBytes 1 n ++ leBytes 4 c.wseq
    ++ leBytes 8 c.ccyc ++ leBytes 8 (tbTime c.tick) ++ leBytes 2 (c.tq * 2 ^ 14 + c.bflags) ++ leBytes 2 (tbFrac c.tick)
    ++ leBytes 4 c.wlen ++ leBytes 1 c.eral ++ leBytes 1 c.erau ++ leBytes 1 c.mrk ++ leBytes 1 c.cgen ++ leBytes 4 c.balw
    ++ i32 (res 37) ++ i32 (res 38) ++ leBytes 8 (cint 37) ++ leBytes 8 (cint 38)
    ++ (rangeL 1 n).flatMap (fun k => i32 (res k))
    ++ (rangeL 1 n).flatMap (fun k => leBytes 2 (flg k)) ++ leBytes 2 (flg 37) ++ leBytes 2 (flg 38)
  let body := if lean ∨ n = 0 then body
    else body ++ List.replicate ((8 - body.length % 8) % 8) 0 ++ (rangeL 1 n).flatMap (fun k => leBytes 8 (cint k))
  body ++ List.replicate (blockBytes n lean - body.length) 0

/-! ## Reads of a pair (R113) -/

/-- Copy a high half when its low half is read. -/
def Dev.latchHigh (d : Dev) (a : Nat) : Dev :=
  { d with win := { d.win with latches := (a, d.word a) :: d.win.latches.filter (fun l => l.1 ≠ a) } }

end Sys2Proof.Machine
end

