-- ==== Sys2Proof/Machine/Timebase.lean ====
section
/-!
DEFINITION. The timebase (14): the head's discipline and holdover, the exchange along the ring, steps of the count,
and the reads of TBTIME.
-/

namespace Sys2Proof.Machine

/-! ## Quality -/

def tqUnset : Nat := 0
def tqFree : Nat := 1
def tqHoldover : Nat := 2
def tqLocked : Nat := 3

/-- A plan is active or pending (R181). -/
def Dev.planLive (d : Dev) : Bool := d.bit BAL_STAT_ACTIVE || d.bit BAL_STAT_SPEND

/-- The TB block runs: MONITOR and above, and in WATCH while a plan is active or pending (Table 3-7, R187). -/
def Dev.tbRuns (d : Dev) : Bool := d.monitoring || (d.lathe && !d.pw.starting && decide (d.level = 3) && d.planLive)

/-- A command that carries its time, in 1/6 us since power-on, moves the clock on, and with it the count where TB runs (log 13). -/
def Dev.atTime (d : Dev) (t : Nat) : Dev :=
  let m := d.mtick + (t - d.now)
  if t ≤ d.now then d
  else if d.tbRuns ∧ !(d.win.opened ∧ d.nextBoundary < (m : Int)) then d.advanceTo m
  else { d with now := t }

/-- A quality comes into force; at the head each change raises its event (R381). -/
def Dev.setTq (d : Dev) (q : Nat) : Dev :=
  if d.tq = q then d
  else
    let d := d.put TB_STAT_TQ q
    if d.role = .head then
      (if q = tqLocked then d.raise 0x8001 0 [] else if q = tqHoldover then d.raise 0x8002 0 []
        else if q = tqFree then d.raise 0x8003 0 [] else d)
    else d

/-- WSEQ of the window in progress (R90). -/
def Dev.wseqNow (d : Dev) : Nat := wseqAt d.wlen d.epoch d.nextBoundary

/-! ## Steps of the count (R94, R380) -/

/-- MTICK counts in a second (R371). -/
def ticksPerSecond : Nat := 6000000

/-- The first whole second at or after an MTICK. -/
def secondFrom (m : Nat) : Nat := (m + ticksPerSecond - 1) / ticksPerSecond

/-- Switching periods are placed by EPOCH on the count from an MTICK on: all stages idle until the first period start (R178,
R380). -/
def Dev.placePeriods (d : Dev) (m : Nat) : Dev :=
  let start := (boundaryFrom 30 d.epoch m).toNat
  { d with bal := { d.bal with idleTo := if start = m then none else some start } }

/-- The count jumps at this edge: the window in progress carries TSTEP and may close from this edge on (R94), switching
periods follow the new count, STEPCNT moves on, and the event is raised. -/
def Dev.jump (d : Dev) (new : Nat) : Dev :=
  let old := d.mtick
  let delta : Int := (new : Int) - (old : Int)
  let w := d.win
  let d := { d with
    mtick := new
    win := { w with openTick := w.openTick + delta, earliest := (new : Int), tstep := true }
    tb := { d.tb with lastEdge := d.tb.lastEdge.map (fun e => e + roundDiv (delta * 256000) 6) } }
  ((d.placePeriods new).countMod TB_STAT_STEPCNT 1).raise 0x8004 0 (item64 (tbTime old) ++ item64 (tbTime new))

/-- The head decides a step (R380): at the first whole second at least 3 s on, the count becomes `new` there. -/
def Dev.decideStep (d : Dev) (new : Nat → Int) : Dev :=
  let s := secondFrom (d.mtick + 3 * ticksPerSecond)
  let n := (new s).toNat
  ({ d with tb := { d.tb with step := some (s, n / ticksPerSecond, n % ticksPerSecond), good := 0 } }).put TB_STAT_STEPPEND 1

/-- TB_STEP: the step edge is reached (R380), in a CORE warm reset too, through which the count goes on (R47). -/
def tbStepDev (d : Dev) : Dev :=
  match d.tb.step with
  | none => d
  | some (s, sec, tick) =>
    if !(d.tbRuns || (d.pw.warm && d.mclkOn)) ∨ s * ticksPerSecond < d.mtick ∨ (d.win.opened ∧ d.nextBoundary < ((s * ticksPerSecond : Nat) : Int)) then d
    else
      let d := d.advanceTo (s * ticksPerSecond)
      let late := d.tb.late
      let d := { d with tb := { d.tb with step := none, late := false, annL := none, annH := none, annT := none } }
      let d := (d.put TB_STAT_STEPPEND 0).jump (sec * ticksPerSecond + tick)
      let d := if late then d.raise 0x8009 0 [] else d
      if d.role = .head ∧ d.tq = tqUnset then d.setTq tqFree else d

/-! ## Discipline at the head -/

/-- The source in use becomes PTM (1), PPS (2) or none (0); under SRC = 0b011 a change raises an event. -/
def Dev.setAct (d : Dev) (a : Nat) : Dev :=
  if d.get TB_STAT_ACT = a then d
  else
    let d := (d.put TB_STAT_ACT a)
    let d := { d with tb := { d.tb with good := 0 } }
    if d.get TB_CFG_SRC = 3 then d.raise 0x8008 0 [] else d

/-- The source that R374 uses now: PTM 1, PPS 2, none 0. -/
def Dev.wantedSource (d : Dev) : Nat :=
  match d.get TB_CFG_SRC with
  | 1 => if d.tb.ptmOk then 1 else 0
  | 2 => if d.tb.ppsOk then 2 else 0
  | 3 => if d.tb.ptmOk then 1 else if d.tb.ppsOk then 2 else 0
  | _ => 0

/-- An update of the loop with the phase error, TBTIME less the time of the source, in 2⁻⁸ ns (R377, R378, R381): an error
beyond 200 ns ends LOCKED, also where a step follows or is already on its way. -/
def Dev.loopUpdate (d : Dev) (err : Int) : Dev :=
  let d := d.putS TB_ERR err
  let ok : Bool := decide (|err| ≤ 200 * 256)
  let d := { d with tb := { d.tb with good := if ok then d.tb.good + 1 else 0 } }
  let d := if !ok ∧ d.tq = tqLocked then d.setTq tqFree else d
  if d.tq = tqUnset ∨ ((d.get TB_CFG_STEPLIM * 10000 * 256 : Nat) : Int) < |err| then
    (if d.tb.step.isSome then d
      else d.decideStep (fun s => ((s * ticksPerSecond : Nat) : Int) - roundDiv (err * 6) 256000))
  else if 16 ≤ d.tb.good then d.setTq tqLocked
  else d

/-- The source in use is lost or no source is left (R381). -/
def Dev.sourceLost (d : Dev) : Dev :=
  let a := d.wantedSource
  if a = d.get TB_STAT_ACT then d
  else
    let d := d.setAct a
    if a = 0 ∧ d.tq = tqLocked then d.setTq tqHoldover else d

/-- PTM is lost (R375). -/
def Dev.ptmGone (d : Dev) : Dev := ({ d with tb := { d.tb with ptmOk := false } }).sourceLost

/-- The TB block of a head that runs. -/
def Dev.headTb (d : Dev) : Bool := d.role = .head && d.tbRuns

/-- PTM_DIALOGUE: a dialogue completes with the PTM master time in ns and TBTIME in 2⁻⁸ ns at one instant (R375). -/
def ptmDialogueDev (srcNs tbUnits : Int) (d : Dev) : Dev :=
  if !d.headTb ∨ (d.get TB_CFG_SRC ≠ 1 ∧ d.get TB_CFG_SRC ≠ 3) then d
  else
    let d := { d with tb := { d.tb with ptmOk := true } }
    (d.setAct 1).loopUpdate (tbUnits - 256 * (srcNs + toSigned 64 (d.get64 TB_PTMOFSL TB_PTMOFSH)))

/-- PTM_LOSS (R375). -/
def ptmLossDev (d : Dev) : Dev :=
  if d.role ≠ .head then d else d.ptmGone

/-- PPS_EDGE: a rising edge at a TBTIME, in 2⁻⁸ ns (R376). -/
def ppsEdgeDev (tbUnits : Int) (d : Dev) : Dev :=
  if !d.headTb ∨ (d.get TB_CFG_SRC ≠ 2 ∧ d.get TB_CFG_SRC ≠ 3) then d
  else
    let off : Bool := match d.tb.lastEdge with
      | some e => decide (1000000 * 256 < |tbUnits - (e + 1000000000 * 256)|)
      | none => false
    if off then d.raise 0x8007 0 []
    else
      let sec := d.tb.tod
      let d := { d with tb := { d.tb with
        ppsOk := true, lastEdge := some tbUnits, tod := none
        lastSec := match sec with | some s => some s | none => d.tb.lastSec.map (· + 1) } }
      if d.wantedSource ≠ 2 then d
      else
        let d := d.setAct 2
        match sec with
        | some s => d.loopUpdate (tbUnits - ((s * 1000000000 * 256 : Nat) : Int))
        | none => d

/-- PPS_LOSS (R376). -/
def ppsLossDev (d : Dev) : Dev :=
  if d.role ≠ .head then d
  else ({ d with tb := { d.tb with ppsOk := false, lastEdge := none, lastSec := none, tod := none } }).sourceLost

/-- A second is named for the next PPS edge, or the name is discarded (R376). -/
def Dev.nameSecond (d : Dev) (good : Bool) (sec ms : Nat) : Dev :=
  if d.role ≠ .head then d
  else
    let inOrder : Bool := match d.tb.lastSec with | some l => decide (sec = l + 1) | none => true
    if good ∧ 100 ≤ ms ∧ ms ≤ 900 ∧ inOrder then { d with tb := { d.tb with tod := some sec } }
    else d.raise 0x8007 0 []

/-- TIME_OF_DAY_MESSAGE, as the I²C target receives it (Table 14-3). -/
def timeOfDayDev (bytes : List Byte) (ms : Nat) (d : Dev) : Dev :=
  let n (i : Nat) : Nat := ((bytes[i]?).getD 0).toNat
  let good := bytes.length = 12 && n 0 = 0x54 && n 1 = 1 && n 10 = 1 && decide (crc8 (bytes.take 11) = (bytes[11]?).getD 0)
  d.nameSecond good (leNat ((bytes.drop 2).take 8)) ms

/-- TB_TOD_WRITE: TB_TODL and TB_TODH name the next edge. -/
def tbTodWriteDev (lo hi : Word) (ms : Nat) (d : Dev) : Dev :=
  ({ d with tb := { d.tb with todLow := lo.toNat } }).nameSecond true (lo.toNat + 2 ^ 32 * hi.toNat) ms

/-- TB_SET: TB_SETH is written after TB_SETL (R379). -/
def tbSetDev (lo hi : Word) (d : Dev) : Dev :=
  let d := { d with tb := { d.tb with setLow := lo.toNat } }
  if d.headTb ∧ (d.get TB_CFG_SRC = 0 ∨ d.tq = tqUnset) then
    d.decideStep (fun _ => (((lo.toNat + 2 ^ 32 * hi.toNat) * ticksPerSecond : Nat) : Int))
  else d

/-- HOLDOVER_END (R373, R381). -/
def holdoverEndDev (d : Dev) : Dev :=
  if d.tq ≠ tqHoldover ∨ (d.role = .member ∧ d.bit TB_STAT_RLOCK) then d else d.setTq tqFree

/-- A commit of TB group 0 has left SRC = NONE: no source is in use and the time is FREE once set (Table 14-2). -/
def Dev.tbConfigured (d : Dev) : Dev :=
  if d.role ≠ .head then d
  else
    let d := d.sourceLost
    if d.get TB_CFG_SRC = 0 ∧ (d.tq = tqLocked ∨ d.tq = tqHoldover) then d.setTq tqFree else d

/-! ## Along the ring -/

/-- The time port (R382): south while in LR or HR, else north while in LR or HR. -/
def Dev.timePort (d : Dev) : Option Port :=
  if d.role = .head ∨ !d.tbRuns then none
  else if d.linkUp .south then some .south
  else if d.linkUp .north then some .north
  else none

/-- RLOCK clears: the member reports HOLDOVER, and the event carries WSEQ (R373). -/
def Dev.ringUnlock (d : Dev) : Dev :=
  let d := { d with tb := { d.tb with good := 0, bad := 0 } }
  if d.bit TB_STAT_RLOCK then ((d.put TB_STAT_RLOCK 0).put TB_STAT_TQ tqHoldover).raise 0x8005 0 [d.wseqNow] else d

/-- The time port is looked at again after a change of the ports or of the mode (R382, R385). -/
def Dev.seeTimePort (d : Dev) : Dev :=
  if d.role = .head then d
  else match d.timePort with
  | none => d.ringUnlock
  | some p =>
    let code := match p with | .south => 0 | .north => 1
    if d.get TB_STAT_TPORT = code then d
    else ({ d with tb := { d.tb with good := 0, bad := 0 } }).put TB_STAT_TPORT code

/-- The device is the upstream end of a link. -/
def Dev.upstream (d : Dev) (p : Port) : Bool := d.tbRuns && d.linkUp p && decide (d.timePort ≠ some p)
  && (d.role = .head || d.timePort.isSome)

/-- The timing payload leaves a port (R384): in a compact TIMING frame at the low rate, in a timing-mark block at the high
rate. -/
def Dev.sendTiming (d : Dev) (p : Port) (pay : Nat) : Dev :=
  if d.pstate p = pHr then d.emit (.timingMark p pay) else d.sendPlain [p] kTiming d.pos pay

/-- The INFO payload of a subtype (Table 14-5). -/
def Dev.infoPay (d : Dev) (sub : Nat) : Nat :=
  let next := d.mtick / ticksPerSecond + 1
  let sec : Nat := match d.tb.step with | some (_, n, _) => n | none => next
  let body : Nat := match sub with
    | 0 => sec % 2 ^ 28
    | 1 => sec / 2 ^ 28 % 2 ^ 28
    | 2 => (if d.role = .head then d.tq else d.tb.headTq) * 2 ^ 26 + d.get TB_STAT_HOPS * 2 ^ 20
        + (if d.tb.step.isSome then 2 ^ 19 else 0)
    | _ => match d.tb.step with | some (_, _, t) => t | none => 0
  3 * 2 ^ 30 + sub % 4 * 2 ^ 28 + body

/-- TIMING_EXCHANGE_START: the upstream end sends STAMP with its send time and the next INFO subtype (R383, R384). -/
def timingExchangeStartDev (p : Port) (tx : Nat) (d : Dev) : Dev :=
  if !d.upstream p then d
  else
    let d := d.sendTiming p (tx % 2 ^ 30)
    let sub := match p with | .north => d.tb.infoN | .south => d.tb.infoS
    let d := d.sendTiming p (d.infoPay sub)
    match p with
    | .north => { d with tb := { d.tb with infoN := (sub + 1) % 4 } }
    | .south => { d with tb := { d.tb with infoS := (sub + 1) % 4 } }

/-- A timing payload of a type arrives and crosses no further: at the low rate in a frame, whose CRC is checked (R330); at the
high rate in a timing-mark block, of which the word's payload field stands for the fields (R384). -/
def timingIn (p : Port) (ttype : Nat) (w : Word64) (d : Dev) (act : Dev → Nat → Dev) : Dev :=
  if !d.lathe ∨ !d.linkUp p ∨ cfKind w ≠ kTiming then d
  else if d.pstate p ≠ pHr ∧ !cfOk w then d.countSat (SPN_ERR_CRC16 p) 1
  else if cfPay w / 2 ^ 30 ≠ ttype then d
  else act d (cfPay w % 2 ^ 30)

/-- TIMING_STAMP: the downstream end notes t1 and t2 and sends REQ at t3 (R383). -/
def timingStampDev (p : Port) (w : Word64) (rx tx : Nat) (d : Dev) : Dev :=
  timingIn p 0 w d (fun d t1 =>
    if d.timePort ≠ some p then d
    else
      ({ d with tb := { d.tb with t1 := t1, t2 := rx % 2 ^ 30, t3 := tx % 2 ^ 30 } }).sendTiming p (2 ^ 30 + tx % 2 ^ 30))

/-- TIMING_REQ: the upstream end returns its receive time (R383). -/
def timingReqDev (p : Port) (w : Word64) (rx : Nat) (d : Dev) : Dev :=
  timingIn p 1 w d (fun d _ => if d.upstream p then d.sendTiming p (2 * 2 ^ 30 + rx % 2 ^ 30) else d)

/-- The pair asymmetry A of a port in 2⁻⁸ ns (R383). -/
def Dev.asym (d : Dev) (p : Port) : Int :=
  roundDiv (256 * (match p with | .north => d.getS TB_ASYM_ASYMN | .south => d.getS TB_ASYM_ASYMS)) 1000

/-- The difference of two time stamps, modulo 2^30, read as signed. -/
def stampDiff (a b : Nat) : Int := toSigned 30 ((a + 2 ^ 30 - b) % 2 ^ 30)

/-- Delay and θ of an exchange (R383). -/
def exchange (t1 t2 t3 t4 : Nat) (asym : Int) : Int × Int :=
  let delay := roundDiv (stampDiff t4 t1 - stampDiff t3 t2) 2
  (delay, stampDiff t2 t1 - delay - roundDiv asym 2)

/-- A member steps on its own (R385). -/
def Dev.localStep (d : Dev) (new : Int) : Dev := ({ d with tb := { d.tb with good := 0 } }).jump new.toNat

/-- TIMING_RESP: the downstream end computes delay and θ, and RLOCK follows (R383, R385). -/
def timingRespDev (p : Port) (w : Word64) (d : Dev) : Dev :=
  timingIn p 2 w d (fun d t4 =>
    if d.timePort ≠ some p then d
    else
      let (delay, th) := exchange d.tb.t1 d.tb.t2 d.tb.t3 t4 (d.asym p)
      let d := d.putS (match p with | .north => TB_DLYN | .south => TB_DLYS) delay
      let d := d.putS TB_ERR th
      let lim : Int := if d.pstate p = pHr then 256 else 5120
      if |th| ≤ lim then
        let g := d.tb.good + 1
        let d := { d with tb := { d.tb with good := g, bad := 0 } }
        if 64 ≤ g ∧ !d.bit TB_STAT_RLOCK then
          ((d.put TB_STAT_RLOCK 1).put TB_STAT_TQ d.tb.headTq).raise 0x8006 0 [d.wseqNow]
        else d
      else
        let b := d.tb.bad + 1
        let d := { d with tb := { d.tb with good := 0, bad := b } }
        if d.bit TB_STAT_RLOCK then (if 16 ≤ b then d.ringUnlock else d)
        else if 1000000 * 256 < |th| then d.localStep ((d.mtick : Int) - roundDiv (th * 6) 256000)
        else d)

/-- All parts of an announcement are here: the step is pending, at the announced edge or, where that has passed, at
the next whole second (R380). -/
def Dev.announced (d : Dev) (edge : Nat) : Dev :=
  match d.tb.annL, d.tb.annH, d.tb.annT with
  | some l, some h, some t =>
    let sec := l + 2 ^ 28 * h
    let late : Bool := decide (edge * ticksPerSecond < d.mtick)
    let s := if late then secondFrom d.mtick else edge
    ({ d with tb := { d.tb with step := some (s, sec + (s - edge), t), late := late } }).put TB_STAT_STEPPEND 1
  | _, _, _ => d

/-- The seconds of the ring are known and no step is announced: a member that is not locked takes them (R373, R385). -/
def Dev.takeSeconds (d : Dev) : Dev :=
  match d.tb.annL, d.tb.annH with
  | some l, some h =>
    let d := { d with tb := { d.tb with annL := none, annH := none } }
    if d.bit TB_STAT_RLOCK then d
    else
      let d := if d.tq = tqUnset then d.setTq tqFree else d
      let next : Int := ((l + 2 ^ 28 * h : Nat) : Int)
      let mine : Int := ((d.mtick / ticksPerSecond + 1 : Nat) : Int)
      if next = mine then d else d.localStep ((d.mtick : Int) + (next - mine) * ((ticksPerSecond : Nat) : Int))
  | _, _ => d

/-- TIMING_INFO (R382, R384, R551): `edge` is the old second S of an announced step. -/
def timingInfoDev (p : Port) (w : Word64) (edge : Nat) (d : Dev) : Dev :=
  timingIn p 3 w d (fun d pay =>
    if d.timePort ≠ some p then d
    else
      let v := pay % 2 ^ 28
      let pend := d.bit TB_STAT_STEPPEND
      match pay / 2 ^ 28 with
      | 0 =>
        let d := { d with tb := { d.tb with annL := some v } }
        if pend then d.announced edge else d.takeSeconds
      | 1 =>
        let d := { d with tb := { d.tb with annH := some v } }
        if pend then d.announced edge else d.takeSeconds
      | 2 =>
        let q := v / 2 ^ 26
        let d := { d with tb := { d.tb with headTq := q } }
        let d := if d.bit TB_STAT_RLOCK then d.put TB_STAT_TQ q else d
        let d := d.put TB_STAT_HOPS (v / 2 ^ 20 % 64 + 1)
        if v / 2 ^ 19 % 2 = 1 then
          if pend then d
          else ({ d with tb := { d.tb with annL := none, annH := none, annT := none } }).put TB_STAT_STEPPEND 1
        else if d.tb.step.isSome then d
        else d.put TB_STAT_STEPPEND 0
      | _ =>
        if pend then ({ d with tb := { d.tb with annT := some (v % 2 ^ 23) } }).announced edge else d)

/-- TB stops: a member that comes back reports FREE until it locks again (R385). -/
def Dev.stopTb (d : Dev) : Dev :=
  if d.role = .head then d
  else
    let d := d.ringUnlock
    if d.tq = tqUnset then d else d.put TB_STAT_TQ tqFree

/-! ## Reads of TBTIME -/

/-- A read of TB_NOWL: the low half, with the high half and the fraction held for the reads that follow (R113, R387). -/
def Dev.readNow (d : Dev) : Word × Dev :=
  let t := tbTime d.mtick
  let held := [(0xC034, BitVec.ofNat 32 (t / 2 ^ 32)), (0xC038, BitVec.ofNat 32 (tbFrac d.mtick * 65536))]
  (BitVec.ofNat 32 t, { d with win := { d.win with latches := held ++ d.win.latches.filter (fun l => l.1 ≠ 0xC034 && l.1 ≠ 0xC038) } })

/-- TB_NOWL_READ. -/
def tbNowlReadDev (d : Dev) : Dev := let (w, d) := d.readNow; { d with readData := w }

end Sys2Proof.Machine
end

