-- ==== Sys2Proof/Machine/Bdl.lean ====
section
/-!
DEFINITION. Beadline (16): frames and how they are judged, the search, the schedule, host transactions, and faults of
a line. Positions of line l are indexed 32 l + p in the per-position arrays.
-/

namespace Sys2Proof.Machine

def Dev.bline (d : Dev) (l : Nat) : BdlLine := if l = 0 then d.bdl.l0 else d.bdl.l1

def Dev.setBline (d : Dev) (l : Nat) (x : BdlLine) : Dev :=
  if l = 0 then { d with bdl := { d.bdl with l0 := x } } else { d with bdl := { d.bdl with l1 := x } }

def Dev.bdlTo (d : Dev) (l : Nat) (a : BdlAct) : Dev := d.setBline l { d.bline l with act := a, again := false }

/-- Index of a position in the arrays (Table 16-7). -/
def posIx (l p : Nat) : Nat := 32 * l + p

/-- Frames may run on a line (R430, R445): MONITOR or above, enabled, not shorted. -/
def Dev.bdlUp (d : Dev) (l : Nat) : Bool := d.monitoring && d.bitAt BDL_CFG_LEN l && !d.bit (BDL_LSTAT_SHORT l)

/-- A set of positions holds p. -/
def Dev.hasPos (d : Dev) (f : Fld) (p : Nat) : Bool := d.bitAt f (p - 1)

/-! ## Frames (R433 to R437) -/

/-- The frame on a line: trigger code and ADDR. -/
def Dev.frameOf (d : Dev) (l : Nat) : Option (Nat × Nat) :=
  match (d.bline l).act with
  | .frontier | .found => some (5, 63)
  | .assign p => some (2, p)
  | .checkPrev p | .checkLast p => some (4, p - 1)
  | .pass p => some (3, p)
  | .back q => some (4, q)
  | .convert => some (d.get (BDL_SCODE_CONVCODE l), 0)
  | .reads ((p, second) :: _) => some (if second then d.get (BDL_SCODE_R2CODE l) else d.get (BDL_SCODE_READCODE l), p)
  | .host => d.bdl.xfer.map (fun x => (x.code, x.addr))
  | _ => none

/-- Send the frame of the present step. -/
def Dev.bdlSend (d : Dev) (l : Nat) : Dev :=
  match d.frameOf l with
  | some (c, a) => d.emit (.beadline l c a 0)
  | none => d

/-- A number from bits, least significant first. -/
def bitsNum : List Bool → Nat
  | [] => 0
  | b :: bs => (if b then 1 else 0) + 2 * bitsNum bs

/-- `n` bits of a number, least significant first. -/
def numBits (n v : Nat) : List Bool := (List.range n).map (fun i => decide (v / 2 ^ i % 2 = 1))

/-- The CRC of Beadline over bits in the order sent (R435). -/
def bdlCrc (bs : List Bool) : BitVec 8 :=
  bs.foldl (fun c b => if c.msb ≠ b then (c <<< 1) ^^^ 0x2F#8 else c <<< 1) 0xFF#8

/-- A code whose reply is that of READ (Table 16-2). -/
def readLike (c : Nat) : Bool := decide (c = 0 ∨ (7 ≤ c ∧ c ≤ 14))

/-- Whether a frame has a reply, and the bits of its fields before the CRC; none where the start bit is all. -/
def replyOf (c a : Nat) : Bool × Option Nat :=
  if readLike c then (true, some 20)
  else if c = 1 then (decide (a ≠ 0), none)
  else if c = 2 then (true, some 14)
  else if c = 3 ∨ c = 4 then (true, some 8)
  else if c = 5 then (true, none)
  else (false, none)

/-- How a frame ended: 0 passed, 1 no reply, 2 coding, CRC or a field that fails it (R437). -/
def judge (c a : Nat) (r : BdlReply) : Nat :=
  let (reply, fields) := replyOf c a
  if !reply then 0
  else if !r.start then 1
  else match fields with
    | none => if r.coding then 2 else 0
    | some n =>
      let body := r.bits.take n
      let crc := bdlCrc (numBits 4 c ++ numBits 6 a ++ body)
      if r.coding ∨ r.bits.length ≠ n + 8 ∨ bitsNum (r.bits.drop n).reverse ≠ crc.toNat then 2
      else if (c = 2 ∨ c = 4) ∧ bitsNum (body.take 6) ≠ a then 2
      else if c = 3 ∧ bitsNum (body.drop 6) % 2 = 0 then 2
      else 0

/-! ## Search (R438, R439) -/

/-- A search of a line starts: its restart. -/
def Dev.searchStart (d : Dev) (l : Nat) : Dev :=
  let d := ((d.put (BDL_LSTAT_RCHG l) 0).put (BDL_LSTAT_FULL l) 0).put (BDL_LSTAT_NEWPRB l) 0
  let d := (d.put (BDL_LSTAT_SRCH l) 1).setBline l { d.bline l with act := .restart, again := false, wanted := false }
  d.emit (.beadlineReset l)

/-- A search ends with positions 1 to n in the roster. -/
def Dev.searchEnd (d : Dev) (l n : Nat) (changed full : Bool) : Dev :=
  let d := ((d.put (BDL_LSTAT_VALID l) 1).put (BDL_LSTAT_SRCH l) 0).putB (BDL_LSTAT_RCHG l) changed
  let d := ((d.putB (BDL_LSTAT_FULL l) full).put (BDL_ROSTER l) (2 ^ n - 1)).put (BDL_LSTAT_NPROBE l) n
  let d := (d.put (BDL_FAILED l) 0).put (if l = 0 then BDL_IDV0 else BDL_IDV1) 0
  let d := d.each (rangeL 1 32) (fun d p => (d.put (BDL_RES_VALID (posIx l p)) 0).put (BDL_RES2_VALID (posIx l p)) 0)
  let d := d.setBline l { d.bline l with act := .idle, again := false, ids := [] }
  let d := d.raise 0xA001 0 [l, n, if changed then 1 else 0, if full then 1 else 0]
  if changed then d.raise 0xA002 0 [l] else d

/-- A step of a line that sends a frame. -/
def Dev.bdlStep (d : Dev) (l : Nat) (a : BdlAct) : Dev := (d.bdlTo l a).bdlSend l

/-- Back off toward the head: CHECK q, or an empty roster (R438). -/
def Dev.backOff (d : Dev) (l q : Nat) : Dev := if q = 0 then d.searchEnd l 0 true false else d.bdlStep l (.back q)

/-! ## The schedule (R440, R443, R444) -/

/-- The first-channel and second-channel reads of a frame, ascending (R440). -/
def Dev.schedReads (d : Dev) (l : Nat) : List (Nat × Bool) :=
  let pick (m : Fld) (s : Bool) : List (Nat × Bool) :=
    ((rangeL 1 32).filter (fun p => d.hasPos m p && d.hasPos (BDL_ROSTER l) p)).map (fun p => (p, s))
  pick (BDL_RMASK l) false ++ pick (BDL_R2MASK l) true

/-- The identity message of a position is complete (R436). -/
def Dev.idDone (d : Dev) (l p : Nat) (bs : List Bool) : Dev :=
  let v := bitsNum bs
  if (crc16 (leBytes 8 v)).toNat = v / 2 ^ 64 then
    let i := posIx l p
    let d := d.setWord (BDL_IDL_TYPE i).addr (BitVec.ofNat 32 v)
    let d := d.setWord (BDL_IDH_SERIAL i).addr (BitVec.ofNat 32 (v / 2 ^ 32))
    let f := if l = 0 then BDL_IDV0 else BDL_IDV1
    d.put f (setNat (d.get f) (p - 1) (p - 1) 1)
  else d

/-- One bit of an identity message, from the status of a read that passed (R436). -/
def Dev.idBit (d : Dev) (l p st : Nat) : Dev :=
  let x := d.bline l
  let sb := decide (st / 4 % 2 = 1)
  let rest := x.ids.filter (fun i => i.1 ≠ p)
  let had := ((x.ids.find? (fun i => i.1 = p)).map (·.2))
  let now : Option (List Bool) := if st / 8 % 2 = 1 then some [sb] else had.map (· ++ [sb])
  match now with
  | none => d
  | some bs =>
    if bs.length = 80 then (d.setBline l { x with ids := rest }).idDone l p bs
    else d.setBline l { x with ids := (p, bs) :: rest }

/-- A read error discards the bits gathered (R436). -/
def Dev.idDrop (d : Dev) (l p : Nat) : Dev :=
  d.setBline l { d.bline l with ids := (d.bline l).ids.filter (fun i => i.1 ≠ p) }

/-- A scheduled read ends (R443). -/
def Dev.readEnd (d : Dev) (l p : Nat) (second ok : Bool) (r : BdlReply) : Dev :=
  let i := posIx l p
  let addr := if second then (BDL_RES2_DATA i).addr else (BDL_RES_DATA i).addr
  let w := d.word addr
  let x := d.bline l
  let d := d.setBline l { x with done := (p, ok) :: x.done }
  if ok then
    let data := bitsNum (r.bits.take 16)
    let st := bitsNum ((r.bits.drop 16).take 4)
    let d := d.setWord addr (BitVec.ofNat 32 (2 ^ 31 + st % 2 * 2 ^ 29 + st / 2 % 2 * 2 ^ 28 + data))
    let d := if st % 2 = 1 ∧ bitsOf w 29 29 = 0 then d.raise 0xA009 0 [l, p, data] else d
    let d := if second then d else d.idBit l p st
    if d.hasPos (BDL_FAILED l) p then
      (d.put (BDL_FAILED l) (setNat (d.get (BDL_FAILED l)) (p - 1) (p - 1) 0)).raise 0xA00A 0 [l, p]
    else d
  else
    let errc := min 15 (bitsOf w 27 24 + 1)
    let d := d.setWord addr (setBits (setBits w 30 30 1) 27 24 errc)
    let d := if second then d else d.idDrop l p
    if max 1 (d.get BDL_CFG_ERRLIM) ≤ errc ∧ !d.hasPos (BDL_FAILED l) p then
      (d.put (BDL_FAILED l) (setNat (d.get (BDL_FAILED l)) (p - 1) (p - 1) 1)).raise 0xA003 0 [l, p]
    else d

/-- The line has broken behind a position that passed: every roster position after it failed in this frame (R443). -/
def Dev.breakAfter (d : Dev) (l : Nat) : Option Nat :=
  let done := (d.bline l).done
  let n := d.get (BDL_LSTAT_NPROBE l)
  let passed (p : Nat) : Bool := done.any (fun x => x.1 = p && x.2)
  let failed (p : Nat) : Bool := done.any (fun x => x.1 = p) && !passed p
  (rangeL 1 (n - 1)).find? (fun p => passed p && (rangeL (p + 1) n).all failed)

/-- A probe without a position answers (R444). -/
def Dev.probeFound (d : Dev) (l : Nat) : Dev :=
  if d.bit (BDL_LSTAT_NEWPRB l) then d else (d.put (BDL_LSTAT_NEWPRB l) 1).raise 0xA005 0 [l]

/-! ## Who takes the line next (R441) -/

/-- A host transaction starts on its line. -/
def Dev.xferStart (d : Dev) (l : Nat) : Dev := d.bdlStep l .host

/-- The line is free: a transaction that waits for it starts, then a search that waits. -/
def Dev.bdlFree (d : Dev) (l : Nat) : Dev :=
  let d := d.bdlTo l .idle
  if !d.bdlUp l then d
  else match d.bdl.xfer with
    | some x => if x.line = l then d.xferStart l else if (d.bline l).wanted then d.searchStart l else d
    | none => if (d.bline l).wanted then d.searchStart l else d

/-- A schedule frame is complete. -/
def Dev.schedEnd (d : Dev) (l : Nat) : Dev := (d.countMod (BDL_LSTAT_FCNT l) 1).bdlFree l

/-- The reads of a frame are done: the break is judged, and FRONTIER follows with FCHK = 1. -/
def Dev.readsEnd (d : Dev) (l : Nat) : Dev :=
  let d := match d.breakAfter l with
    | some p => d.raise 0xA004 0 [l, p]
    | none => d
  if d.bit (BDL_SCH_FCHK l) then d.bdlStep l .found else d.schedEnd l

/-- The next read of a frame. -/
def Dev.nextRead (d : Dev) (l : Nat) (todo : List (Nat × Bool)) : Dev :=
  match todo with
  | [] => d.readsEnd l
  | _ => d.bdlStep l (.reads todo)

/-- A host transaction has ended with an ERR code. -/
def Dev.xferEnd (d : Dev) (l err : Nat) : Dev :=
  let d := { d with bdl := { d.bdl with xfer := none } }
  ((d.put BDL_XRES_DONE 1).put BDL_XRES_ERR err).bdlFree l

/-- The fields of a transaction's reply (BDL_XRES). -/
def Dev.xferData (d : Dev) (l : Nat) (x : BdlXfer) (r : BdlReply) : Dev :=
  if readLike x.code then
    let st := bitsNum ((r.bits.drop 16).take 4)
    let d := (d.put BDL_XRES_DATA (bitsNum (r.bits.take 16))).put BDL_XRES_ST st
    if x.code = 0 ∧ 1 ≤ x.addr ∧ x.addr ≤ 32 then d.idBit l x.addr st else d
  else if x.code = 4 then d.put BDL_XRES_DATA (bitsNum (r.bits.take 8))
  else if x.code = 5 then (d.put BDL_XRES_DATA 1).probeFound l
  else d

/-! ## The commands -/

/-- BDL_FRAME_END: the frame on the line is judged and the sequence goes on (R437, R438, R440, R443). -/
def bdlFrameEndDev (l : Nat) (r : BdlReply) (d : Dev) : Dev :=
  match d.frameOf l with
  | none => d
  | some (c, a) =>
    let x := d.bline l
    let err := judge c a r
    let ok := decide (err = 0)
    if !ok ∧ !x.again ∧ x.act ≠ .host then (d.setBline l { x with again := true }).bdlSend l
    else match x.act with
      | .frontier => if ok then d.bdlStep l (.assign 1) else (d.searchEnd l 0 false false).bdlFree l
      | .assign p =>
        if ok then (if p = 1 then d.bdlStep l (.pass 1) else d.bdlStep l (.checkPrev p))
        else if p = 1 then (d.searchEnd l 0 false false).bdlFree l
        else d.bdlStep l (.checkLast p)
      | .checkLast p => if ok then (d.searchEnd l (p - 1) false false).bdlFree l else d.backOff l (p - 2)
      | .checkPrev p => if ok then d.bdlStep l (.pass p) else d.backOff l (p - 2)
      | .pass p => if ok then d.bdlTo l (.powerUp p) else d.backOff l p
      | .back q => if ok then (d.searchEnd l q true false).bdlFree l else d.backOff l (q - 1)
      | .convert =>
        let d := (d.put (BDL_FSEQ l) d.wseqNow).bdlTo l .pull
        d.emit (.beadline l 16 0 (d.get (BDL_SCODE_TCONV l)))
      | .reads ((p, s) :: rest) => (d.readEnd l p s ok r).nextRead l rest
      | .found => (if ok then d.probeFound l else d).schedEnd l
      | .host =>
        match d.bdl.xfer with
        | none => d
        | some t =>
          let d := if ok then d.xferData l t r
            else if t.code = 5 then d.put BDL_XRES_DATA 0
            else if t.code = 0 then d.idDrop l t.addr else d
          if t.code = 1 ∧ ok ∧ t.spu ≠ 0 then (d.bdlTo l .hostPull).emit (.beadline l 16 0 t.spu)
          else d.xferEnd l err
      | _ => d

/-- BDL_WAIT_END: a restart, a probe's power-up or a strong pull-up has run its time (R438, R442). -/
def bdlWaitEndDev (l : Nat) (d : Dev) : Dev :=
  match (d.bline l).act with
  | .restart => d.bdlStep l .frontier
  | .powerUp p => if p = 32 then (d.searchEnd l 32 false true).bdlFree l else d.bdlStep l (.assign (p + 1))
  | .pull => d.nextRead l (d.schedReads l)
  | .hostPull => d.xferEnd l 0
  | _ => d

/-- A search of one line is asked for (R441). -/
def Dev.searchAsk (d : Dev) (l : Nat) : Dev :=
  if !d.bdlUp l ∨ d.bit (BDL_LSTAT_SRCH l) then d
  else if (d.bline l).act = .idle then d.searchStart l
  else d.setBline l { d.bline l with wanted := true }

/-- BDL_SEARCH: a write of BDL_CTRL.SRCH, one bit a line. -/
def bdlSearchDev (lines : BitVec 2) (d : Dev) : Dev :=
  let d := if lines.getLsbD 0 then d.searchAsk 0 else d
  if lines.getLsbD 1 then d.searchAsk 1 else d

/-- AUTO_SEARCH (R430). -/
def autoSearchDev (l : Nat) (d : Dev) : Dev :=
  if l < 2 ∧ d.bitAt BDL_CFG_AUTOS l ∧ !d.bit (BDL_LSTAT_VALID l) then d.searchAsk l else d

/-- The schedule of a line runs. -/
def Dev.schedRuns (d : Dev) (l : Nat) : Bool := l < 2 && d.bdlUp l && d.bit (BDL_LSTAT_VALID l)

/-- A frame start that finds the line busy is skipped (R441). -/
def Dev.schedSkip (d : Dev) (l : Nat) : Dev :=
  let d := d.countSat (BDL_LSTAT_OVRUN l) 1
  if (d.bline l).overSaid then d else (d.setBline l { d.bline l with overSaid := true }).raise 0xA008 0 [l]

/-- A schedule frame of a free line starts, after its group was evaluated (R440). -/
def Dev.schedStart (d : Dev) (l : Nat) : Dev :=
  if d.bit (BDL_SCH_EN l) then (d.setBline l { d.bline l with done := [] }).bdlStep l .convert else d

/-- BDL_XCTL_GO: the fields of the word are written, and a transaction starts, waits or is refused (R441). -/
def bdlXctlGoDev (v : Word) (d : Dev) : Dev :=
  let d := d.setWord BDL_XCTL_CODE.addr (v &&& 0x011F3FFF#32)
  if bitsOf v 31 31 = 0 then d
  else
    let x : BdlXfer := ⟨bitsOf v 24 24, bitsOf v 20 16, bitsOf v 13 8, bitsOf v 7 0⟩
    let l := x.line
    if d.bit (BDL_LSTAT_SRCH l) ∨ d.bdl.xfer.isSome ∨ x.code = 2 ∨ x.code = 3 ∨ x.code = 6 ∨ 15 < x.code then
      d.put BDL_XRES_REFUSED 1
    else
      let d := d.put BDL_XRES_REFUSED 0
      if !d.bdlUp l then (d.put BDL_XRES_DONE 1).put BDL_XRES_ERR (if d.bit (BDL_LSTAT_SHORT l) then 3 else 1)
      else
        let d := { d with bdl := { d.bdl with xfer := some x } }
        if (d.bline l).act = .idle then d.xferStart l else d

/-- BDL_SPU_FAULT: the strong pull-up is cut off (R442). -/
def bdlSpuFaultDev (l : Nat) (d : Dev) : Dev :=
  match (d.bline l).act with
  | .pull => ((d.put (BDL_LSTAT_SPUERR l) 1).raise 0xA007 0 [l]).bdlFree l
  | .hostPull => ((d.put (BDL_LSTAT_SPUERR l) 1).raise 0xA007 0 [l]).xferEnd l 3
  | _ => d

/-- What runs on a line is given up; a search that is broken off leaves no valid roster. -/
def Dev.bdlDrop (d : Dev) (l err : Nat) : Dev :=
  let d := if d.bit (BDL_LSTAT_SRCH l) then (d.put (BDL_LSTAT_SRCH l) 0).put (BDL_LSTAT_VALID l) 0 else d
  let d := d.setBline l { d.bline l with act := .idle, again := false, wanted := false }
  match d.bdl.xfer with
  | some x => if x.line = l then
      ((({ d with bdl := { d.bdl with xfer := none } }).put BDL_XRES_DONE 1).put BDL_XRES_ERR err) else d
  | none => d

/-- BDL_SHORT (R445). -/
def bdlShortDev (l : Nat) (d : Dev) : Dev :=
  if l < 2 ∧ d.bdlUp l then ((d.put (BDL_LSTAT_SHORT l) 1).bdlDrop l 3).raise 0xA006 0 [l] else d

/-- BDL_LINE_ENABLE: a write of a bit of BDL_CFG.LEN; a line that is enabled anew starts without a roster (R445). -/
def bdlLineEnableDev (l : Nat) (en : Bool) (d : Dev) : Dev :=
  if 2 ≤ l then d
  else
    let was := d.bitAt BDL_CFG_LEN l
    let d := d.put BDL_CFG_LEN (setNat (d.get BDL_CFG_LEN) l l (if en then 1 else 0))
    if was ∧ !en then d.bdlDrop l 1
    else if !was ∧ en then (d.put (BDL_LSTAT_SHORT l) 0).put (BDL_LSTAT_VALID l) 0
    else d

/-- Frames stop with the services of MONITOR (R430). -/
def Dev.bdlStop (d : Dev) : Dev := (d.bdlDrop 0 1).bdlDrop 1 1

/-- A rise from DOZE or below: every probe has lost its position (R430). -/
def Dev.bdlRise (d : Dev) : Dev := (d.put (BDL_LSTAT_VALID 0) 0).put (BDL_LSTAT_VALID 1) 0

end Sys2Proof.Machine
end

