-- ==== Sys2Proof/Machine/Capture.lean ====
section
/-!
DEFINITION. The window block at its three consumers, capture triggers, snapshots and the Burl recorder (04, 19: R100,
R115 to R117, R341, R478 to R490).
-/

namespace Sys2Proof.Machine

/-! ## Capacity (R478, R491, R494) -/

/-- Bank b of the SRAM is retired, softly or by fuse. -/
def Dev.bankRetired (d : Dev) (b : Nat) : Bool := d.bitAt BST_MAP_FUSERET b || d.bitAt BST_MAP_SOFTRET b

/-- How many banks are retired. -/
def Dev.retiredCount (d : Dev) : Nat := ((List.range 6).filter d.bankRetired).length

/-- A bank is under test and its spare is in use (R491). -/
def Dev.bankTesting (d : Dev) : Bool := d.bst.bg.isSome || !d.bst.host.isEmpty

/-- The FULL block of the device, in bytes (Table 19-1). -/
def Dev.fullBytes (d : Dev) : Nat := blockBytes d.cells false

/-- NCAP in force (Table 19-1): four capture banks of 1 MiB less those retired or given up to a test. -/
def Dev.ncap (d : Dev) : Nat := (4 - d.retiredCount - (if d.bankTesting then 1 else 0)) * 2 ^ 20 / d.fullBytes

/-- The capture registers that follow the buffer: the oldest WSEQ and the number of blocks held. -/
def Dev.showCap (d : Dev) : Dev :=
  (d.put FW_CAPOLD ((d.cap.blocks.head?.map (·.wseq)).getD 0)).put FW_CAPCNT_HELD d.cap.blocks.length

/-- The buffer holds the most recent blocks up to its capacity; a fall of the capacity gives up the oldest. -/
def Dev.fitCap (d : Dev) : Dev :=
  let n := d.ncap
  let extra := d.cap.blocks.length - n
  let gone := (d.cap.blocks.take extra).map (·.wseq)
  let all := ncapFour d.build d.role
  let gave := (d.cap.gave ++ gone).drop ((d.cap.gave ++ gone).length - all)
  (({ d with cap := { d.cap with blocks := d.cap.blocks.drop extra, gave := gave } }).put FW_CAPST_NCAP n).showCap

/-- A block is stored; the oldest makes room (R478). -/
def Dev.capStore (d : Dev) (b : CapBlock) : Dev :=
  let bs := d.cap.blocks ++ [b]
  ({ d with cap := { d.cap with blocks := bs.drop (bs.length - d.ncap) } }).showCap

/-! ## Burl slots (R483 to R485) -/

def Dev.burlSlot (d : Dev) (i : Nat) : Slot := (d.burl.slots[i]?).getD ⟨0, false, [], []⟩

/-- RCD_PROT.PROT and RCD_STAT.FREE follow the directory. -/
def Dev.showSlots (d : Dev) : Dev :=
  let m := (List.range 12).foldl (fun m i => if (d.burlSlot i).prot then m + 2 ^ i else m) 0
  (d.put RCD_PROT_PROT m).put RCD_STAT_FREE ((List.range 12).filter (fun i => !(d.burlSlot i).prot)).length

def Dev.setSlot (d : Dev) (i : Nat) (f : Slot → Slot) : Dev :=
  ({ d with burl := { d.burl with slots := d.burl.slots.set i (f (d.burlSlot i)) } }).showSlots

/-- The slot a snapshot goes to (R485): the first from RCD_STAT.NEXT on, wrapping, that is not protected. -/
def Dev.freeSlot (d : Dev) : Option Nat :=
  ((List.range 12).map (fun k => (d.get RCD_STAT_NEXT + k) % 12)).find? (fun i => !(d.burlSlot i).prot)

/-- New bytes over what a slot held (R485). -/
def overlay (new old : List Byte) : List Byte := new ++ old.drop new.length

/-- The bytes of the blocks held, oldest first, each at its FULL size (R484). -/
def Dev.capBytes (d : Dev) : List Byte := d.cap.blocks.flatMap (·.bytes)

/-- Blocks held that were stored up to and including the trigger window. -/
def Dev.snapPre (d : Dev) (s : Snap) : Nat := d.cap.blocks.length - s.npost

/-- Windows of the snapshot's span whose blocks are not held (Table 19-3): holes between the first and the last block
stored, and blocks given up to a bank test or a retirement (R491). -/
def Dev.snapGaps (d : Dev) (s : Snap) : Nat :=
  let holes := match d.cap.blocks.head?, d.cap.blocks.getLast? with
    | some a, some b => (b.wseq + 2 ^ 32 - a.wseq) % 2 ^ 32 + 1 - d.cap.blocks.length
    | _, _ => 0
  let given := (d.cap.gave.filter (fun w => decide ((s.wseq + 2 ^ 32 - w) % 2 ^ 32 < s.pre))).eraseDups.length
  holes + given

/-- A directory entry from offset 0x02 on (Table 19-3); LEN, CRC and GAPS stay zero until the copy is complete. -/
def Dev.dirEntry (d : Dev) (s : Snap) (sno len crc gaps : Nat) : List Byte :=
  leBytes 2 s.srcs ++ leBytes 4 sno ++ leBytes 4 s.twseq ++ leBytes 1 s.pos ++ leBytes 1 (d.fullBytes / 64) ++ leBytes 2 0
    ++ leBytes 4 ((d.cap.blocks.head?.map (·.wseq)).getD 0) ++ leBytes 2 (d.snapPre s) ++ leBytes 2 s.npost
    ++ leBytes 8 (tbTime s.tick) ++ leBytes 4 len ++ leBytes 4 crc ++ leBytes 4 gaps ++ List.replicate 20 0

/-! ## Freeze and thaw (R479 to R482) -/

/-- The buffer is kept frozen until THAW (R482). -/
def Dev.capHold (d : Dev) (s : Snap) : Dev := (d.put FW_CAPST_HELD 1).raise 0xC005 0 [s.twseq]

/-- The last block of a snapshot is stored (R479): the buffer freezes, and its copy starts where a slot is free (R482). -/
def Dev.capFreeze (d : Dev) (s : Snap) : Dev :=
  let d := (d.put FW_CAPST_FROZEN 1).put FW_CAPST_POSTING 0
  let d := { d with cap := { d.cap with snap := some s } }
  match (if d.build = .F then d.freeSlot else none) with
  | none => d.capHold s
  | some i =>
    let s := { s with slot := some i }
    let e := d.dirEntry s (d.get RCD_SNO) 0 0 0
    let d := { d with cap := { d.cap with snap := some s } }
    let d := d.setSlot i (fun o => { o with state := 1, prot := decide (s.srcs / 8 % 2 = 1), entry := e })
    (d.put RCD_STAT_BUSY 1).countMod RCD_SNO 1

/-- The buffer takes new blocks again. -/
def Dev.capThaw (d : Dev) : Dev :=
  ({ d with cap := { d.cap with snap := none } }.put FW_CAPST_FROZEN 0).put FW_CAPST_HELD 0

/-- SNAPSHOT_COPY_DONE (R484, R485): the blocks are in the slot, the directory entry is complete, and the buffer thaws. -/
def snapshotCopyDoneDev (d : Dev) : Dev :=
  match d.cap.snap with
  | some s => match s.slot with
    | some i =>
      if d.bit FW_CAPST_FROZEN then
        let bs := d.capBytes
        let sno := leNat (bytesAt (d.burlSlot i).entry 2 4)
        let e := d.dirEntry s sno bs.length (crc32c bs).toNat (d.snapGaps s)
        let d := d.setSlot i (fun o => { o with state := 2, entry := e, data := overlay bs o.data })
        let d := (d.put RCD_STAT_NEXT ((i + 1) % 12)).put RCD_STAT_BUSY 0
        (d.raise 0xC001 0 [i, sno, s.twseq, s.srcs]).capThaw
      else d
    | none => d
  | none => d

/-- CAPTURE_THAW: a write of FW_CAPCTL.THAW (R482). -/
def captureThawDev (d : Dev) : Dev := if d.bit FW_CAPST_HELD then d.capThaw else d

/-- The copy of a snapshot breaks off: part of its bytes are in the slot, which ends incomplete (R484, R487). -/
def Dev.copyBroken (d : Dev) (s : Snap) (i : Nat) (state : Nat) : Dev :=
  let (n, d) := d.draw
  let bs := d.capBytes
  let put := bs.take (Config.burlWritten n)
  let d := { d with cap := { d.cap with snap := some { s with slot := none } } }
  (d.setSlot i (fun o => { o with state := state, data := overlay put o.data })).put RCD_STAT_BUSY 0

/-- BURL_ERROR (R487, R482): the event with the address; a slot whose write fails ends incomplete, and the buffer is held. -/
def burlErrorDev (addr : Nat) (writing : Bool) (d : Dev) : Dev :=
  if d.build ≠ .F ∨ !d.lathe then d
  else
    let d := (d.put RCD_STAT_ERR 1).raise 0xC004 0 [addr]
    match d.cap.snap with
    | some s => match s.slot with
      | some i => if writing then ((d.copyBroken s i 3).put RCD_STAT_NEXT ((i + 1) % 12)).capHold s else d
      | none => d
    | none => d

/-! ## Triggers (R115 to R117) -/

/-- CAPTURE_FORCE: a write of CVW_CAPT.FORCE. -/
def captureForceDev (d : Dev) : Dev := { d with win := { d.win with capSrc := d.win.capSrc ||| 32 } }

/-- A capture frame is the CHAIN source at the first boundary after it (R117). -/
def Dev.applyCapture (d : Dev) (wseq : Nat) : Dev :=
  if d.bit (CVW_CAPT_CHAIN .L) then
    { d with win := { d.win with capSrc := d.win.capSrc ||| 16, capOrigin := wseq } }
  else d

/-- The sources CELLHI, CELLLO and IHI of a window that has closed, where enabled; INV results fire none (R115). -/
def Dev.limitSources (d : Dev) (c : Closed) : Nat :=
  let ok (n : Nat) : Bool := decide ((c.flg[n - 1]?).getD 1 % 2 = 0)
  let res (n : Nat) : Int := (c.res[n - 1]?).getD 0
  let cells := (rangeL 1 d.cells).filter ok
  flagBit (d.bit (CVW_CAPT_CELLHI .L) && cells.any (fun n => decide (d.getS (CVW_CTHI_THI .L) < res n))) 0
    + flagBit (d.bit (CVW_CAPT_CELLLO .L) && cells.any (fun n => decide (res n < d.getS (CVW_CTLO_TLO .L)))) 1
    + flagBit (d.bit (CVW_CAPT_IHI .L) && ok 37 && decide (d.getS (CVW_CITH_ITH .L) < ((res 37).natAbs : Int))) 2

/-- The blocks that a snapshot keeps of those held (R479). -/
def keepBlocks (held pre post ncap : Nat) : Nat :=
  if ncap < pre + post then min (min held pre) (ncap - post) else min held pre

/-- A trigger fires in the window of a block that is stored (R479): the snapshot forms. -/
def Dev.formSnap (d : Dev) (srcs twseq : Nat) (c : Closed) : Dev :=
  let pre := d.get FW_CAPCFG_PRE
  let post := d.get FW_CAPCFG_POST
  let n := d.cap.blocks.length
  let keep := keepBlocks n pre post d.ncap
  let d := ({ d with cap := { d.cap with blocks := d.cap.blocks.drop (n - keep) } }).showCap
  let s : Snap := ⟨srcs, twseq, c.tick, c.wseq, pre, d.pos, 0, post, none⟩
  if post = 0 then d.capFreeze s
  else ({ d with cap := { d.cap with snap := some s } }).put FW_CAPST_POSTING 1

/-- A trigger of a window is reported and acts (R116, R117, R481). -/
def Dev.fireTrigger (d : Dev) (c : Closed) : Dev :=
  if c.srcs = 0 then d
  else
    let own := decide (c.srcs ≠ 16)
    let twseq := if own then c.wseq else c.origin
    let d := d.raise 0x1002 0 [c.srcs, twseq]
    let d := if own ∧ d.bit (CVW_CAPT_PROP .L) then
        match d.role with
        | .head => d.sendCompact [.north, .south] kCapture 0 c.wseq
        | .member => if d.talks then d.sendCompact [.north, .south] kCapreq d.pos c.wseq else d
      else d
    if d.bit FW_CAPST_FROZEN then (d.countSat FW_CAPCNT_LOST 1).raise 0xC002 0 []
    else d.formSnap c.srcs twseq c

/-- A block goes to the capture buffer (R478 to R480): not while frozen; the last post-trigger block freezes it. -/
def Dev.capTake (d : Dev) (b : CapBlock) : Dev :=
  if d.bit FW_CAPST_FROZEN then d
  else
    let d := d.capStore b
    match d.cap.snap with
    | some s =>
      if d.bit FW_CAPST_POSTING then
        let s := { s with npost := s.npost + 1, left := s.left - 1 }
        if s.left = 0 then d.capFreeze s else { d with cap := { d.cap with snap := some s } }
      else d
    | none => d

/-! ## The frame engine (R20, R102, R341) -/

/-- Bytes of own TC3 frames that wait in a port. -/
def Dev.ownStream (d : Dev) (p : Port) : Nat :=
  ((d.port p).txq.filter (fun i => i.tc = 3 && i.src = none)).foldl (fun n i => n + i.body.size) 0

/-- A window block leaves as one frame or as fragments with their index in TAG (R326, R341). -/
def Dev.sendFragments (max : Nat) : Nat → Nat → Dev → List Byte → Dev
  | 0, _, d, _ => d
  | n + 1, i, d, bs =>
    let more := decide (max < bs.length)
    let d := d.sendToHead 0xF5 3 i more (bs.take max)
    if more then Dev.sendFragments max n (i + 1) d (bs.drop max) else d

/-- A bound device in STREAM or SPECTRO hands its block to the frame engine (R20, R417); a queue of more than 64 KiB drops
it (R341). -/
def Dev.streamOut (d : Dev) (c : Closed) : Dev :=
  if d.talks ∧ 5 ≤ d.level ∧ d.pw.streamBound then
    if 65536 < d.ownStream d.headPort then
      ({ d with spn := { d.spn with full3 := true } }).countSat SPN_DISC_TXDROP 1
    else
      let lean := decide (d.get (CVW_OUT_FMT .L) = 1 ∧ c.wseq % 2 ^ d.get (CVW_OUT_ANCH .L) ≠ 0)
      Dev.sendFragments d.maxPayload 8 0 d (d.blockOf c lean)
  else d

/-- BLOCK_FORMATION (R100, R20, R116): the block of the last closed window is formed with its late flags, and goes to the
capture buffer, the trigger process and the frame engine. The summary took its results at the
boundary. A trigger while post-trigger blocks are taken sets CAPT only. -/
def blockFormationDev (d : Dev) : Dev :=
  match d.win.closed with
  | none => d
  | some c =>
    if !d.monitoring then d
    else
      let flags := c.bflags + flagBit (c.eral ≠ d.win.prevEraL) 2 + flagBit (c.erau ≠ d.win.prevEraU) 3
        + flagBit d.win.miss 4 + flagBit (c.srcs ≠ 0) 10
      let c := { c with bflags := flags }
      let d := { d with win := { d.win with closed := none, miss := false, prevEraL := c.eral, prevEraU := c.erau } }
      let posting := d.bit FW_CAPST_POSTING
      let d := d.capTake ⟨c.wseq, c.tick, d.blockOf c false⟩
      let d := if posting then d else d.fireTrigger c
      d.streamOut c

/-! ## Recorder commands (R485, R489) -/

/-- The Burl die is fitted and Lathe runs. -/
def Dev.hasBurl (d : Dev) : Bool := decide (d.build = .F) && d.lathe

/-- RCD_PROT: protect slots. -/
def rcdProtDev (mask : BitVec 12) (d : Dev) : Dev :=
  if d.hasBurl then
    d.each ((List.range 12).filter (fun i => mask.getLsbD i)) (fun d i => d.setSlot i (fun o => { o with prot := true }))
  else d

/-- RCD_UNPROT: clear the protection of slots; the access that carries it is locked in DEPLOYED. -/
def rcdUnprotDev (mask : BitVec 12) (d : Dev) : Dev :=
  if d.hasBurl then
    d.each ((List.range 12).filter (fun i => mask.getLsbD i)) (fun d i => d.setSlot i (fun o => { o with prot := false }))
  else d

/-- RCD_ERASE_SLOT: a slot that is not protected becomes empty. -/
def rcdEraseSlotDev (mask : BitVec 12) (d : Dev) : Dev :=
  if d.hasBurl then
    d.each ((List.range 12).filter (fun i => mask.getLsbD i && !(d.burlSlot i).prot))
      (fun d i => d.setSlot i (fun o => { o with state := 0 }))
  else d

/-- RCD_ERASE_HIST: the history log is erased. -/
def rcdEraseHistDev (d : Dev) : Dev := if d.hasBurl then { d with burl := { d.burl with hist := [] } } else d

/-! ## Memory spaces (R488, Tables 19-2 and 19-5) -/

/-- Byte of the history log at an offset from its start. -/
def histByte (h : List HistRec) (o : Nat) : Byte :=
  match h.find? (fun r => decide (64 * r.unit ≤ o ∧ o < 64 * r.unit + r.bytes.length)) with
  | some r => (r.bytes[o - 64 * r.unit]?).getD 0
  | none => 0

/-- Byte of a directory entry. -/
def slotByte (s : Slot) (b : Nat) : Byte :=
  if b = 0 then BitVec.ofNat 8 s.state else if b = 1 then (if s.prot then 1 else 0) else (s.entry[b - 2]?).getD 0

/-- Byte of the Burl die (Table 19-2). -/
def Dev.burlByte (d : Dev) (o : Nat) : Byte :=
  if d.build ≠ .F then 0
  else if 0x1000 ≤ o ∧ o < 0x1300 then slotByte (d.burlSlot ((o - 0x1000) / 64)) ((o - 0x1000) % 64)
  else if 0x100000 ≤ o ∧ o < 0x1000000 then histByte d.burl.hist (o - 0x100000)
  else if 0x1000000 ≤ o ∧ o < 0x4000000 then
    ((d.burlSlot ((o - 0x1000000) / 0x400000)).data[(o - 0x1000000) % 0x400000]?).getD 0
  else 0

/-- Byte of the capture buffer: block k is the k-th oldest held. -/
def Dev.capByte (d : Dev) (o : Nat) : Byte :=
  match d.cap.blocks[o / d.fullBytes]? with
  | some b => (b.bytes[o % d.fullBytes]?).getD 0
  | none => 0

/-- Bytes of a memory space from an RDM address (R488): zero past its end and in absent or reserved spaces. -/
def Dev.spaceRead (d : Dev) (addr n : Nat) : List Byte :=
  (List.range n).map (fun i =>
    let o := addr % 2 ^ 28 + i
    if 2 ^ 28 ≤ o then 0
    else match addr / 2 ^ 28 % 16 with
      | 0 => d.capByte o
      | 1 => d.burlByte o
      | _ => 0)

end Sys2Proof.Machine
end

