-- ==== Sys2Proof/Machine/Bist.lean ====
section
/-!
DEFINITION. Self-test of the SRAM banks, soft and fused retirement, and row repair (19: R491 to R496).
-/

namespace Sys2Proof.Machine

/-- The life-cycle state, LCS_STAT.STATE. -/
def Dev.life (d : Dev) : Nat := d.get LCS_STAT_STATE

/-- The codes of LCS_STAT.STATE. -/
def lBlank : Nat := 0
def lProvisioned : Nat := 1
def lDeployed : Nat := 2
def lService : Nat := 3
def lRetired : Nat := 4

/-- Spare rows of a bank that are left (R496). -/
def Dev.sparesLeft (d : Dev) (b : Nat) : Nat := 4 - (d.fz.spares[b]?).getD 0

/-- BST_MAP.FUSERET and BST_RES.SPARES follow the fuses. -/
def Dev.showBankFuses (d : Dev) : Dev :=
  let m := (List.range 6).foldl (fun m b => if (d.fz.banks[b]?).getD 0 = 0 then m else m + 2 ^ b) 0
  (d.put BST_MAP_FUSERET m).each (List.range 6) (fun d b => d.put (BST_RES_SPARES b) (d.sparesLeft b))

/-- A bit of a mask field is set or cleared. -/
def Dev.putBit (d : Dev) (f : Fld) (i : Nat) (v : Bool) : Dev :=
  let m := d.get f
  let m := if m / 2 ^ i % 2 = 1 then m - 2 ^ i else m
  d.put f (if v then m + 2 ^ i else m)

/-- A bank goes out of service for its test (R491): its spare leaves the capture buffer. -/
def Dev.bankStart (d : Dev) (b : Nat) : Dev := ((d.put BST_STAT_STATE 2).put BST_STAT_BANK b).fitCap

/-- A snapshot is posting or frozen. -/
def Dev.snapBusy (d : Dev) : Bool := d.bit FW_CAPST_POSTING || d.bit FW_CAPST_FROZEN

/-- BIST_BACKGROUND (R492): with the services of MONITOR and no snapshot under way, the next bank in turn that is not
retired is tested. -/
def bistBackgroundDev (d : Dev) : Dev :=
  if !d.monitoring ∨ d.snapBusy ∨ d.bankTesting then d
  else match ((List.range 6).map (fun k => (d.bst.next + k) % 6)).find? (fun b => !d.bankRetired b) with
    | none => d
    | some b => ({ d with bst := { d.bst with bg := some b, next := (b + 1) % 6 } }).bankStart b

/-- The host test ends with a RESULT and raises BIST_DONE with BANKS, RESULT and CAUSE. -/
def Dev.bistEnd (d : Dev) (result cause : Nat) : Dev :=
  let d := { d with bst := { d.bst with host := [], bad := false } }
  let d := ((d.put BST_STAT_STATE 0).put BST_STAT_RESULT result).put BST_STAT_CAUSE cause
  d.fitCap.raise 0xC010 0 [d.get BST_CFG_BANKS, result, cause]

/-- A bank fails the background test (R493): soft retirement, unless it would be the third. -/
def Dev.bgFail (d : Dev) (b : Nat) (o : BistObs) : Dev :=
  let d := d.raise 0xC011 0 [b, o.faddr, o.fbit.toNat]
  if d.retiredCount < 2 then
    let d := (d.putBit BST_MAP_SOFTRET b true).fitCap
    d.raise 0xC012 0 [b, 0, d.get FW_CAPST_NCAP]
  else d

/-- BIST_BANK_DONE (R491, R493, R495): the test of a bank and its restore end. -/
def bistBankDoneDev (o : BistObs) (d : Dev) : Dev :=
  if !d.lathe then d
  else match d.bst.bg with
    | some b =>
      let d := ({ d with bst := { d.bst with bg := none } }).put BST_STAT_STATE 0
      let d := if d.bst.next ≤ b then d.countMod BST_BG_CYC 1 else d
      if o.pass then d.fitCap else (d.bgFail b o).fitCap
    | none => match d.bst.host with
      | [] => d
      | b :: rest =>
        let d := (d.put (BST_RES_RES b) (if o.pass then 1 else 2)).put (BST_RES_FROWS b) (min 63 o.frows)
        let d := (d.put (BST_RES_FADDR b) o.faddr).put (BST_FBIT b) o.fbit.toNat
        let d := d.put (BST_FCNT b) (min (2 ^ 32 - 1) o.fcnt)
        let d := if o.pass then d.putBit BST_MAP_SOFTRET b false else d
        let d := { d with bst := { d.bst with
          host := rest, bad := d.bst.bad || !o.pass, rows := d.bst.rows.set b o.frows } }
        match rest with
        | [] => d.bistEnd (if d.bst.bad then 2 else 1) 0
        | n :: _ => d.bankStart n

/-- The refusal CAUSE of a host test (R495), the first that holds; softly retired banks may be tested (R493). -/
def Dev.bistRefusal (d : Dev) (pllLocked vcoreOk : Bool) (banks : List Nat) : Option Nat :=
  if d.cur ≠ .provision then some 1
  else if d.bitAt CLK_FAIL 1 ∨ !pllLocked then some 2
  else if !vcoreOk then some 3
  else if d.snapBusy then some 4
  else if banks.isEmpty ∨ banks.any (d.bitAt BST_MAP_FUSERET) then some 5
  else none

/-- The banks of BST_CFG.BANKS in ascending order. -/
def Dev.cfgBanks (d : Dev) : List Nat := (List.range 6).filter (d.bitAt BST_CFG_BANKS)

/-- BST_GO (R495): a host test starts, or is refused. A write while a host test runs has no effect. -/
def bstGoDev (pllLocked vcoreOk : Bool) (d : Dev) : Dev :=
  if !d.lathe ∨ !d.bst.host.isEmpty then d
  else
    let banks := d.cfgBanks
    match d.bistRefusal pllLocked vcoreOk banks with
    | some c => ((d.put BST_STAT_RESULT 3).put BST_STAT_CAUSE c).raise 0xC010 0 [d.get BST_CFG_BANKS, 3, c]
    | none =>
      let d := { d with bst := { d.bst with bg := none, host := banks, bad := false } }
      ((d.put BST_STAT_RESULT 0).put BST_STAT_CAUSE 0).bankStart (banks.headD 0)

/-- BST_ABORT (R495). -/
def bstAbortDev (d : Dev) : Dev := if d.lathe ∧ !d.bst.host.isEmpty then d.bistEnd 5 0 else d

/-- VCORE_OUT_OF_WINDOW (R495): a host test stops. -/
def vcoreOutOfWindowDev (d : Dev) : Dev := if d.lathe ∧ !d.bst.host.isEmpty then d.bistEnd 4 0 else d

/-- REPAIR and RETIRE are accepted (R496). -/
def Dev.bankFuseOk (d : Dev) : Bool := d.lathe && (d.life = lBlank || d.life = lProvisioned || d.life = lService)

/-- BST_REPAIR (R496): the failing rows of each bank of BANKS are mapped to spare rows by fuse; a bank with more of them
than spare rows left is left alone. -/
def bstRepairDev (d : Dev) : Dev :=
  if !d.bankFuseOk then d
  else
    let banks := d.cfgBanks
    let rows (b : Nat) : Nat := (d.bst.rows[b]?).getD 0
    let short := banks.any (fun b => decide (d.sparesLeft b < rows b))
    let d := d.each (banks.filter (fun b => decide (rows b ≤ d.sparesLeft b))) (fun d b =>
      { d with fz := { d.fz with spares := d.fz.spares.set b ((d.fz.spares[b]?).getD 0 + rows b) }
               bst := { d.bst with rows := d.bst.rows.set b 0 } })
    d.showBankFuses.put BST_STAT_RESULT (if short then 6 else 8)

/-- BST_RETIRE (R496, R494): the banks of BANKS are retired by fuse, unless that made a third retirement. -/
def bstRetireDev (d : Dev) : Dev :=
  if !d.bankFuseOk then d
  else
    let banks := d.cfgBanks
    let all := (List.range 6).filter (fun b => d.bankRetired b || banks.contains b)
    if 2 < all.length then d.put BST_STAT_RESULT 7
    else
      let fresh := banks.filter (fun b => !d.bitAt BST_MAP_FUSERET b)
      let d := d.each banks (fun d b =>
        ({ d with fz := { d.fz with banks := d.fz.banks.set b 1 } }).putBit BST_MAP_SOFTRET b false)
      let d := d.showBankFuses.fitCap
      d.each fresh (fun d b => d.raise 0xC012 0 [b, 1, d.get FW_CAPST_NCAP])

end Sys2Proof.Machine
end

