-- ==== Sys2Proof/Machine/CrcUnit.lean ====
section
/-!
DEFINITION. The CRC unit (18): four contexts, fed by register writes or by taps. CRC_RES is computed when it is read.
-/

namespace Sys2Proof.Machine

/-- Width of a CRC (Table 18-1). -/
def crcWidth (poly : Nat) : Nat := match poly with | 0 => 8 | 1 => 16 | _ => 32

/-- The initial value in register form: all ones in the width of the CRC. -/
def crcInitial (poly : Nat) : Nat := 2 ^ crcWidth poly - 1

/-- One byte into the running value (R469): CRC-8 and CRC-16 most significant bit first, the others reflected. -/
def crcByte (poly : Nat) (v : Word) (b : Byte) : Word :=
  match poly with
  | 0 => ((crcMsbByte 0x2F#8 (v.truncate 8) b).zeroExtend 32)
  | 1 => ((crcMsbByte 0x1021#16 (v.truncate 16) b).zeroExtend 32)
  | 2 => crcLsbByte 0xEDB88320#32 v b
  | _ => crcLsbByte 0x82F63B78#32 v b

/-- A context takes bytes: CRC_VAL moves on and CRC_CNT counts (R472, R477). -/
def Dev.crcFeed (d : Dev) (c : Nat) (bs : List Byte) : Dev :=
  let poly := d.get (CRC_CTX_POLY c)
  let d := d.setWord (CRC_VAL c).addr (bs.foldl (crcByte poly) (d.word (CRC_VAL c).addr))
  d.countMod (CRC_CNT c) bs.length

/-- Bytes that pass a tap reach every enabled context on it (R470). -/
def Dev.crcTap (d : Dev) (tap : Nat) (bs : List Byte) : Dev :=
  d.each (List.range 4) (fun d c => if d.bit (CRC_CTX_EN c) ∧ d.get (CRC_CTX_TAP c) = tap then d.crcFeed c bs else d)

/-- CRC_INIT (R473). -/
def crcInitDev (c : Nat) (d : Dev) : Dev := (d.put (CRC_VAL c) (crcInitial (d.get (CRC_CTX_POLY c)))).put (CRC_CNT c) 0

/-- CRC_DATA: bytes from bit 7:0 upward, 1, 2 or 4 of them; else the write is ignored and DERR is set (R471). -/
def crcDataDev (c : Nat) (v : Word) (d : Dev) : Dev :=
  let tap := d.get (CRC_CTX_TAP c)
  if d.bit (CRC_CTX_EN c) ∧ (tap = 0 ∨ tap = 3) then
    let n := match d.get (CRC_CTX_DW c) with | 0 => 1 | 1 => 2 | _ => 4
    d.crcFeed c (leBytes n v.toNat)
  else d.put CRC_STAT_DERR (setNat (d.get CRC_STAT_DERR) c c 1)

/-- CRC_CTX_WRITE: a change of POLY, or INIT, loads the initial value (R473). -/
def crcCtxWriteDev (c : Nat) (v : Word) (d : Dev) : Dev :=
  let old := d.get (CRC_CTX_POLY c)
  let d := d.setWord (CRC_CTX_POLY c).addr (v &&& 0x13F#32)
  if bitsOf v 9 9 = 1 ∨ bitsOf v 1 0 ≠ old then crcInitDev c d else d

/-- CRC_VAL_WRITE: bits above the width are ignored (R469, R474). -/
def crcValWriteDev (c : Nat) (v : Word) (d : Dev) : Dev :=
  d.put (CRC_VAL c) (v.toNat % 2 ^ crcWidth (d.get (CRC_CTX_POLY c)))

/-- CRC_RES (R469): CRC_VAL with the final value of Table 18-1. -/
def Dev.crcRes (d : Dev) (c : Nat) : Word :=
  let v := d.word (CRC_VAL c).addr
  if 2 ≤ d.get (CRC_CTX_POLY c) then ~~~ v else v

end Sys2Proof.Machine
end

