-- ==== Sys2Proof/Machine/Iic.lean ====
section
/-!
DEFINITION. The I²C port (17): controller transfers, arbitration and retries, the mailbox and the time-of-day address
as a target, and the bus clear.
-/

namespace Sys2Proof.Machine

/-- The port runs (R449). -/
def Dev.iicUp (d : Dev) : Bool := d.monitoring

/-- Controller of a running transfer, or addressed target: IIC_CSTAT.RUN (R466). -/
def Dev.iicRun (d : Dev) : Bool :=
  d.iic.target || match d.iic.xfer with | some x => decide (x.phase = .running) | none => false

/-- `n` bytes of a buffer of words. -/
def Dev.bufBytes (d : Dev) (f : Nat → Fld) (n : Nat) : List Byte :=
  (wordBytes ((List.range 16).map (fun i => d.word (f i).addr))).take n

/-- A buffer of words with bytes from byte 0 on; the bytes past them stay. -/
def Dev.putBytes (d : Dev) (f : Nat → Fld) (bs : List Byte) : Dev :=
  let all := bs.take 64 ++ (d.bufBytes f 64).drop (min 64 bs.length)
  d.each ((wordsOf 16 all).zipIdx) (fun d (w, i) => d.setWord (f i).addr w)

/-! ## Bus clear (R464) -/

/-- A bus clear: nothing with SDA high; else up to nine pulses and a STOP, and STUCK where they do not help. -/
def Dev.busClear (d : Dev) (o : IicBusObs) : Dev :=
  if o.sdaHigh then d
  else
    let d := d.emit .iicPulses
    if o.sclHeld then ((d.put IIC_STAT_STUCK 1).put IIC_STAT_STUCKSCL 1).raise 0xA102 0 [1]
    else if o.freed then d
    else (d.put IIC_STAT_STUCK 1).raise 0xA102 0 [0]

/-- IIC_CLRSTK (R464). -/
def iicClrstkDev (o : IicBusObs) (d : Dev) : Dev := ((d.put IIC_STAT_STUCK 0).put IIC_STAT_STUCKSCL 0).busClear o

/-- IIC_CEN_WRITE: CEN is written 1; the first such write after a reset runs a bus clear, and enabling waits for an
idle bus (R454, R464). -/
def iicCenWriteDev (o : IicBusObs) (d : Dev) : Dev :=
  let was := d.bit IIC_CFG_CEN
  let due := d.iic.cenDue
  let d := d.put IIC_CFG_CEN 1
  let d := { d with iic := { d.iic with cenDue := false, fresh := d.iic.fresh || !was } }
  if due then d.busClear o else d

/-! ## Controller transfers (R454 to R459) -/

/-- A transfer goes onto the bus: START, address and the bytes to write. -/
def Dev.iicBegin (d : Dev) (x : IicXfer) : Dev :=
  let d := { d with iic := { d.iic with xfer := some { x with phase := .running } } }
  let d := d.put IIC_STAT_BUSY 1
  (d.emit (.iicStart x.addr x.wlen x.rlen)).emit (.iicBytes (d.bufBytes IIC_XBUF x.wlen))

/-- The bus is free for a transfer. -/
def Dev.iicFree (d : Dev) : Bool := d.iicUp && !d.iic.fresh && !d.bit IIC_STAT_BUSY

/-- A transfer that waits for a free bus starts. -/
def Dev.iicNext (d : Dev) : Dev :=
  match d.iic.xfer with
  | some x => if x.phase = .waiting ∧ d.iicFree then d.iicBegin x else d
  | none => d

/-- IIC_GO (R455): refused while STUCK or while a transfer runs or waits. -/
def iicGoDev (d : Dev) : Dev :=
  if !d.bit IIC_CFG_CEN then d
  else if d.bit IIC_STAT_STUCK then d.put IIC_STAT_XST 6
  else if d.iic.xfer.isSome then d.put IIC_STAT_XST 7
  else
    let a10 := d.bit IIC_XCTL_A10
    let x : IicXfer := {
      a10 := a10, addr := if a10 then d.get IIC_XCTL_ADDR else d.get IIC_XCTL_ADDR % 128
      wlen := min 64 (d.get IIC_XCTL_WLEN), rlen := min 64 (d.get IIC_XCTL_RLEN), tries := 0, phase := .waiting }
    (({ d with iic := { d.iic with xfer := some x } }).put IIC_STAT_XRUN 1).iicNext

/-- A transfer ends with a status and a count; the bus is free after its STOP. -/
def Dev.iicDone (d : Dev) (st n : Nat) : Dev :=
  let d := { d with iic := { d.iic with xfer := none } }
  let d := ((d.put IIC_STAT_XRUN 0).put IIC_STAT_XDONE 1).put IIC_STAT_BUSY 0
  (d.put IIC_STAT_XST st).put IIC_STAT_XCNT n

/-- The running transfer. -/
def Dev.iicRunning (d : Dev) : Option IicXfer := d.iic.xfer.filter (fun x => x.phase = .running)

/-- IIC_BUS_IDLE: the bus is taken as free, and a waiting transfer starts (R454). -/
def iicBusIdleDev (d : Dev) : Dev :=
  if d.iicUp ∧ d.iicRunning.isNone then
    (({ d with iic := { d.iic with fresh := false, target := false } }).put IIC_STAT_BUSY 0).iicNext
  else d

/-- IIC_TRANSFER_END: the transfer ends with STOP (R455); the bytes on the bus feed the IIC tap (R470). -/
def iicTransferEndDev (e : IicEnd) (d : Dev) : Dev :=
  match d.iicRunning with
  | none => d
  | some x =>
    let wr (n : Nat) : List Byte := d.bufBytes IIC_XBUF (min n x.wlen)
    match e with
    | .ok read =>
      let got := bytesAt read 0 x.rlen
      let d := (d.crcTap 1 (wr x.wlen ++ got)).iicDone 1 (if x.rlen = 0 then x.wlen else x.rlen)
      if x.rlen = 0 then d else d.putBytes IIC_XBUF got
    | .nackAddr => d.iicDone 2 0
    | .nackData acked => (d.crcTap 1 (wr (acked + 1))).iicDone 3 (min acked x.wlen)

/-- The device answers to TODA (R460). -/
def Dev.todaUp (d : Dev) : Bool := d.role = .head && (d.get TB_CFG_SRC = 2 || d.get TB_CFG_SRC = 3)

/-- ARBITRATION_LOST at the clock of index `bit`, with the bytes read before it (R457, R459, R470). -/
def arbitrationLostDev (bit : Nat) (read : List Byte) (a : IicAddressed) (d : Dev) : Dev :=
  match d.iicRunning with
  | none => d
  | some x =>
    let d := (d.put IIC_STAT_LOSTBIT (min 4095 bit)).countSat IIC_CNT_ARBCNT 1
    let sent := min x.wlen (bit / 9 - (if x.a10 then 2 else 1))
    let d := d.crcTap 1 (d.bufBytes IIC_XBUF sent ++ read)
    let asTarget := d.bit IIC_CFG_TEN && decide (bit < 9) && (a = .ta || (a = .toda && d.todaUp))
    let d := { d with iic := { d.iic with xfer := some { x with phase := .lost }, target := asTarget } }
    if asTarget then d.put IIC_STAT_XST 8 else d

/-- IIC_RETRY: TBUF after the STOP the transfer starts again, or it ends ARBLOST (R458). -/
def iicRetryDev (d : Dev) : Dev :=
  match d.iic.xfer with
  | none => d
  | some x =>
    if x.phase ≠ .lost then d
    else
      let d := { d with iic := { d.iic with target := false } }
      if x.tries < d.get IIC_CFG_RETRY then d.iicBegin { x with tries := x.tries + 1 }
      else
        let n := d.get IIC_STAT_XCNT
        (d.iicDone 4 n).raise 0xA101 0 [d.get IIC_STAT_LOSTBIT, x.tries + 1]

/-- IIC_STRETCH_TIMEOUT: SCL stayed low for CSTO after `acked` bytes written and `read` bytes read; the transfer ends and
a bus clear runs (R456). -/
def iicStretchTimeoutDev (acked : Nat) (read : List Byte) (o : IicBusObs) (d : Dev) : Dev :=
  match d.iicRunning with
  | none => d
  | some x =>
    let n := if read.isEmpty then min acked x.wlen else min read.length x.rlen
    let d := d.crcTap 1 (d.bufBytes IIC_XBUF (min acked x.wlen) ++ read.take x.rlen)
    let d := if read.isEmpty then d else d.putBytes IIC_XBUF (read.take x.rlen)
    ((d.iicDone 5 n).raise 0xA105 0 [x.addr, n]).busClear o

/-! ## Target role (R460 to R463) -/

/-- What a foreign transfer leaves: the device is no longer addressed. -/
def Dev.iicReleased (d : Dev) : Dev := { d with iic := { d.iic with target := false } }

/-- IIC_TARGET_RX: a write to TA ends (R461). While RXNEW is 1 its address is not acknowledged. -/
def iicTargetRxDev (bytes : List Byte) (d : Dev) : Dev :=
  if !d.iicUp ∨ !d.bit IIC_CFG_TEN ∨ d.bit IIC_TSTAT_RXNEW then d
  else
    let got := bytes.take 64
    let d := (d.putBytes IIC_TRX got).iicReleased
    ((d.put IIC_TSTAT_RXLEN got.length).put IIC_TSTAT_RXNEW 1).raise 0xA104 0 [got.length]

/-- IIC_TARGET_READ: a controller reads n bytes: TXLEN bytes of IIC_TTX, then 0xFF (R461). -/
def iicTargetReadDev (n : Nat) (d : Dev) : Dev :=
  if !d.iicUp ∨ !d.bit IIC_CFG_TEN then d
  else
    let bs := d.bufBytes IIC_TTX (min 64 (d.get IIC_TTXL_TXLEN))
    let out := bs.take n ++ List.replicate (n - bs.length) 0xFF
    ((d.emit (.iicBytes out)).put IIC_TSTAT_TXRD 1).iicReleased

/-- IIC_TODA_WRITE: twelve bytes go to the timebase, another length is discarded (R462). -/
def iicTodaWriteDev (bytes : List Byte) (ms : Nat) (d : Dev) : Dev :=
  if !d.iicUp ∨ !d.bit IIC_CFG_TEN ∨ !d.todaUp then d
  else
    let d := d.iicReleased
    if bytes.length = 12 then timeOfDayDev bytes ms d else d.raise 0x8007 0 []

/-- IIC_TARGET_TIMEOUT (R463). -/
def iicTargetTimeoutDev (addr : Nat) (d : Dev) : Dev :=
  if !d.iicUp ∨ !d.bit IIC_CFG_TEN then d
  else (d.iicReleased.countSat IIC_CNT_TTOCNT 1).raise 0xA103 0 [addr]

/-- The port stops: lines released, the transfer dropped (R449, R465). -/
def Dev.iicStop (d : Dev) : Dev :=
  let d := { d with iic := { d.iic with xfer := none, target := false, fresh := true } }
  (d.put IIC_STAT_XRUN 0).put IIC_STAT_BUSY 0

end Sys2Proof.Machine
end

