-- ==== Sys2Proof/Machine/AuxSar.lean ====
section
/-!
DEFINITION. The auxiliary converter (05): the table sequencer, urgent requests and the plausibility check of each
AFE die.
-/

namespace Sys2Proof.Machine

def Dev.aux (d : Dev) : Afe → AuxSt | .L => d.auxL | .U => d.auxU

def Dev.setAux (d : Dev) (a : Afe) (x : AuxSt) : Dev :=
  match a with | .L => { d with auxL := x } | .U => { d with auxU := x }

/-- The die is fitted and powered, and its aux converter runs (R125). -/
def Dev.auxUp (d : Dev) (a : Afe) : Bool := d.mclkOn && d.banks.contains a

/-- AUX_CSTAT.RUN (R125). -/
def Dev.auxRun (d : Dev) (a : Afe) : Bool := d.auxUp a && d.bit (AUX_CTRL_EN a) && decide ((d.aux a).left ≠ some 0)

/-- The sequencer moves to a phase; WAIT, BUSY and ENTRY report it (Table 5-7). -/
def Dev.auxTo (d : Dev) (a : Afe) (ph : AuxPhase) : Dev :=
  let d := d.setAux a { d.aux a with phase := ph }
  let wait : Bool := match ph with | .waitPass => true | .waitEntry _ => true | _ => false
  let conv : Bool := match ph with | .conv _ => true | _ => false
  let d := (d.putB (AUX_STAT_WAIT a) wait).putB (AUX_STAT_BUSY a) (conv || (d.aux a).urgent.isSome)
  match ph with
  | .waitEntry e | .dly e | .conv e => d.put (AUX_STAT_ENTRY a) e
  | _ => d

/-- The input is present on the die (Table 5-1): 24 inputs, MOD on AFE-L only. -/
def inputPresent (a : Afe) (i : Nat) : Bool := i < 24 && !(a = .U && i = 9)

/-- The settling time of an input in microseconds (Table 5-1). -/
def settleUs (i : Nat) : Nat := if i ≤ 7 then 20 else if i ≤ 9 then 40 else if i = 10 ∨ i = 11 ∨ i = 19 ∨ i = 20 then 10 else 2

/-- The extra settling time AUX_SETX sets for the class of an input (Table 5-1). -/
def Dev.setxUs (d : Dev) (a : Afe) (i : Nat) : Nat :=
  if i ≤ 7 then d.get (AUX_SETX_A a) else if i ≤ 9 then d.get (AUX_SETX_B a)
  else if i = 10 ∨ i = 11 ∨ i = 19 ∨ i = 20 then d.get (AUX_SETX_C a) else d.get (AUX_SETX_D a)

/-- The settle before a job, in cycles: none after a conversion of the same input and selector (R126). -/
def Dev.settleCycles (d : Dev) (a : Afe) (prev : Option (Nat × Nat)) (i sel : Nat) : Nat :=
  if prev = some (i, sel) then 0 else 6 * (settleUs i + d.setxUs a i)

/-- Cycles the SAR is busy with an entry (R126, R131). -/
def Dev.entryCycles (d : Dev) (a : Afe) (e : Nat) : Nat :=
  d.settleCycles a (d.aux a).prev (d.get (AUX_ENTA_INPUT a e)) (d.get (AUX_ENTB_SEL a e))
    + 12 * (d.get (AUX_ENTA_REPM1 a e) + 1)

/-! ## Plausibility slots (R142, R145) -/

/-- The edge at which slot `i` of `s` starts, in a window that opened at `open_` with length `len` (R142). -/
def slotStart (epoch open_ : Int) (len s i : Nat) : Int :=
  let nominal := open_ + (((2 * i + 1) * len / (2 * s) : Nat) : Int)
  let start := nominal - (nominal - epoch) % 30 + 15
  if start < open_ then start + 30 else start

/-- Cycles a slot takes: a settle and a conversion for each of its cells (R142). -/
def Dev.slotCycles (d : Dev) (a : Afe) (jobs : List (Nat × Nat)) : Nat :=
  (jobs.foldl (fun (acc : Nat × Option (Nat × Nat)) j => (acc.1 + d.settleCycles a acc.2 j.1 j.2 + 12, some j))
    (0, (d.aux a).prev)).1

/-- The length in cycles that the window in progress will have. -/
def Dev.winLen (d : Dev) : Nat := (d.nextBoundary - d.win.openTick).toNat

/-- The start of slot `i` of the window in progress; past its last slot, of the slots of the window that follows, as its
settings place them now. -/
def Dev.slotAt (d : Dev) (p : PlausWin) (i : Nat) : Int :=
  if i < p.samples then slotStart d.epoch d.win.openTick d.winLen p.samples i
  else slotStart d.epoch d.nextBoundary d.wlen p.samples (i - p.samples)

/-- A command of the SAR that carries its MTICK moves time on to it, within the window in progress. -/
def Dev.atTick (d : Dev) (m : Nat) : Dev :=
  if d.mtick < m ∧ d.mclkOn ∧ !(d.win.opened ∧ d.nextBoundary < (m : Int)) then d.advanceTo m else d

/-- DLY is over or the SAR is free again: the entry starts, or waits for an urgent request or a slot (R140, R145); after the
window's last slot, the next slot is the first of the window that follows. -/
def Dev.auxStart (d : Dev) (a : Afe) (e : Nat) : Dev :=
  let x := d.aux a
  let go (d : Dev) : Dev :=
    (d.setAux a { d.aux a with prev := some (d.get (AUX_ENTA_INPUT a e), d.get (AUX_ENTB_SEL a e)) }).auxTo a (.conv e)
  if x.urgent.isSome then d.auxTo a (.ready e)
  else match x.plaus with
  | none => go d
  | some p =>
    let dur := d.entryCycles a e
    let s := d.slotAt p p.next
    if (d.mtick : Int) + dur ≤ s then go d
    else if s + d.slotCycles a p.jobs + dur ≤ d.slotAt p (p.next + 1) then d.auxTo a (.ready e)
    else if p.next < p.samples then go (d.setAux a { x with plaus := some { p with next := p.next + 1, skipped := true } })
    else go (d.setAux a { x with skip := 1 })

/-! ## The sequencer -/

/-- Step 1 of an entry (R130), unless the sequencer must stop (R135) or hold (R136). -/
def Dev.auxEntry (d : Dev) (a : Afe) (e : Nat) : Dev :=
  if !d.auxRun a then d.auxTo a .stopped
  else if d.inCal a then d.auxTo a (.held e)
  else if d.bit (AUX_ENTA_WAITTRG a e) then d.auxTo a (.waitEntry e)
  else d.auxTo a (.dly e)

/-- The sequencer is looked at again after a change of EN, of the mode or of calibration (R135, R136): it starts to
wait for a pass, stops where no entry is in progress, or goes on. -/
def Dev.auxSettle (d : Dev) (a : Afe) : Dev :=
  match (d.aux a).phase with
  | .stopped => if d.auxRun a then d.auxTo a .waitPass else d
  | .waitPass | .delay | .waitEntry _ => if d.auxRun a then d else d.auxTo a .stopped
  | .held e => if d.auxRun a then (if d.inCal a then d else d.auxEntry a e) else d.auxTo a .stopped
  | _ => d

/-- An entry is in progress: its DLY, its wait or its conversions (R130). -/
def AuxPhase.inEntry : AuxPhase → Bool
  | .dly _ | .ready _ | .conv _ => true
  | _ => false

/-- The sequencer stops: at the end of the entry in progress (R135), else now. -/
def Dev.auxStop (d : Dev) (a : Afe) : Dev :=
  if (d.aux a).phase.inEntry then d.setAux a { d.aux a with halt := true } else d.auxTo a .stopped

/-- MONITOR is left (R125, R135): the slots of the window end, and the entry and the request in progress finish. -/
def Dev.auxDown (d : Dev) (a : Afe) : Dev := (d.setAux a { d.aux a with plaus := none, skip := 0 }).auxStop a

/-- AUX_ENABLE: a write of AUX_CTRL.EN (R125, R135). -/
def auxEnableDev (a : Afe) (en : Bool) (d : Dev) : Dev :=
  if !d.banks.contains a then d
  else
    let d := d.putB (AUX_CTRL_EN a) en
    if en then d.auxSettle a else d.auxStop a

/-- A trigger event that counts (R132): one that meets neither wait is missed (R133), but after DONE it has no effect (R134). -/
def Dev.auxTrigger (d : Dev) (a : Afe) : Dev :=
  match (d.aux a).phase with
  | .waitPass => d.auxTo a .delay
  | .waitEntry e => d.auxTo a (.dly e)
  | _ =>
    if d.bit (AUX_STAT_DONE a) then d else
    let first := d.get (AUX_TMISS a) = 0
    let d := d.countSat (AUX_TMISS a) 1
    if first ∧ d.bit (AUX_EVEN_TMEV a) then d.raise 0x2004 (afeSrc a) [] else d

/-- The code of a source in AUX_TRIG.SRC (Table 5-3). -/
def auxSrcCode : AuxSrc → Nat | .timer => 1 | .window => 2 | .extpwm => 3 | .bsw => 4

/-- AUX_TRIGGER_EVENT: the source selected occurs; WINDOW, EXTPWM and BSW are divided by TDIV + 1, and BSW occurs only while
the bank's flyback clock runs (Table 5-3). -/
def auxTriggerEventDev (a : Afe) (src : AuxSrc) (d : Dev) : Dev :=
  if d.get (AUX_TRIG_SRC a) ≠ auxSrcCode src ∨ !d.auxUp a ∨ (src = .extpwm ∧ (a = .U ∨ d.get (AUX_TRIG_EDGE a) = 0))
      ∨ (src = .bsw ∧ !d.bit (BPS_STAT_SW a)) then d
  else if src = .timer ∨ d.get (AUX_TRIG_TDIV a) ≤ (d.aux a).div then
    (d.setAux a { d.aux a with div := 0 }).auxTrigger a
  else d.setAux a { d.aux a with div := (d.aux a).div + 1 }

/-- LOOP passes to run (Table 5-6); 0 is endless. -/
def Dev.auxLoop (d : Dev) (a : Afe) : Option Nat :=
  if d.get (AUX_SEQ_LOOP a) = 0 then none else some (d.get (AUX_SEQ_LOOP a))

/-- AUX_GO: a write of AUX_CTRL.GO (R132, R134). -/
def auxGoDev (a : Afe) (d : Dev) : Dev :=
  if !d.banks.contains a then d
  else
    let d := if d.bit (AUX_STAT_DONE a) then
      ((d.setAux a { d.aux a with left := d.auxLoop a }).put (AUX_STAT_DONE a) 0).auxSettle a else d
    d.auxTrigger a

/-- The pass starts, after its groups were evaluated (R130, R132). -/
def Dev.auxBeginPass (d : Dev) (a : Afe) : Dev :=
  match (d.aux a).phase with
  | .delay => d.auxEntry a 0
  | _ => d

/-- AUX_DLY_EXPIRY (R130). -/
def auxDlyExpiryDev (a : Afe) (mtick : Nat) (d : Dev) : Dev :=
  let d := d.atTick mtick
  match (d.aux a).phase with
  | .dly e => d.auxStart a e
  | _ => d

/-- The result of a job: the mean rounded to the nearest code, or the clipped code and OVR (R128, R129). -/
def sarResult (cs : List SarConv) : Nat × Bool :=
  if cs.any (·.above) then (0xFFFF, true)
  else if cs.any (·.below) then (0, true)
  else ((roundDiv (cs.foldl (fun s c => s + (c.code % 65536 : Nat)) (0 : Int)) cs.length).toNat, false)

/-- The band check of a result (R137, R139). -/
def Dev.bandCheck (d : Dev) (a : Afe) (e code : Nat) (ovr : Bool) : Dev :=
  let d := if ovr ∧ d.bit (AUX_EVEN_OVREV a) then d.raise 0x2006 (afeSrc a) [] else d
  if !d.bit (AUX_ENTA_BEN a e) then d
  else
    let lo := d.get (AUX_BAND_LO a e)
    let hi := d.get (AUX_BAND_HI a e)
    let hys := d.get (AUX_ENTB_HYS a e)
    let setOut (d : Dev) (b : Bool) : Dev :=
      (d.putB (AUX_RES_OUT a e) b).put (AUX_BOUT a) (setNat (d.get (AUX_BOUT a)) e e (if b then 1 else 0))
    if d.bit (AUX_RES_OUT a e) then
      (if !ovr ∧ lo + hys ≤ code ∧ code + hys ≤ hi then setOut d false else d)
    else if ovr ∨ hi < code ∨ code < lo then
      let d := setOut d true
      if d.bit (AUX_EVEN_BANDEV a) then d.raise 0x2001 (afeSrc a) [e, code, if ovr then 1 else 0] else d
    else d

/-- The sequencer has stopped at the end of an entry; where it may run again, it waits for a pass (R135). -/
def Dev.auxHalted (d : Dev) (a : Afe) : Dev := ((d.setAux a { d.aux a with halt := false }).auxTo a .stopped).auxSettle a

/-- The entry has ended: the next one, the next pass, or the end of LOOP passes (R130, R134); or the stop that waited for it
(R135). -/
def Dev.auxNext (d : Dev) (a : Afe) (e : Nat) : Dev :=
  if e < d.get (AUX_SEQ_LAST a) then (if (d.aux a).halt then d.auxHalted a else d.auxEntry a (e + 1))
  else
    let d := d.countMod (AUX_STAT_PASSCNT a) 1
    let left := (d.aux a).left.map (· - 1)
    let d := d.setAux a { d.aux a with left := left }
    if left = some 0 then
      (((d.put (AUX_STAT_DONE a) 1).setAux a { d.aux a with halt := false }).auxTo a .stopped).raise 0x2005 (afeSrc a) []
    else if (d.aux a).halt then d.auxHalted a
    else if d.auxRun a then d.auxTo a .waitPass else d.auxTo a .stopped

/-- AUX_ENTRY_COMPLETE: the REP conversions of the entry in progress end (R129, R130). -/
def auxEntryCompleteDev (a : Afe) (mtick : Nat) (convs : List SarConv) (d : Dev) : Dev :=
  let d := d.atTick mtick
  match (d.aux a).phase with
  | .conv e =>
    if convs.length ≠ d.get (AUX_ENTA_REPM1 a e) + 1 then d
    else
      let (code, ovr) := sarResult convs
      let d := ((d.put (AUX_RES_CODE a e) code).putB (AUX_RES_OVR a e) ovr).put (AUX_RES_NEW a e) 1
      let d := d.put (AUX_RES_PASS a e) (d.get (AUX_STAT_PASSCNT a) % 256)
      (d.bandCheck a e code ovr).auxNext a e
  | _ => d

/-- An accepted commit of AUX group 0 (R138); a new LOOP sets the passes left, unless they have completed. -/
def Dev.auxConfigured (d : Dev) (a : Afe) (oldLoop : Nat) : Dev :=
  let d := d.each (List.range 32) (fun d e => d.put (AUX_RES_OUT a e) 0)
  let d := (d.put (AUX_BOUT a) 0).setAux a { d.aux a with div := 0 }
  if d.get (AUX_SEQ_LOOP a) ≠ oldLoop ∧ !d.bit (AUX_STAT_DONE a) then
    (d.setAux a { d.aux a with left := d.auxLoop a }).auxSettle a
  else d

/-! ## Urgent requests (R140, R141) -/

/-- The SAR works on a table entry. -/
def AuxPhase.onSar : AuxPhase → Bool
  | .conv _ => true
  | _ => false

/-- The SAR works on a conversion job (R131). -/
def Dev.sarBusy (d : Dev) (a : Afe) : Bool :=
  (d.aux a).urgent.isSome || (d.aux a).phase.onSar

/-- A request is dropped (R141). -/
def Dev.urgentDrop (d : Dev) (a : Afe) (host : Bool) : Dev :=
  let first := d.get (AUX_DROP a) = 0
  let d := d.countSat (AUX_DROP a) 1
  let d := if host then d.put (AUX_URES_DROP a) 1 else d
  if first ∧ d.bit (AUX_EVEN_DROPEV a) then d.raise 0x2002 (afeSrc a) [] else d

/-- A request arrives (R140, R141). -/
def Dev.urgentRequest (d : Dev) (a : Afe) (host : Bool) (sel input : Nat) : Dev :=
  if !d.auxUp a then d
  else if d.sarBusy a ∨ d.inCal a then d.urgentDrop a host
  else
    let d := d.setAux a { d.aux a with urgent := some host, prev := some (input, sel) }
    let d := if host then d.put (AUX_URES_DROP a) 0 else d
    d.put (AUX_STAT_BUSY a) 1

/-- AUX_URG_GO: a write of AUX_URG with GO (R140); `diag` is a diagnostics request that arrives in the same cycle, which goes
first (R141). -/
def auxUrgGoDev (a : Afe) (sel input : Nat) (diag : Option (Nat × Nat)) (d : Dev) : Dev :=
  if !d.banks.contains a then d
  else
    let d := (d.put (AUX_URG_SEL a) sel).put (AUX_URG_INPUT a) input
    let d := match diag with
      | some (s, i) => d.urgentRequest a false s i
      | none => d
    d.urgentRequest a true sel input

/-- URGENT_RESULT (R140): the result goes to AUX_URES, and an entry that waited starts its settle. -/
def urgentResultDev (a : Afe) (mtick : Nat) (c : SarConv) (d : Dev) : Dev :=
  if (d.aux a).urgent.isNone then d
  else
    let d := d.atTick mtick
    let (code, ovr) := sarResult [c]
    let d := ((d.put (AUX_URES_CODE a) code).putB (AUX_URES_OVR a) ovr).put (AUX_URES_DONE a) 1
    let d := (d.setAux a { d.aux a with urgent := none }).put (AUX_STAT_BUSY a) 0
    match (d.aux a).phase with
    | .ready e => d.auxStart a e
    | _ => d

/-! ## Plausibility (R142 to R149) -/

/-- S × CPW × (12 µs + SETX of class C) exceeds half the window (R144). -/
def Dev.plausTooLong (d : Dev) (a : Afe) (len : Nat) : Bool :=
  decide (len < 2 ^ d.get (AUX_PLC_SLOG a) * (d.get (AUX_PLC_CPW a) + 1) * (12 + d.get (AUX_SETX_C a)) * 12)

/-- The scheduler suspends itself for the window in progress (R144). -/
def Dev.plausSuspends (d : Dev) (a : Afe) : Bool :=
  d.role = .head || d.inCal a || decide (d.winLen ≠ d.wlen) || d.plausTooLong a d.winLen

/-- At the opening of a window the scheduler takes its cells, or suspends itself (R143, R144); `views` are the inputs
that a junction check converts in their place (R238). -/
def Dev.plausOpen (d : Dev) (views : List (Nat × Nat)) (a : Afe) : Dev :=
  let x := d.aux a
  let runs := d.bit (AUX_PLC_EN a) && d.auxUp a
  let susp := runs && d.plausSuspends a
  let d := d.putB (AUX_PSTAT_SUSP a) susp
  let cells := if runs ∧ !susp then (List.range (d.get (AUX_PLC_CPW a) + 1)).map (fun i => (x.rot + i) % 18 + 1) else []
  if cells.isEmpty ∧ views.isEmpty then d.setAux a { x with plaus := none, skip := 0 }
  else
    let jobs := if views.isEmpty then cells.map (fun c => (10, c)) else views
    let p : PlausWin :=
      { cells := cells, jobs := jobs
        samples := if views.isEmpty then 2 ^ d.get (AUX_PLC_SLOG a) else 4
        lim := d.get (AUX_PLIM_LIM a), balw := d.get (AUX_PLIM_BALW a), pcons := d.get (AUX_PLC_PCONS a)
        next := x.skip, skipped := decide (0 < x.skip), sums := jobs.map (fun _ => (0, false)), junction := !views.isEmpty }
    d.setAux a { x with rot := (x.rot + cells.length) % 18, plaus := some p, skip := 0 }

/-- A window has opened: the scheduler takes its cells, and an entry that waited for a slot that no longer comes starts. -/
def Dev.auxWindow (d : Dev) (views : List (Nat × Nat)) (a : Afe) : Dev :=
  let d := d.plausOpen views a
  match (d.aux a).phase, (d.aux a).urgent with
  | .ready e, none => d.auxStart a e
  | _, _ => d

/-- PLAUSIBILITY_SLOT: the next slot of the window converts each of its inputs once (R142), and a table entry that waited
for it starts; a slot that the SAR's table entry overlaps is skipped (R145). -/
def plausibilitySlotDev (a : Afe) (convs : List SarConv) (d : Dev) : Dev :=
  match (d.aux a).plaus with
  | none => d
  | some p =>
    if p.next < p.samples ∧ (d.aux a).phase.onSar then
      d.setAux a { d.aux a with plaus := some { p with next := p.next + 1, skipped := true } }
    else if p.samples ≤ p.next ∨ d.sarBusy a ∨ convs.length ≠ p.jobs.length ∨ d.nextBoundary ≤ d.slotAt p p.next then d
    else
      let d := d.advanceTo (d.slotAt p p.next).toNat
      let sums := (p.sums.zip convs).map (fun (s, c) =>
        let (code, ovr) := sarResult [c]
        (s.1 + code, s.2 || ovr))
      let d := d.setAux a { d.aux a with
        prev := p.jobs.getLast?, plaus := some { p with next := p.next + 1, sums := sums } }
      match (d.aux a).phase with
      | .ready e => d.auxStart a e
      | _ => d

/-- The check of one cell at the closing boundary (R146 to R148); `comp` is its compensation C. -/
def Dev.plausCell (d : Dev) (a : Afe) (p : PlausWin) (comp : Int) (k : Nat) (sum : Nat) (ovr : Bool) : Dev :=
  let n := globalOf a k
  let flg := d.get (CVW_FFLG a k)
  let has (i : Nat) : Bool := decide (flg / 2 ^ i % 2 = 1)
  if has 0 ∨ has 1 ∨ has 6 ∨ has 8 ∨ has 11 ∨ ovr ∨ p.skipped ∨ p.next < p.samples then
    d.countSat (AUX_PSKIP_SKIP a) 1
  else
    let s : Int := p.samples
    let vint := d.getS (CVW_FRES a k) + comp
    let vsarS : Int := (sum : Int) * 1000 - 5000000 * s
    let lim := if has 3 then p.lim + p.balw else p.lim
    let x := d.aux a
    if ((lim * 1000 : Nat) : Int) * s < |vsarS - vint * s| then
      let d := d.addFlag n 7
      let d := (d.countSat (AUX_PSTAT_FCNT a) 1).put (AUX_PSTAT_CELL a) n
      let f := (x.fails[k - 1]?).getD 0 + 1
      let d := d.setAux a { x with fails := x.fails.set (k - 1) f }
      if p.pcons ≤ f ∧ !x.raised.contains k then
        (d.setAux a { d.aux a with raised := k :: x.raised }).raise 0x2003 (afeSrc a)
          [n, ofSigned 32 (roundDiv vsarS p.samples), ofSigned 32 vint]
      else d
    else d.setAux a { x with fails := x.fails.set (k - 1) 0, raised := x.raised.filter (· ≠ k) }

/-- The checks of a window that closes (R146). -/
def Dev.plausClose (d : Dev) (comp : Nat → Int) (a : Afe) : Dev :=
  match (d.aux a).plaus with
  | none => d
  | some p =>
    if p.junction then d.countSat (AUX_PSKIP_SKIP a) p.cells.length
    else d.each (p.cells.zip p.sums) (fun d (k, s) => d.plausCell a p (comp (globalOf a k)) k s.1 s.2)

/-- A CORE warm reset clears the counts of failures and the raised state of each cell; the scheduler on the die goes on (R148). -/
def Dev.plausWarm (d : Dev) (a : Afe) : Dev :=
  d.setAux a { d.aux a with fails := List.replicate 18 0, raised := [] }

end Sys2Proof.Machine
end

