-- ==== Sys2Proof/Machine/ModeOps.lean ====
section
/-!
DEFINITION. The mode the device is in and the one it goes to (03): the target of the budget rule, the transitions of
Table 3-4 as they are asked for, the hold time, and the mode-changed event. What a transition starts and stops when
it completes is in Power.lean.
-/

namespace Sys2Proof.Machine

/-- A sweep has reached its start instant and not ended (R55). -/
def Dev.sweepLive (d : Dev) : Bool := d.get IMP_STAT_STATE = 2

/-- Exit latency of a ladder level in ms (Table 3-1). -/
def exitLatency (l : Nat) : Nat :=
  match l with | 0 => 250 | 1 => 30 | 2 => 4 | 3 => 2 | _ => 0

/-- The ladder level of a member as R53 counts it: the ladder mode it has reported, SPECTRO as STREAM. -/
def memberLevel (m : Member) : Nat := if m.told then min 5 (if m.cur ≤ 6 then m.cur else m.base) else 0

/-- The lowest level R53 allows a head; none beyond MONITOR in a ring that R16 keeps at the low rate. -/
def Dev.headFloor (d : Dev) : Nat :=
  if d.role = .head then
    let l := max (d.hd.members.foldl (fun l m => max l (memberLevel m)) 0) (if d.boundMask ≠ 0 then 5 else 0)
    if d.lowRing then min 4 l else l
  else 0

/-- What the services and the floor need (R55, R53). -/
def Dev.needLevel (d : Dev) : Nat :=
  let n := d.get PWR_BUDGET_FLOOR + 1
  let n := if d.planLive then max n 3 else n
  let n := if d.pw.streamBound then max n 5 else n
  let n := max n d.headFloor
  if d.sweepLive then 6 else n

/-- The target of the budget rule (R55): the lowest level from the need on whose exit latency the budget allows; DOZE for a
device behind a sweep's frontier, whatever its budget (R362). -/
def Dev.targetLevel (d : Dev) : Nat :=
  if d.pw.heldDoze then 2 else ((rangeL (max 1 d.needLevel) 6).find? (fun l => decide (exitLatency l ≤ d.get PWR_BUDGET_BUDGET))).getD 6

/-- CUR and BASE take new values; a change raises MODE_CHANGED (R66, R549). -/
def Dev.showMode (d : Dev) (cur base trig : Nat) : Dev :=
  let was := (d.get PWR_STAT_CUR, d.get PWR_STAT_BASE)
  let d := (d.put PWR_STAT_CUR cur).put PWR_STAT_BASE base
  if was = (cur, base) then d else d.raise 0xD001 0 [cur, base, trig]

/-- The ladder transition toward a level: through MONITOR from below it (R550), else straight. -/
def stepToward (level goal : Nat) : Nat := if level < 4 ∧ 4 < goal then 4 else goal

/-- The I²C port owns a transfer or is addressed as a target: a move below MONITOR waits for it (R449). -/
def Dev.iicBusy (d : Dev) : Bool := d.iic.xfer.isSome || d.iic.target

/-- Start the ladder transition toward a goal; SPECTRO is entered at the start instant (Table 3-4). -/
def Dev.startTrans (d : Dev) (goal trig : Nat) : Dev :=
  let g := stepToward (d.get PWR_STAT_BASE) goal
  if g < 4 ∧ 4 ≤ d.get PWR_STAT_BASE ∧ d.iicBusy then { d with pw := { d.pw with iicWait := some trig } }
  else if g = 6 then d.showMode 6 6 trig
  else ({ d with pw := { d.pw with trans := some ⟨Mode.ofCode g, trig⟩ } }).put PWR_STAT_TRANS 1

/-- The budget rule is evaluated (R55 to R57) with the code of its trigger; during a transition a change of target is a
ladder trigger that waits for its end (R62). -/
def Dev.budgetEval (d : Dev) (trig : Nat) : Dev :=
  let t := d.targetLevel
  let was := d.get PWR_STAT_TARGET
  let d := d.put PWR_STAT_TARGET t
  match d.cur with
  | .legacy | .ship => d
  | .calibrate | .degraded | .safe | .provision =>
    if d.get PWR_STAT_BASE < t then d.showMode (d.get PWR_STAT_CUR) t trig else d
  | m =>
    if d.pw.starting ∨ d.pw.trans.isSome ∨ d.pw.shipEntry.isSome then
      (if t = was then d else { d with pw := { d.pw with later := some (0, trig) } })
    else if m.code < t then d.startTrans t trig
    else if t < m.code ∧ !d.pw.hold then d.startTrans t trig
    else d

/-- A trigger that asks for a level of the ladder: it starts the rise, or waits for the end of the transition in progress, the
latest such trigger alone (R62). -/
def Dev.riseTo (d : Dev) (goal trig : Nat) : Dev :=
  if d.cur.ladder ∧ d.cur ≠ .ship ∧ !d.pw.starting then
    if d.pw.trans.isSome ∨ d.pw.shipEntry.isSome then { d with pw := { d.pw with later := some (goal, trig) } }
    else if d.get PWR_STAT_CUR < goal then d.startTrans goal trig
    else d.budgetEval trig
  else d.budgetEval trig

/-- PROVISION is left for WATCH (Table 3-4): by request, or with the transition to DEPLOYED (R499). -/
def Dev.leaveProvision (d : Dev) : Dev :=
  ({ d with pw := { d.pw with trans := some ⟨.watch, 0x10⟩ } }).put PWR_STAT_TRANS 1

/-- A move that waited for the I²C port is tried again once the port is free (R449). -/
def Dev.iicMoveDue (d : Dev) : Dev :=
  match d.pw.iicWait with
  | some t => if d.iicBusy then d else ({ d with pw := { d.pw with iicWait := none } }).budgetEval t
  | none => d

/-- HOLD counts anew, from the command that has just been executed or the end of an override mode (R57, R58). -/
def Dev.setHold (d : Dev) : Dev := { d with pw := { d.pw with hold := true } }

/-- A command has been executed (R57, R58): HOLD counts from now; it is no cause to evaluate the rule (R56). -/
def Dev.commandDone (d : Dev) : Dev := d.setHold

/-- HOLD_EXPIRY: no command has been executed for the hold time (R57). -/
def holdExpiryDev (d : Dev) : Dev :=
  if d.lathe then ({ d with pw := { d.pw with hold := false } }).budgetEval 3 else d

/-- The head follows the modes of its members (R53), with the code of the head rule (Table 3-17). -/
def Dev.headRule (d : Dev) : Dev := if d.role = .head ∧ d.targetLevel ≠ d.get PWR_STAT_TARGET then d.budgetEval 0x12 else d

/-- The sweep has ended (Table 3-4): SPECTRO falls back to its base mode and the budget rule is evaluated; HOLD does not count
anew (R57). -/
def Dev.sweepModeEnd (d : Dev) : Dev :=
  let back := if d.pw.streamBound then 5 else 4
  let d := match d.cur with
    | .spectro => d.showMode back back 9
    | .calibrate | .degraded | .safe | .provision =>
      if d.get PWR_STAT_BASE = 6 then d.showMode (d.get PWR_STAT_CUR) back 9 else d
    | _ => d
  d.budgetEval 9

/-- The bank mask of CALBANK (Table 3-10). -/
def calBit : Afe → Nat | .L => 1 | .U => 2

/-- A bank enters CALIBRATE (Table 3-4); SAFE and DEGRADED stay over it (R62). -/
def Dev.calModeStart (d : Dev) (a : Afe) : Dev :=
  let d := d.put PWR_STAT_CALBANK (d.get PWR_STAT_CALBANK ||| calBit a)
  if d.cur.ladder then d.showMode 8 (d.get PWR_STAT_BASE) 0xA else d

/-- A bank leaves CALIBRATE; with no bank left the base mode returns and the rule is evaluated (R56). -/
def Dev.calModeEnd (d : Dev) (a : Afe) : Dev :=
  let v := d.get PWR_STAT_CALBANK
  let d := d.put PWR_STAT_CALBANK (if v / calBit a % 2 = 1 then v - calBit a else v)
  if d.get PWR_STAT_CALBANK = 0 ∧ d.cur = .calibrate then
    (d.showMode (d.get PWR_STAT_BASE) (d.get PWR_STAT_BASE) 0xA).setHold.budgetEval 3
  else d

end Sys2Proof.Machine
end

