-- ==== Sys2Proof/Machine/Owd.lean ====
section
/-!
DEFINITION. Sense and balance wiring diagnostics (09): the pull test, the tap probe, the junction check and its
verdicts. Wires are numbered 0 to C.
-/

namespace Sys2Proof.Machine

/-! ## What others do with a bank -/

/-- The cells of the sweep mask (Table 8-10). -/
def Dev.sweepMask (d : Dev) : Nat := d.get IMP_CMASKL + 2 ^ 32 * d.get IMP_CMASKH

def Dev.masked (d : Dev) (n : Nat) : Bool := decide (d.sweepMask / 2 ^ (n - 1) % 2 = 1)

/-- The cells of a bank. -/
def Dev.bankCells (d : Dev) (a : Afe) : List Nat := (rangeL 1 d.cells).filter (fun n => bankOf n = a)

/-- The banks an active sweep excites (R216). -/
def Dev.excites (d : Dev) (a : Afe) : Bool := !d.bit IMP_CFG_MODE && (d.bankCells a).any d.masked

/-- A running sweep excites the bank. -/
def Dev.sweepOn (d : Dev) (a : Afe) : Bool := d.sweepLive && d.excites a

/-- The BPD die of a bank. -/
def bpdOf : Afe → Die | .L => .bpdL | .U => .bpdU

/-- The balance power die of a bank is fitted, powered and works: a head powers none (R13, R15, R294). -/
def Dev.hasBpd (d : Dev) (a : Afe) : Bool := d.role = .member && fits d.build (bpdOf a) && !d.dead (bpdOf a)

/-- The cells each side of a wire. -/
def Dev.wireCells (d : Dev) (j : Nat) : List Nat := [j, j + 1].filter (fun n => decide (1 ≤ n ∧ n ≤ d.cells))

/-- A cell's last result. -/
def Dev.result (d : Dev) (n : Nat) : Int := d.getS (CVW_FRES (bankOf n) (localOf n))

def Dev.flags (d : Dev) (n : Nat) : Nat := d.get (CVW_FFLG (bankOf n) (localOf n))

/-- The diagnostics run: member, MONITOR and above (R228). -/
def Dev.owdUp (d : Dev) : Bool := d.role = .member && d.monitoring

/-! ## The pull test (R229 to R234) -/

/-- DW (R229). -/
def Dev.owdDw (d : Dev) : Nat := max 1 ((12000 + d.wlen - 1) / d.wlen)

/-- PER in use (R244). -/
def Dev.owdPer (d : Dev) : Nat := max (d.get (OWD_CFG_PER .L)) (d.owdDw + 1)

/-- PERADJ after a commit of CVW group 0 or of OWD group 0 (R244). -/
def Dev.owdAdjust (d : Dev) : Dev := d.putB (OWD_STAT_PERADJ .L) (decide (d.get (OWD_CFG_PER .L) < d.owdDw + 1))

/-- The wires of a phase (Table 9-1). -/
def Dev.phaseWires (d : Dev) (ph : Nat) : List Nat :=
  let inner := rangeL 1 (d.cells - 1)
  match ph with
  | 0 | 1 => inner.filter (· % 2 = 1)
  | 2 => 0 :: inner.filter (· % 2 = 0)
  | _ => inner.filter (· % 2 = 0) ++ [d.cells]

/-- Expected sign of the response (Table 9-1). -/
def Dev.pullSign (d : Dev) (ph j : Nat) : Int :=
  if j = 0 ∨ j = d.cells then -1 else if ph % 2 = 0 then 1 else -1

/-- Comparator threshold code as a result (R246): 1.000 V + code × 5 mV. -/
def thrResult (code : Int) : Int := 10000000 + 50000 * code

/-- The OV and UV threshold codes of a cell in force, tightened while the device is in DEGRADED (R252). -/
def Dev.ovCode (d : Dev) (n : Nat) : Int :=
  (d.get (CMP_THR_OV (bankOf n) (localOf n)) : Int) - (if d.cur = .degraded then (d.get (CMP_DEG_DOV (bankOf n)) : Int) else 0)

def Dev.uvCode (d : Dev) (n : Nat) : Int :=
  (d.get (CMP_THR_UV (bankOf n) (localOf n)) : Int) + (if d.cur = .degraded then (d.get (CMP_DEG_DUV (bankOf n)) : Int) else 0)

/-- A cell moved by `shift` would come within OMARG of a threshold (R232). -/
def Dev.pullTooNear (d : Dev) (n : Nat) (shift : Int) : Bool :=
  let m : Int := (d.get (OWD_THR_OMARG .L) : Int) * 100000
  let x := d.result n + shift
  decide (thrResult (d.ovCode n) - m ≤ x ∨ x ≤ thrResult (d.uvCode n) + m)

/-- The pull moves the cell below the wire up, the cell above it down, or the reverse (R232). -/
def Dev.pullShift (ph j n : Nat) : Int :=
  let up : Bool := ph % 2 = 0
  if (n = j) = (up = true) then 1000000 else -1000000

/-- A wire is left out of a run (R232); `ref` is the block of the reference window. -/
def Dev.pullSkips (d : Dev) (ph : Nat) (ref : Option Closed) (j : Nat) : Bool :=
  let cs := d.wireCells j
  let refBad : Bool := match ref with
    | none => true
    | some c => c.bflags % 2 = 1 || c.bflags / 2 ^ 5 % 2 = 1 || c.bflags / 2 ^ 13 % 2 = 1
        || cs.any (fun n => (c.flg[n - 1]?).getD 1 % 2 = 1)
  refBad || cs.any (fun n => d.pullTooNear n (Dev.pullShift ph j n))
    || cs.any (fun n => d.sweepOn (bankOf n) || d.inCal (bankOf n))

/-- The class of a wire is shown (Table 9-7). -/
def Dev.showClass (d : Dev) (j c : Nat) : Dev := if j ≤ 36 then d.put (OWD_JSTAT_CLASS .L j) c else d

/-- A run starts in the window that opens (R229 to R232). -/
def Dev.owdRun (d : Dev) (ref : Option Closed) : Dev :=
  let ph := d.get (OWD_STAT_PHASE .L)
  let ws := d.phaseWires ph
  let skip := ws.filter (d.pullSkips ph ref)
  let go := ws.filter (fun j => !skip.contains j)
  let d := d.each skip (fun d j => (d.showClass j 5).countSat (OWD_SKIP .L) 1)
  let d := d.put (OWD_STAT_PHASE .L) ((ph + 1) % 4)
  let refx := (rangeL 1 d.cells).map d.result
  { d with owd := { d.owd with due := false, run := some ⟨ph, go, d.owdDw, refx⟩ } }

/-- A run starts with the window that opens, or was postponed to it (R229). -/
def Dev.owdDue (d : Dev) : Bool :=
  d.owd.due || decide (Int.fdiv (d.nextBoundary - d.epoch) d.wlen % (d.owdPer : Int) = 0)

/-- The window that opens starts or goes on with a run (R229); its wires are pulled. -/
def Dev.owdOpenRun (d : Dev) (ref : Option Closed) : Dev :=
  let d := match d.owd.run with
    | some _ => d
    | none =>
      if !d.owdUp ∨ !d.bit (OWD_CFG_EN .L) then { d with owd := { d.owd with due := false } }
      else if !d.owdDue then d
      else if d.win.quiet then { d with owd := { d.owd with due := true } }
      else d.owdRun ref
  match d.owd.run with
  | some r => { d with win := { d.win with pulled := r.wires } }
  | none => d

/-- An event of the wiring table (R245). -/
def Dev.wireEvent (d : Dev) (code j : Nat) (cells : List Nat) (cls : Nat) : Dev :=
  d.raise code 0 ([j] ++ cellMask cells ++ [cls, d.get (OWD_JSTAT_RP .L j)])

/-- A junction check is asked for (R237). -/
def Dev.jrequest (d : Dev) (j cls named cell : Nat) : Dev :=
  if d.owd.reqs.any (fun r => r.wire = j && r.named = named && r.cls = cls) then d
  else { d with owd := { d.owd with reqs := d.owd.reqs ++ [⟨j, cls, named, cell, 0⟩] } }

/-- A wire's response is classed (Table 9-2). -/
def Dev.pullClass (d : Dev) (sd : Int) (ovr : Bool) : Nat :=
  if ovr ∨ (d.get (OWD_THR_OTHR .L) : Int) * 100000 ≤ sd then 3
  else if (d.get (OWD_THR_HTHR .L) : Int) * 100000 ≤ sd then 2
  else if 500000 ≤ sd then 1 else 4

/-- The findings of a wire clear (R240). -/
def Dev.findClear (d : Dev) (j : Nat) (cells : List Nat) (cls : Nat) : Dev :=
  let d := { d with owd := { d.owd with
    finds := d.owd.finds.filter (fun g => g.1 ≠ j), refs := d.owd.refs.filter (fun g => g.1 ≠ j) } }
  let d := d.put (OWD_JSTAT_VERD .L j) 0
  let d := if j = 0 then d.put (OWD_STAT_REFBADL .L) 0 else d
  let d := if j = d.cells ∧ d.build = .F then d.put (OWD_STAT_REFBADU .L) 0 else d
  d.wireEvent 0x6007 j cells cls

/-- A finding clears after two NOMINAL runs in a row (R240). -/
def Dev.findRun (d : Dev) (j cls : Nat) : Dev :=
  match d.owd.finds.find? (fun f => f.1 = j), d.owd.refs.find? (fun f => f.1 = j) with
  | some f, _ =>
    let others := d.owd.finds.filter (fun g => g.1 ≠ j)
    if cls ≠ 1 then { d with owd := { d.owd with finds := (j, f.2.1, 0) :: others } }
    else if f.2.2 = 0 then { d with owd := { d.owd with finds := (j, f.2.1, 1) :: others } }
    else d.findClear j f.2.1 cls
  | none, some f =>
    let others := d.owd.refs.filter (fun g => g.1 ≠ j)
    if cls ≠ 1 then { d with owd := { d.owd with refs := (j, 0) :: others } }
    else if f.2 = 0 then { d with owd := { d.owd with refs := (j, 1) :: others } }
    else d.findClear j (d.wireCells j) cls
  | none, none => d

/-- OPEN confirmed on the lowest or the highest wire (R234): its reference is bad. -/
def Dev.refBad (d : Dev) (j : Nat) : Dev :=
  if j = 0 ∨ (j = d.cells ∧ d.build = .F) then
    let d := if j = 0 then d.put (OWD_STAT_REFBADL .L) 1 else d.put (OWD_STAT_REFBADU .L) 1
    if d.owd.finds.any (fun f => f.1 = j) then d
    else { d with owd := { d.owd with refs := (j, 0) :: d.owd.refs.filter (fun f => f.1 ≠ j) } }
  else d

/-- One wire at the end of a run (R233, R234). -/
def Dev.owdWire (d : Dev) (r : OwdRun) (j : Nat) : Dev :=
  let dx (n : Nat) : Int := d.result n - (r.refx[n - 1]?).getD 0
  let c := d.cells
  let s := d.pullSign r.phase j
  -- twice the response, so that the half of an inner wire stays exact
  let d2 : Int := if j = 0 then 2 * (dx 1 - dx 2) else if j = c then 2 * (dx c - dx (c - 1)) else dx j - dx (j + 1)
  let used := if j = 0 then [1, 2] else if j = c then [c, c - 1] else [j, j + 1]
  let ovr := (d.wireCells j).any (fun n => d.flags n / 2 % 2 = 1)
  if !ovr ∧ used.any (fun n => d.flags n % 2 = 1) then (d.showClass j 5).countSat (OWD_SKIP .L) 1
  else
    let cls := d.pullClass (Int.fdiv (s * d2) 2) ovr
    let rp := min 65535 (roundDiv (s * d2) 20000).toNat
    let before := (d.owd.last[j]?).getD 0
    let d := { d with owd := { d.owd with last := d.owd.last.set j cls } }
    -- a confirmed class and NOMINAL are shown with the RP of this run (R234), which the events that follow carry (R245)
    let shown := decide (cls = 1) || decide (before = cls)
    let d := if shown then (d.showClass j cls).put (OWD_JSTAT_RP .L j) rp else d
    let d := d.findRun j cls
    let again : List JReq := d.owd.again.filter (fun r => r.wire = j)
    let d := { d with owd := { d.owd with again := d.owd.again.filter (fun r => r.wire ≠ j) } }
    let d := if shown then { d with owd := { d.owd with conf := d.owd.conf.set j cls } } else d
    let d := if cls = 3 ∧ shown then d.refBad j else d
    let d := if cls ≠ 1 ∧ shown ∧ again.isEmpty then d.jrequest j cls 0 0 else d
    d.each again (fun d r => d.jrequest j ((d.owd.conf[j]?).getD 0) r.named r.cell)

/-- A window of a run closes; its last one is compared with the reference window (R233). -/
def Dev.owdCloseRun (d : Dev) : Dev :=
  match d.owd.run with
  | none => d
  | some r =>
    if 1 < r.left then { d with owd := { d.owd with run := some { r with left := r.left - 1 } } }
    else ({ d with owd := { d.owd with run := none } }).each r.wires (fun d j => d.owdWire r j)

/-- A run whose windows are lost is not evaluated, and its wires count as skipped (R241). -/
def Dev.owdLose (d : Dev) : Dev :=
  match d.owd.run with
  | none => { d with owd := { d.owd with jchk := [], probe := none, due := false } }
  | some r =>
    let d := d.each r.wires (fun d j => (d.showClass j 5).countSat (OWD_SKIP .L) 1)
    { d with owd := { d.owd with run := none, jchk := [], probe := none, due := false } }

/-- The window that opens while CORE resets (R241): a run that falls due is not made; its phase counts as skipped, wire by wire,
and checks wait on. -/
def Dev.owdOpenWarm (d : Dev) : Dev :=
  let d := { d with owd := { d.owd with reqs := d.owd.reqs.map (fun q => { q with age := q.age + 1 }) } }
  if d.role = .head ∨ !d.bit (OWD_CFG_EN .L) ∨ !d.owdDue then d
  else
    let ph := d.get (OWD_STAT_PHASE .L)
    let d := d.each (d.phaseWires ph) (fun d j => (d.showClass j 5).countSat (OWD_SKIP .L) 1)
    ({ d with owd := { d.owd with due := false } }).put (OWD_STAT_PHASE .L) ((ph + 1) % 4)

/-! ## The junction check (R237 to R240) -/

/-- The window that opens may hold the junction check of a wire (R237). -/
def Dev.jqualifies (d : Dev) (j : Nat) : Bool :=
  d.owdUp && d.bit (OWD_CFG_EN .L) && d.owd.run.isNone
    && (d.wireCells j).all (fun n => !d.sweepOn (bankOf n) && !d.inCal (bankOf n) && !d.plausSuspends (bankOf n))

/-- The die that holds the pair and the tap of a wire, with the wire's local number (R127). -/
def jdie (j : Nat) : Afe × Nat := if j ≤ 18 then (.L, j) else (.U, j - 18)

/-- The views a die converts in the check window of a wire (R238). -/
def jviews (j : Nat) (a : Afe) : List (Nat × Nat) :=
  let (b, k) := jdie j
  if a = b then [(11, k), (20, k)] ++ (if a = .L then [(9, 0)] else []) else if a = .L then [(9, 0)] else []

/-- The cells that a verdict affects (R240). -/
def Dev.verdictCells (d : Dev) (j v cell : Nat) : List Nat :=
  if v = 8 then [j - 1, j, j + 1, j + 2].filter (fun n => decide (1 ≤ n ∧ n ≤ d.cells))
  else if v = 4 then [cell] else d.wireCells j

/-- The event of a verdict (Table 9-8). -/
def verdictEvent (v : Nat) : Nat :=
  match v with | 1 | 8 => 0x6001 | 2 => 0x6002 | 3 => 0x6003 | 4 => 0x6004 | 7 => 0x6006 | _ => 0x6005

/-- A verdict is written and acts (R239, R240). -/
def Dev.verdict (d : Dev) (r : JReq) (v : Nat) : Dev :=
  let j := r.wire
  let cells := d.verdictCells j v r.cell
  let d := d.put (OWD_JSTAT_VERD .L j) v
  let d := if v = 1 ∨ v = 8 then
    { d with owd := { d.owd with
      finds := (j, cells, 0) :: d.owd.finds.filter (fun f => f.1 ≠ j), refs := d.owd.refs.filter (fun f => f.1 ≠ j) } } else d
  let d := if v = 1 ∧ j = 0 then d.put (OWD_STAT_REFBADL .L) 1 else d
  let d := if v = 1 ∧ j = d.cells ∧ d.build = .F then d.put (OWD_STAT_REFBADU .L) 1 else d
  d.wireEvent (verdictEvent v) j cells (d.get (OWD_JSTAT_CLASS .L j))

/-- The window that opens takes every junction check that may run in it (R237, log 87); the others wait, at most 1,000
windows. -/
def Dev.owdOpenCheck (d : Dev) : Dev :=
  let aged := (d.owd.reqs.filter (fun r => !d.jqualifies r.wire)).map (fun q => { q with age := q.age + 1 })
  let late := aged.filter (fun q => 1000 ≤ q.age)
  let d := { d with owd := { d.owd with
    jchk := d.owd.reqs.filter (fun r => d.jqualifies r.wire), reqs := aged.filter (fun q => q.age < 1000) } }
  d.each late (fun d q => d.verdict q 9)

/-- What a die converts in the window that opens, for the checks in it. -/
def Dev.checkViews (d : Dev) (a : Afe) : List (Nat × Nat) := (d.owd.jchk.flatMap (fun r => jviews r.wire a)).eraseDups

/-- The sum of the samples of a view, if all four slots ran. -/
def Dev.viewSum (d : Dev) (a : Afe) (view : Nat × Nat) : Option Int :=
  match (d.aux a).plaus with
  | none => none
  | some p =>
    if !p.junction ∨ p.next < p.samples ∨ p.skipped then none
    else ((p.jobs.zip p.sums).find? (fun x => x.1 = view)).map (fun x => (x.2.1 : Int))

/-- The row of Table 9-3 that the class and the checks match; `p` is true where check P is not made (R238). -/
def verdictOf (inner top bottom : Bool) (cls named : Nat) (made p t a : Bool) : Nat :=
  if cls = 4 then 7
  else if inner ∧ made ∧ cls = 3 ∧ !p then 8
  else if !bottom ∧ !top ∧ (cls = 3 ∨ cls = 0) ∧ p ∧ t ∧ !a then 1
  else if bottom ∧ cls = 3 ∧ !a then 1
  else if top ∧ cls = 3 ∧ !t ∧ !a then 1
  else if cls = 2 then 2
  else if (cls = 1 ∨ cls = 0) ∧ p ∧ t then (if named ≠ 0 then named else 5)
  else if (cls = 1 ∨ cls = 0) ∧ (!p ∨ !t) then 6
  else 9

/-- The checks P, T and A of a wire on the results of the window that closes, where every view has its mean (R238). -/
def Dev.checkPta (d : Dev) (j : Nat) (made : Bool) : Option (Bool × Bool × Bool) :=
  let (die, k) := jdie j
  let c := d.cells
  let valid (n : Nat) : Bool := decide (d.flags n % 2 = 0)
  match d.viewSum die (11, k), d.viewSum die (20, k), d.viewSum .L (9, 0) with
  | some sp, some st, some sm =>
    let pair : Int := 4 * (d.result j + d.result (j + 1)) - (2000 * sp - 40000000)
    let total := (rangeL 1 c).foldl (fun s n => s + d.result n) (0 : Int)
    some (!made || (valid j && valid (j + 1) && decide (|pair| ≤ 40000 * (d.get (OWD_THR_PTOL .L) : Int))),
      (rangeL 1 c).all valid && decide (|4 * total - 40000 * sm| ≤ 40000 * (d.get (OWD_TOL_TTOL .L) : Int)),
      decide (|100 * (st - 4 * 32768)| ≤ 40000 * (d.get (OWD_TOL_ATOL .L) : Int)))
  | _, _, _ => none

/-- The verdict of a check (Table 9-3): NOPULL and HIGHR need no view; else one that is missing leaves INCOMPLETE. -/
def Dev.checkVerdict (d : Dev) (r : JReq) : Nat :=
  let j := r.wire
  let inner : Bool := 0 < j && j < d.cells
  let made := inner && !(j = 18 && d.build = .F)
  if r.cls = 4 then 7 else if r.cls = 2 then 2
  else match d.checkPta j made with
    | some (p, t, a) => verdictOf inner (decide (j = d.cells)) (decide (j = 0)) r.cls r.named made p t a
    | none => 9

/-- The check window closes: the views are compared with the results and the verdicts are formed (R238, R239). -/
def Dev.owdCloseCheck (d : Dev) : Dev :=
  let checks := d.owd.jchk
  ({ d with owd := { d.owd with jchk := [] } }).each checks (fun d r =>
    let v := d.checkVerdict r
    let d := d.verdict r v
    if v = 9 then { d with owd := { d.owd with again := r :: d.owd.again.filter (fun q => q.wire ≠ r.wire || q.named ≠ r.named) } }
    else d)

/-- OWD_JREQ (R237). -/
def owdJreqDev (wire : Nat) (d : Dev) : Dev :=
  let d := d.put (OWD_CTRL_JWIRE .L) wire
  let j := d.get (OWD_CTRL_JWIRE .L)
  if d.owdUp ∧ d.bit (OWD_CFG_EN .L) ∧ j ≤ d.cells then d.jrequest j ((d.owd.conf[j]?).getD 0) 0 0 else d

/-- AUX_PLAUS_FAIL of a cell asks for the checks of its two wires (R237). -/
def Dev.plausRequests (d : Dev) (cells : List Nat) : Dev :=
  d.each cells (fun d n =>
    let cls (j : Nat) : Nat := (d.owd.conf[j]?).getD 0
    (d.jrequest (n - 1) (cls (n - 1)) 0 0).jrequest n (cls n) 0 0)

/-- A cell carries WIRE (R240). -/
def Dev.wireFlag (d : Dev) (n : Nat) : Bool := d.owd.finds.any (fun f => f.2.1.contains n)

/-! ## The tap probe (R235, R236) -/

/-- A probe or a stage fault counts, and two in a row are judged (R236). -/
def Dev.probeFailed (d : Dev) (n : Nat) : Dev :=
  let f (k : Nat) : Nat := (d.owd.fails[k - 1]?).getD 0
  let d := { d with owd := { d.owd with fails := d.owd.fails.set (n - 1) (f n + 1) } }
  if f n = 0 then d
  else
    let cls (j : Nat) : Nat := (d.owd.conf[j]?).getD 0
    if n < d.cells ∧ 0 < f (n + 1) then d.jrequest n (cls n) 3 n
    else if 1 < n ∧ 0 < f (n - 1) then d.jrequest (n - 1) (cls (n - 1)) 3 n
    else d.jrequest n (cls n) 4 n

/-- TAP_PROBE_END: the probe passes at 100 mA (R235). -/
def Dev.probeEnd (d : Dev) (meanmA : Int) : Dev :=
  match d.owd.probe with
  | none => d
  | some n =>
    let d := { d with owd := { d.owd with probe := none } }
    if meanmA < 100 then d.probeFailed n
    else { d with owd := { d.owd with fails := d.owd.fails.set (n - 1) 0 } }

/-- The window that opens may start a probe (R235); `busy` says that a cell is in RUN or HELD. -/
def Dev.owdOpenProbe (d : Dev) (busy : Nat → Bool) : Dev :=
  if !d.owdUp ∨ !d.bit (OWD_CFG_TEN .L) ∨ !fits d.build .bpdL then d
  else
    let k := d.owd.count + 1
    if k < d.get (OWD_TAP_TPER .L) then { d with owd := { d.owd with count := k } }
    else
      let n := d.owd.rot % d.cells + 1
      let d := { d with owd := { d.owd with count := 0, rot := n } }
      if busy n ∨ d.sweepOn (bankOf n) ∨ !d.hasBpd (bankOf n) ∨ d.owd.run.isSome ∨ d.win.quiet ∨ d.owd.probe.isSome then d
      else { d with owd := { d.owd with probe := some n } }

end Sys2Proof.Machine
end

