-- ==== Sys2Proof/Machine/Balance.lean ====
section
/-!
DEFINITION. Active balancing and the charge ledger (07): which stage may switch, the plan and its periods, pauses and
ends, the setpoint and stage tests, compensation, and the ledger.
-/

namespace Sys2Proof.Machine

/-! ## Which stages switch -/

/-- State of a cell in the plan (Table 7-1). -/
def csIdle : Nat := 0
def csRun : Nat := 1
def csPaused : Nat := 2
def csHeld : Nat := 3
def csDone : Nat := 4
def csFault : Nat := 5
def csStopped : Nat := 6

def Dev.cellState (d : Dev) (n : Nat) : Nat := d.get (BAL_CSTS_STATE n)

/-- The cells of the device. -/
def Dev.allCells (d : Dev) : List Nat := rangeL 1 d.cells

/-- The cells of a plan: DIR is not idle. -/
def Dev.planCells (d : Dev) : List Nat := d.allCells.filter (fun n => d.get (BAL_CSET_DIR n) ≠ 0)

/-- A cell takes part in the plan and has not ended. -/
def Dev.inPlan (d : Dev) (n : Nat) : Bool :=
  d.cellState n = csRun || d.cellState n = csPaused || d.cellState n = csHeld

/-- A wire next to the cell is pulled, or its check runs (Table 7-4, R237). -/
def Dev.wireHeld (d : Dev) (n : Nat) : Bool :=
  d.win.pulled.contains (n - 1) || d.win.pulled.contains n
    || d.owd.jchk.any (fun r => r.wire = n - 1 || r.wire = n)

/-- The stage of a cell may switch in the period that starts now (R22, R183, R195, Table 7-4). -/
def Dev.maySwitch (d : Dev) (n : Nat) : Bool :=
  let a := bankOf n
  d.hasBpd a && d.tbRuns && d.bal.idleTo.all (fun t => decide (t ≤ d.mtick)) && !d.bit (BPS_STAT_OTS a) && decide (d.get (BZL_STAT_STATE a) ≠ 2) && decide (d.cur ≠ .safe)
    && decide (d.cur ≠ .degraded) && !d.inCal a && !d.wireHeld n
    && (if d.sweepOn a then d.masked n
        else !d.win.quiet && (d.owd.probe = some n
          || (d.bit BAL_STAT_ACTIVE && d.cellState n = csRun && decide (0 < d.get (BAL_CSTS_IEFF n)))))

/-- BPS_STAT.SW of both dies. -/
def Dev.showSw (d : Dev) : Dev :=
  let on := d.bal.live ++ d.bal.tail.map (·.1)
  d.each [Afe.L, Afe.U] (fun d a => if d.hasBpd a then d.putB (BPS_STAT_SW a) (on.any (fun n => bankOf n = a)) else d)

/-- The stages that switch from now on: BPS_STAT.SW and the window in progress show them. A stage that stops completes
the period in progress (R179), and so does one that another activity takes over, for the one that drove it. -/
def Dev.seeStages (d : Dev) : Dev :=
  let live := d.allCells.filter d.maySwitch
  let fresh := live.filter (fun n => !d.win.switched.contains n)
  let swept := [Afe.L, Afe.U].filter d.sweepOn
  let was (n : Nat) : Bool := d.bal.swept.contains (bankOf n)
  let gone := d.bal.live.filter (fun n => !live.contains n || was n != swept.contains (bankOf n))
  ({ d with
    bal := { d.bal with live := live, tail := d.bal.tail ++ gone.map (fun n => (n, !was n)), swept := swept }
    win := { d.win with switched := d.win.switched ++ fresh } }).showSw

/-- The stages after a step of the count: until the first period start they idle (R380). -/
def Dev.stepStages (d : Dev) : Dev :=
  if d.bal.idleTo.any (fun t => decide (d.mtick < t)) then
    ({ d with bal := { d.bal with live := [], tail := [] } }).seeStages
  else d

/-- The period in progress of a bank is over: stages that may not go on have stopped (R179). -/
def Dev.periodOver (d : Dev) (a : Afe) : Dev :=
  let b := d.bal
  ({ d with bal := { b with
    live := b.live.filter (fun n => bankOf n ≠ a || d.maySwitch n), tail := b.tail.filter (fun t => bankOf t.1 ≠ a) } }).seeStages

/-- Stages of a die that is lost or resets stop at once. -/
def Dev.stagesLost (d : Dev) (a : Afe) : Dev :=
  let b := d.bal
  ({ d with bal := { b with
    live := b.live.filter (fun n => bankOf n ≠ a), tail := b.tail.filter (fun t => bankOf t.1 ≠ a) } }).seeStages

/-- Stages that were stopped within a period go on to its end in the window that opens (R179, R106), `within` saying that the
boundary is no period start; but a plan's stages idle in every period that overlaps a quiet window (R195), and those
of a pulled wire in every period that overlaps the pull (Table 7-4). At a period start the period is over (log 124). -/
def Dev.tailOpen (d : Dev) (within : Bool) : Dev :=
  let on := (d.bal.tail.filter (fun t => !d.wireHeld t.1 && !(t.2 && d.win.quiet))).map (·.1)
  if within then
    { d with win := { d.win with switched := d.win.switched ++ on.filter (fun n => !d.win.switched.contains n) } }
  else ({ d with bal := { d.bal with tail := [] } }).showSw

/-! ## MCLK -/

/-- A plan keeps the clocks of WATCH running for a bank (R187). -/
def Dev.planClock (d : Dev) (a : Afe) : Bool := d.tbRuns && d.planCells.any (fun n => bankOf n = a)

/-- MCLK of a bank runs (Table 3-7). -/
def Dev.bankClock (d : Dev) (a : Afe) : Bool := (d.mclkOn || d.planClock a) && d.banks.contains a

/-- Where MCLK stops, the cycles until it is seen again do not count (Table 4-3). -/
def Dev.seeMclk (d : Dev) : Dev :=
  if d.mclkOn || d.planClock .L || d.planClock .U then d else { d with win := { d.win with still := true } }

/-! ## Pauses (R199) -/

/-- Bits of BAL_STAT.PAUSE (Table 7-6). -/
def pSweep : Nat := 1
def pCall : Nat := 2
def pCalu : Nat := 4
def pDegraded : Nat := 8
def pTrip : Nat := 16
def pGirdle : Nat := 32

/-- A trip holds: the device is in SAFE or a Bezel block of it is tripped. -/
def Dev.tripHolds (d : Dev) : Bool := d.cur = .safe || d.banks.any (fun a => d.get (BZL_STAT_STATE a) = 2)

/-- The carrier is present at the device's Girdle input (R260). -/
def Dev.carrierIn (d : Dev) : Bool := d.bit (BZL_STAT_GIN .L)

/-- The pause causes of Table 7-4 that hold now. -/
def Dev.pauseHolds (d : Dev) : Nat :=
  (if d.sweepOn .L ∨ d.sweepOn .U then pSweep else 0) + (if d.inCal .L then pCall else 0) + (if d.inCal .U then pCalu else 0)
    + (if d.cur = .degraded then pDegraded else 0) + (if d.tripHolds then pTrip else 0)
    + (if d.bit BAL_PCFG_GSTOP ∧ !d.inLegacy ∧ !d.carrierIn then pGirdle else 0)

/-- The pause causes concern a bank. -/
def Dev.bankPaused (d : Dev) (causes : Nat) (a : Afe) : Bool :=
  decide (8 ≤ causes) || (causes % 2 = 1 && d.excites a) || decide (causes / (2 * calBit a) % 2 = 1)

/-- The state that a cell of the plan takes under the causes in force (R185, Table 7-1). -/
def Dev.cellGo (d : Dev) (n : Nat) : Nat :=
  if d.bankPaused (d.get BAL_STAT_PAUSE) (bankOf n) then csPaused
  else if d.get (BAL_CSET_TTYP n) = 2 ∧ !d.integrates (bankOf n) then csHeld
  else csRun

/-- The cells of the plan take the states that pauses and converters call for. -/
def Dev.balCells (d : Dev) : Dev :=
  if d.bit BAL_STAT_ACTIVE then
    (d.each (d.allCells.filter d.inPlan) (fun d n => d.put (BAL_CSTS_STATE n) (d.cellGo n))).seeStages
  else d.seeStages

/-! ## Start, end and interruption -/

/-- The plan ends (R186): all stages stop, cells in RUN or HELD take STOPPED, and the event counts the outcomes. -/
def Dev.balEnd (d : Dev) (cause : Nat) : Dev :=
  let cells := d.planCells
  let d := d.each (d.allCells.filter d.inPlan) (fun d n => d.put (BAL_CSTS_STATE n) csStopped)
  let d := (((d.put BAL_STAT_ACTIVE 0).put BAL_STAT_ENDC cause).put BAL_STAT_PAUSE 0).put BAL_STAT_PAUSED 0
  let d := { d with bal := { d.bal with stop := false, held := false } }
  let count (s : Nat) : Nat := (d.allCells.filter (fun n => d.cellState n = s)).length
  let d := d.raise 0x4002 0 (cellMask cells ++ [cause, count csDone, count csFault, count csStopped])
  (d.seeStages.budgetEval 3).seeMclk

/-- A happening of Table 7-4 with its pause bit: the plan pauses, or ends at a trip without TRESUME (R181, R199). -/
def Dev.balInterrupt (d : Dev) (bit : Nat) : Dev :=
  if !d.bit BAL_STAT_ACTIVE then d.seeStages
  else if bit = pTrip ∧ !d.bit BAL_PCFG_TRESUME ∧ !d.bal.held then d.balEnd 4
  else
    let p := d.get BAL_STAT_PAUSE
    if p / bit % 2 = 1 then d.seeStages
    else
      let hit := d.allCells.filter (fun n => d.inPlan n && d.bankPaused bit (bankOf n))
      let d := ((d.put BAL_STAT_PAUSE (p + bit)).put BAL_STAT_PAUSED 1).balCells
      d.raise 0x4003 0 (cellMask hit ++ [p + bit])

/-- BAL_START (R181). -/
def balStartDev (d : Dev) : Dev :=
  if d.planLive then d else (d.put BAL_STAT_SPEND 1).budgetEval 3

/-- BAL_STOP (R181, R186). -/
def balStopDev (d : Dev) : Dev :=
  if d.bit BAL_STAT_ACTIVE then
    (if d.bal.live.isEmpty then d.balEnd 3 else { d with bal := { d.bal with stop := true } })
  else if d.bit BAL_STAT_SPEND then (d.put BAL_STAT_SPEND 0).budgetEval 3
  else d

/-! ## Setpoints (R189, R190) -/

/-- What the junction temperature, in 0.1 °C, leaves of a setpoint (R190). -/
def tempLimit (iset tder : Nat) (tj : Int) : Nat :=
  if tj ≤ 10 * (tder : Int) then iset
  else if 1400 ≤ tj then 0
  else ((iset : Int) * (1400 - tj) / (1400 - 10 * (tder : Int))).toNat

/-- The effective setpoints of a die follow the plan's and the junction temperature (R189, R190). -/
def Dev.setpoints (d : Dev) (a : Afe) : Dev :=
  let tj := d.getS (BPS_STAT_TJ a)
  let eff (n : Nat) : Nat := min ((d.bal.iset[n - 1]?).getD 0) (tempLimit (d.get (BAL_CSET_ISET n)) (d.get BAL_LIM_TDER) tj)
  let cells := (d.bankCells a).filter d.inPlan
  let der := cells.any (fun n => eff n < d.get (BAL_CSET_ISET n))
  let d := d.each cells (fun d n => d.put (BAL_CSTS_IEFF n) (eff n))
  d.putB (BPS_STAT_DER a) (d.bit BAL_STAT_ACTIVE && der)

/-- The index of a BPD die. -/
def bpdIdx : Afe → Nat | .L => 0 | .U => 1

/-- Dissipation derating at a plan-period start (R189): it answers the highest dissipation that an interval has metered
since the last one, and lowers the setpoints that are in effect. -/
def Dev.derate (d : Dev) (a : Afe) : Dev :=
  if !d.hasBpd a then d
  else
    let p := (d.bal.peak[bpdIdx a]?).getD 0
    let run := (d.bankCells a).filter (fun n => d.cellState n = csRun)
    let was (n : Nat) : Nat := (d.bal.iset[n - 1]?).getD 0
    let full (n : Nat) : Nat := d.get (BAL_CSET_ISET n)
    let new (n : Nat) : Nat := if 3000 < p then d.get (BAL_CSTS_IEFF n) * 2800 / p
      else if max p (d.get (BPS_PDISS a)) < 2600 then min (full n) (was n + (full n + 9) / 10) else was n
    let d := { d with bal := { d.bal with
      iset := run.foldl (fun l n => l.set (n - 1) (new n)) d.bal.iset, peak := d.bal.peak.set (bpdIdx a) 0 } }
    let said : Bool := match a with | .L => d.bal.derL | .U => d.bal.derU
    let d := if 3000 < p ∧ !run.isEmpty ∧ !said then
        (match a with
          | .L => { d with bal := { d.bal with derL := true } }
          | .U => { d with bal := { d.bal with derU := true } }).raise 0x4012 0 (cellMask run)
      else d
    d.setpoints a

/-- BPD_METER_INTERVAL (R189, R190): what the die meters; a sweep's limit is judged with it. -/
def Dev.meterInterval (d : Dev) (a : Afe) (mw : Nat) (tj : Int) : Dev :=
  let i := bpdIdx a
  let d := { d with bal := { d.bal with peak := d.bal.peak.set i (max mw ((d.bal.peak[i]?).getD 0)) } }
  ((d.put (BPS_PDISS a) (min 65535 mw)).putS (BPS_STAT_TJ a) (max (-32768) (min 32767 tj))).setpoints a

/-- The die stops at 140 °C (R190). -/
def Dev.overtemp (d : Dev) (a : Afe) (tj : Int) : Dev :=
  let hit := (d.bankCells a).filter (fun n => d.bal.live.contains n || d.inPlan n)
  let d := ((d.putS (BPS_STAT_TJ a) (max (-32768) (min 32767 tj))).put (BPS_STAT_OTS a) 1).setpoints a
  d.seeStages.raise 0x4013 0 (cellMask hit)

/-- BPD_TEMP_RECOVERED (R190). -/
def bpdTempRecoveredDev (a : Afe) (tj : Int) (d : Dev) : Dev :=
  if d.bit (BPS_STAT_OTS a) then
    (((d.putS (BPS_STAT_TJ a) (max (-32768) (min 32767 tj))).put (BPS_STAT_OTS a) 0).setpoints a).seeStages
  else d

/-! ## The ledger (R196 to R198, R555) -/

def emptyLed : StageLed := ⟨0, 0, 0, 0, 0, 0, 0, 0, false, false⟩

def Dev.stageLed (d : Dev) (n : Nat) : StageLed := (d.bal.led[n - 1]?).getD emptyLed

/-- What a stage has metered over a switching period enters its interval. -/
def Dev.meterStage (d : Dev) (m : StageMeter) : Dev :=
  let s := d.stageLed m.cell
  let s := { s with
    qc := s.qc + m.qc, ec := s.ec + m.ec, em := s.em + m.em, es := s.es + m.es, ip2 := s.ip2 + m.ip2, is2 := s.is2 + m.is2 }
  { d with bal := { d.bal with led := d.bal.led.set (m.cell - 1) s } }

/-- The module-bus voltage of a switching period enters the interval of a die (R555). -/
def Dev.meterBus (d : Dev) (a : Afe) (mv : Nat) : Dev :=
  let (s, k) := (d.bal.bus[bpdIdx a]?).getD (0, 0)
  { d with bal := { d.bal with bus := d.bal.bus.set (bpdIdx a) (s + mv, k + 1) } }

/-- Raise a 64-bit counter in nAh by an amount in 2⁻¹⁶ nAh; the fraction is kept. -/
def Dev.ledgerAdd (d : Dev) (lo hi : Fld) (frac amount : Nat) : Nat × Dev :=
  let t := frac + amount
  (t % 65536, d.put64 lo hi ((d.get64 lo hi + t / 65536) % 2 ^ 64))

/-- An energy divided by a voltage `num ÷ den` in V, in 2⁻¹⁶ nAh; a voltage without a value leaves the charge free. -/
def referCharge (energy num den draw : Nat) : Nat :=
  if energy = 0 then 0
  else if num = 0 ∨ den = 0 then Config.referredCharge draw
  else (roundDiv (energy * den : Nat) num).toNat

/-- The loss energy of a stage over its interval (R197), in 2⁻¹⁶ nWh × 7.2 × 10⁹: switches, and both windings, whose RMS
currents squared meet RWP in 0.1 mΩ and RWS in 10 mΩ over periods of 5 µs. -/
def Dev.lossEnergy (d : Dev) (s : StageLed) : Nat :=
  7200000000 * s.es + 65536 * (d.get BAL_XFMR_RWP * s.ip2 + 100 * d.get BAL_XFMR_RWS * s.is2)

/-- QM, QL and the raw module charge of a stage's interval (R197, R555), in 2⁻¹⁶ nAh: module-side energy and loss divided
by V̄, and module-side energy divided by the mean module-bus voltage. -/
def Dev.intervalCharges (d : Dev) (a : Afe) (s : StageLed) : Int × Nat × Nat :=
  let q := s.qc.natAbs
  let qm := referCharge s.em s.ec q d.draws
  let (sum, k) := (d.bal.bus[bpdIdx a]?).getD (0, 0)
  (if s.qc < 0 then -(qm : Int) else qm, referCharge (d.lossEnergy s) (7200000000 * s.ec) q (d.draws + 1),
    referCharge s.em sum (1000 * k) (d.draws + 2))

/-- One stage at a plan-period start (R197, R198, R555): its counters rise, and its residual is judged. Answers the
residual in 2⁻¹⁶ nAh. -/
def Dev.reconcileStage (d : Dev) (a : Afe) (n : Nat) : Int × Dev :=
  let s := d.stageLed n
  let k := localOf n
  let q := s.qc.natAbs
  let (qm, ql, mb) := d.intervalCharges a s
  let d := { d with draws := d.draws + 3 }
  let (fout, d) := if 0 < s.qc then d.ledgerAdd (BPS_QOUTL a k) (BPS_QOUTH a k) s.fout q else (s.fout, d)
  let (fin, d) := if s.qc < 0 then d.ledgerAdd (BPS_QINL a k) (BPS_QINH a k) s.fin q else (s.fin, d)
  let i := match a with | .L => 0 | .U => 3
  let f (j : Nat) : Nat := (d.bal.fmb[i + j]?).getD 0
  let (f0, d) := if 0 < s.qc then d.ledgerAdd (BPS_MBINL a) (BPS_MBINH a) (f 0) mb else (f 0, d)
  let (f1, d) := if s.qc < 0 then d.ledgerAdd (BPS_MBOUTL a) (BPS_MBOUTH a) (f 1) mb else (f 1, d)
  let (f2, d) := d.ledgerAdd (BPS_LOSSL a) (BPS_LOSSH a) (f 2) ql
  let d := { d with bal := { d.bal with fmb := ((d.bal.fmb.set i f0).set (i + 1) f1).set (i + 2) f2 } }
  let res := s.qc - qm - ql
  let bad : Bool := !d.bal.skip
    && decide ((d.get BAL_LCHK_LTOLP : Int) * (q : Int) + 1000 * 65536 * (d.get BAL_LCHK_LTOLA : Int) < 1000 * |res|)
  let due := bad && s.bad && !s.said
  let d := { d with bal := { d.bal with
    led := d.bal.led.set (n - 1) { emptyLed with fout := fout, fin := fin, bad := bad, said := bad && (s.said || due) } } }
  (res, if due then d.raise 0x4010 0 [n, ofSigned 32 (roundDiv res 65536)] else d)

/-- The ledger interval ends (R197): every stage of a die is reconciled, and the largest residual is shown. -/
def Dev.reconcile (d : Dev) (a : Afe) : Dev :=
  if !d.hasBpd a then d
  else
    let (best, d) := (d.bankCells a).foldl (fun (acc : (Int × Nat) × Dev) n =>
      let (r, d) := acc.2.reconcileStage a n
      (if acc.1.1.natAbs < r.natAbs then (r, localOf n) else acc.1, d)) ((0, 0), d)
    let d := { d with bal := { d.bal with bus := d.bal.bus.set (bpdIdx a) (0, 0) } }
    if d.bal.skip then d
    else (d.putS (BPS_LRES a) (roundDiv best.1 65536)).put (BPS_LRCELL a) best.2

/-! ## Switching periods (R183, R184) -/

/-- A cell reaches its target (R184, R185). -/
def Dev.cellDone (d : Dev) (n : Nat) : Dev :=
  let d := d.put (BAL_CSTS_STATE n) csDone
  if d.bit BAL_PCFG_CDEV then d.raise 0x4005 0 [n] else d

/-- The plan drives the stage of a cell in the period in progress, or has stopped it within that period. -/
def Dev.planDrives (d : Dev) (n : Nat) : Bool :=
  (d.bit BAL_STAT_ACTIVE && d.cellState n = csRun && d.owd.probe ≠ some n) || d.bal.tail.contains (n, true)

/-- The plan charge of a cell in the direction of DIR (R184). -/
def Dev.progress (d : Dev) (m : StageMeter) : Dev :=
  let n := m.cell
  if !d.planDrives n then d
  else
    let q := if d.get (BAL_CSET_DIR n) = 2 then -m.qc else m.qc
    let t := (((d.bal.prog[n - 1]?).getD 0 : Nat) : Int) + q
    let t := t.toNat
    let d := { d with bal := { d.bal with prog := d.bal.prog.set (n - 1) t } }
    let d := d.put (BAL_CPROG n) (min 0xFFFFFFFF (t / 65536))
    if d.get (BAL_CSET_TTYP n) = 1 ∧ d.get (BAL_CTGT_TGT n) ≤ t / 65536 ∧ d.inPlan n then d.cellDone n else d

/-- The stages of a bank that have switched in the period that ends. -/
def Dev.periodStages (d : Dev) (a : Afe) (ms : List StageMeter) : List StageMeter :=
  ms.filter (fun m => (d.bal.live.contains m.cell || d.bal.tail.any (fun t => t.1 = m.cell)) && bankOf m.cell = a)

/-- SWITCHING_PERIOD_END: a period of a bank ends (R177, R179, R184, R186); what its stages metered enters the ledger. A
stage that a CORE warm reset stopped completes its period too (R47). After a change of EPOCH or a step of the count, the first
period that no stage had begun before it is the first of the new train (R178, R380). -/
def Dev.periodEnd (d : Dev) (a : Afe) (mv : Nat) (ms : List StageMeter) : Dev :=
  if !d.hasBpd a ∨ !(d.tbRuns || !d.bal.tail.isEmpty) then d
  else
    let d := if d.bal.idleTo.isSome ∧ d.bal.tail.isEmpty then ({ d with bal := { d.bal with idleTo := none } }).seeStages else d
    let ms := d.periodStages a ms
    let d := if ms.isEmpty then d else d.meterBus a mv
    let d := d.each ms (fun d m => (d.meterStage m).progress m)
    let d := if d.bal.stop ∧ d.bit BAL_STAT_ACTIVE then d.balEnd 3 else d
    d.periodOver a

/-! ## Plan periods (R180 to R182, R186) -/

/-- A plan period starts at the present boundary (R180). -/
def Dev.planBoundary (d : Dev) (newTrain : Bool) : Bool :=
  newTrain || decide (Int.fdiv ((d.mtick : Int) - d.epoch) d.wlen % (max 1 (d.get BAL_PCFG_PWIN) : Int) = 0)

/-- Zeros by cell. -/
def zeros36 : List Nat := List.replicate 36 0

/-- A cell begins to run: its plan charge is cleared and its setpoint is whole. -/
def Dev.cellStart (d : Dev) (n : Nat) : Dev :=
  let d := { d with bal := { d.bal with
    tail := d.bal.tail.map (fun (t : Nat × Bool) => if t.1 = n then (n, false) else t)
    prog := d.bal.prog.set (n - 1) 0, iset := d.bal.iset.set (n - 1) (d.get (BAL_CSET_ISET n)), miss := d.bal.miss.set (n - 1) 0 } }
  let d := (d.put (BAL_CPROG n) 0).put (BAL_CSTS_IEFF n) 0
  d.put (BAL_CSTS_STATE n) (if d.get (BAL_CSET_DIR n) = 0 then csIdle else d.cellGo n)

/-- A pending plan becomes active (R181). -/
def Dev.balActivate (d : Dev) : Dev :=
  let d := (((d.put BAL_STAT_SPEND 0).put BAL_STAT_ACTIVE 1).put BAL_STAT_PCNT 0).put BAL_STAT_ENDC 0
  let holds := d.pauseHolds
  let d := (d.put BAL_STAT_PAUSE holds).putB BAL_STAT_PAUSED (holds ≠ 0)
  let d := { d with bal := { d.bal with
    stop := false, held := decide (holds / pTrip % 2 = 1), ran := 0, derL := false, derU := false } }
  let d := d.each d.allCells Dev.cellStart
  let d := (d.setpoints .L).setpoints .U
  let d := d.raise 0x4001 0 (cellMask d.planCells)
  if holds = 0 then d else d.raise 0x4003 0 (cellMask (d.allCells.filter (fun n => d.cellState n = csPaused)) ++ [holds])

/-- An active plan at a later plan-period start: it counts, resumes what may resume, derates or ends. -/
def Dev.balPeriod (d : Dev) : Dev :=
  let ran := d.bal.ran + 1
  let d := ({ d with bal := { d.bal with ran := ran } }).countMod BAL_STAT_PCNT 1
  if d.get BAL_PTMAX ≠ 0 ∧ d.get BAL_PTMAX ≤ ran then d.balEnd 2
  else
    let was := d.get BAL_STAT_PAUSE
    let holds := d.pauseHolds
    -- a cause that no happening announced: GSTOP was committed with the carrier absent
    let d := if holds / pGirdle % 2 = 1 then d.balInterrupt pGirdle else d
    let now := (was &&& holds) ||| (if holds / pGirdle % 2 = 1 then pGirdle else 0)
    let back := d.allCells.filter (fun n => d.cellState n = csPaused && !d.bankPaused now (bankOf n))
    let d := ((d.put BAL_STAT_PAUSE now).putB BAL_STAT_PAUSED (now ≠ 0)).balCells
    let d := { d with bal := { d.bal with held := d.bal.held && decide (now / pTrip % 2 = 1) } }
    let d := if was ≠ 0 ∧ now = 0 then d.raise 0x4004 0 (cellMask back ++ [was]) else d
    (d.derate .L).derate .U

/-- The start of a plan period, after the BAL groups were evaluated (R180, R181, R186, R197). -/
def Dev.planPeriodStart (d : Dev) : Dev :=
  let d := (d.reconcile .L).reconcile .U
  let d := { d with bal := { d.bal with skip := false } }
  let d := if d.bit BAL_STAT_SPEND then d.balActivate else if d.bit BAL_STAT_ACTIVE then d.balPeriod else d
  let d := if d.bit BAL_STAT_ACTIVE ∧ !d.allCells.any d.inPlan then d.balEnd 1 else d
  d.seeStages

/-- An accepted commit of BAL group 1 (R182): `old` holds CSET and CTGT by cell as they were. -/
def Dev.balPlanChanged (d : Dev) (old : List (Word × Word)) : Dev :=
  if !d.bit BAL_STAT_ACTIVE then d
  else d.each d.allCells (fun d n =>
    let new := (d.word (BAL_CSET_DIR n).addr, d.word (BAL_CTGT_TGT n).addr)
    if d.cellState n = csFault ∨ old[n - 1]? = some new then d else d.cellStart n)

/-! ## At a window boundary -/

/-- I(n) of the window that closes, in mA (R192). -/
def stageCurrent (w : WinIn) (n : Nat) : Int := ((w.stages.find? (fun s => s.cell = n)).map (·.cellmA)).getD 0

/-- The compensation C of a cell, where its result carries CMP (R192, R193). -/
def Dev.compOf (d : Dev) (w : WinIn) (n : Nat) : Option Int :=
  let rw (j : Nat) : Int := d.getS (BAL_RW j)
  let cur (m : Nat) : Int := if 1 ≤ m ∧ m ≤ d.cells then stageCurrent w m else 0
  if 36 < n ∨ !near d.win.switched n ∨ (rw (n - 1) = 0 ∧ rw n = 0) then none
  else some (roundDiv (rw n * (cur (n + 1) - cur n) - rw (n - 1) * (cur n - cur (n - 1))) 1000)

/-- A stage misses its setpoint for the third window in a row (R191): FAULT, and the probe judgement of R236. -/
def Dev.stageTest (d : Dev) (w : WinIn) (len n : Nat) : Dev :=
  let i := stageCurrent w n
  let eff : Int := 10 * (d.get (BAL_CSTS_IEFF n) : Int)
  let want := if d.get (BAL_CSET_DIR n) = 2 then -eff else eff
  if len < 1920 ∨ d.cellState n ≠ csRun ∨ !d.bal.live.contains n ∨ d.sweepOn (bankOf n) ∨ d.owd.probe = some n then d
  else
    let missed : Bool := decide (20 * eff + 5000 < 100 * |i - want|)
    let k := if missed then (d.bal.miss[n - 1]?).getD 0 + 1 else 0
    let d := { d with bal := { d.bal with miss := d.bal.miss.set (n - 1) k } }
    if k < 3 then d
    else ((d.put (BAL_CSTS_STATE n) csFault).raise 0x4011 0 [n, ofSigned 32 i]).probeFailed n

/-- A cell with a voltage target is compared with it (R185). -/
def Dev.voltageTarget (d : Dev) (quiet : Bool) (n : Nat) : Dev :=
  if d.get (BAL_CSET_TTYP n) ≠ 2 ∨ !(d.cellState n = csRun || d.cellState n = csHeld) ∨ d.flags n % 4 ≠ 0
      ∨ (d.get BAL_PCFG_QK ≠ 0 ∧ !quiet) then d
  else
    let x := d.result n
    let tgt := d.getS (BAL_CTGT_TGT n)
    if (d.get (BAL_CSET_DIR n) = 1 ∧ x ≤ tgt) ∨ (d.get (BAL_CSET_DIR n) = 2 ∧ tgt ≤ x) then d.cellDone n else d

/-- The window, or the interval in WATCH, that closes: stage currents, targets (R185, R191, R192). -/
def Dev.balWindow (d : Dev) (w : WinIn) (len : Nat) (results : Bool) : Dev :=
  let d := d.each d.allCells (fun d n => d.putS (BAL_CSTS_ILAST n) (max (-32768) (min 32767 (stageCurrent w n))))
  if !d.bit BAL_STAT_ACTIVE then d
  else
    let d := d.each d.allCells (fun d n => d.stageTest w len n)
    if results then
      d.each d.allCells (fun d n => d.voltageTarget d.win.quiet n)
    else d

/-- The window that opens, or in WATCH the interval, is a quiet window of the plan (R195). -/
def Dev.quietOpen (d : Dev) : Dev :=
  let qk := d.get BAL_PCFG_QK
  let b := if d.win.opened then d.nextBoundary else boundaryFrom d.wlen d.epoch ((d.mtick : Int) + 1)
  let idx := Int.fdiv (b - d.epoch) d.wlen
  let q : Bool := d.bit BAL_STAT_ACTIVE && decide (2 ≤ qk) && decide (idx % (qk : Int) = 0)
  { d with win := { d.win with quiet := q } }

/-- A cell is in RUN or HELD (R235). -/
def Dev.cellBusy (d : Dev) (n : Nat) : Bool := d.cellState n = csRun || d.cellState n = csHeld

/-! ## Loss of a die and of the planner -/

/-- The BPD die of a bank is lost or reset (Table 7-4): its cells take FAULT. -/
def Dev.balDieLost (d : Dev) (a : Afe) : Dev :=
  (d.each ((d.bankCells a).filter d.inPlan) (fun d n => d.put (BAL_CSTS_STATE n) csFault)).stagesLost a

/-- A power-on or die reset of the BPD die sets its ledger to zero (R196). -/
def Dev.ledgerReset (d : Dev) (a : Afe) : Dev :=
  let i := match a with | .L => 0 | .U => 3
  { d with bal := { d.bal with
    led := d.bal.led.zipIdx.map (fun (s, j) => if bankOf (j + 1) = a then emptyLed else s)
    fmb := ((d.bal.fmb.set i 0).set (i + 1) 0).set (i + 2) 0 } }

/-- A CORE warm reset loses the plan and keeps the ledger (R47, R198). -/
def Dev.balWarm (d : Dev) : Dev :=
  { d with bal := { d.bal with
    live := [], tail := (d.bal.tail.map (·.1) ++ d.bal.live).map (fun n => (n, false)), swept := [], stop := false, held := false
    ran := 0, peak := [0, 0], iset := zeros36, prog := zeros36, miss := zeros36
    derL := false, derU := false, skip := true } }

end Sys2Proof.Machine
end

