-- ==== Sys2Proof/Machine/Cal.lean ====
section
/-!
DEFINITION. Calibration and trim (06): sessions, points, the computation and the checks of a trim set, and its store.
-/

namespace Sys2Proof.Machine

def Dev.cal (d : Dev) : Afe → CalSt | .L => d.calL | .U => d.calU

def Dev.setCal (d : Dev) (a : Afe) (c : CalSt) : Dev :=
  match a with | .L => { d with calL := c } | .U => { d with calU := c }

def Dev.setSess (d : Dev) (a : Afe) (s : Option CalSess) : Dev := d.setCal a { d.cal a with sess := s }

/-- The stored and the factory set of a bank. -/
def Dev.storedSet (d : Dev) : Afe → TrimSet | .L => d.nvm.calL | .U => d.nvm.calU
def Dev.factorySet (d : Dev) : Afe → TrimSet | .L => d.nvm.factL | .U => d.nvm.factU

/-- Show a trim set in the registers (R154, Tables 6-6 and 6-7). -/
def Dev.showSet (d : Dev) (a : Afe) (s : TrimSet) : Dev :=
  let d := d.each (rangeL 1 19) (fun d k =>
    ((d.putS (CAL_OFS a k) ((s.ofs[k - 1]?).getD 0)).putS (CAL_GAIN a k) ((s.gain[k - 1]?).getD 0)).putS
      (CAL_VCALM a k) ((s.vcalm[k - 1]?).getD 0))
  ((d.put (CAL_CNT a) s.cnt).put64 (CAL_TL a) (CAL_TH a) s.time).put (CAL_STAT_SRC a) s.src

/-- The trim set in force, as the registers hold it. -/
def Dev.trims (d : Dev) (a : Afe) : TrimSet :=
  { ofs := (rangeL 1 19).map (fun k => d.getS (CAL_OFS a k)), gain := (rangeL 1 19).map (fun k => d.getS (CAL_GAIN a k))
    vcalm := (rangeL 1 19).map (fun k => d.getS (CAL_VCALM a k)), cnt := d.get (CAL_CNT a)
    time := d.get64 (CAL_TL a) (CAL_TH a), src := d.get (CAL_STAT_SRC a) }

/-- The load of a bank's stored set at power-on (R169). -/
def Dev.calLoad (d : Dev) (bad : Bool) (a : Afe) : Dev :=
  if bad then
    let d := d.showSet a { d.factorySet a with src := 0 }
    d.raise 0x1013 (afeSrc a) [(d.word (CAL_STAT_STATE a).addr).toNat]
  else d.showSet a (d.storedSet a)

/-- The word of CAL_STAT, as every event of the table carries it (R172). -/
def Dev.calStat (d : Dev) (a : Afe) : Nat := (d.word (CAL_STAT_STATE a).addr).toNat

/-- A step code is ignored (R155). -/
def Dev.seqErr (d : Dev) (a : Afe) : Dev := d.put (CAL_STAT_SEQERR a) 1

/-- Channels that take part: the cells of the bank, none at a head, and the current channel with ICAL (R156, R158). -/
def Dev.calChannels (d : Dev) (a : Afe) (ical : Bool) : List Nat :=
  (if d.role = .head then [] else rangeL 1 18) ++ (if ical ∧ d.banks.contains a then [19] else [])

/-- STATE reads idle and no session, restore or store runs. -/
def Dev.calIdle (d : Dev) (a : Afe) : Bool :=
  (d.cal a).sess.isNone && !(d.cal a).factory && (d.cal a).store.isNone

/-- A pair of reference levels passes R160. -/
def refOk (k : Nat) (lo hi : Int) : Bool :=
  if k ≤ 18 then decide (-5000000 ≤ lo ∧ lo ≤ 55000000 ∧ -5000000 ≤ hi ∧ hi ≤ 55000000 ∧ 20000000 ≤ hi - lo)
  else decide (-30000000 ≤ lo ∧ lo ≤ 30000000 ∧ -30000000 ≤ hi ∧ hi ≤ 30000000 ∧ 10000000 ≤ hi - lo)

/-- The refusal of BEGIN or REFRESH, if one holds (R156). -/
def Dev.calRefusal (d : Dev) (a : Afe) (refresh : Bool) : Option Nat :=
  let ical := d.bit (CAL_CFG_ICAL a)
  let refs := (d.calChannels a ical).all (fun k => refOk k (d.getS (CAL_PLO a k)) (d.getS (CAL_PHI a k)))
  if d.cur = .safe ∨ d.cur = .degraded ∨ d.cur = .legacy ∨ d.cur = .provision then some 9
  else if d.sweepOn a then some 10
  else if !refresh ∧ !refs then some 11
  else if d.role = .head ∧ !ical then some 9
  else none

/-- BEGIN and REFRESH (R155, R156, R159). -/
def Dev.calOpen (d : Dev) (a : Afe) (refresh : Bool) : Dev :=
  if !d.banks.contains a then d
  else if !d.calIdle a ∨ (refresh ∧ d.get (CAL_STAT_SRC a) = 0) then d.seqErr a
  else match d.calRefusal a refresh with
  | some r =>
    let d := d.put (CAL_STAT_RESULT a) r
    d.raise 0x1011 (afeSrc a) [d.calStat a]
  | none =>
    let stk := d.get (CAL_CFG_STK a)
    let s : CalSess :=
      { refresh := refresh, ical := d.bit (CAL_CFG_ICAL a), stk := stk, stab := d.get (CAL_CFG_STAB a)
        devo := d.get (CAL_DEV_DEVO a), devg := d.get (CAL_DEV_DEVG a)
        plo := (rangeL 1 19).map (fun k => d.getS (CAL_PLO a k)), phi := (rangeL 1 19).map (fun k => d.getS (CAL_PHI a k))
        phase := .entering, inside := false, mlo := none, mhi := none, discard := false, reads := [], set := none
        ending := none }
    (d.setSess a (some s)).put (CAL_STAT_STATE a) 1

/-- CAL_BEGIN, CAL_REFRESH. -/
def calBeginDev (a : Afe) (d : Dev) : Dev := d.calOpen a false
def calRefreshDev (a : Afe) (d : Dev) : Dev := d.calOpen a true

/-- A session will end at the next boundary with a RESULT (R158): the first abort or rejection stands, and an abort
comes before a set that waits for its boundary, which keeps the old trims (R155, R164). -/
def Dev.calEnding (d : Dev) (a : Afe) (result : Nat) : Dev :=
  match (d.cal a).sess with
  | some s => if s.ending.isSome ∧ s.ending ≠ some 1 then d else d.setSess a (some { s with ending := some result })
  | none =>
    if (d.cal a).factory ∧ (d.cal a).factoryEnd = none then d.setCal a { d.cal a with factoryEnd := some result } else d

/-- POINT_LO and POINT_HI (R155, R161). -/
def Dev.calPoint (d : Dev) (a : Afe) (hi : Bool) : Dev :=
  if !d.banks.contains a then d
  else match (d.cal a).sess with
  | some s =>
    if s.refresh ∨ s.phase ≠ .ready ∨ s.ending.isSome then d.seqErr a
    else
      let s := { s with phase := if hi then .hi else .lo, reads := [], discard := false }
      (d.setSess a (some s)).put (CAL_STAT_STATE a) (if hi then 4 else 3)
  | none => d.seqErr a

def calPointLoDev (a : Afe) (d : Dev) : Dev := d.calPoint a false
def calPointHiDev (a : Afe) (d : Dev) : Dev := d.calPoint a true

/-- New gain and offset of a channel at APPLY (R165) from the lower and upper levels and their readings, in DAC LSB. -/
def applyTrim (gain ofs plo phi mlo mhi : Int) : Int × Int :=
  let dm := (mhi - mlo).toNat
  (roundDiv ((2000000 + gain) * (phi - plo)) dm - 2000000,
    ofs + roundDiv (plo * (mhi - mlo) - (phi - plo) * mlo) (5 * dm))

/-- New gain and offset of a channel at REFRESH (R166) from the zero and the reference reading. -/
def refreshTrim (gain ofs vcalm zero ref : Int) : Int × Int :=
  let dm := (ref - zero).toNat
  (roundDiv ((2000000 + gain) * vcalm) dm - 2000000, ofs - roundDiv (vcalm * zero) (5 * dm))

/-- The checks of a channel's new trims (R167): the RESULT code of the failure, if any. -/
def trimFails (span gain ofs fgain fofs : Int) (devg devo : Nat) : Option Nat :=
  if span ≤ 0 ∨ gain < -32768 ∨ 32767 < gain ∨ ofs < -32768 ∨ 32767 < ofs then some 7
  else if (devo : Int) < |ofs - fofs| ∨ (devg : Int) < |gain - fgain| then some 8
  else none

/-- Compute and check the new set (R165 to R167): the set, or the lowest failing channel and its RESULT. -/
def Dev.newSet (d : Dev) (a : Afe) (s : CalSess) (lo hi : List Int) : TrimSet × Option (Nat × Nat) :=
  let old := d.trims a
  let fact := d.factorySet a
  let at' (l : List Int) (k : Nat) : Int := (l[k - 1]?).getD 0
  (d.calChannels a s.ical).foldl (fun (acc : TrimSet × Option (Nat × Nat)) k =>
    let (g, o) := if s.refresh then refreshTrim (at' old.gain k) (at' old.ofs k) (at' old.vcalm k) (at' lo k) (at' hi k)
      else applyTrim (at' old.gain k) (at' old.ofs k) (at' s.plo k) (at' s.phi k) (at' lo k) (at' hi k)
    let fail := trimFails (at' hi k - at' lo k) g o (at' fact.gain k) (at' fact.ofs k) s.devg s.devo
    ({ acc.1 with gain := acc.1.gain.set (k - 1) g, ofs := acc.1.ofs.set (k - 1) o },
      match acc.2, fail with
      | none, some r => some (k, r)
      | x, _ => x)) (old, none)

/-- A rejected set (R167). -/
def Dev.calReject (d : Dev) (a : Afe) (k result : Nat) : Dev :=
  let d := (d.put (CAL_STAT_CH a) k).calEnding a result
  d.raise 0x1012 (afeSrc a) [d.calStat a, k]

/-- CAL_APPLY (R155, R165): once both points are measured, also while one is measured again, the new set is computed and checked,
and its references are measured. -/
def calApplyDev (a : Afe) (d : Dev) : Dev :=
  if !d.banks.contains a then d
  else match (d.cal a).sess with
  | some s =>
    match s.mlo, s.mhi with
    | some lo, some hi =>
      if s.refresh ∨ !(s.phase = .ready ∨ s.phase = .lo ∨ s.phase = .hi) ∨ s.ending.isSome then d.seqErr a
      else
        let d := d.put (CAL_STAT_STATE a) 7
        match d.newSet a s lo hi with
        | (_, some (k, r)) => d.calReject a k r
        | (set, none) => d.setSess a (some { s with phase := .refs, set := some set, reads := [], discard := true })
    | _, _ => d.seqErr a
  | none => d.seqErr a

/-- CAL_ABORT (R155). -/
def calAbortDev (a : Afe) (d : Dev) : Dev :=
  if !d.banks.contains a then d else if d.calIdle a then d.seqErr a else d.calEnding a 2

/-- CAL_STEP_UNLISTED (R155). -/
def calStepUnlistedDev (a : Afe) (code : Nat) (d : Dev) : Dev :=
  if d.banks.contains a ∧ (code = 0 ∨ (7 ≤ code ∧ code ≤ 14)) then d.seqErr a else d

/-- CAL_FACTORY (R170). -/
def calFactoryDev (a : Afe) (d : Dev) : Dev :=
  if !d.banks.contains a then d
  else if !d.calIdle a then d.seqErr a
  else (d.setCal a { d.cal a with factory := true, factoryIcal := d.bit (CAL_CFG_ICAL a) }).put (CAL_STAT_STATE a) 7

/-- A point is being measured. -/
def CalSess.measuring (s : CalSess) : Bool :=
  s.inside && s.ending.isNone && (s.phase = .lo || s.phase = .hi || s.phase = .zero || s.phase = .vcal || s.phase = .refs)

/-- CAL_POINT_TIMEOUT (R162). -/
def calPointTimeoutDev (a : Afe) (d : Dev) : Dev :=
  match (d.cal a).sess with
  | some s => if s.measuring then d.calEnding a 3 else d
  | none => d

/-- CAL_SESSION_TIMEOUT (R163). -/
def calSessionTimeoutDev (a : Afe) (d : Dev) : Dev :=
  match (d.cal a).sess with
  | some s => if !s.refresh ∧ s.phase = .ready then d.calEnding a 6 else d
  | none => d

/-- The trip or sweep abort of a session (R164). -/
def Dev.calAborted (d : Dev) (result : Nat) (a : Afe) : Dev := d.calEnding a result

/-- The spread of a channel's readings. -/
def spread (xs : List Int) : Int :=
  match xs with
  | [] => 0
  | x :: rest => rest.foldl max x - rest.foldl min x

/-- The readings of one channel. -/
def chanReads (rs : List (List Int)) (k : Nat) : List Int := rs.map (fun r => (r[k - 1]?).getD 0)

/-- The point is stable (R161): CAL_MEAS takes the means, and the session goes on. -/
def Dev.pointStable (d : Dev) (a : Afe) (s : CalSess) : Dev :=
  let mean (k : Nat) : Int := roundDiv ((chanReads s.reads k).foldl (· + ·) 0) s.stk
  let chans := d.calChannels a s.ical
  let means := (rangeL 1 19).map (fun k => if chans.contains k then mean k else 0)
  let d := d.each chans (fun d k => d.putS (CAL_MEAS a k) (mean k))
  let s := { s with reads := [] }
  match s.phase with
  | .lo => (d.setSess a (some { s with mlo := some means, phase := .ready })).put (CAL_STAT_STATE a) 2
  | .hi => (d.setSess a (some { s with mhi := some means, phase := .ready })).put (CAL_STAT_STATE a) 2
  | .zero =>
    (d.setSess a (some { s with mlo := some means, phase := .vcal, discard := true })).put (CAL_STAT_STATE a) 6
  | .vcal =>
    let d := d.put (CAL_STAT_STATE a) 7
    (match d.newSet a s (s.mlo.getD means) means with
      | (_, some (k, r)) => (d.setSess a (some s)).calReject a k r
      | (set, none) => d.setSess a (some { s with mhi := some means, set := some set, ending := some 1 }))
  | .refs =>
    let set := s.set.map (fun t => { t with
      vcalm := t.vcalm.zipIdx.map (fun (v, i) => if chans.contains (i + 1) then mean (i + 1) else v) })
    d.setSess a (some { s with set := set, ending := some 1 })
  | _ => d

/-- CAL_READING_END (R161): the reading of CWIN cycles is taken or discarded, and stability is judged. -/
def calReadingEndDev (a : Afe) (codes : List Int) (d : Dev) : Dev :=
  match (d.cal a).sess with
  | some s =>
    if !s.measuring then d
    else if s.discard then d.setSess a (some { s with discard := false })
    else
      let s := { s with reads := (codes :: s.reads).take s.stk }
      let d := d.setSess a (some s)
      if s.reads.length = s.stk
          ∧ (d.calChannels a s.ical).all (fun k => decide (spread (chanReads s.reads k) ≤ (s.stab : Int)))
        then d.pointStable a s
        else d
  | none => d

/-! ## At a fast-window boundary of the bank (R157, R158, R168, R170) -/

/-- The window that opens carries TRIM on the cells of the bank (R154). -/
def Dev.markTrim (d : Dev) (a : Afe) : Dev :=
  match a with
  | .L => { d with win := { d.win with trimL := true } }
  | .U => { d with win := { d.win with trimU := true } }

def Dev.setShunt (d : Dev) (a : Afe) (b : Bool) : Dev :=
  match a with
  | .L => { d with win := { d.win with shuntL := b } }
  | .U => { d with win := { d.win with shuntU := b } }

/-- The bank moves into CALIBRATE (R157). -/
def Dev.calEnter (d : Dev) (a : Afe) (s : CalSess) : Dev :=
  let d := (d.stopBank a true).setShunt a (!s.ical)
  let s := { s with inside := true, phase := if s.refresh then .zero else .ready, discard := s.refresh }
  let d := (d.setSess a (some s)).put (CAL_STAT_STATE a) (if s.refresh then 5 else 2)
  ((d.calModeStart a).balInterrupt (match a with | .L => pCall | .U => pCalu)).auxSettle a

/-- The session ends (R158, R168): an accepted set takes effect and its store starts; the bank leaves CALIBRATE. -/
def Dev.calLeave (d : Dev) (a : Afe) (s : CalSess) (result : Nat) : Dev :=
  let d := d.setSess a none
  let d := match result, s.set with
    | 1, some t =>
      let t := { t with cnt := (t.cnt + 1) % 2 ^ 32, time := tbTime d.mtick, src := if s.refresh then 2 else 1 }
      let d := (d.showSet a t).put (CAL_STAT_STATE a) 7
      d.setCal a { d.cal a with store := some (t, s.ical) }
    | r, _ =>
      let d := (d.put (CAL_STAT_STATE a) 0).put (CAL_STAT_RESULT a) r
      if r = 7 ∨ r = 8 then d else d.raise 0x1011 (afeSrc a) [d.calStat a]
  if s.inside then
    let d := (d.calModeEnd a).setShunt a false
    let d := if d.convWanted a then d.startBank a true else d
    d.auxSettle a
  else d

/-- What calibration does at a boundary before the next window opens. Answers whether the bank's trims changed. -/
def Dev.calBoundary (d : Dev) (a : Afe) : Bool × Dev :=
  if (d.cal a).factory then
    match (d.cal a).factoryEnd with
    | some r =>
      let d := ((d.setCal a { d.cal a with factory := false, factoryEnd := none }).put (CAL_STAT_STATE a) 0).put
        (CAL_STAT_RESULT a) r
      (false, d.raise 0x1011 (afeSrc a) [d.calStat a])
    | none =>
    let t := { d.factorySet a with cnt := d.get (CAL_CNT a), time := d.get64 (CAL_TL a) (CAL_TH a), src := 0 }
    (true, (d.showSet a t).setCal a { d.cal a with factory := false, store := some (t, (d.cal a).factoryIcal) })
  else match (d.cal a).sess with
  | none => (false, d)
  | some s =>
    match s.ending with
    | some r => (decide (r = 1), d.calLeave a s r)
    | none => if s.phase = .entering then (false, d.calEnter a s) else (false, d)

/-- CAL_NVM_STORE_DONE (R168, R170). -/
def calNvmStoreDoneDev (a : Afe) (ok : Bool) (d : Dev) : Dev :=
  match (d.cal a).store with
  | none => d
  | some (t, ical) =>
    let d := d.setCal a { d.cal a with store := none }
    let d := if ok then (match a with
        | .L => { d with nvm := { d.nvm with calL := t } }
        | .U => { d with nvm := { d.nvm with calU := t } }) else d
    let d := (d.put (CAL_STAT_RESULT a) (if ok then 1 else 12)).put (CAL_STAT_STATE a) 0
    d.raise 0x1010 (afeSrc a) [d.calStat a, if ical then 1 else 0, d.get (CAL_STAT_SRC a)]

end Sys2Proof.Machine
end

