-- ==== Sys2Proof/Machine/Imp.lean ====
section
/-!
DEFINITION. In-service impedance spectroscopy (08): the checks of a sweep, its start, its spans and points, the
excitation, the correlator and its result buffer.
-/

namespace Sys2Proof.Machine

/-! ## Trigonometry in fixed point: the scale is 2^96 -/

/-- 2π in units of 2⁻⁹⁶. -/
def twoPi96 : Nat := 497805226624462170461043889244

/-- The series of sine (`k` odd) or cosine (`k` even) from its term `t` of degree `k`; `x2` is x² in units of 2⁻¹⁹². -/
def trigSeries : Nat → Nat → Int → Int → Int
  | 0, _, _, _ => 0
  | n + 1, k, t, x2 => t + trigSeries n (k + 2) (-(t * x2) / (2 ^ 192 * ((k + 1) * (k + 2) : Nat))) x2

/-- Sine and cosine of 2π × num ÷ den, in units of 2⁻⁹⁶. -/
def sinCos (num den : Nat) : Int × Int :=
  let x : Int := (twoPi96 * (num % den) / den : Nat)
  (trigSeries 24 1 x (x * x), trigSeries 24 0 (2 ^ 96) (x * x))

/-- The integer part of a square root, bit by bit from bit `k`. -/
def isqrt : Nat → Nat → Nat → Nat
  | 0, n, r => if (r + 1) * (r + 1) ≤ n then r + 1 else r
  | k + 1, n, r => isqrt k n (if (r + 2 ^ (k + 1)) * (r + 2 ^ (k + 1)) ≤ n then r + 2 ^ (k + 1) else r)

/-- The integer square root of a number. -/
def sqrtNat (n : Nat) : Nat := isqrt (n.log2 / 2 + 1) n 0

/-! ## The sweep table (Tables 8-1, 8-9, 8-12) -/

/-- Slots of a sweep (Table 8-1). -/
def slotsOf (b : Build) (passive : Bool) : Nat := if passive then 1 else if b = .F then 36 else 18

/-- Slot of a global cell (Table 8-1). -/
def slotOf (b : Build) (passive : Bool) (n : Nat) : Nat :=
  if passive then 0 else (n - 1) % 2 * (slotsOf b passive / 2) + (n - 1) / 2

/-- Checks 1 to 5 of group 0 (Table 8-9) on a configuration read by `g`: the lowest that fails. -/
def Dev.impCheck0 (d : Dev) (g : Fld → Nat) : Option Nat :=
  let mask := g IMP_CMASKL + 2 ^ 32 * g IMP_CMASKH
  if 2 < g IMP_CFG_PSRC ∨ (g IMP_CFG_PSRC = 2 ∧ !fits d.build .afeU) then some 1
  else if g IMP_CFG_MODE = 1 ∧ g IMP_CFG_PSRC = 0 then some 2
  else if g IMP_CFG_PSRC ≠ 0 ∧ g IMP_SHR = 0 then some 3
  else if mask / 2 ^ d.cells ≠ 0 ∨ mask = 0 then some 5
  else none

/-- Check 4: no sweep is armed or running. -/
def Dev.impQuiet (d : Dev) : Bool := d.get IMP_STAT_STATE = 0 || d.get IMP_STAT_STATE = 3

/-- The checks 7 to 13 of one point. -/
def Dev.pointCheck (d : Dev) (g : Fld → Nat) (p : Nat) : Option Nat :=
  let passive : Bool := d.get IMP_CFG_MODE = 1
  let s := slotsOf d.build passive
  let amp := g (IMP_PTA_AMP p)
  let kb := g (IMP_PTA_KB p)
  let pb := g (IMP_PTB_PB p)
  let n := d.wlen
  let per (a : Afe) : Nat := amp * ((d.bankCells a).filter d.masked).length
  if (passive ∧ amp ≠ 0) ∨ (!passive ∧ (amp = 0 ∨ 100 < amp)) then some 7
  else if kb < s then some 8
  else if kb * pb < 20 * (kb + s - 1) then some 9
  else if 120000000 < pb * n ∨ 1500 * kb * pb * n < 6000000 * (kb + s - 1) then some 10
  else if kb * pb * n % Nat.lcm n 30 ≠ 0 then some 11
  else if 2 ^ 32 - 1 < (g (IMP_PTA_SETTLE p) + g (IMP_PTA_AVGM1 p) + 1) * kb * pb then some 12
  else if !passive ∧ (d.get IMP_LIM_ASUM < per .L ∨ d.get IMP_LIM_ASUM < per .U) then some 13
  else none

/-- The lowest of two failing checks. -/
def lowest : Option Nat → Option Nat → Option Nat
  | some a, some b => some (min a b)
  | some a, none => some a
  | none, b => b

/-- Checks 6 to 13 of group 1 (Table 8-9) on a table read by `g`. -/
def Dev.impCheck1 (d : Dev) (g : Fld → Nat) : Option Nat :=
  if g IMP_NPT = 0 ∨ 64 < g IMP_NPT then some 6
  else (List.range (g IMP_NPT)).foldl (fun r p => lowest r (d.pointCheck g p)) none

/-- Check 14: while a sweep runs, points up to the one in progress stay as they are. -/
def Dev.impCheck14 (d : Dev) (g : Fld → Nat) : Bool :=
  !d.sweepLive || (decide (d.get IMP_STAT_PT < g IMP_NPT)
    && (List.range (d.get IMP_STAT_PT + 1)).all (fun p =>
      g (IMP_PTA_AMP p) = d.get (IMP_PTA_AMP p) && g (IMP_PTA_SETTLE p) = d.get (IMP_PTA_SETTLE p)
        && g (IMP_PTA_AVGM1 p) = d.get (IMP_PTA_AVGM1 p) && g (IMP_PTA_KB p) = d.get (IMP_PTA_KB p)
        && g (IMP_PTB_PB p) = d.get (IMP_PTB_PB p)))

/-! ## The point in progress -/

def Dev.impPt (d : Dev) : Nat := d.get IMP_STAT_PT
def Dev.passive (d : Dev) : Bool := d.bit IMP_CFG_MODE

/-- W of a point: windows in a span. -/
def Dev.spanLen (d : Dev) : Nat := d.get (IMP_PTA_KB d.impPt) * d.get (IMP_PTB_PB d.impPt)

def Dev.settle (d : Dev) : Nat := d.get (IMP_PTA_SETTLE d.impPt)
def Dev.avg (d : Dev) : Nat := d.get (IMP_PTA_AVGM1 d.impPt) + 1

/-- The bin of a cell (R209). -/
def Dev.binOf (d : Dev) (n : Nat) : Nat := d.get (IMP_PTA_KB d.impPt) + slotOf d.build d.passive n

/-- SHR as the correlator scales currents: 1 where no pack current is used. -/
def Dev.shrOf (d : Dev) : Int := if d.get IMP_CFG_PSRC = 0 then 1 else (d.get IMP_SHR : Int)

/-- The offset of a span (R208): it cancels the net charge of the span before it over W windows, within ±10 mA. -/
def Dev.spanOffset (d : Dev) (n : Nat) : Int :=
  let q := (d.imp.qlast[n - 1]?).getD 0
  -- 1 nAh over 6,000,000 cycles/s: mA = q × 3600 × 6,000,000 ÷ (10⁶ × cycles)
  max (-10) (min 10 (-(roundDiv (q * 21600) (65536 * (d.spanLen * d.wlen)))))

/-- The setpoint of an excited stage for the period that starts `c` cycles after the point's start, in mA (R205, R208). -/
def Dev.toneSet (d : Dev) (n c : Nat) : Int :=
  let den := d.spanLen * d.wlen
  let s := (sinCos (d.binOf n * (c + 15)) den).1
  roundDiv (10 * (d.get (IMP_PTA_AMP d.impPt) : Int) * s) (2 ^ 96) + d.spanOffset n

/-- The cycles from the point's start to the first switching period that starts at the present edge or after it (R176). -/
def Dev.periodCycle (d : Dev) : Nat := (boundaryFrom 30 d.epoch d.mtick - (d.imp.tick : Int)).toNat

/-- The setpoints of a bank for the period that starts now or next. -/
def Dev.toneBank (d : Dev) (a : Afe) : Dev :=
  if !d.sweepOn a then d
  else
    let c := d.periodCycle
    { d with imp := { d.imp with setp := ((d.bankCells a).filter d.masked).foldl (fun l n => l.set (n - 1) (d.toneSet n c)) d.imp.setp } }

/-- The charges of switching periods by cell, added to a list. -/
def addCharges (ms : List StageMeter) (l : List Int) : List Int :=
  ms.foldl (fun l m => l.set (m.cell - 1) ((l[m.cell - 1]?).getD 0 + m.qc)) l

/-- The largest net charge over the cells, in nAh: QNET (R208). -/
def Dev.qnet (d : Dev) : Nat := d.imp.qpt.foldl (fun m q => max m q.natAbs) 0 / 65536

/-- A period has ended: the charge of the stages that the sweep drives is the span's and the point's, and the next setpoints
hold; the charge of a period in which an abort fell still enters QNET of the point it broke off (R220). -/
def Dev.tonePeriod (d : Dev) (a : Afe) (ms : List StageMeter) : Dev :=
  let ms := ms.filter (fun m => !d.bal.tail.contains (m.cell, true))
  if d.sweepOn a then
    ({ d with imp := { d.imp with qspan := addCharges ms d.imp.qspan, qpt := addCharges ms d.imp.qpt } }).toneBank a
  else match d.imp.broken with
  | some p =>
    let d := { d with imp := { d.imp with qpt := addCharges ms d.imp.qpt } }
    let w := BitVec.ofNat 32 d.qnet
    { d with imp := { d.imp with res := d.imp.res.map (fun r => if r.1 = p then (p, r.2.set 3 w) else r) } }
  | none => d

/-- SWITCHING_PERIOD_END: the period that ends at an MTICK, for the sweep, the plan and the ledger. -/
def switchingPeriodEndDev (a : Afe) (m mv : Nat) (ms : List StageMeter) (d : Dev) : Dev :=
  let d := if d.win.opened ∧ d.nextBoundary < (m : Int) ∨ m < d.mtick then d else d.advanceTo m
  (d.tonePeriod a (d.periodStages a ms)).periodEnd a mv ms

/-- A point starts at the present boundary; the first point of a sweep has no span before it. -/
def Dev.pointStart (d : Dev) (p : Nat) : Dev :=
  let d := ((d.put IMP_STAT_PT p).put IMP_PROG 0)
  let z : List Int := List.replicate 36 0
  let d := { d with imp := { d.imp with
    tick := d.mtick, wseq := (wseqAt d.wlen d.epoch d.mtick + 1) % 2 ^ 32, worst := d.tq
    span := 0, rows := [], done := List.replicate 36 [], qspan := z, qlast := if p = 0 then z else d.imp.qlast, qpt := z, setp := z
    broken := none, gap := false } }
  let d := d.putB IMP_STAT_CORR (decide (d.settle = 0))
  (d.toneBank .L).toneBank .U

/-! ## The correlator (R210 to R213) -/

/-- The net current of a cell in a window, in mA times SHR (R210). -/
def Dev.netCurrent (d : Dev) (w : WinIn) (n : Nat) : Int :=
  let ic := stageCurrent w n
  let im := ((w.stages.find? (fun s => s.cell = n)).map (·.busmA)).getD 0
  let src := d.get IMP_CFG_PSRC
  let ip := if src = 1 then d.getS (CVW_FRES .L 19) else if src = 2 then d.getS (CVW_FRES .U 19) else 0
  let sigma : Int := if d.bit IMP_CFG_PNEG then -1 else 1
  let pack := if src = 0 then 0 else sigma * 100 * ip
  if d.passive then pack
  else if d.win.switched.contains n then (ic - im) * d.shrOf + pack else 0

/-- The row of the window that has just closed (R210, R212). -/
def Dev.impRow (d : Dev) (w : WinIn) (bflags : Nat) : ImpRow :=
  let src := d.get IMP_CFG_PSRC
  let pf := if src = 1 then d.get (CVW_FFLG .L 19) else if src = 2 then d.get (CVW_FFLG .U 19) else 0
  let badCell (n : Nat) : Bool :=
    let f := d.flags n
    decide (f % 2 = 1 ∨ f / 2 % 2 = 1 ∨ f / 2 ^ 6 % 2 = 1 ∨ f / 2 ^ 11 % 2 = 1)
  { x := (rangeL 1 d.cells).map d.result
    i := (rangeL 1 d.cells).map (d.netCurrent w)
    ic := (rangeL 1 d.cells).map (stageCurrent w)
    bad := (rangeL 1 d.cells).filter badCell
    all := decide (bflags % 2 = 1 ∨ bflags / 2 ^ 13 % 2 = 1 ∨ pf % 4 ≠ 0) }

/-- A sequence less its least-squares straight line, times W × (W² - 1) (R211). -/
def detrend (xs : List Int) : List Int :=
  let w : Int := xs.length
  let sum := xs.foldl (· + ·) 0
  let slope := (xs.zipIdx).foldl (fun a (x, i) => a + (2 * (i : Int) - (w - 1)) * x) 0
  (xs.zipIdx).map (fun (x, i) => x * (w * (w * w - 1)) - sum * (w * w - 1) - 3 * (2 * (i : Int) - (w - 1)) * slope)

/-- Σ x(i) × e^(−j2π b i ÷ W) (R211), in the scale of `sinCos`. -/
def tone (xs : List Int) (b : Nat) : Int × Int :=
  (xs.zipIdx).foldl (fun a (x, i) =>
    let (s, c) := sinCos (b * i) xs.length
    (a.1 + x * c, a.2 - x * s)) (0, 0)

/-- The magnitude of a complex number. -/
def magnitude (z : Int × Int) : Nat := sqrtNat (z.1 * z.1 + z.2 * z.2).toNat

/-- A correlated span of a cell: `rows` oldest first. -/
def Dev.spanResult (d : Dev) (rows : List ImpRow) (n : Nat) : Option SpanRes :=
  if rows.any (fun r => r.all || r.bad.contains n) then none
  else
    let col (f : ImpRow → List Int) : List Int := rows.map (fun r => ((f r)[n - 1]?).getD 0)
    let b := d.binOf n
    let xs := detrend (col (·.x))
    let x := tone xs b
    let y := tone (detrend (col (·.i))) b
    some ⟨x.1, x.2, y.1, y.2, magnitude (tone xs (2 * b)), magnitude (tone (detrend (col (·.ic))) b)⟩

/-- A span ends (R208, R211). -/
def Dev.spanEnd (d : Dev) : Dev :=
  let rows := d.imp.rows.reverse
  let done := if d.imp.span < d.settle then d.imp.done
    else d.imp.done.zipIdx.map (fun (l, i) =>
      if i < d.cells ∧ d.masked (i + 1) then d.spanResult rows (i + 1) :: l else l)
  let d := { d with imp := { d.imp with
    span := d.imp.span + 1, rows := [], done := done, qlast := d.imp.qspan, qspan := List.replicate 36 0 } }
  ((d.putB IMP_STAT_CORR (decide (d.settle ≤ d.imp.span))).toneBank .L).toneBank .U

/-! ## Results (R223, R224) -/

/-- Z of a span in 2⁻¹⁶ nΩ; a quotient by zero is a free value. -/
def Dev.spanZ (d : Dev) (s : SpanRes) (k : Nat) : Int × Int :=
  let den := (s.yre * s.yre + s.yim * s.yim).toNat
  if den = 0 then (Config.zeroCurrentZ k)
  else
    let scale := d.shrOf * 100000 * 65536
    (roundDiv ((s.xre * s.yre + s.xim * s.yim) * scale) den, roundDiv ((s.xim * s.yre - s.xre * s.yim) * scale) den)

/-- A component of Z in nΩ within its limits, and whether it was clamped (R224). -/
def clampZ (v : Int) : Int × Bool :=
  if 2147483647 < v then (2147483647, true) else if v < -2147483647 then (-2147483647, true) else (v, false)

/-- The amplitude in mA of a current whose tone has a magnitude in the correlator's scale, times SHR. -/
def amplitude (mag w : Nat) (shr : Int) : Nat :=
  (roundDiv (2 * (mag : Int)) (w * (w * (w * w - 1)) * 2 ^ 96 * shr.toNat)).toNat

/-- The record of a cell (Table 8-5) as four words: zeros and INV in an aborted point (R220); without a kept span no Z,
and the flags that Table 8-6 gives such a record. -/
def Dev.cellRecord (d : Dev) (aborted : Bool) (n : Nat) : List Word × Dev :=
  let spans := ((d.imp.done[n - 1]?).getD []).filterMap id
  let k := spans.length
  let inv := k = 0 || !d.masked n
  let b (c : Bool) (i : Nat) : Nat := if c then 2 ^ i else 0
  if aborted then ([0, 0, 0, BitVec.ofNat 32 1], d)
  else if inv then ([0, 0, BitVec.ofNat 32 (0xFFFF * 65536), BitVec.ofNat 32 (1 + b true 3 + b true 4 + b (d.imp.worst ≠ 3) 5 + b true 8)], d)
  else
    let base := d.draws
    let zs := spans.zipIdx.map (fun (s, i) => d.spanZ s (base + i))
    let d := { d with draws := base + k }
    let re := roundDiv ((zs.map (·.1)).foldl (· + ·) 0) k
    let im := roundDiv ((zs.map (·.2)).foldl (· + ·) 0) k
    let var := zs.foldl (fun a z => a + (z.1 - re) * (z.1 - re) + (z.2 - im) * (z.2 - im)) (0 : Int)
    let unc := if k < 2 then 0xFFFF
      else min 0xFFFE (roundDiv (sqrtNat (var.toNat / (k * (k - 1)))) (10 * 65536)).toNat
    let w := d.spanLen
    let iamp := amplitude ((spans.map (fun s => magnitude (s.yre, s.yim))).foldl (· + ·) 0 / k) w d.shrOf
    let mag1 := (spans.map (fun s => magnitude (s.xre, s.xim))).foldl (· + ·) 0
    let mag2 := (spans.map (·.x2)).foldl (· + ·) 0
    let lin := if mag1 = 0 then 255 else min 255 (roundDiv (mag2 * 1000 : Nat) mag1).toNat
    let (zre, o1) := clampZ (roundDiv re 65536)
    let (zim, o2) := clampZ (roundDiv im 65536)
    let want := 10 * d.get (IMP_PTA_AMP d.impPt)
    let dev : Bool := !d.passive && spans.any (fun s =>
      let a := amplitude s.ic w 1
      decide (100 * (max a want - min a want) > 20 * want + 5000))
    let noisy : Bool := decide (magnitude (zre, zim) < 100 * unc)
    let qf := b (o1 || o2) 1 + b dev 2 + b (iamp < 10) 3 + b (k < d.avg) 4 + b (d.imp.worst ≠ 3) 5 + b (50 < lin) 6
      + b (!d.passive && d.get IMP_CFG_PSRC ≠ 0) 7 + b noisy 8
    ([BitVec.ofNat 32 (ofSigned 32 zre), BitVec.ofNat 32 (ofSigned 32 zim),
      BitVec.ofNat 32 (unc * 65536 + min 65535 iamp), BitVec.ofNat 32 (lin * 2 ^ 24 + k % 256 * 2 ^ 16 + qf)], d)

/-- The point's header and records enter the result buffer (R223). Answers the OR of the QF and the cells with IDEV. -/
def Dev.pointResult (d : Dev) (pstate : Nat) : Nat × List Nat × Dev :=
  let p := d.impPt
  let t := d.imp.tick
  let w (v : Nat) : Word := BitVec.ofNat 32 v
  let header : List Word := [w (d.get (IMP_PTA_KB p) * 2 ^ 16 + pstate * 2 ^ 8 + p), w (d.get (IMP_PTB_PB p)), w d.wlen, w d.qnet,
    w (tbTime t), w (tbTime t / 2 ^ 32), w (tbFrac t * 2 ^ 16 + d.imp.worst * 2 ^ 14), w d.imp.wseq]
  let (recs, d) := (rangeL 1 d.cells).foldl (fun (acc : List Word × Dev) n =>
    let (r, d) := acc.2.cellRecord (pstate = 2) n
    (acc.1 ++ r, d)) (([] : List Word), d)
  let qfs := (rangeL 1 d.cells).map (fun n => bitsOf ((recs[4 * n - 1]?).getD 0) 15 0)
  let words := header ++ recs
  (qfs.foldl (· ||| ·) 0, (rangeL 1 d.cells).filter (fun n => (qfs[n - 1]?).getD 0 / 4 % 2 = 1),
    { d with imp := { d.imp with res := (p, words) :: d.imp.res.filter (fun r => r.1 ≠ p) } })

/-- A word of the result window (R223): the point that IMP_RSEL shows. -/
def Dev.resultWord (d : Dev) (i : Nat) : Word :=
  match d.imp.res.find? (fun r => r.1 = d.get IMP_RSEL_PT) with
  | some r => (r.2[i]?).getD 0
  | none => 0

/-! ## Start, windows and end (R214 to R221) -/

/-- A sweep is refused (Table 8-13). -/
def Dev.sweepRefuse (d : Dev) (result chk : Nat) : Dev :=
  ((d.put IMP_STAT_RESULT result).put IMP_STAT_CHK chk).raise 0x5005 0 [result, chk]

/-- START in MTICK. -/
def Dev.sweepStart (d : Dev) : Nat := d.get64 IMP_STARTL IMP_STARTH

/-- IMP_ARM (R204, R214). -/
def impArmDev (d : Dev) : Dev :=
  if !d.impQuiet then d
  else if d.build = .B ∨ d.role = .head then d.sweepRefuse 12 0
  else if d.sweepStart < d.mtick + 6000 then d.sweepRefuse 8 0
  else
    let d := { d with imp := { d.imp with res := [] } }
    ((d.put IMP_STAT_RESULT 0).put IMP_STAT_CHK 0).put IMP_STAT_STATE 1

/-- The sweep is over: the stages stop, SPECTRO ends. -/
def Dev.sweepOver (d : Dev) (result : Nat) : Dev :=
  let d := ((d.put IMP_STAT_STATE 3).put IMP_STAT_RESULT result).put IMP_STAT_CORR 0
  let d := { d with imp := { d.imp with rows := [], gap := false, setp := List.replicate 36 0 } }
  d.seeStages.sweepModeEnd

/-- A sweep whose last point is complete ends (R217). -/
def Dev.sweepComplete (d : Dev) : Dev := (d.sweepOver 1).raise 0x5003 0 []

/-- A running sweep ends under R220: the point in progress is marked aborted. At the boundary that closed a point, that point
is complete, and the point that follows it is the one in progress. -/
def Dev.sweepAbort (d : Dev) (result : Nat) : Dev :=
  if !d.sweepLive then d
  else if d.imp.gap ∧ d.get IMP_NPT ≤ d.impPt + 1 then d.sweepComplete
  else
    let d := if d.imp.gap then d.pointStart (d.impPt + 1) else d
    let (_, _, d) := d.pointResult 2
    let d := { d with imp := { d.imp with broken := some d.impPt } }
    let d := d.sweepOver result
    d.raise 0x5004 0 [result, d.impPt]

/-- A happening on a bank ends a sweep that excites it. -/
def Dev.sweepBankAbort (d : Dev) (a : Afe) (result : Nat) : Dev := if d.sweepOn a then d.sweepAbort result else d

/-- IMP_ABORT (R220, R221). -/
def impAbortDev (d : Dev) : Dev :=
  if d.get IMP_STAT_STATE = 1 then
    ((d.put IMP_STAT_STATE 3).put IMP_STAT_RESULT 2).raise 0x5004 0 [2, 0]
  else d.sweepAbort 2

/-- The tests of an armed sweep at its first boundary from START on, and its start (R215). -/
def Dev.sweepBegin (d : Dev) : Dev :=
  if d.get IMP_STAT_STATE ≠ 1 ∨ d.mtick < d.sweepStart then d
  else
    let refuse (r c : Nat) : Dev := (d.put IMP_STAT_STATE 3).sweepRefuse r c
    if d.cur = .safe ∨ d.cur = .degraded ∨ d.cur = .legacy ∨ d.cur = .provision ∨ d.get PWR_STAT_BASE < 4 then refuse 9 0
    else match lowest (d.impCheck0 d.get) (d.impCheck1 d.get) with
    | some c => refuse 10 c
    | none =>
      if d.bit IMP_CFG_REQLK ∧ d.tq ≠ 3 then refuse 11 0
      else
        let d := (d.put IMP_STAT_STATE 2).pointStart 0
        let d := d.budgetEval 9
        let banks := [Afe.L, Afe.U].filter d.sweepOn
        let d := d.each banks (fun d a => d.calAborted 5 a)
        let d := if banks.isEmpty then d else d.balInterrupt pSweep
        let d := d.raise 0x5001 0 (item64 d.sweepStart ++ [(banks.map calBit).foldl (· + ·) 0])
        d.seeStages

/-- The window that has closed belongs to the point in progress (R217): a span or the point may end. -/
def Dev.sweepWindow (d : Dev) (w : WinIn) (bflags : Nat) : Dev :=
  if !d.sweepLive ∨ d.imp.gap then d
  else
    let row := d.impRow w bflags
    let d := { d with imp := { d.imp with rows := row :: d.imp.rows, worst := min d.imp.worst d.tq } }
    let d := d.put IMP_PROG (d.get IMP_PROG + 1)
    if d.imp.rows.length < d.spanLen then d
    else
      let d := d.spanEnd
      if d.imp.span < d.settle + d.avg then d
      else
        let p := d.impPt
        let (qf, dev, d) := d.pointResult 1
        let d := { d with imp := { d.imp with gap := true } }
        let d := if d.bit IMP_CFG_PTEV then d.raise 0x5002 0 [p, d.qnet, qf] else d
        if dev.isEmpty then d else d.raise 0x5006 0 ([p] ++ cellMask dev)

/-- Between two points, after the IMP groups were evaluated: the next point starts, or the sweep ends (R217). -/
def Dev.sweepNext (d : Dev) : Dev :=
  if !d.sweepLive ∨ !d.imp.gap then d
  else if d.impPt + 1 < d.get IMP_NPT then (d.pointStart (d.impPt + 1)).seeStages
  else d.sweepComplete

/-- The window that opens is excited on the cells the sweep drives (Table 4-5). -/
def Dev.sweepOpen (d : Dev) : Dev :=
  if d.sweepLive ∧ !d.passive then { d with win := { d.win with excited := d.allCells.filter d.masked } } else d

end Sys2Proof.Machine
end

