-- ==== Sys2Proof/Machine/Safety.lean ====
section
/-!
DEFINITION. Safety supervision (11) with the guard logic it rests on (10): the rows of Bezel and the states of its
blocks, what starts and stops with the services of MONITOR, the guard and TRIP frames of a member, SAFE, DEGRADED and
the grace timer, the processor latch, and the channel faults.
-/

namespace Sys2Proof.Machine

/-! ## Bezel: rows and states (R254, R255) -/

def Dev.bz (d : Dev) : Afe → BzlSt | .L => d.bzlL | .U => d.bzlU

def Dev.setBz (d : Dev) (a : Afe) (b : BzlSt) : Dev :=
  match a with | .L => { d with bzlL := b } | .U => { d with bzlU := b }

/-- Comparators, Bezel and the Girdle interface run: WATCH and above (R246, R253). -/
def Dev.guardUp (d : Dev) : Bool := !d.pw.off && decide (3 ≤ d.level)

/-- States of a block (Table 10-8). -/
def bStart : Nat := 0
def bArmed : Nat := 1
def bTripped : Nat := 2

def Dev.bezel (d : Dev) (a : Afe) : Nat := d.get (BZL_STAT_STATE a)

/-- Bezel-U guards beside Bezel-L: a ZM3680-F member (R255, R259). -/
def Dev.twoBlocks (d : Dev) : Bool := d.fitted.contains .U

/-- Row XB of AFE-L is present: Bezel-U is not ARMED, its crossing is lost (R255), or AFE-U has failed (R294). -/
def Dev.crossBad (d : Dev) : Bool :=
  d.twoBlocks && (d.saf.crossLost || d.dead .afeU || decide (d.bezel .U ≠ bArmed))

/-- The rows whose input is present, with their actions (0 OFF, 1 WARN, 2 TRIP), by rising code (Table 10-2). -/
def Dev.rowInputs (d : Dev) (a : Afe) : List (Nat × Nat) :=
  let b := d.bz a
  let cell (st : Fld) (base : Nat) : List (Nat × Nat) :=
    ((rangeL 1 18).filter (fun k => d.bitAt st (k - 1))).map
      (fun k => (base + k, if d.role = .member ∧ d.bitAt (BZL_CMASK a) (k - 1) then 2 else 0))
  let temp (st en act : Fld) (base : Nat) : List (Nat × Nat) :=
    ((List.range 8).filter (fun i => d.bitAt st i)).map (fun i => (base + i, if d.bitAt en i then d.get act else 0))
  let fixed (c : Bool) (code act : Nat) : List (Nat × Nat) := if c then [(code, act)] else []
  cell (CMP_OVST a) 0 ++ cell (CMP_UVST a) 0x20
    ++ temp (CMP_TST_OT a) (BZL_TMASK_OTEN a) (BZL_MTX_OTACT a) 0x40
    ++ temp (CMP_TST_UT a) (BZL_TMASK_UTEN a) (BZL_MTX_UTACT a) 0x48
    ++ fixed b.stf 0x50 (d.get (BZL_MTX_STFACT a)) ++ fixed b.sup 0x51 2 ++ fixed b.ref 0x52 2 ++ fixed b.clk 0x53 2
    ++ fixed (a = .L && d.crossBad) 0x54 2 ++ fixed b.ttrip 0x55 2 ++ fixed b.cfg 0x56 2

/-- The rows asserted: input present and action TRIP (R254). -/
def Dev.rows (d : Dev) (a : Afe) : List Nat := ((d.rowInputs a).filter (fun r => r.2 = 2)).map (·.1)

/-- The rows present whose action is WARN. -/
def Dev.warns (d : Dev) (a : Afe) : List Nat := ((d.rowInputs a).filter (fun r => r.2 = 1)).map (·.1)

/-! ## The Girdle and the SDC stage (R260, R274, R548) -/

/-- The carrier leaves at the Girdle output: a head generates it, a member passes it while Bezel-L is ARMED; never in
RETIRED (R497). -/
def Dev.carrierOut (d : Dev) : Bool := d.guardUp && decide (d.life ≠ lRetired) && (d.role = .head || (d.carrierIn && decide (d.bezel .L = bArmed)))

/-- CARRO, COUT and XBOK show what passes; the output shows the change. -/
def Dev.seeGirdle (d : Dev) : Dev :=
  let was := d.bit (BZL_STAT_CARRO .L)
  let now := d.carrierOut
  let d := (d.putB (BZL_STAT_CARRO .L) now).putB (GRD_STAT_COUT .L) now
  let d := d.putB (BZL_STAT_XBOK .L) (d.twoBlocks && !d.crossBad)
  if was = now then d else d.emit (.girdleToken now)

/-- The high-side switches are commanded on (R274); never in RETIRED (R497). -/
def Dev.highOn (d : Dev) : Bool :=
  d.role = .head && d.guardUp && decide (d.life ≠ lRetired) && decide (d.bezel .L = bArmed) && d.bit (SDC_STAT_GIN .L) && !d.bit (SDC_STAT_HWL .L)

/-- The low-side switches are commanded on: EN falls with the keep-alive (R274). -/
def Dev.lowOn (d : Dev) : Bool := d.role = .head && decide (d.life ≠ lRetired) && d.bit (SDC_CTRL_EN .L)

/-- The channels are energised (R277). -/
def Dev.energised (d : Dev) : Bool := d.highOn && d.lowOn

/-- Index of a switch in SDC_STAT.SW (Table 11-10). -/
def swIndex : SdcSw → Nat | .phs => 0 | .pls => 1 | .nhs => 2 | .nls => 3

/-- A switch is a high-side switch. -/
def swHigh (i : Nat) : Bool := decide (i % 2 = 0)

/-- The readback of a switch: as commanded, but on where it was last found stuck on and off where it did not turn on. -/
def Dev.swReads (d : Dev) (i : Nat) : Bool :=
  let k := (d.saf.tests[i]?).getD 0 % 3
  if k = 1 then true else if k = 2 then false
  else (if swHigh i then d.highOn else d.lowOn) && decide (d.saf.dark.map swIndex ≠ some i)

/-- SDC_STAT.SW follows the readback; a member's outputs stay off (R296). -/
def Dev.seeSdc (d : Dev) : Dev :=
  if d.role = .head then
    d.put (SDC_STAT_SW .L) ((List.range 4).foldl (fun v i => if d.swReads i then v + 2 ^ i else v) 0)
  else d

/-! ## Frames of a member's protection (R286, R353, R354) -/

/-- A fault stands on a channel of a position, 0 for this device. -/
def Dev.hasFault (d : Dev) (pos : Nat) (c : Chan) : Bool := d.saf.faults.any (fun f => f.pos = pos && f.ch = c)

/-- The GUARD payload (Table 13-9). -/
def Dev.guardPay (d : Dev) (last : Bool) : Nat :=
  d.get PWR_STAT_CUR * 2 ^ 28 + d.get PWR_STAT_BASE * 2 ^ 24 + flagBit (d.bit FW_PPSTAT_LATCH) 23
    + flagBit (d.bezel .L = bArmed) 22 + flagBit (!d.twoBlocks || decide (d.bezel .U = bArmed)) 21
    + flagBit (d.hasFault 0 .bezelL) 20 + flagBit (d.hasFault 0 .bezelU) 19 + flagBit (d.hasFault 0 .processor) 18
    + flagBit (d.bit (SDC_STAT_GRUN .L)) 17 + flagBit last 16 + d.get (CVW_WSEQ .L) % 2 ^ 16

/-- A numbered member sends a guard frame by its way. -/
def Dev.sendGuard (d : Dev) (last : Bool) : Dev :=
  if d.role = .member ∧ d.bit SPN_POS_VALID ∧ !d.inLegacy then d.compactToHead kGuard (d.guardPay last) else d

/-- A trip holds on a member: a block is TRIPPED or the processor latch is set (R353). -/
def Dev.tripStands (d : Dev) : Bool :=
  d.role = .member && (d.bit FW_PPSTAT_LATCH || d.banks.any (fun a => d.bezel a = bTripped))

/-- TRIP on both ports (R353). -/
def Dev.sendTrip (d : Dev) : Dev :=
  if d.tripStands ∧ d.lathe ∧ d.bit SPN_POS_VALID ∧ !d.inLegacy then
    let pay :=
      if d.bit FW_PPSTAT_LATCH then d.get FW_PPSTAT_CAUSE * 2 ^ 28 + d.get FW_PPSTAT_CELL * 2 ^ 22
      else if d.bezel .L = bTripped then d.get (BZL_CAUSE_ROW .L) * 2 ^ 8 else d.get (BZL_CAUSE_ROW .U) * 2 ^ 8
    d.sendCompact [.north, .south] kTrip d.pos pay
  else d

/-! ## The services of MONITOR (R547) -/

/-- What stops with the services of MONITOR: the last guard frame (R286), aux sequencer, windows, wiring runs, Beadline
frames (R430), the I²C port, and the timebase where no plan keeps it. -/
def Dev.servicesDown (d : Dev) : Dev :=
  let d := d.sendGuard true
  let d := d.each d.banks Dev.auxDown
  let d := d.stopWindows.owdLose.balCells.bdlStop.iicStop.seeMclk
  if d.tbRuns then d else d.stopTb

/-- What starts with them: the aux sequencers, and events that waited for CORE (R270). Integration starts at an MCLK edge
that follows (INTEGRATION_START). -/
def Dev.servicesUp (d : Dev) : Dev :=
  let d := (d.each d.banks Dev.auxSettle).sendEvents
  drainEvents d.hif.evq.length d

/-- The services follow a change of mode; `was` says that they ran before it. -/
def Dev.services (was : Bool) (d : Dev) : Dev :=
  if was && !d.monitoring then d.servicesDown else if !was && d.monitoring then d.servicesUp else d

/-- An override mode begins: a fall in progress is given up, since BASE never moves down under it (R57). -/
def Dev.overTrans (d : Dev) : Dev :=
  match d.pw.trans with
  | some t => if t.goal.code < d.get PWR_STAT_BASE then
      ({ d with pw := { d.pw with trans := none } }).put PWR_STAT_TRANS 0 else d
  | none => d

/-- A wake event below MONITOR (R72): a ladder device rises, and HOLD counts anew. -/
def Dev.wakeRise (d : Dev) (trig : Nat) : Dev :=
  if d.cur.ladder ∧ d.get PWR_STAT_CUR < 4 ∧ !d.pw.starting ∧ d.pw.shipEntry.isNone then
    d.setHold.riseTo 4 trig
  else d

/-! ## SAFE (R289, R290, R547, R554) -/

/-- The grace timer stops. -/
def Dev.graceStop (d : Dev) : Dev :=
  ({ d with saf := { d.saf with grace := none, graceOf := none } }).put (SDC_STAT_GRUN .L) 0

/-- Sweep, sessions and plan meet a trip or a channel fault (R63, R164, R199, R220). -/
def Dev.activitiesStop (d : Dev) (sweepResult pause : Nat) : Dev :=
  (((d.sweepAbort sweepResult).calAborted 4 .L).calAborted 4 .U).balInterrupt pause

/-- Enter SAFE from WATCH or above, or from LEGACY, with a cause and its detail (Table 11-14). -/
def Dev.enterSafe (d : Dev) (cause detail : Nat) : Dev :=
  if d.cur = .safe ∨ !d.guardUp ∨ !d.lathe then d
  else
    let was := d.monitoring
    let d := ({ d with saf := { d.saf with fromLegacy := decide (d.cur = Mode.legacy) } }).graceStop.overTrans
    let d := d.showMode 10 (d.get PWR_STAT_BASE) 0xD
    let d := d.raise 0xB001 0 [cause, detail]
    (d.activitiesStop 3 pTrip).services was

/-- Leave SAFE when every block is ARMED, none of them on a die that has failed, the processor latch is clear and, at the head, HWL is 0: to the mode of the
budget rule, or back to LEGACY (R508). -/
def Dev.safeExit (d : Dev) : Dev :=
  if d.cur ≠ .safe ∨ d.dead .afeL ∨ !d.banks.all (fun a => d.bezel a = bArmed) ∨ d.bit FW_PPSTAT_LATCH
      ∨ (d.role = .head ∧ d.bit (SDC_STAT_HWL .L)) then d
  else
    let was := d.monitoring
    if d.saf.fromLegacy then (d.showMode 11 4 0xE).raise 0xB002 0 []
    else
      let d := (d.showMode (d.get PWR_STAT_BASE) (d.get PWR_STAT_BASE) 0xE).raise 0xB002 0 []
      (d.services was).setHold.budgetEval 3

/-! ## Bezel blocks (R254, R256, R275) -/

/-- A block of the head leaves ARMED, or its carrier is lost: HWL is set, and SAFE is entered if the outputs were
energised (R275), once CORE runs. -/
def Dev.setHwl (d : Dev) (energised : Bool) (detail : Nat) : Dev :=
  if d.role = .head ∧ !d.bit (SDC_STAT_HWL .L) then
    let d := d.put (SDC_STAT_HWL .L) 1
    if !energised then d
    else if d.lathe then d.enterSafe 6 detail
    else { d with saf := { d.saf with hwlDue := some detail } }
  else d

/-- A block enters TRIPPED with the lowest asserted row (R256). -/
def Dev.bezelTrip (d : Dev) (a : Afe) (row : Nat) : Dev :=
  let was := d.energised
  let d := ((d.put (BZL_CAUSE_ROW a) row).countSat (BZL_CAUSE_TRIPCNT a) 1).put (BZL_STAT_STATE a) bTripped
  let d := d.seeGirdle.raise 0x3003 (afeSrc a) [row]
  let d := if d.bit (CVW_CAPT_TRIP .L) then { d with win := { d.win with capSrc := d.win.capSrc ||| 8 } } else d
  match d.role with
  | .member => (d.enterSafe (match a with | .L => 1 | .U => 2) row).sendTrip
  | .head => d.setHwl was 2

/-- A block enters ARMED. -/
def Dev.bezelArm (d : Dev) (a : Afe) : Dev :=
  ((d.put (BZL_STAT_STATE a) bArmed).seeGirdle).raise 0x3004 (afeSrc a) []

/-- One block acts on its rows: START arms when no row is asserted, ARMED trips when one is. -/
def Dev.bezelStep (d : Dev) (a : Afe) : Dev :=
  if !d.guardUp ∨ !d.banks.contains a then d
  else if d.bezel a = bStart then (if (d.bz a).valid ∧ (d.rows a).isEmpty then d.bezelArm a else d)
  else if d.bezel a = bArmed then
    match d.rows a with
    | row :: _ => d.bezelTrip a row
    | [] => d
  else d

/-- Both blocks act, Bezel-U first, since row XB of AFE-L follows its state. -/
def Dev.bezelAct (d : Dev) : Dev := ((d.bezelStep .U).bezelStep .L).seeGirdle

/-- Rows that have come to WARN since `old` raise their event (R255). -/
def Dev.warnEvents (d old : Dev) (a : Afe) : Dev :=
  d.each ((d.warns a).filter (fun r => !(old.warns a).contains r)) (fun d r => d.raise 0x3007 (afeSrc a) [r])

/-- An input or a setting of the guard logic changes, and the blocks act on it. -/
def Dev.guardChange (f : Dev → Dev) (d : Dev) : Dev :=
  let e := f d
  if d.guardUp then ((e.warnEvents d .U).warnEvents d .L).bezelAct else e

/-- Row TTRIP of a die is asserted (R258). -/
def Dev.ttrip (d : Dev) (a : Afe) : Dev :=
  if d.guardUp ∧ d.banks.contains a then d.guardChange (fun d => d.setBz a { d.bz a with ttrip := true }) else d

/-! ## The processor latch (R276, R283, R285, R557) -/

/-- The processor latch sets. -/
def Dev.setLatch (d : Dev) (cause cell : Nat) : Dev :=
  if d.bit FW_PPSTAT_LATCH then d
  else
    let d := ((d.put FW_PPSTAT_LATCH 1).put FW_PPSTAT_CAUSE cause).put FW_PPSTAT_CELL cell
    (d.countSat FW_PPSTAT_TRIPCNT 1).raise 0xB009 0 [cell, cause]

/-- Lathe opens the disconnect path: the head clears EN (R276), every device writes TTRIP of its AFE-L (R276, R283,
R285), and a member sends TRIP (R353). -/
def Dev.openPath (d : Dev) : Dev :=
  let d := if d.role = .head then d.put (SDC_CTRL_EN .L) 0 else d
  (d.ttrip .L).sendTrip

/-- A processor-channel trip (R276, R283): latch, SAFE, disconnect path. -/
def Dev.ppTrip (d : Dev) (cause cell : Nat) : Dev :=
  if !d.bit FW_PPCFG_EN ∨ d.bit FW_PPSTAT_LATCH ∨ !d.monitoring then d
  else ((d.setLatch cause cell).enterSafe 3 cause).openPath

/-- TRIP of a member accepted at the head (R276, R353): the head acts on the first of a trip, and on a repeat while it is not
in SAFE or EN is set (log 128). -/
def Dev.tripAccepted (d : Dev) (pos : Nat) : Dev :=
  let seen := (d.member pos).any (·.tripSeen)
  if seen ∧ d.cur = .safe ∧ !d.bit (SDC_CTRL_EN .L) then d
  else
    let d := d.setMember pos (fun m => { m with tripSeen := true })
    ((d.put (SDC_CTRL_EN .L) 0).enterSafe 7 pos).openPath

/-! ## DEGRADED (R284 to R288, R557) -/

/-- Code of a channel (SDC_GREM.CH). -/
def chanCode : Chan → Nat | .bezelL => 1 | .bezelU => 2 | .processor => 3 | .sdcP => 4 | .sdcN => 5

/-- The device may enter DEGRADED (R285). -/
def Dev.mayDegrade (d : Dev) : Bool :=
  d.lathe && !d.pw.starting && (d.cur = .watch || d.cur = .monitor || d.cur = .stream || d.cur = .spectro
    || d.cur = .calibrate || d.cur = .provision)

/-- DEGRADED begins: tightened limits follow the mode (R252), and the grace timer starts with TG. -/
def Dev.enterDegraded (d : Dev) (pos : Nat) (c : Chan) : Dev :=
  let d := d.overTrans.showMode 9 (d.get PWR_STAT_BASE) 0xB
  let d := (d.put (SDC_GREM_POS .L) (if pos = 0 then d.pos else pos)).put (SDC_GREM_CH .L) (chanCode c)
  let d := ({ d with saf := { d.saf with grace := some d.now, graceOf := some (pos, c) } }).put (SDC_STAT_GRUN .L) 1
  (d.raise 0xB003 0 [chanCode c, d.get (SDC_GRACE_TG .L)]).activitiesStop 4 pDegraded

/-- DEGRADED ends for the base mode: every channel fault has cleared (R288). -/
def Dev.leaveDegraded (d : Dev) : Dev :=
  let d := d.graceStop
  ((d.showMode (d.get PWR_STAT_BASE) (d.get PWR_STAT_BASE) 0xC).raise 0xB004 0 []).setHold.budgetEval 3

/-- The channels with a fault, by position. -/
def Dev.faultChans (d : Dev) : List (Nat × Chan) := (d.saf.faults.map (fun f => (f.pos, f.ch))).eraseDups

/-- The first two faults that call for SAFE at once: on two channels of one device, or at the head on an SDC channel and any
other of the ring (R287); empty where there are none. -/
def Dev.faultPair (d : Dev) : List (Nat × Chan) :=
  let cs := d.faultChans
  let sdc (x : Nat × Chan) : Bool := x.2 = .sdcP || x.2 = .sdcN
  match cs.find? (fun x => decide (2 ≤ cs.countP (fun y => y.1 = x.1))) with
  | some x => (cs.filter (fun y => y.1 = x.1)).take 2
  | none =>
    if d.role = .head ∧ cs.any sdc ∧ cs.any (fun x => !sdc x) then (cs.filter sdc).take 1 ++ (cs.filter (fun x => !sdc x)).take 1
    else []

/-- Faults on two channels call for SAFE at once (R287, R557). -/
def Dev.twoFaults (d : Dev) : Bool := !d.faultPair.isEmpty

/-- Grace expiry, or faults on two channels (R285, R557): the fault that started the timer, or either of the two, refuses the
latch resets while it holds (R289). -/
def Dev.graceAct (d : Dev) (expired : Bool) : Dev :=
  let hold := if expired then d.saf.graceOf.toList else d.faultPair
  let d := { d with saf := { d.saf with hold := hold } }
  let d := d.graceStop
  let d := d.setLatch (if expired then 6 else 7) 0
  let d := (d.enterSafe (if expired then 4 else 5) (d.get FW_PPSTAT_CAUSE)).openPath
  if expired then d.raise 0xB005 0 [] else d

/-- The device acts on the channel faults as they stand (R285, R287, R288). In LEGACY it does not (R508). -/
def Dev.judge (d : Dev) : Dev :=
  let cs := d.faultChans
  let d := { d with saf := { d.saf with hold := d.saf.hold.filter cs.contains } }
  match cs with
  | [] =>
    let d := { d with saf := { d.saf with two := false } }
    if d.cur = .degraded then d.leaveDegraded else d
  | c :: _ =>
    if d.twoFaults then
      if d.saf.two ∨ !(d.mayDegrade || d.cur = .degraded) then d
      else ({ d with saf := { d.saf with two := true } }).graceAct false
    else
      let d := { d with saf := { d.saf with two := false } }
      if d.mayDegrade then d.enterDegraded c.1 c.2 else d

/-- The clock domains whose failure is a processor-channel fault: CORE, TB, MCLK-L, MCLK-U (Table 11-5). -/
def Dev.clockBad (d : Dev) : Bool := decide (d.pw.clkBad.toNat / 2 % 16 ≠ 0)

/-- A wire carries a verdict. -/
def Dev.anyVerdict (d : Dev) (v : Nat) : Bool := (List.range (d.cells + 1)).any (fun j => d.get (OWD_JSTAT_VERD .L j) = v)

/-- A channel fault holds by what the device sees now (Table 11-5). -/
def Dev.causeHolds (d : Dev) (f : ChFault) : Bool :=
  match f.cause with
  | .stf => match f.ch with
    | .bezelL => d.bzlL.stf && decide (d.get (BZL_MTX_STFACT .L) = 1)
    | _ => d.bzlU.stf && decide (d.get (BZL_MTX_STFACT .U) = 1)
  | .gap => d.saf.gapBad.any (fun g => g.1 = f.pos)
  | .plaus => !d.auxL.raised.isEmpty || !d.auxU.raised.isEmpty
  | .wire => d.role = .member && d.anyVerdict 6
  | .findings => d.role = .member && !d.bit FW_PPCFG_WTRIP && !d.owd.finds.isEmpty
  | .clock => d.clockBad
  | .xchk => decide (2 ≤ d.saf.xfails)
  | .guardLoss => match d.member f.pos with | some m => m.missing | none => false
  | .reported => match d.member f.pos with
    | some m => match f.ch with | .bezelL => m.fbzl | .bezelU => m.fbzu | .processor => m.fprc | _ => false
    | none => false
  | .test => match f.ch with | .sdcP => d.bit (SDC_STAT_PFLT .L) | .sdcN => d.bit (SDC_STAT_NFLT .L) | _ => false

/-- The causes whose fault clears only after the time of Table 11-5, by CHANNEL_FAULT_CLEAR. -/
def FaultCause.lingers : FaultCause → Bool
  | .plaus | .wire | .findings | .clock | .xchk | .guardLoss => true
  | _ => false

/-- Every fault that could be reported: those of the device, and at the head those of its members. -/
def Dev.allFaults (d : Dev) : List ChFault :=
  [⟨0, .bezelL, .stf⟩, ⟨0, .bezelU, .stf⟩, ⟨0, .bezelL, .gap⟩, ⟨0, .processor, .plaus⟩, ⟨0, .processor, .wire⟩,
    ⟨0, .processor, .findings⟩, ⟨0, .processor, .clock⟩, ⟨0, .processor, .xchk⟩, ⟨0, .sdcP, .test⟩, ⟨0, .sdcN, .test⟩]
  ++ (if d.role = .head then d.hd.members.flatMap (fun m =>
      [⟨m.pos, .bezelL, .gap⟩, ⟨m.pos, .processor, .guardLoss⟩, ⟨m.pos, .bezelL, .reported⟩,
        ⟨m.pos, .bezelU, .reported⟩, ⟨m.pos, .processor, .reported⟩]) else [])

/-- The channel faults follow what the device sees: new ones are added in order, those that clear at once go, and faults
of positions that are no longer numbered are dropped. Then the device acts. -/
def Dev.seeFaults (d : Dev) : Dev :=
  let keep := d.saf.faults.filter (fun f => (f.cause.lingers || d.causeHolds f) && (f.pos = 0 || d.numbered f.pos))
  let new := d.allFaults.filter (fun f => d.causeHolds f && !keep.contains f)
  ({ d with saf := { d.saf with faults := keep ++ new } }).judge

/-! ## Members in WATCH with the outputs energised (R273, R553) -/

/-- Each entry of a member into WATCH is reported once while the head holds the outputs energised. -/
def Dev.seeSingle (d : Dev) : Dev :=
  if d.role = .member then d
  else
    let inWatch := (d.hd.members.filter (fun m => memberLevel m = 3)).map (·.pos)
    let said := d.saf.watchSaid.filter inWatch.contains
    let new := if d.energised then inWatch.filter (fun p => !said.contains p) else []
    let d := { d with saf := { d.saf with watchSaid := said ++ new } }
    d.each new (fun d p => d.raiseAbout p 0xB00D 0 [])

/-- What follows by itself from a change of what safety sees: blocks, faults, the way out of SAFE, readback. -/
def Dev.guardSettle (d : Dev) : Dev := d.bezelAct.seeFaults.safeExit.seeSdc.seeSingle

/-- What a guard frame brings beside the member's record (R273, R280, R284 to R287). -/
def Dev.guardEffects (d : Dev) (pos : Nat) : Dev := if d.numbered pos then d.guardSettle else d

end Sys2Proof.Machine
end

