-- ==== Sys2Proof/Machine/Bezel.lean ====
section
/-!
DEFINITION. The comparators and Bezel (10): power-up, crossings, trips and releases, the rows, latch resets and test
trips, the self-test, and the stored settings.
-/

namespace Sys2Proof.Machine

/-! ## Power-up (R249, R254, R265, R266) -/

/-- The latches of a die power up tripped, its block is in START, and nothing is valid yet. -/
def Dev.bezelPowerUp (d : Dev) (a : Afe) : Dev :=
  let d := ((d.put (CMP_OVST a) 0x3FFFF).put (CMP_UVST a) 0x3FFFF).put (CMP_TST_UT a) 0xFF
  let d := (d.put (CMP_TST_OT a) 0xFF).put (BZL_STAT_STATE a) bStart
  d.setBz a { d.bz a with valid := false, sides := [], held := false, slot := none }

/-- The device rises into WATCH or above from below it (R249). A head's Bezel-L has left ARMED (R275). -/
def Dev.guardRise (d : Dev) : Dev := ((d.each d.banks Dev.bezelPowerUp).seeGirdle).seeSdc

/-- The device falls below WATCH: the comparators and the Girdle stop, and a head's latch sets (R52, R275). -/
def Dev.guardFall (d : Dev) : Dev :=
  let d := if d.role = .head then (d.put (SDC_STAT_HWL .L) 1).put (SDC_STAT_GIN .L) 0 else d
  let d := (d.put (BZL_STAT_GIN .L) 0).put (GRD_STAT_CIN .L) 0
  let d := d.each d.banks (fun d a => d.setBz a { d.bz a with valid := false, slot := none })
  (d.seeGirdle).seeSdc

/-- The words of BZL group 0 of a die: MTX, CMASK, TMASK, ENV. -/
def bzlAddrs (a : Afe) : List Nat := [0x4010, 0x4014, 0x4018, 0x401C].map (fun o => afeBase a + o)

def Dev.wordsAt (d : Dev) (as : List Nat) : List Word := as.map d.word

def Dev.putWords (d : Dev) (as : List Nat) (ws : List Word) : Dev := d.each (as.zip ws) (fun d p => d.setWord p.1 p.2)

/-- The stored copy of BZL group 0 of a die, and whether a load has found it bad. -/
def NvmSt.bzl (n : NvmSt) (a : Afe) : Option (List Word) := match a with | .L => n.bzlL | .U => n.bzlU
def NvmSt.bzlBad (n : NvmSt) (a : Afe) : Bool := match a with | .L => n.badL | .U => n.badU

def NvmSt.setBzl (n : NvmSt) (a : Afe) (ws : Option (List Word)) (bad : Bool) : NvmSt :=
  match a with | .L => { n with bzlL := ws, badL := bad } | .U => { n with bzlU := ws, badU := bad }

/-- A die loads BZL group 0 at power-on; a bad copy leaves the reset values, asserts row CFG and raises its event (R265). A
copy that was found bad stays bad until a save replaces it (log 65). -/
def Dev.bzlLoad (d : Dev) (bad : Bool) (a : Afe) : Dev :=
  match d.nvm.bzl a with
  | none => d
  | some ws =>
    if bad || d.nvm.bzlBad a then
      let d := { d with nvm := d.nvm.setBzl a (some ws) true }
      (d.setBz a { d.bz a with cfg := true }).raise 0x3008 (afeSrc a) []
    else d.putWords (bzlAddrs a) ws

/-- Reset thresholds outside the envelope take the nearest value within it (R266). -/
def Dev.clampThresholds (d : Dev) (a : Afe) : Dev :=
  let hi := d.get (BZL_ENV_OVMAX a)
  let lo := d.get (BZL_ENV_UVMIN a)
  let inside (v : Nat) : Nat := max lo (min hi v)
  d.each (rangeL 1 18) (fun d k =>
    (d.put (CMP_THR_OV a k) (inside (d.get (CMP_THR_OV a k)))).put (CMP_THR_UV a k) (inside (d.get (CMP_THR_UV a k))))

/-! ## Comparators (R246, R247, R249, R253) -/

/-- The comparator exists and runs: cells in the member role only, temperatures in both. -/
def Dev.cmpRuns (d : Dev) (c : CmpId) : Bool :=
  d.guardUp && d.banks.contains c.die &&
  match c.kind with
  | .ov | .uv => d.role = .member && decide (1 ≤ c.idx ∧ c.idx ≤ 18)
  | .ot | .ut => decide (c.idx ≤ 7)

/-- The latch bit of a comparator (Table 10-6). -/
def latchBit (c : CmpId) : Fld × Nat :=
  match c.kind with
  | .ov => (CMP_OVST c.die, c.idx - 1)
  | .uv => (CMP_UVST c.die, c.idx - 1)
  | .ot => (CMP_TST_OT c.die, c.idx)
  | .ut => (CMP_TST_UT c.die, c.idx)

/-- The latch of a comparator is tripped. -/
def Dev.tripped (d : Dev) (c : CmpId) : Bool := d.bitAt (latchBit c).1 (latchBit c).2

/-- The device with a latch tripped or released. -/
def Dev.setLatchBit (d : Dev) (c : CmpId) (b : Bool) : Dev :=
  let (f, i) := latchBit c
  let w := d.win
  let w := match c.kind, b || !w.opened with
    | .ov, false => { w with ovt := globalOf c.die c.idx :: w.ovt }
    | .uv, false => { w with uvt := globalOf c.die c.idx :: w.uvt }
    | _, _ => w
  ({ d with win := w }).put f (setNat (d.get f) i i (if b then 1 else 0))

/-- Items of CMP_TRIP and CMP_RELEASE (Table 10-9). -/
def cmpItems (c : CmpId) : List Nat :=
  match c.kind with
  | .ov => [globalOf c.die c.idx, 0]
  | .uv => [globalOf c.die c.idx, 1]
  | .ot => [c.idx, 2]
  | .ut => [c.idx, 3]

/-- Where the input was last reported. -/
def Dev.sideOf (d : Dev) (c : CmpId) : Option CrossSide := ((d.bz c.die).sides.find? (fun s => s.1 = c)).map (·.2)

/-- A wake by a trip in WATCH (R72): a device that is not in SAFE by it rises so that CORE can report. -/
def Dev.tripWake (d : Dev) : Dev := if d.cur = .watch ∧ !d.tbRuns then d.wakeRise 8 else d

/-- A Bezel block has tripped since `old` by another row than a comparator's: the device wakes as by a trip (R72, R270). -/
def Dev.rowWake (d old : Dev) : Dev :=
  if d.banks.any (fun a => decide (d.bezel a = bTripped ∧ old.bezel a ≠ bTripped)) then d.tripWake else d

/-- COMPARATORS_VALID (R249): filter counts start, and a block without an asserted row arms. -/
def comparatorsValidDev (d : Dev) : Dev :=
  if d.guardUp then
    (d.guardChange (fun d => d.each d.banks (fun d a => d.setBz a { d.bz a with valid := true }))).guardSettle
  else d

/-- COMPARATOR_INPUT_CROSSING (R247): the count toward the side starts, and a count toward the other is given up. -/
def comparatorInputCrossingDev (c : CmpId) (side : CrossSide) (d : Dev) : Dev :=
  if d.cmpRuns c then
    let b := d.bz c.die
    d.setBz c.die { b with sides := (c, side) :: b.sides.filter (fun s => s.1 ≠ c) }
  else d

/-- COMPARATOR_TRIP (R247): the filter time ends with the input beyond its trip threshold. -/
def comparatorTripDev (c : CmpId) (d : Dev) : Dev :=
  if !d.cmpRuns c ∨ d.tripped c ∨ !((d.sideOf c).getD .trip = .trip) then d
  else
    let d := d.guardChange (fun d => (d.setLatchBit c true).raise 0x3001 (afeSrc c.die) (cmpItems c))
    d.guardSettle.tripWake

/-- COMPARATOR_RELEASE (R247, R249): the filter time ends with the input beyond its release threshold. -/
def comparatorReleaseDev (c : CmpId) (d : Dev) : Dev :=
  if !d.cmpRuns c ∨ !d.tripped c ∨ !(d.bz c.die).valid ∨ !((d.sideOf c).getD .release = .release) then d
  else (d.guardChange (fun d => (d.setLatchBit c false).raise 0x3002 (afeSrc c.die) (cmpItems c))).guardSettle

/-! ## Rows (R255, R258, R259, R552) -/

/-- The three items of a row mask (R552). -/
def rowMask (rows : List Nat) : List Nat :=
  (List.range 3).map (fun i => (rows.filter (fun r => r / 32 = i)).eraseDups.foldl (fun v r => v + 2 ^ (r % 32)) 0)

/-- BEZEL_START_HELD (R552). -/
def bezelStartHeldDev (a : Afe) (d : Dev) : Dev :=
  if d.guardUp ∧ d.banks.contains a ∧ d.bezel a = bStart ∧ (d.bz a).valid ∧ !(d.bz a).held then
    (d.setBz a { d.bz a with held := true }).raise 0x3009 (afeSrc a) (rowMask (d.rows a))
  else d

/-- An input of a fixed row changes on a die that works. -/
def Dev.rowInput (d : Dev) (a : Afe) (f : BzlSt → BzlSt) : Dev :=
  if d.banks.contains a then (d.guardChange (fun d => d.setBz a (f (d.bz a)))).guardSettle.rowWake d else d

/-- BEZEL_ROW_SUP, BEZEL_ROW_REF, BEZEL_ROW_CLK. -/
def bezelRowSupDev (a : Afe) (d : Dev) : Dev := d.rowInput a (fun b => { b with sup := true })
def bezelRowRefDev (a : Afe) (d : Dev) : Dev := d.rowInput a (fun b => { b with ref := true })
def bezelRowClkDev (a : Afe) (d : Dev) : Dev := d.rowInput a (fun b => { b with clk := true })

/-- XB_CROSSING_LOST (R259). -/
def Dev.setCross (d : Dev) (lost : Bool) : Dev :=
  if d.twoBlocks then
    (d.guardChange (fun d => { d with saf := { d.saf with crossLost := lost } })).guardSettle.rowWake d
  else d

def xbCrossingLostDev (d : Dev) : Dev := d.setCross true

/-- BEZEL_ROW_RELEASE: the input of a fixed row returns healthy. -/
def bezelRowReleaseDev (a : Afe) (row : Nat) (d : Dev) : Dev :=
  match row with
  | 0x51 => d.rowInput a (fun b => { b with sup := false })
  | 0x52 => d.rowInput a (fun b => { b with ref := false })
  | 0x53 => d.rowInput a (fun b => { b with clk := false })
  | 0x54 => d.setCross false
  | _ => d

/-- BEZEL_TTRIP (R258). -/
def bezelTtripDev (a : Afe) (d : Dev) : Dev := (d.ttrip a).guardSettle.tripWake

/-- A latch reset of one block (R257, R289): a TRIPPED block arms if no row but TTRIP is asserted and no fault holds it. -/
def Dev.latchReset (d : Dev) (a : Afe) : Dev :=
  if d.bezel a ≠ bTripped ∨ !d.guardUp ∨ !d.banks.contains a then d
  else if ((d.rows a).filter (· ≠ 0x55)).isEmpty ∧ d.saf.hold.isEmpty then
    (d.setBz a { d.bz a with ttrip := false }).bezelArm a
  else (d.put (BZL_STAT_LRREF a) 1).raise 0x3005 (afeSrc a) []

/-- BEZEL_LATCH_RESET (R257, R259): a reset written to AFE-L goes to Bezel-U first. -/
def bezelLatchResetDev (a : Afe) (d : Dev) : Dev :=
  (match a with
  | .L => (d.latchReset .U).latchReset .L
  | .U => d.latchReset .U).guardSettle

/-! ## Self-test (R261, R262) -/

/-- The input of a slot has an action, and in the head role it is not a cell slot; slot 0 always runs (R261). -/
def Dev.slotRuns (d : Dev) (a : Afe) (s : Nat) : Bool :=
  if s = 0 then true
  else if s ≤ 18 then d.role = .member && d.bitAt (BZL_CMASK a) (s - 1)
  else (d.bitAt (BZL_TMASK_OTEN a) (s - 19) && decide (d.get (BZL_MTX_OTACT a) ≠ 0))
    || (d.bitAt (BZL_TMASK_UTEN a) (s - 19) && decide (d.get (BZL_MTX_UTACT a) ≠ 0))

/-- A slot has run or kept its time; after slot 26 a rotation is complete. -/
def Dev.slotOver (d : Dev) (a : Afe) : Dev :=
  let d := d.setBz a { d.bz a with slot := none }
  if d.get (CMP_STAT_SLOT a) = 26 then d.countMod (CMP_STAT_CYC a) 1 else d

/-- SELFTEST_SLOT: the next slot of the rotation starts; the first after power-up is slot 0. -/
def selftestSlotDev (a : Afe) (d : Dev) : Dev :=
  if !d.guardUp ∨ !d.banks.contains a ∨ !d.bit (CMP_STAT_ROT a) ∨ (d.bz a).slot.isSome then d
  else
    let b := d.bz a
    let s := b.next
    let d := (d.put (CMP_STAT_SLOT a) s).setBz a { b with next := (s + 1) % 27, slot := some 0 }
    if d.slotRuns a s then d else d.slotOver a

/-- The checks of a slot, as CMP_STFAIL.STEP codes them: 1 swap (cell slots), 2 tie high, 3 tie low. -/
def slotChecks (s : Nat) : List Nat := if 1 ≤ s ∧ s ≤ 18 then [1, 2, 3] else [2, 3]

/-- SELFTEST_SLOT_END: `failedStep` is the check that failed, as CMP_STFAIL.STEP codes it. A failure repeats the slot at
once; the same failure in the repeat is confirmed (R262). -/
def selftestSlotEndDev (a : Afe) (failedStep : Option Nat) (d : Dev) : Dev :=
  match (d.bz a).slot with
  | none => d
  | some first =>
    match failedStep with
    | none => d.slotOver a
    | some k =>
      if !(slotChecks (d.get (CMP_STAT_SLOT a))).contains k then d
      else if first ≠ k then d.setBz a { d.bz a with slot := some k }
      else
        let s := d.get (CMP_STAT_SLOT a)
        let d := ((d.put (CMP_STFAIL_VALID a) 1).put (CMP_STFAIL_STEP a) k).put (CMP_STFAIL_SLOT a) s
        let d := (d.put (CMP_STAT_ROT a) 0).setBz a { d.bz a with slot := none }
        let d := d.guardChange (fun d => (d.setBz a { d.bz a with stf := true }).raise 0x3006 (afeSrc a) [])
        d.guardSettle.tripWake

/-! ## Stored settings (R265) -/

/-- BZL_SAVE: a save starts, or one further save waits. -/
def bzlSaveDev (a : Afe) (d : Dev) : Dev :=
  if !d.banks.contains a then d
  else
    let b := d.bz a
    match b.save with
    | none => (d.put (BZL_NV_BUSY a) 1).setBz a { b with save := some (d.wordsAt (bzlAddrs a)) }
    | some _ => d.setBz a { b with queued := true }

/-- BZL_SAVE_DONE: NVM holds the group as it was when the save started; a waiting save starts. -/
def bzlSaveDoneDev (a : Afe) (ok : Bool) (d : Dev) : Dev :=
  let b := d.bz a
  match b.save with
  | none => d
  | some ws =>
    let d := ({ d with nvm := if ok then d.nvm.setBzl a (some ws) false else d.nvm }).putB (BZL_NV_ERR a) (!ok)
    if b.queued then d.setBz a { b with save := some (d.wordsAt (bzlAddrs a)), queued := false }
    else (d.put (BZL_NV_BUSY a) 0).setBz a { b with save := none }

end Sys2Proof.Machine
end

