-- ==== Sys2Proof/Machine/Sdc.lean ====
section
/-!
DEFINITION. The disconnect path at the head and the Girdle loop (11): the SDC outputs and their tests, the carrier and
its gap slots, the latch resets, the grace timer, guard frames, and the checks of the processor channel.
-/

namespace Sys2Proof.Machine

/-! ## The SDC outputs (R274 to R278) -/

/-- KEEP_ALIVE_LOSS: the SDC stage clears EN by itself (R274). -/
def keepAliveLossDev (d : Dev) : Dev := if d.role = .head then (d.put (SDC_CTRL_EN .L) 0).seeSdc else d

/-- SDC_ENABLE: a host write of EN; on a member it is ignored (R276, R296). -/
def sdcEnableDev (en : Bool) (d : Dev) : Dev :=
  if d.role = .head then ((d.putB (SDC_CTRL_EN .L) en).seeSdc).seeSingle else d

def setAt (xs : List Nat) (i v : Nat) : List Nat := xs.set i v

/-- Two tests of a switch that fail in a row with the same KIND confirm the fault (R278). -/
def Dev.confirm (d : Dev) (i kind : Nat) : Dev :=
  if (d.saf.conf[i]?).getD 0 = kind then d
  else
    let d := { d with saf := { d.saf with conf := setAt d.saf.conf i kind } }
    let d := if i < 2 then d.put (SDC_STAT_PFLT .L) 1 else d.put (SDC_STAT_NFLT .L) 1
    let d := ((d.put (SDC_FAIL_SW .L) (2 ^ i)).put (SDC_FAIL_KIND .L) kind).countSat (SDC_FAIL_CNT .L) 1
    d.raise 0xB006 0 []

/-- A dark-pulse test of a switch ends with a KIND, 0 for a pass. -/
def Dev.testEnd (d : Dev) (i kind : Nat) : Dev :=
  let was := (d.saf.tests[i]?).getD 0
  let d := { d with saf := { d.saf with tests := setAt d.saf.tests i kind, spans := setAt d.saf.spans i 0 } }
  let d := if kind ≠ 0 ∧ was = kind then d.confirm i kind else d
  d.guardSettle

/-- DARK_PULSE_START: an energised switch turns off, one at a time (R277). -/
def darkPulseStartDev (sw : SdcSw) (d : Dev) : Dev :=
  if d.energised ∧ d.saf.dark.isNone ∧ d.saf.back.isNone then
    ({ d with saf := { d.saf with dark := some sw } }).seeSdc
  else d

/-- DARK_PULSE_END: the switch turns on again, unless R274 holds it off; without its off level the test fails with KIND 1. -/
def darkPulseEndDev (sw : SdcSw) (offReached : Bool) (d : Dev) : Dev :=
  if d.saf.dark ≠ some sw then d
  else
    let d := { d with saf := { d.saf with dark := none } }
    if !d.energised then d.seeSdc
    else if offReached then ({ d with saf := { d.saf with back := some sw } }).seeSdc
    else d.testEnd (swIndex sw) 1

/-- DARK_PULSE_RETURN_TIMEOUT: without its on level the test fails with KIND 2, else it has passed. -/
def darkPulseReturnTimeoutDev (sw : SdcSw) (onReached : Bool) (d : Dev) : Dev :=
  if d.saf.back ≠ some sw then d
  else
    let d := { d with saf := { d.saf with back := none } }
    if !d.energised then d.seeSdc else d.testEnd (swIndex sw) (if onReached then 0 else 2)

/-- The KIND of the test before a span: where that was a span too, only if this one follows it without a break (R278). -/
def Dev.kindBefore (d : Dev) (i : Nat) (joined : Bool) : Nat :=
  if (d.saf.spans[i]?).getD 0 = 1 ∧ !joined then 0 else (d.saf.tests[i]?).getD 0

/-- LINE_TEST_SPAN: 10 ms of an open line while energised (KIND 3), or of a line off its level while not (KIND 1); `joined` says
that the span follows the last one of the switch without a break. -/
def lineTestSpanDev (sw : SdcSw) (openLine joined : Bool) (d : Dev) : Dev :=
  if d.role ≠ .head ∨ !d.guardUp ∨ openLine ≠ d.energised then d
  else
    let i := swIndex sw
    let kind := if openLine then 3 else 1
    let was := d.kindBefore i joined
    let d := { d with saf := { d.saf with tests := setAt d.saf.tests i kind, spans := setAt d.saf.spans i 1 } }
    let d := if was = kind then d.confirm i kind else d
    d.guardSettle

/-- SDC_FAULT_CLEAR: every test of the channel has passed for 10 s (R278). -/
def sdcFaultClearDev (c : Chan) (d : Dev) : Dev :=
  let clear (d : Dev) (f : Fld) (i : Nat) : Dev :=
    let d := d.put f 0
    let z (xs : List Nat) : List Nat := (xs.set i 0).set (i + 1) 0
    let d := { d with saf := { d.saf with tests := z d.saf.tests, spans := z d.saf.spans, conf := z d.saf.conf } }
    d.guardSettle
  match c with
  | .sdcP => if d.role = .head then clear d (SDC_STAT_PFLT .L) 0 else d
  | .sdcN => if d.role = .head then clear d (SDC_STAT_NFLT .L) 2 else d
  | _ => d

/-! ## The carrier (R260, R275, R279) -/

/-- CARRIER_LOSS: the loss is shown; a plan or sweep under GSTOP stops; at the head HWL is set and the loss is reported. -/
def carrierLossDev (d : Dev) : Dev :=
  if !d.guardUp ∨ !d.carrierIn then d
  else
    let was := d.energised
    let d := ((d.put (BZL_STAT_GIN .L) 0).put (GRD_STAT_CIN .L) 0).put (GRD_STAT_LOSS .L) 1
    let d := { d with saf := { d.saf with carrierAt := d.now } }
    let d := if d.role = .head then
        let d := d.put (SDC_STAT_GIN .L) 0
        (d.setHwl was 1).raise 0xB007 0 [d.saf.gapLast.1, d.saf.gapLast.2]
      else if d.bit BAL_PCFG_GSTOP && !d.inLegacy then (d.sweepAbort 5).balInterrupt pGirdle
      else d
    d.seeGirdle.guardSettle

/-- CARRIER_PRESENT: the carrier is confirmed at the input, at a time. -/
def carrierPresentDev (time : Nat) (d : Dev) : Dev :=
  let d := d.atTime time
  if !d.guardUp ∨ d.carrierIn then d
  else
    let d := (d.put (BZL_STAT_GIN .L) 1).put (GRD_STAT_CIN .L) 1
    let d := { d with saf := { d.saf with carrierAt := d.now } }
    let d := if d.role = .head then d.put (SDC_STAT_GIN .L) 1 else d
    d.seeGirdle.guardSettle

/-! ## Gap slots (R280) -/

/-- GAP_SLOT: the device blanks its output for 8 us at its slot; at the head a new cycle of judgements begins. -/
def gapSlotDev (d : Dev) : Dev :=
  if !d.monitoring ∨ !d.bit (GRD_CFG_GAPEN .L) ∨ d.cur = .legacy then d
  else
    let d := d.countMod (GRD_STAT_CYC .L) 1
    let d := if d.role = .head then
        let d := if d.saf.cycFail.isEmpty then d.put (GRD_GAPFAIL_VALID .L) 0 else d
        { d with saf := { d.saf with cycFail := [], gapLast := (d.get (GRD_GAPOKL .L), d.get (GRD_GAPOKH .L)) } }
      else d
    if d.carrierOut then (d.emit (.girdleToken false)).emit (.girdleToken true) else d

/-- The slot of a position is judged: its own slot, and those of members in MONITOR or above (R280, R553). -/
def Dev.judgesSlot (d : Dev) (pos : Nat) : Bool :=
  d.role = .head && d.monitoring && d.bit (GRD_CFG_GAPEN .L)
    && (pos = 0 || match d.member pos with | some m => decide (4 ≤ memberLevel m) | none => false)
    && d.bit (SDC_STAT_GIN .L) && decide (d.saf.carrierAt = 0 ∨ 61200 ≤ d.now - d.saf.carrierAt)

/-- GAP_CHECK: 200 us after a slot, the head judges whether the gap arrived. -/
def gapCheckDev (pos : Nat) (arrived : Bool) (d : Dev) : Dev :=
  if !d.judgesSlot pos then d
  else
    let d := d.put (GRD_STAT_SLOT .L) pos
    let f := if pos < 32 then (GRD_GAPOKL .L) else (GRD_GAPOKH .L)
    let d := d.put f (setNat (d.get f) (pos % 32) (pos % 32) (if arrived then 1 else 0))
    let d :=
      if arrived then
        let bad := d.saf.gapBad.map (fun g => if g.1 = pos then (g.1, g.2 + 1) else g)
        { d with saf := { d.saf with gapBad := bad.filter (fun g => g.2 < 10) } }
      else
        let fails := pos :: d.saf.cycFail
        let bad := d.saf.gapBad.filter (fun g => g.1 ≠ pos) ++ [(pos, 0)]
        let d := { d with saf := { d.saf with cycFail := fails, gapBad := bad } }
        let d := (d.put (GRD_GAPFAIL_POS .L) (fails.foldl min 63)).put (GRD_GAPFAIL_VALID .L) 1
        let d := d.countSat (GRD_GAPFAIL_CNT .L) 1
        if pos = 0 then d.raise 0xB008 0 [] else d.raiseAbout pos 0xB008 0 []
    d.guardSettle

/-! ## Latch resets (R289, R290) -/

/-- The processor limits in force: tightened in DEGRADED (R285). -/
def Dev.ppOv (d : Dev) : Int := d.getS FW_PPOV - (if d.cur = .degraded then 1000 * (d.get FW_PPDEG_DOV : Int) else 0)
def Dev.ppUv (d : Dev) : Int := d.getS FW_PPUV + (if d.cur = .degraded then 1000 * (d.get FW_PPDEG_DUV : Int) else 0)

/-- Entries whose band leave trips (R283). -/
def ppTm : Afe → Fld | .L => FW_PPTML | .U => FW_PPTMU

/-- Every cell's last result lies 10 mV inside the limits and is valid, and no tripping entry is out of band (R290). -/
def Dev.ppCalm (d : Dev) : Bool :=
  (rangeL 1 d.cells).all (fun n =>
    decide (d.flags n % 2 = 0 ∧ d.ppUv + 100000 ≤ d.result n ∧ d.result n ≤ d.ppOv - 100000))
  && d.banks.all (fun a => (List.range 32).all (fun e => !(d.bitAt (ppTm a) e && d.bit (AUX_RES_OUT a e))))

/-- PROCESSOR_LATCH_RESET. -/
def processorLatchReset (d : Dev) : Dev :=
  if d.ppCalm ∧ d.saf.hold.isEmpty then (d.put FW_PPSTAT_LATCH 0).guardSettle
  else (d.put FW_PPSTAT_LRREF 1).raise 0xB00B 0 []

/-- PROCESSOR_LATCH_RESET with the time of the write. -/
def processorLatchResetDev (time : Nat) (d : Dev) : Dev := processorLatchReset (d.atTime time)

/-- The carrier has been present at the input for 10 ms. -/
def Dev.carrierSteady (d : Dev) : Bool := d.bit (SDC_STAT_GIN .L) && decide (60000 ≤ d.now - d.saf.carrierAt)

/-- SDC_LATCH_RESET: HWL clears, or the reset is refused; on a member it is ignored (R296). -/
def sdcLatchReset (d : Dev) : Dev :=
  if d.role = .member then d
  else if d.carrierSteady ∧ d.bezel .L = bArmed ∧ !d.bit FW_PPSTAT_LATCH ∧ d.hd.members.all (fun m => !m.latch)
      ∧ d.saf.hold.isEmpty then
    ((d.put (SDC_STAT_HWL .L) 0).seeSdc).guardSettle
  else (d.put (SDC_STAT_LRREF .L) 1).raise 0xB00B 0 []

/-- SDC_LATCH_RESET with the time of the write. -/
def sdcLatchResetDev (time : Nat) (d : Dev) : Dev := sdcLatchReset (d.atTime time)

/-! ## Channel faults and the grace timer (R284, R285, R288) -/

/-- CHANNEL_FAULT_CLEAR: faults of the channel whose causes have reported healthy for the time of Table 11-5 go. -/
def channelFaultClearDev (c : Chan) (d : Dev) : Dev :=
  if !d.lathe then d
  else
    let keep := d.saf.faults.filter (fun f => !(f.ch = c && f.cause.lingers && !d.causeHolds f))
    ({ d with saf := { d.saf with faults := keep } }).guardSettle

/-- GRACE_TIMER_EXPIRY (R285); while CORE does not run, the AFE-L timer asserts TTRIP and Lathe does the rest later. -/
def graceTimerExpiryDev (d : Dev) : Dev :=
  if d.saf.grace.isNone then d
  else if d.lathe then d.graceAct true |>.guardSettle
  else
    let d := ({ d with saf := { d.saf with graceDue := true, grace := none } }).put (SDC_STAT_GRUN .L) 0
    d.ttrip .L

/-- SDC_GRACE_WRITE: TG only falls, and a running timer counts as if it had started with the new value (R288). -/
def sdcGraceWriteDev (v : Word) (d : Dev) : Dev :=
  let tg := bitsOf v 10 0
  if d.get (SDC_GRACE_TG .L) < tg then d
  else
    let d := d.put (SDC_GRACE_TG .L) tg
    match d.saf.grace with
    | some t => if tg * 6000000 ≤ d.now - t then graceTimerExpiryDev d else d
    | none => d

/-- Seconds remaining, rounded up (SDC_GREM.REM). -/
def Dev.graceLeft (d : Dev) : Nat :=
  match d.saf.grace with
  | some t => (d.get (SDC_GRACE_TG .L) * 6000000 - (d.now - t) + 5999999) / 6000000
  | none => 0

/-- The words of SDC and GRD group 0: SDC_GRACE with TGMAX, SDC_DPCFG, GRD_CFG. -/
def Dev.sdcWords (d : Dev) : List Word :=
  [BitVec.ofNat 32 (d.get (SDC_GRACE_TGMAX .L)), d.word (SDC_DPCFG_DPW .L).addr, d.word (GRD_CFG_GAPEN .L).addr]

/-- SDC_SAVE (R296, as R265). -/
def sdcSaveDev (d : Dev) : Dev :=
  match d.saf.save with
  | none => ({ d with saf := { d.saf with save := some d.sdcWords } }).put (SDC_NV_BUSY .L) 1
  | some _ => { d with saf := { d.saf with queued := true } }

/-- SDC_SAVE_DONE. -/
def sdcSaveDoneDev (ok : Bool) (d : Dev) : Dev :=
  match d.saf.save with
  | none => d
  | some ws =>
    let d := (if ok then { d with nvm := { d.nvm with sdc := some ws, badSdc := false } } else d).putB (SDC_NV_ERR .L) (!ok)
    if d.saf.queued then { d with saf := { d.saf with save := some d.sdcWords, queued := false } }
    else ({ d with saf := { d.saf with save := none } }).put (SDC_NV_BUSY .L) 0

/-- SDC and GRD group 0 are loaded at power-on, and TG takes TGMAX (R288, R296); a copy found bad stays bad (log 65). -/
def Dev.sdcLoad (d : Dev) (bad : Bool) : Dev :=
  let d := match d.nvm.sdc with
    | some [g, w, c] =>
      if bad || d.nvm.badSdc then ({ d with nvm := { d.nvm with badSdc := true } }).raise 0xB00F (afeSrc .L) []
      else ((d.put (SDC_GRACE_TGMAX .L) g.toNat).setWord (SDC_DPCFG_DPW .L).addr w).setWord (GRD_CFG_GAPEN .L).addr c
    | _ => d
  d.put (SDC_GRACE_TG .L) (d.get (SDC_GRACE_TGMAX .L))

/-! ## Guard and TRIP frames (R286, R353) -/

/-- GUARD_FRAME_SEND. -/
def guardFrameSendDev (d : Dev) : Dev := if d.monitoring then d.sendGuard false else d

/-- GUARD_LOSS: no guard frame from a numbered member whose latest carried LAST = 0. -/
def guardLossDev (pos : Nat) (d : Dev) : Dev :=
  match d.member pos with
  | none => d
  | some m =>
    if d.role ≠ .head ∨ !d.lathe ∨ !m.guarded ∨ m.last ∨ m.missing then d
    else ((d.setMember pos (fun m => { m with missing := true })).raiseAbout pos 0xB00A 0 []).guardSettle

/-- TRIP_REPEAT (R353). -/
def tripRepeatDev (d : Dev) : Dev := d.sendTrip

/-! ## Checks of the processor channel (R272, R283, R291) -/

/-- SF1, SF2 and SF5 at the boundary that closes a window; the lowest cell beyond a limit is named. -/
def Dev.ppWindow (d : Dev) : Dev :=
  match d.role with
  | .member =>
    match (rangeL 1 d.cells).find? (fun n =>
        decide (d.flags n % 2 = 0 ∧ (d.ppOv < d.result n ∨ d.result n < d.ppUv))) with
    | some n => d.ppTrip (if d.ppOv < d.result n then 1 else 2) n
    | none => d
  | .head =>
    if d.bit FW_PPCFG_OCEN ∧ d.get (CVW_FFLG .L 19) % 2 = 0 ∧ d.getS FW_PPOC < |d.getS (CVW_FRES .L 19)| then d.ppTrip 4 0
    else d

/-- SENSE_OPEN or MULTIPLE found since `old` trips, with WTRIP = 1 (Table 11-5, cause 5); the lowest cell is named. -/
def Dev.ppWires (d : Dev) (old : List (Nat × List Nat × Nat)) : Dev :=
  match d.owd.finds.find? (fun f => !(old.any (fun g => g.1 = f.1 && g.2.1 = f.2.1))) with
  | some f => if d.bit FW_PPCFG_WTRIP then d.ppTrip 5 ((f.2.1.head?).getD 0) else d
  | none => d

/-- SF3 and SF4: an enabled entry leaves its band (R272, R283); `was` is its OUT bit before the conversion. -/
def Dev.ppBand (d : Dev) (a : Afe) (e : Nat) (was : Bool) : Dev :=
  if !was ∧ d.bit (AUX_RES_OUT a e) ∧ d.bitAt (ppTm a) e then d.ppTrip 3 0 else d

/-- The entry of the cross-check has a result (R291); it is compared at the boundary that closes the window. -/
def Dev.xcheckEntry (d : Dev) (a : Afe) (e : Nat) : Dev :=
  if d.role = .head ∧ d.bit FW_PPCFG_XEN ∧ a = .L ∧ e = d.get FW_PPXC_XENT ∧ d.get (AUX_ENTA_INPUT .L e) = 19 then
    { d with saf := { d.saf with xcodes := d.saf.xcodes ++ [d.get (AUX_RES_CODE .L e)] } }
  else d

/-- The check of one pass (R291): 10 uV codes against 10 nV codes; two failures in a row are a fault. -/
def Dev.xcheckPass (d : Dev) (c : Nat) : Dev :=
  let diff := ((c : Int) - 0x8000) * 1000 - d.getS (CVW_FRES .L 19)
  let bad := decide ((d.get FW_PPXC_XTOL : Int) * 1000 < |diff|)
  let n := if bad then d.saf.xfails + 1 else 0
  let d := { d with saf := { d.saf with xfails := n } }
  if n = 2 then (d.raise 0xB00C 0 []).seeFaults else d

/-- The cross-checks of the window that has closed (R291), pass by pass; an INV window checks none. -/
def Dev.xcheckWindow (d : Dev) : Dev :=
  let codes := d.saf.xcodes
  let d := { d with saf := { d.saf with xcodes := [] } }
  if d.get (CVW_FFLG .L 19) % 2 = 1 then d else d.each codes Dev.xcheckPass

end Sys2Proof.Machine
end

