-- ==== Sys2Proof/Machine/Groups.lean ====
section
/-!
DEFINITION. The consistency checks of every staged group (R123, R150, R171, R201, R226, R242, R268, R269, R296, R297,
R387, R446, R478), their evaluation at a boundary (R34 to R37, R40), and what an accepted group changes besides its
fields.
-/

namespace Sys2Proof.Machine

/-- The number of the lowest check that fails, of a list in rising order. -/
def firstFail (cs : List (Nat × Bool)) : Option Nat := (cs.find? (fun c => !c.2)).map (·.1)

/-- How many bits of a mask are set. -/
def popCount (v : Nat) : Nat := (List.range 32).countP (fun i => decide (v / 2 ^ i % 2 = 1))

/-- The AFE die of a die. -/
def afeOf : Die → Afe | .afeU => .U | _ => .L

/-! ## Checks -/

/-- MTICK of the first boundary after the ARM write of CVW group 0 (Table 4-20, check 4): the present one where none has come. -/
def Dev.firstBoundary (d : Dev) : Nat := d.win.armedAt.getD d.mtick

/-- CVW (Table 4-20). -/
def Dev.checkCvw (d : Dev) (g : Nat) : Option Nat :=
  let n := d.stg (CVW_WLEN .L)
  let m := d.stg (CVW_SUMM_M .L)
  let apply := d.stg (CVW_APPLYL_APPLY .L) + 2 ^ 32 * d.stg (CVW_APPLYH_APPLY .L)
  match g with
  | 0 => firstFail [
      (1, decide (192 ≤ n ∧ n ≤ 6000000)), (2, decide (1 ≤ m)), (3, decide (n * m ≤ 160000000000)),
      (4, decide (apply ≤ d.firstBoundary + 2 ^ 40)),
      (8, !d.sweepLive || decide (n = d.wlen ∧ d.stg (CVW_EPOCHL_EPOCH .L) = d.get (CVW_EPOCHL_EPOCH .L)
        ∧ d.stg (CVW_EPOCHH_EPOCH .L) = d.get (CVW_EPOCHH_EPOCH .L)))]
  | 1 => firstFail [(5, decide (d.stg (CVW_OUT_FMT .L) = 0 ∨ 1 ≤ d.stg (CVW_OUT_ANCH .L)))]
  | 2 => firstFail [
      (6, decide (d.stgS (CVW_CTLO_TLO .L) < d.stgS (CVW_CTHI_THI .L))),
      (7, decide (1 ≤ d.stg (CVW_CITH_ITH .L) ∧ d.stg (CVW_CITH_ITH .L) ≤ 33000000))]
  | _ => none

/-- AUX (Table 5-4). -/
def Dev.checkAux (d : Dev) (a : Afe) (g : Nat) : Option Nat :=
  let es := rangeL 0 (d.stg (AUX_SEQ_LAST a))
  let src := d.stg (AUX_TRIG_SRC a)
  let selOk (e : Nat) : Bool :=
    let i := d.stg (AUX_ENTA_INPUT a e)
    let s := d.stg (AUX_ENTB_SEL a e)
    if i = 10 ∨ i = 20 then decide (1 ≤ s ∧ s ≤ 18) else if i = 11 then decide (1 ≤ s ∧ s ≤ 17) else true
  let bandOk (e : Nat) : Bool :=
    let lo := d.stg (AUX_BAND_LO a e)
    let hi := d.stg (AUX_BAND_HI a e)
    d.stg (AUX_ENTA_BEN a e) = 0 || decide (lo < hi ∧ 2 * d.stg (AUX_ENTB_HYS a e) < hi - lo)
  match g with
  | 0 => firstFail [
      (1, es.all (fun e => inputPresent a (d.stg (AUX_ENTA_INPUT a e)))), (2, es.all selOk),
      (3, decide (src ≤ 4 ∧ (src = 3 → a = .L)) && (src ≠ 4 || fits d.build (bpdOf a))),
      (4, es.all bandOk), (5, decide (src = 4 → d.stg (AUX_TRIG_PH a) ≤ 29)),
      (6, decide (src = 1 → 10 ≤ d.stg (AUX_TPER a) ∧ d.stg (AUX_TOFS a) < d.stg (AUX_TPER a)))]
  | 1 => firstFail [
      (7, decide (d.stg (AUX_PLC_SLOG a) ≤ 4)),
      (8, decide (10 ≤ d.stg (AUX_PLIM_LIM a) ∧ 1 ≤ d.stg (AUX_PLC_PCONS a)))]
  | _ => none

/-- The cycles of a calibration reading by CAL_CFG.CWIN (Table 6-1). -/
def calCycles (c : Nat) : Nat := match c with | 1 => 100000 | 2 => 600000 | _ => 120000

/-- CAL (06). -/
def Dev.checkCal (d : Dev) (a : Afe) : Option Nat :=
  let stk := d.stg (CAL_CFG_STK a)
  let tout := d.stg (CAL_CFG_TOUT a)
  firstFail [
    (1, decide (4 ≤ stk ∧ stk ≤ 16)), (2, decide (1 ≤ tout ∧ 1 ≤ d.stg (CAL_CFG_STOUT a))),
    (3, decide ((stk + 1) * calCycles (d.stg (CAL_CFG_CWIN a)) ≤ tout * 600000))]

/-- BAL (Table 7-8). -/
def Dev.checkBal (d : Dev) (g : Nat) : Option Nat :=
  let ns := rangeL 1 36
  let dir (n : Nat) : Nat := d.stg (BAL_CSET_DIR n)
  let iset (n : Nat) : Nat := d.stg (BAL_CSET_ISET n)
  let busy (a : Afe) : List Nat := ns.filter (fun n => bankOf n = a && decide (dir n ≠ 0))
  match g with
  | 0 =>
    let nmax := d.stg BAL_LIM_NMAX
    let isum := d.stg BAL_LIM_ISUM
    let tder := d.stg BAL_LIM_TDER
    firstFail [
      (1, decide (1 ≤ d.stg BAL_PCFG_PWIN)), (2, decide (d.stg BAL_PCFG_QK ≠ 1)), (3, decide (1 ≤ nmax ∧ nmax ≤ 18)),
      (4, decide (10 ≤ isum ∧ isum ≤ 3600)), (5, decide (60 ≤ tder ∧ tder ≤ 135))]
  | 1 => firstFail [
      (6, ns.all (fun n => decide (dir n ≠ 3 ∧ d.stg (BAL_CSET_TTYP n) ≠ 3))),
      (7, ns.all (fun n => dir n = 0 || d.hasBpd (bankOf n))),
      (8, ns.all (fun n => if dir n = 1 then decide (5 ≤ iset n ∧ iset n ≤ 200)
        else if dir n = 2 then decide (5 ≤ iset n ∧ iset n ≤ 160) else true)),
      (9, [Afe.L, Afe.U].all (fun a => decide ((busy a).length ≤ d.get BAL_LIM_NMAX))),
      (10, [Afe.L, Afe.U].all (fun a => decide ((busy a).foldl (fun s n => s + iset n) 0 ≤ d.get BAL_LIM_ISUM))),
      (11, ns.all (fun n => let t := d.stg (BAL_CTGT_TGT n)
        d.stg (BAL_CSET_TTYP n) ≠ 2 || decide (10000000 ≤ t ∧ t ≤ 50000000)))]
  | 2 => firstFail [(12, (rangeL 0 36).all (fun j => decide (-10000 ≤ d.stgS (BAL_RW j) ∧ d.stgS (BAL_RW j) ≤ 10000)))]
  | _ => none

/-- IMP (Table 8-9): check 4 asks that no sweep is armed or running. -/
def Dev.checkImp (d : Dev) (g : Nat) : Option Nat :=
  match g with
  | 0 => lowest (d.impCheck0 d.stg) (if d.impQuiet then none else some 4)
  | 1 => lowest (d.impCheck1 d.stg) (if d.impCheck14 d.stg then none else some 14)
  | _ => none

/-- OWD (09). -/
def Dev.checkOwd (d : Dev) : Option Nat :=
  let h := d.stg (OWD_THR_HTHR .L)
  let o := d.stg (OWD_THR_OTHR .L)
  firstFail [
    (1, decide (d.owdDw + 1 ≤ d.stg (OWD_CFG_PER .L))), (2, decide (12 ≤ h ∧ h < o ∧ o ≤ 100)),
    (3, decide (2 ≤ d.stg (OWD_TAP_TPER .L)))]

/-- The hysteresis of a code in mV (Table 10-1). -/
def hystMv (c : Nat) : Nat := match c with | 0 => 0 | 1 => 10 | 2 => 25 | _ => 50

/-- CMP (R268). -/
def Dev.checkCmp (d : Dev) (a : Afe) (g : Nat) : Option Nat :=
  let ks := rangeL 1 18
  let ov (k : Nat) : Nat := d.stg (CMP_THR_OV a k)
  let uv (k : Nat) : Nat := d.stg (CMP_THR_UV a k)
  match g with
  | 0 =>
    let slack (k : Nat) : Int := (ov k : Int) - uv k - d.stg (CMP_DEG_DOV a) - d.stg (CMP_DEG_DUV a)
    let need := hystMv (d.stg (CMP_CFG_OVHYS a)) + hystMv (d.stg (CMP_CFG_UVHYS a)) + 100
    firstFail [
      (1, ks.all (fun k => decide (ov k ≤ 790 ∧ uv k ≤ 790))),
      (2, ks.all (fun k => decide ((need : Int) ≤ 5 * slack k))),
      (3, decide (d.stg (CMP_CFG_OVFLT a) ≤ 6 ∧ d.stg (CMP_CFG_UVFLT a) ≤ 6)),
      (4, ks.all (fun k => decide (ov k ≤ d.get (BZL_ENV_OVMAX a) ∧ d.get (BZL_ENV_UVMIN a) ≤ uv k)))]
  | 1 =>
    let ok (i : Nat) : Bool :=
      let ot := d.stg (CMP_TTHR_OT a i)
      let ut := d.stg (CMP_TTHR_UT a i)
      let rises := d.stg (CMP_TCFG_POL a) / 2 ^ i % 2 = 1
      decide ((if rises then ut < ot else ot < ut) ∧ 2 * d.stg (CMP_TCFG_THYS a) + 8 ≤ max ot ut - min ot ut)
    firstFail [(5, decide (d.stg (CMP_TCFG_TFLT a) ≤ 6)), (6, (List.range 8).all ok)]
  | 2 => firstFail [(7, decide (1 ≤ d.stg (CMP_STCFG_STI a) ∧ d.stg (CMP_STCFG_STI a) ≤ 8))]
  | _ => none

/-- BZL (R269). -/
def Dev.checkBzl (d : Dev) (a : Afe) : Option Nat :=
  let hi := d.stg (BZL_ENV_OVMAX a)
  let lo := d.stg (BZL_ENV_UVMIN a)
  let stf := d.stg (BZL_MTX_STFACT a)
  firstFail [
    (1, decide (lo + 40 ≤ hi ∧ hi ≤ 790)),
    (2, (rangeL 1 18).all (fun k => decide (d.get (CMP_THR_OV a k) ≤ hi ∧ lo ≤ d.get (CMP_THR_OV a k)
      ∧ d.get (CMP_THR_UV a k) ≤ hi ∧ lo ≤ d.get (CMP_THR_UV a k)))),
    (3, decide (d.stg (BZL_MTX_OTACT a) ≠ 3 ∧ d.stg (BZL_MTX_UTACT a) ≠ 3 ∧ (stf = 1 ∨ stf = 2)))]

/-- SDC (R296). -/
def Dev.checkSdc (d : Dev) : Option Nat :=
  let t := d.stg (SDC_GRACE_TGMAX .L)
  let w := d.stg (SDC_DPCFG_DPW .L)
  firstFail [(1, decide (1 ≤ t ∧ t ≤ 1800)), (2, decide (100 ≤ w ∧ w ≤ 300))]

/-- FW: group 3 is the processor channel (R297), group 0 the capture settings (R478). -/
def Dev.checkFw (d : Dev) (g : Nat) : Option Nat :=
  match g with
  | 3 =>
    let gper := d.stg FW_PPCFG_GPER
    let ov := d.stgS FW_PPOV
    let uv := d.stgS FW_PPUV
    let oc := d.stgS FW_PPOC
    firstFail [
      (1, decide (1 ≤ gper ∧ gper ≤ 100)), (2, decide (uv + 2000000 ≤ ov)),
      (3, decide (ov ≤ thrResult (d.get (BZL_ENV_OVMAX .L)) ∧ thrResult (d.get (BZL_ENV_UVMIN .L)) ≤ uv)),
      (4, decide (1 ≤ oc ∧ oc ≤ 33000000)), (5, d.stg FW_PPCFG_XEN = 0 || d.role = .head)]
  | 0 =>
    let pre := d.stg FW_CAPCFG_PRE
    firstFail [
      (6, decide (1 ≤ pre)), (7, decide (pre + d.stg FW_CAPCFG_POST ≤ ncapFour d.build d.role)), (8, !d.snapBusy)]
  | _ => none

/-- TB (R387). -/
def Dev.checkTb (d : Dev) : Option Nat :=
  let slew := d.stg TB_CFG_SLEW
  let ptmi := d.stg TB_CFG_PTMI
  firstFail [
    (1, decide (d.stg TB_CFG_SRC ≤ 3)), (2, decide (1 ≤ slew ∧ slew ≤ 200)), (3, decide (1 ≤ ptmi ∧ ptmi ≤ 128)),
    (4, decide (d.stg TB_CFG_BW ≤ 2)), (5, decide (1 ≤ d.stg TB_HOLD_HMAX ∧ 1 ≤ d.stg TB_HOLD_ELIM))]

/-- BDL of a line (R446). -/
def Dev.checkBdl (d : Dev) (l : Nat) : Option Nat :=
  let conv := d.stg (BDL_SCODE_CONVCODE l)
  let rd := d.stg (BDL_SCODE_READCODE l)
  let r2 := d.stg (BDL_SCODE_R2CODE l)
  let sper := d.stg (BDL_SCH_SPER l)
  let ok (c : Nat) : Bool := decide (c ≤ 1 ∨ (7 ≤ c ∧ c ≤ 14))
  let us := d.stg (BDL_SCH_SOFS l) + (190 + 10 * conv) + 1000 * d.stg (BDL_SCODE_TCONV l)
    + popCount (d.stg (BDL_RMASK l)) * (770 + 10 * rd) + popCount (d.stg (BDL_R2MASK l)) * (770 + 10 * r2)
    + 260 * d.stg (BDL_SCH_FCHK l)
  firstFail [
    (1, decide (1 ≤ sper)), (2, ok conv && ok rd && ok r2 && decide (conv ≠ rd ∧ conv ≠ r2 ∧ rd ≠ r2)),
    (3, decide (1 ≤ d.stg (BDL_SCODE_TCONV l))), (4, decide (us * 6 ≤ sper * d.wlen))]

/-- PWR (03). -/
def Dev.checkPwr (d : Dev) : Option Nat :=
  let hi := d.stg PWR_PBAND_HI
  let lo := d.stg PWR_PBAND_LO
  firstFail [(1, decide (hi ≤ 790)), (2, decide (lo ≤ 790)), (3, decide (lo + 20 ≤ hi))]

/-- The lowest failing check of a group of a block. -/
def Dev.groupFails (d : Dev) (die : Die) (blk : Blk) (g : Nat) : Option Nat :=
  let a := afeOf die
  match blk with
  | .pwr => d.checkPwr
  | .tb => d.checkTb
  | .bdl => d.checkBdl g
  | .imp => d.checkImp g
  | .bal => d.checkBal g
  | .fw => d.checkFw g
  | .cvw => d.checkCvw g
  | .aux => d.checkAux a g
  | .cal => d.checkCal a
  | .cmp => d.checkCmp a g
  | .bzl => d.checkBzl a
  | .owd => d.checkOwd
  | .sdc => d.checkSdc
  | _ => none

/-- The groups a block has (R26): those of the AFE-U blocks that exist there (R123, R228, R296). -/
def blkGroups (die : Die) (blk : Blk) : List Nat :=
  match blk with
  | .pwr | .tb | .cal | .bzl => [0]
  | .owd | .sdc | .grd => if die = .afeU then [] else [0]
  | .bdl | .imp | .aux => [0, 1]
  | .bal | .cmp => [0, 1, 2]
  | .fw => [0, 3]
  | .cvw => if die = .afeU then [3] else [0, 1, 2, 3]
  | _ => []

/-! ## Evaluation -/

/-- What an accepted group changes besides its fields; `old` is the device before. -/
def Dev.onAccept (old : Dev) (die : Die) (blk : Blk) (g : Nat) (d : Dev) : Dev :=
  let a := afeOf die
  match blk, g with
  | .tb, _ => d.tbConfigured
  | .aux, 0 => d.auxConfigured a (old.get (AUX_SEQ_LOOP a))
  | .bal, 1 => d.balPlanChanged ((rangeL 1 36).map (fun n =>
      (old.word (BAL_CSET_DIR n).addr, old.word (BAL_CTGT_TGT n).addr)))
  | .owd, _ => d.owdAdjust
  | .cvw, 0 =>
    let d := d.owdAdjust
    if d.win.opened then d else { d with win := { d.win with newcfg := true, sumPart := true } }
  | .cvw, 1 => if d.win.opened then d else { d with win := { d.win with newcfg := true } }
  | .fw, 3 | .grd, _ | .sdc, _ => d.guardSettle
  | .bzl, _ | .cmp, _ => d.guardSettle
  | _, _ => d

/-- A pending group of the block at a base would pass now. -/
def Dev.passes (d : Dev) (base g : Nat) : Bool :=
  match blockAt base with
  | some (die, blk, _) => d.pend base g && (d.groupFails die blk g).isNone
  | none => false

/-- A pending group is evaluated (R34 to R37). -/
def Dev.evalGroup (d : Dev) (base g : Nat) : Dev :=
  match blockAt base with
  | some (die, blk, _) =>
    if !d.pend base g then d
    else match d.groupFails die blk g with
      | some c => d.rejectGroup base g c
      | none =>
        let take (e : Dev) : Dev := e.acceptGroup base g
        let e := match blk with | .bzl | .cmp => d.guardChange take | _ => take d
        Dev.onAccept d die blk g e
  | none => d

/-- APPLY of CVW group 0 lets it be evaluated now (R91): it is 0, it has come, or it lies too far ahead and fails. -/
def Dev.applyDue (d : Dev) : Bool :=
  let apply := d.stg (CVW_APPLYL_APPLY .L) + 2 ^ 32 * d.stg (CVW_APPLYH_APPLY .L)
  decide (apply ≤ d.mtick ∨ d.firstBoundary + 2 ^ 40 < apply)

/-- A boundary comes for CVW group 0: the first after its ARM write is kept (Table 4-20, check 4). -/
def Dev.noteBoundary (d : Dev) (base : Nat) : Dev :=
  if base = afeBase .L ∧ d.pend base 0 ∧ d.win.armedAt.isNone then { d with win := { d.win with armedAt := some d.mtick } } else d

/-- The pending groups of the block at a base are evaluated in ascending order (R34). -/
def Dev.evalBlock (d : Dev) (base : Nat) : Dev :=
  match blockAt base with
  | some (die, blk, _) =>
    (d.noteBoundary base).each (blkGroups die blk) (fun d g => if blk = .cvw ∧ g = 0 ∧ !d.applyDue then d else d.evalGroup base g)
  | none => d

/-! ## Bases -/

def cvwBase (a : Afe) : Nat := afeBase a
def auxBase (a : Afe) : Nat := afeBase a + 0x1000
def calBase (a : Afe) : Nat := afeBase a + 0x2000
def cmpBase (a : Afe) : Nat := afeBase a + 0x3000
def owdBase : Nat := 0x405000
def tbBase : Nat := 0xC000
def bdlBase : Nat := 0x20000
def impBase : Nat := 0x24000
def balBase : Nat := 0x28000

/-- Groups that waited for a stopped clock are evaluated before their blocks start (R40). -/
def Dev.evalStart (d : Dev) : Dev :=
  let d := d.each [0x4000, tbBase, bdlBase, impBase, balBase, 0x34000] Dev.evalBlock
  d.each d.banks (fun d a => ((d.evalBlock (cvwBase a)).evalBlock (auxBase a)).evalBlock (calBase a))

/-- Pending groups of the CVW and CAL blocks before integration starts (R40). -/
def Dev.evalTrain (d : Dev) : Dev :=
  d.each d.banks (fun d a => (d.evalBlock (cvwBase a)).evalBlock (calBase a))

/-! ## BLOCK_CLOCK_BOUNDARY (R40) -/

/-- The block waits for a boundary of its own (Table 2-3), so a cycle of its clock is none. In WATCH with a plan fast-window
boundaries fall too (R180, R187). -/
def Dev.hasTrain (d : Dev) (die : Die) (blk : Blk) : Bool :=
  let a := afeOf die
  match blk with
  | .cvw => d.win.opened || (d.tbRuns && !d.monitoring)
  | .cal => d.win.opened && ((d.cal a).sess.isSome || (d.cal a).factory)
  | .cmp | .owd => d.win.opened
  | .aux => d.auxRun a
  | .bal => d.bit BAL_STAT_ACTIVE
  | .imp => d.sweepLive
  | .tb => d.tbRuns && (d.win.opened || !d.monitoring)
  | _ => false

/-- The clock of a block runs: AO in the guard blocks and in the PWR block of a CORE that works, the bank's MCLK, or CORE. -/
def Dev.clockRuns (d : Dev) (die : Die) (blk : Blk) : Bool :=
  match blk with
  | .cmp | .bzl | .owd | .sdc | .grd => !d.pw.off && (die = .core || d.banks.contains (afeOf die))
  | .cvw | .aux | .cal => d.bankClock (afeOf die)
  | .pwr => d.lathe
  | _ => d.lathe && (d.tbRuns || d.pw.starting)

/-- BLOCK_CLOCK_BOUNDARY of the block at a base: its pending groups are evaluated, a Beadline line's only while its
schedule does not run. -/
def blockClockBoundaryDev (base : Nat) (d : Dev) : Dev :=
  match blockAt base with
  | none => d
  | some (die, blk, b) =>
    if d.hasTrain die blk ∨ !d.clockRuns die blk then d
    else if blk = .bdl then
      d.each [0, 1] (fun d l => if d.schedRuns l && d.bit (BDL_SCH_EN l) then d else d.evalGroup b l)
    else d.evalBlock b

end Sys2Proof.Machine
end

