-- ==== Sys2Proof/Machine/Lifecycle.lean ====
section
/-!
DEFINITION. The life-cycle chain and its transitions, and the firmware images and their update (19: R497 to R504).
-/

namespace Sys2Proof.Machine

/-! ## The chain of fuses (R498) -/

/-- A logical fuse reads burned: the majority of its three physical fuses is. -/
def burnt (chain : List Nat) (k : Nat) : Bool := decide (2 ≤ (chain[k]?).getD 0)

/-- A logical fuse reads split. -/
def split (n : Nat) : Bool := decide (n = 1 ∨ n = 2)

/-- Service fuses burned, of 2 to 61. -/
def serviceCount (chain : List Nat) : Nat := ((rangeL 2 61).filter (burnt chain)).length

/-- The state that the chain holds. -/
def lifeOf (chain : List Nat) : Nat :=
  if burnt chain 63 then lRetired
  else if burnt chain 1 then (if serviceCount chain % 2 = 1 then lService else lDeployed)
  else if burnt chain 0 then lProvisioned
  else lBlank

/-- LCS_STAT follows the fuses (Table 19-12). -/
def Dev.showLife (d : Dev) : Dev :=
  let d := (d.put LCS_STAT_STATE (lifeOf d.fz.chain)).putB LCS_STAT_TORN (d.fz.chain.any split)
  d.put LCS_STAT_SVCLEFT ((60 - serviceCount d.fz.chain) / 2)

/-- The physical fuses of a logical fuse are burned up to a count. -/
def Dev.burnTo (d : Dev) (k n : Nat) : Dev :=
  { d with fz := { d.fz with chain := d.fz.chain.set k (max n ((d.fz.chain[k]?).getD 0)) } }

/-! ## Requests (R499, R500) -/

/-- The stored copies that DEPLOYED asks for are sound: BZL group 0 on every AFE die, SDC and GRD group 0. -/
def Dev.copiesSound (d : Dev) : Bool :=
  d.nvm.sdc.isSome && !d.nvm.badSdc && d.fitted.all (fun a => (d.nvm.bzl a).isSome && !d.nvm.bzlBad a)

/-- The RESULT that refuses a transition of Table 19-11, or 0. -/
def Dev.lcsRefusal (d : Dev) (target : Nat) : Nat :=
  let now := d.life
  let m := d.cur
  if target = lRetired ∧ now ≠ lRetired then (if m = .safe ∨ m = .legacy then 2 else 0)
  else if now = lBlank ∧ target = lProvisioned then (if m = .provision then 0 else 2)
  else if now = lProvisioned ∧ target = lDeployed then
    (if m ≠ .provision then 2 else if d.copiesSound then 0 else 4)
  else if now = lDeployed ∧ target = lService then
    (if !(m.ladder && decide (3 ≤ m.code)) then 2 else if 60 ≤ serviceCount d.fz.chain then 7 else 0)
  else if now = lService ∧ target = lDeployed then
    (if m = .safe ∨ m = .degraded ∨ m = .calibrate ∨ m = .legacy then 2 else if d.copiesSound then 0 else 4)
  else 3

/-- The logical fuse that a transition burns. -/
def fuseFor (chain : List Nat) (target : Nat) : Nat :=
  if target = lRetired then 63
  else if target = lProvisioned then 0
  else if !burnt chain 1 then 1
  else ((rangeL 2 61).find? (fun k => !burnt chain k)).getD 61

/-- A transition is refused, with its event. -/
def Dev.lcsRefuse (d : Dev) (result : Nat) : Dev := (d.put LCS_STAT_RESULT result).raise 0xC021 0 [result]

/-- The burn of the next fuse starts; fuses that read burned but split are completed with it. -/
def Dev.startBurn (d : Dev) (target : Nat) : Dev :=
  ({ d with lcs := { d.lcs with burn := some (fuseFor d.fz.chain target, target) } }).put LCS_STAT_BUSY 1

/-- The authentication window closes. -/
def Dev.closeAuth (d : Dev) : Dev := ({ d with lcs := { d.lcs with auth := none } }).put LCS_STAT_AUTHW 0

/-- LCS_REQ (R499, R500): the transition is refused, or starts, or opens an authentication window with a new nonce. A
write while a burn runs has no effect. -/
def lcsReqDev (target : Nat) (d : Dev) : Dev :=
  if !d.lathe ∨ d.lcs.burn.isSome then d
  else
    let d := d.closeAuth
    let r := d.lcsRefusal target
    if r ≠ 0 then d.lcsRefuse r
    else if target = lService ∨ target = lRetired then
      let (n, d) := d.draw
      let nonce := Config.lcsNonce n
      let d := d.each (List.range 4) (fun d i => d.put (LCS_CHAL i) (nonce.toNat / 2 ^ (32 * i)))
      ({ d with lcs := { d.lcs with auth := some target } }).put LCS_STAT_AUTHW 1
    else d.startBurn target

/-- LCS_RESP: the write of word 15 submits the signature (R500); `sigOk` is what its check finds. -/
def lcsRespDev (v : Word) (sigOk : Bool) (d : Dev) : Dev :=
  if !d.lathe then d
  else
    let d := d.setWord (LCS_RESP 15).addr v
    match d.lcs.auth with
    | none => d
    | some t => if sigOk then d.closeAuth.startBurn t else d.closeAuth.lcsRefuse 5

/-- AUTH_TIMEOUT (R500). -/
def authTimeoutDev (d : Dev) : Dev := if d.lathe ∧ d.lcs.auth.isSome then d.closeAuth.lcsRefuse 6 else d

/-- FUSE_BURN_DONE (R498, R499): the state changes and is reported; PROVISION is left with DEPLOYED. A burn that failed
leaves part of the physical fuses burned, and the majority decides. -/
def fuseBurnDoneDev (ok : Bool) (d : Dev) : Dev :=
  match d.lcs.burn with
  | none => d
  | some (k, _) =>
    if !d.lathe then d
    else
      let old := d.life
      let (n, d) := d.draw
      let d := ({ d with lcs := { d.lcs with burn := none } }).put LCS_STAT_BUSY 0
      if ok then
        let d := d.burnTo k 3
        let d := { d with fz := { d.fz with chain := d.fz.chain.map (fun c => if c = 2 then 3 else c) } }
        let d := d.showLife.put LCS_STAT_RESULT 1
        let d := (d.raise 0xC020 0 [old, d.life]).guardSettle
        if d.cur = .provision ∧ d.life = lDeployed then d.leaveProvision else d
      else ((d.burnTo k (Config.fuseBurned n % 4)).showLife.put LCS_STAT_RESULT 8).guardSettle

/-! ## Firmware images (R501 to R504) -/

/-- The slot that does not run. -/
def Dev.otherSlot (d : Dev) : Nat := 1 - d.get FW_IMG_RUN

/-- FW_VERA or FW_VERB. -/
def fwVer (slot : Nat) : Fld := if slot = 0 then FW_VERA_VER else FW_VERB_VER

/-- An operation is refused (R503). -/
def Dev.fwRefuse (d : Dev) : Dev := d.put FW_UPDSTAT_RESULT 2

/-- An operation starts, or is refused: another runs, the part is RETIRED, or the trial forbids it. -/
def Dev.fwStart (d : Dev) (op : FwOp) (state : Nat) (inTrial : Bool) : Dev :=
  if d.fw.op.isSome ∨ d.life = lRetired ∨ (d.bit FW_IMG_TRIAL ∧ !inTrial) then d.fwRefuse
  else
    let keep := match op with | .verify => d.fw.verified | _ => false
    (({ d with fw := { d.fw with op := some op, verified := keep } }).put FW_UPDSTAT_STATE state).put FW_UPDSTAT_RESULT 0

/-- FW_ERASE. -/
def fwEraseDev (d : Dev) : Dev := if d.lathe then d.fwStart .erase 1 false else d

/-- FW_PROG: the page named by PAGE takes what FW_UPDBUF holds; pages above 223 do not exist. -/
def fwProgDev (d : Dev) : Dev :=
  if !d.lathe then d
  else
    let page := d.get FW_UPDCTL_PAGE
    if 223 < page then d.fwRefuse
    else d.fwStart (.prog page ((List.range 1024).map (fun i => d.word (FW_UPDBUF i).addr))) 2 false

/-- FW_VERIFY. -/
def fwVerifyDev (d : Dev) : Dev := if d.lathe then d.fwStart .verify 3 true else d

/-- FW_OPERATION_DONE (R503): UPDSTAT is written; VERIFY refuses a security version below MIN and reports. -/
def fwOperationDoneDev (o : FwObs) (d : Dev) : Dev :=
  if !d.lathe then d
  else
    let s := d.otherSlot
    let fin (d : Dev) (state result : Nat) : Dev :=
      (({ d with fw := { d.fw with op := none } }).put FW_UPDSTAT_STATE state).put FW_UPDSTAT_RESULT result
    match d.fw.op with
    | none => d
    | some .erase =>
      let d := d.put (fwVer s) 0
      if o.result = 1 then
        let d := { d with fw := { d.fw with pages := d.fw.pages.filter (fun p => p.slot ≠ s) } }
        fin (d.put FW_UPDSTAT_PAGES 0) 0 1
      else fin d 5 6
    | some (.prog page ws) =>
      let d := d.put (fwVer s) 0
      if o.result = 1 then
        let rest := d.fw.pages.filter (fun p => !(p.slot = s && p.page = page))
        let d := { d with fw := { d.fw with pages := rest ++ [(⟨s, page, ws⟩ : FwPage)] } }
        fin (d.countSat FW_UPDSTAT_PAGES 1) 0 1
      else fin d 5 6
    | some .verify =>
      let result := if o.result = 1 ∧ o.svn < d.get FW_SVN_MIN then 5 else o.result
      if result = 1 then
        let d := { d with fw := if s = 0 then { d.fw with verified := true, svnA := o.svn }
                                else { d.fw with verified := true, svnB := o.svn } }
        (fin (d.put (fwVer s) o.version.toNat) 4 1).raise 0xC030 0 [o.version.toNat]
      else
        let d := { d with fw := { d.fw with verified := false } }
        (fin (d.put (fwVer s) 0) 5 result).raise 0xC031 0 [result]

/-- FW_ACT (R504): NEXT takes the verified slot; with RST a warm reset becomes due. -/
def fwActDev (rst : Bool) (d : Dev) : Dev :=
  if !d.lathe then d
  else
    let d := d.putB FW_UPDCTL_RST rst
    if !d.fw.verified ∨ d.life = lRetired ∨ d.fw.op.isSome then d.fwRefuse
    else ({ d with fw := { d.fw with fresh := true, rstDue := rst } }).put FW_IMG_NEXT d.otherSlot

/-- FW_CONFIRM (R504): the trial ends, and MIN rises by fuse to the security version of the image. -/
def fwConfirmDev (d : Dev) : Dev :=
  if d.lathe ∧ d.bit FW_IMG_TRIAL then
    let d := (d.put FW_IMG_TRIAL 0).raise 0xC033 0 []
    let svn := max d.fz.svn (min 63 (d.get FW_SVN_RUN))
    ({ d with fz := { d.fz with svn := svn } }).put FW_SVN_MIN svn
  else d

end Sys2Proof.Machine
end

