-- ==== Sys2Proof/Machine/Legacy.lean ====
section
/-!
DEFINITION. ZM1210 compatibility (20): legacy frames, the virtual devices and their registers, and the bridge of a native
member to a chain of ZM1210s.
-/

namespace Sys2Proof.Machine

/-! ## Legacy frames (R510, R511, Table 20-2) -/

/-- The CRC that a legacy frame must carry (R511). -/
def lfCrcOf (w : BitVec 48) : BitVec 8 := ((leBytes 5 (w.toNat / 256)).reverse).foldl (crcMsbByte 0x07#8) 0

def lfCmd (w : BitVec 48) : Nat := bitsOf w 43 40
def lfAddr (w : BitVec 48) : Nat := bitsOf w 39 34
def lfReg (w : BitVec 48) : Nat := bitsOf w 31 24
def lfData (w : BitVec 48) : Nat := bitsOf w 23 8

/-- SYNC and CRC are right. -/
def lfOk (w : BitVec 48) : Bool := decide (bitsOf w 47 44 = 0xA) && decide (bitsOf w 7 0 = (lfCrcOf w).toNat)

/-- A frame with its CRC; `mid` is what bits [33:24] hold. -/
def lfMake (cmd addr mid data : Nat) : BitVec 48 :=
  let n := 0xA * 2 ^ 44 + cmd % 16 * 2 ^ 40 + addr % 64 * 2 ^ 34 + mid % 1024 * 2 ^ 24 + data % 65536 * 2 ^ 8
  BitVec.ofNat 48 (n + (lfCrcOf (BitVec.ofNat 48 n)).toNat)

/-! ## Virtual devices (R509, Table 20-1) -/

/-- A virtual device after power-on or RESET, with the registers it had. -/
def VDev.unaddressed (v : VDev) : VDev := { v with addr := 0, cc := 0, conv := false, thr := false }

def freshVDev : VDev := ⟨0, 0, List.replicate 12 0, 0, 0, 0, false, false, false⟩

/-- How many virtual devices the build appears as. -/
def vdevCount : Build → Nat | .F => 3 | _ => 2

/-- The global cells of virtual device i. -/
def Dev.vdevCells (d : Dev) (i : Nat) : List Nat := (rangeL (12 * i + 1) (12 * i + 12)).filter (fun n => decide (n ≤ d.cells))

/-- Die and first entry of TEMP0 and TEMP1. -/
def vdevTemp (i : Nat) : Afe × Nat := if i = 0 then (.L, 0) else if i = 1 then (.L, 2) else (.U, 0)

def Dev.vdev (d : Dev) (i : Nat) : VDev := (d.leg.vdevs[i]?).getD freshVDev

def Dev.setVdev (d : Dev) (i : Nat) (v : VDev) : Dev := { d with leg := { d.leg with vdevs := d.leg.vdevs.set i v } }

/-- The virtual devices by index. -/
def Dev.vdevIds (d : Dev) : List Nat := List.range (vdevCount d.build)

/-- Every virtual device has an address: the device relays north (R513). -/
def Dev.relaysNorth (d : Dev) : Bool := d.vdevIds.all (fun i => decide ((d.vdev i).addr ≠ 0))

/-- The virtual devices that a frame names, by address or broadcast. -/
def Dev.named (d : Dev) (addr : Nat) : List Nat :=
  d.vdevIds.filter (fun i => decide (addr = 63) || decide (addr ≠ 0 ∧ (d.vdev i).addr = addr))

/-- Discharge bits in force (R519): DIR = OUT in a live plan. -/
def Dev.dischBits (d : Dev) (i : Nat) : Nat :=
  if d.planLive then
    (d.vdevCells i).foldl (fun m n => if d.get (BAL_CSET_DIR n) = 1 then m + 2 ^ (n - 12 * i - 1) else m) 0
  else 0

/-- STS of Table 20-2: FAULT also shows a channel fault (R508) and a tripped Bezel block (R520). -/
def Dev.legSts (d : Dev) (i : Nat) : Nat :=
  let cells := d.vdevCells i
  let (a, e) := vdevTemp i
  let any (f : Afe → Fld) : Bool := cells.any (fun n => d.bitAt (f (bankOf n)) (localOf n - 1))
  let temp := [e, e + 1].any (fun k => d.bitAt (CMP_TST_OT a) k || d.bitAt (CMP_TST_UT a) k)
  let fault := (d.vdev i).inv || !d.saf.faults.isEmpty || d.banks.any (fun a => d.bezel a = bTripped)
  flagBit fault 5 + flagBit (any CMP_OVST) 4 + flagBit (any CMP_UVST) 3 + flagBit temp 2
    + flagBit (d.dischBits i ≠ 0) 1

/-- The device answers out of its south port (R512), with the CC that counts the command (R515). -/
def Dev.legRespond (d : Dev) (i cmd data : Nat) : Dev :=
  let v := d.vdev i
  d.emit (.legacyFrame .south (lfMake cmd v.addr (v.cc * 64 + d.legSts i) data))

/-- CC counts an accepted frame (R515). -/
def Dev.countCc (d : Dev) (i : Nat) : Dev := d.setVdev i { d.vdev i with cc := ((d.vdev i).cc + 1) % 16 }

/-- A command frame at a port of a device in LEGACY (R511 to R513): its partner is a legacy one (R308, R319); from the south it
is relayed once every virtual device has an address, and acts; what comes from the north are responses, which go south. -/
def legacyIn (p : Port) (w : BitVec 48) (cmd : Nat) (d : Dev) (act : Dev → Dev) : Dev :=
  if !d.inLegacy ∨ !d.lathe ∨ !lfOk w ∨ lfCmd w ≠ cmd then d
  else
    let d := d.legUp p
    match p with
    | .north => if cmd = 0 then d else d.emit (.legacyFrame .south w)
    | .south =>
      let d := if d.relaysNorth then d.emit (.legacyFrame .north w) else d
      act d

/-- Every virtual device that a frame names counts it and acts; one that its address names answers with the data given. -/
def Dev.forNamed (d : Dev) (w : BitVec 48) (f : Dev → Nat → Nat × Dev) : Dev :=
  d.each (d.named (lfAddr w)) (fun d i =>
    let (data, d) := f (d.countCc i) i
    if lfAddr w = 63 then d else d.legRespond i (lfCmd w) data)

/-- SETADDR (R513): the first unaddressed virtual device takes an address from 1 to 62. -/
def setaddrDev (p : Port) (w : BitVec 48) (d : Dev) : Dev :=
  legacyIn p w 1 d (fun d =>
    if lfAddr w = 0 ∨ lfAddr w = 63 then d
    else match d.vdevIds.find? (fun i => (d.vdev i).addr = 0) with
      | none => d
      | some i => ((d.setVdev i { d.vdev i with addr := lfAddr w }).countCc i).legRespond i 1 (lfData w))

/-! ## Registers (R517 to R519) -/

/-- A cell's threshold in mV as OVTH and UVTH read it. -/
def Dev.thMv (d : Dev) (ov : Bool) (i : Nat) : Nat :=
  let n := 12 * i + 1
  d.get (if ov then CMP_THR_OV (bankOf n) (localOf n) else CMP_THR_UV (bankOf n) (localOf n)) * 5 + 1000

/-- The value of a legacy register (Table 20-4). -/
def Dev.legRead (d : Dev) (i reg : Nat) : Nat :=
  let v := d.vdev i
  if reg ≤ 0x0B then (v.cells[reg]?).getD 0
  else match reg with
    | 0x10 => v.stack
    | 0x11 => v.temp0
    | 0x12 => v.temp1
    | 0x20 => d.thMv true i
    | 0x21 => d.thMv false i
    | 0x30 => d.dischBits i
    | 0x3F => 0x1210
    | _ => 0

/-- LEGACY_RD (R517). -/
def legacyRdDev (p : Port) (w : BitVec 48) (d : Dev) : Dev :=
  legacyIn p w 3 d (fun d => d.forNamed w (fun d i => (d.legRead i (lfReg w), d)))

/-- The threshold code of a value in mV (R518). -/
def thCode (mv : Nat) : Nat := (max 0 (min 790 (roundDiv ((mv : Int) - 1000) 5))).toNat

/-- OVTH or UVTH is staged into every cell of the virtual device (R518). -/
def Dev.stageTh (d : Dev) (ov : Bool) (i mv : Nat) : Dev :=
  let d := d.each (d.vdevCells i) (fun d n =>
    let a := bankOf n
    let f := if ov then CMP_THR_OV a (localOf n) else CMP_THR_UV a (localOf n)
    d.stage (afeBase a + 0x3000) 0 f (thCode mv))
  d.setVdev i { d.vdev i with thr := true }

/-- Discharge bits of virtual device i are staged as a plan (R519); with no live plan, those of the others are cleared. -/
def Dev.stageDisch (d : Dev) (i bits : Nat) : Dev :=
  let live := d.planLive
  let d := d.each d.allCells (fun d n =>
    let mine := decide (12 * i < n ∧ n ≤ 12 * i + 12)
    if !mine && live then d
    else
      let on := mine && decide (bits / 2 ^ (n - 12 * i - 1) % 2 = 1)
      let d := d.stage 0x28000 1 (BAL_CSET_DIR n) (if on then 1 else 0)
      if on then (d.stage 0x28000 1 (BAL_CSET_ISET n) d.leg.iset).stage 0x28000 1 (BAL_CSET_TTYP n) 0 else d)
  (d.arm 0x28000 1)

/-- A write of DISCH. -/
def Dev.writeDisch (d : Dev) (i bits : Nat) : Dev :=
  let d := d.stageDisch i bits
  if d.planLive then d else balStartDev d

/-- A write of CLEAR: the latch resets (R508, R517). -/
def Dev.legClear (d : Dev) : Dev := processorLatchReset (bezelLatchResetDev .L d)

/-- A write to a legacy register; registers that take none are ignored, and still counted. -/
def Dev.legWrite (d : Dev) (i reg data : Nat) : Dev :=
  match reg with
  | 0x20 => d.stageTh true i data
  | 0x21 => d.stageTh false i data
  | 0x30 => d.writeDisch i data
  | 0x3E => if data = 0x5AFE then d.legClear else d
  | _ => d

/-- A WR frame whose register meets a condition. -/
def legacyWrite (sel : Nat → Bool) (p : Port) (w : BitVec 48) (d : Dev) : Dev :=
  if sel (lfReg w) then
    legacyIn p w 2 d (fun d => d.forNamed w (fun d i => (lfData w, d.legWrite i (lfReg w) (lfData w))))
  else d

/-- LEGACY_WR (R517): any register. -/
def legacyWrDev (p : Port) (w : BitVec 48) (d : Dev) : Dev := legacyWrite (fun _ => true) p w d
/-- OVTH_UVTH_WRITE (R518). -/
def ovthUvthWriteDev (p : Port) (w : BitVec 48) (d : Dev) : Dev := legacyWrite (fun r => r = 0x20 || r = 0x21) p w d
/-- DISCH (R519). -/
def dischDev (p : Port) (w : BitVec 48) (d : Dev) : Dev := legacyWrite (fun r => r = 0x30) p w d
/-- CLEAR (R517). -/
def clearDev (p : Port) (w : BitVec 48) (d : Dev) : Dev := legacyWrite (fun r => r = 0x3E) p w d

/-- CONVERT (R516, R518): a latch at the next boundary, and the arming of CMP group 0 where thresholds were staged. -/
def convertDev (p : Port) (w : BitVec 48) (d : Dev) : Dev :=
  legacyIn p w 4 d (fun d => d.forNamed w (fun d i =>
    let banks := ((d.vdevCells i).map bankOf).eraseDups
    let d := if (d.vdev i).thr then d.each banks (fun d a => d.arm (afeBase a + 0x3000) 0) else d
    (lfData w, d.setVdev i { d.vdev i with conv := true, thr := false })))

/-- What CONVERT latches of a cell result and its flags (Table 20-4). -/
def legCell (res : Int) (flg : Nat) : Nat :=
  if flg % 2 = 1 then 0 else if flg / 2 % 2 = 1 then 0xFFFF else (min 65535 (max 0 (roundDiv res 1000))).toNat

/-- The window that has closed is latched by the virtual devices that wait for it (R516). -/
def Dev.legWindow (d : Dev) : Dev :=
  d.each (d.vdevIds.filter (fun i => (d.vdev i).conv)) (fun d i =>
    let cells := d.vdevCells i
    let at_ (n : Nat) : Afe × Nat := chanAt n
    let res (n : Nat) : Int := d.getS (CVW_FRES (at_ n).1 (at_ n).2)
    let flg (n : Nat) : Nat := d.get (CVW_FFLG (at_ n).1 (at_ n).2)
    let sum := cells.foldl (fun s n => if flg n % 2 = 1 then s else s + res n) 0
    let (a, e) := vdevTemp i
    let regs := cells.map (fun n => legCell (res n) (flg n))
    d.setVdev i { d.vdev i with
      cells := regs ++ List.replicate (12 - regs.length) 0
      stack := (min 65535 (max 0 (roundDiv sum 10000))).toNat
      temp0 := d.get (AUX_RES_CODE a e), temp1 := d.get (AUX_RES_CODE a (e + 1))
      inv := cells.any (fun n => decide (flg n % 2 = 1)), conv := false })

/-- LEGACY_RESET (R514): broadcast only. -/
def legacyResetDev (p : Port) (w : BitVec 48) (d : Dev) : Dev :=
  legacyIn p w 6 d (fun d =>
    if lfAddr w ≠ 63 then d
    else
      let on := d.vdevIds.filter (fun i => decide (d.dischBits i ≠ 0))
      let d := d.each on (fun d i => d.stageDisch i 0)
      { d with leg := { d.leg with vdevs := d.leg.vdevs.map VDev.unaddressed } })

/-- LEGACY_IDLE_SEND (R512). -/
def legacyIdleSendDev (d : Dev) : Dev :=
  if d.inLegacy ∧ d.lathe then d.emit (.legacyFrame .south (lfMake 0 0 0 0)) else d

/-- LEG_DTO (R519): the discharge bits of a virtual device clear. -/
def legDtoDev (i : Nat) (d : Dev) : Dev :=
  if d.inLegacy ∧ d.lathe ∧ d.leg.dto ≠ 0 ∧ d.dischBits i ≠ 0 then (d.stageDisch i 0).raise 0xE003 0 [i] else d

/-! ## Entry (R506, R507) -/

/-- The fixed table of the aux sequencer in LEGACY. -/
def Dev.legacyAux (d : Dev) (a : Afe) : Dev :=
  let d := (((d.put (AUX_TRIG_SRC a) 2).put (AUX_SEQ_LOOP a) 0).put (AUX_SEQ_LAST a) 7).put (AUX_CTRL_EN a) 1
  let d := d.each (List.range 8) (fun d i =>
    let d := (d.put (AUX_ENTA_INPUT a i) i).put (AUX_ENTA_REPM1 a i) 3
    ((d.put (AUX_ENTA_WAITTRG a i) 0).put (AUX_ENTA_DLY a i) 0).put (AUX_ENTB_SEL a i) 0)
  (d.setAux a { d.aux a with left := none }).auxSettle a

/-- A member whose stored FW_LEG.EN is 1 enters LEGACY at the end of its start (R506). -/
def Dev.enterLegacy (d : Dev) : Dev :=
  let d := { d with leg := ⟨List.replicate (vdevCount d.build) freshVDev, max 5 (min 200 (d.get FW_LEG_ISET)), d.get FW_LEG_DTO, none⟩ }
  let d := (d.showMode 11 4 0x11).raise 0xE001 0 []
  d.each d.banks Dev.legacyAux

/-- FW_LEG_SAVE: EN, DTO and ISET go to NVM, and act from the next power-on (R506). -/
def fwLegSaveDev (d : Dev) : Dev :=
  if d.lathe then { d with nvm := { d.nvm with leg := d.word FW_LEG_EN.addr } } else d

/-! ## The bridge (R521, R522) -/

/-- The bridge of a native member that runs the services of MONITOR (R521): it sends RESET and SETADDR 1, 2 and so on until one
draws no response or 62 are taken. -/
def Dev.bridge (d : Dev) (p : Port) (answers : Nat) : Dev :=
  let n := min 62 answers
  let d := d.emit (.legacyFrame p (lfMake 6 63 0 0))
  let d := d.each (rangeL 1 (min 62 (n + 1))) (fun d k => d.emit (.legacyFrame p (lfMake 1 k 0 0)))
  let d := ((d.put FW_LSTAT_BRIDGE 1).put FW_LSTAT_PORT (portCode p)).put FW_LSTAT_NLEG n
  d.raise 0xE002 0 [n, portCode p]

/-- A port has a legacy partner: LR with LEG = 1 (R308). -/
def Dev.legPort (d : Dev) (p : Port) : Bool := decide (d.pstate p = pLr) && d.bit (SPN_PORT_LEG p)

/-- LEG_CHAIN (R308, R521): a partner that sends frames and no link words makes the port of any device LR with LEG = 1, and a
native member that can bridges the chain. -/
def legChainDev (p : Port) (answers : Nat) (d : Dev) : Dev :=
  if !d.lathe then d
  else
    let d := d.legUp p
    if d.legPort p ∧ d.role = .member ∧ !d.inLegacy ∧ d.monitoring then d.bridge p answers else d

/-- The legacy link of the bridge is gone. -/
def Dev.bridgeLost (d : Dev) (p : Port) : Dev :=
  if d.bit FW_LSTAT_BRIDGE ∧ d.get FW_LSTAT_PORT = portCode p ∧ !d.bit (SPN_PORT_LEG p) then d.put FW_LSTAT_BRIDGE 0 else d

/-- A result in FW_LPXR. -/
def Dev.lpxResult (d : Dev) (err cc sts data : Nat) : Dev :=
  let d := ((d.put FW_LPXR_DONE 1).put FW_LPXR_ERR err).put FW_LPXR_CC cc
  (d.put FW_LPXR_STS sts).put FW_LPXR_DATA data

/-- FW_LPXC_GO (R522): one command out of the bridge port; refused while one is outstanding, or with no bridge. -/
def fwLpxcGoDev (d : Dev) : Dev :=
  if !d.lathe then d
  else if d.leg.lpx.isSome ∨ !d.bit FW_LSTAT_BRIDGE then (d.put FW_LPXR_DONE 1).put FW_LPXR_ERR 3
  else
    let cmd := d.get FW_LPXC_CMD
    let addr := d.get FW_LPXC_ADDR
    let p : Port := if d.get FW_LSTAT_PORT = 0 then .north else .south
    let d := d.emit (.legacyFrame p (lfMake cmd addr (d.get FW_LPXC_REG) (d.get FW_LPXD_DATA)))
    { d with leg := { d.leg with lpx := some (cmd, addr) } }

/-- LEGACY_RESPONSE (R522): the answer to the outstanding command, or a frame whose CRC fails in its place. -/
def legacyResponseDev (w : BitVec 48) (d : Dev) : Dev :=
  if !d.lathe then d
  else match d.leg.lpx with
    | none => d
    | some (cmd, addr) =>
      let e := { d with leg := { d.leg with lpx := none } }
      if !lfOk w then e.lpxResult 2 0 0 0
      else if lfCmd w = cmd ∧ lfAddr w = addr then e.lpxResult 0 (bitsOf w 33 30) (bitsOf w 29 24) (lfData w)
      else d

/-- LPX_TIMEOUT (R522). -/
def lpxTimeoutDev (d : Dev) : Dev :=
  if d.lathe ∧ d.leg.lpx.isSome then ({ d with leg := { d.leg with lpx := none } }).lpxResult 1 0 0 0 else d

end Sys2Proof.Machine
end

