-- ==== Sys2Proof/Machine/Power.lean ====
section
/-!
DEFINITION. Modes, power and clocks (03): what a change of mode starts and stops, the end of a transition, SHIP and
PROVISION, the wakes, the PATROL check, and the clock domains.
-/

namespace Sys2Proof.Machine

/-! ## Clock domains (R78 to R80) -/

/-- The domains that run, by bit (Table 3-7). During a start from power-on only AO and CORE do (Table 3-14). -/
def Dev.clkOn (d : Dev) (i : Nat) : Bool :=
  let up := !d.pw.starting
  match i with
  | 0 => true
  | 1 => d.pw.warm || (d.lathe && (d.tbRuns || d.pw.starting))
  | 2 => d.mclkOn || d.tbRuns
  | 3 => d.mclkOn || d.planClock .L
  | 4 => decide (d.role = .member ∧ d.build = .F) && (d.mclkOn || d.planClock .U)
  | 5 => d.hasBpd .L && d.bit (BPS_STAT_SW .L)
  | 6 => d.hasBpd .U && d.bit (BPS_STAT_SW .U)
  | 7 => decide (pTrain ≤ d.pstate .north)
  | 8 => decide (pTrain ≤ d.pstate .south)
  | 9 => up && d.lathe && decide (2 ≤ d.level)
  | 10 => up && decide (d.role = .head) && !d.hif.l2 && !d.pw.off
  | 11 => d.monitoring && (decide (d.bdl.l0.act ≠ BdlAct.idle) || decide (d.bdl.l1.act ≠ BdlAct.idle))
  | 12 => d.iicRun
  | 13 => decide (d.build = .F) && d.bit RCD_STAT_BUSY
  | 14 => up && d.guardUp
  | _ => false

/-- The level that a start from power-on or a rise in progress leads to; its domains are requested meanwhile. -/
def Dev.risingTo (d : Dev) : Nat :=
  if d.pw.starting then 4 else match d.pw.trans with
    | some t => if t.goal.ladder then t.goal.code else 0
    | none => 0

/-- The domains whose owner has requested them: those that run, those of the mode that a rise leads to, and the one of the Burl
die, which each access to it requests. -/
def Dev.clkAsked (d : Dev) (i : Nat) : Bool :=
  let goal := d.risingTo
  d.clkOn i || match i with
    | 1 | 2 | 3 => decide (4 ≤ goal)
    | 4 => decide (4 ≤ goal) && decide (d.role = .member ∧ d.build = .F)
    | 9 => decide (2 ≤ goal)
    | 10 => d.pw.starting && decide (d.role = .head) && !d.hif.l2
    | 13 => d.burlWorks
    | 14 => decide (3 ≤ goal)
    | _ => false

/-- CLK_STAT.RUN: running and valid. -/
def Dev.clkRun (d : Dev) : Nat :=
  (List.range 15).foldl (fun m i => if d.clkOn i && !d.pw.clkBad.getLsbD i then m + 2 ^ i else m) 0

/-- Failures of domains that are stopped are over: their next start is a new one. -/
def Dev.clkSettle (d : Dev) : Dev :=
  let keep := (List.range 15).foldl (fun m i => if d.clkAsked i && d.pw.clkBad.getLsbD i then m + 2 ^ i else m) 0
  { d with pw := { d.pw with clkBad := BitVec.ofNat 15 keep } }

/-- CLOCK_FAIL (R80): a requested domain fails, or fails to start. -/
def clockFailDev (i : Nat) (d : Dev) : Dev :=
  if 15 ≤ i ∨ !d.clkAsked i ∨ d.pw.off then d
  else
    let d := { d with pw := { d.pw with clkBad := d.pw.clkBad ||| BitVec.ofNat 15 (2 ^ i) } }
    (((d.put CLK_FAIL (d.get CLK_FAIL ||| 2 ^ i)).raise 0xD030 0 [i])).guardSettle

/-! ## A change of mode and what follows it -/

/-- CUR and BASE take new values (R66), and what the levels cross starts or stops: guard logic below and from WATCH, the
services of MONITOR, the ports in PATROL, the high rate, the Beadline rosters. A port at the low rate says PARK before its
device enters PATROL or SHIP (R304). -/
def Dev.moveTo (d : Dev) (cur base trig : Nat) : Dev :=
  let was := d.monitoring
  let up := d.guardUp
  let d := if cur ≤ 1 ∧ 2 ≤ d.level then d.parkWords else d
  let d := d.showMode cur base trig
  let d := if up && !d.guardUp then d.guardFall else d
  let d := if !was && d.monitoring then d.evalStart else d
  let d := d.services was
  let d := if d.level ≤ 1 then d.portsOff else d.portsOn
  let d := if !up && d.guardUp then d.guardRise.bdlRise else d
  d.hrSettle.seeTimePort.clkSettle.guardSettle.reportFound

/-- No transition is in progress any more. -/
def Dev.transOver (d : Dev) : Dev :=
  ({ d with pw := { d.pw with trans := none, later := none } }).put PWR_STAT_TRANS 0

/-- A ladder transition has completed: a trigger that waited acts (R62), and the budget rule is evaluated (R56). A rise that
goes on keeps the code of the head rule that decided it (Table 3-17, R550). -/
def Dev.thenBudget (d : Dev) (later : Option (Nat × Nat)) (trig : Nat) : Dev :=
  match later with
  | some (goal, code) =>
    if goal = 0 then d.budgetEval code
    else if d.cur.ladder ∧ d.get PWR_STAT_CUR < goal then d.startTrans goal code
    else d.budgetEval 3
  | none => d.budgetEval (if trig = 0x12 ∧ d.get PWR_STAT_BASE < d.targetLevel then 0x12 else 3)

/-- The start from power-on ends (Table 3-4, R506). -/
def Dev.startDone (d : Dev) : Dev :=
  let d := ({ d with pw := { d.pw with starting := false } }).evalStart
  let d := d.raise 0xD001 0 [4, 4, 1]
  let d := if d.role = .head then d.put HIF_STAT_READY 1 else d
  if d.role = .member ∧ d.bit FW_LEG_EN then (d.services false).enterLegacy.transOver
  else ((d.services false).guardSettle.setHold.transOver).thenBudget none 3

/-- The transition in progress completes (R60, R62, R550). -/
def Dev.transDone (d : Dev) : Dev :=
  match d.pw.trans with
  | none => d
  | some t =>
    let later := d.pw.later
    let cur := d.get PWR_STAT_CUR
    let base := d.get PWR_STAT_BASE
    match t.goal with
    | .provision =>
      if d.cur.ladder then (d.transOver.moveTo 12 base t.trig).thenBudget later t.trig
      else if d.cur = .calibrate then d
      else d.transOver.thenBudget later t.trig
    | g =>
      let d := d.transOver
      if d.cur = .provision ∧ t.trig = 0x10 then ((d.moveTo 3 3 t.trig).setHold).thenBudget later t.trig
      else if d.cur.ladder then (d.moveTo g.code g.code t.trig).thenBudget later t.trig
      else if base < g.code then (d.moveTo cur g.code t.trig).thenBudget later t.trig
      else d.thenBudget later t.trig

/-- MODE_TRANSITION_DONE (R60, R62, R550). -/
def modeTransitionDoneDev (d : Dev) : Dev :=
  if !d.lathe then d else if d.pw.starting then d.startDone else d.transDone

/-- A command arrives below MONITOR (R58): the transition in progress completes (R62), the device rises, in the same step, and
then executes the command. In an override mode nothing rises, whatever its base mode (log 126). -/
def Dev.riseForCommand (d : Dev) : Dev :=
  if d.cur.ladder ∧ d.get PWR_STAT_CUR < 4 ∧ !d.pw.starting ∧ d.lathe then
    let d := ({ d with pw := { d.pw with later := some (4, 4) } }).transDone
    if d.cur.ladder ∧ d.get PWR_STAT_CUR < 4 then (d.transOver.moveTo 4 4 4).setHold.budgetEval 3 else d
  else d

/-! ## Requests (R54, R55, R61, R64) -/

/-- PWR_BUDGET_WRITE (R55). -/
def pwrBudgetWriteDev (v : Word) (d : Dev) : Dev :=
  if !d.lathe then d
  else
    let d := ((d.put PWR_BUDGET_HOLD (bitsOf v 31 24)).put PWR_BUDGET_FLOOR (bitsOf v 17 16)).put PWR_BUDGET_BUDGET (bitsOf v 15 0)
    d.budgetEval 3

/-- A request is refused (R61). -/
def Dev.modeRefused (d : Dev) : Dev := (d.put PWR_STAT_REFUSED 1).raise 0xD002 0 []

/-- A sweep is armed, running or between points. -/
def Dev.sweepActive (d : Dev) : Bool := d.get IMP_STAT_STATE = 1 || d.get IMP_STAT_STATE = 2

/-- ENTER_SHIP (R61): refused, or the 5 ms entry starts. -/
def enterShipDev (d : Dev) : Dev :=
  if !d.lathe ∨ d.pw.shipEntry.isSome then d
  else if !d.cur.ladder ∨ d.planLive ∨ d.sweepActive ∨ d.pw.streamBound ∨ d.boundMask ≠ 0 then d.modeRefused
  else ({ d.transOver with pw := { d.transOver.pw with shipEntry := some .quiet } }).put PWR_STAT_TRANS 1

/-- ENTER_PROVISION (R61). -/
def enterProvisionDev (d : Dev) : Dev :=
  if !d.lathe then d
  else if d.life = lDeployed ∨ d.cur = .safe ∨ d.cur = .degraded ∨ d.cur = .legacy then d.modeRefused
  else if d.cur = .provision ∨ d.pw.shipEntry.isSome then d
  else
    let later := if d.pw.trans.isSome then some (0, 3) else d.pw.later
    ({ d with pw := { d.pw with trans := some ⟨.provision, 0x10⟩, later := later } }).put PWR_STAT_TRANS 1

/-- LEAVE_PROVISION (R61). -/
def leaveProvisionDev (d : Dev) : Dev :=
  if !d.lathe then d else if d.cur = .provision then d.leaveProvision else d.modeRefused

/-! ## Wakes (R70, R72 to R74) -/

/-- A wake brings the device to DOZE at least; the budget rule follows after HOLD (R73). -/
def Dev.wakeToDoze (d : Dev) (trig : Nat) : Dev := d.setHold.riseTo 2 trig

/-- WAKE_TONE (R64, R73, R74), with the time of its detection: in SHIP or during its entry the tone is remembered for the
start; else it is relayed, unless the other port has sent one in the last 10 ms, and the device rises. -/
def wakeToneDev (p : Port) (time : Nat) (d : Dev) : Dev :=
  let d := d.atTime time
  if (d.pw.off ∧ !d.dead .afeL) ∨ d.pw.shipEntry.isSome then { d with pw := { d.pw with shipEntry := some (.tone p) } }
  else if !d.lathe then d
  else
    let d := d.countMod SPN_TONE_RX 1
    let d := if d.toneRecent (otherPort p) then d else d.sendTone (otherPort p)
    (d.wakeToDoze 5).hostWake

/-- WAKE_PIN (R64, R72 to R74). Of a tone and a later pin edge in SHIP or its entry, the later one counts (log 127). -/
def wakePinDev (d : Dev) : Dev :=
  if (d.pw.off ∧ !d.dead .afeL) ∨ d.pw.shipEntry.isSome then { d with pw := { d.pw with shipEntry := some .pin } }
  else if !d.lathe then d
  else (d.wakeToDoze 6).hostWake

/-! ## The PATROL check (R67 to R71) -/

/-- Open-wire margin in 0.1 mV. -/
def owMargin (c : Nat) : Int := match c with | 0 => 2000 | 1 => 4000 | _ => 6000

/-- The cells, in global numbering, whose voltage lies outside a band. -/
def outside (lo hi : Int) (vs : List Int) (n : Nat) : List (Nat × Bool) :=
  ((vs.take n).zipIdx.filter (fun (v, _) => decide (v < lo ∨ hi < v))).map (fun (v, i) => (i + 1, decide (hi < v)))

/-- PATROL_CHECK (R67, R69): the band check and the open-wire pulls, the failed part once more, and the finding, whose event
waits for the low-rate chain. HOLD counts anew from a finding (log 58). -/
def patrolCheckDev (o : PatrolObs) (d : Dev) : Dev :=
  if d.cur ≠ .patrol ∨ d.role = .head ∨ !d.lathe then d
  else
    let lo : Int := 10000 + 50 * (d.get PWR_PBAND_LO : Int)
    let hi : Int := 10000 + 50 * (d.get PWR_PBAND_HI : Int)
    let m := owMargin (d.get PWR_PATROL_OWM)
    let ow := d.bit PWR_PATROL_OWEN
    let twice (lo hi : Int) (a b : List Int) : List (Nat × Bool) :=
      if (outside lo hi a d.cells).isEmpty then [] else outside lo hi b d.cells
    let band := twice lo hi o.band o.bandR
    let wires := if ow then twice (lo - m) (hi + m) o.odd o.oddR ++ twice (lo - m) (hi + m) o.even o.evenR else []
    let d := d.countMod PWR_PSTAT_CNT 1
    let finding (d : Dev) (kind cell code : Nat) : Dev :=
      let d := (d.put PWR_PSTAT_KIND kind).put PWR_PSTAT_CELL cell
      let d := { d with pw := { d.pw with found := d.pw.found ++ [code] } }
      let d := d.setHold.riseTo 3 7
      if d.bit PWR_PATROL_WAKEH then d.each [Port.north, Port.south] Dev.sendTone else d
    match band with
    | (n, above) :: _ => finding d (if above then 1 else 2) n 0xD010
    | [] => match wires.map (·.1) with
      | [] => d
      | n :: ns => finding d 3 (ns.foldl min n) 0xD011

/-! ## PCIe L2 (R426) -/

/-- LINK_L2_ENTRY: the PCIE clock stops, and the head takes the mode of the budget rule, subject to R53. -/
def linkL2EntryDev (d : Dev) : Dev :=
  if d.role = .head ∧ d.lathe then ({ d with hif := { d.hif with l2 := true } }).budgetEval 3 else d

/-! ## VSTK (R532) -/

/-- VSTK_CROSSING: the buck of a member may start above 30 V and stops below 27 V; at a head it stays stopped. -/
def vstkCrossingDev (above : Bool) (d : Dev) : Dev :=
  if d.role = .member then { d with pw := { d.pw with vstkOk := above } } else d

/-- The buck of a member runs (R531): while CORE runs and during start-up, with VSTK in range. -/
def Dev.buckRuns (d : Dev) : Bool := decide (d.role = .member) && d.pw.vstkOk && !d.pw.off && (d.pw.warm || d.clkAsked 1) && !d.dead .afeL

end Sys2Proof.Machine
end

