-- ==== Sys2Proof/Machine/Access.lean ====
section
/-!
DEFINITION. Register accesses (02, R23 to R44): which addresses and fields are violations, what a read returns and
clears, what a write changes and starts, and the commit register of a block.
-/

namespace Sys2Proof.Machine

/-! ## Addresses (R23 to R26, R41) -/

/-- A register address: 24 bits, the low two ignored (R23). -/
def regAddr (a : Nat) : Nat := a % 2 ^ 24 / 4 * 4

/-- The address lies in the staged view, 0x4_0000 above the live registers of its window (R25, R32). -/
def stagedView (a : Nat) : Bool :=
  match dieOf a with
  | some (_, wb) => decide (0x40000 ≤ a - wb ∧ a - wb < 0x80000)
  | none => false

/-- Entries for cells or wires above C, and what the blocks of AFE-U do not hold (R121, R200, R228, R296). -/
def Dev.reservedRow (d : Dev) (l : Loc) : Bool :=
  match l.blk with
  | .bal => (l.row.count = 36 && decide (d.cells ≤ l.idx)) || (l.row.count = 37 && decide (d.cells < l.idx))
  | .cvw => l.die = .afeU && decide (l.off < 0x40)
  | .owd => l.die = .afeU || (l.row.count = 37 && decide (d.cells < l.idx))
  | .sdc | .grd => l.die = .afeU
  | _ => false

/-- The device has a block: its build fits the die, and the host interface is the head's alone (R41, R391). -/
def Dev.hasBlk (d : Dev) (die : Die) (blk : Blk) : Bool := fits d.build die && (blk ≠ .hif || d.role = .head)

/-- The register at a live address, if the device has it. -/
def Dev.regAt (d : Dev) (a : Nat) : Option Loc :=
  match locate a with
  | some l => if d.hasBlk l.die l.blk ∧ !d.reservedRow l then some l else none
  | none => none

/-- The block whose register at offset `o` is at this address. -/
def Dev.blkReg (d : Dev) (o a : Nat) : Option (Die × Blk × Nat) :=
  match blockAt a with
  | some (die, blk, base) => if d.hasBlk die blk ∧ a = base + o then some (die, blk, base) else none
  | none => none

/-! ## Locks (R30, R41, R42, R264, R296, R396, R489, R495, R497) -/

/-- BLOCK_CSTAT.RUN: the block runs (R30). -/
def Dev.blkRuns (d : Dev) (die : Die) (blk : Blk) : Bool :=
  let a := afeOf die
  let p : Port := if die = .phyS then .south else .north
  let u : Afe := if die = .bpdU then .U else .L
  match blk with
  | .aux => d.auxRun a
  | .cal => (d.cal a).sess.isSome || (d.cal a).factory
  | .bal => d.bit BAL_STAT_ACTIVE
  | .prt => decide (4 ≤ d.pstate p)
  | .iic => d.iicRun
  | .crc => (List.range 4).any (fun c => d.bit (CRC_CTX_EN c))
  | .cvw => d.integrates a
  | .owd => d.owdUp && (d.bit (OWD_CFG_EN .L) || d.bit (OWD_CFG_TEN .L)) && die = .afeL
  | .cmp | .bzl => d.guardUp && d.banks.contains a
  | .sdc | .grd => d.guardUp && die = .afeL
  | .bps => d.bit (BPS_STAT_SW u)
  | .tb => d.tbRuns
  | .hif => d.bit HIF_CTRL_EN
  | .spn => d.linkUp .north || d.linkUp .south
  | .bdl => decide (d.bdl.l0.act ≠ BdlAct.idle) || decide (d.bdl.l1.act ≠ BdlAct.idle)
  | .imp => d.sweepLive
  | .lcs => d.bit LCS_STAT_BUSY
  | .bst => decide (d.get BST_STAT_STATE ≠ 0)
  | .fw => d.fw.op.isSome
  | .rcd => d.bit RCD_STAT_BUSY
  | .sys | .pwr | .clk => d.lathe

/-- A K field of a register is locked: its block runs, or for the rings of HIF the ring is enabled (R396). -/
def Dev.kLocked (d : Dev) (l : Loc) : Bool :=
  if l.blk = .hif ∧ l.row.count = 34 then d.bit (HIF_RCFG_EN l.idx) else d.blkRuns l.die l.blk

/-- The life-cycle state locks a field (Table 19-10). -/
def Dev.lifeLocked (d : Dev) (l : Loc) (f : FieldSpec) : Bool :=
  let staged := match f.acc with | .rwS _ => true | _ => false
  d.life = lDeployed && match l.blk with
    | .bzl => staged || (l.off = 0x20 && f.hi = 0)
    | .sdc => staged || (l.off = 0x18 && f.hi = 0)
    | .grd => staged
    | .cmp => l.off = 0xC
    | .rcd => (l.off = 0x10 && f.hi = 27) || (l.off = 0x14 && f.hi = 31)
    | .bst => l.off = 0 || l.off = 4
    | _ => false

/-- A field is a violation of its own (R41). -/
def Dev.fieldLocked (d : Dev) (l : Loc) (f : FieldSpec) : Bool :=
  d.lifeLocked l f || (f.acc = .rwK && d.kLocked l)

/-! ## Reads -/

/-- The word of BLOCK_CSTAT (Table 2-5). -/
def Dev.cstatWord (d : Dev) (die : Die) (blk : Blk) (base : Nat) : Word :=
  setBits (d.word (base + 0xF04)) 8 8 (if d.blkRuns die blk then 1 else 0)

/-- The SPN registers marked head (R369): SPN_ENUM to SPN_RCFG, and the ring order SPN_RORD. -/
def spnHeadOff (off : Nat) : Bool := decide (0x8 ≤ off ∧ off ≤ 0x24) || decide (0x100 ≤ off ∧ off ≤ 0x13C)

/-- The word a register shows, before violations: what the device computes at the read, or what it holds. The SPN
registers marked head read zero on a member, and SPN_POS of a head shows VALID and its own HID (R369). -/
def Dev.shown (d : Dev) (l : Loc) (a : Nat) : Word :=
  match l.blk with
  | .clk => if l.off = 0 then BitVec.ofNat 32 d.clkRun else d.word a
  | .crc => if l.off % 0x20 = 0xC ∧ l.off < 0x80 then d.crcRes (l.off / 0x20) else d.word a
  | .imp => if 0x1000 ≤ l.off then d.resultWord l.idx else d.word a
  | .sdc => if l.off = 0x10 then setBits (d.word a) 10 0 d.graceLeft else d.word a
  | .spn =>
    if d.role = .member then (if spnHeadOff l.off then 0 else d.word a)
    else if l.off = 0 then setBits (setBits (d.word a) 31 31 1) 15 0 Config.uid.toNat
    else d.word a
  | _ => d.word a

/-- What a read returns of a word: fields that are violations and write-only fields read as zero (R5, R6, R41). A W1S field
that starts an action holds nothing; RCD_PROT.PROT shows what it has set. -/
def Dev.readable (d : Dev) (l : Loc) (w : Word) : Word :=
  l.row.fields.foldl (fun v f =>
    if d.fieldLocked l f ∨ f.acc = .wo then v else setBits v f.hi f.lo (bitsOf w f.hi f.lo)) 0

/-- What a read of the staged view returns: the staged copy of S fields, zero elsewhere (R32). -/
def Dev.stagedShown (d : Dev) (a : Nat) : Word :=
  match d.regAt (a - 0x40000) with
  | some l => l.row.fields.foldl (fun v f => match f.acc with
      | .rwS _ => if d.fieldLocked l f then v else setBits v f.hi f.lo (bitsOf (d.stagedWord (a - 0x40000)) f.hi f.lo)
      | _ => v) 0
  | none => 0

/-- RC fields of a register are cleared by its read (R5); OVRUN re-arms its event (R441). -/
def Dev.clearRc (d : Dev) (l : Loc) (a : Nat) : Dev :=
  let d := d.each (l.row.fields.filter (fun f => f.acc = .rc && !d.fieldLocked l f)) (fun d f => d.put ⟨a, f.hi, f.lo⟩ 0)
  if l.blk = .bdl ∧ l.row.off = 0x50 then d.setBline l.idx { d.bline l.idx with overSaid := false } else d

/-- The copy that a read of a low half took of this high half (R113). -/
def Dev.held (d : Dev) (a : Nat) : Option Word := (d.win.latches.find? (fun x => x.1 = a)).map (·.2)

/-- The low halves whose read copies the high half (R113): of the CVW pairs, and of the counters of a BPS block (R196). -/
def latchesHigh (l : Loc) : Bool :=
  match l.blk with
  | .cvw => l.off = 0x4C || (l.row.off = 0x400 && decide (l.off < 0x4A0))
  | .bps => [0x100, 0x200, 0x300, 0x308, 0x310].contains l.row.off
  | _ => false

/-- A read of one register (R23, R28): its value, and the device after it. -/
def Dev.regRead (d : Dev) (addr : Nat) : Word × Dev :=
  let a := regAddr addr
  if stagedView a then (d.stagedShown a, d)
  else match d.blkReg 0xF04 a with
  | some (die, blk, base) => (d.cstatWord die blk base, d)
  | none =>
    match d.regAt a with
    | none => (0, d)
    | some l =>
      if a = TB_NOWL.addr then d.readNow
      else match d.held a with
      | some w => (w, { d with win := { d.win with latches := d.win.latches.filter (fun x => x.1 ≠ a) } })
      | none =>
        let w := d.readable l (d.shown l a)
        let d := if latchesHigh l then d.latchHigh (a + 4) else d
        (w, d.clearRc l a)

/-! ## Violations -/

/-- A write that counts as a violation (R44). -/
def Dev.violation (d : Dev) (a : Nat) : Dev := (d.countSat SYS_SVIOL_CNT 1).put SYS_SVIOL_ADDR a

/-- A write gives a locked field another value than the one in force (R44). -/
def Dev.offends (d : Dev) (l : Loc) (a : Nat) (v : Word) : Bool :=
  l.row.fields.any (fun f => d.fieldLocked l f && decide (bitsOf v f.hi f.lo ≠ bitsOf (d.word a) f.hi f.lo))

/-- The written word with locked fields at their values in force, and with the bits of cells above C of the sweep mask
cleared (R225). -/
def Dev.allowed (d : Dev) (l : Loc) (a : Nat) (v : Word) : Word :=
  let v := l.row.fields.foldl (fun v f =>
    if d.fieldLocked l f then setBits v f.hi f.lo (bitsOf (d.word a) f.hi f.lo) else v) v
  if a = IMP_CMASKL.addr then BitVec.ofNat 32 (v.toNat % 2 ^ min 32 d.cells)
  else if a = IMP_CMASKH.addr then BitVec.ofNat 32 (v.toNat % 2 ^ (d.cells - 32))
  else v

/-! ## Commit (R31, R33, R38, R39) -/

/-- ARM of one group (R33): CVW group 0 with a past APPLY is late (R91); CVW group 1 may bind the device (log 25). -/
def Dev.armGroup (d : Dev) (blk : Blk) (base g : Nat) : Dev :=
  let d := d.arm base g
  match blk, g with
  | .cvw, 0 =>
    let apply := d.stg (CVW_APPLYL_APPLY .L) + 2 ^ 32 * d.stg (CVW_APPLYH_APPLY .L)
    let d := { d with win := { d.win with armedAt := none } }
    if apply ≠ 0 ∧ apply < d.mtick then (d.put (CVW_STAT_LATE .L) 1).raise 0x1005 1 [] else d
  | .cvw, 1 => { d with spn := { d.spn with outArmed := true }, asks := d.asks ++ [.binding] }
  | _, _ => d

/-- The groups of a mask that a block has: ARM and DISCARD bits of other groups have no effect (log 129). -/
def namedGroups (die : Die) (blk : Blk) (mask : Nat) : List Nat :=
  (blkGroups die blk).filter (fun g => decide (mask / 2 ^ g % 2 = 1))

/-- A write of BLOCK_COMMIT (Table 2-4): CLRREJ, DISCARD, and ARM of the groups that DISCARD does not name (R39). -/
def Dev.commitWrite (d : Dev) (die : Die) (blk : Blk) (base : Nat) (v : Word) : Dev :=
  let off := namedGroups die blk (bitsOf v 11 8)
  let d := if bitsOf v 16 16 = 1 then d.clearReject base else d
  let d := d.each off (fun d g => d.discardGroup base g)
  d.each ((namedGroups die blk (bitsOf v 3 0)).filter (fun g => !off.contains g)) (fun d g => d.armGroup blk base g)

/-! ## Writes -/

/-- What the part finds at a write: the bus clear, PLL, VCORE and signature, the PCIe link, the time since the last PPS edge, and
the cycles that have passed since the clock of the model last moved. -/
structure WrObs where
  iic   : IicBusObs
  pll   : Bool
  vcore : Bool
  sig   : Bool
  speed : Nat
  width : Nat
  ms    : Nat
  wait  : Nat
  deriving DecidableEq, Repr

/-- What it finds where the command does not say it (log 35). -/
def obsAt (n : Nat) : WrObs :=
  let b (k : Nat) : Bool := decide (Config.observed n k % 2 = 1)
  ⟨⟨b 0, b 1, b 2⟩, b 3, b 4, b 5, Config.observed n 6, Config.observed n 7, Config.observed n 8, Config.observed n 9⟩

/-- A field takes its written value: live and K fields in force, S fields in the staged copy, W1C bits cleared (R5, R31). -/
def Dev.putField (d : Dev) (l : Loc) (a : Nat) (v : Word) (f : FieldSpec) : Dev :=
  let h : Fld := ⟨a, f.hi, f.lo⟩
  let x := bitsOf v f.hi f.lo
  match f.acc with
  | .rwL | .rwK => if d.fieldLocked l f then d else d.put h x
  | .rwS g => if d.fieldLocked l f then d else d.stage l.base (l.group g) h x
  | .w1c => d.put h (Nat.land (d.get h) (Nat.xor (h.max) x))
  | _ => d

/-- Every field of a register takes its written value. -/
def Dev.putFields (d : Dev) (l : Loc) (a : Nat) (v : Word) : Dev := d.each l.row.fields (fun d f => d.putField l a v f)

/-- An action bit of the written word. -/
def wbit (v : Word) (i : Nat) : Bool := v.getLsbD i

def Dev.ask (d : Dev) (q : Ask) : Dev := { d with asks := d.asks ++ [q] }

/-- A Spindle-ordered reset is due (R356). -/
def Dev.spindleReset (d : Dev) (level : Nat) : Dev := d.ask (.spindle level)

/-- CAL_CTRL.STEP (Table 6-2). -/
def Dev.calStep (d : Dev) (a : Afe) (code : Nat) : Dev :=
  match code with
  | 1 => calBeginDev a d
  | 2 => calPointLoDev a d
  | 3 => calPointHiDev a d
  | 4 => calApplyDev a d
  | 5 => calRefreshDev a d
  | 6 => calFactoryDev a d
  | 15 => calAbortDev a d
  | c => calStepUnlistedDev a c d

/-- The registers of CORE whose write does more than set fields. `v` holds no locked field. -/
def Dev.writeCore (d : Dev) (o : WrObs) (l : Loc) (a : Nat) (v : Word) : Dev :=
  let plain := d.putFields l a v
  match l.blk, l.off with
  | .sys, 0x48 => if v.toNat % 256 = 0 then d else d.ask (.drst (v.toNat % 256))
  | .pwr, 0 => match bitsOf v 2 0 with
    | 1 => enterShipDev d | 2 => enterProvisionDev d | 3 => leaveProvisionDev d | _ => d
  | .pwr, 4 => pwrBudgetWriteDev v d
  | .tb, 0x10 => { d with tb := { d.tb with setLow := v.toNat } }
  | .tb, 0x14 => tbSetDev (BitVec.ofNat 32 d.tb.setLow) v d
  | .tb, 0x1C => { d with tb := { d.tb with todLow := v.toNat } }
  | .tb, 0x3C => tbTodWriteDev (BitVec.ofNat 32 d.tb.todLow) v o.ms d
  | .hif, 0 => d.ask (.hif (wbit v 0) o.speed o.width)
  | .hif, _ =>
    if l.row.count = 34 ∧ l.off % 16 = 8 then
      (d.putFields l a (setBits v 31 31 (bitsOf (d.word a) 31 31))).ask (.ring l.idx (wbit v 31))
    else plain
  | .spn, 8 => if wbit v 31 then d.ask .enumGo else d
  | .crc, off =>
    if 0x80 ≤ off then plain
    else if off % 0x20 = 0 then crcCtxWriteDev l.idx v d
    else if off % 0x20 = 4 then crcDataDev l.idx v d
    else if off % 0x20 = 8 then crcValWriteDev l.idx v d
    else plain
  | .iic, 0 =>
    if wbit v 0 then (iicCenWriteDev o.iic (d.putFields l a (setBits v 0 0 (bitsOf (d.word a) 0 0)))) else plain
  | .iic, 0x18 =>
    let d := if wbit v 1 then iicClrstkDev o.iic d else d
    if wbit v 0 then iicGoDev d else d
  | .bdl, 0 =>
    let d := d.putFields l a (setBits v 1 0 (d.get BDL_CFG_LEN))
    bdlLineEnableDev 1 (wbit v 1) (bdlLineEnableDev 0 (wbit v 0) d)
  | .bdl, 4 => bdlSearchDev (BitVec.ofNat 2 v.toNat) d
  | .bdl, 8 => bdlXctlGoDev v d
  | .imp, 0 =>
    let d := if wbit v 1 then impAbortDev d else d
    if wbit v 0 then impArmDev d else d
  | .bal, 0 =>
    let d := if wbit v 1 then balStopDev d else d
    if wbit v 0 then balStartDev d else d
  | .lcs, 4 => lcsReqDev (bitsOf v 2 0) d
  | .lcs, 0x5C => lcsRespDev v o.sig plain
  | .bst, 0 =>
    let d := if wbit v 1 then bstAbortDev d else d
    let d := if wbit v 2 then bstRepairDev d else d
    let d := if wbit v 3 then bstRetireDev d else d
    if wbit v 0 then bstGoDev o.pll o.vcore d else d
  | .fw, 0x10 =>
    let d := if wbit v 0 then fwEraseDev plain else plain
    let d := if wbit v 1 then fwProgDev d else d
    let d := if wbit v 2 then fwVerifyDev d else d
    let d := if wbit v 3 then fwActDev (wbit v 5) d else d
    if wbit v 4 then fwConfirmDev d else d
  | .fw, 0x120 => if wbit v 0 then processorLatchResetDev (d.now + o.wait) d else d
  | .fw, 0x204 => if wbit v 0 then captureThawDev d else d
  | .fw, 0x300 => if wbit v 31 then fwLegSaveDev plain else plain
  | .fw, 0x304 => if wbit v 31 then fwLpxcGoDev plain else plain
  | _, _ => plain

/-- The registers of an AFE die whose write does more than set fields. -/
def Dev.writeAfe (d : Dev) (o : WrObs) (l : Loc) (a : Nat) (v : Word) : Dev :=
  let die := afeOf l.die
  let plain := d.putFields l a v
  match l.blk, l.off with
  | .cvw, 0x20 => if wbit v 16 then captureForceDev plain else plain
  | .cvw, 0x30 => markDev v plain
  | .aux, 0 =>
    let d := auxEnableDev die (wbit v 0) d
    if wbit v 1 then auxGoDev die d else d
  | .aux, 0x28 => if wbit v 31 then auxUrgGoDev die (bitsOf v 12 8) (bitsOf v 4 0) none d else plain
  | .cal, 0 => d.calStep die (bitsOf v 3 0)
  | .bzl, 0 =>
    let d := if wbit v 0 then bezelLatchResetDev die d else d
    if wbit v 1 then bezelTtripDev die d else d
  | .bzl, 0x20 => if wbit v 0 then bzlSaveDev die d else d
  | .owd, 0x10 => if wbit v 31 then owdJreqDev (bitsOf v 5 0) d else plain
  | .sdc, 0 =>
    let d := if wbit v 1 then sdcLatchResetDev (d.now + o.wait) d else d
    sdcEnableDev (wbit v 0) d
  | .sdc, 0xC => sdcGraceWriteDev v (d.putFields l a (setBits v 10 0 (d.get (SDC_GRACE_TG .L))))
  | .sdc, 0x18 => if wbit v 0 then sdcSaveDev d else d
  | _, _ => plain

/-- The registers of the other dies whose write does more than set fields. -/
def Dev.writePhy (d : Dev) (l : Loc) (a : Nat) (v : Word) : Dev :=
  let p : Port := if l.die = .phyS then .south else .north
  let plain := d.putFields l a v
  match l.blk, l.off with
  | .prt, 0 =>
    let d := prtHrdisDev p (wbit v 0) d
    let d := if wbit v 1 then prtRetrnDev p false d else d
    if wbit v 2 then lineCheckDev p d else d
  | .rcd, 0x10 => rcdProtDev (BitVec.ofNat 12 v.toNat) (rcdUnprotDev (BitVec.ofNat 12 (v.toNat / 2 ^ 16)) d)
  | .rcd, 0x14 =>
    let d := rcdEraseSlotDev (BitVec.ofNat 12 v.toNat) d
    if wbit v 31 then rcdEraseHistDev d else d
  | _, _ => plain

/-- A write of one register with what the part finds at it (R28, R41). -/
def Dev.regWriteObs (d : Dev) (o : WrObs) (addr : Nat) (v : Word) : Dev :=
  let a := regAddr addr
  if stagedView a then d.violation a
  else match d.blkReg 0xF00 a, d.blkReg 0xF04 a with
  | some (die, blk, base), _ => d.commitWrite die blk base v
  | none, some _ => d
  | none, none =>
    match d.regAt a with
    | none => d.violation a
    | some l =>
      let d' := if d.offends l a v then d.violation a else d
      let v := d.allowed l a v
      match l.die with
      | .core => d'.writeCore o l a v
      | .afeL | .afeU => d'.writeAfe o l a v
      | _ => d'.writePhy l a v

/-- The registers at whose write the part finds something. -/
def observing (a : Nat) : Bool :=
  [0xC03C, 0x10000, 0x1C000, 0x1C018, 0x2C05C, 0x30000, 0x34120, 0x406000].contains (regAddr a)

/-- A write of one register (R28, R41). -/
def Dev.regWrite (d : Dev) (addr : Nat) (v : Word) : Dev :=
  if observing addr then let (n, d) := d.draw; d.regWriteObs (obsAt n) addr v else d.regWriteObs (obsAt 0) addr v

/-! ## Accesses that are commands of their own -/

/-- A register command reaches the device (R57, R58): below MONITOR it rises first, and the hold time counts anew. -/
def Dev.command (act : Dev → Dev) (d : Dev) : Dev := if d.lathe then (act d.riseForCommand).commandDone else d

/-- REGISTER_WRITE. -/
def registerWriteDev (addr : Nat) (v : Word) (d : Dev) : Dev := d.command (fun d => d.regWrite addr v)

/-- A read whose value the part returns: READ_CLEAR and CINTL_READ. -/
def readDev (addr : Nat) (d : Dev) : Dev :=
  d.command (fun d => let (w, d) := d.regRead addr; { d with readData := w })

/-- A write that starts an action of a register of its own (R41): on an absent die, at a reserved address or in a locked
field it is a violation, and nothing else happens. -/
def Dev.actWrite (f : Fld) (act : Dev → Dev) (d : Dev) : Dev :=
  d.command (fun d =>
    match d.regAt f.addr with
    | none => d.violation f.addr
    | some l =>
      if l.row.fields.any (fun s => s.hi = f.hi && s.lo = f.lo && d.fieldLocked l s) then d.violation f.addr else act d)

/-- A write of BLOCK_COMMIT of the block that holds an address. -/
def commitDev (addr : Nat) (v : Word) (d : Dev) : Dev :=
  d.command (fun d => match blockAt (regAddr addr) with
    | some (die, blk, base) =>
      if d.hasBlk die blk then d.commitWrite die blk base v else d.violation (regAddr addr)
    | none => d.violation (regAddr addr))

/-- COMMIT_ARM (R33), COMMIT_DISCARD (R39) and COMMIT_CLRREJ (R36). -/
def commitArmDev (addr : Nat) (groups : BitVec 4) (d : Dev) : Dev := commitDev addr (BitVec.ofNat 32 groups.toNat) d
def commitDiscardDev (addr : Nat) (groups : BitVec 4) (d : Dev) : Dev :=
  commitDev addr (BitVec.ofNat 32 (groups.toNat * 256)) d
def commitClrrejDev (addr : Nat) (d : Dev) : Dev := commitDev addr 0x10000#32 d

end Sys2Proof.Machine
end

