-- ==== Sys2Proof/Machine/Host.lean ====
section
/-!
DEFINITION. The host interface (15): consuming a descriptor, turning it into accesses at P0 or at a member, command
frames and their responses, completions, ring control, stream bindings and stream records.
-/

namespace Sys2Proof.Machine

/-! ## Completions -/

/-- Status codes of Table 15-8. -/
def stOk : Nat := 0
def stNoResponse : Nat := 1
def stAborted : Nat := 2
def stNoSuchPos : Nat := 3
def stUnreachable : Nat := 4
def stBadOpcode : Nat := 5
def stBadField : Nat := 6
def stRefused : Nat := 7
def stRejected : Nat := 8
def stTimeout : Nat := 9
def stSeqError : Nat := 10
def stDmaError : Nat := 11

/-- The completion ring of a command ring: ring 0 for the admin ring, q for command ring q (R394). -/
def compRing (r : Nat) : Nat := if r = 0 then 9 else 8 + r

/-- The 16 bytes of a completion (Table 15-7). -/
def compBytes (r cid status tq data time : Nat) : List Byte :=
  leBytes 2 cid ++ leBytes 1 status ++ leBytes 1 (tq * 64 + (if r = 0 then 15 else r - 1)) ++ leBytes 4 data ++ leBytes 8 time

/-- Write waiting completions while host memory may be used and the ring is live (R406, R425). -/
def flushComps : Nat → Dev → Dev
  | 0, d => d
  | n + 1, d =>
    match d.hif.compq with
    | (c, bs) :: rest =>
      if d.ringLive c ∧ 0 < d.ringFree c then
        flushComps n (({ d with hif := { d.hif with compq := rest } }).ringWrite c 1 bs)
      else d
    | [] => d

def Dev.flush (d : Dev) : Dev := flushComps d.hif.compq.length d

/-- A ring number that no host ring has: runs of the head itself (R418) write no completion. -/
def ownRing : Nat := 255

/-- The completion of a descriptor becomes known now (R406). -/
def Dev.complete (d : Dev) (r cid status data : Nat) : Dev :=
  if r = ownRing then d
  else
    let bs := compBytes r cid status d.tq data (tbTime d.mtick)
    ({ d with hif := { d.hif with compq := d.hif.compq ++ [(compRing r, bs)] } }).flush

/-- End a run with a status. Runs are told apart by their numbers, since the specification lets descriptors have equal CIDs. -/
def Dev.endRun (d : Dev) (x : Run) (status data : Nat) : Dev :=
  ({ d with hif := { d.hif with runs := d.hif.runs.filter (fun y => y.id ≠ x.id) } }).complete x.ring x.cid status data

/-- A run with its new state takes the place of the old one. -/
def Dev.setRun (d : Dev) (x : Run) : Dev :=
  { d with hif := { d.hif with runs := d.hif.runs.map (fun y => if y.id = x.id then x else y) } }

/-! ## Commands to members (R346 to R349) -/

/-- Payload of a COMMAND for an access (Table 13-7). -/
def cmdPayload : Act → List Byte
  | .rd a n _ => [1, BitVec.ofNat 8 n] ++ leBytes 2 0 ++ leBytes 4 a
  | .wr a vs => [2, BitVec.ofNat 8 vs.length] ++ leBytes 2 0 ++ leBytes 4 a ++ wordBytes vs
  | .wrl ps => [3, BitVec.ofNat 8 ps.length] ++ leBytes 2 0 ++ leBytes 4 0
      ++ ps.flatMap (fun p => leBytes 4 p.1 ++ leBytes 4 p.2.toNat)
  | .rdm a n => [4, 0] ++ leBytes 2 n ++ leBytes 4 a
  | .gen a | .poll a _ | .chkRefused a => [1, 1] ++ leBytes 2 0 ++ leBytes 4 a

/-- Send a COMMAND frame with a TAG to a member by its way in force, with the next SEQ of the counter (R333, R349). A
member last known in PATROL gets a wake tone first (R59). -/
def Dev.sendCommand (d : Dev) (pos tag : Nat) (pay : List Byte) : Dev :=
  match d.member pos with
  | none => d
  | some m =>
    let d := if m.cur = 1 then d.sendTone (wayPort m.way) else d
    let sfull := m.full1 || decide (m.seq1 % 64 = 0)
    let x : XFrame := ⟨0xF1, 1, pos, false, false, sfull, false, false, m.seq1 % 256, tag, m.seq1, pay, 0⟩
    let d := d.setMember pos (fun m => { m with seq1 := (m.seq1 + 1) % 2 ^ 32, full1 := false, tag := tag })
    d.portSend (wayPort m.way) none (.ext (xSeal x pos m.seq1))

/-- Send SYNC with the head's next TAG less one and its HID (R350). -/
def Dev.sendSync (d : Dev) (pos : Nat) : Dev :=
  match d.member pos with
  | none => d
  | some m => d.sendCompact [wayPort m.way] kSync pos (m.tag * 2 ^ 16 + Config.uid.toNat % 2 ^ 16)

/-- The head resynchronises the command counter of a member (R350). -/
def Dev.resync (d : Dev) (pos : Nat) : Dev := (d.sendSync pos).raiseAbout pos 0x7018 0 []

/-! ## Carrying out a run -/

/-- Bytes of the words or memory that an access puts into the host buffer. -/
def Dev.toBuffer (d : Dev) (x : Run) (bs : List Byte) : Dev × Run :=
  (d.emit (.hostWrite (x.haddr + x.done) bs), { x with done := x.done + bs.length })

/-- What the value of CSTAT says about the groups a run waits for: none while one is pending, else whether GEN rose
by as many as were armed (R403; log 26). -/
def pollResult (gen mask v : Nat) : Option Bool :=
  if Nat.land (bitsNat v 3 0) mask ≠ 0 then none
  else
    let armed := (List.range 4).countP (fun g => decide (mask / 2 ^ g % 2 = 1))
    some (decide (bitsNat v 31 16 = (gen + armed) % 65536))

/-- Take the result of one access: the run with the access done, or the status it ends with. -/
def Dev.takeResult (d : Dev) (x : Run) (a : Act) (bs : List Byte) : Dev × (Run ⊕ (Nat × Nat)) :=
  let v := leNat (bs.take 4)
  let next := { x with acts := x.acts.tail, sent := false, retries := 0 }
  match a with
  | .rd _ _ true => let (d, x') := d.toBuffer next bs; (d, .inl x')
  | .rd _ _ false => (d, .inl { next with data := v })
  | .rdm _ _ => let (d, x') := d.toBuffer next bs; (d, .inl { x' with data := x'.done })
  | .wr _ _ | .wrl _ => (d, .inl next)
  | .gen _ => (d, .inl { next with gen := bitsNat v 31 16 })
  | .poll _ mask =>
    match pollResult x.gen mask v with
    | none => (d, .inl { x with sent := false, data := v })
    | some true => (d, .inl { next with data := v })
    | some false => (d, .inr (stRejected, v))
  | .chkRefused _ => if bitsNat v 16 16 = 1 then (d, .inr (stRefused, v)) else (d, .inl { next with data := v })

/-- Carry out one access on this device (R28). -/
def Dev.localAct (d : Dev) (a : Act) : List Byte × Dev :=
  match a with
  | .rd a n _ =>
    (List.range n).foldl (fun (acc : List Byte × Dev) i =>
      let (w, d) := acc.2.regRead (a + 4 * i); (acc.1 ++ leBytes 4 w.toNat, d)) ([], d)
  | .wr a vs => ([], d.each (vs.zipIdx) (fun d (v, i) => d.regWrite (a + 4 * i) v))
  | .wrl ps => ([], d.each ps (fun d p => d.regWrite p.1 p.2))
  | .rdm a n => let bs := d.spaceRead a n; (bs, d.crcTap 2 bs)
  | .gen a | .poll a _ | .chkRefused a => let (w, d) := d.regRead a; (leBytes 4 w.toNat, d)

/-- Carry out the accesses of a run at P0 in order, up to a wait; the run goes on, or it ends with a status. -/
def Dev.localRun : List Act → Dev → Run → Dev
  | [], d, x => d.endRun x stOk x.data
  | a :: as, d, x =>
    match a with
    | .poll _ _ => d.setRun x
    | _ =>
      let (bs, d) := d.localAct a
      match d.takeResult x a bs with
      | (d, .inl x') => Dev.localRun as d x'
      | (d, .inr (st, v)) => d.endRun x st v

/-- Send the next access of a started run to its member, or complete it when none is left. A poll waits for its
millisecond (R403). -/
def Dev.memberNext (d : Dev) (x : Run) : Dev :=
  match x.acts with
  | [] => d.endRun x stOk x.data
  | .poll _ _ :: _ => d.setRun x
  | a :: _ =>
    match d.member x.pos with
    | none => d.endRun x stNoSuchPos 0
    | some m =>
      if d.lost x.pos then d.endRun x stUnreachable 0
      else
        let tag := (m.tag + 1) % 65536
        (d.setRun { x with sent := true, tag := tag }).sendCommand x.pos tag (cmdPayload a)

/-- The frame of a broadcast (R345) with its SEQ. -/
def broadcastBody (x : Run) (a : Act) (seq : Nat) (sfull : Bool) : Body :=
  .ext (xSeal ⟨0xF3, 1, 0, false, true, sfull, false, false, seq % 256, x.cid, seq, cmdPayload a, 0⟩ 0x40 seq)

/-- Wake tones before a broadcast (R59): on each port given, if a member that the copy reaches was last known in PATROL. -/
def Dev.broadcastTones (d : Dev) (ports : List Port) : Dev :=
  let asleep (p : Port) : Bool := d.hd.members.any (fun m =>
    m.cur = 1 && !d.lost m.pos && (!d.bit SPN_RING_OPEN || wayPort m.way = p))
  d.each (ports.filter asleep) Dev.sendTone

/-- Send a broadcast of a run (R345, R352): out of the north port while the ring is intact, out of both while open. -/
def Dev.sendBroadcast (d : Dev) (x : Run) (a : Act) : Dev :=
  let seq := d.hd.seqB
  let ports : List Port := if d.bit SPN_RING_OPEN then [.north, .south] else [.north]
  let b := broadcastBody x a seq (d.hd.fullB || decide (seq % 64 = 0))
  let d := { d with hd := { d.hd with seqB := (seq + 1) % 2 ^ 32, fullB := false } }
  (d.broadcastTones ports).each ports (fun d p => d.portSend p none b)

/-- After a broadcast operation: BUDGET also writes the head's own PWR_BUDGET (R427). -/
def Dev.endBroadcast (d : Dev) (x : Run) (returned : Bool) : Dev :=
  let d := if x.opc = 7 then (match x.acts.head? with
    | some (.wr a (v :: _)) => d.regWrite a v
    | _ => d) else d
  d.endRun x stOk (if x.opc = 7 then 0 else if returned then 1 else 0)

/-- A broadcast run: send its next frame; on an open ring go on at once to the frame after it (R352). -/
def Dev.broadcastRun : List Act → Dev → Run → Dev
  | [], d, x => d.endBroadcast x false
  | a :: as, d, x =>
    let seq := d.hd.seqB
    let d := d.sendBroadcast x a
    if d.bit SPN_RING_OPEN then
      match as with
      | [] => d.endBroadcast { x with acts := [a] } false
      | _ => Dev.broadcastRun as d { x with acts := as }
    else d.setRun { x with acts := a :: as, sent := true, tag := seq }

/-- An enumeration runs (R358); a CHECK sweep is none. -/
def Dev.enumerates (d : Dev) : Bool :=
  match d.hd.enum with
  | some e => !(e.phase = .check || e.phase = .checkBack || e.phase = .checkS)
  | none => false

/-- Two runs reach a register of one position: they have the same position, or one of them is a broadcast and the other goes to
a member, or writes PWR_BUDGET of the head (R427). -/
def meets (x y : Run) : Bool :=
  if x.bcast || y.bcast then x.pos ≠ 0 || y.pos ≠ 0 || (x.bcast && y.bcast) || (x.bcast && x.opc = 7) || (y.bcast && y.opc = 7)
  else x.pos = y.pos

/-- A run may start (R28, R347, R352, R358, R405): no earlier run of its ring that reaches the same position, no command
outstanding at that position, no broadcast of its ring before it; a fence waits for every earlier run of its ring. What goes to
members waits for the end of an enumeration, and after a warm reset for the head's picture of the ring (log 54). -/
def Dev.mayStart (d : Dev) (before : List Run) (x : Run) : Bool :=
  let ringBefore := before.filter (fun y => y.ring = x.ring)
  let ownOnly : Bool := x.pos = 0 && !x.bcast
  !x.started && (!x.fence || ringBefore.isEmpty) && !(ringBefore.any (fun y => y.bcast)) && !(ringBefore.any (meets x))
    && (x.pos = 0 || x.bcast || !(d.hif.runs.any (fun y => y.started && y.pos = x.pos && !y.bcast)))
    && (ownOnly || (!d.enumerates && !d.hd.rebuild))

/-- The first run that may start, with the runs before it. -/
def Dev.firstRun (d : Dev) : List Run → List Run → Option Run
  | _, [] => none
  | before, x :: xs => if d.mayStart before x then some x else d.firstRun (before ++ [x]) xs

/-- Start a run (R351, R403). -/
def Dev.startRun (d : Dev) (x : Run) : Dev :=
  let x := { x with started := true }
  let d := d.setRun x
  if x.opc = 0x0B ∨ x.opc = 0x0D then d
  else if x.bcast then d.broadcastRun x.acts x
  else if x.pos = 0 then (d.riseForCommand.localRun x.acts x).commandDone
  else if !d.numbered x.pos then d.endRun x stNoSuchPos 0
  else if d.lost x.pos then d.endRun x stUnreachable 0
  else d.memberNext x

/-- Start every run that may start. -/
def Dev.startRuns : Nat → Dev → Dev
  | 0, d => d
  | n + 1, d => match d.firstRun [] d.hif.runs with
    | none => d
    | some x => Dev.startRuns n (d.startRun x)

def Dev.goOn (d : Dev) : Dev := Dev.startRuns (d.hif.runs.length) d

/-- A broadcast run whose copy can no longer come back, since the ring has opened (R352): the copy that an open ring asks for goes
out of the south port, and the run ends or goes on. -/
def Dev.copyLost (d : Dev) (x : Run) : Dev :=
  match x.acts with
  | [] => d
  | a :: as =>
    let d := (d.broadcastTones [.south]).portSend .south none (broadcastBody x a x.tag true)
    let x := { x with sent := false }
    match as with
    | [] => d.endBroadcast x false
    | _ => Dev.broadcastRun as d { x with acts := as }

/-- Every broadcast run that awaits its copy when the ring has opened. -/
def Dev.copiesLost (d : Dev) : Dev :=
  let xs := d.hif.runs.filter (fun x => x.bcast && x.started && x.sent)
  if d.bit SPN_RING_OPEN ∧ !xs.isEmpty then (d.each xs Dev.copyLost).goOn else d

/-! ## Consuming a descriptor (R404) -/

/-- The completion ring has a slot that no consumed descriptor has reserved. -/
def Dev.slotFree (d : Dev) (r : Nat) : Bool :=
  let c := compRing r
  decide ((d.hif.runs.filter (fun x => x.ring ≠ ownRing ∧ compRing x.ring = c)).length
    + (d.hif.compq.filter (fun x => x.1 = c)).length < d.ringFree c)

/-- Command ring r has a descriptor that the device may consume now (R397, R404, R412). -/
def Dev.consumable (d : Dev) (r : Nat) : Bool :=
  let s := d.ring r
  d.hostUp && d.bit HIF_STAT_READY && d.ringEn r && !s.stopped && decide (s.pidx ≠ s.cidx)
    && decide ((d.hif.runs.filter (fun x => x.ring = r)).length < 32) && d.ringLive (compRing r) && d.slotFree r
    && !(d.hif.held.any (fun h => compRing h.ring = compRing r))

/-- A descriptor of ring r is consumed by this command: the admin ring goes first. -/
def Dev.takes (d : Dev) (r : Nat) : Bool := decide (r ≤ 8) && d.consumable r && (r = 0 || !d.consumable 0)

/-- Consume: CIDX moves on and is written back (R399, R404). -/
def Dev.consume (d : Dev) (r : Nat) : Dev :=
  let s := d.ring r
  let c := (s.cidx + 1) % 2 ^ 32
  (d.setRing r { s with cidx := c }).writeBack (wbOffset r) c

/-- The first bad field of a descriptor: a reserved bit, or a count or length out of range (Table 15-8). -/
def badField (opc : Nat) (e : Desc) : Option Nat :=
  if e.rsvd1 then some 1 else if e.rsvd4 then some 4
  else if (opc = 1 ∨ opc = 2 ∨ opc = 3) ∧ (e.count = 0 ∨ 32 < e.count) then some 5
  else if opc = 4 ∧ (e.len = 0 ∨ 65535 < e.len) then some 6
  else if opc = 10 ∧ e.addr ≠ 0x400000 ∧ e.addr ≠ 0x500000 then some 8 else none

/-- BCAST is allowed for WR, WRL and BUDGET, and for COMMIT and SWEEP without WAIT; BIND, UNBIND and ENUM are for the
admin ring only (Table 15-6). -/
def badOpcode (opc r : Nat) (e : Desc) : Bool :=
  (e.bcast && !(opc = 2 || opc = 3 || opc = 7 || ((opc = 5 || opc = 9) && !e.wait))) || (0x0B ≤ opc && r ≠ 0)

/-- A run before it starts. -/
def mkRun (r opc : Nat) (e : Desc) (acts : List Act) : Run :=
  { id := 0, tag := 0, ring := r, cid := e.cid % 65536, opc := opc, fence := e.fence, bcast := e.bcast, pos := if e.bcast then 0 else e.pos % 64,
    haddr := e.haddr, acts := acts, started := false, sent := false, retries := 0, data := 0, done := 0, gen := 0,
    waitPos := [] }

/-- Append a run under the next number and start what may start. -/
def Dev.addRun (d : Dev) (x : Run) : Dev :=
  ({ d with hif := { d.hif with runs := d.hif.runs ++ [{ x with id := d.hif.nextRun }], nextRun := d.hif.nextRun + 1 } }).goOn

/-- A descriptor that ends at once with a status. -/
def Dev.endDesc (d : Dev) (x : Run) (status data : Nat) : Dev :=
  (d.addRun { x with started := true }).endRun { x with id := d.hif.nextRun } status data

/-- Consume a descriptor whose operation is carried out as accesses. -/
def descDev (opc r : Nat) (e : Desc) (acts : Dev → List Act) (d : Dev) : Dev :=
  if !d.takes r then d
  else
    let d := d.consume r
    let x := mkRun r opc e (acts d)
    if badOpcode opc r e then d.endDesc x stBadOpcode 0
    else match badField opc e with
      | some o => d.endDesc x stBadField o
      | none => d.addRun x

/-- Words `[i, i + n)` of a host buffer, zero where it holds none. -/
def bufWords (b : List Word) (i n : Nat) : List Word :=
  let t := (b.drop i).take n
  t ++ List.replicate (n - t.length) 0

/-- Writes of consecutive registers in frames of at most 32 (Table 13-7). -/
def wrChunks : Nat → Nat → List Word → List Act
  | 0, _, _ => []
  | _, _, [] => []
  | n + 1, a, vs => .wr a (vs.take 32) :: wrChunks n (a + 128) (vs.drop 32)

/-- Pairs of a host buffer. -/
def bufPairs (b : List Word) (n : Nat) : List (Nat × Word) :=
  (List.range n).map (fun i => (((b[2 * i]?).getD 0).toNat, (b[2 * i + 1]?).getD 0))

/-- Pairs in frames whose payload a route carries: 32, or 31 where a frame carries at most 256 bytes (R326). -/
def wrlChunks (hr : Bool) (ps : List (Nat × Word)) : List Act :=
  if hr ∨ ps.length ≤ 31 then [.wrl ps] else [.wrl (ps.take 31), .wrl (ps.drop 31)]

/-- Reads of a memory space in frames of at most `m` bytes (Table 15-6). -/
def rdmChunks (m : Nat) : Nat → Nat → Nat → List Act
  | 0, _, _ => []
  | k + 1, a, n => if n = 0 then [] else if n ≤ m then [.rdm a n] else .rdm a m :: rdmChunks m k (a + m) (n - m)

/-- The target carries 1,024-byte frames: P0 itself, or a route at the high rate. -/
def Dev.bigFrames (d : Dev) (e : Desc) : Bool := !e.bcast && (e.pos % 64 = 0 || d.routeHr (e.pos % 64))

/-! ### The operations of Table 15-6 as accesses -/

def actsNop (_ : Desc) (_ : Dev) : List Act := []

def actsRd (e : Desc) (_ : Dev) : List Act := [.rd e.addr e.count (decide (1 < e.count))]

def actsWr (e : Desc) (_ : Dev) : List Act := [.wr e.addr (if e.count = 1 then [e.data] else bufWords e.buf 0 e.count)]

def actsWrl (e : Desc) (d : Dev) : List Act := wrlChunks (d.bigFrames e) (bufPairs e.buf e.count)

def actsRdm (e : Desc) (d : Dev) : List Act :=
  rdmChunks (if d.bigFrames e then 1024 else 256) (e.len / 256 + 1) e.addr e.len

/-- The word that COMMIT writes, and the groups it waits for (R39, R403). -/
def commitWord (e : Desc) : Nat :=
  bitsNat e.param 3 0 + bitsNat e.param 11 8 * 256 + bitsNat e.param 16 16 * 65536

def armedMask (arm discard : Nat) : Nat := Nat.land arm (15 - discard % 16)

def actsCommit (e : Desc) (_ : Dev) : List Act :=
  let w := BitVec.ofNat 32 (commitWord e)
  let b := e.addr
  if e.bcast then [.wr (b + 0xF00) [w]]
  else if e.wait then [.gen (b + 0xF04), .wr (b + 0xF00) [w],
    .poll (b + 0xF04) (armedMask (bitsNat e.param 3 0) (bitsNat e.param 11 8)), .rd (b + 0xF04) 1 false]
  else [.wr (b + 0xF00) [w], .rd (b + 0xF04) 1 false]

def actsModereq (e : Desc) (_ : Dev) : List Act :=
  [.wr 0x4000 [BitVec.ofNat 32 (bitsOf e.data 2 0)], .chkRefused 0x4008]

def actsBudget (e : Desc) (_ : Dev) : List Act :=
  if e.bcast then [.wr 0x4004 [e.data]] else [.wr 0x4004 [e.data], .rd 0x4008 1 false]

/-- PLAN (Table 15-6): the groups of PARAM[2:0], the commit and its wait, START if PARAM[8] = 1. -/
def actsPlan (e : Desc) (_ : Dev) : List Act :=
  let g := bitsNat e.param 2 0
  [.gen 0x28F04]
    ++ (if g % 2 = 1 then [.wr 0x28004 (bufWords e.buf 0 3)] else [])
    ++ (if g / 2 % 2 = 1 then wrChunks 2 0x28100 (bufWords e.buf 3 36) ++ wrChunks 2 0x28200 (bufWords e.buf 39 36) else [])
    ++ (if g / 4 % 2 = 1 then wrChunks 2 0x28300 (bufWords e.buf 75 37) else [])
    ++ [.wr 0x28F00 [BitVec.ofNat 32 g], .poll 0x28F04 g]
    ++ (if bitsNat e.param 8 8 = 1 then [.wr 0x28000 [1]] else [])
    ++ [.rd 0x28F04 1 false]

/-- SWEEP (Table 15-6): the groups of PARAM[1:0], the commit, with WAIT its wait; ARM if PARAM[8] = 1 and the groups
are known to be accepted, or on a broadcast (log 27). -/
def actsSweep (e : Desc) (_ : Dev) : List Act :=
  let g := bitsNat e.param 1 0
  (if e.wait then [.gen 0x24F04] else [])
    ++ (if g % 2 = 1 then [.wr 0x24004 (bufWords e.buf 0 7)] else [])
    ++ (if g / 2 % 2 = 1 then .wr 0x24020 (bufWords e.buf 7 1) :: wrChunks 4 0x24100 (bufWords e.buf 8 128) else [])
    ++ [.wr 0x24F00 [BitVec.ofNat 32 g]]
    ++ (if e.wait then [.poll 0x24F04 g] else [])
    ++ (if bitsNat e.param 8 8 = 1 ∧ (e.wait ∨ e.bcast) then [.wr 0x24000 [1]] else [])
    ++ (if e.bcast then [] else [.rd 0x24024 1 false])

def actsCalstep (e : Desc) (_ : Dev) : List Act :=
  [.wr (e.addr + 0x2000) [BitVec.ofNat 32 (bitsOf e.data 3 0)], .rd (e.addr + 0x200C) 1 false]

/-! ## Responses, timeouts, polls and aborts -/

/-- The run whose command is outstanding at a position (R347). -/
def Dev.outstanding (d : Dev) (pos : Nat) : Option Run :=
  d.hif.runs.find? (fun x => x.started && x.sent && x.pos = pos && !x.bcast)

/-- A whole response has come for the outstanding command of a position (R348, R350, R403). -/
def Dev.responseTo (d : Dev) (pos : Nat) (body : List Byte) : Dev :=
  match d.outstanding pos with
  | none => d
  | some x =>
    match leNat (body.take 1), x.acts with
    | 0, a :: _ =>
      match d.takeResult x a (body.drop 8) with
      | (d, .inl x') => (d.memberNext x').goOn
      | (d, .inr (st, v)) => (d.endRun x st v).goOn
    | 1, _ => ((d.endRun x stAborted 3).resync pos).goOn
    | 2, _ => ((d.endRun x stSeqError 0).resync pos).goOn
    | _, _ => (d.endRun x stBadOpcode 0).goOn

/-- No response has come (R349): the same TAG again, up to RETRY times, then NO_RESPONSE. -/
def responseTimeoutDev (pos : Nat) (d : Dev) : Dev :=
  if d.role ≠ .head ∨ !d.lathe then d
  else match d.outstanding pos, d.member pos with
  | some x, some _ =>
    if x.retries < d.get SPN_RCFG_RETRY then
      match x.acts with
      | a :: _ => (d.setRun { x with retries := x.retries + 1 }).sendCommand pos x.tag (cmdPayload a)
      | [] => d
    else (d.endRun x stNoResponse 0).goOn
  | _, _ => d

/-- The millisecond of a poll, or the end of its wait (R403). -/
def commitWaitPollDev (r cid : Nat) (expired : Bool) (d : Dev) : Dev :=
  match d.hif.runs.find? (fun x => x.ring = r && x.cid = cid && x.started && !x.sent) with
  | none => d
  | some x =>
    match x.acts with
    | .poll a mask :: as =>
      if x.pos = 0 then
        let (w, d) := d.regRead a
        match pollResult x.gen mask w.toNat with
        | some true => (d.localRun as { x with acts := as, data := w.toNat }).goOn
        | some false => (d.endRun x stRejected w.toNat).goOn
        | none => if expired then (d.endRun x stTimeout w.toNat).goOn else d
      else if expired then (d.endRun x stTimeout x.data).goOn
      else match d.member x.pos with
        | none => d
        | some m =>
          if d.lost x.pos then (d.endRun x stUnreachable 0).goOn
          else
            let tag := (m.tag + 1) % 65536
            (d.setRun { x with sent := true, tag := tag }).sendCommand x.pos tag (cmdPayload (.poll a mask))
    | _ => d

/-- End every run that meets a condition with ABORTED_BY_RESET and a cause (Table 15-8). -/
def Dev.abortRuns (d : Dev) (sel : Run → Bool) (cause : Nat) : Dev :=
  d.each (d.hif.runs.filter sel) (fun d x => d.endRun x stAborted cause)

/-- Hold the completion of every consumed descriptor with a cause (R410, R411). -/
def Dev.holdRuns (d : Dev) (cause : Nat) : Dev :=
  let hs := (d.hif.runs.filter (fun x => x.ring ≠ ownRing)).map (fun x => (⟨x.ring, x.cid, cause, d.tq, tbTime d.mtick⟩ : HeldComp))
  let d := { d with hif := { d.hif with held := d.hif.held ++ hs, runs := [] } }
  d.put HIF_STAT_HELD d.hif.held.length

/-! ## Rings -/

/-- A ring error (R396, R398, R424): the event carries the ring and the cause. Causes here: 0 to 4 the conditions of
R396 in their order, 5 a refused doorbell, 6 a failed DMA. -/
def Dev.ringError (d : Dev) (r cause : Nat) : Dev :=
  (d.put (HIF_RCFG_ERR r) 1).raise 0x9001 0 [r, (Config.eventCause 0x9001 cause).toNat]

/-- LSIZE limits of Table 15-3. -/
def lsizeOk (r n : Nat) : Bool :=
  if r ≤ 8 then 4 ≤ n && n ≤ 21 else if r ≤ 16 then 4 ≤ n && n ≤ 22 else if r = 17 then 4 ≤ n && n ≤ 20 else 16 ≤ n && n ≤ 26

/-- Host memory of a ring, in bytes. -/
def Dev.ringBytes (d : Dev) (r : Nat) : Nat := d.ringSize r * entryBytes r

/-- Host memory of the enabled rings, in bytes, with ring `r` counted as enabled (R396). -/
def Dev.hostBytes (d : Dev) (r : Nat) : Nat :=
  (List.range 34).foldl (fun n q => if d.ringEn q ∨ q = r then n + d.ringBytes q else n) 0

/-- HIF_MEM: MiB of the enabled rings, rounded up. -/
def Dev.showMem (d : Dev) : Dev := d.put HIF_MEM_MIB ((d.hostBytes 34 + 1048575) / 1048576)

/-- The first condition of R396 that an enable of ring r fails. RBASE holds no bit below 4 KiB, so its alignment
always holds. -/
def Dev.enableFault (d : Dev) (r : Nat) : Option Nat :=
  if !lsizeOk r (d.get (HIF_RCFG_LSIZE r)) then some 1
  else if d.get HIF_WBL_WB = 0 ∧ d.get HIF_WBH = 0 then some 2
  else if r ≤ 8 ∧ !d.ringEn (compRing r) then some 3
  else if 2 ^ 30 < d.hostBytes r then some 4 else none

/-- Write held completions of completion ring q as its slots free (R412). -/
def writeHeld : Nat → Dev → Nat → Dev
  | 0, d, _ => d
  | n + 1, d, q =>
    let c := 9 + q
    match d.hif.held.find? (fun h => compRing h.ring = c) with
    | none => d
    | some h =>
      if d.ringLive c ∧ 0 < d.ringFree c then
        let d := { d with hif := { d.hif with held := d.hif.held.erase h } }
        let d := d.put HIF_STAT_HELD d.hif.held.length
        let d := d.ringWrite c 1 (compBytes h.ring h.cid stAborted h.tq h.cause h.time)
        if d.hif.held.any (fun h => compRing h.ring = c) then writeHeld n d q
        else d.raise 0x9003 0 [c, (d.hif.heldCount[q]?).getD 0]
      else d

def heldCompletionDrainDev (q : Nat) (d : Dev) : Dev := if q < 8 then writeHeld d.hif.held.length d q else d

/-- EVENT_QUEUE_DRAIN (R416); EVENT_QUEUE_FULL follows once the queue that filled has room. -/
def eventQueueDrainDev (d : Dev) : Dev :=
  let d := drainEvents d.hif.evq.length d
  if d.hif.evFullDue ∧ d.hif.evq.length < 4096 then
    ({ d with hif := { d.hif with evFullDue := false } }).raise 0x9007 0 []
  else d

/-- Write of RCFG with EN = 1 (R396): accepted only on all its conditions; then indices 0, ERR 0, write-back 0, and
held completions first (R412). The event ring takes what the queue holds. -/
def ringEnableDev (r : Nat) (d : Dev) : Dev :=
  if d.role ≠ .head ∨ 34 ≤ r ∨ d.ringEn r then d
  else match d.enableFault r with
  | some c => d.ringError r c
  | none =>
    let d := (d.put (HIF_RCFG_EN r) 1).put (HIF_RCFG_ERR r) 0
    let d := (d.setRing r ⟨0, 0, false, 0, 0⟩).showMem
    let d := d.writeBack (wbOffset r) 0
    if 9 ≤ r ∧ r ≤ 16 then
      let n := (d.hif.held.filter (fun h => compRing h.ring = r)).length
      let d := { d with hif := { d.hif with heldCount := d.hif.heldCount.set (r - 9) n } }
      (heldCompletionDrainDev (r - 9) d).flush
    else if r = 17 then eventQueueDrainDev d else d

/-- Write of RCFG with EN = 0 (R397): ignored for a completion ring that still serves a command ring. -/
def ringDisableDev (r : Nat) (d : Dev) : Dev :=
  if d.role ≠ .head ∨ 34 ≤ r ∨ !d.ringEn r then d
  else
    let served := (List.range 9).filter (fun c => compRing c = r)
    let busy := served.any (fun c => d.ringEn c || d.hif.runs.any (fun x => x.ring = c)) || d.hif.compq.any (fun x => x.1 = r)
    if 9 ≤ r ∧ r ≤ 16 ∧ busy then d
    else
      let d := (d.put (HIF_RCFG_EN r) 0).showMem
      d.setRing r { d.ring r with stopped := false }

/-- A refused doorbell (R398). -/
def Dev.badDoorbell (d : Dev) (r : Nat) : Dev :=
  let rising := !d.bit HIF_STAT_DBERR
  let d := d.put HIF_STAT_DBERR 1
  let d := if rising then d.emit (.msix 0) else d
  (d.setRing r { d.ring r with stopped := true }).ringError r 5

/-- A producer doorbell of command ring r (R398). -/
def producerDoorbellDev (r : Nat) (v : Word) (d : Dev) : Dev :=
  if d.role ≠ .head ∨ 8 < r ∨ !d.ringEn r ∨ (d.ring r).stopped ∨ !d.lathe then d
  else
    let s := d.ring r
    let ahead := (v.toNat + 2 ^ 32 - s.cidx) % 2 ^ 32
    let held := (s.pidx + 2 ^ 32 - s.cidx) % 2 ^ 32
    if ahead ≤ d.ringSize r ∧ held ≤ ahead then d.setRing r { s with pidx := v.toNat } else d.badDoorbell r

/-- A consumer doorbell of ring r (R398): freed slots let what waits go on. -/
def consumerDoorbellDev (r : Nat) (v : Word) (d : Dev) : Dev :=
  if d.role ≠ .head ∨ r < 9 ∨ 34 ≤ r ∨ !d.ringEn r ∨ (d.ring r).stopped ∨ !d.lathe then d
  else
    let s := d.ring r
    let ahead := (v.toNat + 2 ^ 32 - s.cidx) % 2 ^ 32
    let span := (s.pidx + 2 ^ 32 - s.cidx) % 2 ^ 32
    if ahead ≤ span then (d.setRing r { s with cidx := v.toNat }).flush else d.badDoorbell r

/-- HIF_CTRL.EN (R397), with the link that the endpoint has trained. -/
def hifEnableDev (en : Bool) (speed width : Nat) (d : Dev) : Dev :=
  if d.role ≠ .head then d
  else (((d.putB HIF_CTRL_EN en).put HIF_LINK_SPEED speed).put HIF_LINK_WIDTH width).flush

/-- The coalescing timer of a ring (R423). -/
def interruptCoalesceTimerDev (r : Nat) (d : Dev) : Dev :=
  let s := d.ring r
  if d.ringEn r ∧ 0 < s.unsig then (d.setRing r { s with unsig := 0 }).emit (.msix (d.get (HIF_RCFG_VEC r))) else d

/-- A DMA of the device fails (R424). -/
def dmaErrorDev (r cid addr : Nat) (d : Dev) : Dev :=
  if d.role ≠ .head ∨ 34 ≤ r ∨ !d.ringEn r then d
  else
    let rising := !d.bit HIF_STAT_DMAERR
    let d := d.put HIF_STAT_DMAERR 1
    let d := if rising then d.emit (.msix 0) else d
    let d := d.setRing r { d.ring r with stopped := true }
    let d := match d.hif.runs.find? (fun x => x.ring = r && x.cid = cid) with
      | some x => d.endRun x stDmaError 0
      | none => d
    ((d.raise 0x9008 0 (item64 addr)).ringError r 6).goOn

/-! ## Stream bindings (R417 to R422) -/

/-- The positions bound to stream ring s. -/
def Dev.sbMask (d : Dev) (s : Nat) : Nat := d.get64 (HIF_SBML_MASKL s) (HIF_SBMH_MASKH s)

/-- Set the positions of stream ring s, with the event (Table 15-16). -/
def Dev.setBinding (d : Dev) (s mask : Nat) : Dev :=
  let d := (d.put64 (HIF_SBML_MASKL s) (HIF_SBMH_MASKH s) mask).putB (HIF_SBST_BOUND s) (decide (mask ≠ 0))
  d.raise 0x9005 0 ((18 + s) :: item64 mask)

/-- Positions of a map. -/
def maskPos (m : Nat) : List Nat := (List.range 64).filter (fun k => m / 2 ^ k % 2 = 1)

/-- The cells of a member, from the build it reported (Table 13-10). -/
def memberCells (m : Member) : Nat := if m.build = 0 then 36 else 18

/-- Bytes of a member's mean window block and its record, times 2^ANCH (R419): FULL, or LEAN with one FULL in 2^ANCH. -/
def meanBlock (cells : Nat) (lean : Bool) (anch : Nat) : Nat :=
  if lean then (2 ^ anch - 1) * blockBytes cells true + blockBytes cells false
  else 2 ^ anch * blockBytes cells false

/-- The load check of R419 for a format on a set of positions: whether it fails, and the highest load in 0.1 % units,
rounded up. Loads are compared as fractions over N = CVW_WLEN windows of 1/6 us. -/
def Dev.loadCheck (d : Dev) (ps : List (Nat × Bool × Nat)) : Bool × Nat :=
  let n := max 1 (d.get (CVW_WLEN .L))
  let cellsOf (p : Nat) : Nat := match d.member p with | some m => memberCells m | none => 0
  let frame (p : Nat × Bool × Nat) : Nat := (meanBlock (cellsOf p.1) p.2.1 p.2.2 + 16 * 2 ^ p.2.2) * 2 ^ (15 - p.2.2)
  let recd (p : Nat × Bool × Nat) : Nat := (meanBlock (cellsOf p.1) p.2.1 p.2.2 + 64 * 2 ^ p.2.2) * 2 ^ (15 - p.2.2)
  let frags (p : Nat × Bool × Nat) : Nat := (blockBytes (cellsOf p.1) p.2.1 + 255) / 256
  let lowTime (p : Nat × Bool × Nat) : Nat :=
    frags p * 10 * 2 ^ 15 + 4 * (meanBlock (cellsOf p.1) p.2.1 p.2.2 * 2 ^ (15 - p.2.2) + 16 * frags p * 2 ^ 15)
  let on (l : Nat) : List (Nat × Bool × Nat) := ps.filter (fun p => (d.routeLinks p.1).contains l)
  let sum (f : Nat × Bool × Nat → Nat) (xs : List (Nat × Bool × Nat)) : Nat := xs.foldl (fun a p => a + f p) 0
  -- each load as (numerator, denominator) of its 100 % figure
  let links : List (Nat × Nat) := (List.range (d.hd.links.length)).map (fun l =>
    if (d.hd.links[l]?).any (·.hr) || d.hrCap then (6000000 * 8 * sum frame (on l), 4400000000 * n * 2 ^ 15)
    else (6000000 * sum lowTime (on l), 1000000 * n * 2 ^ 15))
  let rate : Nat := (match d.get HIF_LINK_SPEED with | 1 => 2000000 | 2 => 4000000 | 3 => 7877000 | _ => 0) * 1000 * d.get HIF_LINK_WIDTH
  let loads := links ++ [(6000000 * 8 * sum recd ps, rate * n * 2 ^ 15)]
  let fails := loads.any (fun x => decide (8 * x.2 < 10 * x.1))
  let worst := loads.foldl (fun a x => max a (if x.2 = 0 then 0 else (1000 * x.1 + x.2 - 1) / x.2)) 0
  (fails, worst)

/-- The positions bound now with their formats. -/
def Dev.bindingList (d : Dev) : List (Nat × Bool × Nat) :=
  (List.range 16).flatMap (fun s => (maskPos (d.sbMask s)).map (fun p => (p, d.bit (HIF_SBST_FMT s), d.get (HIF_SBST_ANCH s))))

/-- The refusal cause of a BIND (R418), in the order ring, position, enable, taken, bandwidth (log 28). -/
def Dev.bindRefusal (d : Dev) (s mask : Nat) (lean : Bool) (anch : Nat) : Option Nat :=
  let ps := maskPos mask
  if d.lowRing then some 2
  else if ps.any (fun p => p = 0 || !d.numbered p || d.lost p) then some 3
  else if !d.ringEn (18 + s) ∨ ps.any (fun p => match d.member p with
      | some m => decide (d.ringBytes (18 + s) < 8 * (blockBytes (memberCells m) false + 64)) | none => false) then some 4
  else if ps.any (fun p => (List.range 16).any (fun t => t ≠ s && d.sbMask t / 2 ^ p % 2 = 1)) then some 5
  else if (d.loadCheck ((d.bindingList.filter (fun b => !ps.contains b.1)) ++ ps.map (fun p => (p, lean, anch)))).1 then some 1
  else none

/-- The accesses by which the head tells a bound member its format: CVW_OUT and the arming of its group 1 (R418). -/
def bindActs (lean : Bool) (anch : Nat) : List Act :=
  [.wr 0x400018 [BitVec.ofNat 32 (anch % 16 * 16 + if lean then 1 else 0)], .wr 0x400F00 [2]]

/-- A run of the head itself at a member. -/
def ownRun (cid pos : Nat) (acts : List Act) : Run :=
  { id := 0, tag := 0, ring := ownRing, cid := cid, opc := 2, fence := false, bcast := false, pos := pos, haddr := 0, acts := acts,
    started := false, sent := false, retries := 0, data := 0, done := 0, gen := 0, waitPos := [] }

/-- The member has reported STREAM or above (R418). -/
def Dev.reportsStream (d : Dev) (p : Nat) : Bool :=
  match d.member p with
  | some m => m.guarded && (m.cur = 5 || m.cur = 6 || ((8 ≤ m.cur) && (m.base = 5 || m.base = 6)))
  | none => false

/-- Complete the BINDs all of whose members have reported STREAM (R418). -/
def Dev.checkBinds (d : Dev) : Dev :=
  d.each (d.hif.runs.filter (fun x => x.opc = 0x0B && x.started)) (fun d x =>
    if x.waitPos.all d.reportsStream then (d.endRun x stOk x.data).goOn else d)

/-- BIND (R418). -/
def bindDev (r : Nat) (e : Desc) (d : Dev) : Dev :=
  if !d.takes r then d
  else
    let d := d.consume r
    let x := mkRun r 0x0B e []
    let x := { x with pos := 0 }
    if badOpcode 0x0B r e then d.endDesc x stBadOpcode 0
    else match badField 0x0B e with
    | some o => d.endDesc x stBadField o
    | none =>
      let s := bitsOf e.data 3 0
      let lean := bitsOf e.data 8 8 = 1
      let anch := bitsOf e.data 15 12
      match d.bindRefusal s (e.param % 2 ^ 64) lean anch with
      | some c => d.endDesc x stRefused c
      | none =>
        let ps := maskPos (e.param % 2 ^ 64)
        let load := (d.loadCheck ((d.bindingList.filter (fun b => !ps.contains b.1)) ++ ps.map (fun p => (p, decide lean, anch)))).2
        let d := (((d.putB (HIF_SBST_FMT s) (decide lean)).put (HIF_SBST_ANCH s) anch).put (HIF_SBST_LOAD s) load)
        let d := d.setBinding s (d.sbMask s ||| (e.param % 2 ^ 64))
        let d := { d with pw := { d.pw with streamBound := true } }
        let d := d.addRun { x with started := true, data := load, waitPos := ps }
        let d := d.each ps (fun d p => d.addRun (ownRun (x.cid * 64 + p) p (bindActs (decide lean) anch)))
        (d.sendRoutes.budgetEval 3).checkBinds

/-- 200 ms have passed since a BIND was accepted (R418): NO_RESPONSE, and the binding stays. -/
def bindTimeoutDev (cid : Nat) (d : Dev) : Dev :=
  match d.hif.runs.find? (fun x => x.opc = 0x0B && x.cid = cid && x.started) with
  | some x => (d.endRun x stNoResponse 0).goOn
  | none => d

/-- Remove every position from stream ring s (R420). -/
def Dev.unbindRing (d : Dev) (s : Nat) : Dev :=
  let d := if d.sbMask s = 0 then d else d.setBinding s 0
  let d := (d.put (HIF_SBST_LOWRATE s) 0).put (HIF_SBST_LOAD s) 0
  { d with pw := { d.pw with streamBound := decide (d.boundMask ≠ 0) } }

/-- Remove every binding (R410, R411, Table 15-9). -/
def Dev.unbindAll (d : Dev) : Dev := d.each (List.range 16) Dev.unbindRing

/-- What follows when bindings have ended (R56, R319, R420): the high-rate requests, the budget rule, and the ports. -/
def Dev.unbound (d : Dev) : Dev := (d.sendRoutes.budgetEval 3).hrSettle

/-- A ring that has turned out to be one of the low rate (R16): no stream stays bound, and the head is no longer held in STREAM. -/
def Dev.ringLow (d : Dev) : Dev := if d.lowRing then d.unbindAll.unbound else d

/-- UNBIND (R420). -/
def unbindDev (r : Nat) (e : Desc) (d : Dev) : Dev :=
  if !d.takes r then d
  else
    let d := d.consume r
    let x := mkRun r 0x0C e []
    if badOpcode 0x0C r e then d.endDesc x stBadOpcode 0
    else match badField 0x0C e with
    | some o => d.endDesc x stBadField o
    | none => ((d.unbindRing (bitsOf e.data 3 0)).unbound).endDesc x stOk 0

/-! ## Stream records (R421, R422) -/

/-- Units of 64 bytes of a record. -/
def recordUnits (block : List Byte) : Nat := 1 + (block.length + 63) / 64

/-- A stream record header and its block (Table 15-11). -/
def recordBytes (pos seq missed rdrop arrive : Nat) (block : List Byte) : List Byte :=
  leBytes 1 1 ++ leBytes 1 (recordUnits block) ++ leBytes 1 pos ++ leBytes 1 0 ++ leBytes 4 seq ++ leBytes 4 missed
    ++ leBytes 4 rdrop ++ leBytes 8 arrive ++ List.replicate 40 0 ++ block

/-- Write a record whole, after a pad record if it would run past the end; drop it where the ring has no room. -/
def Dev.streamRecord (d : Dev) (s pos seq missed : Nat) (block : List Byte) : Dev :=
  let r := 18 + s
  let n := recordUnits block
  let size := d.ringSize r
  let st := d.ring r
  let left := size - (if size = 0 then 0 else st.pidx % size)
  let pad := if n ≤ left then 0 else left
  match d.member pos with
  | none => d
  | some m =>
    if d.ringLive r ∧ pad + n ≤ d.ringFree r then
      let d := if pad = 0 then d
        else d.ringWrite r pad (leBytes 1 0 ++ leBytes 1 pad ++ List.replicate 62 0)
      let d := d.setMember pos (fun m => { m with rdrop := 0 })
      d.ringWrite r n (recordBytes pos seq missed m.rdrop (tbTime d.mtick) block)
    else
      let d := d.setRing r { d.ring r with dropped := ((d.ring r).dropped + 1) % 2 ^ 32 }
      let d := if d.hostUp ∧ d.wbBase ≠ 0 then d.writeBack (0xC0 + 4 * s) (d.ring r).dropped else d
      let d := d.setMember pos (fun m => { m with rdrop := m.rdrop + 1 })
      let recent := d.hif.dropAt.any (fun x => x.1 = r && decide (d.now < x.2 + 6000000))
      if recent then d
      else
        let d := { d with hif := { d.hif with dropAt := (r, d.now) :: d.hif.dropAt.filter (fun x => x.1 ≠ r) } }
        d.raise 0x9004 0 [r, pos, (d.ring r).dropped]

/-- LOWRATE of a bound position's ring follows the rate of its route; a route that returns to the high rate has its
load checked again (R422). -/
def Dev.lowRate (d : Dev) (s pos : Nat) : Dev :=
  if d.routeHr pos then
    if d.bit (HIF_SBST_LOWRATE s) ∧ (maskPos (d.sbMask s)).all d.routeHr then
      (d.put (HIF_SBST_LOWRATE s) 0).put (HIF_SBST_LOAD s) (d.loadCheck d.bindingList).2
    else d
  else if d.bit (HIF_SBST_LOWRATE s) then d
  else (d.put (HIF_SBST_LOWRATE s) 1).raise 0x9006 0 [18 + s]

/-! ## PCIe resets, power and wake (R410, R425, R426) -/

/-- PERST# ends L2 and the wake that the part has signalled (R426). -/
def Dev.leaveL2 (d : Dev) : Dev :=
  if !d.hif.l2 then d
  else
    let d := if d.hif.wakeLow then d.emit (.wakePin false) else d
    { d with hif := { d.hif with l2 := false, wakeLow := false } }

/-- A PCIe reset (R410). -/
def pcieResetDev (k : PcieResetKind) (d : Dev) : Dev :=
  if d.role ≠ .head then d
  else
    let code := match k with | .perst => 0 | .hotReset => 1 | .linkDown => 2 | .flr => 3
    let d := d.put HIF_CTRL_EN 0
    let d := d.each (List.range 34) (fun d r => (d.put (HIF_RCFG_EN r) 0).setRing r { d.ring r with stopped := false })
    let d := d.showMem
    let d := d.holdRuns 1
    let d := { d with hif := { d.hif with d3hot := false } }
    let d := d.ptmGone.put HIF_LINK_PTMV 0
    let d := if k = .perst then d.leaveL2 else d
    let d := (d.unbindAll.unbound).put HIF_STAT_PRST 1
    d.raise 0x9002 0 [(Config.eventCause 0x9002 code).toNat]

/-- D3hot or back to D0 (R425). -/
def pmStateChangeDev (d3hot : Bool) (d : Dev) : Dev :=
  if d.role ≠ .head then d
  else
    let d := { d with hif := { d.hif with d3hot := d3hot } }
    if d3hot then d else eventQueueDrainDev d.flush

end Sys2Proof.Machine
end

