-- ==== Sys2Proof/Machine/Spindle.lean ====
section
/-!
DEFINITION. Frames that arrive and the ring's enumeration (13): who is the end of a frame, alive counters, credits,
commands at a member, events, streams and broadcasts at the head, enumeration, CHECK sweeps and routes.
-/

namespace Sys2Proof.Machine

/-! ## Arrival -/

/-- The device takes native frames from a port: Lathe runs, the link is up and its partner is native, and the device is not
in LEGACY (R520). -/
def Dev.hears (d : Dev) (p : Port) : Bool := d.lathe && d.linkUp p && !d.bit (SPN_PORT_LEG p) && !d.inLegacy

/-- The frame ends here: its units in the receive buffer are free (R337). -/
def Dev.consumed (d : Dev) (p : Port) (w : Word64) : Dev := d.freeUnits p (cfTc w) 1

/-- A compact frame of a kind arrives: every device checks its CRC and discards it if that fails (R330); the unit it took is
free again (R339). -/
def compactIn (p : Port) (kind : Nat) (w : Word64) (d : Dev) (act : Dev → Dev) : Dev :=
  if !d.hears p ∨ cfKind w ≠ kind then d
  else if !cfOk w then
    let d := d.countSat (SPN_ERR_CRC16 p) 1
    if linkKind kind then d else d.consumed p w
  else act d

/-- Forward a compact frame out of the other port (R343). -/
def Dev.relay (d : Dev) (p : Port) (w : Word64) : Dev := d.portSend (otherPort p) (some p) (.compact w)

/-- What the alive counter of a frame says (R329): nothing known, a repeat, or how many were missed. -/
def Dev.aliveMissed (d : Dev) (pos kind alive : Nat) : Option Nat :=
  match d.spn.aliveIn.find? (fun r => r.pos = pos && r.kind = kind) with
  | none => some 0
  | some r => if r.last = alive then none else some ((alive + 16 - r.last + 15) % 16)

/-- Note the alive counter of an accepted frame, and count what was missed (R329). -/
def Dev.noteAlive (d : Dev) (pos kind alive missed : Nat) : Dev :=
  let rows := ⟨pos, kind, alive⟩ :: d.spn.aliveIn.filter (fun r => !(r.pos = pos && r.kind = kind))
  ({ d with spn := { d.spn with aliveIn := rows } }).countSat SPN_ALIVE_GAP missed

/-- A frame at its end: a repeat is discarded, the others act, TRIP and GUARD with an event if some were missed. -/
def endCompact (p : Port) (w : Word64) (sender : Nat) (d : Dev) (act : Dev → Dev) : Dev :=
  let d := d.consumed p w
  match d.aliveMissed sender (cfKind w) (cfAlive w) with
  | none => d
  | some n =>
    let d := d.noteAlive sender (cfKind w) (cfAlive w) n
    let d := if 0 < n ∧ (cfKind w = kTrip ∨ cfKind w = kGuard) then
      d.raiseAbout sender 0x7016 0 [sender, cfKind w, n] else d
    act d

/-- A member-to-head kind: relayed by a member, accepted by the head. -/
def toHead (p : Port) (kind : Nat) (w : Word64) (d : Dev) (act : Dev → Dev) : Dev :=
  compactIn p kind w d (fun d =>
    match d.role with
    | .member => d.relay p w
    | .head => endCompact p w (cfPos w) d act)

/-- A head-to-member kind: it ends at the member whose position it names, others relay it; back at the head it ends. -/
def toMember (p : Port) (kind : Nat) (w : Word64) (d : Dev) (act : Dev → Dev) : Dev :=
  compactIn p kind w d (fun d =>
    match d.role with
    | .head => d.consumed p w
    | .member =>
      if d.bit SPN_POS_VALID ∧ cfPos w = d.get SPN_POS_POS then endCompact p w 0 d act
      else d.relay p w)

/-! ## Safety and capture frames -/

/-- TRIP (R353, R276). -/
def tripDev (p : Port) (w : Word64) (d : Dev) : Dev :=
  toHead p kTrip w d (fun d => d.tripAccepted (cfPos w))

/-- What a guard frame says of its member (Table 13-9); a trip that it no longer shows is over (R353). -/
def Dev.takeGuard (d : Dev) (pos pay : Nat) : Dev :=
  d.setMember pos (fun m => { m with
    cur := bitsNat pay 31 28, base := bitsNat pay 27 24, latch := bitsNat pay 23 23 = 1, arml := bitsNat pay 22 22 = 1,
    armu := bitsNat pay 21 21 = 1, fbzl := bitsNat pay 20 20 = 1, fbzu := bitsNat pay 19 19 = 1,
    fprc := bitsNat pay 18 18 = 1, grun := bitsNat pay 17 17 = 1, last := bitsNat pay 16 16 = 1,
    wseq := bitsNat pay 15 0, guarded := true, missing := false, told := true
    tripSeen := m.tripSeen && (bitsNat pay 23 23 = 1 || bitsNat pay 22 22 = 0 || bitsNat pay 21 21 = 0) })

/-- GUARD (R354): the head notes mode, latch and faults, acts on faults, follows the mode rule and completes BINDs. -/
def guardDev (p : Port) (w : Word64) (d : Dev) : Dev :=
  toHead p kGuard w d (fun d =>
    if d.numbered (cfPos w) then
      (((d.takeGuard (cfPos w) (cfPay w)).guardEffects (cfPos w)).headRule).checkBinds
    else d)

/-- CAPREQ (R355): the head sends CAPTURE on both ports and applies it to itself. -/
def capreqDev (p : Port) (w : Word64) (d : Dev) : Dev :=
  toHead p kCapreq w d (fun d =>
    (d.sendCompact [.north, .south] kCapture (cfPos w) (cfPay w)).applyCapture (cfPay w))

/-- CAPTURE (R355, R117, R343): every device forwards each copy, and a numbered member applies the first; at the head it ends. -/
def captureDev (p : Port) (w : Word64) (d : Dev) : Dev :=
  compactIn p kCapture w d (fun d =>
    match d.role with
    | .head => d.consumed p w
    | .member =>
      let d := d.relay p w
      if !d.bit SPN_POS_VALID then d
      else match d.aliveMissed 0 kCapture (cfAlive w) with
      | none => d
      | some n => (d.noteAlive 0 kCapture (cfAlive w) n).applyCapture (cfPay w))

/-! ## Credits (R337 to R340) -/

/-- CREDIT: the gain is the difference of the cumulative counts, modulo their ranges. -/
def creditDev (p : Port) (w : Word64) (d : Dev) : Dev :=
  compactIn p kCredit w d (fun d =>
    let s := d.port p
    let c1 := bitsNat (cfPay w) 31 22
    let c2 := bitsNat (cfPay w) 21 12
    let c3 := bitsNat (cfPay w) 11 0
    let d := d.put (SPN_CRED p 1) (d.get (SPN_CRED p 1) + (c1 + 1024 - s.taken1 % 1024) % 1024)
    let d := d.put (SPN_CRED p 2) (d.get (SPN_CRED p 2) + (c2 + 1024 - s.taken2 % 1024) % 1024)
    let d := d.put (SPN_CRED p 3) (d.get (SPN_CRED p 3) + (c3 + 4096 - s.taken3 % 4096) % 4096)
    (d.setPort p { d.port p with taken1 := c1, taken2 := c2, taken3 := c3 }).drain p)

/-- CREDIT_INIT: the sender then holds exactly the units offered and counts from zero (R338). -/
def creditInitDev (p : Port) (w : Word64) (d : Dev) : Dev :=
  compactIn p kCreditInit w d (fun d =>
    let d := d.put (SPN_CRED p 1) (bitsNat (cfPay w) 31 24)
    let d := d.put (SPN_CRED p 2) (bitsNat (cfPay w) 23 16)
    let d := d.put (SPN_CRED p 3) (bitsNat (cfPay w) 15 4)
    (d.setPort p { d.port p with taken1 := 0, taken2 := 0, taken3 := 0 }).drain p)

/-- A port sends CREDIT with what its receive buffers have freed since CREDIT_INIT (R338). -/
def creditSendDev (p : Port) (d : Dev) : Dev :=
  if d.hears p then d.sendCredit p else d

/-! ## Control frames at a member -/

/-- EVACK (R357): the events up to its SEQ are no longer kept; room lets the loss be reported. -/
def evackDev (p : Port) (w : Word64) (d : Dev) : Dev :=
  toMember p kEvack w d (fun d =>
    let n := (cfPay w + 1 + 2 ^ 32 - d.spn.evBase) % 2 ^ 32
    if n ≤ d.spn.evq.length then
      let d := { d with spn := { d.spn with
        evq := d.spn.evq.drop n, evBase := (d.spn.evBase + n) % 2 ^ 32, evSent := d.spn.evSent - n } }
      let d := d.put SPN_EVQ_QUEUED d.spn.evq.length
      if 0 < d.spn.evLost ∧ d.spn.evq.length < 128 then
        let lost := d.spn.evLost
        ({ d with spn := { d.spn with evLost := 0 } }).raise 0x7017 0 [lost, (Config.eventCause 0x7017 0).toNat]
      else d
    else d)

/-- RESET (R356): acted on under its HID, LEVEL and position, after it was forwarded. -/
def resetFrameDev (p : Port) (w : Word64) (d : Dev) : Dev :=
  compactIn p kReset w d (fun d =>
    match d.role with
    | .head => d.consumed p w
    | .member =>
      let level := bitsNat (cfPay w) 31 30
      let all := bitsNat (cfPay w) 29 29 = 1
      let mine := d.bit SPN_POS_BOUND ∧ bitsNat (cfPay w) 15 0 = d.get SPN_POS_HID ∧ (level = 1 ∨ level = 2) ∧
        (all ∨ (d.bit SPN_POS_VALID ∧ cfPos w = d.get SPN_POS_POS))
      let d := d.relay p w
      if mine then
        match d.aliveMissed 0 kReset (cfAlive w) with
        | none => d
        | some n => (d.noteAlive 0 kReset (cfAlive w) n).spindleReset level
      else d)

/-- The stream binding as the member sees it: the high-rate bit of its own way, and its output group armed since (log 25). -/
def Dev.seeBinding (d : Dev) : Dev :=
  let hr := if d.get SPN_ROUTE_WAY = 0 then d.bit SPN_ROUTE_HRS else d.bit SPN_ROUTE_HRN
  let d := if hr then d else { d with spn := { d.spn with outArmed := false } }
  let b := hr && d.spn.outArmed
  if b = d.pw.streamBound then d
  else ({ d with pw := { d.pw with streamBound := b } }).budgetEval 3

/-- ROUTE (R342, R344, R357): way and high-rate bits; the kept events go out again; a change of way makes SFULL due; a port that
nothing holds at the high rate any more returns to LR (R319). -/
def routeDev (p : Port) (w : Word64) (d : Dev) : Dev :=
  toMember p kRoute w d (fun d =>
    let way := bitsNat (cfPay w) 31 31
    let changed := decide (way ≠ d.get SPN_ROUTE_WAY)
    let d := ((d.put SPN_ROUTE_WAY way).put SPN_ROUTE_HRN (bitsNat (cfPay w) 30 30)).put SPN_ROUTE_HRS (bitsNat (cfPay w) 29 29)
    let d := if changed then { d with spn := { d.spn with full1 := true, full2 := true, full3 := true } } else d
    let d := ({ d with spn := { d.spn with evSent := 0, swapped := false } }).sendEvents
    let d := (d.tryTrain .north).tryTrain .south
    d.seeBinding.hrSettle)

/-- SYNC (R350): the member adopts LAST, clears SYNCWAIT and answers SYNCED. -/
def syncDev (p : Port) (w : Word64) (d : Dev) : Dev :=
  toMember p kSync w d (fun d =>
    if bitsNat (cfPay w) 15 0 = d.get SPN_POS_HID then
      let d := (d.put SPN_CMD_LAST (bitsNat (cfPay w) 31 16)).put SPN_CMD_SYNCWAIT 0
      d.compactToHead kNotice (5 * 2 ^ 28 + d.get SPN_CMD_LAST)
    else d)

/-! ## Notices at the head (Table 13-10) -/

/-- A notice with a subtype: relayed by a member; at the head it acts. -/
def noticeIn (p : Port) (sub : Nat) (w : Word64) (d : Dev) (act : Dev → Dev) : Dev :=
  if bitsNat (cfPay w) 31 28 = sub then toHead p kNotice w d act else d

def noticePort (w : Word64) : Port := if bitsNat (cfPay w) 27 27 = 0 then .north else .south

/-- NOTICE LINKDOWN (R352, R364, R366). -/
def noticeLinkdownDev (p : Port) (w : Word64) (d : Dev) : Dev :=
  noticeIn p 1 w d (fun d => (d.linkChange (cfPos w) (noticePort w) false false).copiesLost)

/-- NOTICE LINKUP (R364, R367). -/
def noticeLinkupDev (p : Port) (w : Word64) (d : Dev) : Dev :=
  noticeIn p 2 w d (fun d => d.linkChange (cfPos w) (noticePort w) true (bitsNat (cfPay w) 26 26 = 1))

/-- NOTICE WARMRESET (R329, R333, R350): the member's counters start from 0, its frames are taken whatever their ALIVE,
and a command outstanding to it is aborted and the counter resynchronised. -/
def noticeWarmresetDev (p : Port) (w : Word64) (d : Dev) : Dev :=
  noticeIn p 3 w d (fun d =>
    let pos := cfPos w
    let d := { d with spn := { d.spn with aliveIn := d.spn.aliveIn.filter (fun r => r.pos ≠ pos || r.kind = kNotice) } }
    let d := d.setMember pos (fun m => { m with
      seq1 := 0, full1 := true, exp1 := 0, exp2 := 0, exp3 := 0, ahead := [], frag := [], sfrag := [], smiss := 0, route := none })
    match d.outstanding pos with
    | some x => ((d.endRun x stAborted 3).resync pos).goOn
    | none => d)

/-- NOTICE UNNUMBERED (R362): its ALIVE is not checked; each UID raises its event once. -/
def noticeUnnumberedDev (p : Port) (w : Word64) (d : Dev) : Dev :=
  if bitsNat (cfPay w) 31 28 = 4 then
    compactIn p kNotice w d (fun d =>
      match d.role with
      | .member => d.relay p w
      | .head =>
        let d := d.consumed p w
        let uid := bitsNat (cfPay w) 15 0
        let d := d.put SPN_UNNUM_UID uid
        if d.hd.unnum.contains uid then d
        else
          let d := { d with hd := { d.hd with unnum := uid :: d.hd.unnum } }
          (d.countSat SPN_UNNUM_CNT 1).raise 0x7011 0 [uid, portCode p])
  else d

/-- NOTICE SYNCED (R350): the member has adopted the counter; a command that has gone out since keeps its TAG (R349). -/
def noticeSyncedDev (p : Port) (w : Word64) (d : Dev) : Dev :=
  noticeIn p 5 w d (fun d =>
    if (d.outstanding (cfPos w)).isSome then d
    else d.setMember (cfPos w) (fun m => { m with tag := bitsNat (cfPay w) 15 0 }))

/-! ## Enumeration (R358 to R364, R367) -/

/-- Payload of ENUM (Table 13-2). -/
def enumPay (next : Nat) (down check : Bool) (eid hid : Nat) : Nat :=
  next % 64 * 2 ^ 26 + (if down then 2 ^ 25 else 0) + (if check then 2 ^ 24 else 0) + eid % 256 * 2 ^ 16 + hid % 2 ^ 16

/-- Payload of ENUMANS (Table 13-10). -/
def ansPay (build : Build) (ndown already legn : Bool) (eid : Nat) : Nat :=
  6 * 2 ^ 28 + (match build with | .F => 0 | .H => 1 | .B => 2) * 2 ^ 26 + (if ndown then 2 ^ 25 else 0)
    + (if already then 2 ^ 24 else 0) + eid % 256 * 2 ^ 16 + (if legn then 2 ^ 15 else 0) + Config.uid.toNat % 2 ^ 15

/-- A member takes a position (R359): counters at 0, LAST 0, SYNCWAIT clear, free of the DOZE of R362. -/
def Dev.takePosition (d : Dev) (pos eid : Nat) : Dev :=
  let d := ((d.put SPN_POS_POS pos).put SPN_POS_EID eid).put SPN_POS_VALID 1
  let d := (d.put SPN_CMD_LAST 0).put SPN_CMD_SYNCWAIT 0
  let held := d.pw.heldDoze
  let spn := { d.spn with
    seq1 := 0, seq3 := 0, full1 := true, full2 := true, full3 := true, exp1 := 0
    expB := 0, kept := none, evBase := 0, evSent := 0, aliveIn := [], swapped := false }
  let d := { d with spn := spn, pw := { d.pw with heldDoze := false } }
  if held then d.budgetEval 3 else d

/-- A member sends ENUMANS out of a port (R359). -/
def Dev.sendAns (d : Dev) (p : Port) (ndown already legn : Bool) (eid : Nat) : Dev :=
  d.sendCompact [p] kNotice (d.get SPN_POS_POS) (ansPay d.build ndown already legn eid)

/-- ENUM at a member (R329, R359, R367): a repeat is discarded. -/
def Dev.enumAtMember (d : Dev) (p : Port) (w : Word64) : Dev :=
  let pay := cfPay w
  let next := bitsNat pay 31 26
  let down := decide (bitsNat pay 25 25 = 1)
  let eid := bitsNat pay 23 16
  let hid := bitsNat pay 15 0
  let q := otherPort p
  if d.bit SPN_POS_BOUND ∧ d.get SPN_POS_HID ≠ hid then d.consumed p w
  else if bitsNat pay 24 24 = 1 then
    if d.bit SPN_POS_VALID ∧ d.get SPN_POS_EID = eid then
      match d.aliveMissed 0 kEnum (cfAlive w) with
      | none => d.consumed p w
      | some n => ((d.noteAlive 0 kEnum (cfAlive w) n).sendAns p false true (d.bit (SPN_PORT_LEG q)) eid).relay p w
    else d.relay p w
  else
    match d.aliveMissed 0 kEnum (cfAlive w) with
    | none => d.consumed p w
    | some n =>
    let d := ((d.noteAlive 0 kEnum (cfAlive w) n).put SPN_POS_BOUND 1).put SPN_POS_HID hid
    if (p = .south ∧ !down) ∨ (p = .north ∧ down) then
      let legn := d.bit (SPN_PORT_LEG q)
      if d.bit SPN_POS_VALID ∧ d.get SPN_POS_EID = eid then (d.consumed p w).sendAns p false true legn eid
      else
        let d := d.takePosition next eid
        let d := d.noteAlive 0 kEnum (cfAlive w) 0
        let more := d.linkUp q && !legn && (if down then decide (1 < next) else decide (next < 63))
        let d := d.sendAns p (!more) false legn eid
        if more then
          d.relay p (cfWithPay w (enumPay (if down then next - 1 else next + 1) down false eid hid))
        else d.consumed p w
    else d.consumed p w

/-- Send ENUM out of a port of the head. -/
def Dev.sendEnum (d : Dev) (p : Port) (next : Nat) (down check : Bool) : Dev :=
  d.sendCompact [p] kEnum 0 (enumPay next down check (d.get SPN_ENUM_EID) Config.uid.toNat)

/-- Notices that a CHECK sweep in progress holds (R364). -/
def Dev.heldNotices (d : Dev) : List (Nat × Port × Bool × Bool) := match d.hd.enum with | some e => e.notices | none => []

/-- SPN_ENUM.GO at the head (R358): streams unbound, member commands aborted, EID moved on, a tone on both ports. A CHECK sweep
in progress is no enumeration, and ends without effect. -/
def spnEnumGoDev (d : Dev) : Dev :=
  if d.role ≠ .head ∨ d.enumerates ∨ !d.lathe then d
  else
    let d := { d with hd := { d.hd with enum := some ⟨.wait, [], [], d.heldNotices⟩, unnum := [], rebuild := false } }
    let d := (d.put SPN_ENUM_BUSY 1).put SPN_RING_RWAIT 0
    let d := (d.put SPN_UNNUM_CNT 0).countMod SPN_ENUM_EID 1
    let d := d.put SPN_POS_EID (d.get SPN_ENUM_EID)
    let d := d.abortRuns (fun x => x.pos ≠ 0 || x.bcast || x.opc = 0x0B) 4
    let d := d.unbindAll.unbound
    let d := { d with spn := { d.spn with aliveIn := [] } }
    (d.sendTone .north).sendTone .south

/-- DATA of an ENUM completion (Table 15-6). -/
def Dev.enumData (d : Dev) : Nat :=
  d.hd.order.length * 2 ^ 24 + d.get SPN_ENUM_EID * 2 ^ 16 + d.get SPN_ENUM_CLOSED

/-- Complete the ENUM descriptors that wait, and let held commands start (R358). -/
def Dev.enumRunsDone (d : Dev) : Dev :=
  (d.each (d.hif.runs.filter (fun x => x.opc = 0x0D)) (fun d x => d.endRun x stOk d.enumData)).goOn

/-- Apply the notices that came during an enumeration (R364). -/
def Dev.applyNotices (d : Dev) (ns : List (Nat × Port × Bool × Bool)) : Dev :=
  (d.each ns (fun d n => d.linkChange n.1 n.2.1 n.2.2.1 n.2.2.2)).copiesLost

/-- The members that answered a sweep, numbered anew or for the first time: they keep the modes they reported (R53). -/
def Dev.answered (d : Dev) (as : List EnumAns) : List Member :=
  as.map (fun a => ({ freshMember a.pos a.build a.uid15 with legn := a.legn }).carry d.hd.members)

/-- The last sweep ends (R361). Frames under the new positions are taken whatever their ALIVE (R329). -/
def Dev.enumEnd (d : Dev) (closed : Bool) : Dev :=
  match d.hd.enum with
  | none => d
  | some e =>
    let order := e.north.map (·.pos) ++ (e.south.map (·.pos)).reverse
    let n := e.north.length
    let links : List LinkSt := (List.range (order.length + 1)).map (fun l =>
      ⟨closed || l ≠ n, if l = 0 then d.pstate .north = pHr else if l = order.length then d.pstate .south = pHr else false⟩)
    let members := d.answered (e.north ++ e.south)
    let d := { d with
      hd := { d.hd with order := order, links := links, members := members, enum := none, seqB := 0, fullB := true, tried := false }
      spn := { d.spn with aliveIn := [] } }
    let d := ((d.putB SPN_ENUM_CLOSED closed).put SPN_ENUM_BUSY 0).putB SPN_RING_OPEN (!closed)
    let d := d.put SPN_ENUM_NLAST (((e.north.getLast?).map (·.pos)).getD 0)
    let d := d.put SPN_ENUM_SFIRST (((e.south.getLast?).map (·.pos)).getD 0)
    let d := d.writeMaps []
    let d := (d.put SPN_RING_BRKN (if closed then 0 else (d.northReach.getLast?).getD 0)).put SPN_RING_BRKS
      (if closed then 0 else (d.southReach.getLast?).getD 0)
    let d := d.setWays
    let d := d.raise 0x7010 0 [d.get SPN_ENUM_EID, order.length, d.get SPN_ENUM_CLOSED, d.get SPN_ENUM_NLAST, d.get SPN_ENUM_SFIRST]
    ((d.applyNotices e.notices).enumRunsDone).headRule

/-- The north sweep ends without the ring closed (R360): a south sweep follows if the south port carries frames. -/
def Dev.northEnds (d : Dev) : Dev :=
  match d.hd.enum with
  | none => d
  | some e =>
    if d.linkUp .south ∧ !d.bit (SPN_PORT_LEG .south) then
      ({ d with hd := { d.hd with enum := some { e with phase := .south } } }).sendEnum .south 63 true false
    else d.enumEnd false

/-- 30 ms after the tone of an enumeration began (R358). -/
def enumStartDev (d : Dev) : Dev :=
  match d.hd.enum with
  | some e =>
    if e.phase = .wait then
      let d := { d with hd := { d.hd with enum := some { e with phase := .north } } }
      if d.linkUp .north ∧ !d.bit (SPN_PORT_LEG .north) then d.sendEnum .north 1 false false else d.northEnds
    else d
  | none => d

/-- A CHECK sweep has come back (R367). -/
def Dev.ringClosed (d : Dev) : Dev :=
  match d.hd.enum with
  | none => d
  | some e =>
    let order := e.north.map (·.pos)
    let found := order.filter d.lost
    let links : List LinkSt := (List.range (order.length + 1)).map (fun l =>
      ⟨true, if l = 0 then d.pstate .north = pHr else if l = order.length then d.pstate .south = pHr else false⟩)
    let stillLost := ((d.hd.members.map (·.pos)).filter d.lost).filter (fun p => !order.contains p)
    let fresh := d.answered (e.north.filter (fun a => !d.numbered a.pos))
    let kept := d.hd.members.map (fun m => match e.north.find? (fun a => a.pos = m.pos) with
      | some a => { m with legn := a.legn }
      | none => m)
    let anew := d.hd.rebuild
    let d := { d with hd := { d.hd with
      order := order, links := links, members := kept ++ fresh, enum := none, rebuild := false, tried := false } }
    let d := ((d.put SPN_ENUM_BUSY 0).put SPN_RING_OPEN 0).put SPN_ENUM_CLOSED 1
    let d := d.writeMaps stillLost
    let d := d.each found (fun d p => d.raiseAbout p 0x7015 0 [])
    let d := (d.forgetRoutes found).setWays
    let d := if anew then d.each order Dev.sendSync else d
    let d := d.raise 0x7013 0 []
    ((d.applyNotices e.notices).ringLow.headRule).goOn

/-- A head that has reset takes its picture of an open ring from the CHECK sweeps of both sides, and sends SYNC to every
member that answered (R350, R367). -/
def Dev.rebuildOpen (d : Dev) : Dev :=
  match d.hd.enum with
  | none => d
  | some e =>
    let order := e.north.map (·.pos) ++ (e.south.map (·.pos)).reverse
    let d := ({ d with hd := { d.hd with enum := none } }).put SPN_ENUM_BUSY 0
    if order.isEmpty then (({ d with hd := { d.hd with tried := true } }).applyNotices e.notices).goOn
    else
      let n := e.north.length
      let links : List LinkSt := (List.range (order.length + 1)).map (fun l =>
        ⟨l ≠ n, if l = 0 then d.pstate .north = pHr else if l = order.length then d.pstate .south = pHr else false⟩)
      let members := d.answered (e.north ++ e.south)
      let d := { d with hd := { d.hd with order := order, links := links, members := members, rebuild := false } }
      let d := d.writeMaps []
      let d := (d.put SPN_RING_BRKN ((d.northReach.getLast?).getD 0)).put SPN_RING_BRKS ((d.southReach.getLast?).getD 0)
      let d := d.setWays.each order Dev.sendSync
      ((d.applyNotices e.notices).headRule).goOn

/-- The CHECK sweep of the north side of a head that has reset is over: the south side follows if its port carries frames. -/
def Dev.rebuildSouth (d : Dev) : Dev :=
  match d.hd.enum with
  | none => d
  | some e =>
    if d.linkUp .south ∧ !d.bit (SPN_PORT_LEG .south) then
      ({ d with hd := { d.hd with enum := some { e with phase := .checkS } } }).sendEnum .south 63 true true
    else d.rebuildOpen

/-- ENUM has come back to the head: the ring is closed (R360, R367), and the ring order is written once the answers on their
way are in, those of every position given out, or in a CHECK sweep of every numbered position; else 10 ms after the
last one (log 40). -/
def Dev.sweepBack (d : Dev) : Dev :=
  match d.hd.enum with
  | none => d
  | some e =>
    match e.phase with
    | .back next => if next ≤ e.north.length + 1 then d.enumEnd true else d
    | .checkBack =>
      if !d.hd.rebuild ∧ d.hd.members.all (fun m => e.north.any (fun a => a.pos = m.pos)) then d.ringClosed else d
    | _ => d

/-- ENUM arrives (R17, R359, R360, R367). -/
def enumerationFrameDev (p : Port) (w : Word64) (d : Dev) : Dev :=
  compactIn p kEnum w d (fun d =>
    match d.role with
    | .member => d.enumAtMember p w
    | .head =>
      let d := d.consumed p w
      if bitsNat (cfPay w) 15 0 ≠ Config.uid.toNat % 2 ^ 16 then d.raise 0x7F01 0 []
      else match d.aliveMissed 0 kEnum (cfAlive w) with
      | none => d
      | some n =>
      let d := d.noteAlive 0 kEnum (cfAlive w) n
      match d.hd.enum with
        | some e =>
          if p = .south ∧ bitsNat (cfPay w) 25 25 = 0 then
            if e.phase = .check ∧ bitsNat (cfPay w) 24 24 = 1 then
              ({ d with hd := { d.hd with enum := some { e with phase := .checkBack } } }).sweepBack
            else if e.phase = .north ∧ bitsNat (cfPay w) 24 24 = 0 then
              ({ d with hd := { d.hd with enum := some { e with phase := .back (bitsNat (cfPay w) 31 26) } } }).sweepBack
            else d
          else d
        | none => d)

/-- The first frame of a device that a sweep has just numbered is accepted whatever its ALIVE (R329). -/
def Dev.newSender (d : Dev) (w : Word64) : Dev :=
  if d.role = .head ∧ d.enumerates ∧ cfOk w ∧ bitsNat (cfPay w) 31 28 = 6 ∧ bitsNat (cfPay w) 24 24 = 0 then
    { d with spn := { d.spn with aliveIn := d.spn.aliveIn.filter (fun r => !(r.pos = cfPos w && r.kind = kNotice)) } }
  else d

/-- ENUMANS arrives at the head (R360, R367). -/
def enumansDev (p : Port) (w : Word64) (d : Dev) : Dev :=
  noticeIn p 6 w (d.newSender w) (fun d =>
    let pay := cfPay w
    let a : EnumAns := ⟨cfPos w, bitsNat pay 27 26, bitsNat pay 14 0, bitsNat pay 15 15 = 1⟩
    let ndown := bitsNat pay 25 25 = 1
    let already := bitsNat pay 24 24 = 1
    match d.hd.enum with
    | none => d
    | some e =>
      if bitsNat pay 23 16 ≠ d.get SPN_ENUM_EID then d
      else match e.phase with
      | .wait => d
      | .north =>
        let d := { d with hd := { d.hd with enum := some { e with north := e.north ++ [a] } } }
        if ndown then d.northEnds else d
      | .back _ | .checkBack => ({ d with hd := { d.hd with enum := some { e with north := e.north ++ [a] } } }).sweepBack
      | .south =>
        if already then d.enumEnd true
        else
          let d := { d with hd := { d.hd with enum := some { e with south := e.south ++ [a] } } }
          if ndown then d.enumEnd false else d
      | .check => { d with hd := { d.hd with enum := some { e with north := e.north ++ [a] } } }
      | .checkS => { d with hd := { d.hd with enum := some { e with south := e.south ++ [a] } } })

/-- 10 ms without an answer (R360); a CHECK sweep that does not return ends without effect (R367). -/
def enumSweepTimeoutDev (d : Dev) : Dev :=
  match d.hd.enum with
  | none => d
  | some e =>
    match e.phase with
    | .wait => d
    | .north => d.northEnds
    | .back _ => d.enumEnd true
    | .checkBack => d.ringClosed
    | .south => d.enumEnd false
    | .check =>
      if d.hd.rebuild then d.rebuildSouth
      else
        let d := ({ d with hd := { d.hd with enum := none, tried := true } }).put SPN_ENUM_BUSY 0
        (d.applyNotices e.notices).goOn
    | .checkS => d.rebuildOpen

/-- 1 s has passed since the last link change of an open ring (R367): a CHECK sweep out of the north port. -/
def ringCheckWaitExpiryDev (d : Dev) : Dev :=
  if d.role = .head ∧ d.bit SPN_RING_RWAIT ∧ d.hd.enum.isNone ∧ d.lathe then
    let d := { d with hd := { d.hd with enum := some ⟨.check, [], [], []⟩ } }
    let d := (d.put SPN_RING_RWAIT 0).put SPN_ENUM_BUSY 1
    if d.hd.rebuild ∧ !(d.linkUp .north && !d.bit (SPN_PORT_LEG .north)) then d.rebuildSouth else d.sendEnum .north 1 false true
  else d

/-- A device behind the frontier of a sweep (R362): it holds itself in DOZE and announces itself on both ports. -/
def unnumberedNoticeSendDev (d : Dev) : Dev :=
  if d.role = .member ∧ !d.bit SPN_POS_VALID ∧ d.lathe ∧ !d.inLegacy then
    let d := ({ d with pw := { d.pw with heldDoze := true } }).budgetEval 3
    d.sendPlain [.north, .south] kNotice 0 (4 * 2 ^ 28 + Config.uid.toNat % 2 ^ 16)
  else d

/-! ## Extended frames -/

/-- Relay an extended frame (R343, R344): a head-bound frame whose onward port is DOWN turns once. -/
def Dev.relayX (d : Dev) (p : Port) (x : XFrame) : Dev :=
  if d.pstate (otherPort p) = pDown ∧ x.dir then
    if x.turn then d.freeUnits p x.tc (Body.ext x).units else d.portSend p (some p) (.ext (xTurn x))
  else d.portSend (otherPort p) (some p) (.ext x)

/-- An extended frame ends here: its units are free. -/
def Dev.consumedX (d : Dev) (p : Port) (x : XFrame) : Dev := d.freeUnits p x.tc (Body.ext x).units

/-- The response to a command (R346, R348): kept under its TAG, and sent in fragments that the route carries. -/
def respFragments : Nat → Dev → Nat → List Byte → Dev
  | 0, d, _, _ => d
  | n + 1, d, tag, bs =>
    if bs.length ≤ d.maxPayload then d.sendToHead 0xF2 1 tag false bs
    else respFragments n (d.sendToHead 0xF2 1 tag true (bs.take d.maxPayload)) tag (bs.drop d.maxPayload)

def Dev.respond (d : Dev) (tag status count : Nat) (data : List Byte) : Dev :=
  let body := leBytes 1 status ++ leBytes 1 count ++ leBytes 2 0 ++ leBytes 4 0 ++ data
  respFragments (body.length / 256 + 1) d tag body

/-- A COMMAND at a member (R332, R334, R348). `op` is the operation whose row this is, `none` for a code that Table 13-7
does not have; `act` carries it out and answers the data of the response. -/
def commandIn (p : Port) (x : XFrame) (op : Option Nat) (act : Dev → List Byte × Dev) (d : Dev) : Dev :=
  let code := leNat (x.payload.take 1)
  let fitsRow := match op with | some o => decide (code = o) | none => !(1 ≤ code && code ≤ 4)
  if !d.hears p ∨ x.ftype ≠ 0xF1 ∨ x.dir ∨ !fitsRow then d
  else if d.role = .head then d.consumedX p x
  else if !(d.bit SPN_POS_VALID ∧ x.pos = d.get SPN_POS_POS) then d.relayX p x
  else
    let d := d.consumedX p x
    let seq := xSeqOf x d.spn.exp1
    if x.crc ≠ xCrc x (d.get SPN_POS_POS) seq then d.countSat (SPN_ERR_CRC32 p) 1
    else if seqBefore seq d.spn.exp1 then d
    else
      let d := { d with spn := { d.spn with exp1 := (seq + 1) % 2 ^ 32 } }
      let t := x.tag % 65536
      let last := d.get SPN_CMD_LAST
      let count := leNat ((x.payload.drop 1).take 1)
      if d.bit SPN_CMD_SYNCWAIT then d.respond t 1 count []
      else if t = (last + 1) % 65536 then
        let d := d.riseForCommand
        let d := d.put SPN_CMD_LAST t
        match op with
        | none =>
          let d := { d with spn := { d.spn with kept := some ⟨t, leBytes 1 3 ++ leBytes 1 count ++ leBytes 6 0⟩ } }
          (d.respond t 3 count []).commandDone
        | some _ =>
          let (data, d) := act d
          let d := { d with spn := { d.spn with kept := some ⟨t, leBytes 1 0 ++ leBytes 1 count ++ leBytes 6 0 ++ data⟩ } }
          (d.respond t 0 count data).commandDone
      else if t = last then
        match d.spn.kept with
        | some k => if k.tag = t then respFragments (k.body.length / 256 + 1) d t k.body else d.respond t 2 count []
        | none => d.respond t 2 count []
      else d.respond t 2 count []

/-- Values of consecutive registers, and the device after reading them (R346). -/
def Dev.readRegs (d : Dev) (a n : Nat) : List Byte × Dev := d.localAct (.rd a n false)

def payNat (x : XFrame) (i n : Nat) : Nat := leNat (bytesAt x.payload i n)

/-- COUNT of a command: 1 to 32 (Table 13-7). -/
def cmdCount (x : XFrame) : Nat := min 32 (payNat x 1 1)

def commandRdDev (p : Port) (x : XFrame) (d : Dev) : Dev :=
  commandIn p x (some 1) (fun d => d.readRegs (payNat x 4 4) (cmdCount x)) d

def commandWrDev (p : Port) (x : XFrame) (d : Dev) : Dev :=
  commandIn p x (some 2) (fun d =>
    d.localAct (.wr (payNat x 4 4) (wordsOf (cmdCount x) (x.payload.drop 8)))) d

def pairsOf : Nat → List Byte → List (Nat × Word)
  | 0, _ => []
  | n + 1, bs => (leNat (bs.take 4), BitVec.ofNat 32 (leNat ((bs.drop 4).take 4))) :: pairsOf n (bs.drop 8)

def commandWrlDev (p : Port) (x : XFrame) (d : Dev) : Dev :=
  commandIn p x (some 3) (fun d => d.localAct (.wrl (pairsOf (cmdCount x) (x.payload.drop 8)))) d

def commandRdmDev (p : Port) (x : XFrame) (d : Dev) : Dev :=
  commandIn p x (some 4) (fun d => d.localAct (.rdm (payNat x 4 4) (min 1024 (payNat x 2 2)))) d

def commandBadOpDev (p : Port) (x : XFrame) (d : Dev) : Dev := commandIn p x none (fun d => ([], d)) d

/-- BCOMMAND (R330, R334, R343, R345, R352): each member forwards every copy, and a numbered one executes the first; the copy that
returns to the head's south port lets the run whose SEQ it bears go on. -/
def bcommandDev (p : Port) (x : XFrame) (d : Dev) : Dev :=
  if !d.hears p ∨ x.ftype ≠ 0xF3 then d
  else match d.role with
  | .head =>
    let d := d.consumedX p x
    let seq := xSeqOf x d.hd.seqB
    if x.crc ≠ xCrc x 0x40 seq then d.countSat (SPN_ERR_CRC32 p) 1
    else if p ≠ .south then d
    else match d.hif.runs.find? (fun r => r.bcast && r.started && r.sent && r.tag = seq) with
      | some r =>
        match r.acts with
        | _ :: a :: as => d.broadcastRun (a :: as) { r with acts := a :: as, sent := false }
        | _ => (d.endBroadcast r true).goOn
      | none => d
  | .member =>
    let d := d.relayX p x
    let seq := xSeqOf x d.spn.expB
    if !d.bit SPN_POS_VALID then d
    else if x.crc ≠ xCrc x 0x40 seq then d.countSat (SPN_ERR_CRC32 p) 1
    else if seqBefore seq d.spn.expB then d
    else
      let d := { d with spn := { d.spn with expB := (seq + 1) % 2 ^ 32 } }
      let d := d.riseForCommand
      let (_, d) := match leNat (x.payload.take 1) with
        | 2 => d.localAct (.wr (payNat x 4 4) (wordsOf (cmdCount x) (x.payload.drop 8)))
        | 3 => d.localAct (.wrl (pairsOf (cmdCount x) (x.payload.drop 8)))
        | _ => ([], d)
      d.commandDone

/-- A head-bound extended frame: relayed by a member; at the head its CRC is checked with the POS it names (R332), a
duplicate is discarded, and `act` gets its SEQ and the frames missing before it. -/
def headBound (p : Port) (x : XFrame) (ftype : Nat) (exp : Member → Nat) (d : Dev) (act : Dev → Member → Nat → Nat → Dev) : Dev :=
  if !d.hears p ∨ x.ftype ≠ ftype ∨ !x.dir then d
  else match d.role with
  | .member => d.relayX p x
  | .head =>
    let d := d.consumedX p x
    match d.member x.pos with
    | none => d
    | some m =>
      let seq := xSeqOf x (exp m)
      if x.crc ≠ xCrc x x.pos seq then d.countSat (SPN_ERR_CRC32 p) 1
      else if seqBefore seq (exp m) then d
      else act d m seq ((seq + 2 ^ 32 - exp m) % 2 ^ 32)

/-- RESPONSE at the head (R334, R348): fragments are put together under the TAG of the outstanding command. -/
def responseDev (p : Port) (x : XFrame) (d : Dev) : Dev :=
  headBound p x 0xF2 (·.exp1) d (fun d m seq _ =>
    let d := d.setMember x.pos (fun m => { m with exp1 := (seq + 1) % 2 ^ 32 })
    if (d.outstanding x.pos).all (fun r => r.tag ≠ x.tag % 65536) then d.setMember x.pos (fun m => { m with frag := [] })
    else
      let body := m.frag ++ x.payload
      if x.more then d.setMember x.pos (fun m => { m with frag := body })
      else (d.setMember x.pos (fun m => { m with frag := [] })).responseTo x.pos body)

/-- Deliver one event of a member to the host (R413); an event 0xD001 tells the mode of a member that sends no guard
frames (R553, R273), and 0xE002 that a chain of ZM1210s answers in the ring (R16). -/
def Dev.deliverEvent (d : Dev) (pos : Nat) (e : EventRec) : Dev :=
  let d := d.hostEvent e
  match d.member pos with
  | some m =>
    if e.code = 0xD001 ∧ (m.last ∨ !m.guarded) then
      ((d.setMember pos (fun m => { m with
        cur := (e.items[0]?).getD m.cur, base := (e.items[1]?).getD m.base, told := true })).guardSettle).headRule
    else if e.code = 0xE002 ∧ 0 < (e.items[0]?).getD 0 then (d.setMember pos (fun m => { m with legn := true })).ringLow
    else d
  | none => d

/-- Deliver the events that were held ahead of a gap and are now in order (R357). -/
def deliverAhead : Nat → Dev → Nat → Dev
  | 0, d, _ => d
  | n + 1, d, pos =>
    match d.member pos with
    | none => d
    | some m =>
      match m.ahead.find? (fun a => a.1 = m.exp2) with
      | none => d
      | some a =>
        if 4096 ≤ d.hif.evq.length then d
        else
          let d := d.setMember pos (fun m => { m with exp2 := (m.exp2 + 1) % 2 ^ 32, ahead := m.ahead.filter (fun b => b.1 ≠ a.1) })
          deliverAhead n (d.deliverEvent pos a.2) pos

/-- EVENT at the head (R334, R357, R416): in order to the host, ahead of a gap it is held, and none is taken while the
queue is full. -/
def eventDev (p : Port) (x : XFrame) (d : Dev) : Dev :=
  headBound p x 0xF4 (·.exp2) d (fun d m seq missed =>
    let e := { EventRec.ofBytes x.payload with pos := x.pos }
    if missed = 0 then
      if 4096 ≤ d.hif.evq.length then d
      else
        let d := d.setMember x.pos (fun m => { m with exp2 := (seq + 1) % 2 ^ 32 })
        deliverAhead m.ahead.length (d.deliverEvent x.pos e) x.pos
    else if m.ahead.any (fun a => a.1 = seq) then d
    else d.setMember x.pos (fun m => { m with ahead := m.ahead ++ [(seq, e)] }))

/-- The gap before the held events of a position has been open for 200 ms (R357). -/
def eventGapTimeoutDev (pos : Nat) (d : Dev) : Dev :=
  if d.role ≠ .head ∨ !d.lathe then d
  else match d.member pos with
  | none => d
  | some m =>
    match m.ahead.map (fun a => ((a.1 + 2 ^ 32 - m.exp2) % 2 ^ 32)) with
    | [] => d
    | g :: gs =>
      let gap := gs.foldl min g
      let d := d.setMember pos (fun m => { m with exp2 := (m.exp2 + gap) % 2 ^ 32 })
      let d := d.raiseAbout pos 0x7017 0 [gap, (Config.eventCause 0x7017 1).toNat]
      deliverAhead m.ahead.length d pos

/-- The oldest kept event is 100 ms old (R357): every kept event goes out again. -/
def eventResendDev (d : Dev) : Dev :=
  if d.spn.evq.isEmpty then d else ({ d with spn := { d.spn with evSent := 0 } }).sendEvents

/-- EVACK to a member (R357, R416): the SEQ of the last event accepted in order; none while the queue is full. -/
def evackSendDev (pos : Nat) (d : Dev) : Dev :=
  if d.role ≠ .head ∨ !d.lathe ∨ 4096 ≤ d.hif.evq.length then d
  else match d.member pos with
  | none => d
  | some m =>
    if m.exp2 = 0 then d else d.sendCompact [wayPort m.way] kEvack pos (m.exp2 - 1)

/-- STREAM at the head (R334, R421, R422): the fragments of a block are put together and written as one record, which reports
every frame that was missing before one of them. -/
def streamDev (p : Port) (x : XFrame) (d : Dev) : Dev :=
  headBound p x 0xF5 (·.exp3) d (fun d m seq missed =>
    let d := d.setMember x.pos (fun m => { m with exp3 := (seq + 1) % 2 ^ 32 })
    let part := if x.tag = 0 then x.payload else m.sfrag ++ x.payload
    let missed := m.smiss + missed
    if x.more then d.setMember x.pos (fun m => { m with sfrag := part, smiss := missed })
    else
      let d := d.setMember x.pos (fun m => { m with sfrag := [], smiss := 0 })
      match (List.range 16).find? (fun s => d.sbMask s / 2 ^ x.pos % 2 = 1) with
      | some s => (d.lowRate s x.pos).streamRecord s x.pos seq missed part
      | none => d)

/-- ENUM descriptor (Table 15-6): starts an enumeration, or waits for the one that runs. -/
def enumDescDev (r : Nat) (e : Desc) (d : Dev) : Dev :=
  if !d.takes r then d
  else
    let d := d.consume r
    let x := { mkRun r 0x0D e [] with pos := 0 }
    if badOpcode 0x0D r e then d.endDesc x stBadOpcode 0
    else match badField 0x0D e with
    | some o => d.endDesc x stBadField o
    | none => spnEnumGoDev (d.addRun { x with started := true })

end Sys2Proof.Machine
end

