-- ==== Sys2Proof/Machine/Boundary.lean ====
section
/-!
DEFINITION. FAST_WINDOW_BOUNDARY (04): what the device does at the edge that closes one fast window and opens the next,
in the order in which one thing needs another: results and checks, summary, staged groups, calibration, plan, sweep, and
what the window that opens carries.
-/

namespace Sys2Proof.Machine

/-- Cells whose plausibility event is raised, in global numbers (R148). -/
def Dev.plausRaised (d : Dev) : List Nat :=
  d.banks.flatMap (fun a => (d.aux a).raised.map (globalOf a))

/-- The window closes: channels, flags and checks of the results (R85 to R87, R146, R185, R191, R236, R238, R282). A sweep
point whose last window closes here is complete before the processor channel may trip (R220). -/
def Dev.boundaryClose (d : Dev) (w : WinIn) : Dev :=
  let len := d.win.ccyc - d.win.openCcyc
  let finds := d.owd.finds
  let raised := d.plausRaised
  let bflags := d.blockFlags len
  let comp := d.compOf w
  let d := d.closeWindow w comp d.wireFlag (fun e => e.each e.banks (fun e a => e.plausClose (fun n => (comp n).getD 0) a))
  let d := match d.win.closed with
    | some c => { d with win := { d.win with closed := some { c with srcs := c.srcs ||| d.limitSources c } } }
    | none => d
  let d := d.legWindow
  let d := d.plausRequests (d.plausRaised.filter (fun n => !raised.contains n))
  let d := ((d.owdCloseCheck.owdCloseRun).balWindow w len true).sweepWindow w bflags
  (d.ppWindow.ppWires finds).xcheckWindow

/-- The summary boundary, if one falls here (R95, R556): under the settings in force, or because group 0 of CVW is about
to be accepted. -/
def Dev.boundarySummary (d : Dev) (acc0 : Bool) : Dev :=
  let sbOld := summaryBoundary d.wlen d.summM d.epoch d.mtick
  let newEpoch := toSigned 64 (d.stg (CVW_EPOCHL_EPOCH .L) + 2 ^ 32 * d.stg (CVW_EPOCHH_EPOCH .L))
  let sbNew := summaryBoundary (d.stg (CVW_WLEN .L)) (d.stg (CVW_SUMM_M .L)) newEpoch d.mtick
  if sbOld ∨ acc0 then d.closeSummary (acc0 && !sbOld) (acc0 && !sbNew) else d

/-- The staged groups whose boundary is a fast-window boundary (Table 2-3). -/
def Dev.boundaryGroups (d : Dev) : Dev :=
  let d := d.each d.banks (fun d a => (d.evalBlock (cvwBase a)).evalBlock (calBase a))
  let d := (d.each d.banks (fun d a => d.evalBlock (cmpBase a))).evalBlock owdBase
  let d := if d.tbRuns then d.evalBlock tbBase else d
  if d.sweepLive ∧ d.imp.gap then d.evalBlock impBase else d

/-- Calibration of the banks at the boundary, and the banks whose trims changed (R157, R158, R168). -/
def Dev.boundaryCal (d : Dev) : List Afe × Dev :=
  d.banks.foldl (fun acc a =>
    let (changed, e) := acc.2.calBoundary a
    (if changed then acc.1 ++ [a] else acc.1, e)) (([] : List Afe), d)

/-- What goes on in a window that has opened: quiet stages, the wiring runs, checks and probes, and the plausibility slots;
`ref` is the block of the window before it and `within` says that a switching period is in progress at its opening edge. -/
def Dev.windowOpens (d : Dev) (ref : Option Closed) (within : Bool) : Dev :=
  let d := ((d.quietOpen).owdOpenRun ref).owdOpenCheck
  let d := d.each d.banks (fun d a => d.auxWindow (d.checkViews a) a)
  ((d.owdOpenProbe d.cellBusy).sweepOpen.balCells).tailOpen within

/-- The window that opens at a boundary. -/
def Dev.boundaryOpen (d : Dev) (newcfg : Bool) (trims : List Afe) (within : Bool) : Dev :=
  let ref := d.win.closed
  let d := d.openWindow
  let d := { d with win := { d.win with newcfg := newcfg } }
  (d.each trims Dev.markTrim).windowOpens ref within

/-- The present edge lies within a switching period (R176). -/
def Dev.inPeriod (d : Dev) : Bool := !onBoundary 30 d.epoch d.mtick

/-- Where a commit has changed EPOCH from `old`, switching periods are placed anew once the one in progress has ended
(R178). -/
def Dev.newPeriods (d : Dev) (old : Int) : Dev :=
  if d.epoch = old then d else d.placePeriods (boundaryFrom 30 old d.mtick).toNat

/-- A boundary with CORE running. -/
def Dev.boundary (d : Dev) (w : WinIn) : Dev :=
  let within := d.inPeriod
  let old := d.epoch
  let d := d.boundaryClose w
  let acc0 := d.applyDue && d.passes (cvwBase .L) 0
  let d := d.boundarySummary acc0
  let acc1 := d.passes (cvwBase .L) 1
  let planB := d.planBoundary acc0
  let d := d.boundaryGroups.newPeriods old
  let d := if planB then d.evalBlock balBase else d
  let d := d.sweepNext.sweepBegin
  let (trims, d) := d.boundaryCal
  let d := if planB then d.planPeriodStart else d
  (d.boundaryOpen (acc0 || acc1) trims within).guardSettle

/-- A boundary while CORE resets (R47): the dies close the window and evaluate their groups, and so does the timebase that
goes on; no block is formed and no summary is written, and wiring runs that fall due are skipped (R241). -/
def Dev.boundaryWarm (d : Dev) (w : WinIn) : Dev :=
  let within := d.inPeriod
  let d := d.closeWindow w (fun _ => none) d.wireFlag id
  let d := { d with win := { d.win with closed := none, miss := true } }
  let acc0 := d.applyDue && d.passes (cvwBase .L) 0
  let acc1 := d.passes (cvwBase .L) 1
  let d := d.each d.banks (fun d a => ((d.evalBlock (cvwBase a)).evalBlock (calBase a)).evalBlock (cmpBase a))
  let d := (d.evalBlock owdBase).evalBlock tbBase
  let d := { d with win := { d.win with sumPart := d.win.sumPart || acc0 } }
  let d := d.openWindow
  let d := ({ d with win := { d.win with newcfg := acc0 || acc1 } }).owdOpenWarm
  (d.each d.banks (fun d a => d.auxWindow [] a)).tailOpen within

/-- The length of the interval that closes in WATCH: N, or less after a commit of CVW group 0 (R92, R180). -/
def Dev.intervalLen (d : Dev) : Nat := min d.wlen ((d.mtick : Int) - d.win.openTick).toNat

/-- A boundary in WATCH with a plan: the interval of the stage currents, the groups, the plan period and the quiet interval
(R40, R180, R182, R191, R195); an armed sweep is refused (R215). -/
def Dev.boundaryPlan (d : Dev) (w : WinIn) : Dev :=
  let within := d.inPeriod
  let old := d.epoch
  let d := d.balWindow w d.intervalLen false
  let d := { d with win := { d.win with openTick := (d.mtick : Int) } }
  let planB := d.planBoundary (d.applyDue && d.passes (cvwBase .L) 0)
  let d := d.each d.banks (fun d a => if d.bankClock a then d.evalBlock (cvwBase a) else d)
  let d := (d.evalBlock tbBase).newPeriods old
  let d := if planB then (d.evalBlock balBase).planPeriodStart else d
  (d.sweepBegin.quietOpen.seeStages).tailOpen within

/-- FAST_WINDOW_BOUNDARY (R89): the edge with this MTICK is the boundary of the window in progress, or in WATCH a boundary
that a plan counts by. -/
def fastWindowBoundaryDev (w : WinIn) (d : Dev) : Dev :=
  if d.win.opened ∧ (w.mtick : Int) = d.nextBoundary ∧ d.mtick ≤ w.mtick ∧ (d.monitoring ∨ d.pw.warm) then
    if d.monitoring then (d.advanceTo w.mtick).boundary w else (d.advanceTo w.mtick).boundaryWarm w
  else if d.tbRuns ∧ !d.win.opened ∧ d.mtick < w.mtick ∧ onBoundary d.wlen d.epoch w.mtick ∧ !d.monitoring then
    (d.advanceTo w.mtick).boundaryPlan w
  else d

/-- INTEGRATION_START (R93): at an MCLK edge the banks that are wanted and stopped start; with no window in progress one
opens there. -/
def integrationStartDev (mtick : Nat) (d : Dev) : Dev :=
  if !d.monitoring ∨ mtick < d.mtick ∨ (d.win.opened ∧ d.nextBoundary < (mtick : Int)) then d
  else
    let starts := d.banks.filter (fun a => d.convWanted a && !d.integrates a)
    if starts.isEmpty then d
    else
      let d := d.advanceTo mtick
      let was := d.win.opened
      let d := if was then d else d.openWindow
      let d := d.each starts (fun d a => d.startBank a (!was))
      if was then d.balCells else d.windowOpens none d.inPeriod

end Sys2Proof.Machine
end

