-- ==== Sys2Proof/Machine/Reset.lean ====
section
/-!
DEFINITION. Resets (02: R45 to R49) and what starts after them: the power-on reset, the CORE warm reset and its end, die
resets, the boot of a firmware image (R502, R504), the memory scrub (R292), and the end of the entry to SHIP (R64).
-/

namespace Sys2Proof.Machine

/-! ## Firmware images -/

/-- CORE verifies the image that NEXT selects and boots it, or the other, or none (R502, R504). -/
def Dev.bootImage (d : Dev) (aOk bOk : Bool) : Dev :=
  let next := d.get FW_IMG_NEXT
  let good (s : Nat) : Bool := if s = 0 then aOk else bOk
  let run (d : Dev) (s : Nat) : Dev :=
    (({ d with fw := { d.fw with dead := false } }).put FW_IMG_RUN s).put FW_SVN_RUN (if s = 0 then d.fw.svnA else d.fw.svnB)
  let d := d.put FW_SVN_MIN d.fz.svn
  let d :=
    if good next then
      let d := (run d next).put FW_IMG_FALLBK 0
      if d.fw.fresh then
        (({ d with fw := { d.fw with fresh := false } }).put FW_IMG_TRIAL 1).raise 0xC032 0 []
      else d
    else if good (1 - next) then
      let d := (run d (1 - next)).put FW_IMG_FALLBK 1
      ({ d with fw := { d.fw with fresh := false } }).raise 0xC034 0 [(Config.eventCause 0xC034 0).toNat]
    else { d with fw := { d.fw with dead := true, fresh := false } }
  match d.fw.revert with
  | some c => ({ d with fw := { d.fw with revert := none } }).raise 0xC034 0 [(Config.eventCause 0xC034 c).toNat]
  | none => d

/-- A trial ends without CONFIRM (R504): NEXT takes the previous slot, and the event is due after the reset. -/
def Dev.trialLost (d : Dev) (cause : Nat) : Dev :=
  (({ d with fw := { d.fw with revert := some cause } }).put FW_IMG_NEXT d.otherSlot).put FW_IMG_TRIAL 0

/-! ## What a loss of power breaks off -/

/-- A burn in progress has burned some of its physical fuses (log 33), and a copy to Burl has put some of its bytes (log 32). -/
def Dev.breakOff (d : Dev) : Dev :=
  let d := match d.lcs.burn with
    | some (k, _) =>
      let (n, d) := d.draw
      d.burnTo k (Config.fuseBurned n % 4)
    | none => d
  match d.cap.snap with
  | some s => (match s.slot with | some i => d.copyBroken s i 1 | none => d)
  | none => d

/-- Burl entries found in writing become incomplete (R484). -/
def Dev.findIncomplete (d : Dev) : Dev :=
  if d.build ≠ .F then d
  else d.each ((List.range 12).filter (fun i => (d.burlSlot i).state = 1)) (fun d i =>
    (d.setSlot i (fun o => { o with state := 3 })).raise 0xC003 0 [i])

/-! ## Power-on reset (R12, R45, R169, R265, R266, R296, R502) -/

/-- The content of NVM, fuses and Burl that registers show. -/
def Dev.showKept (d old : Dev) : Dev :=
  let d := d.each [0x34004, 0x34008, FW_IMG_NEXT.addr, BST_MAP_SOFTRET.addr] (fun d a => d.setWord a (old.word a))
  let d := (d.put FW_IMG_FALLBK 0).put FW_IMG_TRIAL 0
  let d := d.setWord FW_LEG_EN.addr d.nvm.leg
  let d := d.showLife.showBankFuses
  if d.build = .F then
    (((d.put RCD_STAT_NEXT (old.get RCD_STAT_NEXT)).setWord RCD_HWP.addr (old.word RCD_HWP.addr)).setWord RCD_SNO.addr
      (old.word RCD_SNO.addr)).showSlots
  else d

/-- The stored settings that an AFE die loads when it powers up, and what of them is bad. -/
def Dev.loadDie (d : Dev) (a : Afe) (badCal badBzl badSdc : Bool) : Dev :=
  let d := ((d.calLoad badCal a).bzlLoad badBzl a).clampThresholds a
  match a with
  | .L => d.sdcLoad badSdc
  | .U => d

/-- A power-on reset with its cause (R45): every register of every die returns, HEADSEL is sampled, the NVM copies load, and
an image boots. A tone that woke the part from SHIP is relayed (R73). -/
def Dev.powerOn (d : Dev) (cause : Nat) (b : BootObs) : Dev :=
  let d := d.breakOff
  let fresh := Dev.anew d.build (if b.headsel then .head else .member)
  let e := { fresh with
    out := d.out, draws := d.draws, nvm := d.nvm, burl := d.burl, fz := d.fz
    fw := { fresh.fw with fresh := d.fw.fresh, revert := d.fw.revert, svnA := d.fw.svnA, svnB := d.fw.svnB, pages := d.fw.pages } }
  let e := e.showKept d
  let e := e.each e.banks (fun e a => match a with
    | .L => e.loadDie .L b.badCalL b.badBzlL b.badSdc
    | .U => e.loadDie .U b.badCalU b.badBzlU false)
  let e := (e.each e.banks Dev.bezelPowerUp).fitCap.findIncomplete
  let e := e.bootImage b.imgAOk b.imgBOk
  let e := { e with pw := { e.pw with starting := !e.fw.dead, vstkOk := d.pw.vstkOk } }
  let e := if e.fw.dead then e else e.busClear b.iic
  let e := match d.pw.shipEntry with
    | some (.tone p) => if d.pw.off then (e.countMod SPN_TONE_RX 1).sendTone (otherPort p) else e
    | _ => e
  e.put SYS_RSTCAUSE_CAUSE cause

/-- POWER_ON_RESET and BROWN_OUT (R533). -/
def powerOnResetDev (b : BootObs) (d : Dev) : Dev := d.powerOn 1 b
def brownOutDev (b : BootObs) (d : Dev) : Dev := d.powerOn 2 b

/-! ## CORE warm reset (R45 to R47, R368, R411) -/

/-- A CORE register that a CORE warm reset keeps (Table 2-8): the CLK, TB and LCS blocks, SPN_POS, the FW image registers, and
what NVM holds of BST_MAP. -/
def keptWarm (a : Nat) : Bool :=
  decide (0x100000 ≤ a) || decide (0x8000 ≤ a ∧ a < 0x10000) || decide (0x2C000 ≤ a ∧ a < 0x30000) || decide (a = 0x14000)
    || decide (0x34000 ≤ a ∧ a < 0x34010) || decide (a = BST_MAP_SOFTRET.addr)

/-- Completions that wait for host memory are held like those of running descriptors (R411). -/
def Dev.holdComps (d : Dev) : Dev :=
  let hs := d.hif.compq.map (fun c =>
    let q := leNat (bytesAt c.2 3 1) % 16
    (⟨if q = 15 then 0 else q + 1, leNat (bytesAt c.2 0 2), 2, d.tq, tbTime d.mtick⟩ : HeldComp))
  { d with hif := { d.hif with held := d.hif.held ++ hs, compq := [] } }

/-- What CORE registers show on after a warm reset beside whole kept words: the mode until the restart decides it (R65), the
trained polarity (R45), and the PCIe link, which stays up (R411). -/
def Dev.showOn (d old : Dev) : Dev :=
  let d := ((d.put PWR_STAT_CUR (old.get PWR_STAT_CUR)).put PWR_STAT_BASE (old.get PWR_STAT_BASE)).put PWR_STAT_CALBANK
    (old.get PWR_STAT_CALBANK)
  let d := (d.put SPN_PORTN_INV (old.get SPN_PORTN_INV)).put SPN_PORTS_INV (old.get SPN_PORTS_INV)
  d.setWord HIF_LINK_SPEED.addr (old.word HIF_LINK_SPEED.addr)

/-- CORE loses its registers; `keep` says which stay and `on` what of them goes on showing. Its ports enter DOWN, which ends a
count of failed attempts (R311). -/
def Dev.coreLoses (d : Dev) (keep : Nat → Bool) (on : Dev → Dev) : Dev :=
  let d := on { d with regs := d.regs.filter (fun p => keep p.1), staged := d.staged.filter (fun p => keep p.1) }
  let d := (d.setWord FW_LEG_EN.addr d.nvm.leg).showLife.showBankFuses
  let d := d.each [Port.north, Port.south] (fun d p => (d.put (PRT_STAT_HRFAIL p) 0).put (PRT_STAT_ATT p) 0)
  let hif := { HifSt.init with
    d3hot := d.hif.d3hot, l2 := d.hif.l2, wakeLow := d.hif.wakeLow, held := d.hif.held, evq := d.hif.evq, evFullDue := d.hif.evFullDue }
  let port := { PortSt.init with silent := true }
  let d := { d with
    pw := { PowerSt.init with
      starting := false, warm := true, clkBad := d.pw.clkBad, vstkOk := d.pw.vstkOk, shipEntry := d.pw.shipEntry
      failed := d.pw.failed }
    spn := { SpnSt.init with north := port, south := port, warmDue := decide (d.role = Role.member) }
    hd := { HeadSt.init with eseq := d.hd.eseq, rebuild := decide (d.role = Role.head) && decide (d.get SPN_POS_EID ≠ 0) }
    hif := hif, cap := .init, bal := d.bal, imp := .init, bdl := .init, iic := .init, bst := .init
    fw := { d.fw with op := none, verified := false, rstDue := false }
    leg := { d.leg with vdevs := d.leg.vdevs.map (fun _ => freshVDev), lpx := none }
    saf := { d.saf with xcodes := [], xfails := 0, watchSaid := [], cycFail := [] }
    win := { d.win with closed := none, miss := d.win.miss || d.win.closed.isSome, capSrc := 0, capOrigin := 0 } }
  let d := (d.balWarm.put HIF_STAT_HELD d.hif.held.length).fitCap
  let d := (d.each d.banks Dev.plausWarm).owdLose
  d.seeStages

/-- A slot whose erasure or programming breaks off holds no valid image (R503). -/
def Dev.opBroken (d : Dev) : Dev :=
  match d.fw.op with
  | some .erase | some (.prog ..) => d.put (fwVer d.otherSlot) 0
  | _ => d

/-- A CORE warm reset starts with a cause. -/
def Dev.warmReset (d : Dev) (cause : Nat) : Dev :=
  if !d.lathe then d
  else
    let d := (d.opBroken.holdRuns 2).holdComps
    let d := match d.cap.snap with
      | some s => (match s.slot with | some i => d.copyBroken s i 1 | none => d)
      | none => d
    ((d.iicStop).coreLoses keptWarm (·.showOn d)).put SYS_RSTCAUSE_CAUSE cause

/-- The cause that SYS_RSTCAUSE reports where Table 2-10 names none: a code of the part (log 24). -/
def unnamedCause (n : Nat) : Nat := (Config.eventCause 0x0044 n).toNat % 256

/-- WATCHDOG_EXPIRY: in a trial the image goes back to the previous one (R504). -/
def watchdogExpiryDev (d : Dev) : Dev :=
  if !d.lathe then d else (if d.bit FW_IMG_TRIAL then d.trialLost 2 else d).warmReset 0x10

/-- FW_TRIAL_EXPIRY (R504). -/
def fwTrialExpiryDev (d : Dev) : Dev :=
  if d.lathe ∧ d.bit FW_IMG_TRIAL then (d.trialLost 1).warmReset (unnamedCause 2) else d

/-- FW_ACT_RESET_START (R504). -/
def fwActResetStartDev (d : Dev) : Dev := if d.lathe ∧ d.fw.rstDue then d.warmReset (unnamedCause 1) else d

/-- MEM_SCRUB (R292). -/
def memScrubDev (o : ScrubObs) (d : Dev) : Dev :=
  if !d.lathe then d
  else match o with
  | .clean => d
  | .corrected => d.raise 0xB00E 0 []
  | .uncorrectable => d.warmReset (unnamedCause 3)

/-- CALBANK shows the banks whose session is inside CALIBRATE, which the AFE dies hold. -/
def Dev.showCalBank (d : Dev) : Dev :=
  d.put PWR_STAT_CALBANK ((([Afe.L, Afe.U].filter (fun a => (d.cal a).sess.any (·.inside))).map calBit).foldl (· + ·) 0)

/-- The mode after a warm reset (R65): the budget rule with the reset values; SAFE, DEGRADED and CALIBRATE stay over it while
what holds them stands on the AFE dies, and LEGACY stays until a power-on reset (R54). -/
def Dev.modeAfterWarm (d : Dev) : Dev :=
  let t := d.targetLevel
  let d := (d.put PWR_STAT_TARGET t).showCalBank
  match d.cur with
  | .legacy => d.moveTo 11 4 2
  | .safe => d.moveTo 10 (if d.saf.fromLegacy then 4 else t) 2
  | _ =>
    if d.saf.grace.isSome ∨ d.saf.graceDue then d.moveTo 9 t 2
    else if d.get PWR_STAT_CALBANK ≠ 0 then d.moveTo 8 t 2
    else d.moveTo t t 2

/-- Bezel blocks that tripped while CORE did not run, a hard-wired latch that set then (R275), and a grace timer that expired
(R285, R289). -/
def Dev.catchUp (d : Dev) : Dev :=
  let d := match d.saf.hwlDue with
    | some n => ({ d with saf := { d.saf with hwlDue := none } }).enterSafe 6 n
    | none => d
  let d := if d.saf.graceDue then ({ d with saf := { d.saf with graceDue := false } }).graceAct true else d
  let d := match d.banks.find? (fun a => d.bezel a = bTripped) with
    | some a => if d.role = Role.member then
        (d.enterSafe (match a with | .L => 1 | .U => 2) (d.get (BZL_CAUSE_ROW a))).sendTrip else d
    | none => d
  d.guardSettle

/-- WARM_RESET_END (R65, R350, R368, R411, R464, R502). -/
def warmResetEndDev (imgAOk imgBOk : Bool) (iic : IicBusObs) (d : Dev) : Dev :=
  if !d.pw.warm ∨ d.dead .core then d
  else
    let d := ({ d with pw := { d.pw with warm := false } }).bootImage imgAOk imgBOk
    if d.fw.dead then d
    else
      let d := d.busClear iic
      let d := match d.role with
        | .member => d.put SPN_CMD_SYNCWAIT 1
        | .head =>
          let d := (d.put SPN_ENUM_EID (d.get SPN_POS_EID)).putB SPN_RING_OPEN d.hd.rebuild
          let d := { d with hd := { d.hd with links := if d.hd.rebuild then [⟨false, false⟩] else [] } }
          ((d.put HIF_STAT_READY 1).put HIF_STAT_WARM 1).emit (.msix 0)
      let d := d.modeAfterWarm
      d.setHold.servicesUp.catchUp

/-! ## Die resets (R45, R48, R93, R294) -/

/-- The registers of a die return to their reset words, and its staged copies are lost (R46). -/
def Dev.wipe (d : Dev) (lo hi : Nat) : Dev :=
  let out (a : Nat) : Bool := decide (a < lo ∨ hi ≤ a)
  { d with regs := d.regs.filter (fun p => out p.1), staged := d.staged.filter (fun p => out p.1) }

/-- The registers of a die leave no half of a pair behind. -/
def Dev.dropLatches (d : Dev) (lo hi : Nat) : Dev :=
  { d with win := { d.win with latches := d.win.latches.filter (fun l => decide (l.1 < lo ∨ hi ≤ l.1)) } }

/-- A die fails for good: nothing of it works before the next power-on reset (R294). -/
def Dev.dieFails (d : Dev) (x : Die) : Dev :=
  { d with pw := { d.pw with failed := x :: d.pw.failed.filter (fun y => decide (y ≠ x)) } }

/-- An AFE die resets: integration stops, what the die holds starts anew, the stored settings load again, and CORE writes its
copy of the eras back (R93) and keeps its counts of failures (R148). SYS_RSTCAUSE stays as it was (log 131). A die that has
failed loads nothing (R294). -/
def Dev.afeReset (d : Dev) (a : Afe) (lasting : Bool) : Dev :=
  if !d.banks.contains a ∨ d.pw.off then d
  else
    let d := if a = .L then d.setHwl d.energised 2 else d
    let d := d.stopBank a false
    let d := if d.inCal a then d.calModeEnd a else d
    let d := ((d.wipe (afeBase a) (afeBase a + 0x100000)).setCal a .init).setShunt a false
    let d := (d.setAux a { AuxSt.init with fails := (d.aux a).fails, raised := (d.aux a).raised }).setBz a .init
    let d := d.dropLatches (afeBase a) (afeBase a + 0x100000)
    let d := { d with win := { d.win with
      carry := d.win.carry.zipIdx.map (fun (c, i) => if chanBank (i + 1) = a then 0 else c) } }
    let d := match a with
      | .L => { d with
          owd := .init
          saf := { d.saf with
            grace := none, graceOf := none, graceDue := false, dark := none, back := none, tests := zerosN 4, spans := zerosN 4
            conf := zerosN 4, save := none, queued := false } }
      | .U => d
    let d := if lasting then d.dieFails (afeDie a) else (d.loadDie a false false false).bezelPowerUp a
    ((d.showEras.auxSettle a).seeGirdle).balCells.guardSettle

/-- A PHY die resets: a link at the high rate trains anew from the low rate. Where the die has failed, the link breaks there
and carries the low rate alone (R294). -/
def Dev.phyReset (d : Dev) (p : Port) (lasting : Bool) : Dev :=
  if !fits d.build (phyDie p) ∨ d.dead (phyDie p) ∨ d.pw.off then d
  else
    let d := (d.wipe (prtBase p) (prtBase p + 0x80000)).setPort p { d.port p with lineCheck := false }
    let d := d.when lasting (·.dieFails (phyDie p))
    if d.pstate p < pTrain ∨ !d.lathe then d
    else if lasting then (d.enterDown p 2).copiesLost
    else (((d.flushPort p).enterLr p false).tryTrain p)

/-- A BPD die resets: a sweep that excites its bank ends, its ledger is zero and its cells take FAULT (R196, R199, R220,
R294). -/
def Dev.bpdReset (d : Dev) (a : Afe) (lasting : Bool) : Dev :=
  if !d.hasBpd a ∨ d.pw.off then d
  else
    let d := (d.sweepBankAbort a 6).wipe (bpsBase a) (bpsBase a + 0x80000)
    let d := (d.dropLatches (bpsBase a) (bpsBase a + 0x80000)).when lasting (·.dieFails (bpdOf a))
    (d.ledgerReset a).balDieLost a

/-- The BURL die resets: its content stays, and a copy in progress fails (R487); all else goes on without it (R294). -/
def Dev.burlReset (d : Dev) (lasting : Bool) : Dev :=
  if !d.burlWorks ∨ d.pw.off then d
  else
    let copying := match d.cap.snap with
      | some s => s.slot.isSome
      | none => false
    let d := if copying then burlErrorDev (Config.eventCause 0xC004 0).toNat true d else d
    ((d.wipe 0x800000 0x900000).put RCD_STAT_NEXT (d.get RCD_STAT_NEXT) |>.setWord RCD_HWP.addr (d.word RCD_HWP.addr)
      |>.setWord RCD_SNO.addr (d.word RCD_SNO.addr)).showSlots.when lasting (·.dieFails .burl)

/-- The CORE die resets: no register of it is kept; time and integration stop with its clocks. One that has failed does not
run again, and what other dies guard by themselves goes on (R294). -/
def Dev.coreReset (d : Dev) (lasting : Bool) : Dev :=
  if d.pw.off ∨ d.dead .core then d
  else
    let up := d.guardUp
    let d := d.when lasting (·.dieFails .core)
    let d := if d.lathe then ((d.opBroken.holdRuns 2).holdComps).iicStop else d
    let d := d.breakOff.stopWindows
    let old := d
    let d := { d with tb := .init, mtick := 0, lcs := ⟨none, none⟩, pw := { d.pw with clkBad := 0 } }
    let d := d.coreLoses (fun a => decide (0x100000 ≤ a)) id
    let d := if !up && d.guardUp then d.guardRise else d
    let d := { d with hd := { d.hd with rebuild := false } }
    let d := d.each [0x34004, 0x34008, FW_IMG_NEXT.addr, BST_MAP_SOFTRET.addr] (fun d a => d.setWord a (old.word a))
    (d.put FW_IMG_FALLBK 0).put FW_IMG_TRIAL 0

/-- AFE-L of a member fails: its buck stops and VDRV collapses, so that nothing of the device works (R294). -/
def Dev.collapse (d : Dev) : Dev :=
  if d.pw.off then d
  else
    let d := d.breakOff.stopWindows
    let d := { d with pw := { PowerSt.init with starting := false, off := true, vstkOk := d.pw.vstkOk, failed := [.afeL] } }
    ((d.put PWR_STAT_CUR 0).put PWR_STAT_BASE 0).portsOff.seeGirdle

/-- DIE_RESET: a die loses its supply or its in-package link, `lasting` where it does not come back (R294). -/
def dieResetDev (x : Die) (lasting : Bool) (d : Dev) : Dev :=
  match x with
  | .core => d.coreReset lasting
  | .afeL => if lasting ∧ d.role = .member then d.collapse else d.afeReset .L lasting
  | .afeU => d.afeReset .U lasting
  | .phyN => d.phyReset .north lasting
  | .phyS => d.phyReset .south lasting
  | .bpdL => d.bpdReset .L lasting
  | .bpdU => d.bpdReset .U lasting
  | .burl => d.burlReset lasting

/-- A write of SYS_DRST takes effect (Table 2-9): the dies first, CORE last. -/
def Dev.drst (d : Dev) (bits : Nat) : Dev :=
  let on (i : Nat) : Bool := decide (bits / 2 ^ i % 2 = 1)
  let d := (d.when (on 0) (·.phyReset .north false)).when (on 1) (·.phyReset .south false)
  let d := (d.when (on 2) (·.bpdReset .L false)).when (on 3) (·.bpdReset .U false)
  (d.when (on 4) (·.burlReset false)).when (on 7) (·.warmReset 0x11)

/-- What a reset ordered by a frame finds where its command does not say it (log 35); the HEADSEL strap is as it was. -/
def Dev.bootFound (d : Dev) (n : Nat) : BootObs :=
  let o (k : Nat) : Bool := decide (Config.observed n k % 2 = 1)
  ⟨decide (d.role = Role.head), o 9, o 10, o 11, o 12, o 13, o 14, o 15, ⟨o 0, o 1, o 2⟩⟩

/-- A Spindle-ordered reset (Table 2-8): level 1 as a CORE warm reset, level 2 as a power-on reset. -/
def Dev.orderedReset (d : Dev) (level : Nat) : Dev :=
  if level = 2 then
    let (n, d) := d.draw
    d.powerOn 0x21 (d.bootFound n)
  else d.warmReset 0x20

/-! ## SHIP (R64, R534) -/

/-- SHIP_ENTRY_DONE: VDRV collapses; a wake that came during the entry starts the part at once. -/
def shipEntryDoneDev (b : BootObs) (d : Dev) : Dev :=
  match d.pw.shipEntry with
  | none => d
  | some w =>
    if d.pw.off then d
    else
      let d := d.moveTo 0 0 0xF
      let d := { d with pw := { PowerSt.init with
        starting := false, off := true, shipEntry := if w = .quiet then none else some w, vstkOk := d.pw.vstkOk } }
      if w = .quiet then d else d.powerOn 1 b

end Sys2Proof.Machine
end

