-- ==== Sys2Proof/Machine/Lift.lean ====
section
/-!
DEFINITION. How the effect of a command on the device becomes its effect on the machine: what register accesses have
asked for is done at the end of the command, and what no command changes stays: the build, the role outside a start from
power-on (R12), and burned fuses (R498).
-/

namespace Sys2Proof.Machine

/-- Carry out what a register access asked of the device. -/
def Dev.takeAsk (d : Dev) : Ask → Dev
  | .drst bits => d.drst bits
  | .spindle level => d.orderedReset level
  | .enumGo => spnEnumGoDev d
  | .hif en speed width => hifEnableDev en speed width d
  | .ring r true => ringEnableDev r d
  | .ring r false => ringDisableDev r d
  | .binding => d.seeBinding

/-- Carry out at most `n` requests, the oldest first; none is left over. -/
def Dev.takeAsks : Nat → Dev → Dev
  | 0, d => { d with asks := [] }
  | n + 1, d =>
    match d.asks with
    | [] => d
    | q :: qs => Dev.takeAsks n (({ d with asks := qs }).takeAsk q)

/-- A list of counts after a command: none of them falls. -/
def keepCounts (old new : List Nat) : List Nat := old.zipIdx.map (fun (x, i) => max x ((new[i]?).getD 0))

/-- Fuses after a command: a burned fuse stays burned. -/
def Fuses.kept (old new : Fuses) : Fuses :=
  { chain := keepCounts old.chain new.chain, svn := max old.svn new.svn, banks := keepCounts old.banks new.banks
    spares := keepCounts old.spares new.spares }

/-- The device after a command whose effect is `f`. -/
def Dev.after (f : Dev → Dev) (d : Dev) : Dev :=
  let r := f d
  let e := Dev.takeAsks (r.asks.length + 64) r
  { e with build := d.build, fz := d.fz.kept e.fz }

/-- The machine after a command: the queue stays as it is, and so does the role. -/
def State.lift (s : State) (f : Dev → Dev) : Host.Outcome State Fault Refusal :=
  .next { s with dev := { s.dev.after f with role := s.dev.role } }

/-- The machine after a command that may start the part from power-on, where HEADSEL is sampled (R12). -/
def State.liftBoot (s : State) (f : Dev → Dev) : Host.Outcome State Fault Refusal :=
  .next { s with dev := s.dev.after f }

end Sys2Proof.Machine
end

