-- ==== Sys2Proof/Machine/ExecAux.lean ====
section
/-!
DEFINITION. Meanings: the auxiliary converter (05).
-/

namespace Sys2Proof.Machine

/-- AUX_GO (R132): A write of AUX_CTRL.GO is a trigger event for every source and restarts the loop passes after DONE. -/
def execAuxGo (d : Afe) (s : State) : Host.Outcome State Fault Refusal :=
  s.lift (Dev.actWrite (AUX_CTRL_GO d) (auxGoDev d))

/-- AUX_ENABLE (R135): A write of AUX_CTRL.EN starts the sequencer, or stops it after the entry in progress. -/
def execAuxEnable (d : Afe) (en : Bool) (s : State) : Host.Outcome State Fault Refusal :=
  s.lift (Dev.actWrite (AUX_CTRL_EN d) (auxEnableDev d en))

/-- AUX_TRIGGER_EVENT (R132): A TIMER, WINDOW, EXTPWM or BSW trigger event occurs; a waiting sequencer schedules its pass, and otherwise the event is counted as missed. -/
def execAuxTriggerEvent (d : Afe) (src : AuxSrc) (s : State) : Host.Outcome State Fault Refusal :=
  s.lift (auxTriggerEventDev d src)

/-- AUX_PASS_START (R132): TDLY after a trigger event, a pass starts, pending AUX groups are evaluated and entry 0 begins. -/
def execAuxPassStart (d : Afe) (s : State) : Host.Outcome State Fault Refusal :=
  s.lift (fun e => match (e.aux d).phase with | .delay => (e.evalBlock (auxBase d)).auxBeginPass d | _ => e)

/-- AUX_DLY_EXPIRY (R130): An entry's DLY ends and the SAR starts its settle and conversions. -/
def execAuxDlyExpiry (d : Afe) (s : State) (mtick : Nat := 0) : Host.Outcome State Fault Refusal :=
  s.lift (auxDlyExpiryDev d mtick)

/-- AUX_ENTRY_COMPLETE (R130): An entry's conversions end, its result is written and its band is checked. -/
def execAuxEntryComplete (d : Afe) (convs : List SarConv) (s : State) (mtick : Nat := 0) : Host.Outcome State Fault Refusal :=
  s.lift (fun e => match (e.aux d).phase with
    | .conv k =>
      let was := e.bit (AUX_RES_OUT d k)
      (((auxEntryCompleteDev d mtick convs e).ppBand d k was).xcheckEntry d k).guardSettle
    | _ => e)

/-- AUX_URG_GO (R140): A host urgent request starts one conversion when the SAR is idle, and is otherwise dropped. `diag` is a diagnostics request of the same cycle, which goes first (R141). -/
def execAuxUrgGo (d : Afe) (sel input : Nat) (s : State) (diag : Option (Nat × Nat) := none) : Host.Outcome State Fault Refusal :=
  s.lift (Dev.actWrite (AUX_URG_GO d) (auxUrgGoDev d sel input diag))

/-- URGENT_RESULT (R140): An urgent conversion ends and its result goes to AUX_URES with DONE. -/
def execUrgentResult (d : Afe) (c : SarConv) (s : State) (mtick : Nat := 0) : Host.Outcome State Fault Refusal :=
  s.lift (urgentResultDev d mtick c)

/-- PLAUSIBILITY_SLOT (R142): A plausibility slot starts on the switching-period grid and converts the window's cells. -/
def execPlausibilitySlot (d : Afe) (convs : List SarConv) (s : State) : Host.Outcome State Fault Refusal :=
  s.lift (plausibilitySlotDev d convs)

end Sys2Proof.Machine
end

