-- ==== Sys2Proof/Machine/ExecBalance.lean ====
section
/-!
DEFINITION. Meanings: balancing (07).
-/

namespace Sys2Proof.Machine

/-- BAL_START (R181): A write of BAL_CTRL.START makes a plan pending until the next plan-period start. -/
def execBalStart (s : State) : Host.Outcome State Fault Refusal :=
  s.lift (Dev.actWrite BAL_CTRL_START balStartDev)

/-- BAL_STOP (R186): A write of BAL_CTRL.STOP ends an active plan, or withdraws a pending one. -/
def execBalStop (s : State) : Host.Outcome State Fault Refusal :=
  s.lift (Dev.actWrite BAL_CTRL_STOP balStopDev)

/-- SWITCHING_PERIOD_END (R184): A 30-cycle switching period ends; charge targets, stops and pauses that are due at a period end take effect. -/
def execSwitchingPeriodEnd (b : Afe) (meters : List StageMeter) (s : State) (mtick : Nat := 0) (busmV : Nat := 0) : Host.Outcome State Fault Refusal :=
  s.lift (switchingPeriodEndDev b mtick busmV meters)

/-- BPD_METER_INTERVAL (R189): A 100 ms dissipation metering interval of a BPD die ends, and derating or a sweep abort is applied. -/
def execBpdMeterInterval (b : Afe) (milliwatts : Nat) (tj : Int) (s : State) : Host.Outcome State Fault Refusal :=
  s.lift (fun d => if d.hasBpd b then (d.meterInterval b milliwatts tj).when (decide (3000 < milliwatts)) (·.sweepBankAbort b 7) else d)

/-- BPD_OVERTEMP (R190): A BPD junction reaches 140 °C and the die stops all its stages. -/
def execBpdOvertemp (b : Afe) (tj : Int) (s : State) : Host.Outcome State Fault Refusal :=
  s.lift (fun d => if d.hasBpd b then (d.overtemp b tj).sweepBankAbort b 6 else d)

/-- BPD_TEMP_RECOVERED (R190): The BPD junction falls below 130 °C and the stages restart at derated setpoints. -/
def execBpdTempRecovered (b : Afe) (tj : Int) (s : State) : Host.Outcome State Fault Refusal :=
  s.lift (fun d => if d.hasBpd b then bpdTempRecoveredDev b tj d else d)

end Sys2Proof.Machine
end

