-- ==== Sys2Proof/Machine/ExecBeadline.lean ====
section
/-!
DEFINITION. Meanings: Beadline (16).
-/

namespace Sys2Proof.Machine

/-- BDL_SEARCH (R438): A write of BDL_CTRL.SRCH starts a search of a line. -/
def execBdlSearch (lines : BitVec 2) (s : State) : Host.Outcome State Fault Refusal :=
  s.lift (Dev.actWrite BDL_CTRL_SRCH (bdlSearchDev lines))

/-- AUTO_SEARCH (R430): With AUTOS set, a search starts when the device is in MONITOR or above and the roster is invalid. -/
def execAutoSearch (l : Nat) (s : State) : Host.Outcome State Fault Refusal :=
  s.lift (autoSearchDev l)

/-- BDL_FRAME_END (R437): A Beadline frame ends and is judged; the search, schedule or host transaction moves on. -/
def execBdlFrameEnd (l : Nat) (rep : BdlReply) (s : State) : Host.Outcome State Fault Refusal :=
  s.lift (fun d => if l < 2 then bdlFrameEndDev l rep d else d)

/-- BDL_WAIT_END (R442): A strong pull-up, restart or probe power-up wait ends, and the next frame of the sequence starts. -/
def execBdlWaitEnd (l : Nat) (s : State) : Host.Outcome State Fault Refusal :=
  s.lift (fun d => if l < 2 then bdlWaitEndDev l d else d)

/-- BDL_SCHEDULE_FRAME (R440): SOFS after a scheduled boundary, a schedule frame starts, or is skipped if the line is busy. -/
def execBdlScheduleFrame (l : Nat) (s : State) : Host.Outcome State Fault Refusal :=
  s.lift (fun d =>
    if d.schedRuns l ∧ d.bit (BDL_SCH_EN l) then
      if (d.bline l).act = .idle then (d.evalGroup bdlBase l).schedStart l else d.schedSkip l
    else d)

/-- BDL_XCTL_GO (R441): A write of BDL_XCTL.GO starts a host transaction, or it waits or is refused. -/
def execBdlXctlGo (v : Word) (s : State) : Host.Outcome State Fault Refusal :=
  s.lift (Dev.actWrite BDL_XCTL_GO (bdlXctlGoDev v))

/-- BDL_SPU_FAULT (R442): The strong pull-up cuts off; the frame is abandoned and SPUERR is set. -/
def execBdlSpuFault (l : Nat) (s : State) : Host.Outcome State Fault Refusal :=
  s.lift (fun d => if l < 2 then bdlSpuFaultDev l d else d)

/-- BDL_SHORT (R445): The line stays low for 1 ms without the controller driving it; frames stop and SHORT is set. -/
def execBdlShort (l : Nat) (s : State) : Host.Outcome State Fault Refusal :=
  s.lift (fun d => if l < 2 then bdlShortDev l d else d)

/-- BDL_LINE_ENABLE (R445): A write of BDL_CFG.LEN disables or enables a line, and the restart invalidates the roster. -/
def execBdlLineEnable (l : Nat) (en : Bool) (s : State) : Host.Outcome State Fault Refusal :=
  s.lift (fun d => if l < 2 then Dev.actWrite BDL_CFG_LEN (bdlLineEnableDev l en) d else d)

end Sys2Proof.Machine
end

