-- ==== Sys2Proof/Machine/ExecCal.lean ====
section
/-!
DEFINITION. Meanings: calibration (06).
-/

namespace Sys2Proof.Machine

/-- CAL_BEGIN (R157): Step BEGIN opens a system-calibration session, which enters CALIBRATE at the next boundary, or is refused. -/
def execCalBegin (d : Afe) (s : State) : Host.Outcome State Fault Refusal :=
  s.lift (Dev.actWrite (CAL_CTRL_STEP d) (calBeginDev d))

/-- CAL_POINT_LO (R161): Step POINT_LO starts the measurement of the lower point. -/
def execCalPointLo (d : Afe) (s : State) : Host.Outcome State Fault Refusal :=
  s.lift (Dev.actWrite (CAL_CTRL_STEP d) (calPointLoDev d))

/-- CAL_POINT_HI (R161): Step POINT_HI starts the measurement of the upper point. -/
def execCalPointHi (d : Afe) (s : State) : Host.Outcome State Fault Refusal :=
  s.lift (Dev.actWrite (CAL_CTRL_STEP d) (calPointHiDev d))

/-- CAL_APPLY (R165): Step APPLY computes and checks new trims and then converts VCAL through them. -/
def execCalApply (d : Afe) (s : State) : Host.Outcome State Fault Refusal :=
  s.lift (Dev.actWrite (CAL_CTRL_STEP d) (calApplyDev d))

/-- CAL_REFRESH (R166): Step REFRESH measures the internal zero and reference and recomputes the trims. -/
def execCalRefresh (d : Afe) (s : State) : Host.Outcome State Fault Refusal :=
  s.lift (Dev.actWrite (CAL_CTRL_STEP d) (calRefreshDev d))

/-- CAL_FACTORY (R170): Step FACTORY restores the factory trims at the next boundary and stores them in NVM. -/
def execCalFactory (d : Afe) (s : State) : Host.Outcome State Fault Refusal :=
  s.lift (Dev.actWrite (CAL_CTRL_STEP d) (calFactoryDev d))

/-- CAL_ABORT (R155): Step ABORT ends the open session and keeps the old trims. -/
def execCalAbort (d : Afe) (s : State) : Host.Outcome State Fault Refusal :=
  s.lift (Dev.actWrite (CAL_CTRL_STEP d) (calAbortDev d))

/-- CAL_STEP_UNLISTED (R155): A step code that Table 6-2 does not list is ignored and sets SEQERR. -/
def execCalStepUnlisted (d : Afe) (code : Nat) (s : State) : Host.Outcome State Fault Refusal :=
  s.lift (Dev.actWrite (CAL_CTRL_STEP d) (calStepUnlistedDev d code))

/-- CAL_POINT_TIMEOUT (R162): A point is not stable within TOUT, and the session ends with ABORT_TIMEOUT. -/
def execCalPointTimeout (d : Afe) (s : State) : Host.Outcome State Fault Refusal :=
  s.lift (calPointTimeoutDev d)

/-- CAL_SESSION_TIMEOUT (R163): No step arrives within STOUT, and the session ends with ABORT_SESSION. -/
def execCalSessionTimeout (d : Afe) (s : State) : Host.Outcome State Fault Refusal :=
  s.lift (calSessionTimeoutDev d)

/-- CAL_NVM_STORE_DONE (R168): The NVM store of a trim set ends; RESULT and STATE are written and CAL_DONE is raised. -/
def execCalNvmStoreDone (d : Afe) (ok : Bool) (s : State) : Host.Outcome State Fault Refusal :=
  s.lift (calNvmStoreDoneDev d ok)

end Sys2Proof.Machine
end

