-- ==== Sys2Proof/Machine/ExecCommand.lean ====
section
/-!
DEFINITION. Meanings: extended frames and enumeration (13).
-/

namespace Sys2Proof.Machine

/-- COMMAND_RD (R348): A member handles a COMMAND with OP RD under the command counter and replies with the values. -/
def execCommandRd (p : Port) (x : XFrame) (s : State) : Host.Outcome State Fault Refusal :=
  s.lift (commandRdDev p x)

/-- COMMAND_WR (R348): A member handles a COMMAND with OP WR, writing consecutive registers under the command counter. -/
def execCommandWr (p : Port) (x : XFrame) (s : State) : Host.Outcome State Fault Refusal :=
  s.lift (commandWrDev p x)

/-- COMMAND_WRL (R348): A member handles a COMMAND with OP WRL, writing address and value pairs. -/
def execCommandWrl (p : Port) (x : XFrame) (s : State) : Host.Outcome State Fault Refusal :=
  s.lift (commandWrlDev p x)

/-- COMMAND_RDM (R488): A member handles a COMMAND with OP RDM, reading bytes of a memory space. -/
def execCommandRdm (p : Port) (x : XFrame) (s : State) : Host.Outcome State Fault Refusal :=
  s.lift (commandRdmDev p x)

/-- COMMAND_BAD_OP (R348): A member receives an unknown OP, replies BAD_OP and sets LAST. -/
def execCommandBadOp (p : Port) (x : XFrame) (s : State) : Host.Outcome State Fault Refusal :=
  s.lift (commandBadOpDev p x)

/-- BCOMMAND (R345): A member executes the first copy of a broadcast command and forwards every copy; the head completes when the copy returns. -/
def execBcommand (p : Port) (x : XFrame) (s : State) : Host.Outcome State Fault Refusal :=
  s.lift (bcommandDev p x)

/-- RESPONSE (R349): The head receives a response and writes the command's completion, or resynchronises the member. -/
def execResponse (p : Port) (x : XFrame) (s : State) : Host.Outcome State Fault Refusal :=
  s.lift (responseDev p x)

/-- RESPONSE_TIMEOUT (R349): No response arrives in time; the head retries by the current way, or completes NO_RESPONSE. -/
def execResponseTimeout (pos : Nat) (s : State) : Host.Outcome State Fault Refusal :=
  s.lift (responseTimeoutDev pos)

/-- EVENT (R357): The head receives an EVENT frame and passes it to the host in SEQ order, or holds it behind a gap. -/
def execEvent (p : Port) (x : XFrame) (s : State) : Host.Outcome State Fault Refusal :=
  s.lift (eventDev p x)

/-- EVENT_RESEND (R357): The oldest kept event reaches 100 ms, and the member resends every kept event. -/
def execEventResend (s : State) : Host.Outcome State Fault Refusal :=
  s.lift eventResendDev

/-- EVACK_SEND (R357): At least every 10 ms while events arrive, the head sends EVACK. -/
def execEvackSend (pos : Nat) (s : State) : Host.Outcome State Fault Refusal :=
  s.lift (evackSendDev pos)

/-- EVENT_GAP_TIMEOUT (R357): A gap stays open for 200 ms; the head passes the held events on and raises EVENTS_LOST. -/
def execEventGapTimeout (pos : Nat) (s : State) : Host.Outcome State Fault Refusal :=
  s.lift (eventGapTimeoutDev pos)

/-- STREAM (R421): The head receives a window-block frame and writes a stream record, or drops it. -/
def execStream (p : Port) (x : XFrame) (s : State) : Host.Outcome State Fault Refusal :=
  s.lift (streamDev p x)

/-- SPN_ENUM_GO (R358): A write of SPN_ENUM.GO starts an enumeration, aborting member commands and sending a wake tone. -/
def execSpnEnumGo (s : State) : Host.Outcome State Fault Refusal :=
  s.lift (Dev.actWrite SPN_ENUM_GO (·.ask .enumGo))

/-- ENUM_START (R358): 30 ms after the tone began, the head sends the first ENUM out of its north port. -/
def execEnumStart (s : State) : Host.Outcome State Fault Refusal :=
  s.lift enumStartDev

/-- ENUM_SWEEP_TIMEOUT (R360): No answer arrives for 10 ms, and the sweep ends. -/
def execEnumSweepTimeout (s : State) : Host.Outcome State Fault Refusal :=
  s.lift enumSweepTimeoutDev

/-- RING_CHECK_WAIT_EXPIRY (R367): 1 s passes without a link change, and the head sends a CHECK sweep. -/
def execRingCheckWaitExpiry (s : State) : Host.Outcome State Fault Refusal :=
  s.lift ringCheckWaitExpiryDev

/-- UNNUMBERED_NOTICE_SEND (R362): Every 1 s an unnumbered device sends NOTICE UNNUMBERED on both ports. -/
def execUnnumberedNoticeSend (s : State) : Host.Outcome State Fault Refusal :=
  s.lift unnumberedNoticeSendDev

end Sys2Proof.Machine
end

