-- ==== Sys2Proof/Machine/ExecComparator.lean ====
section
/-!
DEFINITION. Meanings: comparators and Bezel (10).
-/

namespace Sys2Proof.Machine

/-- COMPARATORS_VALID (R249): The comparators become valid after power-up or a rise, and their filter counts start. -/
def execComparatorsValid (s : State) : Host.Outcome State Fault Refusal :=
  s.lift comparatorsValidDev

/-- COMPARATOR_INPUT_CROSSING (R247): A comparator input crosses its trip or release threshold and starts or restarts its filter count. -/
def execComparatorInputCrossing (c : CmpId) (side : CrossSide) (s : State) : Host.Outcome State Fault Refusal :=
  s.lift (comparatorInputCrossingDev c side)

/-- COMPARATOR_TRIP (R247): The filter time expires with the input beyond its trip threshold, and the latch trips. -/
def execComparatorTrip (c : CmpId) (s : State) : Host.Outcome State Fault Refusal :=
  s.lift (comparatorTripDev c)

/-- COMPARATOR_RELEASE (R247): The filter time expires with the input beyond its release threshold, and the latch releases. -/
def execComparatorRelease (c : CmpId) (s : State) : Host.Outcome State Fault Refusal :=
  s.lift (comparatorReleaseDev c)

/-- BEZEL_START_HELD (R552): A block is still in START 1 s after it could have armed, and the event is raised. -/
def execBezelStartHeld (d : Afe) (s : State) : Host.Outcome State Fault Refusal :=
  s.lift (bezelStartHeldDev d)

/-- BEZEL_ROW_SUP (R255): VAFE stays below 4.5 V for 10 µs, and row SUP asserts. -/
def execBezelRowSup (d : Afe) (s : State) : Host.Outcome State Fault Refusal :=
  s.lift (bezelRowSupDev d)

/-- BEZEL_ROW_REF (R255): VREFB deviates more than 2 % from VREFA, and row REF asserts. -/
def execBezelRowRef (d : Afe) (s : State) : Host.Outcome State Fault Refusal :=
  s.lift (bezelRowRefDev d)

/-- BEZEL_ROW_CLK (R255): The GRD clock stops or is off frequency, and row CLK asserts. -/
def execBezelRowClk (d : Afe) (s : State) : Host.Outcome State Fault Refusal :=
  s.lift (bezelRowClkDev d)

/-- XB_CROSSING_LOST (R259): The Bezel-U isolation channel is lost, and row XB asserts within 10 µs. -/
def execXbCrossingLost (s : State) : Host.Outcome State Fault Refusal :=
  s.lift xbCrossingLostDev

/-- BEZEL_LATCH_RESET (R257): A write of BZL_CTRL.LRST re-arms a TRIPPED block if no row is asserted, and is otherwise refused. -/
def execBezelLatchReset (d : Afe) (s : State) : Host.Outcome State Fault Refusal :=
  s.lift (Dev.actWrite (BZL_CTRL_LRST d) (bezelLatchResetDev d))

/-- BEZEL_TTRIP (R258): A write of BZL_CTRL.TTRIP asserts row TTRIP until the next accepted latch reset. -/
def execBezelTtrip (d : Afe) (s : State) : Host.Outcome State Fault Refusal :=
  s.lift (Dev.actWrite (BZL_CTRL_TTRIP d) (bezelTtripDev d))

/-- BZL_SAVE (R265): A write of BZL_NV.SAVE stores BZL group 0 in NVM, or queues one further save. -/
def execBzlSave (d : Afe) (s : State) : Host.Outcome State Fault Refusal :=
  s.lift (Dev.actWrite (BZL_NV_SAVE d) (bzlSaveDev d))

/-- BZL_SAVE_DONE (R265): An NVM save of BZL group 0 ends, ERR is updated and any queued save starts. -/
def execBzlSaveDone (d : Afe) (ok : Bool) (s : State) : Host.Outcome State Fault Refusal :=
  s.lift (bzlSaveDoneDev d ok)

/-- SELFTEST_SLOT (R261): The slot interval expires, and the spare comparator takes over and tests the next input. -/
def execSelftestSlot (d : Afe) (s : State) : Host.Outcome State Fault Refusal :=
  s.lift (selftestSlotDev d)

/-- SELFTEST_SLOT_END (R262): A slot ends; a failed check repeats the slot, and a confirmed failure asserts STF and stops the rotation. -/
def execSelftestSlotEnd (d : Afe) (failedStep : Option Nat) (s : State) : Host.Outcome State Fault Refusal :=
  s.lift (selftestSlotEndDev d failedStep)

end Sys2Proof.Machine
end

