-- ==== Sys2Proof/Machine/ExecCrc.lean ====
section
/-!
DEFINITION. Meanings: the CRC unit (18).
-/

namespace Sys2Proof.Machine

/-- CRC_DATA (R471): A write of CRC_DATA feeds 1, 2 or 4 bytes to a SOFT context, or sets DERR. -/
def execCrcData (c : Nat) (v : Word) (s : State) : Host.Outcome State Fault Refusal :=
  s.lift (fun d => if c < 4 then Dev.actWrite (CRC_DATA c) (crcDataDev c v) d else d)

/-- CRC_INIT (R473): A write of CRC_CTX.INIT loads the initial value and clears CRC_CNT. -/
def execCrcInit (c : Nat) (s : State) : Host.Outcome State Fault Refusal :=
  s.lift (fun d => if c < 4 then Dev.actWrite (CRC_CTX_INIT c) (crcInitDev c) d else d)

/-- CRC_CTX_WRITE (R473): A write of CRC_CTX sets the context, and a change of POLY performs INIT. -/
def execCrcCtxWrite (c : Nat) (v : Word) (s : State) : Host.Outcome State Fault Refusal :=
  s.lift (fun d => if c < 4 then Dev.actWrite (CRC_CTX_POLY c) (crcCtxWriteDev c v) d else d)

/-- CRC_VAL_WRITE (R474): A write of CRC_VAL replaces the running value. -/
def execCrcValWrite (c : Nat) (v : Word) (s : State) : Host.Outcome State Fault Refusal :=
  s.lift (fun d => if c < 4 then Dev.actWrite (CRC_VAL c) (crcValWriteDev c v) d else d)

end Sys2Proof.Machine
end

