-- ==== Sys2Proof/Machine/ExecFrame.lean ====
section
/-!
DEFINITION. Meanings: compact frames and TIMING frames (13, 14).
-/

namespace Sys2Proof.Machine

/-- TRIP (R276): The head accepts a TRIP frame, clears EN, writes TTRIP and enters SAFE; relays forward it. -/
def execTrip (p : Port) (w : Word64) (s : State) : Host.Outcome State Fault Refusal :=
  s.lift (tripDev p w)

/-- GUARD (R354): The head accepts a guard frame and updates the member's mode, latch and channel faults. -/
def execGuard (p : Port) (w : Word64) (s : State) : Host.Outcome State Fault Refusal :=
  s.lift (guardDev p w)

/-- CAPREQ (R355): The head accepts a capture request and sends CAPTURE on both ports. -/
def execCapreq (p : Port) (w : Word64) (s : State) : Host.Outcome State Fault Refusal :=
  s.lift (capreqDev p w)

/-- CAPTURE (R117): A member receives a capture frame and fires the CHAIN source at the next boundary. -/
def execCapture (p : Port) (w : Word64) (s : State) : Host.Outcome State Fault Refusal :=
  s.lift (captureDev p w)

/-- CREDIT (R338): A CREDIT frame returns cumulative units to the sender. -/
def execCredit (p : Port) (w : Word64) (s : State) : Host.Outcome State Fault Refusal :=
  s.lift (creditDev p w)

/-- CREDIT_INIT (R338): A CREDIT_INIT frame sets the units the partner holds. -/
def execCreditInit (p : Port) (w : Word64) (s : State) : Host.Outcome State Fault Refusal :=
  s.lift (creditInitDev p w)

/-- CREDIT_SEND (R338): Freed units or an elapsed interval cause a port to send CREDIT. -/
def execCreditSend (p : Port) (s : State) : Host.Outcome State Fault Refusal :=
  s.lift (creditSendDev p)

/-- EVACK (R357): A member receives EVACK and releases the kept events that it covers. -/
def execEvack (p : Port) (w : Word64) (s : State) : Host.Outcome State Fault Refusal :=
  s.lift (evackDev p w)

/-- RESET_FRAME (R356): A member accepts a reset command frame, forwards it and starts a Spindle-ordered reset. -/
def execResetFrame (p : Port) (w : Word64) (s : State) : Host.Outcome State Fault Refusal :=
  s.lift (resetFrameDev p w)

/-- ENUMERATION_FRAME (R359): A device receives ENUM: it binds HID, takes a position, answers and forwards, or handles a CHECK or another head's frame. -/
def execEnumerationFrame (p : Port) (w : Word64) (s : State) : Host.Outcome State Fault Refusal :=
  s.lift (enumerationFrameDev p w)

/-- ROUTE (R342): A member receives ROUTE, sets its way and high-rate requests, and resends its kept events. -/
def execRoute (p : Port) (w : Word64) (s : State) : Host.Outcome State Fault Refusal :=
  s.lift (fun d => (routeDev p w d).hrSettle.seeTimePort)

/-- SYNC (R350): A member receives SYNC, adopts LAST, clears SYNCWAIT and sends SYNCED. -/
def execSync (p : Port) (w : Word64) (s : State) : Host.Outcome State Fault Refusal :=
  s.lift (syncDev p w)

/-- NOTICE_LINKDOWN (R366): The head receives LINKDOWN, opens the ring, marks lost positions and reroutes. -/
def execNoticeLinkdown (p : Port) (w : Word64) (s : State) : Host.Outcome State Fault Refusal :=
  s.lift (noticeLinkdownDev p w)

/-- NOTICE_LINKUP (R367): The head receives LINKUP and starts the 1 s wait before a CHECK sweep. -/
def execNoticeLinkup (p : Port) (w : Word64) (s : State) : Host.Outcome State Fault Refusal :=
  s.lift (noticeLinkupDev p w)

/-- NOTICE_WARMRESET (R350): The head receives WARMRESET, aborts the outstanding command and resynchronises the member. -/
def execNoticeWarmreset (p : Port) (w : Word64) (s : State) : Host.Outcome State Fault Refusal :=
  s.lift (noticeWarmresetDev p w)

/-- NOTICE_UNNUMBERED (R362): The head hears an unnumbered device and records its UID. -/
def execNoticeUnnumbered (p : Port) (w : Word64) (s : State) : Host.Outcome State Fault Refusal :=
  s.lift (noticeUnnumberedDev p w)

/-- NOTICE_SYNCED (R350): The head receives SYNCED from a member that has been resynchronised. -/
def execNoticeSynced (p : Port) (w : Word64) (s : State) : Host.Outcome State Fault Refusal :=
  s.lift (noticeSyncedDev p w)

/-- ENUMANS (R360): The head receives an enumeration answer, which may end a sweep. -/
def execEnumans (p : Port) (w : Word64) (s : State) : Host.Outcome State Fault Refusal :=
  s.lift (enumansDev p w)

/-- TIMING_STAMP (R383): A downstream device timestamps the receipt of a STAMP and sends REQ. -/
def execTimingStamp (p : Port) (w : Word64) (rx tx : Nat) (s : State) : Host.Outcome State Fault Refusal :=
  s.lift (timingStampDev p w rx tx)

/-- TIMING_REQ (R383): An upstream device timestamps the receipt of a REQ and returns RESP. -/
def execTimingReq (p : Port) (w : Word64) (rx : Nat) (s : State) : Host.Outcome State Fault Refusal :=
  s.lift (timingReqDev p w rx)

/-- TIMING_RESP (R383): A downstream device computes delay and θ, steers its phase and updates RLOCK. -/
def execTimingResp (p : Port) (w : Word64) (s : State) : Host.Outcome State Fault Refusal :=
  s.lift (fun d => (timingRespDev p w d).stepStages)

/-- TIMING_INFO (R551): A member takes seconds, quality and step announcements from an INFO subtype. -/
def execTimingInfo (p : Port) (w : Word64) (edge : Nat) (s : State) : Host.Outcome State Fault Refusal :=
  s.lift (fun d => (timingInfoDev p w edge d).stepStages)

/-- TIMING_EXCHANGE_START (R383): A timing-mark block at the high rate, or 10 ms at the low rate, starts a delay exchange. -/
def execTimingExchangeStart (p : Port) (tx : Nat) (s : State) : Host.Outcome State Fault Refusal :=
  s.lift (timingExchangeStartDev p tx)

end Sys2Proof.Machine
end

