-- ==== Sys2Proof/Machine/ExecGuard.lean ====
section
/-!
DEFINITION. Meanings: the safety channels (11).
-/

namespace Sys2Proof.Machine

/-- KEEP_ALIVE_LOSS (R274): The SDC keep-alive stops for 1 ms; the low-side switches turn off and EN clears. -/
def execKeepAliveLoss (s : State) : Host.Outcome State Fault Refusal :=
  s.lift keepAliveLossDev

/-- CARRIER_LOSS (R279): The Girdle carrier is absent at an input for the loss time; at the head HWL sets and the outputs de-energise. -/
def execCarrierLoss (s : State) : Host.Outcome State Fault Refusal :=
  s.lift carrierLossDev

/-- CARRIER_PRESENT (R279): The Girdle carrier returns at an input, which lets paused plans resume at the next plan period. -/
def execCarrierPresent (s : State) (time : Nat := 0) : Host.Outcome State Fault Refusal :=
  s.lift (carrierPresentDev time)

/-- SDC_ENABLE (R276): A host write of SDC_CTRL.EN sets or clears the low-side enable of the head. -/
def execSdcEnable (en : Bool) (s : State) : Host.Outcome State Fault Refusal :=
  s.lift (Dev.actWrite (SDC_CTRL_EN .L) (sdcEnableDev en))

/-- SDC_LATCH_RESET (R290): A write of SDC_CTRL.LRST clears HWL if its conditions hold, and is otherwise refused. -/
def execSdcLatchReset (s : State) (time : Nat := 0) : Host.Outcome State Fault Refusal :=
  s.lift (Dev.actWrite (SDC_CTRL_LRST .L) (sdcLatchResetDev time))

/-- PROCESSOR_LATCH_RESET (R290): A write of FW_PPCTRL.LRST clears the processor latch if the cells are inside the limits, and is otherwise refused. -/
def execProcessorLatchReset (s : State) (time : Nat := 0) : Host.Outcome State Fault Refusal :=
  s.lift (Dev.actWrite FW_PPCTRL_LRST (processorLatchResetDev time))

/-- DARK_PULSE_START (R277): At the scheduled instant the head turns one SDC switch off for DPW µs. -/
def execDarkPulseStart (sw : SdcSw) (s : State) : Host.Outcome State Fault Refusal :=
  s.lift (darkPulseStartDev sw)

/-- DARK_PULSE_END (R277): DPW ends; the readback is judged for stuck-on and the switch turns on again. -/
def execDarkPulseEnd (sw : SdcSw) (offReached : Bool) (s : State) : Host.Outcome State Fault Refusal :=
  s.lift (darkPulseEndDev sw offReached)

/-- DARK_PULSE_RETURN_TIMEOUT (R277): 50 µs after the turn-on, the line is judged for return to its on level. -/
def execDarkPulseReturnTimeout (sw : SdcSw) (onReached : Bool) (s : State) : Host.Outcome State Fault Refusal :=
  s.lift (darkPulseReturnTimeoutDev sw onReached)

/-- LINE_TEST_SPAN (R278): A 10 ms span of open-line or off-level condition ends as a failed test, and two in a row confirm the fault. -/
def execLineTestSpan (sw : SdcSw) (openLine : Bool) (s : State) (joined : Bool := false) : Host.Outcome State Fault Refusal :=
  s.lift (lineTestSpanDev sw openLine joined)

/-- SDC_FAULT_CLEAR (R278): Every test of a faulted SDC channel has passed for 10 s, and the channel fault clears. -/
def execSdcFaultClear (c : Chan) (s : State) : Host.Outcome State Fault Refusal :=
  s.lift (sdcFaultClearDev c)

/-- GAP_SLOT (R280): At its slot MTICK, a device blanks its Girdle output for 8 µs. -/
def execGapSlot (s : State) : Host.Outcome State Fault Refusal :=
  s.lift gapSlotDev

/-- GAP_CHECK (R280): 200 µs after a slot, the head judges whether the expected gap arrived. -/
def execGapCheck (pos : Nat) (arrived : Bool) (s : State) : Host.Outcome State Fault Refusal :=
  s.lift (gapCheckDev pos arrived)

/-- CHANNEL_FAULT_CLEAR (R284): A cause reports healthy for 10 windows or 1 s, its channel fault clears and DEGRADED may end. -/
def execChannelFaultClear (c : Chan) (s : State) : Host.Outcome State Fault Refusal :=
  s.lift (channelFaultClearDev c)

/-- GRACE_TIMER_EXPIRY (R285): The grace timer expires; TTRIP is asserted, the latch sets and the device enters SAFE. -/
def execGraceTimerExpiry (s : State) : Host.Outcome State Fault Refusal :=
  s.lift graceTimerExpiryDev

/-- SDC_GRACE_WRITE (R288): A write of SDC_GRACE.TG shortens the grace time, including a running timer, or is ignored if larger. -/
def execSdcGraceWrite (v : Word) (s : State) : Host.Outcome State Fault Refusal :=
  s.lift (Dev.actWrite (SDC_GRACE_TG .L) (sdcGraceWriteDev v))

/-- SDC_SAVE (R296): A write of SDC_NV.SAVE stores SDC and GRD group 0 in NVM, or queues one further save. -/
def execSdcSave (s : State) : Host.Outcome State Fault Refusal :=
  s.lift (Dev.actWrite (SDC_NV_SAVE .L) sdcSaveDev)

/-- SDC_SAVE_DONE (R296): An NVM save of SDC and GRD group 0 ends, and any queued save starts. -/
def execSdcSaveDone (ok : Bool) (s : State) : Host.Outcome State Fault Refusal :=
  s.lift (sdcSaveDoneDev ok)

/-- GUARD_FRAME_SEND (R286): Every GPER ms a member that runs the MONITOR services sends a guard frame. -/
def execGuardFrameSend (s : State) : Host.Outcome State Fault Refusal :=
  s.lift guardFrameSendDev

/-- GUARD_LOSS (R286): No guard frame arrives from a member for 3 × GPER + 10 ms, and the head records a processor-channel fault. -/
def execGuardLoss (pos : Nat) (s : State) : Host.Outcome State Fault Refusal :=
  s.lift (guardLossDev pos)

/-- MEM_SCRUB (R292): Lathe scrubs its data and code every 200 ms; a corrected error raises an event, and an uncorrectable one starts a warm reset. -/
def execMemScrub (o : ScrubObs) (s : State) : Host.Outcome State Fault Refusal :=
  s.lift (memScrubDev o)

/-- TRIP_REPEAT (R353): Every GPER ms while a trip holds, the member sends TRIP again on both ports. -/
def execTripRepeat (s : State) : Host.Outcome State Fault Refusal :=
  s.lift tripRepeatDev

end Sys2Proof.Machine
end

