-- ==== Sys2Proof/Machine/ExecHost.lean ====
section
/-!
DEFINITION. Meanings: the host interface (15).
-/

namespace Sys2Proof.Machine

/-- PCIE_RESET (R410): PERST#, a hot reset, a link-down or an FLR clears the ring enables, unbinds the streams and holds completions. -/
def execPcieReset (k : PcieResetKind) (s : State) : Host.Outcome State Fault Refusal :=
  s.lift (pcieResetDev k)

/-- HIF_ENABLE (R397): A write of HIF_CTRL.EN lets the rings run, or stops them. -/
def execHifEnable (en : Bool) (speed width : Nat) (s : State) : Host.Outcome State Fault Refusal :=
  s.lift (Dev.actWrite HIF_CTRL_EN (hifEnableDev en speed width))

/-- RING_ENABLE (R396): A write of RCFG.EN = 1 enables a ring after its checks, or refuses it; held completions are written first. -/
def execRingEnable (r : Nat) (v : Word) (s : State) : Host.Outcome State Fault Refusal :=
  s.lift (fun d => if r < 34 then registerWriteDev (HIF_RCFG_EN r).addr (v ||| 0x80000000#32) d else d)

/-- RING_DISABLE (R397): A write of RCFG.EN = 0 disables a ring, or is ignored for a completion ring still in use. -/
def execRingDisable (r : Nat) (s : State) : Host.Outcome State Fault Refusal :=
  s.lift (fun d => if r < 34 then registerWriteDev (HIF_RCFG_EN r).addr (d.word (HIF_RCFG_EN r).addr &&& 0x7FFFFFFF#32) d else d)

/-- PRODUCER_DOORBELL (R398): A doorbell write gives a command ring's new PIDX, or stops the ring if the value is out of range. -/
def execProducerDoorbell (r : Nat) (v : Word) (s : State) : Host.Outcome State Fault Refusal :=
  s.lift (producerDoorbellDev r v)

/-- CONSUMER_DOORBELL (R398): A doorbell write gives a completion, event or stream ring's new CIDX, or stops the ring if the value is out of range. -/
def execConsumerDoorbell (r : Nat) (v : Word) (s : State) : Host.Outcome State Fault Refusal :=
  s.lift (consumerDoorbellDev r v)

/-- EVENT_QUEUE_DRAIN (R416): Room in the event ring lets queued events be written. -/
def execEventQueueDrain (s : State) : Host.Outcome State Fault Refusal :=
  s.lift eventQueueDrainDev

/-- HELD_COMPLETION_DRAIN (R412): Freed slots let further held completions be written into an enabled completion ring. -/
def execHeldCompletionDrain (q : Nat) (s : State) : Host.Outcome State Fault Refusal :=
  s.lift (heldCompletionDrainDev q)

/-- NOP (R403): Descriptor NOP completes OK. -/
def execNop (r : Nat) (d : Desc) (s : State) : Host.Outcome State Fault Refusal :=
  s.lift (descDev 0 r d (actsNop d))

/-- RD (R403): Descriptor RD reads registers at a position. -/
def execRd (r : Nat) (d : Desc) (s : State) : Host.Outcome State Fault Refusal :=
  s.lift (descDev 1 r d (actsRd d))

/-- WR (R403): Descriptor WR writes registers at a position or by broadcast. -/
def execWr (r : Nat) (d : Desc) (s : State) : Host.Outcome State Fault Refusal :=
  s.lift (descDev 2 r d (actsWr d))

/-- WRL (R403): Descriptor WRL writes address and value pairs. -/
def execWrl (r : Nat) (d : Desc) (s : State) : Host.Outcome State Fault Refusal :=
  s.lift (descDev 3 r d (actsWrl d))

/-- RDM (R403): Descriptor RDM reads a memory space into a host buffer. -/
def execRdm (r : Nat) (d : Desc) (s : State) : Host.Outcome State Fault Refusal :=
  s.lift (descDev 4 r d (actsRdm d))

/-- COMMIT (R403): Descriptor COMMIT writes BLOCK_COMMIT and optionally waits for the evaluation. -/
def execCommit (r : Nat) (d : Desc) (s : State) : Host.Outcome State Fault Refusal :=
  s.lift (descDev 5 r d (actsCommit d))

/-- COMMIT_WAIT_POLL (R403): Every 1 ms of a waiting descriptor, BLOCK_CSTAT is read until PEND clears or the wait runs out. -/
def execCommitWaitPoll (r cid : Nat) (expired : Bool) (s : State) : Host.Outcome State Fault Refusal :=
  s.lift (commitWaitPollDev r cid expired)

/-- MODEREQ (R403): Descriptor MODEREQ writes PWR_REQ.ACT and returns PWR_STAT. -/
def execModereq (r : Nat) (d : Desc) (s : State) : Host.Outcome State Fault Refusal :=
  s.lift (descDev 6 r d (actsModereq d))

/-- BUDGET (R427): Descriptor BUDGET writes PWR_BUDGET of one target, or of every member by broadcast and then the head. -/
def execBudget (r : Nat) (d : Desc) (s : State) : Host.Outcome State Fault Refusal :=
  s.lift (descDev 7 r d (actsBudget d))

/-- PLAN (R403): Descriptor PLAN writes the plan image, arms the groups, waits and optionally starts the plan. -/
def execPlan (r : Nat) (d : Desc) (s : State) : Host.Outcome State Fault Refusal :=
  s.lift (descDev 8 r d (actsPlan d))

/-- SWEEP (R403): Descriptor SWEEP writes the sweep image, arms the groups and optionally arms the sweep. -/
def execSweep (r : Nat) (d : Desc) (s : State) : Host.Outcome State Fault Refusal :=
  s.lift (descDev 9 r d (actsSweep d))

/-- CALSTEP (R403): Descriptor CALSTEP writes CAL_CTRL.STEP and returns CAL_STAT. -/
def execCalstep (r : Nat) (d : Desc) (s : State) : Host.Outcome State Fault Refusal :=
  s.lift (descDev 10 r d (actsCalstep d))

/-- BIND (R418): Descriptor BIND checks the load and binds positions to a stream ring, or refuses. -/
def execBind (r : Nat) (d : Desc) (s : State) : Host.Outcome State Fault Refusal :=
  s.lift (bindDev r d)

/-- BIND_TIMEOUT (R418): A bound member does not report STREAM within 200 ms, and BIND completes NO_RESPONSE. -/
def execBindTimeout (cid : Nat) (s : State) : Host.Outcome State Fault Refusal :=
  s.lift (bindTimeoutDev cid)

/-- UNBIND (R420): Descriptor UNBIND removes every position from a stream ring. -/
def execUnbind (r : Nat) (d : Desc) (s : State) : Host.Outcome State Fault Refusal :=
  s.lift (unbindDev r d)

/-- ENUM (R403): Descriptor ENUM writes SPN_ENUM.GO and completes on ENUM_DONE. -/
def execEnum (r : Nat) (d : Desc) (s : State) : Host.Outcome State Fault Refusal :=
  s.lift (enumDescDev r d)

/-- INTERRUPT_COALESCE_TIMER (R423): CTIME passes since the oldest entry not yet signalled, and the ring's MSI-X vector is signalled. -/
def execInterruptCoalesceTimer (r : Nat) (s : State) : Host.Outcome State Fault Refusal :=
  s.lift (interruptCoalesceTimerDev r)

/-- DMA_ERROR (R424): A device DMA fails or times out; the ring stops and the affected descriptor completes HOST_DMA_ERROR. -/
def execDmaError (r cid : Nat) (addr : Nat) (s : State) : Host.Outcome State Fault Refusal :=
  s.lift (dmaErrorDev r cid addr)

end Sys2Proof.Machine
end

