-- ==== Sys2Proof/Machine/ExecIic.lean ====
section
/-!
DEFINITION. Meanings: the I²C port (17).
-/

namespace Sys2Proof.Machine

/-- IIC_GO (R455): A write of IIC_CTRL.GO starts a controller transfer, or is refused. -/
def execIicGo (s : State) : Host.Outcome State Fault Refusal :=
  s.lift (Dev.actWrite IIC_CTRL_GO (fun d => (iicGoDev d).iicMoveDue))

/-- IIC_CLRSTK (R464): A write of IIC_CTRL.CLRSTK clears STUCK and runs a bus clear. -/
def execIicClrstk (o : IicBusObs) (s : State) : Host.Outcome State Fault Refusal :=
  s.lift (Dev.actWrite IIC_CTRL_CLRSTK (fun d => (iicClrstkDev o d).iicMoveDue))

/-- IIC_CEN_WRITE (R464): The first write of CEN = 1 after a reset runs a bus clear. -/
def execIicCenWrite (o : IicBusObs) (s : State) : Host.Outcome State Fault Refusal :=
  s.lift (Dev.actWrite IIC_CFG_CEN (fun d => (iicCenWriteDev o d).iicMoveDue))

/-- IIC_BUS_IDLE (R454): SCL and SDA stay high for TIDLE, and the bus is taken as free. -/
def execIicBusIdle (s : State) : Host.Outcome State Fault Refusal :=
  s.lift (fun d => (iicBusIdleDev d).iicMoveDue)

/-- IIC_TRANSFER_END (R455): A controller transfer ends with STOP and its status. -/
def execIicTransferEnd (e : IicEnd) (s : State) : Host.Outcome State Fault Refusal :=
  s.lift (fun d => (iicTransferEndDev e d).iicMoveDue)

/-- ARBITRATION_LOST (R457): The controller senses 0 where it sent 1, or sees a foreign START or STOP, releases the bus and may become a target. -/
def execArbitrationLost (bit : Nat) (read : List Byte) (a : IicAddressed) (s : State) : Host.Outcome State Fault Refusal :=
  s.lift (fun d => (arbitrationLostDev bit read a d).iicMoveDue)

/-- IIC_RETRY (R458): TBUF after the next STOP, a transfer that lost arbitration restarts, or ends ARBLOST when the retries are spent. -/
def execIicRetry (s : State) : Host.Outcome State Fault Refusal :=
  s.lift (fun d => (iicRetryDev d).iicMoveDue)

/-- IIC_STRETCH_TIMEOUT (R456): SCL is held low for CSTO; the transfer ends STRETCH_TO and a bus clear runs. -/
def execIicStretchTimeout (acked : Nat) (read : List Byte) (o : IicBusObs) (s : State) : Host.Outcome State Fault Refusal :=
  s.lift (fun d => (iicStretchTimeoutDev acked read o d).iicMoveDue)

/-- IIC_TARGET_RX (R461): A controller's write to the mailbox address ends, and RXLEN and RXNEW are set. -/
def execIicTargetRx (bytes : List Byte) (s : State) : Host.Outcome State Fault Refusal :=
  s.lift (fun d => (iicTargetRxDev bytes d).iicMoveDue)

/-- IIC_TARGET_READ (R461): A controller reads the mailbox, and TXRD is set at its end. -/
def execIicTargetRead (n : Nat) (s : State) : Host.Outcome State Fault Refusal :=
  s.lift (fun d => (iicTargetReadDev n d).iicMoveDue)

/-- IIC_TODA_WRITE (R462): A write to TODA is handed to the timebase if it is 12 bytes long, and is otherwise discarded. -/
def execIicTodaWrite (bytes : List Byte) (msSinceEdge : Nat) (s : State) : Host.Outcome State Fault Refusal :=
  s.lift (fun d => (iicTodaWriteDev bytes msSinceEdge d).iicMoveDue)

/-- IIC_TARGET_TIMEOUT (R463): The target holds SDA low for TTO without an SCL edge, releases it and abandons the transfer. -/
def execIicTargetTimeout (addr : Nat) (s : State) : Host.Outcome State Fault Refusal :=
  s.lift (fun d => (iicTargetTimeoutDev addr d).iicMoveDue)

end Sys2Proof.Machine
end

