-- ==== Sys2Proof/Machine/ExecLegacy.lean ====
section
/-!
DEFINITION. Meanings: legacy mode (20).
-/

namespace Sys2Proof.Machine

/-- SETADDR (R513): A legacy SETADDR gives the first unaddressed virtual device its address, and northward relaying starts once all have one. -/
def execSetaddr (p : Port) (w : BitVec 48) (s : State) : Host.Outcome State Fault Refusal :=
  s.lift (setaddrDev p w)

/-- LEGACY_WR (R517): A legacy WR writes a register of a virtual device and increments CC. -/
def execLegacyWr (p : Port) (w : BitVec 48) (s : State) : Host.Outcome State Fault Refusal :=
  s.lift (legacyWrDev p w)

/-- LEGACY_RD (R517): A legacy RD reads a register of a virtual device and increments CC. -/
def execLegacyRd (p : Port) (w : BitVec 48) (s : State) : Host.Outcome State Fault Refusal :=
  s.lift (legacyRdDev p w)

/-- OVTH_UVTH_WRITE (R518): A legacy write of OVTH or UVTH stages threshold codes for the virtual device's cells. -/
def execOvthUvthWrite (p : Port) (w : BitVec 48) (s : State) : Host.Outcome State Fault Refusal :=
  s.lift (ovthUvthWriteDev p w)

/-- DISCH (R519): A legacy write of DISCH sets discharge bits as a plan, arms BAL group 1 and starts the plan. -/
def execDisch (p : Port) (w : BitVec 48) (s : State) : Host.Outcome State Fault Refusal :=
  s.lift (dischDev p w)

/-- CLEAR (R517): A legacy write of 0x5AFE to CLEAR writes the Bezel and processor latch resets. -/
def execClear (p : Port) (w : BitVec 48) (s : State) : Host.Outcome State Fault Refusal :=
  s.lift (clearDev p w)

/-- CONVERT (R516): A legacy CONVERT latches results from the next window and arms staged thresholds. -/
def execConvert (p : Port) (w : BitVec 48) (s : State) : Host.Outcome State Fault Refusal :=
  s.lift (convertDev p w)

/-- LEGACY_RESET (R514): A legacy broadcast RESET clears addresses, CC and discharge bits and stops relaying. -/
def execLegacyReset (p : Port) (w : BitVec 48) (s : State) : Host.Outcome State Fault Refusal :=
  s.lift (legacyResetDev p w)

/-- LEGACY_IDLE_SEND (R512): After 100 ms of silence on its south port, a LEGACY device sends an IDLE frame. -/
def execLegacyIdleSend (s : State) : Host.Outcome State Fault Refusal :=
  s.lift legacyIdleSendDev

/-- LEG_DTO (R519): No frame names a virtual device for DTO seconds, and its discharge bits clear. -/
def execLegDto (v : Nat) (s : State) : Host.Outcome State Fault Refusal :=
  s.lift (legDtoDev v)

/-- LEG_CHAIN (R521): A port enters LR with LEG = 1, and the bridge resets and numbers the legacy chain beyond it. -/
def execLegChain (p : Port) (answers : Nat) (s : State) : Host.Outcome State Fault Refusal :=
  s.lift (fun d => (legChainDev p answers d).ringLow.seeTimePort)

/-- FW_LPXC_GO (R522): A write of FW_LPXC.GO sends one legacy command out of the bridge port, or is refused. -/
def execFwLpxcGo (s : State) : Host.Outcome State Fault Refusal :=
  s.lift (Dev.actWrite FW_LPXC_GO fwLpxcGoDev)

/-- LEGACY_RESPONSE (R522): The bridge receives a legacy response and records it in FW_LPXR. -/
def execLegacyResponse (w : BitVec 48) (s : State) : Host.Outcome State Fault Refusal :=
  s.lift (legacyResponseDev w)

/-- LPX_TIMEOUT (R522): No legacy response arrives within 5 ms, and ERR is set. -/
def execLpxTimeout (s : State) : Host.Outcome State Fault Refusal :=
  s.lift lpxTimeoutDev

end Sys2Proof.Machine
end

