-- ==== Sys2Proof/Machine/ExecLifecycle.lean ====
section
/-!
DEFINITION. Meanings: recorder, self-test, life-cycle and firmware (19).
-/

namespace Sys2Proof.Machine

/-- RCD_PROT (R485): A write of RCD_PROT.PROT protects a snapshot slot. -/
def execRcdProt (mask : BitVec 12) (s : State) : Host.Outcome State Fault Refusal :=
  s.lift (Dev.actWrite RCD_PROT_PROT (rcdProtDev mask))

/-- RCD_UNPROT (R485): A write of RCD_PROT.UNPROT clears a slot's protection. -/
def execRcdUnprot (mask : BitVec 12) (s : State) : Host.Outcome State Fault Refusal :=
  s.lift (Dev.actWrite RCD_PROT_UNPROT (rcdUnprotDev mask))

/-- RCD_ERASE_SLOT (R485): A write of RCD_ERASE.SLOT empties an unprotected slot. -/
def execRcdEraseSlot (mask : BitVec 12) (s : State) : Host.Outcome State Fault Refusal :=
  s.lift (Dev.actWrite RCD_ERASE_SLOT (rcdEraseSlotDev mask))

/-- RCD_ERASE_HIST (R489): A write of RCD_ERASE.HIST erases the history log. -/
def execRcdEraseHist (s : State) : Host.Outcome State Fault Refusal :=
  s.lift (Dev.actWrite RCD_ERASE_HIST rcdEraseHistDev)

/-- BIST_BACKGROUND (R492): Every PER minutes Lathe starts a march C− test of the next bank. -/
def execBistBackground (s : State) : Host.Outcome State Fault Refusal :=
  s.lift bistBackgroundDev

/-- BIST_BANK_DONE (R491): A bank test and its restore end; a failure retires the bank or records the result. -/
def execBistBankDone (o : BistObs) (s : State) : Host.Outcome State Fault Refusal :=
  s.lift (bistBankDoneDev o)

/-- BST_GO (R495): A write of BST_CTRL.GO starts a host test of BANKS, or is refused. -/
def execBstGo (pllLocked vcoreOk : Bool) (s : State) : Host.Outcome State Fault Refusal :=
  s.lift (Dev.actWrite BST_CTRL_GO (bstGoDev pllLocked vcoreOk))

/-- BST_ABORT (R495): A write of BST_CTRL.ABORT stops the host test with ABORT_HOST. -/
def execBstAbort (s : State) : Host.Outcome State Fault Refusal :=
  s.lift (Dev.actWrite BST_CTRL_ABORT bstAbortDev)

/-- VCORE_OUT_OF_WINDOW (R495): VCORE leaves its window during a host test, and the test stops with ABORT_VOLT. -/
def execVcoreOutOfWindow (s : State) : Host.Outcome State Fault Refusal :=
  s.lift vcoreOutOfWindowDev

/-- BST_REPAIR (R496): A write of BST_CTRL.REPAIR burns fuses that map failing rows to spare rows. -/
def execBstRepair (s : State) : Host.Outcome State Fault Refusal :=
  s.lift (Dev.actWrite BST_CTRL_REPAIR bstRepairDev)

/-- BST_RETIRE (R496): A write of BST_CTRL.RETIRE fuse-retires BANKS, or is refused with LIMIT. -/
def execBstRetire (s : State) : Host.Outcome State Fault Refusal :=
  s.lift (Dev.actWrite BST_CTRL_RETIRE bstRetireDev)

/-- LCS_REQ (R499): A write of LCS_REQ.TARGET requests a life-cycle transition, opening an authentication window where one is needed. -/
def execLcsReq (target : Nat) (s : State) : Host.Outcome State Fault Refusal :=
  s.lift (Dev.actWrite LCS_REQ_TARGET (lcsReqDev target))

/-- LCS_RESP (R500): A write of LCS_RESP[15] submits the signature, which is checked before the transition proceeds. -/
def execLcsResp (v : Word) (sigOk : Bool) (s : State) : Host.Outcome State Fault Refusal :=
  s.lift (Dev.actWrite (LCS_RESP 15) (lcsRespDev v sigOk))

/-- AUTH_TIMEOUT (R500): The 60 s authentication window expires, and RESULT is AUTH_TIMEOUT. -/
def execAuthTimeout (s : State) : Host.Outcome State Fault Refusal :=
  s.lift authTimeoutDev

/-- FUSE_BURN_DONE (R498): The burn of a logical fuse ends, the state changes and LCS_CHANGED is raised. -/
def execFuseBurnDone (ok : Bool) (s : State) : Host.Outcome State Fault Refusal :=
  s.lift (fuseBurnDoneDev ok)

/-- FW_ERASE (R503): A write of FW_UPDCTL.ERASE erases the slot that is not running. -/
def execFwErase (s : State) : Host.Outcome State Fault Refusal :=
  s.lift (Dev.actWrite FW_UPDCTL_ERASE fwEraseDev)

/-- FW_PROG (R503): A write of FW_UPDCTL.PROG programs one page from FW_UPDBUF. -/
def execFwProg (s : State) : Host.Outcome State Fault Refusal :=
  s.lift (Dev.actWrite FW_UPDCTL_PROG fwProgDev)

/-- FW_VERIFY (R503): A write of FW_UPDCTL.VERIFY checks the slot that is not running. -/
def execFwVerify (s : State) : Host.Outcome State Fault Refusal :=
  s.lift (Dev.actWrite FW_UPDCTL_VERIFY fwVerifyDev)

/-- FW_OPERATION_DONE (R503): An erase, program or verify completes and UPDSTAT is written. -/
def execFwOperationDone (o : FwObs) (s : State) : Host.Outcome State Fault Refusal :=
  s.lift (fwOperationDoneDev o)

/-- FW_ACT (R504): A write of FW_UPDCTL.ACT selects the verified slot and, with RST, schedules a warm reset. -/
def execFwAct (rst : Bool) (s : State) : Host.Outcome State Fault Refusal :=
  s.lift (Dev.actWrite FW_UPDCTL_ACT (fwActDev rst))

/-- FW_ACT_RESET_START (R504): 10 ms after the response to ACT with RST, a CORE warm reset starts. -/
def execFwActResetStart (s : State) : Host.Outcome State Fault Refusal :=
  s.lift fwActResetStartDev

/-- FW_CONFIRM (R504): A write of FW_UPDCTL.CONFIRM ends the trial and raises MIN by fuse. -/
def execFwConfirm (s : State) : Host.Outcome State Fault Refusal :=
  s.lift (Dev.actWrite FW_UPDCTL_CONFIRM fwConfirmDev)

/-- FW_TRIAL_EXPIRY (R504): TTRIAL passes with TRIAL set; NEXT reverts and a warm reset starts. -/
def execFwTrialExpiry (s : State) : Host.Outcome State Fault Refusal :=
  s.lift fwTrialExpiryDev

/-- FW_LEG_SAVE (R506): A write of FW_LEG.SAVE stores EN, DTO and ISET in NVM. -/
def execFwLegSave (s : State) : Host.Outcome State Fault Refusal :=
  s.lift (Dev.actWrite FW_LEG_SAVE fwLegSaveDev)

end Sys2Proof.Machine
end

