-- ==== Sys2Proof/Machine/ExecLink.lean ====
section
/-!
DEFINITION. Meanings: the Spindle link (12).
-/

namespace Sys2Proof.Machine

/-- LINK_WORD (R308): A valid link word is received, which drives the port state, training, PARKED, ONEWAY and MISW. -/
def execLinkWord (p : Port) (w : BitVec 16) (s : State) (inv : Bool := false) : Host.Outcome State Fault Refusal :=
  s.lift (fun d => (linkWordDev p w inv d).seeTimePort)

/-- LINK_WORD_SEND (R304): A port sends a link word at the interval that its state requires. -/
def execLinkWordSend (p : Port) (s : State) : Host.Outcome State Fault Refusal :=
  s.lift (fun d => (linkWordSendDev p d).seeTimePort)

/-- PREAMBLE_TIMEOUT (R309): No valid preamble arrives for 3 ms or 300 ms, and the port in LR enters DOWN. -/
def execPreambleTimeout (p : Port) (s : State) : Host.Outcome State Fault Refusal :=
  s.lift (fun d => (preambleTimeoutDev p d).copiesLost.seeTimePort)

/-- LEGACY_FRAME_TIMEOUT (R308): A port with LEG = 1 receives no frame for 300 ms and enters DOWN. -/
def execLegacyFrameTimeout (p : Port) (s : State) : Host.Outcome State Fault Refusal :=
  s.lift (fun d => ((legacyFrameTimeoutDev p d).bridgeLost p).copiesLost.seeTimePort)

/-- DOWN_SILENCE_END (R313): The 100 µs silence after entry to DOWN ends, and the port begins sending link words. -/
def execDownSilenceEnd (p : Port) (s : State) : Host.Outcome State Fault Refusal :=
  s.lift (downSilenceEndDev p)

/-- TRAINING_DONE (R310): A training attempt completes and both ends enter HR. -/
def execTrainingDone (p : Port) (preset eyeh eyev : Nat) (rxinv : Bool) (s : State) : Host.Outcome State Fault Refusal :=
  s.lift (fun d => (trainingDoneDev p preset eyeh eyev rxinv d).seeTimePort)

/-- TRAINING_FAIL (R311): A training step overruns or errs; the port returns to LR, and after three failures it sets HRFAIL. -/
def execTrainingFail (p : Port) (eyeh eyev : Nat) (s : State) : Host.Outcome State Fault Refusal :=
  s.lift (fun d => (trainingFailDev p eyeh eyev d).seeTimePort)

/-- HR_RETRY_EXPIRY (R311): 60 s after HRFAIL, the port may attempt training again. -/
def execHrRetryExpiry (p : Port) (s : State) : Host.Outcome State Fault Refusal :=
  s.lift (fun d => (hrRetryExpiryDev p d).seeTimePort)

/-- SYNC_HEADER_ERRORS (R312): 16 of 64 sync headers are invalid, and the HR port enters RETRAIN with its credits frozen. -/
def execSyncHeaderErrors (p : Port) (n : Nat) (s : State) : Host.Outcome State Fault Refusal :=
  s.lift (fun d => (syncHeaderErrorsDev p n d).seeTimePort)

/-- BLOCK_LOCK_REGAINED (R312): Block lock returns within 2 ms and the port re-enters HR. -/
def execBlockLockRegained (p : Port) (s : State) : Host.Outcome State Fault Refusal :=
  s.lift (fun d => (blockLockRegainedDev p d).seeTimePort)

/-- RETRAIN_TIMEOUT (R312): After 2 ms in RETRAIN, the port starts a full attempt or enters DOWN on loss of signal. -/
def execRetrainTimeout (p : Port) (signal : Bool) (s : State) : Host.Outcome State Fault Refusal :=
  s.lift (fun d => (retrainTimeoutDev p signal d).copiesLost.seeTimePort)

/-- PRT_RETRN (R311): A write of PRT_CTRL.RETRN, here or (`far`) at the other end of the link, clears HRFAIL and starts a full training attempt. -/
def execPrtRetrn (p : Port) (s : State) (far : Bool := false) : Host.Outcome State Fault Refusal :=
  s.lift (if far then fun d => (prtRetrnDev p true d).seeTimePort
    else Dev.actWrite (PRT_CTRL_RETRN p) (fun d => (prtRetrnDev p false d).seeTimePort))

/-- PRT_HRDIS (R310): A write of PRT_CTRL.HRDIS stops or allows the port's requests for the high rate. -/
def execPrtHrdis (p : Port) (v : Bool) (s : State) : Host.Outcome State Fault Refusal :=
  s.lift (Dev.actWrite (PRT_CTRL_HRDIS p) (fun d => (prtHrdisDev p v d).hrSettle.seeTimePort))

/-- LINE_CHECK (R318): A write of PRT_CTRL.LCHK starts a reflection check of both pairs, or reports REFUSED. -/
def execLineCheck (p : Port) (s : State) : Host.Outcome State Fault Refusal :=
  s.lift (Dev.actWrite (PRT_CTRL_LCHK p) (lineCheckDev p))

/-- LINE_CHECK_DONE (R318): The line check ends, PRT_LCHK is written and the event is raised. -/
def execLineCheckDone (p : Port) (rtx rrx dtx drx : Nat) (s : State) : Host.Outcome State Fault Refusal :=
  s.lift (lineCheckDoneDev p rtx rrx dtx drx)

end Sys2Proof.Machine
end

