-- ==== Sys2Proof/Machine/ExecMode.lean ====
section
/-!
DEFINITION. Meanings: modes, power and clocks (03).
-/

namespace Sys2Proof.Machine

/-- PWR_BUDGET_WRITE (R55): A write of PWR_BUDGET sets budget, floor and hold, and the device re-evaluates its target mode. -/
def execPwrBudgetWrite (v : Word) (s : State) : Host.Outcome State Fault Refusal :=
  s.lift (Dev.actWrite PWR_BUDGET_BUDGET (pwrBudgetWriteDev v))

/-- ENTER_SHIP (R61): PWR_REQ.ACT = SHIP: the device enters SHIP, or refuses and raises MODE_REFUSED. -/
def execEnterShip (s : State) : Host.Outcome State Fault Refusal :=
  s.lift (Dev.actWrite PWR_REQ_ACT enterShipDev)

/-- ENTER_PROVISION (R61): PWR_REQ.ACT = enter PROVISION: the device enters PROVISION or refuses. -/
def execEnterProvision (s : State) : Host.Outcome State Fault Refusal :=
  s.lift (Dev.actWrite PWR_REQ_ACT enterProvisionDev)

/-- LEAVE_PROVISION (R61): PWR_REQ.ACT = leave PROVISION: the device moves to WATCH or refuses. -/
def execLeaveProvision (s : State) : Host.Outcome State Fault Refusal :=
  s.lift (Dev.actWrite PWR_REQ_ACT leaveProvisionDev)

/-- SHIP_ENTRY_DONE (R64): The 5 ms SHIP entry ends, the buck stops and VDRV collapses; a wake received during the entry starts the device as from power-on. -/
def execShipEntryDone (b : BootObs) (s : State) : Host.Outcome State Fault Refusal :=
  s.liftBoot (shipEntryDoneDev b)

/-- HOLD_EXPIRY (R57): The hold time passes with no command, and the device moves down to its lower target ladder mode. -/
def execHoldExpiry (s : State) : Host.Outcome State Fault Refusal :=
  s.lift holdExpiryDev

/-- MODE_TRANSITION_DONE (R60): A mode transition completes, PWR_STAT.CUR shows the new mode, MODE_CHANGED is raised and the budget rule is re-evaluated. -/
def execModeTransitionDone (s : State) : Host.Outcome State Fault Refusal :=
  s.lift modeTransitionDoneDev

/-- WAKE_TONE (R73): A wake tone, or an in-band wake block, is detected on a port; the device relays the tone and rises. -/
def execWakeTone (p : Port) (s : State) (time : Nat := 0) : Host.Outcome State Fault Refusal :=
  s.lift (wakeToneDev p time)

/-- WAKE_PIN (R72): A rising edge held on the WAKE pin wakes the device. -/
def execWakePin (s : State) : Host.Outcome State Fault Refusal :=
  s.lift wakePinDev

/-- TONE_END (R309): 1 ms after a tone that a PARKED port sent or relayed, the port moves to DOWN. -/
def execToneEnd (p : Port) (s : State) : Host.Outcome State Fault Refusal :=
  s.lift (fun d => (toneEndDev p d).copiesLost.seeTimePort)

/-- PATROL_CHECK (R67): The PATROL interval expires and the device runs the band and quick open-wire check on its cells. -/
def execPatrolCheck (o : PatrolObs) (s : State) : Host.Outcome State Fault Refusal :=
  s.lift (patrolCheckDev o)

/-- CLOCK_FAIL (R80): A clock domain fails to start within twice its start-up time, stops, or deviates by more than 5 %. -/
def execClockFail (domain : Nat) (s : State) : Host.Outcome State Fault Refusal :=
  s.lift (clockFailDev domain)

end Sys2Proof.Machine
end

