-- ==== Sys2Proof/Machine/ExecOther.lean ====
section
/-!
DEFINITION. Meanings: commands of several chapters: reads that clear, supply and PCIe power, Bezel rows, calibration readings, the I²C wait.
-/

namespace Sys2Proof.Machine

/-- READ_CLEAR (R5): A read of a register that holds RC fields returns their values and then clears them, which re-arms the first-occurrence events tied to them (for example AUX_TMISS, AUX_DROP, SYS_SVIOL.CNT, PWR_STAT.REFUSED, CVW_STAT.LATE). -/
def execReadClear (addr : Nat) (s : State) : Host.Outcome State Fault Refusal :=
  s.lift (readDev addr)

/-- VSTK_CROSSING (R532): VSTK rises above 30 V, so the buck may start, or falls below 27 V, so the buck stops. -/
def execVstkCrossing (above : Bool) (s : State) : Host.Outcome State Fault Refusal :=
  s.lift (vstkCrossingDev above)

/-- PM_STATE_CHANGE (R425): The host moves the endpoint to D3hot, where it consumes no descriptors and writes nothing to host memory, or back to D0, which resets nothing. -/
def execPmStateChange (d3hot : Bool) (s : State) : Host.Outcome State Fault Refusal :=
  s.lift (pmStateChangeDev d3hot)

/-- LINK_L2_ENTRY (R426): The PCIe link enters L2: the PCIE clock stops, the head takes the budget-rule mode subject to R53, and a later wake drives WAKE# low. -/
def execLinkL2Entry (s : State) : Host.Outcome State Fault Refusal :=
  s.lift linkL2EntryDev

/-- BEZEL_ROW_RELEASE (R254): The input of a fixed Bezel row (SUP, REF, CLK or XB) returns healthy, the row deasserts, and a block in START with no row asserted arms, or a later latch reset becomes acceptable. -/
def execBezelRowRelease (d : Afe) (row : Nat) (s : State) : Host.Outcome State Fault Refusal :=
  s.lift (bezelRowReleaseDev d row)

/-- CAL_READING_END (R161): A calibration reading of CWIN cycles ends; the reading is taken or discarded and point stability is judged. -/
def execCalReadingEnd (d : Afe) (codes : List Int) (s : State) : Host.Outcome State Fault Refusal :=
  s.lift (calReadingEndDev d codes)

/-- IIC_MOVE_WAIT_TTO (R449): A move below MONITOR that has waited IIC_CFG.TTO for I²C transfers to end proceeds, and the port releases SCL and SDA. -/
def execIicMoveWaitTto (s : State) : Host.Outcome State Fault Refusal :=
  s.lift (fun d => match d.pw.iicWait with
    | some t =>
      let d := d.iicStop
      ({ d with pw := { d.pw with iicWait := none } }).budgetEval t
    | none => d)

end Sys2Proof.Machine
end

