-- ==== Sys2Proof/Machine/ExecRegister.lean ====
section
/-!
DEFINITION. Meanings: register accesses and commits (02).
-/

namespace Sys2Proof.Machine

/-- REGISTER_WRITE (R41): A write to a register that has no row of its own, applied field by field, with violations ignored and counted under R44. -/
def execRegisterWrite (addr : Nat) (v : Word) (s : State) : Host.Outcome State Fault Refusal :=
  s.lift (registerWriteDev addr v)

/-- CINTL_READ (R113): A read of a low half of a latched 64-bit pair copies the matching high half into the holding register. -/
def execCintlRead (addr : Nat) (s : State) : Host.Outcome State Fault Refusal :=
  s.lift (readDev addr)

/-- TB_NOWL_READ (R387): A read of TB_NOWL captures TBTIME and holds the high half and fraction for the reads that follow. -/
def execTbNowlRead (s : State) : Host.Outcome State Fault Refusal :=
  s.lift (Dev.command tbNowlReadDev)

/-- COMMIT_ARM (R33): A write of BLOCK_COMMIT.ARM makes the named groups pending for evaluation at the block's next boundary. -/
def execCommitArm (addr : Nat) (groups : BitVec 4) (s : State) : Host.Outcome State Fault Refusal :=
  s.lift (commitArmDev addr groups)

/-- COMMIT_DISCARD (R39): A write of BLOCK_COMMIT.DISCARD reloads the staged copy from the value in force and clears DIRTY and PEND. -/
def execCommitDiscard (addr : Nat) (groups : BitVec 4) (s : State) : Host.Outcome State Fault Refusal :=
  s.lift (commitDiscardDev addr groups)

/-- COMMIT_CLRREJ (R36): A write of BLOCK_COMMIT.CLRREJ clears CSTAT.REJECT and REJGRP. -/
def execCommitClrrej (addr : Nat) (s : State) : Host.Outcome State Fault Refusal :=
  s.lift (commitClrrejDev addr)

/-- BLOCK_CLOCK_BOUNDARY (R40): The next cycle of a block's clock, or an AO tick, after an ARM in a block that does not run or whose boundary is a clock cycle, at which pending groups are evaluated. -/
def execBlockClockBoundary (blockBase : Nat) (s : State) : Host.Outcome State Fault Refusal :=
  s.lift (blockClockBoundaryDev blockBase)

end Sys2Proof.Machine
end

