-- ==== Sys2Proof/Machine/ExecReset.lean ====
section
/-!
DEFINITION. Meanings: resets (02, 03).
-/

namespace Sys2Proof.Machine

/-- POWER_ON_RESET (R45): VDRV rises through its power-on threshold; every register of every die returns to its reset value, HEADSEL is sampled and the NVM copies are loaded. -/
def execPowerOnReset (b : BootObs) (s : State) : Host.Outcome State Fault Refusal :=
  s.liftBoot (powerOnResetDev b)

/-- BROWN_OUT (R533): VDRV stays below 7.8 V for 10 µs, which is a power-on reset reported as CAUSE 0x02. -/
def execBrownOut (b : BootObs) (s : State) : Host.Outcome State Fault Refusal :=
  s.liftBoot (brownOutDev b)

/-- DIE_RESET (R45, R294): A die loses its supply or its in-package link and its registers reset; for an AFE die, CORE writes the era back. `lasting` says that the die does not come back. -/
def execDieReset (d : Die) (s : State) (lasting : Bool := false) : Host.Outcome State Fault Refusal :=
  s.lift (dieResetDev d lasting)

/-- WATCHDOG_EXPIRY (R45): The Lathe watchdog expires and starts a CORE warm reset. -/
def execWatchdogExpiry (s : State) : Host.Outcome State Fault Refusal :=
  s.lift watchdogExpiryDev

/-- WARM_RESET_END (R65): Lathe runs again after a CORE warm reset; the device takes the mode of the budget rule and resynchronises its links and host interface. -/
def execWarmResetEnd (imgAOk imgBOk : Bool) (iic : IicBusObs) (s : State) : Host.Outcome State Fault Refusal :=
  s.lift (warmResetEndDev imgAOk imgBOk iic)

/-- DRST_WARM (R48): A write of SYS_DRST.WARM starts a CORE warm reset. -/
def execDrstWarm (s : State) : Host.Outcome State Fault Refusal :=
  s.lift (Dev.actWrite SYS_DRST_WARM (·.ask (.drst 128)))

/-- DRST_PHYN (R48): A write of SYS_DRST.PHYN resets PHY-N, and the north link retrains. -/
def execDrstPhyn (s : State) : Host.Outcome State Fault Refusal :=
  s.lift (Dev.actWrite SYS_DRST_PHYN (·.ask (.drst 1)))

/-- DRST_PHYS (R48): A write of SYS_DRST.PHYS resets PHY-S, and the south link retrains. -/
def execDrstPhys (s : State) : Host.Outcome State Fault Refusal :=
  s.lift (Dev.actWrite SYS_DRST_PHYS (·.ask (.drst 2)))

/-- DRST_BPDL (R48): A write of SYS_DRST.BPDL resets BPD-L. -/
def execDrstBpdl (s : State) : Host.Outcome State Fault Refusal :=
  s.lift (Dev.actWrite SYS_DRST_BPDL (·.ask (.drst 4)))

/-- DRST_BPDU (R48): A write of SYS_DRST.BPDU resets BPD-U. -/
def execDrstBpdu (s : State) : Host.Outcome State Fault Refusal :=
  s.lift (Dev.actWrite SYS_DRST_BPDU (·.ask (.drst 8)))

/-- DRST_BURL (R48): A write of SYS_DRST.BURL resets the BURL die. -/
def execDrstBurl (s : State) : Host.Outcome State Fault Refusal :=
  s.lift (Dev.actWrite SYS_DRST_BURL (·.ask (.drst 16)))

end Sys2Proof.Machine
end

