-- ==== Sys2Proof/Machine/ExecTime.lean ====
section
/-!
DEFINITION. Meanings: the timebase (14).
-/

namespace Sys2Proof.Machine

/-- PTM_DIALOGUE (R375): A PTM dialogue completes and the head updates its discipline. -/
def execPtmDialogue (srcNs tbUnits : Int) (s : State) : Host.Outcome State Fault Refusal :=
  s.lift (ptmDialogueDev srcNs tbUnits)

/-- PTM_LOSS (R375): 10 × PTMI passes without a completed dialogue, and PTM is lost. -/
def execPtmLoss (s : State) : Host.Outcome State Fault Refusal :=
  s.lift ptmLossDev

/-- PPS_EDGE (R376): A rising PPS edge marks a TAI second, or is discarded if it is off its expected instant. -/
def execPpsEdge (tbUnits : Int) (s : State) : Host.Outcome State Fault Refusal :=
  s.lift (ppsEdgeDev tbUnits)

/-- PPS_LOSS (R376): 1.5 s passes after the last valid edge, and PPS is lost. -/
def execPpsLoss (s : State) : Host.Outcome State Fault Refusal :=
  s.lift ppsLossDev

/-- TIME_OF_DAY_MESSAGE (R376): A time-of-day message names the next PPS edge, or is discarded. -/
def execTimeOfDayMessage (bytes : List Byte) (msSinceEdge : Nat) (s : State) : Host.Outcome State Fault Refusal :=
  s.lift (timeOfDayDev bytes msSinceEdge)

/-- TB_TOD_WRITE (R376): A write of TB_TODL and TB_TODH names the next PPS edge. -/
def execTbTodWrite (lo hi : Word) (msSinceEdge : Nat) (s : State) : Host.Outcome State Fault Refusal :=
  s.lift (Dev.actWrite TB_TODH (tbTodWriteDev lo hi msSinceEdge))

/-- TB_SET (R379): A write of TB_SETH decides a step to the written second at the first whole second at least 3 s later. -/
def execTbSet (lo hi : Word) (s : State) : Host.Outcome State Fault Refusal :=
  s.lift (Dev.actWrite TB_SETH (tbSetDev lo hi))

/-- TB_STEP (R380): At the step edge the MTICK and TBTIME counts jump, and windows and switching periods follow the new count. -/
def execTbStep (s : State) : Host.Outcome State Fault Refusal :=
  s.lift (fun d => (tbStepDev d).stepStages)

/-- HOLDOVER_END (R381): HMAX passes, or the estimated error exceeds ELIM, and holdover ends in FREE. -/
def execHoldoverEnd (s : State) : Host.Outcome State Fault Refusal :=
  s.lift holdoverEndDev

end Sys2Proof.Machine
end

