-- ==== Sys2Proof/Machine/ExecWindow.lean ====
section
/-!
DEFINITION. Meanings: windows, marks and the capture buffer (04, 19).
-/

namespace Sys2Proof.Machine

/-- INTEGRATION_START (R93): At the first MCLK edge after MCLK is valid, a bank's converters start integrating and its era increments after a stop. -/
def execIntegrationStart (mtick : Nat) (s : State) : Host.Outcome State Fault Refusal :=
  s.lift (fun d =>
    integrationStartDev mtick (d.when (d.monitoring && !d.win.opened && decide (d.mtick ≤ mtick) && d.banks.any d.convWanted) Dev.evalTrain))

/-- FAST_WINDOW_BOUNDARY (R89): At an MCLK edge whose MTICK satisfies the window rule, every converter latches its integral and the window closes. -/
def execFastWindowBoundary (w : WinIn) (s : State) : Host.Outcome State Fault Refusal :=
  s.lift (fastWindowBoundaryDev w)

/-- BLOCK_FORMATION (R100): Within 12 µs of the boundary, CORE forms the window block and hands it to the summary aggregator, capture buffer and frame engine. -/
def execBlockFormation (s : State) : Host.Outcome State Fault Refusal :=
  s.lift blockFormationDev

/-- MARK (R114): A write of CVW_MARK places a marker code into the block of the next window or of the named WSEQ. -/
def execMark (v : Word) (s : State) : Host.Outcome State Fault Refusal :=
  s.lift (Dev.actWrite (CVW_MARK_CODE .L) (markDev v))

/-- CAPTURE_FORCE (R115): A write of CVW_CAPT.FORCE fires a capture trigger in the current window. -/
def execCaptureForce (s : State) : Host.Outcome State Fault Refusal :=
  s.lift (Dev.actWrite (CVW_CAPT_FORCE .L) captureForceDev)

/-- SNAPSHOT_COPY_DONE (R484): The frozen snapshot has been copied into a Burl slot, the directory is completed and the buffer thaws. -/
def execSnapshotCopyDone (s : State) : Host.Outcome State Fault Refusal :=
  s.lift snapshotCopyDoneDev

/-- CAPTURE_THAW (R482): A write of FW_CAPCTL.THAW releases a held capture buffer. -/
def execCaptureThaw (s : State) : Host.Outcome State Fault Refusal :=
  s.lift (Dev.actWrite FW_CAPCTL_THAW captureThawDev)

/-- BURL_ERROR (R487): The Burl die reports a write or read error; the event is raised and a failing slot ends incomplete. -/
def execBurlError (addr : Nat) (writing : Bool) (s : State) : Host.Outcome State Fault Refusal :=
  s.lift (burlErrorDev addr writing)

end Sys2Proof.Machine
end

