-- ==== Sys2Proof/Machine/ExecWiring.lean ====
section
/-!
DEFINITION. Meanings: sweeps, tap probe and junction check (08, 09).
-/

namespace Sys2Proof.Machine

/-- IMP_ARM (R214): A write of IMP_CTRL.ARM arms a sweep, or refuses it as late. -/
def execImpArm (s : State) : Host.Outcome State Fault Refusal :=
  s.lift (Dev.actWrite IMP_CTRL_ARM impArmDev)

/-- IMP_ABORT (R220): A write of IMP_CTRL.ABORT ends an armed or running sweep. -/
def execImpAbort (s : State) : Host.Outcome State Fault Refusal :=
  s.lift (Dev.actWrite IMP_CTRL_ABORT impAbortDev)

/-- TAP_PROBE_END (R235): After 200 switching periods the probe ends and is judged. -/
def execTapProbeEnd (meanmA : Int) (s : State) : Host.Outcome State Fault Refusal :=
  s.lift (fun d => ((d.probeEnd meanmA).seeStages.ppWires d.owd.finds).guardSettle)

/-- OWD_JREQ (R237): A write of OWD_CTRL.JREQ requests a junction check of wire JWIRE. -/
def execOwdJreq (wire : Nat) (s : State) : Host.Outcome State Fault Refusal :=
  s.lift (Dev.actWrite (OWD_CTRL_JREQ .L) (owdJreqDev wire))

end Sys2Proof.Machine
end

