-- ==== Sys2Proof/Machine/Dispatch.lean ====
section
/-!
DEFINITION. The effect of a command on everything but the queue: one arm per constructor of Instr, each one call of the
command's meaning.
-/

namespace Sys2Proof.Machine

def exec (i : Instr) (s : State) : Host.Outcome State Fault Refusal :=
  match i with
  | .powerOnReset b => Sys2Proof.Machine.execPowerOnReset b s
  | .brownOut b => Sys2Proof.Machine.execBrownOut b s
  | .dieReset d lasting => Sys2Proof.Machine.execDieReset d s lasting
  | .watchdogExpiry => Sys2Proof.Machine.execWatchdogExpiry s
  | .warmResetEnd imgAOk imgBOk iic => Sys2Proof.Machine.execWarmResetEnd imgAOk imgBOk iic s
  | .drstWarm => Sys2Proof.Machine.execDrstWarm s
  | .drstPhyn => Sys2Proof.Machine.execDrstPhyn s
  | .drstPhys => Sys2Proof.Machine.execDrstPhys s
  | .drstBpdl => Sys2Proof.Machine.execDrstBpdl s
  | .drstBpdu => Sys2Proof.Machine.execDrstBpdu s
  | .drstBurl => Sys2Proof.Machine.execDrstBurl s
  | .registerWrite addr v => Sys2Proof.Machine.execRegisterWrite addr v s
  | .cintlRead addr => Sys2Proof.Machine.execCintlRead addr s
  | .tbNowlRead => Sys2Proof.Machine.execTbNowlRead s
  | .commitArm addr groups => Sys2Proof.Machine.execCommitArm addr groups s
  | .commitDiscard addr groups => Sys2Proof.Machine.execCommitDiscard addr groups s
  | .commitClrrej addr => Sys2Proof.Machine.execCommitClrrej addr s
  | .blockClockBoundary blockBase => Sys2Proof.Machine.execBlockClockBoundary blockBase s
  | .pwrBudgetWrite v => Sys2Proof.Machine.execPwrBudgetWrite v s
  | .enterShip => Sys2Proof.Machine.execEnterShip s
  | .enterProvision => Sys2Proof.Machine.execEnterProvision s
  | .leaveProvision => Sys2Proof.Machine.execLeaveProvision s
  | .shipEntryDone b => Sys2Proof.Machine.execShipEntryDone b s
  | .holdExpiry => Sys2Proof.Machine.execHoldExpiry s
  | .modeTransitionDone => Sys2Proof.Machine.execModeTransitionDone s
  | .wakeTone p time => Sys2Proof.Machine.execWakeTone p s time
  | .wakePin => Sys2Proof.Machine.execWakePin s
  | .toneEnd p => Sys2Proof.Machine.execToneEnd p s
  | .patrolCheck o => Sys2Proof.Machine.execPatrolCheck o s
  | .clockFail domain => Sys2Proof.Machine.execClockFail domain s
  | .integrationStart mtick => Sys2Proof.Machine.execIntegrationStart mtick s
  | .fastWindowBoundary w => Sys2Proof.Machine.execFastWindowBoundary w s
  | .blockFormation => Sys2Proof.Machine.execBlockFormation s
  | .mark v => Sys2Proof.Machine.execMark v s
  | .captureForce => Sys2Proof.Machine.execCaptureForce s
  | .snapshotCopyDone => Sys2Proof.Machine.execSnapshotCopyDone s
  | .captureThaw => Sys2Proof.Machine.execCaptureThaw s
  | .burlError addr writing => Sys2Proof.Machine.execBurlError addr writing s
  | .auxGo d => Sys2Proof.Machine.execAuxGo d s
  | .auxEnable d en => Sys2Proof.Machine.execAuxEnable d en s
  | .auxTriggerEvent d src => Sys2Proof.Machine.execAuxTriggerEvent d src s
  | .auxPassStart d => Sys2Proof.Machine.execAuxPassStart d s
  | .auxDlyExpiry d mtick => Sys2Proof.Machine.execAuxDlyExpiry d s mtick
  | .auxEntryComplete d convs mtick => Sys2Proof.Machine.execAuxEntryComplete d convs s mtick
  | .auxUrgGo d sel input diag => Sys2Proof.Machine.execAuxUrgGo d sel input s diag
  | .urgentResult d c mtick => Sys2Proof.Machine.execUrgentResult d c s mtick
  | .plausibilitySlot d convs => Sys2Proof.Machine.execPlausibilitySlot d convs s
  | .calBegin d => Sys2Proof.Machine.execCalBegin d s
  | .calPointLo d => Sys2Proof.Machine.execCalPointLo d s
  | .calPointHi d => Sys2Proof.Machine.execCalPointHi d s
  | .calApply d => Sys2Proof.Machine.execCalApply d s
  | .calRefresh d => Sys2Proof.Machine.execCalRefresh d s
  | .calFactory d => Sys2Proof.Machine.execCalFactory d s
  | .calAbort d => Sys2Proof.Machine.execCalAbort d s
  | .calStepUnlisted d code => Sys2Proof.Machine.execCalStepUnlisted d code s
  | .calPointTimeout d => Sys2Proof.Machine.execCalPointTimeout d s
  | .calSessionTimeout d => Sys2Proof.Machine.execCalSessionTimeout d s
  | .calNvmStoreDone d ok => Sys2Proof.Machine.execCalNvmStoreDone d ok s
  | .balStart => Sys2Proof.Machine.execBalStart s
  | .balStop => Sys2Proof.Machine.execBalStop s
  | .switchingPeriodEnd b meters mtick busmV => Sys2Proof.Machine.execSwitchingPeriodEnd b meters s mtick busmV
  | .bpdMeterInterval b milliwatts tj => Sys2Proof.Machine.execBpdMeterInterval b milliwatts tj s
  | .bpdOvertemp b tj => Sys2Proof.Machine.execBpdOvertemp b tj s
  | .bpdTempRecovered b tj => Sys2Proof.Machine.execBpdTempRecovered b tj s
  | .impArm => Sys2Proof.Machine.execImpArm s
  | .impAbort => Sys2Proof.Machine.execImpAbort s
  | .tapProbeEnd meanmA => Sys2Proof.Machine.execTapProbeEnd meanmA s
  | .owdJreq wire => Sys2Proof.Machine.execOwdJreq wire s
  | .comparatorsValid => Sys2Proof.Machine.execComparatorsValid s
  | .comparatorInputCrossing c side => Sys2Proof.Machine.execComparatorInputCrossing c side s
  | .comparatorTrip c => Sys2Proof.Machine.execComparatorTrip c s
  | .comparatorRelease c => Sys2Proof.Machine.execComparatorRelease c s
  | .bezelStartHeld d => Sys2Proof.Machine.execBezelStartHeld d s
  | .bezelRowSup d => Sys2Proof.Machine.execBezelRowSup d s
  | .bezelRowRef d => Sys2Proof.Machine.execBezelRowRef d s
  | .bezelRowClk d => Sys2Proof.Machine.execBezelRowClk d s
  | .xbCrossingLost => Sys2Proof.Machine.execXbCrossingLost s
  | .bezelLatchReset d => Sys2Proof.Machine.execBezelLatchReset d s
  | .bezelTtrip d => Sys2Proof.Machine.execBezelTtrip d s
  | .bzlSave d => Sys2Proof.Machine.execBzlSave d s
  | .bzlSaveDone d ok => Sys2Proof.Machine.execBzlSaveDone d ok s
  | .selftestSlot d => Sys2Proof.Machine.execSelftestSlot d s
  | .selftestSlotEnd d failedStep => Sys2Proof.Machine.execSelftestSlotEnd d failedStep s
  | .keepAliveLoss => Sys2Proof.Machine.execKeepAliveLoss s
  | .carrierLoss => Sys2Proof.Machine.execCarrierLoss s
  | .carrierPresent time => Sys2Proof.Machine.execCarrierPresent s time
  | .sdcEnable en => Sys2Proof.Machine.execSdcEnable en s
  | .sdcLatchReset time => Sys2Proof.Machine.execSdcLatchReset s time
  | .processorLatchReset time => Sys2Proof.Machine.execProcessorLatchReset s time
  | .darkPulseStart sw => Sys2Proof.Machine.execDarkPulseStart sw s
  | .darkPulseEnd sw offReached => Sys2Proof.Machine.execDarkPulseEnd sw offReached s
  | .darkPulseReturnTimeout sw onReached => Sys2Proof.Machine.execDarkPulseReturnTimeout sw onReached s
  | .lineTestSpan sw openLine joined => Sys2Proof.Machine.execLineTestSpan sw openLine s joined
  | .sdcFaultClear c => Sys2Proof.Machine.execSdcFaultClear c s
  | .gapSlot => Sys2Proof.Machine.execGapSlot s
  | .gapCheck pos arrived => Sys2Proof.Machine.execGapCheck pos arrived s
  | .channelFaultClear c => Sys2Proof.Machine.execChannelFaultClear c s
  | .graceTimerExpiry => Sys2Proof.Machine.execGraceTimerExpiry s
  | .sdcGraceWrite v => Sys2Proof.Machine.execSdcGraceWrite v s
  | .sdcSave => Sys2Proof.Machine.execSdcSave s
  | .sdcSaveDone ok => Sys2Proof.Machine.execSdcSaveDone ok s
  | .guardFrameSend => Sys2Proof.Machine.execGuardFrameSend s
  | .guardLoss pos => Sys2Proof.Machine.execGuardLoss pos s
  | .memScrub o => Sys2Proof.Machine.execMemScrub o s
  | .tripRepeat => Sys2Proof.Machine.execTripRepeat s
  | .linkWord p w inv => Sys2Proof.Machine.execLinkWord p w s inv
  | .linkWordSend p => Sys2Proof.Machine.execLinkWordSend p s
  | .preambleTimeout p => Sys2Proof.Machine.execPreambleTimeout p s
  | .legacyFrameTimeout p => Sys2Proof.Machine.execLegacyFrameTimeout p s
  | .downSilenceEnd p => Sys2Proof.Machine.execDownSilenceEnd p s
  | .trainingDone p preset eyeh eyev rxinv => Sys2Proof.Machine.execTrainingDone p preset eyeh eyev rxinv s
  | .trainingFail p eyeh eyev => Sys2Proof.Machine.execTrainingFail p eyeh eyev s
  | .hrRetryExpiry p => Sys2Proof.Machine.execHrRetryExpiry p s
  | .syncHeaderErrors p n => Sys2Proof.Machine.execSyncHeaderErrors p n s
  | .blockLockRegained p => Sys2Proof.Machine.execBlockLockRegained p s
  | .retrainTimeout p signal => Sys2Proof.Machine.execRetrainTimeout p signal s
  | .prtRetrn p far => Sys2Proof.Machine.execPrtRetrn p s far
  | .prtHrdis p v => Sys2Proof.Machine.execPrtHrdis p v s
  | .lineCheck p => Sys2Proof.Machine.execLineCheck p s
  | .lineCheckDone p rtx rrx dtx drx => Sys2Proof.Machine.execLineCheckDone p rtx rrx dtx drx s
  | .trip p w => Sys2Proof.Machine.execTrip p w s
  | .guard p w => Sys2Proof.Machine.execGuard p w s
  | .capreq p w => Sys2Proof.Machine.execCapreq p w s
  | .capture p w => Sys2Proof.Machine.execCapture p w s
  | .credit p w => Sys2Proof.Machine.execCredit p w s
  | .creditInit p w => Sys2Proof.Machine.execCreditInit p w s
  | .creditSend p => Sys2Proof.Machine.execCreditSend p s
  | .evack p w => Sys2Proof.Machine.execEvack p w s
  | .resetFrame p w => Sys2Proof.Machine.execResetFrame p w s
  | .enumerationFrame p w => Sys2Proof.Machine.execEnumerationFrame p w s
  | .route p w => Sys2Proof.Machine.execRoute p w s
  | .sync p w => Sys2Proof.Machine.execSync p w s
  | .noticeLinkdown p w => Sys2Proof.Machine.execNoticeLinkdown p w s
  | .noticeLinkup p w => Sys2Proof.Machine.execNoticeLinkup p w s
  | .noticeWarmreset p w => Sys2Proof.Machine.execNoticeWarmreset p w s
  | .noticeUnnumbered p w => Sys2Proof.Machine.execNoticeUnnumbered p w s
  | .noticeSynced p w => Sys2Proof.Machine.execNoticeSynced p w s
  | .enumans p w => Sys2Proof.Machine.execEnumans p w s
  | .timingStamp p w rx tx => Sys2Proof.Machine.execTimingStamp p w rx tx s
  | .timingReq p w rx => Sys2Proof.Machine.execTimingReq p w rx s
  | .timingResp p w => Sys2Proof.Machine.execTimingResp p w s
  | .timingInfo p w edge => Sys2Proof.Machine.execTimingInfo p w edge s
  | .timingExchangeStart p tx => Sys2Proof.Machine.execTimingExchangeStart p tx s
  | .commandRd p x => Sys2Proof.Machine.execCommandRd p x s
  | .commandWr p x => Sys2Proof.Machine.execCommandWr p x s
  | .commandWrl p x => Sys2Proof.Machine.execCommandWrl p x s
  | .commandRdm p x => Sys2Proof.Machine.execCommandRdm p x s
  | .commandBadOp p x => Sys2Proof.Machine.execCommandBadOp p x s
  | .bcommand p x => Sys2Proof.Machine.execBcommand p x s
  | .response p x => Sys2Proof.Machine.execResponse p x s
  | .responseTimeout pos => Sys2Proof.Machine.execResponseTimeout pos s
  | .event p x => Sys2Proof.Machine.execEvent p x s
  | .eventResend => Sys2Proof.Machine.execEventResend s
  | .evackSend pos => Sys2Proof.Machine.execEvackSend pos s
  | .eventGapTimeout pos => Sys2Proof.Machine.execEventGapTimeout pos s
  | .stream p x => Sys2Proof.Machine.execStream p x s
  | .spnEnumGo => Sys2Proof.Machine.execSpnEnumGo s
  | .enumStart => Sys2Proof.Machine.execEnumStart s
  | .enumSweepTimeout => Sys2Proof.Machine.execEnumSweepTimeout s
  | .ringCheckWaitExpiry => Sys2Proof.Machine.execRingCheckWaitExpiry s
  | .unnumberedNoticeSend => Sys2Proof.Machine.execUnnumberedNoticeSend s
  | .ptmDialogue srcNs tbUnits => Sys2Proof.Machine.execPtmDialogue srcNs tbUnits s
  | .ptmLoss => Sys2Proof.Machine.execPtmLoss s
  | .ppsEdge tbUnits => Sys2Proof.Machine.execPpsEdge tbUnits s
  | .ppsLoss => Sys2Proof.Machine.execPpsLoss s
  | .timeOfDayMessage bytes msSinceEdge => Sys2Proof.Machine.execTimeOfDayMessage bytes msSinceEdge s
  | .tbTodWrite lo hi msSinceEdge => Sys2Proof.Machine.execTbTodWrite lo hi msSinceEdge s
  | .tbSet lo hi => Sys2Proof.Machine.execTbSet lo hi s
  | .tbStep => Sys2Proof.Machine.execTbStep s
  | .holdoverEnd => Sys2Proof.Machine.execHoldoverEnd s
  | .pcieReset k => Sys2Proof.Machine.execPcieReset k s
  | .hifEnable en speed width => Sys2Proof.Machine.execHifEnable en speed width s
  | .ringEnable r v => Sys2Proof.Machine.execRingEnable r v s
  | .ringDisable r => Sys2Proof.Machine.execRingDisable r s
  | .producerDoorbell r v => Sys2Proof.Machine.execProducerDoorbell r v s
  | .consumerDoorbell r v => Sys2Proof.Machine.execConsumerDoorbell r v s
  | .eventQueueDrain => Sys2Proof.Machine.execEventQueueDrain s
  | .heldCompletionDrain q => Sys2Proof.Machine.execHeldCompletionDrain q s
  | .nop r d => Sys2Proof.Machine.execNop r d s
  | .rd r d => Sys2Proof.Machine.execRd r d s
  | .wr r d => Sys2Proof.Machine.execWr r d s
  | .wrl r d => Sys2Proof.Machine.execWrl r d s
  | .rdm r d => Sys2Proof.Machine.execRdm r d s
  | .commit r d => Sys2Proof.Machine.execCommit r d s
  | .commitWaitPoll r cid expired => Sys2Proof.Machine.execCommitWaitPoll r cid expired s
  | .modereq r d => Sys2Proof.Machine.execModereq r d s
  | .budget r d => Sys2Proof.Machine.execBudget r d s
  | .plan r d => Sys2Proof.Machine.execPlan r d s
  | .sweep r d => Sys2Proof.Machine.execSweep r d s
  | .calstep r d => Sys2Proof.Machine.execCalstep r d s
  | .bind r d => Sys2Proof.Machine.execBind r d s
  | .bindTimeout cid => Sys2Proof.Machine.execBindTimeout cid s
  | .unbind r d => Sys2Proof.Machine.execUnbind r d s
  | .enum r d => Sys2Proof.Machine.execEnum r d s
  | .interruptCoalesceTimer r => Sys2Proof.Machine.execInterruptCoalesceTimer r s
  | .dmaError r cid addr => Sys2Proof.Machine.execDmaError r cid addr s
  | .bdlSearch lines => Sys2Proof.Machine.execBdlSearch lines s
  | .autoSearch l => Sys2Proof.Machine.execAutoSearch l s
  | .bdlFrameEnd l rep => Sys2Proof.Machine.execBdlFrameEnd l rep s
  | .bdlWaitEnd l => Sys2Proof.Machine.execBdlWaitEnd l s
  | .bdlScheduleFrame l => Sys2Proof.Machine.execBdlScheduleFrame l s
  | .bdlXctlGo v => Sys2Proof.Machine.execBdlXctlGo v s
  | .bdlSpuFault l => Sys2Proof.Machine.execBdlSpuFault l s
  | .bdlShort l => Sys2Proof.Machine.execBdlShort l s
  | .bdlLineEnable l en => Sys2Proof.Machine.execBdlLineEnable l en s
  | .iicGo => Sys2Proof.Machine.execIicGo s
  | .iicClrstk o => Sys2Proof.Machine.execIicClrstk o s
  | .iicCenWrite o => Sys2Proof.Machine.execIicCenWrite o s
  | .iicBusIdle => Sys2Proof.Machine.execIicBusIdle s
  | .iicTransferEnd e => Sys2Proof.Machine.execIicTransferEnd e s
  | .arbitrationLost bit read a => Sys2Proof.Machine.execArbitrationLost bit read a s
  | .iicRetry => Sys2Proof.Machine.execIicRetry s
  | .iicStretchTimeout acked read o => Sys2Proof.Machine.execIicStretchTimeout acked read o s
  | .iicTargetRx bytes => Sys2Proof.Machine.execIicTargetRx bytes s
  | .iicTargetRead n => Sys2Proof.Machine.execIicTargetRead n s
  | .iicTodaWrite bytes msSinceEdge => Sys2Proof.Machine.execIicTodaWrite bytes msSinceEdge s
  | .iicTargetTimeout addr => Sys2Proof.Machine.execIicTargetTimeout addr s
  | .crcData c v => Sys2Proof.Machine.execCrcData c v s
  | .crcInit c => Sys2Proof.Machine.execCrcInit c s
  | .crcCtxWrite c v => Sys2Proof.Machine.execCrcCtxWrite c v s
  | .crcValWrite c v => Sys2Proof.Machine.execCrcValWrite c v s
  | .rcdProt mask => Sys2Proof.Machine.execRcdProt mask s
  | .rcdUnprot mask => Sys2Proof.Machine.execRcdUnprot mask s
  | .rcdEraseSlot mask => Sys2Proof.Machine.execRcdEraseSlot mask s
  | .rcdEraseHist => Sys2Proof.Machine.execRcdEraseHist s
  | .bistBackground => Sys2Proof.Machine.execBistBackground s
  | .bistBankDone o => Sys2Proof.Machine.execBistBankDone o s
  | .bstGo pllLocked vcoreOk => Sys2Proof.Machine.execBstGo pllLocked vcoreOk s
  | .bstAbort => Sys2Proof.Machine.execBstAbort s
  | .vcoreOutOfWindow => Sys2Proof.Machine.execVcoreOutOfWindow s
  | .bstRepair => Sys2Proof.Machine.execBstRepair s
  | .bstRetire => Sys2Proof.Machine.execBstRetire s
  | .lcsReq target => Sys2Proof.Machine.execLcsReq target s
  | .lcsResp v sigOk => Sys2Proof.Machine.execLcsResp v sigOk s
  | .authTimeout => Sys2Proof.Machine.execAuthTimeout s
  | .fuseBurnDone ok => Sys2Proof.Machine.execFuseBurnDone ok s
  | .fwErase => Sys2Proof.Machine.execFwErase s
  | .fwProg => Sys2Proof.Machine.execFwProg s
  | .fwVerify => Sys2Proof.Machine.execFwVerify s
  | .fwOperationDone o => Sys2Proof.Machine.execFwOperationDone o s
  | .fwAct rst => Sys2Proof.Machine.execFwAct rst s
  | .fwActResetStart => Sys2Proof.Machine.execFwActResetStart s
  | .fwConfirm => Sys2Proof.Machine.execFwConfirm s
  | .fwTrialExpiry => Sys2Proof.Machine.execFwTrialExpiry s
  | .fwLegSave => Sys2Proof.Machine.execFwLegSave s
  | .setaddr p w => Sys2Proof.Machine.execSetaddr p w s
  | .legacyWr p w => Sys2Proof.Machine.execLegacyWr p w s
  | .legacyRd p w => Sys2Proof.Machine.execLegacyRd p w s
  | .ovthUvthWrite p w => Sys2Proof.Machine.execOvthUvthWrite p w s
  | .disch p w => Sys2Proof.Machine.execDisch p w s
  | .clear p w => Sys2Proof.Machine.execClear p w s
  | .convert p w => Sys2Proof.Machine.execConvert p w s
  | .legacyReset p w => Sys2Proof.Machine.execLegacyReset p w s
  | .legacyIdleSend => Sys2Proof.Machine.execLegacyIdleSend s
  | .legDto v => Sys2Proof.Machine.execLegDto v s
  | .legChain p answers => Sys2Proof.Machine.execLegChain p answers s
  | .fwLpxcGo => Sys2Proof.Machine.execFwLpxcGo s
  | .legacyResponse w => Sys2Proof.Machine.execLegacyResponse w s
  | .lpxTimeout => Sys2Proof.Machine.execLpxTimeout s
  | .readClear addr => Sys2Proof.Machine.execReadClear addr s
  | .vstkCrossing above => Sys2Proof.Machine.execVstkCrossing above s
  | .pmStateChange d3hot => Sys2Proof.Machine.execPmStateChange d3hot s
  | .linkL2Entry => Sys2Proof.Machine.execLinkL2Entry s
  | .bezelRowRelease d row => Sys2Proof.Machine.execBezelRowRelease d row s
  | .calReadingEnd d codes => Sys2Proof.Machine.execCalReadingEnd d codes s
  | .iicMoveWaitTto => Sys2Proof.Machine.execIicMoveWaitTto s

end Sys2Proof.Machine
end

