-- ==== Sys2Proof/Safety.lean ====
section
/-!
DEFINITION. The terms in which claims about the part are made: when the device takes a register command as it stands,
when no request is left over, what its fuses say, and what two devices have in common.
-/

namespace Sys2Proof.Machine

/-- No request of an earlier command is left over. Every command leaves the device so. -/
abbrev Dev.settled (d : Dev) : Prop := d.asks = []

/-- The device executes a register command without rising first (R58): Lathe runs, and the mode is MONITOR or above, or
an override mode. -/
abbrev Dev.awake (d : Dev) : Prop := d.lathe = true ∧ 4 ≤ d.get PWR_STAT_CUR

/-- A write to a field is no violation (R41): the device has the register, and nothing locks the field. -/
def Dev.admits (d : Dev) (f : Fld) : Bool :=
  match d.regAt f.addr with
  | none => false
  | some l => !l.row.fields.any (fun s => s.hi = f.hi && s.lo = f.lo && d.fieldLocked l s)

/-- The device is settled and Lathe runs. -/
abbrev Dev.runs (d : Dev) : Prop := d.settled ∧ d.lathe = true

/-- The device is settled and awake: a command at a register has its own effect. -/
abbrev Dev.ready (d : Dev) : Prop := d.settled ∧ d.awake

/-- The device takes a write of a field: it is ready, and the write is no violation. -/
abbrev Dev.accepts (d : Dev) (f : Fld) : Prop := d.ready ∧ d.admits f = true

/-- The life-cycle state that the fuses of the machine hold (R498). -/
def State.life (s : State) : Nat := lifeOf s.dev.fz.chain

/-- No fuse of the second set of fuses is less burned than in the first (R498). -/
def Fuses.le (f g : Fuses) : Prop :=
  (∀ k : Nat, (f.chain[k]?).getD 0 ≤ (g.chain[k]?).getD 0) ∧ f.svn ≤ g.svn
    ∧ (∀ k : Nat, (f.banks[k]?).getD 0 ≤ (g.banks[k]?).getD 0) ∧ ∀ k : Nat, (f.spares[k]?).getD 0 ≤ (g.spares[k]?).getD 0

/-- A member keeps what it kept before, and after it, among others, an event with a code and these items. -/
def Dev.newEvent (d e : Dev) (code : Nat) (items : List Nat) : Prop :=
  ∃ more, e.spn.evq = d.spn.evq ++ more ∧ ∃ r ∈ more, r.code = code ∧ r.items = items

/-- The device is a member that keeps the next event it raises: outside LEGACY, with fewer than 128 kept (R357). -/
abbrev Dev.keepsEvents (d : Dev) : Prop := d.role = .member ∧ d.inLegacy = false ∧ d.spn.evq.length < 128

/-! ## Frames -/

/-- A compact frame of a kind arrives at a port that takes it, with its CRC right (R330). -/
abbrev Dev.receives (d : Dev) (p : Port) (kind : Nat) (w : Word64) : Prop :=
  d.settled ∧ d.hears p = true ∧ cfKind w = kind ∧ cfOk w = true

/-- The device with the units of a frame freed and its alive counter noted, when it is the next of its kind (R329, R337). -/
def Dev.accepted (d : Dev) (p : Port) (w : Word64) (sender : Nat) : Dev :=
  (d.consumed p w).noteAlive sender (cfKind w) (cfAlive w) 0

/-- The frame is the first, or the next, of its kind from a sender (R329). -/
abbrev Dev.inTurn (d : Dev) (w : Word64) (sender : Nat) : Prop := d.aliveMissed sender (cfKind w) (cfAlive w) = some 0

/-- A TIMING frame of a type arrives, with its CRC right, at a port whose link is up (R384). -/
abbrev Dev.hearsTiming (d : Dev) (p : Port) (ttype : Nat) (w : Word64) : Prop :=
  d.settled ∧ d.lathe = true ∧ d.linkUp p = true ∧ cfKind w = kTiming ∧ cfOk w = true ∧ cfPay w / 2 ^ 30 = ttype

/-- The SEQ of a command frame at a member (R334). -/
def Dev.cmdSeq (d : Dev) (x : XFrame) : Nat := xSeqOf x d.spn.exp1

/-- A COMMAND frame with an operation code arrives at the awake member whose position it names, in sequence and with its
CRC right (R332, R334, R348). -/
abbrev Dev.receivesCommand (d : Dev) (p : Port) (x : XFrame) : Prop :=
  d.ready ∧ d.hears p = true ∧ d.role = .member ∧ x.ftype = 0xF1 ∧ x.dir = false ∧ d.bit SPN_POS_VALID = true
    ∧ x.pos = d.get SPN_POS_POS ∧ x.crc = xCrc x x.pos (d.cmdSeq x) ∧ seqBefore (d.cmdSeq x) d.spn.exp1 = false

/-- The member with the units of a command frame freed and its SEQ taken (R334, R337). -/
def Dev.tookFrame (d : Dev) (p : Port) (x : XFrame) : Dev :=
  let e := d.consumedX p x
  { e with spn := { e.spn with exp1 := (d.cmdSeq x + 1) % 2 ^ 32 } }

/-- The member with a command's TAG adopted (R348). -/
def Dev.tookTag (d : Dev) (p : Port) (x : XFrame) : Dev := (d.tookFrame p x).put SPN_CMD_LAST (x.tag % 65536)

/-- The response is kept under its TAG and sent (R346, R348). -/
def Dev.answer (d : Dev) (x : XFrame) (status : Nat) (data : List Byte) : Dev :=
  let t := x.tag % 65536
  let count := payNat x 1 1
  ({ d with spn := { d.spn with kept := some ⟨t, leBytes 1 status ++ leBytes 1 count ++ leBytes 6 0 ++ data⟩ } }).respond
    t status count data

/-- A write of one of these registers does more than set its fields. -/
def Loc.acts (l : Loc) : Bool :=
  match l.blk with
  | .clk | .cmp | .grd | .prt => l.blk = .prt && l.off = 0
  | .pwr => decide (l.off < 8)
  | .sys => l.off = 0x48
  | .cvw => l.off = 0x20 || l.off = 0x30
  | .owd => l.off = 0x10
  | .aux => l.off = 0 || l.off = 0x28
  | _ => true

/-! ## Descriptors -/

/-- The device that has consumed a descriptor and given its run the next number. -/
def Dev.runTaken (d : Dev) (r : Nat) (xs : List Run) : Dev :=
  let c := d.consume r
  { c with hif := { c.hif with runs := xs, nextRun := c.hif.nextRun + 1 } }

/-- The descriptor is consumed, and the first access of its run is sent to its member with the next TAG (R349, R404). -/
def Dev.issued (d : Dev) (r opc : Nat) (e : Desc) (acts : List Act) (first : Act) (m : Member) : Dev :=
  let tag := (m.tag + 1) % 65536
  (d.runTaken r [{ mkRun r opc e acts with id := d.hif.nextRun, started := true, sent := true, tag := tag }]).sendCommand
    (e.pos % 64) tag (cmdPayload first)

/-- The descriptor is consumed and completes at once. -/
def Dev.completed (d : Dev) (r : Nat) (e : Desc) (status data : Nat) : Dev :=
  (d.runTaken r []).complete r (e.cid % 65536) status data

/-! ## Legacy frames -/

/-- A legacy frame of a command with SYNC and CRC right reaches, from the south, a device in LEGACY (R511, R512). -/
abbrev Dev.legacyHears (d : Dev) (w : BitVec 48) (cmd : Nat) : Prop :=
  d.settled ∧ d.lathe = true ∧ d.inLegacy = true ∧ lfOk w = true ∧ lfCmd w = cmd

/-- The device after it has relayed a legacy frame north, which it does once every virtual device has an address (R513); the
first frame takes its south port to LR with LEG (Table 12-9). -/
def Dev.legacyRelayed (d : Dev) (w : BitVec 48) : Dev :=
  if d.relaysNorth then (d.legUp .south).emit (.legacyFrame .north w) else d.legUp .south

/-! ## What a command leaves alone -/

/-- A register that recording an event, sending a frame or the budget rule can change: SPN_EVQ, SPN_CREDN, SPN_CREDS,
RCD_HWP and PWR_STAT. -/
def sharedReg (a : Nat) : Bool := [0x1402C, 0x14058, 0x1405C, 0x800008, 0x4008].contains a

/-- Between two devices nothing differs that the registers of `own`, an event and the budget rule do not account for. -/
structure Dev.Keeps (own : Nat → Bool) (d e : Dev) : Prop where
  build  : e.build = d.build
  role   : e.role = d.role
  word   : ∀ a, own a = false → sharedReg a = false → e.word a = d.word a
  staged : e.staged = d.staged
  nvm    : e.nvm = d.nvm
  fuses  : e.fz = d.fz
  slots  : e.burl.slots = d.burl.slots
  mtick  : e.mtick = d.mtick
  read   : e.readData = d.readData

/-! ## Invariants -/

/-- What every command leaves behind: no request is open, and the fuses are as many as R498, R494 and R496 give the part. -/
abbrev Dev.sound (d : Dev) : Prop :=
  d.settled ∧ d.fz.chain.length = 64 ∧ d.fz.banks.length = 6 ∧ d.fz.spares.length = 6

/-- How far a life-cycle state is along the chain: DEPLOYED and SERVICE follow each other in turn (R498). -/
def lifeRank (l : Nat) : Nat := if l = lRetired then 3 else if l = lDeployed ∨ l = lService then 2 else if l = lProvisioned then 1 else 0

/-- The commands that start the part from power-on, where HEADSEL is sampled (R12). -/
def startsPart : Instr → Bool
  | .powerOnReset _ | .brownOut _ | .shipEntryDone _ => true
  | _ => false

end Sys2Proof.Machine
end

