-- ==== Sys2Proof/Certificates/Slice0/Obligations.lean ====
section
/-!
DEFINITION. The statements about the model, by the chapters of the specification. Each completion statement says, for
every command it names, on which states and operands the command has its own effect, and what the next state is.
-/

open Sys2Proof Sys2Proof.Machine

/-- A step of a state with a command in front of its queue is exec of that command on the state with the rest of the
queue. With no command waiting the block stays as it is, which is the choice of the model named in log 11. (R41) -/
def Obligations.StepRunsTheFrontCommand : Prop :=
  (∀ (c : Instr) (d : Dev) (q : List Instr), step ⟨d, c :: q⟩ = exec c ⟨d, q⟩)
  ∧ ∀ d : Dev, step ⟨d, []⟩ = .next ⟨d, []⟩

/-- Every command answers a next state in every state: no command faults and none is refused. The queue and the build
stay, no request of the command is left over, and the role stays unless the command starts the part from power-on. (R12,
R41) -/
def Obligations.EveryCommandAnswersANextState : Prop :=
  ∀ (c : Instr) (s : State), ∃ t, exec c s = .next t ∧ t.pending = s.pending ∧ t.dev.build = s.dev.build ∧ t.dev.settled
    ∧ (startsPart c = false → t.dev.role = s.dev.role)

/-- POWER_ON_RESET and BROWN_OUT take the role that HEADSEL gives, head for VDRV and member for ground, and
SYS_STAT.ROLE reports it. SHIP_ENTRY_DONE, which may start the part from power-on, leaves the role or samples it, and no
other command changes it. (R12) -/
def Obligations.RoleIsSampledAtPowerOn : Prop :=
  (∀ (b : BootObs) (s : State), ∃ t u, exec (.powerOnReset b) s = .next t ∧ exec (.brownOut b) s = .next u
    ∧ t.dev.role = (if b.headsel then .head else .member) ∧ u.dev.role = (if b.headsel then .head else .member)
    ∧ t.dev.get SYS_STAT_ROLE = (if b.headsel then 1 else 0) ∧ u.dev.get SYS_STAT_ROLE = (if b.headsel then 1 else 0))
  ∧ (∀ (b : BootObs) (s t : State), exec (.shipEntryDone b) s = .next t →
    t.dev.role = s.dev.role ∨ t.dev.role = (if b.headsel then .head else .member))
  ∧ ∀ (c : Instr) (s t : State), startsPart c = false → exec c s = .next t → t.dev.role = s.dev.role

/-- From every state that meets the invariant (no request left over, 64 logical life-cycle fuses, six bank fuses and six
spare-row counts) a step gives a state that meets it. The build stays, no fuse is less burned after the step than
before, and the role changes only with a command that starts the part from power-on. (R12, R494, R496, R498) -/
def Obligations.StepsKeepTheMachineSound : Prop :=
  ∀ s t : State, s.dev.sound → step s = .next t → t.dev.sound ∧ t.dev.build = s.dev.build ∧ s.dev.fz.le t.dev.fz
    ∧ ((∀ c ∈ s.pending.head?, startsPart c = false) → t.dev.role = s.dev.role)

/-- No step lowers the place of the life-cycle state in the chain BLANK, PROVISIONED, DEPLOYED or SERVICE, RETIRED. The
count of burned service fuses never falls, a device that is RETIRED stays RETIRED, and a logical fuse that reads burned
by majority reads burned after every step. (R498, R499) -/
def Obligations.LifeCycleNeverGoesBack : Prop :=
  ∀ s t : State, step s = .next t → lifeRank s.life ≤ lifeRank t.life
    ∧ serviceCount s.dev.fz.chain ≤ serviceCount t.dev.fz.chain ∧ (s.life = lRetired → t.life = lRetired)
    ∧ ∀ k, burnt s.dev.fz.chain k = true → burnt t.dev.fz.chain k = true

/-- Right after reset the queue is empty, the invariant of the machine holds, the register store is in its canonical
form, the life-cycle is BLANK, and every register but those that follow NVM and fuses holds its reset word (PWR_BUDGET,
WLEN and TLOW are named). No staged copy differs from the value in force. That the part is a ZM3680-F member with blank
fuses is the choice of logs 1 and 8. (R7, R24, R31, R498) -/
def Obligations.ResetState : Prop :=
  let d := State.reset.dev
  State.reset.pending = [] ∧ d.sound ∧ Store.wf (resetWord d.build d.role) d.regs = true ∧ State.reset.life = lBlank ∧ d.mtick = 0
    ∧ (∀ a, (∀ p ∈ shownRegs, p.1 ≠ a) → d.word a = resetWord d.build d.role a) ∧ (∀ a, d.stagedWord a = d.word a)
    ∧ d.get PWR_BUDGET_BUDGET = 0 ∧ d.get PWR_BUDGET_HOLD = 10 ∧ d.get PWR_BUDGET_FLOOR = 2
    ∧ d.get (CVW_WLEN .L) = 120000 ∧ d.get LCS_STAT_STATE = 0 ∧ d.get SPN_POS_VALID = 0 ∧ d.get IIC_TIM1_TLOW = 240

/-- A register write to a register whose fields nothing locks puts each staged field into its staged copy and sets the
DIRTY bit of its group, and the value in force of the field stays. Where every field of the register is staged, no other
register changes, but for those that an event and the budget rule account for. (R31) -/
def Obligations.StagedWritesWait : Prop :=
  ∀ (d : Dev) (q : List Instr) (a : Nat) (v : Word) (l : Loc), d.ready → a < 2 ^ 24 → a % 4 = 0 → d.regAt a = some l →
    d.blkReg 0xF00 a = none → d.blkReg 0xF04 a = none → stagedView a = false → l.acts = false →
    (∀ f ∈ l.row.fields, d.fieldLocked l f = false) → ∃ t, exec (.registerWrite a v) ⟨d, q⟩ = .next t
      ∧ (∀ f ∈ l.row.fields, ∀ h, f.acc = .rwS h → t.dev.get ⟨a, f.hi, f.lo⟩ = d.get ⟨a, f.hi, f.lo⟩
        ∧ t.dev.stg ⟨a, f.hi, f.lo⟩ = bitsOf v f.hi f.lo ∧ t.dev.get (csDirty l.base (l.group h)) = 1)
      ∧ ((∀ f ∈ l.row.fields, ∃ h, f.acc = .rwS h) → ∀ b, b ≠ l.base + 0xF04 → sharedReg b = false →
        t.dev.word b = d.word b)

/-- Raising an event changes none of the registers but the event queue, the credits and the history position, and leaves
staged copies, NVM, fuses, slots and time alone; a member with room keeps the event with its code and items. The end of
a command arms HOLD and nothing else. The budget rule writes PWR_STAT.TARGET and leaves everything but PWR_STAT and the
recorded event alone: HOLD, the windows, the plan, the guard state, REFUSED and CALBANK stay. (R55, R57, R357, R414) -/
def Obligations.EndOfACommandChangesOnlyTheMode : Prop :=
  (∀ (d : Dev) (code src : Nat) (items : List Nat), Dev.Keeps (fun _ => false) d (d.raise code src items)
    ∧ (d.raise code src items).get PWR_STAT_CUR = d.get PWR_STAT_CUR ∧ (d.keepsEvents → d.newEvent (d.raise code src items) code items))
  ∧ (∀ d : Dev, d.commandDone = { d with pw := { d.pw with hold := true } })
  ∧ ∀ (d : Dev) (trig : Nat), let e := d.budgetEval trig
    Dev.Keeps (fun _ => false) d e ∧ e.pw.hold = d.pw.hold
    ∧ e.get PWR_STAT_REFUSED = d.get PWR_STAT_REFUSED ∧ e.get PWR_STAT_CALBANK = d.get PWR_STAT_CALBANK
    ∧ e.spn.aliveIn = d.spn.aliveIn ∧ e.win = d.win ∧ e.bal = d.bal ∧ e.saf = d.saf
    ∧ e.get PWR_STAT_TARGET = d.targetLevel % 16

/-- REGISTER_WRITE to a register without an action puts each field by its class; a locked field stays, and the violation
is counted with its address; a write where there is no register, or to a staged view, is a violation of the whole
access. READ_CLEAR answers the value shown and clears the RC fields. CINTL_READ latches the high half of its pair.
TB_NOWL_READ answers TBTIME and holds the high half and the fraction. (R5, R41, R44, R113, R371, R387) -/
def Obligations.RegisterAccessesComplete : Prop :=
  (∀ (d : Dev) (q : List Instr) (a : Nat) (v : Word) (l : Loc), d.ready → a < 2 ^ 24 → a % 4 = 0 → d.regAt a = some l →
    d.blkReg 0xF00 a = none → d.blkReg 0xF04 a = none → stagedView a = false → l.acts = false →
    ((∀ f ∈ l.row.fields, d.fieldLocked l f = false) →
      exec (.registerWrite a v) ⟨d, q⟩ = .next ⟨(d.putFields l a v).commandDone, q⟩)
    ∧ (d.offends l a v = true → ∃ t, exec (.registerWrite a v) ⟨d, q⟩ = .next t ∧ t.dev.get SYS_SVIOL_ADDR = a
      ∧ t.dev.get SYS_SVIOL_CNT = min 255 (d.get SYS_SVIOL_CNT + 1)
      ∧ ∀ f ∈ l.row.fields, d.fieldLocked l f = true → t.dev.get ⟨a, f.hi, f.lo⟩ = d.get ⟨a, f.hi, f.lo⟩))
  ∧ (∀ (d : Dev) (q : List Instr) (a : Nat) (v : Word), d.ready → a < 2 ^ 24 → a % 4 = 0 → d.regAt a = none →
    d.blkReg 0xF00 a = none → d.blkReg 0xF04 a = none → observing a = false →
    exec (.registerWrite a v) ⟨d, q⟩ = .next ⟨((d.countSat SYS_SVIOL_CNT 1).put SYS_SVIOL_ADDR a).commandDone, q⟩)
  ∧ (∀ (d : Dev) (q : List Instr) (a : Nat) (v : Word), d.ready → a < 2 ^ 24 → a % 4 = 0 → stagedView a = true →
    observing a = false →
    exec (.registerWrite a v) ⟨d, q⟩ = .next ⟨((d.countSat SYS_SVIOL_CNT 1).put SYS_SVIOL_ADDR a).commandDone, q⟩)
  ∧ (∀ (d : Dev) (q : List Instr) (a : Nat) (l : Loc), d.ready → a < 2 ^ 24 → a % 4 = 0 → d.regAt a = some l →
    stagedView a = false → d.blkReg 0xF04 a = none → a ≠ TB_NOWL.addr → d.held a = none →
    ∃ t, exec (.readClear a) ⟨d, q⟩ = .next t ∧ t.dev.readData = d.readable l (d.shown l a)
      ∧ ∀ f ∈ l.row.fields, f.acc = .rc → t.dev.get ⟨a, f.hi, f.lo⟩ = 0)
  ∧ (∀ (d : Dev) (q : List Instr) (x : Afe) (k : Nat), d.ready → fits d.build (match x with | .L => .afeL | .U => .afeU) →
    1 ≤ k → k ≤ 18 → d.held (CVW_CINTL x k).addr = none →
    exec (.cintlRead (CVW_CINTL x k).addr) ⟨d, q⟩ = .next ⟨({ d.latchHigh ((CVW_CINTL x k).addr + 4) with
      readData := d.word (CVW_CINTL x k).addr }).commandDone, q⟩)
  ∧ (∀ (d : Dev) (q : List Instr), d.ready →
    exec .tbNowlRead ⟨d, q⟩ = .next ⟨({ d with
      readData := BitVec.ofNat 32 (tbTime d.mtick)
      win := { d.win with latches :=
        [(TB_NOWL.addr + 4, BitVec.ofNat 32 (tbTime d.mtick / 2 ^ 32)), (TB_NOWL.addr + 8, BitVec.ofNat 32 (tbFrac d.mtick * 65536))]
          ++ d.win.latches.filter (fun l : Nat × Word => l.1 ≠ TB_NOWL.addr + 4 && l.1 ≠ TB_NOWL.addr + 8) } }).commandDone, q⟩)

/-- ARM makes exactly the named groups pending; DISCARD clears DIRTY and PEND of the named groups and their staged
copies read the value in force; CLRREJ clears REJECT and REJGRP. At the clock boundary of a block one pending group is
accepted when its checks pass and rejected with the failing check otherwise. (R33, R34, R35, R36, R39, R40) -/
def Obligations.CommitCommandsComplete : Prop :=
  (∀ (d : Dev) (q : List Instr) (a : Nat) (groups : BitVec 4) (die : Die) (blk : Blk) (base : Nat), d.ready →
    blockAt (regAddr a) = some (die, blk, base) → d.hasBlk die blk = true →
    ∃ t, exec (.commitArm a groups) ⟨d, q⟩ = .next t
      ∧ (∀ g ∈ blkGroups die blk, groups.getLsbD g = true → t.dev.get (csPend base g) = 1)
      ∧ (∀ g ∈ blkGroups die blk, groups.getLsbD g = false → t.dev.get (csPend base g) = d.get (csPend base g)))
  ∧ (∀ (d : Dev) (q : List Instr) (a : Nat) (groups : BitVec 4) (die : Die) (blk : Blk) (base : Nat), d.ready →
    blockAt (regAddr a) = some (die, blk, base) → d.hasBlk die blk = true →
    ∃ t, exec (.commitDiscard a groups) ⟨d, q⟩ = .next t
      ∧ (∀ g ∈ blkGroups die blk, groups.getLsbD g = true → t.dev.get (csPend base g) = 0 ∧ t.dev.get (csDirty base g) = 0
        ∧ ∀ p ∈ t.dev.staged, base ≤ p.1 → p.1 < base + 0xF00 → ∀ f ∈ stagedFields g p.1,
          bitsOf p.2 f.hi f.lo = t.dev.get ⟨p.1, f.hi, f.lo⟩))
  ∧ (∀ (d : Dev) (q : List Instr) (a : Nat) (die : Die) (blk : Blk) (base : Nat), d.ready →
    blockAt (regAddr a) = some (die, blk, base) → d.hasBlk die blk = true →
    exec (.commitClrrej a) ⟨d, q⟩ = .next ⟨((d.put (csReject base) 0).put (csRejgrp base) 0).commandDone, q⟩)
  ∧ (∀ (d : Dev) (q : List Instr) (die : Die) (blk : Blk) (base g : Nat), d.settled → blockAt base = some (die, blk, base) →
    blk ≠ .bdl → d.hasTrain die blk = false → d.clockRuns die blk = true → g ∈ blkGroups die blk →
    (∀ k ∈ blkGroups die blk, d.pend base k = decide (k = g)) →
    let e := d.noteBoundary base
    (blk = .cvw → g = 0 → e.applyDue = true) →
    (∀ c, e.groupFails die blk g = some c →
      exec (.blockClockBoundary base) ⟨d, q⟩ = .next ⟨e.rejectGroup base g c, q⟩)
    ∧ (e.groupFails die blk g = none → blk ≠ .bzl → blk ≠ .cmp →
      exec (.blockClockBoundary base) ⟨d, q⟩ = .next ⟨Dev.onAccept e die blk g (e.acceptGroup base g), q⟩)
    ∧ (e.groupFails die blk g = none → blk = .bzl ∨ blk = .cmp →
      exec (.blockClockBoundary base) ⟨d, q⟩ = .next ⟨(e.guardChange (·.acceptGroup base g)).guardSettle, q⟩))

/-- A write of PWR_BUDGET takes HOLD, FLOOR and BUDGET and evaluates the budget rule. A request for SHIP starts its
entry from a ladder mode with no service, and is refused with REFUSED and its event otherwise. A request for PROVISION
starts the transition outside DEPLOYED, SAFE, DEGRADED and LEGACY and is refused in them; PROVISION is left for WATCH,
and a leave from another mode is refused. (R55, R61, R62, R64) -/
def Obligations.PowerRequestsComplete : Prop :=
  (∀ (d : Dev) (q : List Instr) (v : Word), d.accepts PWR_BUDGET_BUDGET →
    exec (.pwrBudgetWrite v) ⟨d, q⟩ = .next ⟨((((d.put PWR_BUDGET_HOLD (bitsOf v 31 24)).put PWR_BUDGET_FLOOR
      (bitsOf v 17 16)).put PWR_BUDGET_BUDGET (bitsOf v 15 0)).budgetEval 3).commandDone, q⟩)
  ∧ (∀ (d : Dev) (q : List Instr), d.accepts PWR_REQ_ACT → d.pw.shipEntry = none → d.cur.ladder = true →
    d.planLive = false → d.sweepActive = false → d.pw.streamBound = false → d.boundMask = 0 →
    exec .enterShip ⟨d, q⟩ = .next ⟨((({ d with pw := { d.pw with trans := none, later := none, shipEntry := some .quiet } }).put
      PWR_STAT_TRANS 0).put PWR_STAT_TRANS 1).commandDone, q⟩)
  ∧ (∀ (d : Dev) (q : List Instr), d.accepts PWR_REQ_ACT → d.pw.shipEntry = none →
    d.cur.ladder = false ∨ d.planLive = true ∨ d.sweepActive = true ∨ d.pw.streamBound = true ∨ d.boundMask ≠ 0 →
    exec .enterShip ⟨d, q⟩ = .next ⟨((d.put PWR_STAT_REFUSED 1).raise 0xD002 0 []).commandDone, q⟩)
  ∧ (∀ (d : Dev) (q : List Instr), d.accepts PWR_REQ_ACT → d.pw.shipEntry = none → d.life ≠ lDeployed → d.cur ≠ .safe →
    d.cur ≠ .degraded → d.cur ≠ .legacy → d.cur ≠ .provision →
    exec .enterProvision ⟨d, q⟩ = .next ⟨(({ d with pw := { d.pw with
      trans := some ⟨.provision, 0x10⟩, later := if d.pw.trans.isSome then some (0, 3) else d.pw.later } }).put
      PWR_STAT_TRANS 1).commandDone, q⟩)
  ∧ (∀ (d : Dev) (q : List Instr), d.accepts PWR_REQ_ACT →
    d.life = lDeployed ∨ d.cur = .safe ∨ d.cur = .degraded ∨ d.cur = .legacy →
    exec .enterProvision ⟨d, q⟩ = .next ⟨((d.put PWR_STAT_REFUSED 1).raise 0xD002 0 []).commandDone, q⟩)
  ∧ (∀ (d : Dev) (q : List Instr), d.accepts PWR_REQ_ACT →
    (d.cur = .provision → exec .leaveProvision ⟨d, q⟩ = .next ⟨(({ d with pw := { d.pw with trans := some ⟨.watch, 0x10⟩ } }).put
      PWR_STAT_TRANS 1).commandDone, q⟩)
    ∧ (d.cur ≠ .provision → exec .leaveProvision ⟨d, q⟩
      = .next ⟨((d.put PWR_STAT_REFUSED 1).raise 0xD002 0 []).commandDone, q⟩))

/-- The end of HOLD evaluates the budget rule without it. A transition that completes raises MODE_CHANGED with its goal
and trigger, and the end of a start leaves the part started. The quiet end of a SHIP entry powers the part off with NVM
and role kept. L2 is noted at the head, which evaluates the rule. VSTK gates the buck of a member and means nothing at a
head. (R57, R60, R64, R66, R426, R532) -/
def Obligations.ModeChangesComplete : Prop :=
  (∀ (d : Dev) (q : List Instr), d.runs →
    exec .holdExpiry ⟨d, q⟩ = .next ⟨({ d with pw := { d.pw with hold := false } }).budgetEval 3, q⟩)
  ∧ (∀ (d : Dev) (q : List Instr) (t : Trans), d.runs → d.pw.starting = false → d.pw.trans = some t → t.goal ≠ .provision →
    d.cur.ladder = true → d.keepsEvents → (d.get PWR_STAT_CUR, d.get PWR_STAT_BASE) ≠ (t.goal.code, t.goal.code) →
    ∃ u, exec .modeTransitionDone ⟨d, q⟩ = .next u ∧ d.newEvent u.dev 0xD001 [t.goal.code, t.goal.code, t.trig])
  ∧ (∀ (d : Dev) (q : List Instr), d.runs → d.pw.starting = true →
    ∃ u, exec .modeTransitionDone ⟨d, q⟩ = .next u ∧ u.dev.pw.starting = false)
  ∧ (∀ (d : Dev) (q : List Instr) (b : BootObs), d.settled → d.pw.shipEntry = some .quiet → d.pw.off = false →
    ∃ u, exec (.shipEntryDone b) ⟨d, q⟩ = .next u ∧ u.dev.pw = { PowerSt.init with
      starting := false, off := true, vstkOk := d.pw.vstkOk } ∧ u.dev.role = d.role ∧ u.dev.nvm = d.nvm)
  ∧ (∀ (d : Dev) (q : List Instr), d.runs → d.role = .head →
    exec .linkL2Entry ⟨d, q⟩ = .next ⟨({ d with hif := { d.hif with l2 := true } }).budgetEval 3, q⟩)
  ∧ (∀ (d : Dev) (q : List Instr) (above : Bool), d.settled →
    (d.role = .member → exec (.vstkCrossing above) ⟨d, q⟩ = .next ⟨{ d with pw := { d.pw with vstkOk := above } }, q⟩)
    ∧ (d.role = .head → exec (.vstkCrossing above) ⟨d, q⟩ = .next ⟨d, q⟩))

/-- In SHIP a tone or the wake pin is recorded. In a running part a tone is counted and relayed once, and either wake
takes PATROL to DOZE; a device whose supply has collapsed with AFE-L takes neither. The end of a tone parks nothing: a
PARKED port goes DOWN and stays silent. A patrol check inside its band counts, and one outside is confirmed, shows its
cell and arms HOLD (log 58), and its event is raised once a mode is reached in which a link runs. A clock failure sets
its bit and raises its event. (R67, R68, R69, R72, R73, R80, R294, R309) -/
def Obligations.WakesComplete : Prop :=
  (∀ (d : Dev) (q : List Instr) (p : Port) (time : Nat), d.settled →
    (d.pw.off = true ∧ d.dead .afeL = false) ∨ d.pw.shipEntry.isSome = true →
    let e := d.atTime time
    exec (.wakeTone p time) ⟨d, q⟩ = .next ⟨{ e with pw := { e.pw with shipEntry := some (.tone p) } }, q⟩
    ∧ exec .wakePin ⟨d, q⟩ = .next ⟨{ d with pw := { d.pw with shipEntry := some .pin } }, q⟩)
  ∧ (∀ (d : Dev) (q : List Instr) (p : Port) (time : Nat), d.settled → d.pw.off = true → d.dead .afeL = true →
    d.pw.shipEntry = none → exec (.wakeTone p time) ⟨d, q⟩ = .next ⟨d.atTime time, q⟩ ∧ exec .wakePin ⟨d, q⟩ = .next ⟨d, q⟩)
  ∧ (∀ (d : Dev) (q : List Instr) (p : Port) (time : Nat), d.runs → d.pw.shipEntry = none →
    (∃ t, exec (.wakeTone p time) ⟨d, q⟩ = .next t ∧ t.dev.get SPN_TONE_RX = (d.get SPN_TONE_RX + 1) % 2 ^ 16
      ∧ ((d.atTime time).toneRecent (otherPort p) = false → ∃ b l k, t.dev.out = l ++ .tone (otherPort p) b :: k)
      ∧ (d.cur = .patrol → d.get PWR_STAT_BASE < 4 → d.pw.starting = false → d.pw.trans = none →
        t.dev.pw.trans = some ⟨.doze, 5⟩ ∧ t.dev.get PWR_STAT_TRANS = 1))
    ∧ (∃ t, exec .wakePin ⟨d, q⟩ = .next t ∧ t.dev.pw.hold = true
      ∧ (d.cur = .patrol → d.get PWR_STAT_BASE < 4 → d.pw.starting = false → d.pw.trans = none →
        t.dev.pw.trans = some ⟨.doze, 6⟩ ∧ t.dev.get PWR_STAT_TRANS = 1)))
  ∧ (∀ (d : Dev) (q : List Instr) (p : Port), d.settled → (d.lastTone p).isSome = true → d.pstate p = pParked →
    d.bit SPN_RING_OPEN = false ∨ d.hif.runs = [] →
    exec (.toneEnd p) ⟨d, q⟩ = .next ⟨(d.enterDown p 0).seeTimePort, q⟩
    ∧ (d.enterDown p 0).pstate p = pDown ∧ ((d.enterDown p 0).port p).silent = true)
  ∧ (∀ (d : Dev) (q : List Instr) (o : PatrolObs), d.runs → d.cur = .patrol → d.role = .member → d.bit PWR_PATROL_OWEN = false →
    (outside (10000 + 50 * d.get PWR_PBAND_LO) (10000 + 50 * d.get PWR_PBAND_HI) o.band d.cells = [] →
      exec (.patrolCheck o) ⟨d, q⟩ = .next ⟨d.countMod PWR_PSTAT_CNT 1, q⟩)
    ∧ (∀ n above more, outside (10000 + 50 * d.get PWR_PBAND_LO) (10000 + 50 * d.get PWR_PBAND_HI) o.band d.cells ≠ [] →
      outside (10000 + 50 * d.get PWR_PBAND_LO) (10000 + 50 * d.get PWR_PBAND_HI) o.bandR d.cells = (n, above) :: more →
      n ≤ 36 → ∃ t, exec (.patrolCheck o) ⟨d, q⟩ = .next t ∧ t.dev.get PWR_PSTAT_KIND = (if above then 1 else 2)
        ∧ t.dev.get PWR_PSTAT_CELL = n ∧ t.dev.pw.hold = true ∧ t.dev.pw.found = d.pw.found ++ [0xD010]))
  ∧ (∀ (d : Dev) (c : Nat), d.pw.found = [c] → d.lathe = true → 2 ≤ d.level →
    d.monitoring = true ∨ d.linkUp .north = true ∨ d.linkUp .south = true →
    d.reportFound = ({ d with pw := { d.pw with found := [] } }).raise c 0 []
      ∧ (d.keepsEvents → d.newEvent d.reportFound c []))
  ∧ (∀ (d : Dev) (q : List Instr) (i : Nat), d.settled → d.pw.off = false → i < 15 → d.clkAsked i = true →
    ∃ t, exec (.clockFail i) ⟨d, q⟩ = .next t ∧ t.dev.bitAt CLK_FAIL i = true
      ∧ (d.keepsEvents → d.newEvent t.dev 0xD030 [i]))

/-- POWER_ON_RESET and BROWN_OUT complete in every state: RSTCAUSE holds 0x01 or 0x02, the role is what HEADSEL says,
MTICK counts from 0, the build stays, the supply of the buck is what it was, the queue stays and no fuse heals. (R12,
R45, R46, R533) -/
def Obligations.PowerOnResetsComplete : Prop :=
  ∀ (d : Dev) (q : List Instr) (b : BootObs),
    (∃ t, exec (.powerOnReset b) ⟨d, q⟩ = .next t ∧ t.pending = q ∧ t.dev.get SYS_RSTCAUSE_CAUSE = 0x01
      ∧ t.dev.role = (if b.headsel then .head else .member) ∧ t.dev.build = d.build ∧ t.dev.mtick = 0
      ∧ t.dev.pw.off = false ∧ t.dev.pw.vstkOk = d.pw.vstkOk ∧ d.fz.le t.dev.fz)
    ∧ (∃ t, exec (.brownOut b) ⟨d, q⟩ = .next t ∧ t.pending = q ∧ t.dev.get SYS_RSTCAUSE_CAUSE = 0x02
      ∧ t.dev.role = (if b.headsel then .head else .member) ∧ t.dev.build = d.build ∧ t.dev.mtick = 0
      ∧ t.dev.pw.off = false ∧ t.dev.pw.vstkOk = d.pw.vstkOk ∧ d.fz.le t.dev.fz)

/-- Each cause starts a warm reset with its cause in RSTCAUSE where the specification gives one; MTICK goes on and the
role stays. The end of a trial reverts NEXT. A scrub that finds nothing changes nothing, a corrected error is reported,
and an uncorrectable one starts a warm reset. The end of a warm reset runs the image NEXT names, or the other where it
fails, and with none the part is dead. (R45, R48, R65, R292, R504, R502) -/
def Obligations.WarmResetsComplete : Prop :=
  (∀ (d : Dev) (q : List Instr), d.runs →
    ∃ t, exec .watchdogExpiry ⟨d, q⟩ = .next t ∧ t.dev.get SYS_RSTCAUSE_CAUSE = 0x10 ∧ t.dev.pw.warm = true
      ∧ t.dev.role = d.role ∧ t.dev.mtick = d.mtick)
  ∧ (∀ (d : Dev) (q : List Instr), d.accepts SYS_DRST_WARM →
    ∃ t, exec .drstWarm ⟨d, q⟩ = .next t ∧ t.dev.get SYS_RSTCAUSE_CAUSE = 0x11 ∧ t.dev.pw.warm = true
      ∧ t.dev.role = d.role ∧ t.dev.mtick = d.mtick)
  ∧ (∀ (d : Dev) (q : List Instr), d.runs → d.fw.rstDue = true →
    ∃ t, exec .fwActResetStart ⟨d, q⟩ = .next t ∧ t.dev.pw.warm = true ∧ t.dev.fw.rstDue = false
      ∧ t.dev.get FW_IMG_NEXT = d.get FW_IMG_NEXT)
  ∧ (∀ (d : Dev) (q : List Instr), d.runs → d.bit FW_IMG_TRIAL = true →
    ∃ t, exec .fwTrialExpiry ⟨d, q⟩ = .next t ∧ t.dev.pw.warm = true ∧ t.dev.get FW_IMG_TRIAL = 0
      ∧ t.dev.get FW_IMG_NEXT = 1 - d.get FW_IMG_RUN)
  ∧ (∀ (d : Dev) (q : List Instr), d.runs →
    exec (.memScrub .clean) ⟨d, q⟩ = .next ⟨d, q⟩
    ∧ exec (.memScrub .corrected) ⟨d, q⟩ = .next ⟨d.raise 0xB00E 0 [], q⟩
    ∧ ∃ t, exec (.memScrub .uncorrectable) ⟨d, q⟩ = .next t ∧ t.dev.pw.warm = true ∧ t.dev.mtick = d.mtick)
  ∧ (∀ (d : Dev) (q : List Instr) (a b : Bool) (iic : IicBusObs), d.settled → d.pw.warm = true → d.dead .core = true →
    exec (.warmResetEnd a b iic) ⟨d, q⟩ = .next ⟨d, q⟩)
  ∧ (∀ (d : Dev) (q : List Instr) (a b : Bool) (iic : IicBusObs), d.settled → d.pw.warm = true → d.pw.off = false →
    d.dead .core = false →
    ∃ t, exec (.warmResetEnd a b iic) ⟨d, q⟩ = .next t ∧ t.dev.pw.warm = false
      ∧ ((a || b) = true → t.dev.fw.dead = false
        ∧ t.dev.get FW_IMG_RUN = (if (if d.get FW_IMG_NEXT = 0 then a else b) then d.get FW_IMG_NEXT else 1 - d.get FW_IMG_NEXT))
      ∧ ((a || b) = false → t.dev.fw.dead = true))

/-- A die that resets takes the reset words of its registers and drops what it was doing: CORE with MTICK at 0, AFE with
its window length, PHY with its line check, BPD with its charge ledgers, Burl with SNO, HWP and the slots kept. A die that
does not come back has failed, and with AFE-L the whole of a member is off. The ordered die resets have the same effect.
(R45, R47, R48, R294) -/
def Obligations.DieResetsComplete : Prop :=
  (∀ (d : Dev) (q : List Instr) (lasting : Bool), d.settled → d.pw.off = false → d.dead .core = false →
    ∃ t, exec (.dieReset .core lasting) ⟨d, q⟩ = .next t ∧ t.dev.mtick = 0 ∧ t.dev.pw.warm = true ∧ t.dev.lcs = ⟨none, none⟩
      ∧ t.dev.get SYS_SVIOL_CNT = 0 ∧ t.dev.get FW_IMG_TRIAL = 0 ∧ t.dev.dead .core = lasting)
  ∧ (∀ (d : Dev) (q : List Instr) (a : Afe) (lasting : Bool), d.settled → d.pw.off = false → a ∈ d.banks →
    (a = .L → d.role = .member → lasting = false) →
    ∃ t, exec (.dieReset (afeDie a) lasting) ⟨d, q⟩ = .next t
      ∧ t.dev.word (CVW_WLEN a).addr = resetWord d.build d.role (CVW_WLEN a).addr ∧ t.dev.mtick = d.mtick)
  ∧ (∀ (d : Dev) (q : List Instr), d.settled → d.pw.off = false → d.role = .member →
    ∃ t, exec (.dieReset .afeL true) ⟨d, q⟩ = .next t ∧ t.dev.pw.off = true ∧ t.dev.dead .afeL = true
      ∧ t.dev.get PWR_STAT_CUR = 0)
  ∧ (∀ (d : Dev) (q : List Instr) (p : Port) (lasting : Bool), d.settled → d.pw.off = false → d.pstate p < pTrain →
    fits d.build (phyDie p) = true → d.dead (phyDie p) = false →
    exec (.dieReset (phyDie p) lasting) ⟨d, q⟩
      = .next ⟨((d.wipe (prtBase p) (prtBase p + 0x80000)).setPort p { d.port p with lineCheck := false }).when lasting
        (·.dieFails (phyDie p)), q⟩)
  ∧ (∀ (d : Dev) (q : List Instr) (a : Afe) (lasting : Bool), d.settled → d.pw.off = false → d.hasBpd a = true →
    d.sweepOn a = false →
    exec (.dieReset (bpdOf a) lasting) ⟨d, q⟩
      = .next ⟨((((d.wipe (bpsBase a) (bpsBase a + 0x80000)).dropLatches (bpsBase a) (bpsBase a + 0x80000)).when lasting
        (·.dieFails (bpdOf a))).ledgerReset a).balDieLost a, q⟩)
  ∧ (∀ (d : Dev) (q : List Instr) (lasting : Bool), d.settled → d.pw.off = false → d.burlWorks = true →
    ∃ t, exec (.dieReset .burl lasting) ⟨d, q⟩ = .next t ∧ t.dev.dead .burl = lasting ∧ t.dev.get RCD_STAT_ERR = 0 ∧ t.dev.get RCD_STAT_BUSY = 0
      ∧ t.dev.word RCD_SNO.addr = d.word RCD_SNO.addr ∧ t.dev.word RCD_HWP.addr = d.word RCD_HWP.addr
      ∧ (d.cap.snap = none → t.dev.get RCD_STAT_NEXT = d.get RCD_STAT_NEXT ∧ t.dev.burl = d.burl))
  ∧ (∀ (d : Dev) (q : List Instr), d.pstate .north < pTrain → d.accepts SYS_DRST_PHYN → fits d.build .phyN = true → d.dead .phyN = false →
    ∃ t, exec .drstPhyn ⟨d, q⟩ = .next t ∧ (∀ a, prtBase .north ≤ a → a < prtBase .north + 0x80000 →
      t.dev.word a = resetWord d.build d.role a) ∧ (t.dev.port .north).lineCheck = false)
  ∧ (∀ (d : Dev) (q : List Instr), d.pstate .south < pTrain → d.accepts SYS_DRST_PHYS → fits d.build .phyS = true → d.dead .phyS = false →
    ∃ t, exec .drstPhys ⟨d, q⟩ = .next t ∧ (∀ a, prtBase .south ≤ a → a < prtBase .south + 0x80000 →
      t.dev.word a = resetWord d.build d.role a) ∧ (t.dev.port .south).lineCheck = false)
  ∧ (∀ (d : Dev) (q : List Instr), d.accepts SYS_DRST_BPDL → d.hasBpd .L = true →
    ∃ t, exec .drstBpdl ⟨d, q⟩ = .next t ∧ (∀ a, bpsBase .L + 0x100 ≤ a → a < bpsBase .L + 0x80000 →
      t.dev.word a = resetWord d.build d.role a) ∧ t.dev.bal.led = d.bal.led.zipIdx.map (fun (s, j) => if j < 18 then emptyLed else s))
  ∧ (∀ (d : Dev) (q : List Instr), d.accepts SYS_DRST_BPDU → d.hasBpd .U = true →
    ∃ t, exec .drstBpdu ⟨d, q⟩ = .next t ∧ (∀ a, bpsBase .U + 0x100 ≤ a → a < bpsBase .U + 0x80000 →
      t.dev.word a = resetWord d.build d.role a) ∧ t.dev.bal.led = d.bal.led.zipIdx.map (fun (s, j) => if 18 ≤ j then emptyLed else s))
  ∧ (∀ (d : Dev) (q : List Instr), d.accepts SYS_DRST_BURL → d.burlWorks = true → d.cap.snap = none →
    ∃ t, exec .drstBurl ⟨d, q⟩ = .next t ∧ t.dev.get RCD_STAT_ERR = 0 ∧ t.dev.get RCD_STAT_BUSY = 0
      ∧ t.dev.get RCD_STAT_NEXT = d.get RCD_STAT_NEXT ∧ t.dev.burl.slots = d.burl.slots)

/-- An integration start advances time, opens the window and sets INTEG of every die whose converters are wanted, and
the era moves on where they have run before. A fast-window boundary at its MTICK advances time to it and closes and
opens the window. (R89, R93, R107) -/
def Obligations.IntegrationAndBoundaryComplete : Prop :=
  (∀ (d : Dev) (q : List Instr) (m : Nat), d.settled → d.monitoring = true → d.mtick ≤ m → (∃ a ∈ d.banks, d.convWanted a = true
      ∧ d.integrates a = false) → d.evalTrain = d → (d.win.opened = true → (m : Int) ≤ d.nextBoundary) →
    ∃ t, exec (.integrationStart m) ⟨d, q⟩ = .next t ∧ t.dev.mtick = m ∧ t.dev.win.opened = true
      ∧ (∀ a ∈ d.banks, d.convWanted a = true → t.dev.get (CVW_STAT_INTEG a) = 1)
      ∧ (d.win.opened = false → t.dev.win.openTick = m)
      ∧ (Afe.L ∈ d.banks → d.convWanted .L = true → d.integrates .L = false →
        t.dev.win.eraL = (if d.win.ranL then (d.win.eraL + 1) % 256 else d.win.eraL)))
  ∧ (∀ (d : Dev) (q : List Instr) (w : WinIn), d.settled → d.monitoring = true → d.win.opened = true →
    (w.mtick : Int) = d.nextBoundary → d.mtick ≤ w.mtick →
    exec (.fastWindowBoundary w) ⟨d, q⟩ = .next ⟨(d.advanceTo w.mtick).boundary w, q⟩
    ∧ ((d.advanceTo w.mtick).boundary w).mtick = w.mtick)

/-- At the close of a window the result of a channel whose window is whole is its charge over the length in cycles,
rounded with halves up, less the shared-path compensation; otherwise it reads INV. The latched accumulator grows by the
charge, and WSEQ is that of the boundary. (R85, R87, R90, R101, R104, R113) -/
def Obligations.WindowResults : Prop :=
  ∀ (d : Dev) (w : WinIn) (comp : Nat → Option Int) (wire : Nat → Bool) (n : Nat), n ∈ d.channels →
    let len := d.win.ccyc - d.win.openCcyc
    let c := winChan w n
    let e := d.closeWindow w comp wire id
    let f := CVW_FRES (chanAt n).1 (chanAt n).2
    (d.wholeWindow n c = true → e.getS f = clampCode n (roundDiv c.delta len - (comp n).getD 0))
    ∧ (d.wholeWindow n c = false → e.getS f = -2147483648 ∧ e.get (CVW_FFLG (chanAt n).1 (chanAt n).2) % 2 = 1)
    ∧ (d.chanRuns n = true → d.win.carry = List.replicate 38 0 →
      e.get64 (CVW_CINTL (chanAt n).1 (chanAt n).2) (CVW_CINTH (chanAt n).1 (chanAt n).2)
        = (((((d.get64 (CVW_CINTL (chanAt n).1 (chanAt n).2) (CVW_CINTH (chanAt n).1 (chanAt n).2) : Nat) : Int) + c.delta) % 2 ^ 64).toNat))
    ∧ e.get (CVW_WSEQ (chanAt n).1) = wseqAt d.wlen d.epoch d.mtick

/-- A block of a closed window is stored and streamed with its flags. A mark joins the window in progress, replaces an
earlier one with MRKOVW, waits for its window, or is late with its event. A forced capture is noted as a source. A copy
to Burl ends in its slot with NEXT moved on and its event, or fails with the slot bad and the buffer held; a thaw
releases the buffer. (R100, R114, R115, R478, R482, R484, R485, R487) -/
def Obligations.WindowAndRecorderCommandsComplete : Prop :=
  (∀ (d : Dev) (q : List Instr) (c : Closed), d.settled → d.monitoring = true → d.win.closed = some c → c.srcs = 0 →
    d.bit FW_CAPST_FROZEN = false → d.bit FW_CAPST_POSTING = false → d.cap.snap = none →
    let c' := { c with bflags := (c.bflags + flagBit (c.eral ≠ d.win.prevEraL) 2 + flagBit (c.erau ≠ d.win.prevEraU) 3
      + flagBit d.win.miss 4) }
    let e := { d with win := { d.win with closed := none, miss := false, prevEraL := c.eral, prevEraU := c.erau } }
    exec .blockFormation ⟨d, q⟩ = .next ⟨(e.capStore ⟨c.wseq, c.tick, e.blockOf c' false⟩).streamOut c', q⟩)
  ∧ (∀ (d : Dev) (q : List Instr) (v : Word), d.accepts (CVW_MARK_CODE .L) →
    (bitsOf v 8 8 = 0 → d.win.mark = none → (∀ m ∈ d.win.markAt, d.markNow ≠ some m.1) →
      exec (.mark v) ⟨d, q⟩ = .next ⟨({ d with win := { d.win with mark := some (bitsOf v 7 0) } }).commandDone, q⟩)
    ∧ (bitsOf v 8 8 = 0 → d.win.mark.isSome = true ∨ (∃ m ∈ d.win.markAt, d.markNow = some m.1) →
      exec (.mark v) ⟨d, q⟩
        = .next ⟨({ d.put (CVW_STAT_MRKOVW .L) 1 with win := { d.win with
          mark := some (bitsOf v 7 0), markAt := d.win.markAt.filter (fun m => d.markNow ≠ some m.1) } }).commandDone, q⟩)
    ∧ (bitsOf v 8 8 = 1 → d.win.mark = none → (∀ m ∈ d.win.markAt, d.markNow ≠ some m.1) →
      (d.get (CVW_WSEQ .L) + 2 ^ 32 - d.get (CVW_MARKW .L)) % 2 ^ 32 < 2 ^ 31 →
      exec (.mark v) ⟨d, q⟩ = .next ⟨((({ d with win := { d.win with mark := some (bitsOf v 7 0) } }).put
        (CVW_STAT_LATE .L) 1).raise 0x1005 1 []).commandDone, q⟩)
    ∧ (bitsOf v 8 8 = 1 → (∀ m ∈ d.win.markAt, m.1 ≠ d.get (CVW_MARKW .L)) →
      (d.markNow = some (d.get (CVW_MARKW .L)) → d.win.mark = none) →
      2 ^ 31 ≤ (d.get (CVW_WSEQ .L) + 2 ^ 32 - d.get (CVW_MARKW .L)) % 2 ^ 32 →
      exec (.mark v) ⟨d, q⟩ = .next ⟨({ d with win := { d.win with
        markAt := (d.get (CVW_MARKW .L), bitsOf v 7 0) :: d.win.markAt } }).commandDone, q⟩))
  ∧ (∀ (d : Dev) (q : List Instr), d.accepts (CVW_CAPT_FORCE .L) →
    exec .captureForce ⟨d, q⟩ = .next ⟨({ d with win := { d.win with capSrc := d.win.capSrc ||| 32 } }).commandDone, q⟩)
  ∧ (∀ (d : Dev) (q : List Instr) (s : Snap) (i : Nat), d.settled → d.bit FW_CAPST_FROZEN = true → d.cap.snap = some s →
    s.slot = some i → i < d.burl.slots.length →
    ∃ t, exec .snapshotCopyDone ⟨d, q⟩ = .next t ∧ t.dev.get RCD_STAT_NEXT = (i + 1) % 12 ∧ t.dev.get RCD_STAT_BUSY = 0
      ∧ t.dev.get FW_CAPST_FROZEN = 0 ∧ t.dev.get FW_CAPST_HELD = 0 ∧ t.dev.cap = { d.cap with snap := none }
      ∧ (∃ o, t.dev.burl.slots[i]? = some o ∧ o.state = 2 ∧ o.prot = (d.burlSlot i).prot
        ∧ o.data = overlay d.capBytes (d.burlSlot i).data)
      ∧ (d.keepsEvents → d.newEvent t.dev 0xC001 [i, leNat (bytesAt (d.burlSlot i).entry 2 4), s.twseq, s.srcs]))
  ∧ (∀ (d : Dev) (q : List Instr), d.accepts FW_CAPCTL_THAW →
    (d.bit FW_CAPST_HELD = true → exec .captureThaw ⟨d, q⟩
      = .next ⟨((({ d with cap := { d.cap with snap := none } }).put FW_CAPST_FROZEN 0).put FW_CAPST_HELD 0).commandDone, q⟩)
    ∧ (d.bit FW_CAPST_HELD = false → exec .captureThaw ⟨d, q⟩ = .next ⟨d.commandDone, q⟩))
  ∧ (∀ (d : Dev) (q : List Instr) (addr : Nat), d.runs → d.build = .F →
    (d.cap.snap = none → ∀ w, exec (.burlError addr w) ⟨d, q⟩ = .next ⟨(d.put RCD_STAT_ERR 1).raise 0xC004 0 [addr], q⟩)
    ∧ (∀ s i, d.cap.snap = some s → s.slot = some i → i < d.burl.slots.length →
      ∃ t, exec (.burlError addr true) ⟨d, q⟩ = .next t ∧ t.dev.get RCD_STAT_ERR = 1 ∧ t.dev.get RCD_STAT_BUSY = 0
        ∧ t.dev.get FW_CAPST_HELD = 1 ∧ t.dev.cap.snap = some { s with slot := none }
        ∧ (∃ o, t.dev.burl.slots[i]? = some o ∧ o.state = 3)
        ∧ (d.keepsEvents → d.newEvent t.dev 0xC004 [addr])))

/-- The aux sequencer: a trigger starts a waiting pass or entry, is divided, or is counted as missed; enabling and
stopping, which lets an entry in progress finish; the start of a pass and the end of an entry delay; the result, OVR, NEW
and PASS of an entry. An urgent conversion starts, or is dropped where the converter is busy or in calibration or a
request of the diagnostics comes in the same cycle, and ends with its result. A plausibility slot gathers one sample of
each wire, and one that finds the converter in an entry is lost. (R130, R132, R133, R135, R137, R140, R141, R142, R145) -/
def Obligations.AuxCommandsComplete : Prop :=
  (∀ (d : Dev) (q : List Instr) (a : Afe), d.accepts (AUX_CTRL_GO a) → a ∈ d.banks → d.auxRun a = true →
    d.bit (AUX_STAT_DONE a) = false →
    ((d.aux a).phase = .waitPass → exec (.auxGo a) ⟨d, q⟩ = .next ⟨(d.auxTo a .delay).commandDone, q⟩)
    ∧ (∀ e, (d.aux a).phase = .waitEntry e → exec (.auxGo a) ⟨d, q⟩ = .next ⟨(d.auxTo a (.dly e)).commandDone, q⟩)
    ∧ (∀ e, (d.aux a).phase = .conv e → d.get (AUX_TMISS a) ≠ 0 →
      exec (.auxGo a) ⟨d, q⟩ = .next ⟨(d.countSat (AUX_TMISS a) 1).commandDone, q⟩))
  ∧ (∀ (d : Dev) (q : List Instr) (a : Afe), d.accepts (AUX_CTRL_GO a) → d.auxUp a = true → d.bit (AUX_CTRL_EN a) = true →
    d.bit (AUX_STAT_DONE a) = true → (d.aux a).phase = .stopped →
    ∃ t, exec (.auxGo a) ⟨d, q⟩ = .next t ∧ (t.dev.aux a).phase = .delay ∧ (t.dev.aux a).left = d.auxLoop a
      ∧ t.dev.get (AUX_STAT_DONE a) = 0)
  ∧ (∀ (d : Dev) (q : List Instr) (a : Afe), d.accepts (AUX_CTRL_EN a) → d.auxUp a = true →
    ((d.aux a).phase = .stopped → (d.aux a).left ≠ some 0 →
      exec (.auxEnable a true) ⟨d, q⟩ = .next ⟨((d.put (AUX_CTRL_EN a) 1).auxTo a .waitPass).commandDone, q⟩)
    ∧ ((d.aux a).phase = .waitPass →
      exec (.auxEnable a false) ⟨d, q⟩ = .next ⟨((d.put (AUX_CTRL_EN a) 0).auxTo a .stopped).commandDone, q⟩)
    ∧ (∀ e, (d.aux a).phase = .conv e →
      exec (.auxEnable a false) ⟨d, q⟩
        = .next ⟨((d.put (AUX_CTRL_EN a) 0).setAux a { d.aux a with halt := true }).commandDone, q⟩))
  ∧ (∀ (d : Dev) (q : List Instr) (a : Afe) (src : AuxSrc), d.settled → d.get (AUX_TRIG_SRC a) = auxSrcCode src →
    d.auxRun a = true → (src = .extpwm → a = .L ∧ d.get (AUX_TRIG_EDGE a) ≠ 0) →
    (src = .bsw → d.bit (BPS_STAT_SW a) = true) → (d.aux a).phase = .waitPass →
    (src = .timer ∨ d.get (AUX_TRIG_TDIV a) ≤ (d.aux a).div →
      exec (.auxTriggerEvent a src) ⟨d, q⟩ = .next ⟨(d.setAux a { d.aux a with div := 0 }).auxTo a .delay, q⟩)
    ∧ (src ≠ .timer → (d.aux a).div < d.get (AUX_TRIG_TDIV a) →
      exec (.auxTriggerEvent a src) ⟨d, q⟩ = .next ⟨d.setAux a { d.aux a with div := (d.aux a).div + 1 }, q⟩))
  ∧ (∀ (d : Dev) (q : List Instr) (a : Afe), d.settled → (d.aux a).phase = .delay → d.auxRun a = true → d.inCal a = false →
    (∀ g, d.pend (auxBase a) g = false) →
    exec (.auxPassStart a) ⟨d, q⟩
      = .next ⟨d.auxTo a (if d.bit (AUX_ENTA_WAITTRG a 0) then .waitEntry 0 else .dly 0), q⟩)
  ∧ (∀ (d : Dev) (q : List Instr) (a : Afe), d.settled → d.get (AUX_TRIG_SRC a) = auxSrcCode .bsw →
    d.bit (BPS_STAT_SW a) = false → exec (.auxTriggerEvent a .bsw) ⟨d, q⟩ = .next ⟨d, q⟩)
  ∧ (∀ (d : Dev) (q : List Instr) (a : Afe) (m k : Nat), d.settled → (d.aux a).phase = .dly k →
    let e := d.atTick m
    ((d.aux a).urgent = none → (d.aux a).plaus = none →
      exec (.auxDlyExpiry a m) ⟨d, q⟩ = .next ⟨(e.setAux a { d.aux a with
        prev := some (d.get (AUX_ENTA_INPUT a k), d.get (AUX_ENTB_SEL a k)) }).auxTo a (.conv k), q⟩)
    ∧ ((d.aux a).urgent.isSome = true → exec (.auxDlyExpiry a m) ⟨d, q⟩ = .next ⟨e.auxTo a (.ready k), q⟩))
  ∧ (∀ (d : Dev) (q : List Instr) (a : Afe) (m k : Nat) (convs : List SarConv), d.settled → (d.aux a).phase = .conv k → k < 32 →
    convs.length = d.get (AUX_ENTA_REPM1 a k) + 1 →
    ∃ t, exec (.auxEntryComplete a convs m) ⟨d, q⟩ = .next t ∧ t.dev.get (AUX_RES_CODE a k) = (sarResult convs).1 % 2 ^ 16
      ∧ t.dev.bit (AUX_RES_OVR a k) = (sarResult convs).2 ∧ t.dev.get (AUX_RES_NEW a k) = 1
      ∧ t.dev.get (AUX_RES_PASS a k) = d.get (AUX_STAT_PASSCNT a) % 256)
  ∧ (∀ (d : Dev) (q : List Instr) (a : Afe) (sel input : Nat), d.accepts (AUX_URG_GO a) → d.auxUp a = true →
    (d.sarBusy a = false → d.inCal a = false → exec (.auxUrgGo a sel input none) ⟨d, q⟩
      = .next ⟨((((((d.put (AUX_URG_SEL a) sel).put (AUX_URG_INPUT a) input).setAux a { d.aux a with
          urgent := some true, prev := some (input, sel) }).put (AUX_URES_DROP a) 0).put (AUX_STAT_BUSY a) 1)).commandDone, q⟩)
    ∧ (∀ s i, d.sarBusy a = false → d.inCal a = false → ∃ t, exec (.auxUrgGo a sel input (some (s, i))) ⟨d, q⟩ = .next t
      ∧ t.dev.aux a = { d.aux a with urgent := some false, prev := some (i, s) } ∧ t.dev.get (AUX_URES_DROP a) = 1)
    ∧ (∀ diag, d.sarBusy a = true ∨ d.inCal a = true → ∃ t, exec (.auxUrgGo a sel input diag) ⟨d, q⟩ = .next t
      ∧ t.dev.get (AUX_URES_DROP a) = 1 ∧ t.dev.aux a = d.aux a ∧ d.get (AUX_DROP a) ≤ t.dev.get (AUX_DROP a)))
  ∧ (∀ (d : Dev) (q : List Instr) (a : Afe) (m : Nat) (c : SarConv), d.settled → (d.aux a).urgent.isSome = true →
    ∃ t, exec (.urgentResult a c m) ⟨d, q⟩ = .next t ∧ t.dev.get (AUX_URES_CODE a) = (sarResult [c]).1 % 2 ^ 16
      ∧ t.dev.bit (AUX_URES_OVR a) = (sarResult [c]).2 ∧ t.dev.get (AUX_URES_DONE a) = 1 ∧ (t.dev.aux a).urgent = none)
  ∧ (∀ (d : Dev) (q : List Instr) (a : Afe) (p : PlausWin) (convs : List SarConv), d.settled → (d.aux a).plaus = some p →
    p.next < p.samples → d.sarBusy a = false → convs.length = p.jobs.length → d.slotAt p p.next < d.nextBoundary →
    (∀ e, (d.aux a).phase ≠ .ready e) →
    ∃ t, exec (.plausibilitySlot a convs) ⟨d, q⟩ = .next t ∧ t.dev.mtick = max (d.slotAt p p.next).toNat d.mtick
      ∧ (t.dev.aux a).plaus = some { p with next := p.next + 1, sums := (p.sums.zip convs).map (fun (s, c) =>
          (s.1 + (sarResult [c]).1, s.2 || (sarResult [c]).2)) })
  ∧ (∀ (d : Dev) (q : List Instr) (a : Afe) (p : PlausWin) (convs : List SarConv), d.settled → (d.aux a).plaus = some p →
    p.next < p.samples → (d.aux a).phase.onSar = true →
    exec (.plausibilitySlot a convs) ⟨d, q⟩ = .next ⟨d.setAux a { d.aux a with
      plaus := some { p with next := p.next + 1, skipped := true } }, q⟩)

/-- From IDLE, BEGIN and REFRESH open a session or are refused with RESULT, FACTORY starts its store, and the other
steps set SEQERR. In READY, the points are measured, ABORT ends the session, APPLY takes the new set or ends with the
reason and channel it fails on, also while a point is measured anew, and BEGIN, REFRESH and FACTORY set SEQERR. An unlisted code sets SEQERR. (R155, R157,
R161, R165, R166, R170) -/
def Obligations.CalibrationStepsComplete : Prop :=
  (∀ (d : Dev) (q : List Instr) (a : Afe), d.accepts (CAL_CTRL_STEP a) → a ∈ d.banks → d.calIdle a = true →
    (d.calRefusal a false = none → ∃ t s, exec (.calBegin a) ⟨d, q⟩ = .next t ∧ t.dev.get (CAL_STAT_STATE a) = 1
      ∧ (t.dev.cal a).sess = some s ∧ s.phase = .entering ∧ s.refresh = false ∧ s.inside = false ∧ s.ending = none
      ∧ s.stk = d.get (CAL_CFG_STK a) ∧ s.stab = d.get (CAL_CFG_STAB a))
    ∧ (∀ r, d.calRefusal a false = some r → ∃ t, exec (.calBegin a) ⟨d, q⟩ = .next t ∧ t.dev.get (CAL_STAT_RESULT a) = r
      ∧ t.dev.cal a = d.cal a)
    ∧ (d.get (CAL_STAT_SRC a) ≠ 0 → d.calRefusal a true = none → ∃ t s, exec (.calRefresh a) ⟨d, q⟩ = .next t
      ∧ t.dev.get (CAL_STAT_STATE a) = 1 ∧ (t.dev.cal a).sess = some s ∧ s.phase = .entering ∧ s.refresh = true ∧ s.ending = none)
    ∧ exec (.calFactory a) ⟨d, q⟩
      = .next ⟨((d.setCal a { d.cal a with factory := true, factoryIcal := d.bit (CAL_CFG_ICAL a) }).put
        (CAL_STAT_STATE a) 7).commandDone, q⟩
    ∧ exec (.calAbort a) ⟨d, q⟩ = .next ⟨(d.put (CAL_STAT_SEQERR a) 1).commandDone, q⟩
    ∧ exec (.calPointLo a) ⟨d, q⟩ = .next ⟨(d.put (CAL_STAT_SEQERR a) 1).commandDone, q⟩
    ∧ exec (.calPointHi a) ⟨d, q⟩ = .next ⟨(d.put (CAL_STAT_SEQERR a) 1).commandDone, q⟩
    ∧ exec (.calApply a) ⟨d, q⟩ = .next ⟨(d.put (CAL_STAT_SEQERR a) 1).commandDone, q⟩)
  ∧ (∀ (d : Dev) (q : List Instr) (a : Afe) (s : CalSess), d.accepts (CAL_CTRL_STEP a) → a ∈ d.banks →
    (d.cal a).sess = some s → s.refresh = false → s.phase = .ready → s.ending = none →
    exec (.calPointLo a) ⟨d, q⟩ = .next ⟨((d.setSess a (some { s with phase := .lo, reads := [], discard := false })).put
      (CAL_STAT_STATE a) 3).commandDone, q⟩
    ∧ exec (.calPointHi a) ⟨d, q⟩ = .next ⟨((d.setSess a (some { s with phase := .hi, reads := [], discard := false })).put
      (CAL_STAT_STATE a) 4).commandDone, q⟩
    ∧ exec (.calAbort a) ⟨d, q⟩ = .next ⟨(d.setSess a (some { s with ending := some 2 })).commandDone, q⟩
    ∧ exec (.calBegin a) ⟨d, q⟩ = .next ⟨(d.put (CAL_STAT_SEQERR a) 1).commandDone, q⟩
    ∧ exec (.calRefresh a) ⟨d, q⟩ = .next ⟨(d.put (CAL_STAT_SEQERR a) 1).commandDone, q⟩
    ∧ exec (.calFactory a) ⟨d, q⟩ = .next ⟨(d.put (CAL_STAT_SEQERR a) 1).commandDone, q⟩
    ∧ (∀ lo hi, s.mlo = some lo → s.mhi = some hi →
      (∀ set, (d.put (CAL_STAT_STATE a) 7).newSet a s lo hi = (set, none) →
        exec (.calApply a) ⟨d, q⟩ = .next ⟨((d.put (CAL_STAT_STATE a) 7).setSess a (some { s with
          phase := .refs, set := some set, reads := [], discard := true })).commandDone, q⟩)
      ∧ (∀ set k r, (d.put (CAL_STAT_STATE a) 7).newSet a s lo hi = (set, some (k, r)) →
        ∃ t, exec (.calApply a) ⟨d, q⟩ = .next t ∧ (t.dev.cal a).sess = some { s with ending := some r }
          ∧ t.dev.get (CAL_STAT_CH a) = k)))
  ∧ (∀ (d : Dev) (q : List Instr) (a : Afe) (s : CalSess) (lo hi : List Int), d.accepts (CAL_CTRL_STEP a) → a ∈ d.banks →
    (d.cal a).sess = some s → s.refresh = false → s.phase = .lo ∨ s.phase = .hi → s.ending = none → s.mlo = some lo →
    s.mhi = some hi → ∀ set, (d.put (CAL_STAT_STATE a) 7).newSet a s lo hi = (set, none) →
      exec (.calApply a) ⟨d, q⟩ = .next ⟨((d.put (CAL_STAT_STATE a) 7).setSess a (some { s with
        phase := .refs, set := some set, reads := [], discard := true })).commandDone, q⟩)
  ∧ (∀ (d : Dev) (q : List Instr) (a : Afe) (code : Nat), d.accepts (CAL_CTRL_STEP a) → a ∈ d.banks →
    code = 0 ∨ (7 ≤ code ∧ code ≤ 14) →
    exec (.calStepUnlisted a code) ⟨d, q⟩ = .next ⟨(d.put (CAL_STAT_SEQERR a) 1).commandDone, q⟩)

/-- A point or a session that runs out ends the session with its reason. A reading is discarded where it has to be, kept
while fewer than STK are there, and a stable point gives the mean of its readings per channel and returns to READY. A
store that ends writes the set to NVM where it succeeds, and its RESULT. (R161, R162, R163, R168) -/
def Obligations.CalibrationProgressCompletes : Prop :=
  (∀ (d : Dev) (q : List Instr) (a : Afe) (s : CalSess), d.settled → (d.cal a).sess = some s → s.ending = none →
    (s.measuring = true →
      exec (.calPointTimeout a) ⟨d, q⟩ = .next ⟨d.setSess a (some { s with ending := some 3 }), q⟩)
    ∧ (s.refresh = false → s.phase = .ready →
      exec (.calSessionTimeout a) ⟨d, q⟩ = .next ⟨d.setSess a (some { s with ending := some 6 }), q⟩)
    ∧ (∀ codes, s.measuring = true → s.discard = true →
      exec (.calReadingEnd a codes) ⟨d, q⟩ = .next ⟨d.setSess a (some { s with discard := false }), q⟩)
    ∧ (∀ codes, s.measuring = true → s.discard = false → s.reads.length + 1 < s.stk →
      exec (.calReadingEnd a codes) ⟨d, q⟩ = .next ⟨d.setSess a (some { s with reads := codes :: s.reads }), q⟩)
    ∧ (∀ codes, s.measuring = true → s.discard = false → s.phase = .lo → ((codes :: s.reads).take s.stk).length = s.stk →
      (∀ k ∈ d.calChannels a s.ical, spread (chanReads ((codes :: s.reads).take s.stk) k) ≤ s.stab) →
      ∃ t s', exec (.calReadingEnd a codes) ⟨d, q⟩ = .next t ∧ t.dev.get (CAL_STAT_STATE a) = 2 ∧ (t.dev.cal a).sess = some s'
        ∧ s'.phase = .ready ∧ s'.mhi = s.mhi
        ∧ s'.mlo = some ((rangeL 1 19).map (fun k => if (d.calChannels a s.ical).contains k
          then roundDiv ((chanReads ((codes :: s.reads).take s.stk) k).foldl (· + ·) 0) s.stk else 0))))
  ∧ (∀ (d : Dev) (q : List Instr) (a : Afe) (set : TrimSet) (ical ok : Bool), d.settled → (d.cal a).store = some (set, ical) →
    ∃ t, exec (.calNvmStoreDone a ok) ⟨d, q⟩ = .next t ∧ (t.dev.cal a).store = none ∧ t.dev.get (CAL_STAT_STATE a) = 0
      ∧ t.dev.get (CAL_STAT_RESULT a) = (if ok then 1 else 12) ∧ t.dev.storedSet a = (if ok then set else d.storedSet a))

/-- A start makes a plan pending; a stop ends a plan, at once where no stage runs, or takes back one that is pending. At
the end of a switching period the ledger of a cell grows by what its stage metered, and a stop takes effect. The meters
of a balancing die write its power and temperature and set and clear its overtemperature flag. (R176, R181, R184, R186,
R189, R190) -/
def Obligations.BalancingCommandsComplete : Prop :=
  (∀ (d : Dev) (q : List Instr), d.accepts BAL_CTRL_START →
    (d.planLive = false →
      exec .balStart ⟨d, q⟩ = .next ⟨((d.put BAL_STAT_SPEND 1).budgetEval 3).commandDone, q⟩)
    ∧ (d.planLive = true → exec .balStart ⟨d, q⟩ = .next ⟨d.commandDone, q⟩))
  ∧ (∀ (d : Dev) (q : List Instr), d.accepts BAL_CTRL_STOP →
    (d.bit BAL_STAT_ACTIVE = true → d.bal.live = [] → ∃ t, exec .balStop ⟨d, q⟩ = .next t ∧ t.dev.get BAL_STAT_ACTIVE = 0
      ∧ t.dev.get BAL_STAT_ENDC = 3 ∧ t.dev.get BAL_STAT_PAUSE = 0
      ∧ (∀ n ∈ d.allCells, d.inPlan n = true → t.dev.cellState n = csStopped))
    ∧ (d.bit BAL_STAT_ACTIVE = true → d.bal.live ≠ [] →
      exec .balStop ⟨d, q⟩ = .next ⟨({ d with bal := { d.bal with stop := true } }).commandDone, q⟩)
    ∧ (d.bit BAL_STAT_ACTIVE = false → d.bit BAL_STAT_SPEND = true →
      exec .balStop ⟨d, q⟩ = .next ⟨((d.put BAL_STAT_SPEND 0).budgetEval 3).commandDone, q⟩))
  ∧ (∀ (d : Dev) (q : List Instr) (a : Afe), d.settled → d.hasBpd a = true → d.tbRuns = true →
    (∀ (mt mv : Nat) (m : StageMeter), m.cell ∈ d.bal.live → bankOf m.cell = a → 1 ≤ m.cell → m.cell ≤ d.bal.led.length →
      ∃ t, exec (.switchingPeriodEnd a [m] mt mv) ⟨d, q⟩ = .next t
        ∧ t.dev.bal.led[m.cell - 1]? = some { d.stageLed m.cell with
          qc := (d.stageLed m.cell).qc + m.qc, ec := (d.stageLed m.cell).ec + m.ec, em := (d.stageLed m.cell).em + m.em
          es := (d.stageLed m.cell).es + m.es, ip2 := (d.stageLed m.cell).ip2 + m.ip2, is2 := (d.stageLed m.cell).is2 + m.is2 })
    ∧ (∀ mt mv, d.bal.stop = true → d.bit BAL_STAT_ACTIVE = true →
      ∃ t, exec (.switchingPeriodEnd a [] mt mv) ⟨d, q⟩ = .next t
      ∧ t.dev.get BAL_STAT_ACTIVE = 0 ∧ t.dev.get BAL_STAT_ENDC = 3 ∧ t.dev.bal.stop = false))
  ∧ (∀ (d : Dev) (q : List Instr) (a : Afe) (mw : Nat) (tj : Int), d.settled → d.hasBpd a = true →
    (∃ t, exec (.bpdMeterInterval a mw tj) ⟨d, q⟩ = .next t ∧ t.dev.get (BPS_PDISS a) = min 65535 mw
      ∧ t.dev.getS (BPS_STAT_TJ a) = max (-32768) (min 32767 tj))
    ∧ (∃ t, exec (.bpdOvertemp a tj) ⟨d, q⟩ = .next t ∧ t.dev.get (BPS_STAT_OTS a) = 1
      ∧ t.dev.getS (BPS_STAT_TJ a) = max (-32768) (min 32767 tj))
    ∧ (d.bit (BPS_STAT_OTS a) = true → ∃ t, exec (.bpdTempRecovered a tj) ⟨d, q⟩ = .next t
      ∧ t.dev.get (BPS_STAT_OTS a) = 0 ∧ t.dev.getS (BPS_STAT_TJ a) = max (-32768) (min 32767 tj)))

/-- ARM takes a sweep that lies far enough ahead on a member that can sweep, and is refused with its RESULT and event
otherwise. ABORT ends an armed or running sweep, and one whose last point is already complete completes. A tap probe counts a weak current and clears the count of a good one. A
junction check is queued for a wire that exists while the wiring checks run. (R214, R220, R235, R237) -/
def Obligations.ImpedanceAndWiringCommandsComplete : Prop :=
  (∀ (d : Dev) (q : List Instr), d.accepts IMP_CTRL_ARM → d.impQuiet = true →
    (d.build ≠ .B → d.role = .member → d.mtick + 6000 ≤ d.sweepStart →
      exec .impArm ⟨d, q⟩ = .next ⟨(((({ d with imp := { d.imp with res := [] } }).put IMP_STAT_RESULT 0).put
        IMP_STAT_CHK 0).put IMP_STAT_STATE 1).commandDone, q⟩)
    ∧ (d.build ≠ .B → d.role = .member → d.sweepStart < d.mtick + 6000 →
      exec .impArm ⟨d, q⟩
        = .next ⟨(((d.put IMP_STAT_RESULT 8).put IMP_STAT_CHK 0).raise 0x5005 0 [8, 0]).commandDone, q⟩)
    ∧ (d.build = .B ∨ d.role = .head → exec .impArm ⟨d, q⟩
      = .next ⟨(((d.put IMP_STAT_RESULT 12).put IMP_STAT_CHK 0).raise 0x5005 0 [12, 0]).commandDone, q⟩))
  ∧ (∀ (d : Dev) (q : List Instr), d.accepts IMP_CTRL_ABORT →
    (d.get IMP_STAT_STATE = 1 → exec .impAbort ⟨d, q⟩
      = .next ⟨(((d.put IMP_STAT_STATE 3).put IMP_STAT_RESULT 2).raise 0x5004 0 [2, 0]).commandDone, q⟩)
    ∧ (d.get IMP_STAT_STATE = 2 → d.imp.gap = true → d.get IMP_NPT ≤ d.impPt + 1 → ∃ t, exec .impAbort ⟨d, q⟩ = .next t
      ∧ t.dev.get IMP_STAT_STATE = 3 ∧ t.dev.get IMP_STAT_RESULT = 1)
    ∧ (d.get IMP_STAT_STATE = 2 → (d.imp.gap = true → d.impPt + 1 < d.get IMP_NPT) → ∃ t, exec .impAbort ⟨d, q⟩ = .next t ∧ t.dev.get IMP_STAT_STATE = 3
      ∧ t.dev.get IMP_STAT_RESULT = 2 ∧ t.dev.get IMP_STAT_CORR = 0))
  ∧ (∀ (d : Dev) (q : List Instr) (n : Nat) (mA : Int), d.settled → d.owd.probe = some n →
    (100 ≤ mA → exec (.tapProbeEnd mA) ⟨d, q⟩ = .next ⟨((({ d with owd := { d.owd with
      probe := none, fails := d.owd.fails.set (n - 1) 0 } }).seeStages).ppWires d.owd.finds).guardSettle, q⟩)
    ∧ (mA < 100 → (d.owd.fails[n - 1]?).getD 0 = 0 → exec (.tapProbeEnd mA) ⟨d, q⟩ = .next ⟨((({ d with owd := { d.owd with
      probe := none, fails := d.owd.fails.set (n - 1) 1 } }).seeStages).ppWires d.owd.finds).guardSettle, q⟩))
  ∧ (∀ (d : Dev) (q : List Instr) (j : Nat), d.accepts (OWD_CTRL_JREQ .L) → j < 64 →
    let e := d.put (OWD_CTRL_JWIRE .L) j
    (d.owdUp = true → d.bit (OWD_CFG_EN .L) = true → j ≤ d.cells →
      (∀ r ∈ d.owd.reqs, r.wire = j → r.named = 0 → r.cls ≠ (d.owd.conf[j]?).getD 0) →
      exec (.owdJreq j) ⟨d, q⟩ = .next ⟨({ e with owd := { d.owd with
        reqs := d.owd.reqs ++ [(⟨j, (d.owd.conf[j]?).getD 0, 0, 0, 0⟩ : JReq)] } }).commandDone, q⟩)
    ∧ (d.owdUp = false ∨ d.bit (OWD_CFG_EN .L) = false ∨ d.cells < j →
      exec (.owdJreq j) ⟨d, q⟩ = .next ⟨e.commandDone, q⟩))

/-- The comparators become valid; a crossing is noted; a trip and a release follow the side last reported, with their
events. A self-test slot starts with the next slot of the rotation; a slot that passes is left, with the cycle counted
after the last; one that fails is repeated once and then reported with SLOT and STEP, and the rotation stops. (R247,
R249, R261, R262) -/
def Obligations.ComparatorCommandsComplete : Prop :=
  (∀ (d : Dev) (q : List Instr), d.settled → d.guardUp = true →
    exec .comparatorsValid ⟨d, q⟩ = .next ⟨(d.guardChange (fun e => e.each e.banks (fun e a =>
      e.setBz a { e.bz a with valid := true }))).guardSettle, q⟩)
  ∧ (∀ (d : Dev) (q : List Instr) (c : CmpId) (side : CrossSide), d.settled → d.cmpRuns c = true →
    exec (.comparatorInputCrossing c side) ⟨d, q⟩ = .next ⟨d.setBz c.die { d.bz c.die with
      sides := (c, side) :: (d.bz c.die).sides.filter (fun s => s.1 ≠ c) }, q⟩)
  ∧ (∀ (d : Dev) (q : List Instr) (c : CmpId), d.settled → d.cmpRuns c = true → d.tripped c = false →
    (d.sideOf c).getD .trip = .trip →
    ∃ t, exec (.comparatorTrip c) ⟨d, q⟩ = .next t ∧ t.dev.tripped c = true
      ∧ (d.keepsEvents → d.newEvent t.dev 0x3001 (cmpItems c)))
  ∧ (∀ (d : Dev) (q : List Instr) (c : CmpId), d.settled → d.cmpRuns c = true → d.tripped c = true →
    (d.bz c.die).valid = true → (d.sideOf c).getD .release = .release →
    ∃ t, exec (.comparatorRelease c) ⟨d, q⟩ = .next t ∧ t.dev.tripped c = false
      ∧ (d.keepsEvents → d.newEvent t.dev 0x3002 (cmpItems c)))
  ∧ (∀ (d : Dev) (q : List Instr) (a : Afe), d.settled → d.guardUp = true → a ∈ d.banks → d.bit (CMP_STAT_ROT a) = true →
    (d.bz a).slot = none → d.slotRuns a (d.bz a).next = true →
    exec (.selftestSlot a) ⟨d, q⟩ = .next ⟨(d.put (CMP_STAT_SLOT a) (d.bz a).next).setBz a { d.bz a with
      next := ((d.bz a).next + 1) % 27, slot := some 0 }, q⟩)
  ∧ (∀ (d : Dev) (q : List Instr) (a : Afe) (first : Nat), d.settled → (d.bz a).slot = some first →
    (d.get (CMP_STAT_SLOT a) ≠ 26 →
      exec (.selftestSlotEnd a none) ⟨d, q⟩ = .next ⟨d.setBz a { d.bz a with slot := none }, q⟩)
    ∧ (d.get (CMP_STAT_SLOT a) = 26 →
      exec (.selftestSlotEnd a none) ⟨d, q⟩
        = .next ⟨(d.setBz a { d.bz a with slot := none }).countMod (CMP_STAT_CYC a) 1, q⟩)
    ∧ (∀ k ∈ slotChecks (d.get (CMP_STAT_SLOT a)), first ≠ k →
      exec (.selftestSlotEnd a (some k)) ⟨d, q⟩ = .next ⟨d.setBz a { d.bz a with slot := some k }, q⟩)
    ∧ (first ∈ slotChecks (d.get (CMP_STAT_SLOT a)) → d.get (CMP_STAT_SLOT a) ≤ 26 →
      ∃ t, exec (.selftestSlotEnd a (some first)) ⟨d, q⟩ = .next t ∧ t.dev.get (CMP_STFAIL_VALID a) = 1
        ∧ t.dev.get (CMP_STFAIL_STEP a) = first ∧ t.dev.get (CMP_STFAIL_SLOT a) = d.get (CMP_STAT_SLOT a)
        ∧ t.dev.get (CMP_STAT_ROT a) = 0 ∧ (d.keepsEvents → d.newEvent t.dev 0x3006 [])))

/-- A block held in START reports its rows. The fixed rows assert and release, the guard logic settles, and a block that
trips wakes the part. A latch reset arms a tripped block whose rows are calm, and is refused with LRREF and its event otherwise; TTRIP asserts its row
and wakes the part. A save of BZL group 0 starts, or waits for the one in progress, and ends with BUSY and ERR and the
NVM copy. (R252, R254, R255, R257, R258, R259, R265, R270, R552) -/
def Obligations.BezelCommandsComplete : Prop :=
  (∀ (d : Dev) (q : List Instr) (a : Afe), d.settled → d.guardUp = true → a ∈ d.banks → d.bezel a = bStart →
    (d.bz a).valid = true → (d.bz a).held = false →
    exec (.bezelStartHeld a) ⟨d, q⟩
      = .next ⟨(d.setBz a { d.bz a with held := true }).raise 0x3009 (afeSrc a) (rowMask (d.rows a)), q⟩)
  ∧ (∀ (d : Dev) (q : List Instr) (a : Afe), d.settled → a ∈ d.banks →
    exec (.bezelRowSup a) ⟨d, q⟩
      = .next ⟨(d.guardChange (fun e => e.setBz a { e.bz a with sup := true })).guardSettle.rowWake d, q⟩
    ∧ exec (.bezelRowRef a) ⟨d, q⟩
      = .next ⟨(d.guardChange (fun e => e.setBz a { e.bz a with ref := true })).guardSettle.rowWake d, q⟩
    ∧ exec (.bezelRowClk a) ⟨d, q⟩
      = .next ⟨(d.guardChange (fun e => e.setBz a { e.bz a with clk := true })).guardSettle.rowWake d, q⟩
    ∧ exec (.bezelRowRelease a 0x51) ⟨d, q⟩
      = .next ⟨(d.guardChange (fun e => e.setBz a { e.bz a with sup := false })).guardSettle.rowWake d, q⟩
    ∧ exec (.bezelRowRelease a 0x52) ⟨d, q⟩
      = .next ⟨(d.guardChange (fun e => e.setBz a { e.bz a with ref := false })).guardSettle.rowWake d, q⟩
    ∧ exec (.bezelRowRelease a 0x53) ⟨d, q⟩
      = .next ⟨(d.guardChange (fun e => e.setBz a { e.bz a with clk := false })).guardSettle.rowWake d, q⟩)
  ∧ (∀ (d : Dev) (q : List Instr) (a : Afe), d.settled → d.twoBlocks = true →
    exec .xbCrossingLost ⟨d, q⟩
      = .next ⟨(d.guardChange (fun e => { e with saf := { e.saf with crossLost := true } })).guardSettle.rowWake d, q⟩
    ∧ exec (.bezelRowRelease a 0x54) ⟨d, q⟩
      = .next ⟨(d.guardChange (fun e => { e with saf := { e.saf with crossLost := false } })).guardSettle.rowWake d, q⟩)
  ∧ (∀ (d : Dev) (q : List Instr) (a : Afe), d.accepts (BZL_CTRL_LRST a) → d.guardUp = true → a ∈ d.banks →
    d.bezel a = bTripped → (a = .L → d.bezel .U ≠ bTripped) →
    ((∀ r ∈ d.rows a, r = 0x55) → d.saf.hold = [] →
      exec (.bezelLatchReset a) ⟨d, q⟩
        = .next ⟨((d.setBz a { d.bz a with ttrip := false }).bezelArm a).guardSettle.commandDone, q⟩)
    ∧ ((∃ r ∈ d.rows a, r ≠ 0x55) ∨ d.saf.hold ≠ [] →
      exec (.bezelLatchReset a) ⟨d, q⟩
        = .next ⟨((d.put (BZL_STAT_LRREF a) 1).raise 0x3005 (afeSrc a) []).guardSettle.commandDone, q⟩))
  ∧ (∀ (d : Dev) (q : List Instr) (a : Afe), d.accepts (BZL_CTRL_TTRIP a) → d.guardUp = true → a ∈ d.banks →
    exec (.bezelTtrip a) ⟨d, q⟩ = .next ⟨(d.guardChange (fun e =>
      e.setBz a { e.bz a with ttrip := true })).guardSettle.tripWake.commandDone, q⟩)
  ∧ (∀ (d : Dev) (q : List Instr) (a : Afe), d.accepts (BZL_NV_SAVE a) → a ∈ d.banks →
    ((d.bz a).save = none → exec (.bzlSave a) ⟨d, q⟩ = .next ⟨((d.put (BZL_NV_BUSY a) 1).setBz a { d.bz a with
      save := some ((bzlAddrs a).map d.word) }).commandDone, q⟩)
    ∧ ((d.bz a).save.isSome = true →
      exec (.bzlSave a) ⟨d, q⟩ = .next ⟨(d.setBz a { d.bz a with queued := true }).commandDone, q⟩))
  ∧ (∀ (d : Dev) (q : List Instr) (a : Afe) (ws : List Word) (ok : Bool), d.settled → (d.bz a).save = some ws →
    ∃ t, exec (.bzlSaveDone a ok) ⟨d, q⟩ = .next t ∧ t.dev.bit (BZL_NV_ERR a) = !ok
      ∧ (match a with | .L => t.dev.nvm.bzlL | .U => t.dev.nvm.bzlU)
        = (if ok then some ws else match a with | .L => d.nvm.bzlL | .U => d.nvm.bzlU)
      ∧ ((d.bz a).queued = false → (t.dev.bz a).save = none ∧ t.dev.get (BZL_NV_BUSY a) = 0)
      ∧ ((d.bz a).queued = true → (t.dev.bz a).save = some ((bzlAddrs a).map d.word) ∧ (t.dev.bz a).queued = false))

/-- EN is written at the head only, and a lost keep-alive clears it. The latch resets succeed where everything is calm
and set LRREF with their event otherwise. The grace time can only be lowered. A save runs, waits or ends as that of BZL.
A dark pulse, its end and its return, and a line test are judged per switch, twice before a fault is reported; a fault
clear forgets what was found. (R274, R276, R277, R278, R288, R290, R296) -/
def Obligations.DisconnectCommandsComplete : Prop :=
  (∀ (d : Dev) (q : List Instr), d.settled → d.role = .head →
    exec .keepAliveLoss ⟨d, q⟩ = .next ⟨(d.put (SDC_CTRL_EN .L) 0).seeSdc, q⟩)
  ∧ (∀ (d : Dev) (q : List Instr) (en : Bool), d.accepts (SDC_CTRL_EN .L) →
    (d.role = .head → exec (.sdcEnable en) ⟨d, q⟩ = .next ⟨((d.putB (SDC_CTRL_EN .L) en).seeSdc.seeSingle).commandDone, q⟩)
    ∧ (d.role = .member → exec (.sdcEnable en) ⟨d, q⟩ = .next ⟨d.commandDone, q⟩))
  ∧ (∀ (d : Dev) (q : List Instr) (time : Nat), d.accepts (SDC_CTRL_LRST .L) → d.role = .head →
    let e := d.atTime time
    (e.carrierSteady = true → d.bezel .L = bArmed → d.bit FW_PPSTAT_LATCH = false → (∀ m ∈ d.hd.members, m.latch = false) →
      d.saf.hold = [] →
      exec (.sdcLatchReset time) ⟨d, q⟩ = .next ⟨((e.put (SDC_STAT_HWL .L) 0).seeSdc.guardSettle).commandDone, q⟩)
    ∧ (e.carrierSteady = false ∨ d.bezel .L ≠ bArmed ∨ d.bit FW_PPSTAT_LATCH = true ∨ (∃ m ∈ d.hd.members, m.latch = true)
        ∨ d.saf.hold ≠ [] →
      exec (.sdcLatchReset time) ⟨d, q⟩ = .next ⟨((e.put (SDC_STAT_LRREF .L) 1).raise 0xB00B 0 []).commandDone, q⟩))
  ∧ (∀ (d : Dev) (q : List Instr) (time : Nat), d.accepts FW_PPCTRL_LRST →
    let e := d.atTime time
    (d.ppCalm = true → d.saf.hold = [] →
      exec (.processorLatchReset time) ⟨d, q⟩ = .next ⟨((e.put FW_PPSTAT_LATCH 0).guardSettle).commandDone, q⟩)
    ∧ (d.ppCalm = false ∨ d.saf.hold ≠ [] →
      exec (.processorLatchReset time) ⟨d, q⟩ = .next ⟨((e.put FW_PPSTAT_LRREF 1).raise 0xB00B 0 []).commandDone, q⟩))
  ∧ (∀ (d : Dev) (q : List Instr) (v : Word), d.accepts (SDC_GRACE_TG .L) →
    (d.get (SDC_GRACE_TG .L) < bitsOf v 10 0 → exec (.sdcGraceWrite v) ⟨d, q⟩ = .next ⟨d.commandDone, q⟩)
    ∧ (bitsOf v 10 0 ≤ d.get (SDC_GRACE_TG .L) → d.saf.grace = none →
      exec (.sdcGraceWrite v) ⟨d, q⟩ = .next ⟨(d.put (SDC_GRACE_TG .L) (bitsOf v 10 0)).commandDone, q⟩))
  ∧ (∀ (d : Dev) (q : List Instr), d.accepts (SDC_NV_SAVE .L) →
    (d.saf.save = none → exec .sdcSave ⟨d, q⟩ = .next ⟨(({ d with saf := { d.saf with save := some d.sdcWords } }).put
      (SDC_NV_BUSY .L) 1).commandDone, q⟩)
    ∧ (d.saf.save.isSome = true →
      exec .sdcSave ⟨d, q⟩ = .next ⟨({ d with saf := { d.saf with queued := true } }).commandDone, q⟩))
  ∧ (∀ (d : Dev) (q : List Instr) (ws : List Word) (ok : Bool), d.settled → d.saf.save = some ws →
    ∃ t, exec (.sdcSaveDone ok) ⟨d, q⟩ = .next t ∧ t.dev.bit (SDC_NV_ERR .L) = !ok
      ∧ t.dev.nvm.sdc = (if ok then some ws else d.nvm.sdc)
      ∧ (d.saf.queued = false → t.dev.saf.save = none ∧ t.dev.get (SDC_NV_BUSY .L) = 0)
      ∧ (d.saf.queued = true → t.dev.saf.save = some d.sdcWords ∧ t.dev.saf.queued = false))
  ∧ (∀ (d : Dev) (q : List Instr) (sw : SdcSw), d.settled → d.energised = true → d.saf.dark = none → d.saf.back = none →
    exec (.darkPulseStart sw) ⟨d, q⟩ = .next ⟨({ d with saf := { d.saf with dark := some sw } }).seeSdc, q⟩)
  ∧ (∀ (d : Dev) (q : List Instr) (sw : SdcSw), d.settled → d.saf.dark = some sw → d.energised = true →
    exec (.darkPulseEnd sw true) ⟨d, q⟩
      = .next ⟨({ d with saf := { d.saf with dark := none, back := some sw } }).seeSdc, q⟩
    ∧ ((d.saf.tests[swIndex sw]?).getD 0 ≠ 1 → exec (.darkPulseEnd sw false) ⟨d, q⟩
      = .next ⟨({ d with saf := { d.saf with
        dark := none, tests := d.saf.tests.set (swIndex sw) 1, spans := d.saf.spans.set (swIndex sw) 0 } }).guardSettle, q⟩))
  ∧ (∀ (d : Dev) (q : List Instr) (sw : SdcSw), d.settled → d.saf.back = some sw → d.energised = true →
    exec (.darkPulseReturnTimeout sw true) ⟨d, q⟩ = .next ⟨({ d with saf := { d.saf with
      back := none, tests := d.saf.tests.set (swIndex sw) 0, spans := d.saf.spans.set (swIndex sw) 0 } }).guardSettle, q⟩
    ∧ ((d.saf.tests[swIndex sw]?).getD 0 ≠ 2 → exec (.darkPulseReturnTimeout sw false) ⟨d, q⟩
      = .next ⟨({ d with saf := { d.saf with
        back := none, tests := d.saf.tests.set (swIndex sw) 2, spans := d.saf.spans.set (swIndex sw) 0 } }).guardSettle, q⟩)
    ∧ ((d.saf.tests[swIndex sw]?).getD 0 = 2 → (d.saf.conf[swIndex sw]?).getD 0 ≠ 2 →
      ∃ t, exec (.darkPulseReturnTimeout sw false) ⟨d, q⟩ = .next t ∧ t.dev.get (SDC_FAIL_KIND .L) = 2
        ∧ t.dev.get (SDC_FAIL_SW .L) = 2 ^ swIndex sw
        ∧ t.dev.get (if swIndex sw < 2 then SDC_STAT_PFLT .L else SDC_STAT_NFLT .L) = 1))
  ∧ (∀ (d : Dev) (q : List Instr) (sw : SdcSw) (joined : Bool), d.settled → d.role = .head → d.guardUp = true →
    let kind := if d.energised then 3 else 1
    (d.kindBefore (swIndex sw) joined ≠ kind →
      exec (.lineTestSpan sw d.energised joined) ⟨d, q⟩ = .next ⟨({ d with saf := { d.saf with
        tests := d.saf.tests.set (swIndex sw) kind, spans := d.saf.spans.set (swIndex sw) 1 } }).guardSettle, q⟩)
    ∧ (d.kindBefore (swIndex sw) joined = kind → (d.saf.conf[swIndex sw]?).getD 0 ≠ kind →
      ∃ t, exec (.lineTestSpan sw d.energised joined) ⟨d, q⟩ = .next t ∧ t.dev.get (SDC_FAIL_KIND .L) = kind
        ∧ t.dev.get (SDC_FAIL_SW .L) = 2 ^ swIndex sw))
  ∧ (∀ (d : Dev) (q : List Instr), d.settled → d.role = .head →
    exec (.sdcFaultClear .sdcP) ⟨d, q⟩ = .next ⟨({ d.put (SDC_STAT_PFLT .L) 0 with saf := { d.saf with
      tests := (d.saf.tests.set 0 0).set 1 0, spans := (d.saf.spans.set 0 0).set 1 0
      conf := (d.saf.conf.set 0 0).set 1 0 } }).guardSettle, q⟩
    ∧ exec (.sdcFaultClear .sdcN) ⟨d, q⟩ = .next ⟨({ d.put (SDC_STAT_NFLT .L) 0 with saf := { d.saf with
      tests := (d.saf.tests.set 2 0).set 3 0, spans := (d.saf.spans.set 2 0).set 3 0
      conf := (d.saf.conf.set 2 0).set 3 0 } }).guardSettle, q⟩)

/-- The carrier coming and going shows in GIN, CIN and LOSS, and at the head a loss sets HWL. A gap slot counts and
sends its token while the carrier goes out; a slot that is judged is good or bad. A channel fault whose cause is gone is
cleared. The grace timer that expires trips. Guard frames are sent by a numbered member, their loss is noted, and a TRIP
is repeated while it stands. (R279, R280, R284, R285, R286, R353) -/
def Obligations.GirdleAndGuardCommandsComplete : Prop :=
  (∀ (d : Dev) (q : List Instr), d.settled → d.guardUp = true →
    (∀ time, d.carrierIn = false → d.role = .member →
      let c := d.atTime time
      let e := (c.put (BZL_STAT_GIN .L) 1).put (GRD_STAT_CIN .L) 1
      exec (.carrierPresent time) ⟨d, q⟩ = .next ⟨({ e with saf := { c.saf with carrierAt := c.now } }).seeGirdle.guardSettle, q⟩)
    ∧ (∀ time, d.carrierIn = false → d.role = .head →
      let c := d.atTime time
      let e := ((c.put (BZL_STAT_GIN .L) 1).put (GRD_STAT_CIN .L) 1).put (SDC_STAT_GIN .L) 1
      exec (.carrierPresent time) ⟨d, q⟩ = .next ⟨({ e with saf := { c.saf with carrierAt := c.now } }).seeGirdle.guardSettle, q⟩)
    ∧ (d.carrierIn = true → d.role = .member → d.bit BAL_PCFG_GSTOP = false →
      let e := ((d.put (BZL_STAT_GIN .L) 0).put (GRD_STAT_CIN .L) 0).put (GRD_STAT_LOSS .L) 1
      exec .carrierLoss ⟨d, q⟩ = .next ⟨({ e with saf := { d.saf with carrierAt := d.now } }).seeGirdle.guardSettle, q⟩)
    ∧ (d.carrierIn = true → d.role = .head → ∃ t, exec .carrierLoss ⟨d, q⟩ = .next t ∧ t.dev.get (SDC_STAT_HWL .L) = 1
      ∧ t.dev.get (SDC_STAT_GIN .L) = 0 ∧ t.dev.get (GRD_STAT_LOSS .L) = 1 ∧ t.dev.get (BZL_STAT_GIN .L) = 0))
  ∧ (∀ (d : Dev) (q : List Instr), d.settled → d.monitoring = true → d.bit (GRD_CFG_GAPEN .L) = true → d.cur ≠ .legacy →
    d.role = .member → exec .gapSlot ⟨d, q⟩ = .next ⟨(if (d.countMod (GRD_STAT_CYC .L) 1).carrierOut then
      ((d.countMod (GRD_STAT_CYC .L) 1).emit (.girdleToken false)).emit (.girdleToken true)
      else d.countMod (GRD_STAT_CYC .L) 1), q⟩)
  ∧ (∀ (d : Dev) (q : List Instr) (pos : Nat), d.settled → d.judgesSlot pos = true → pos < 32 →
    (let e := (d.put (GRD_STAT_SLOT .L) pos).put (GRD_GAPOKL .L) (setNat (d.get (GRD_GAPOKL .L)) pos pos 1)
    let bad := d.saf.gapBad.map (fun g => if g.1 = pos then (g.1, g.2 + 1) else g)
    exec (.gapCheck pos true) ⟨d, q⟩
      = .next ⟨({ e with saf := { d.saf with gapBad := bad.filter (fun g => decide (g.2 < 10)) } }).guardSettle, q⟩)
    ∧ ∃ t, exec (.gapCheck pos false) ⟨d, q⟩ = .next t ∧ t.dev.get (GRD_STAT_SLOT .L) = pos
      ∧ t.dev.get (GRD_GAPFAIL_VALID .L) = 1 ∧ t.dev.get (GRD_GAPOKL .L) / 2 ^ pos % 2 = 0 ∧ t.dev.saf.cycFail = pos :: d.saf.cycFail)
  ∧ (∀ (d : Dev) (q : List Instr) (c : Chan), d.runs →
    exec (.channelFaultClear c) ⟨d, q⟩ = .next ⟨({ d with saf := { d.saf with
      faults := d.saf.faults.filter (fun f => !(f.ch = c && f.cause.lingers && !d.causeHolds f)) } }).guardSettle, q⟩)
  ∧ (∀ (d : Dev) (q : List Instr), d.settled → d.saf.grace.isSome = true →
    (d.lathe = true → d.guardUp = true → ∃ t, exec .graceTimerExpiry ⟨d, q⟩ = .next t ∧ t.dev.saf.grace = none ∧ t.dev.get FW_PPSTAT_LATCH = 1
      ∧ (d.bit FW_PPSTAT_LATCH = false → t.dev.get FW_PPSTAT_CAUSE = 6))
    ∧ (d.lathe = false → ∃ t, exec .graceTimerExpiry ⟨d, q⟩ = .next t ∧ t.dev.saf.graceDue = true ∧ t.dev.saf.grace = none
      ∧ t.dev.get (SDC_STAT_GRUN .L) = 0 ∧ (d.guardUp = true → t.dev.bzlL.ttrip = true)))
  ∧ (∀ (d : Dev) (q : List Instr), d.settled → d.monitoring = true →
    exec .guardFrameSend ⟨d, q⟩ = .next ⟨(if d.role = .member ∧ d.bit SPN_POS_VALID = true ∧ d.inLegacy = false
      then d.compactToHead kGuard (d.guardPay false) else d), q⟩)
  ∧ (∀ (d : Dev) (q : List Instr) (pos : Nat) (m : Member), d.runs → d.role = .head → d.member pos = some m → m.guarded = true →
    m.last = false → m.missing = false → exec (.guardLoss pos) ⟨d, q⟩
      = .next ⟨((d.setMember pos (fun m => { m with missing := true })).raiseAbout pos 0xB00A 0 []).guardSettle, q⟩)
  ∧ (∀ (d : Dev) (q : List Instr), d.settled →
    (d.tripStands = true → d.lathe = true → d.bit SPN_POS_VALID = true → d.inLegacy = false → d.bit FW_PPSTAT_LATCH = true →
      exec .tripRepeat ⟨d, q⟩ = .next ⟨d.sendCompact [.north, .south] kTrip d.pos
        (d.get FW_PPSTAT_CAUSE * 2 ^ 28 + d.get FW_PPSTAT_CELL * 2 ^ 22), q⟩)
    ∧ (d.tripStands = false → exec .tripRepeat ⟨d, q⟩ = .next ⟨d, q⟩))

/-- A link word of the wrong port sets MISW, and is answered outside LR; in PARKED it is answered, and in LR it parks the port or may start
training. Missing words take the port DOWN, and its silence ends. Training that ends well enters HR with its eye and
preset; a failure counts attempts up to HRFAIL, which a retry and RETRN of either end clear. Header errors and lost lock
retrain; RETRN, HRDIS and LCHK act on the port, and a line check answers its code. (R304, R308, R309, R310, R311, R312, R313, R318, R319) -/
def Obligations.LinkCommandsComplete : Prop :=
  (∀ (d : Dev) (q : List Instr) (p : Port) (w : BitVec 16) (inv : Bool), d.runs → wordValid w = true → d.inLegacy = false →
    d.bit (SPN_PORT_LEG p) = false →
    let e := (d.put (SPN_PORT_PWORD p) w.toNat).putB (SPN_PORT_INV p) inv
    let wrong := ((e.setPort p { e.port p with gotHeard := false, sentHeard := false }).put (SPN_PORT_MISW p) 1).raise
      0x7005 0 [portCode p]
    (d.pstate p = pDown ∨ d.pstate p = pParked → lwPort w = portCode p → d.bit (SPN_PORT_MISW p) = false →
      exec (.linkWord p w inv) ⟨d, q⟩
        = .next ⟨(if (d.port p).silent then wrong else wrong.sendWord p false).seeTimePort, q⟩)
    ∧ (d.pstate p = pLr → lwPort w = portCode p → d.bit (SPN_PORT_MISW p) = false →
      exec (.linkWord p w inv) ⟨d, q⟩ = .next ⟨wrong.seeTimePort, q⟩)
    ∧ (d.pstate p = pParked → lwPort w ≠ portCode p → (d.port p).silent = false →
      exec (.linkWord p w inv) ⟨d, q⟩ = .next ⟨(((e.setPort p { d.port p with
        quietPeriods := 0, gotHeard := (d.port p).gotHeard || lwHeard w
        unheard := if lwHeard w then 0 else (d.port p).unheard + 1 }).sendWord p false).tryLr p).seeTimePort, q⟩)
    ∧ (d.pstate p = pLr → lwPort w ≠ portCode p → lwPark w = true → exec (.linkWord p w inv) ⟨d, q⟩ = .next ⟨(((e.setPort p { d.port p with
        gotHeard := false, sentHeard := false, quietPeriods := 3 }).put (SPN_PORT_STATE p) pParked).raise
        0x7004 0 [portCode p]).seeTimePort, q⟩)
    ∧ (d.pstate p = pLr → lwPort w ≠ portCode p → lwPark w = false → exec (.linkWord p w inv) ⟨d, q⟩
      = .next ⟨((e.setPort p { d.port p with quietPeriods := 0 }).tryTrain p).seeTimePort, q⟩))
  ∧ (∀ (d : Dev) (q : List Instr) (p : Port), d.runs → d.inLegacy = false → d.bit (SPN_PORT_LEG p) = false →
    (d.port p).silent = false →
    (d.pstate p = pDown ∨ (d.pstate p = pParked ∧ (d.level = 2 ∨ d.level = 3)) →
      exec (.linkWordSend p) ⟨d, q⟩ = .next ⟨(d.sendWord p false).seeTimePort, q⟩)
    ∧ (d.pstate p = pLr → exec (.linkWordSend p) ⟨d, q⟩ = .next ⟨((d.sendWord p false).tryTrain p).seeTimePort, q⟩))
  ∧ (∀ (d : Dev) (q : List Instr) (p : Port), d.runs → d.pstate p = pLr → d.hif.runs = [] →
    (d.bit (SPN_PORT_LEG p) = false → exec (.preambleTimeout p) ⟨d, q⟩ = .next ⟨(d.enterDown p 1).seeTimePort, q⟩
      ∧ (d.role = .member → (d.enterDown p 1).seeTimePort.pstate p = pDown))
    ∧ (d.bit (SPN_PORT_LEG p) = true →
      exec (.legacyFrameTimeout p) ⟨d, q⟩ = .next ⟨((d.enterDown p 1).bridgeLost p).seeTimePort, q⟩))
  ∧ (∀ (d : Dev) (q : List Instr) (p : Port), d.settled → d.pstate p = pDown →
    exec (.downSilenceEnd p) ⟨d, q⟩ = .next ⟨d.setPort p { d.port p with silent := false }, q⟩)
  ∧ (∀ (d : Dev) (q : List Instr) (p : Port) (preset eyeh eyev : Nat) (rxinv : Bool), d.settled → d.pstate p = pTrain →
    (exec (.trainingDone p preset eyeh eyev rxinv) ⟨d, q⟩ = .next ⟨(((((((d.put (PRT_STAT_PRESET p)
        (if d.bit (PRT_TXCFG_PFIX p) then d.get (PRT_TXCFG_PSET p) else preset % 8)).putB (PRT_STAT_RXINV p) rxinv).put
        (PRT_STAT_ATT p) 0).put (PRT_EYE_EYEH p) eyeh).put (PRT_EYE_EYEV p) eyev).countMod (PRT_STAT_TRNCNT p) 1).enterHr
        p true).seeTimePort, q⟩)
    ∧ (d.get (PRT_STAT_ATT p) < 2 → exec (.trainingFail p eyeh eyev) ⟨d, q⟩
      = .next ⟨((((d.put (PRT_EYE_EYEH p) eyeh).put (PRT_EYE_EYEV p) eyev).put (PRT_STAT_ATT p)
        (d.get (PRT_STAT_ATT p) + 1)).enterLr p false).seeTimePort, q⟩)
    ∧ (d.get (PRT_STAT_ATT p) = 2 → exec (.trainingFail p eyeh eyev) ⟨d, q⟩
      = .next ⟨((((((d.put (PRT_EYE_EYEH p) eyeh).put (PRT_EYE_EYEV p) eyev).put (PRT_STAT_ATT p) 3).enterLr p false).put
        (PRT_STAT_HRFAIL p) 1).raise 0x7003 0 [portCode p, eyeh, eyev]).seeTimePort, q⟩))
  ∧ (∀ (d : Dev) (q : List Instr) (p : Port), d.settled → d.bit (PRT_STAT_HRFAIL p) = true →
    exec (.hrRetryExpiry p) ⟨d, q⟩
      = .next ⟨(((d.put (PRT_STAT_HRFAIL p) 0).put (PRT_STAT_ATT p) 0).tryTrain p).seeTimePort, q⟩)
  ∧ (∀ (d : Dev) (q : List Instr) (p : Port) (n : Nat), d.settled → d.pstate p = pHr →
    (n < 16 → exec (.syncHeaderErrors p n) ⟨d, q⟩ = .next ⟨(d.countSat (PRT_ERR_HDRERR p) n).seeTimePort, q⟩)
    ∧ (16 ≤ n → exec (.syncHeaderErrors p n) ⟨d, q⟩ = .next ⟨((((d.countSat (PRT_ERR_HDRERR p) n).put
      (SPN_PORT_STATE p) pRetrain).countSat (PRT_ERR_RELOCK p) 1).put (SPN_CRED_FROZEN p) 1).seeTimePort, q⟩))
  ∧ (∀ (d : Dev) (q : List Instr) (p : Port), d.settled → d.pstate p = pRetrain →
    exec (.blockLockRegained p) ⟨d, q⟩
      = .next ⟨(((((d.put (SPN_PORT_STATE p) pHr).put (SPN_CRED_FROZEN p) 0).raise 0x7001 0
        [portCode p, (Config.eventCause 0x7001 1).toNat]).creditDue p).drain p).seeTimePort, q⟩
    ∧ (d.bit SPN_RING_OPEN = false ∨ d.hif.runs = [] →
      exec (.retrainTimeout p true) ⟨d, q⟩ = .next ⟨(d.put (SPN_PORT_STATE p) pTrain).seeTimePort, q⟩)
    ∧ (d.hif.runs = [] → exec (.retrainTimeout p false) ⟨d, q⟩ = .next ⟨(d.enterDown p 0).seeTimePort, q⟩))
  ∧ (∀ (d : Dev) (q : List Instr) (p : Port), fits d.build .phyN = true → d.dead (phyDie p) = false →
    let e := (d.put (PRT_STAT_HRFAIL p) 0).put (PRT_STAT_ATT p) 0
    (d.accepts (PRT_CTRL_RETRN p) →
      (d.pstate p = pHr → exec (.prtRetrn p false) ⟨d, q⟩
        = .next ⟨(e.put (SPN_PORT_STATE p) pTrain).seeTimePort.commandDone, q⟩)
      ∧ (d.pstate p = pLr → d.bit (SPN_PORT_LEG p) = true → exec (.prtRetrn p false) ⟨d, q⟩
        = .next ⟨e.seeTimePort.commandDone, q⟩)
      ∧ (d.pstate p = pDown → exec (.prtRetrn p false) ⟨d, q⟩ = .next ⟨e.seeTimePort.commandDone, q⟩))
    ∧ (d.settled →
      (d.pstate p = pHr → exec (.prtRetrn p true) ⟨d, q⟩ = .next ⟨(e.put (SPN_PORT_STATE p) pTrain).seeTimePort, q⟩)
      ∧ (d.pstate p = pDown → exec (.prtRetrn p true) ⟨d, q⟩ = .next ⟨e.seeTimePort, q⟩)))
  ∧ (∀ (d : Dev) (q : List Instr) (p : Port) (v : Bool), d.accepts (PRT_CTRL_HRDIS p) → fits d.build .phyN = true →
    exec (.prtHrdis p v) ⟨d, q⟩ = .next ⟨((d.putB (PRT_CTRL_HRDIS p) v).hrSettle.seeTimePort).commandDone, q⟩)
  ∧ (∀ (d : Dev) (q : List Instr) (p : Port), d.accepts (PRT_CTRL_LCHK p) → fits d.build .phyN = true →
    (d.pstate p = pDown → d.monitoring = true → exec (.lineCheck p) ⟨d, q⟩
      = .next ⟨((d.setPort p { d.port p with lineCheck := true }).put (PRT_LCHK_VALID p) 0).commandDone, q⟩)
    ∧ (d.pstate p ≠ pDown ∨ d.monitoring = false → ∃ t, exec (.lineCheck p) ⟨d, q⟩ = .next t
      ∧ t.dev.get (PRT_LCHK_RTX p) = 4 ∧ t.dev.get (PRT_LCHK_RRX p) = 4 ∧ t.dev.get (PRT_LCHK_VALID p) = 1))
  ∧ (∀ (d : Dev) (q : List Instr) (p : Port) (rtx rrx dtx drx : Nat), d.settled → (d.port p).lineCheck = true →
    ∃ t, exec (.lineCheckDone p rtx rrx dtx drx) ⟨d, q⟩ = .next t ∧ t.dev.get (PRT_LCHK_RTX p) = rtx % 8
      ∧ t.dev.get (PRT_LCHK_RRX p) = rrx % 8 ∧ t.dev.get (PRT_LCHK_VALID p) = 1 ∧ (t.dev.port p).lineCheck = false)

/-- A member relays TRIP, GUARD, CAPREQ, the notices and ENUMANS unchanged, and EVACK and SYNC of another position. A
compact frame whose CRC fails is counted in CRC16, gives back the unit it took unless it is a CREDIT frame, which takes
none (log 22), and has no other effect. (R328, R330, R337, R339) -/
def Obligations.CompactFramesRelayedOrDiscarded : Prop :=
  (∀ (d : Dev) (q : List Instr) (p : Port) (w : Word64), d.settled → d.hears p = true → cfOk w = true → d.role = .member →
    let relayed : Host.Outcome State Fault Refusal := .next ⟨d.portSend (otherPort p) (some p) (.compact w), q⟩
    (cfKind w = kTrip → exec (.trip p w) ⟨d, q⟩ = relayed)
    ∧ (cfKind w = kGuard → exec (.guard p w) ⟨d, q⟩ = relayed)
    ∧ (cfKind w = kCapreq → exec (.capreq p w) ⟨d, q⟩ = relayed)
    ∧ (cfKind w = kNotice → bitsNat (cfPay w) 31 28 = 1 → exec (.noticeLinkdown p w) ⟨d, q⟩ = relayed)
    ∧ (cfKind w = kNotice → bitsNat (cfPay w) 31 28 = 2 → exec (.noticeLinkup p w) ⟨d, q⟩ = relayed)
    ∧ (cfKind w = kNotice → bitsNat (cfPay w) 31 28 = 3 → exec (.noticeWarmreset p w) ⟨d, q⟩ = relayed)
    ∧ (cfKind w = kNotice → bitsNat (cfPay w) 31 28 = 4 → exec (.noticeUnnumbered p w) ⟨d, q⟩ = relayed)
    ∧ (cfKind w = kNotice → bitsNat (cfPay w) 31 28 = 5 → exec (.noticeSynced p w) ⟨d, q⟩ = relayed)
    ∧ (cfKind w = kNotice → bitsNat (cfPay w) 31 28 = 6 → exec (.enumans p w) ⟨d, q⟩ = relayed)
    ∧ (cfPos w ≠ d.get SPN_POS_POS → cfKind w = kEvack → exec (.evack p w) ⟨d, q⟩ = relayed)
    ∧ (cfPos w ≠ d.get SPN_POS_POS → cfKind w = kSync → exec (.sync p w) ⟨d, q⟩ = relayed))
  ∧ (∀ (d : Dev) (q : List Instr) (p : Port) (w : Word64), d.settled → d.hears p = true → cfOk w = false →
    let plain : Host.Outcome State Fault Refusal := .next ⟨d.countSat (SPN_ERR_CRC16 p) 1, q⟩
    let counted : Host.Outcome State Fault Refusal := .next ⟨(d.countSat (SPN_ERR_CRC16 p) 1).consumed p w, q⟩
    (cfKind w = kTrip → exec (.trip p w) ⟨d, q⟩ = counted) ∧ (cfKind w = kGuard → exec (.guard p w) ⟨d, q⟩ = counted)
    ∧ (cfKind w = kCapreq → exec (.capreq p w) ⟨d, q⟩ = counted)
    ∧ (cfKind w = kCapture → exec (.capture p w) ⟨d, q⟩ = counted)
    ∧ (cfKind w = kCredit → exec (.credit p w) ⟨d, q⟩ = plain)
    ∧ (cfKind w = kCreditInit → exec (.creditInit p w) ⟨d, q⟩ = plain)
    ∧ (cfKind w = kEvack → exec (.evack p w) ⟨d, q⟩ = counted)
    ∧ (cfKind w = kReset → exec (.resetFrame p w) ⟨d, q⟩ = counted)
    ∧ (cfKind w = kEnum → exec (.enumerationFrame p w) ⟨d, q⟩ = counted)
    ∧ (cfKind w = kSync → exec (.sync p w) ⟨d, q⟩ = counted)
    ∧ (cfKind w = kNotice → bitsNat (cfPay w) 31 28 = 1 → exec (.noticeLinkdown p w) ⟨d, q⟩ = counted))

/-- The head acts on a TRIP, takes the guard state of a numbered member, and turns a CAPREQ into a CAPTURE both ways and
its own capture. A numbered member takes a CAPTURE while CHAIN is set, and one without a position only relays it. A RESET frame with its level for a bound member starts a
warm reset or a power-on. (R117, R276, R329, R354, R355, R356) -/
def Obligations.SafetyAndCaptureFramesComplete : Prop :=
  (∀ (d : Dev) (q : List Instr) (p : Port) (w : Word64), d.receives p kTrip w → d.role = .head → d.inTurn w (cfPos w) →
    exec (.trip p w) ⟨d, q⟩ = .next ⟨(d.accepted p w (cfPos w)).tripAccepted (cfPos w), q⟩)
  ∧ (∀ (d : Dev) (q : List Instr) (p : Port) (w : Word64), d.receives p kGuard w → d.role = .head → d.inTurn w (cfPos w) →
    (d.numbered (cfPos w) = true → exec (.guard p w) ⟨d, q⟩ = .next ⟨((((d.accepted p w (cfPos w)).takeGuard (cfPos w)
      (cfPay w)).guardEffects (cfPos w)).headRule).checkBinds, q⟩)
    ∧ (d.numbered (cfPos w) = false → exec (.guard p w) ⟨d, q⟩ = .next ⟨d.accepted p w (cfPos w), q⟩))
  ∧ (∀ (d : Dev) (q : List Instr) (p : Port) (w : Word64), d.receives p kCapreq w → d.role = .head → d.inTurn w (cfPos w) →
    exec (.capreq p w) ⟨d, q⟩ = .next ⟨((d.accepted p w (cfPos w)).sendCompact [.north, .south] kCapture (cfPos w)
      (cfPay w)).applyCapture (cfPay w), q⟩)
  ∧ (∀ (d : Dev) (q : List Instr) (p : Port) (w : Word64), d.receives p kCapture w →
    (d.role = .head → exec (.capture p w) ⟨d, q⟩ = .next ⟨d.consumed p w, q⟩)
    ∧ (d.role = .member → d.bit SPN_POS_VALID = false →
      exec (.capture p w) ⟨d, q⟩ = .next ⟨d.portSend (otherPort p) (some p) (.compact w), q⟩)
    ∧ (d.role = .member → d.bit SPN_POS_VALID = true → d.spn.aliveIn = [] → ∃ t, exec (.capture p w) ⟨d, q⟩ = .next t
      ∧ (d.bit (CVW_CAPT_CHAIN .L) = true → t.dev.win.capSrc = d.win.capSrc ||| 16 ∧ t.dev.win.capOrigin = cfPay w)
      ∧ (d.bit (CVW_CAPT_CHAIN .L) = false → t.dev.win = d.win)))
  ∧ (∀ (d : Dev) (q : List Instr) (p : Port) (w : Word64), d.receives p kReset w → d.role = .member → d.spn.aliveIn = [] →
    d.bit SPN_POS_BOUND = true → bitsNat (cfPay w) 15 0 = d.get SPN_POS_HID → bitsNat (cfPay w) 29 29 = 1 →
    (bitsNat (cfPay w) 31 30 = 1 → ∃ t, exec (.resetFrame p w) ⟨d, q⟩ = .next t ∧ t.dev.pw.warm = true
      ∧ t.dev.get SYS_RSTCAUSE_CAUSE = 0x20)
    ∧ (bitsNat (cfPay w) 31 30 = 2 → ∃ t, exec (.resetFrame p w) ⟨d, q⟩ = .next t
      ∧ t.dev.get SYS_RSTCAUSE_CAUSE = 0x21 ∧ t.dev.mtick = 0))

/-- CREDIT adds the units freed since the last, modulo its fields; CREDIT_INIT sets them; a CREDIT frame is sent with
what was freed. At the member of their position EVACK drops the events it acknowledges, ROUTE sets WAY, HRN and HRS, and
SYNC sets the command counter and ends SYNCWAIT. (R338, R342, R350, R357) -/
def Obligations.CreditAndControlFramesComplete : Prop :=
  (∀ (d : Dev) (q : List Instr) (p : Port) (w : Word64), d.receives p kCredit w → (d.port p).txq = [] →
    let s := d.port p
    let e1 := d.put (SPN_CRED p 1) (d.get (SPN_CRED p 1) + (bitsNat (cfPay w) 31 22 + 1024 - s.taken1 % 1024) % 1024)
    let e2 := e1.put (SPN_CRED p 2) (d.get (SPN_CRED p 2) + (bitsNat (cfPay w) 21 12 + 1024 - s.taken2 % 1024) % 1024)
    let e3 := e2.put (SPN_CRED p 3) (d.get (SPN_CRED p 3) + (bitsNat (cfPay w) 11 0 + 4096 - s.taken3 % 4096) % 4096)
    exec (.credit p w) ⟨d, q⟩ = .next ⟨e3.setPort p { s with
      taken1 := bitsNat (cfPay w) 31 22, taken2 := bitsNat (cfPay w) 21 12, taken3 := bitsNat (cfPay w) 11 0 }, q⟩)
  ∧ (∀ (d : Dev) (q : List Instr) (p : Port) (w : Word64), d.receives p kCreditInit w → (d.port p).txq = [] →
    exec (.creditInit p w) ⟨d, q⟩ = .next ⟨(((d.put (SPN_CRED p 1) (bitsNat (cfPay w) 31 24)).put (SPN_CRED p 2)
      (bitsNat (cfPay w) 23 16)).put (SPN_CRED p 3) (bitsNat (cfPay w) 15 4)).setPort p { d.port p with
        taken1 := 0, taken2 := 0, taken3 := 0 }, q⟩)
  ∧ (∀ (d : Dev) (q : List Instr) (p : Port), d.settled → d.hears p = true →
    exec (.creditSend p) ⟨d, q⟩ = .next ⟨(d.setPort p { d.port p with owed := 0 }).emit (.frame p (.compact (cfMake kCredit 0 0 ((d.port p).freed1 % 1024 * 2 ^ 22
      + (d.port p).freed2 % 1024 * 2 ^ 12 + (d.port p).freed3 % 4096)))), q⟩)
  ∧ (∀ (d : Dev) (q : List Instr) (p : Port) (w : Word64), d.receives p kEvack w → d.role = .member → d.bit SPN_POS_VALID = true →
    cfPos w = d.get SPN_POS_POS → d.inTurn w 0 → d.spn.evLost = 0 →
    (cfPay w + 1 + 2 ^ 32 - d.spn.evBase) % 2 ^ 32 ≤ d.spn.evq.length →
    ∃ t, exec (.evack p w) ⟨d, q⟩ = .next t ∧ t.dev.spn.evq = d.spn.evq.drop ((cfPay w + 1 + 2 ^ 32 - d.spn.evBase) % 2 ^ 32)
      ∧ t.dev.spn.evBase = (d.spn.evBase + (cfPay w + 1 + 2 ^ 32 - d.spn.evBase) % 2 ^ 32) % 2 ^ 32
      ∧ t.dev.get SPN_EVQ_QUEUED = t.dev.spn.evq.length % 2 ^ (SPN_EVQ_QUEUED.hi - SPN_EVQ_QUEUED.lo + 1))
  ∧ (∀ (d : Dev) (q : List Instr) (p : Port) (w : Word64), d.receives p kRoute w → d.role = .member → d.bit SPN_POS_VALID = true →
    cfPos w = d.get SPN_POS_POS → d.inTurn w 0 →
    ∃ t, exec (.route p w) ⟨d, q⟩ = .next t ∧ t.dev.get SPN_ROUTE_WAY = bitsNat (cfPay w) 31 31
      ∧ t.dev.get SPN_ROUTE_HRN = bitsNat (cfPay w) 30 30 ∧ t.dev.get SPN_ROUTE_HRS = bitsNat (cfPay w) 29 29)
  ∧ (∀ (d : Dev) (q : List Instr) (p : Port) (w : Word64), d.receives p kSync w → d.role = .member → d.bit SPN_POS_VALID = true →
    cfPos w = d.get SPN_POS_POS → d.inTurn w 0 → bitsNat (cfPay w) 15 0 = d.get SPN_POS_HID →
    ∃ t, exec (.sync p w) ⟨d, q⟩ = .next t ∧ t.dev.get SPN_CMD_LAST = bitsNat (cfPay w) 31 16
      ∧ t.dev.get SPN_CMD_SYNCWAIT = 0)

/-- A member takes its position, ring number and host from the ENUM frame of a host it is not bound against, discards a
repeat, and ignores another host. A head that receives the ENUM frame of another head raises HEAD_CONFLICT. The answers of an enumeration
are gathered by side and phase. The head notes a link of a member going down or up; a warm reset of a member restarts
its sequence numbers; an unnumbered device is reported once; a SYNCED notice takes the command counter of the member
unless a command has gone out since.
(R350, R359, R360, R361, R362, R366, R367) -/
def Obligations.EnumerationFramesAndNoticesComplete : Prop :=
  (∀ (d : Dev) (q : List Instr) (w : Word64), d.receives .south kEnum w → d.role = .member →
    d.bit SPN_POS_BOUND = false ∨ d.get SPN_POS_HID = bitsNat (cfPay w) 15 0 → bitsNat (cfPay w) 24 24 = 0 →
    bitsNat (cfPay w) 25 25 = 0 → d.bit SPN_POS_VALID = false ∨ d.get SPN_POS_EID ≠ bitsNat (cfPay w) 23 16 →
    d.pw.heldDoze = false → (d.aliveMissed 0 kEnum (cfAlive w)).isSome = true →
    ∃ t, exec (.enumerationFrame .south w) ⟨d, q⟩ = .next t ∧ t.dev.get SPN_POS_POS = bitsNat (cfPay w) 31 26
      ∧ t.dev.get SPN_POS_EID = bitsNat (cfPay w) 23 16 ∧ t.dev.get SPN_POS_VALID = 1 ∧ t.dev.get SPN_POS_BOUND = 1
      ∧ t.dev.get SPN_POS_HID = bitsNat (cfPay w) 15 0 ∧ t.dev.get SPN_CMD_LAST = 0 ∧ t.dev.get SPN_CMD_SYNCWAIT = 0)
  ∧ (∀ (d : Dev) (q : List Instr) (p : Port) (w : Word64), d.receives p kEnum w → d.role = .member →
    d.bit SPN_POS_BOUND = false ∨ d.get SPN_POS_HID = bitsNat (cfPay w) 15 0 → bitsNat (cfPay w) 24 24 = 0 →
    d.aliveMissed 0 kEnum (cfAlive w) = none →
    exec (.enumerationFrame p w) ⟨d, q⟩ = .next ⟨d.consumed p w, q⟩)
  ∧ (∀ (d : Dev) (q : List Instr) (p : Port) (w : Word64), d.receives p kEnum w → d.role = .member → d.bit SPN_POS_BOUND = true →
    d.get SPN_POS_HID ≠ bitsNat (cfPay w) 15 0 →
    exec (.enumerationFrame p w) ⟨d, q⟩ = .next ⟨d.consumed p w, q⟩)
  ∧ (∀ (d : Dev) (q : List Instr) (p : Port) (w : Word64), d.receives p kEnum w → d.role = .head →
    bitsNat (cfPay w) 15 0 ≠ Config.uid.toNat % 2 ^ 16 →
    exec (.enumerationFrame p w) ⟨d, q⟩ = .next ⟨(d.consumed p w).raise 0x7F01 0 [], q⟩)
  ∧ (∀ (d : Dev) (q : List Instr) (p : Port) (w : Word64) (e : EnumRun), d.receives p kNotice w → d.role = .head →
    (d.newSender w).inTurn w (cfPos w) →
    bitsNat (cfPay w) 31 28 = 6 → d.hd.enum = some e → bitsNat (cfPay w) 23 16 = d.get SPN_ENUM_EID →
    let a : EnumAns := ⟨cfPos w, bitsNat (cfPay w) 27 26, bitsNat (cfPay w) 14 0, bitsNat (cfPay w) 15 15 = 1⟩
    (e.phase = .north → bitsNat (cfPay w) 25 25 = 0 → exec (.enumans p w) ⟨d, q⟩
      = .next ⟨{ (d.newSender w).accepted p w (cfPos w) with hd := { d.hd with enum := some { e with
        north := e.north ++ [a] } } }, q⟩)
    ∧ (e.phase = .south → bitsNat (cfPay w) 25 25 = 0 → bitsNat (cfPay w) 24 24 = 0 → exec (.enumans p w) ⟨d, q⟩
      = .next ⟨{ (d.newSender w).accepted p w (cfPos w) with hd := { d.hd with enum := some { e with
        south := e.south ++ [a] } } }, q⟩)
    ∧ (e.phase = .check → exec (.enumans p w) ⟨d, q⟩
      = .next ⟨{ d.accepted p w (cfPos w) with hd := { d.hd with enum := some { e with north := e.north ++ [a] } } }, q⟩))
  ∧ (∀ (d : Dev) (q : List Instr) (p : Port) (w : Word64), d.receives p kNotice w → d.role = .head →
    (bitsNat (cfPay w) 31 28 = 1 → d.inTurn w (cfPos w) → d.hif.runs = [] → exec (.noticeLinkdown p w) ⟨d, q⟩
      = .next ⟨(d.accepted p w (cfPos w)).linkChange (cfPos w) (noticePort w) false false, q⟩)
    ∧ (bitsNat (cfPay w) 31 28 = 2 → d.inTurn w (cfPos w) → exec (.noticeLinkup p w) ⟨d, q⟩
      = .next ⟨(d.accepted p w (cfPos w)).linkChange (cfPos w) (noticePort w) true (bitsNat (cfPay w) 26 26 = 1), q⟩)
    ∧ (bitsNat (cfPay w) 31 28 = 3 → d.inTurn w (cfPos w) → d.hif.runs = [] → ∃ t,
      exec (.noticeWarmreset p w) ⟨d, q⟩ = .next t ∧ (∀ m, t.dev.member (cfPos w) = some m → m.seq1 = 0 ∧ m.exp1 = 0 ∧ m.exp2 = 0
        ∧ m.exp3 = 0 ∧ m.full1 = true ∧ m.ahead = [])
      ∧ ∀ r ∈ t.dev.spn.aliveIn, r.pos = cfPos w → r.kind = kNotice)
    ∧ (bitsNat (cfPay w) 31 28 = 4 →
      (bitsNat (cfPay w) 15 0 ∈ d.hd.unnum → exec (.noticeUnnumbered p w) ⟨d, q⟩
        = .next ⟨(d.consumed p w).put SPN_UNNUM_UID (bitsNat (cfPay w) 15 0), q⟩)
      ∧ (bitsNat (cfPay w) 15 0 ∉ d.hd.unnum → ∃ t, exec (.noticeUnnumbered p w) ⟨d, q⟩ = .next t
        ∧ t.dev.get SPN_UNNUM_UID = bitsNat (cfPay w) 15 0 ∧ t.dev.hd.unnum = bitsNat (cfPay w) 15 0 :: d.hd.unnum))
    ∧ (bitsNat (cfPay w) 31 28 = 5 → d.inTurn w (cfPos w) →
      (d.outstanding (cfPos w) = none → exec (.noticeSynced p w) ⟨d, q⟩
        = .next ⟨(d.accepted p w (cfPos w)).setMember (cfPos w) (fun m => { m with tag := bitsNat (cfPay w) 15 0 }), q⟩)
      ∧ ((d.outstanding (cfPos w)).isSome = true →
        exec (.noticeSynced p w) ⟨d, q⟩ = .next ⟨d.accepted p w (cfPos w), q⟩)))

/-- A command frame with the next TAG is executed once and answered: RD reads registers, WR and WRL write them, RDM
reads a memory space and feeds the tap, and an unknown operation answers BAD_OP. The answer is kept under its TAG.
(R346, R348, R470, R488) -/
def Obligations.MemberCommandsComplete : Prop :=
  ∀ (d : Dev) (q : List Instr) (p : Port) (x : XFrame), d.receivesCommand p x → d.bit SPN_CMD_SYNCWAIT = false →
    x.tag % 65536 = (d.get SPN_CMD_LAST + 1) % 65536 →
    let e := d.tookTag p x
    (payNat x 0 1 = 1 → exec (.commandRd p x) ⟨d, q⟩
      = .next ⟨((e.readRegs (payNat x 4 4) (cmdCount x)).2.answer x 0 (e.readRegs (payNat x 4 4) (cmdCount x)).1).commandDone, q⟩)
    ∧ (payNat x 0 1 = 4 → exec (.commandRdm p x) ⟨d, q⟩
      = .next ⟨((e.crcTap 2 (e.spaceRead (payNat x 4 4) (min 1024 (payNat x 2 2)))).answer x 0
        (e.spaceRead (payNat x 4 4) (min 1024 (payNat x 2 2)))).commandDone, q⟩)
    ∧ (¬ (1 ≤ payNat x 0 1 ∧ payNat x 0 1 ≤ 4) → exec (.commandBadOp p x) ⟨d, q⟩ = .next ⟨(e.answer x 3 []).commandDone, q⟩)
    ∧ (∀ a v l, payNat x 0 1 = 2 → payNat x 1 1 = 1 → payNat x 4 4 = a → wordsOf 1 (x.payload.drop 8) = [v] → a < 2 ^ 24 →
      a % 4 = 0 → e.regAt a = some l → e.blkReg 0xF00 a = none → e.blkReg 0xF04 a = none → stagedView a = false →
      l.acts = false → (∀ f ∈ l.row.fields, e.fieldLocked l f = false) →
      exec (.commandWr p x) ⟨d, q⟩ = .next ⟨((e.putFields l a v).answer x 0 []).commandDone, q⟩)
    ∧ (∀ a v l, payNat x 0 1 = 3 → payNat x 1 1 = 1 → pairsOf 1 (x.payload.drop 8) = [(a, v)] → a < 2 ^ 24 →
      a % 4 = 0 → e.regAt a = some l → e.blkReg 0xF00 a = none → e.blkReg 0xF04 a = none → stagedView a = false →
      l.acts = false → (∀ f ∈ l.row.fields, e.fieldLocked l f = false) →
      exec (.commandWrl p x) ⟨d, q⟩ = .next ⟨((e.putFields l a v).answer x 0 []).commandDone, q⟩)

/-- While SYNCWAIT is set a command frame is answered RESET_SEEN. A TAG that is neither the last nor the next is
answered OUT_OF_SEQ. A repeat of the last TAG is answered from what was kept. None of them executes the command. (R348,
R350) -/
def Obligations.CommandCounterRule : Prop :=
  (∀ (d : Dev) (q : List Instr) (p : Port) (x : XFrame), d.receivesCommand p x → payNat x 0 1 = 1 →
    (d.bit SPN_CMD_SYNCWAIT = true → exec (.commandRd p x) ⟨d, q⟩
      = .next ⟨(d.tookFrame p x).respond (x.tag % 65536) 1 (payNat x 1 1) [], q⟩)
    ∧ (d.bit SPN_CMD_SYNCWAIT = false → x.tag % 65536 ≠ (d.get SPN_CMD_LAST + 1) % 65536 →
      x.tag % 65536 ≠ d.get SPN_CMD_LAST → exec (.commandRd p x) ⟨d, q⟩
        = .next ⟨(d.tookFrame p x).respond (x.tag % 65536) 2 (payNat x 1 1) [], q⟩)
    ∧ (∀ k, d.bit SPN_CMD_SYNCWAIT = false → x.tag % 65536 = d.get SPN_CMD_LAST → d.spn.kept = some k →
      k.tag = x.tag % 65536 → exec (.commandRd p x) ⟨d, q⟩
        = .next ⟨respFragments (k.body.length / 256 + 1) (d.tookFrame p x) (x.tag % 65536) k.body, q⟩))
  ∧ (∀ (d : Dev) (q : List Instr) (p : Port) (x : XFrame), d.settled → d.hears p = true → d.role = .member → x.ftype = 0xF1 →
    x.dir = false → payNat x 0 1 = 1 → d.bit SPN_POS_VALID = true → x.pos = d.get SPN_POS_POS →
    x.crc ≠ xCrc x x.pos (d.cmdSeq x) →
    exec (.commandRd p x) ⟨d, q⟩ = .next ⟨(d.consumedX p x).countSat (SPN_ERR_CRC32 p) 1, q⟩)

/-- A broadcast write acts at every numbered member, and a device without a position only relays it. A member relays the extended frames of others toward the head. The head
takes the fragments of a response, an event in sequence into its queue, and the parts of a stream block. (R334, R345,
R349, R357, R421) -/
def Obligations.ExtendedFramesComplete : Prop :=
  (∀ (d : Dev) (q : List Instr) (p : Port) (x : XFrame), d.settled → d.hears p = true → d.role = .member → d.awake →
    x.ftype = 0xF3 → x.dir = false → d.pstate (otherPort p) ≠ pDown → d.bit SPN_POS_VALID = true →
    x.crc = xCrc x 0x40 (xSeqOf x d.spn.expB) → seqBefore (xSeqOf x d.spn.expB) d.spn.expB = false →
    payNat x 0 1 ≠ 2 → payNat x 0 1 ≠ 3 →
    exec (.bcommand p x) ⟨d, q⟩ = .next ⟨({ d.portSend (otherPort p) (some p) (.ext x) with spn :=
      { (d.portSend (otherPort p) (some p) (.ext x)).spn with expB := (xSeqOf x d.spn.expB + 1) % 2 ^ 32 } }).commandDone, q⟩)
  ∧ (∀ (d : Dev) (q : List Instr) (p : Port) (x : XFrame) (a : Nat) (v : Word) (l : Loc), d.settled → d.hears p = true →
    d.role = .member → d.awake → x.ftype = 0xF3 → x.dir = false → d.pstate (otherPort p) ≠ pDown → d.bit SPN_POS_VALID = true →
    x.crc = xCrc x 0x40 (xSeqOf x d.spn.expB) → seqBefore (xSeqOf x d.spn.expB) d.spn.expB = false →
    payNat x 0 1 = 2 → payNat x 1 1 = 1 → payNat x 4 4 = a → wordsOf 1 (x.payload.drop 8) = [v] → a < 2 ^ 24 → a % 4 = 0 →
    d.regAt a = some l → d.blkReg 0xF00 a = none → d.blkReg 0xF04 a = none → stagedView a = false → l.acts = false → (∀ f ∈ l.row.fields, d.fieldLocked l f = false) →
    ∃ t, exec (.bcommand p x) ⟨d, q⟩ = .next t ∧ t.dev.word a = (d.putFields l a v).word a
      ∧ t.dev.spn.expB = (xSeqOf x d.spn.expB + 1) % 2 ^ 32)
  ∧ (∀ (d : Dev) (q : List Instr) (p : Port) (x : XFrame), d.settled → d.hears p = true → d.role = .member →
    x.ftype = 0xF3 → x.dir = false → d.pstate (otherPort p) ≠ pDown → d.bit SPN_POS_VALID = false →
    exec (.bcommand p x) ⟨d, q⟩ = .next ⟨d.portSend (otherPort p) (some p) (.ext x), q⟩)
  ∧ (∀ (d : Dev) (q : List Instr) (p : Port) (x : XFrame), d.settled → d.hears p = true → d.role = .member → x.dir = true →
    d.pstate (otherPort p) ≠ pDown →
    let relayed : Host.Outcome State Fault Refusal := .next ⟨d.portSend (otherPort p) (some p) (.ext x), q⟩
    (x.ftype = 0xF2 → exec (.response p x) ⟨d, q⟩ = relayed) ∧ (x.ftype = 0xF4 → exec (.event p x) ⟨d, q⟩ = relayed)
      ∧ (x.ftype = 0xF5 → exec (.stream p x) ⟨d, q⟩ = relayed))
  ∧ (∀ (d : Dev) (q : List Instr) (p : Port) (x : XFrame) (m : Member), d.settled → d.hears p = true → d.role = .head →
    x.dir = true → d.member x.pos = some m →
    (∀ r, x.ftype = 0xF2 → x.crc = xCrc x x.pos (xSeqOf x m.exp1) → seqBefore (xSeqOf x m.exp1) m.exp1 = false → x.more = true →
      d.outstanding x.pos = some r → r.tag = x.tag % 65536 →
      exec (.response p x) ⟨d, q⟩ = .next ⟨((d.consumedX p x).setMember x.pos (fun m => { m with
        exp1 := (xSeqOf x m.exp1 + 1) % 2 ^ 32 })).setMember x.pos (fun n => { n with frag := m.frag ++ x.payload }), q⟩)
    ∧ (x.ftype = 0xF4 → x.crc = xCrc x x.pos m.exp2 → xSeqOf x m.exp2 = m.exp2 → m.exp2 < 2 ^ 32 → m.ahead = [] →
      d.hif.evq.length < 4096 →
      exec (.event p x) ⟨d, q⟩ = .next ⟨((d.consumedX p x).setMember x.pos (fun n => { n with
        exp2 := (m.exp2 + 1) % 2 ^ 32 })).deliverEvent x.pos { EventRec.ofBytes x.payload with pos := x.pos }, q⟩)
    ∧ (x.ftype = 0xF5 → x.crc = xCrc x x.pos (xSeqOf x m.exp3) → seqBefore (xSeqOf x m.exp3) m.exp3 = false → x.more = true →
      x.tag = 0 → exec (.stream p x) ⟨d, q⟩ = .next ⟨((d.consumedX p x).setMember x.pos (fun m => { m with
        exp3 := (xSeqOf x m.exp3 + 1) % 2 ^ 32 })).setMember x.pos (fun n => { n with
        sfrag := x.payload, smiss := m.smiss + (xSeqOf x m.exp3 + 2 ^ 32 - m.exp3) % 2 ^ 32 }), q⟩))

/-- A response that does not come repeats the command up to RETRY and then ends it NO_RESPONSE. Events are sent again
and acknowledged, and a gap of events is given up with its event. An enumeration starts, goes on and ends side by side;
the ring is checked after its wait; an unnumbered member says so. (R349, R357, R358, R360, R362, R367) -/
def Obligations.SpindleTimersComplete : Prop :=
  (∀ (d : Dev) (q : List Instr) (pos : Nat) (x : Run) (m : Member), d.runs → d.role = .head → d.outstanding pos = some x →
    d.member pos = some m →
    (∀ a as, x.retries < d.get SPN_RCFG_RETRY → x.acts = a :: as →
      exec (.responseTimeout pos) ⟨d, q⟩
        = .next ⟨(d.setRun { x with retries := x.retries + 1 }).sendCommand pos x.tag (cmdPayload a), q⟩)
    ∧ (d.get SPN_RCFG_RETRY ≤ x.retries → d.hif.runs = [x] →
      exec (.responseTimeout pos) ⟨d, q⟩ = .next ⟨d.endRun x stNoResponse 0, q⟩))
  ∧ (∀ (d : Dev) (q : List Instr), d.settled →
    (d.spn.evq ≠ [] → exec .eventResend ⟨d, q⟩ = .next ⟨({ d with spn := { d.spn with evSent := 0 } }).sendEvents, q⟩)
    ∧ (d.spn.evq = [] → exec .eventResend ⟨d, q⟩ = .next ⟨d, q⟩))
  ∧ (∀ (d : Dev) (q : List Instr) (pos : Nat) (m : Member), d.runs → d.role = .head → d.member pos = some m →
    (m.exp2 ≠ 0 → d.hif.evq.length < 4096 → exec (.evackSend pos) ⟨d, q⟩
      = .next ⟨d.sendCompact [wayPort m.way] kEvack pos (m.exp2 - 1), q⟩)
    ∧ (∀ s e, m.ahead = [(s, e)] → exec (.eventGapTimeout pos) ⟨d, q⟩
      = .next ⟨deliverAhead 1 ((d.setMember pos (fun n => { n with
          exp2 := (m.exp2 + (s + 2 ^ 32 - m.exp2) % 2 ^ 32) % 2 ^ 32 })).raiseAbout pos 0x7017 0
          [(s + 2 ^ 32 - m.exp2) % 2 ^ 32, (Config.eventCause 0x7017 1).toNat]) pos, q⟩))
  ∧ (∀ (d : Dev) (q : List Instr), d.accepts SPN_ENUM_GO → d.role = .head → d.enumerates = false →
    ∃ t, exec .spnEnumGo ⟨d, q⟩ = .next t ∧ t.dev.hd.enum = some ⟨.wait, [], [], d.heldNotices⟩ ∧ t.dev.get SPN_ENUM_BUSY = 1
      ∧ t.dev.get SPN_ENUM_EID = (d.get SPN_ENUM_EID + 1) % 256)
  ∧ (∀ (d : Dev) (q : List Instr) (e : EnumRun), d.settled → d.hd.enum = some e →
    (e.phase = .wait → d.linkUp .north = true → d.bit (SPN_PORT_LEG .north) = false →
      exec .enumStart ⟨d, q⟩ = .next ⟨({ d with hd := { d.hd with enum := some { e with phase := .north } } }).sendEnum
        .north 1 false false, q⟩)
    ∧ (e.phase = .check → d.hd.rebuild = false → e.notices = [] → d.hif.runs = [] → exec .enumSweepTimeout ⟨d, q⟩
      = .next ⟨({ d with hd := { d.hd with enum := none, tried := true } }).put SPN_ENUM_BUSY 0, q⟩)
    ∧ (e.phase = .north → d.linkUp .south = true → d.bit (SPN_PORT_LEG .south) = false → exec .enumSweepTimeout ⟨d, q⟩
      = .next ⟨({ d with hd := { d.hd with enum := some { e with phase := .south } } }).sendEnum .south 63 true false, q⟩))
  ∧ (∀ (d : Dev) (q : List Instr), d.runs → d.role = .head → d.bit SPN_RING_RWAIT = true → d.hd.enum = none →
    d.hd.rebuild = false → exec .ringCheckWaitExpiry ⟨d, q⟩
      = .next ⟨((({ d with hd := { d.hd with enum := some ⟨.check, [], [], []⟩ } }).put SPN_RING_RWAIT 0).put
        SPN_ENUM_BUSY 1).sendEnum .north 1 false true, q⟩)
  ∧ (∀ (d : Dev) (q : List Instr), d.runs → d.role = .member → d.bit SPN_POS_VALID = false → d.inLegacy = false →
    exec .unnumberedNoticeSend ⟨d, q⟩
      = .next ⟨(({ d with pw := { d.pw with heldDoze := true } }).budgetEval 3).sendPlain [.north, .south] kNotice 0
        (4 * 2 ^ 28 + Config.uid.toNat % 2 ^ 16), q⟩)

/-- A well-formed descriptor from a live ring, for a member that is present, is consumed and its first access goes to
the member as a command with the next TAG; NOP completes OK. While the head enumerates or rebuilds its ring the
descriptor waits (log 54). (R349, R351, R403, R404, R427) -/
def Obligations.DescriptorsToMembersComplete : Prop :=
  ∀ (d : Dev) (q : List Instr) (r : Nat) (e : Desc) (m : Member), d.settled → d.role = .head → d.takes r = true →
    d.hif.runs = [] → e.rsvd1 = false → e.rsvd4 = false → e.bcast = false → e.pos % 64 ≠ 0 →
    (d.enumerates = true ∨ d.hd.rebuild = true → 1 ≤ e.count → e.count ≤ 32 →
      exec (.rd r e) ⟨d, q⟩ = .next ⟨d.runTaken r [{ mkRun r 1 e (actsRd e d) with id := d.hif.nextRun }], q⟩)
    ∧ (d.hd.enum = none → d.hd.rebuild = false → d.member (e.pos % 64) = some m → d.lost (e.pos % 64) = false →
    (exec (.nop r e) ⟨d, q⟩ = .next ⟨d.completed r e 0 0, q⟩)
    ∧ (1 ≤ e.count → e.count ≤ 32 →
      exec (.rd r e) ⟨d, q⟩ = .next ⟨d.issued r 1 e (actsRd e d) (.rd e.addr e.count (decide (1 < e.count))) m, q⟩
      ∧ (e.count = 1 → exec (.wr r e) ⟨d, q⟩ = .next ⟨d.issued r 2 e (actsWr e d) (.wr e.addr [e.data]) m, q⟩)
      ∧ (1 < e.count → exec (.wr r e) ⟨d, q⟩
        = .next ⟨d.issued r 2 e (actsWr e d) (.wr e.addr (bufWords e.buf 0 e.count)) m, q⟩)
      ∧ (e.count ≤ 31 → exec (.wrl r e) ⟨d, q⟩
        = .next ⟨d.issued r 3 e (actsWrl e d) (.wrl (bufPairs e.buf e.count)) m, q⟩))
    ∧ (1 ≤ e.len → e.len ≤ 256 →
      exec (.rdm r e) ⟨d, q⟩ = .next ⟨d.issued r 4 e (actsRdm e d) (.rdm e.addr e.len) m, q⟩)
    ∧ (e.wait = false → exec (.commit r e) ⟨d, q⟩ = .next ⟨d.issued r 5 e (actsCommit e d)
        (.wr (e.addr + 0xF00) [BitVec.ofNat 32 (commitWord e)]) m, q⟩)
    ∧ (e.wait = true → exec (.commit r e) ⟨d, q⟩
        = .next ⟨d.issued r 5 e (actsCommit e d) (.gen (e.addr + 0xF04)) m, q⟩)
    ∧ exec (.modereq r e) ⟨d, q⟩
        = .next ⟨d.issued r 6 e (actsModereq e d) (.wr 0x4000 [BitVec.ofNat 32 (bitsOf e.data 2 0)]) m, q⟩
    ∧ exec (.budget r e) ⟨d, q⟩ = .next ⟨d.issued r 7 e (actsBudget e d) (.wr 0x4004 [e.data]) m, q⟩
    ∧ exec (.plan r e) ⟨d, q⟩ = .next ⟨d.issued r 8 e (actsPlan e d) (.gen 0x28F04) m, q⟩
    ∧ (e.wait = true → exec (.sweep r e) ⟨d, q⟩ = .next ⟨d.issued r 9 e (actsSweep e d) (.gen 0x24F04) m, q⟩)
    ∧ (e.addr = 0x400000 ∨ e.addr = 0x500000 → exec (.calstep r e) ⟨d, q⟩ = .next ⟨d.issued r 10 e (actsCalstep e d)
        (.wr (e.addr + 0x2000) [BitVec.ofNat 32 (bitsOf e.data 3 0)]) m, q⟩))

/-- A broadcast of an operation that takes none completes BAD_OPCODE, a reserved field or a count out of range completes
BAD_FIELD with the field's code, a position that is not in the ring completes NO_SUCH_POSITION, one that is lost
completes UNREACHABLE, and BIND, UNBIND and ENUM of another ring complete BAD_OPCODE. (R403, R405, R407) -/
def Obligations.DescriptorErrorsComplete : Prop :=
  ∀ (d : Dev) (q : List Instr) (r : Nat) (e : Desc), d.settled → d.role = .head → d.takes r = true → d.hif.runs = [] →
    d.hd.enum = none → d.hd.rebuild = false →
    (e.bcast = true → exec (.rd r e) ⟨d, q⟩ = .next ⟨d.completed r e 5 0, q⟩)
    ∧ (e.bcast = false → e.rsvd1 = true → exec (.rd r e) ⟨d, q⟩ = .next ⟨d.completed r e 6 1, q⟩)
    ∧ (e.bcast = false → e.rsvd1 = false → e.rsvd4 = false → e.count = 0 ∨ 32 < e.count →
      exec (.rd r e) ⟨d, q⟩ = .next ⟨d.completed r e 6 5, q⟩)
    ∧ (e.bcast = false → e.rsvd1 = false → e.rsvd4 = false → 1 ≤ e.count → e.count ≤ 32 → e.pos % 64 ≠ 0 →
      d.member (e.pos % 64) = none → exec (.rd r e) ⟨d, q⟩ = .next ⟨d.completed r e 3 0, q⟩)
    ∧ (e.bcast = false → e.rsvd1 = false → e.rsvd4 = false → 1 ≤ e.count → e.count ≤ 32 → e.pos % 64 ≠ 0 →
      (d.member (e.pos % 64)).isSome = true → d.lost (e.pos % 64) = true →
      exec (.rd r e) ⟨d, q⟩ = .next ⟨d.completed r e 4 0, q⟩)
    ∧ (r ≠ 0 → exec (.bind r e) ⟨d, q⟩ = .next ⟨d.completed r e 5 0, q⟩)
    ∧ (r ≠ 0 → exec (.unbind r e) ⟨d, q⟩ = .next ⟨d.completed r e 5 0, q⟩)
    ∧ (r ≠ 0 → exec (.enum r e) ⟨d, q⟩ = .next ⟨d.completed r e 5 0, q⟩)

/-- A BIND that is refused completes with its code, and one that is not binds its devices with format and anchor. UNBIND
frees its stream; ENUM starts an enumeration. A BIND that times out completes NO_RESPONSE. A commit that waits polls the
member again, or completes TIMEOUT. (R403, R418, R420) -/
def Obligations.StreamBindingDescriptorsComplete : Prop :=
  (∀ (d : Dev) (q : List Instr) (e : Desc), d.settled → d.role = .head → d.takes 0 = true → d.hif.runs = [] →
    d.hd.enum = none → e.rsvd1 = false → e.rsvd4 = false → e.bcast = false →
    let s := bitsOf e.data 3 0
    (∀ c, (d.consume 0).bindRefusal s (e.param % 2 ^ 64) (bitsOf e.data 8 8 = 1) (bitsOf e.data 15 12) = some c →
      exec (.bind 0 e) ⟨d, q⟩ = .next ⟨d.completed 0 e 7 c, q⟩)
    ∧ ((d.consume 0).bindRefusal s (e.param % 2 ^ 64) (bitsOf e.data 8 8 = 1) (bitsOf e.data 15 12) = none →
      ∃ t, exec (.bind 0 e) ⟨d, q⟩ = .next t ∧ t.dev.sbMask s = d.sbMask s ||| (e.param % 2 ^ 64)
        ∧ t.dev.get (HIF_SBST_FMT s) = bitsOf e.data 8 8 ∧ t.dev.get (HIF_SBST_ANCH s) = bitsOf e.data 15 12)
    ∧ (∃ t, exec (.unbind 0 e) ⟨d, q⟩ = .next t ∧ t.dev.sbMask s = 0 ∧ t.dev.get (HIF_SBST_LOWRATE s) = 0
        ∧ t.dev.get (HIF_SBST_LOAD s) = 0)
    ∧ (d.lathe = true → ∃ t, exec (.enum 0 e) ⟨d, q⟩ = .next t ∧ t.dev.hd.enum = some ⟨.wait, [], [], []⟩
        ∧ t.dev.get SPN_ENUM_BUSY = 1 ∧ t.dev.get SPN_ENUM_EID = (d.get SPN_ENUM_EID + 1) % 256))
  ∧ (∀ (d : Dev) (q : List Instr) (x : Run), d.settled → d.hif.runs = [x] → x.opc = 0x0B → x.started = true →
    exec (.bindTimeout x.cid) ⟨d, q⟩ = .next ⟨d.endRun x stNoResponse 0, q⟩)
  ∧ (∀ (d : Dev) (q : List Instr) (x : Run) (a mask : Nat) (as : List Act), d.settled → d.hif.runs = [x] → x.started = true →
    x.sent = false → x.acts = .poll a mask :: as → x.pos ≠ 0 →
    exec (.commitWaitPoll x.ring x.cid true) ⟨d, q⟩ = .next ⟨d.endRun x stTimeout x.data, q⟩
    ∧ (∀ m, d.member x.pos = some m → d.lost x.pos = false → exec (.commitWaitPoll x.ring x.cid false) ⟨d, q⟩
      = .next ⟨({ d with hif := { d.hif with runs := [{ x with sent := true, tag := (m.tag + 1) % 65536 }] } }).sendCommand
        x.pos ((m.tag + 1) % 65536) (cmdPayload (.poll a mask)), q⟩)
    ∧ (∀ m, d.member x.pos = some m → d.lost x.pos = true →
      exec (.commitWaitPoll x.ring x.cid false) ⟨d, q⟩ = .next ⟨d.endRun x stUnreachable 0, q⟩))

/-- The interface and its rings are enabled and disabled; a ring of a bad size stays off with ERR. A doorbell inside the
ring moves its index, and one outside is a bad doorbell. The coalescing timer signals once. A DMA error stops its ring
with its event. (R396, R397, R398, R423, R424) -/
def Obligations.RingCommandsComplete : Prop :=
  (∀ (d : Dev) (q : List Instr) (en : Bool) (speed width : Nat), d.accepts HIF_CTRL_EN → d.role = .head →
    exec (.hifEnable en speed width) ⟨d, q⟩
      = .next ⟨((((d.putB HIF_CTRL_EN en).put HIF_LINK_SPEED speed).put HIF_LINK_WIDTH width).flush).commandDone, q⟩)
  ∧ (∀ (d : Dev) (q : List Instr) (r : Nat) (v : Word), d.ready → d.role = .head → r ≤ 8 → d.ringEn r = false →
    let e := d.put (HIF_RCFG_LSIZE r) (bitsOf v 4 0)
    (lsizeOk r (bitsOf v 4 0) = true → ¬ (d.get HIF_WBL_WB = 0 ∧ d.get HIF_WBH = 0) → d.ringEn (compRing r) = true →
      e.hostBytes r ≤ 2 ^ 30 → ∃ t, exec (.ringEnable r v) ⟨d, q⟩ = .next t ∧ t.dev.get (HIF_RCFG_EN r) = 1
        ∧ t.dev.ring r = ⟨0, 0, false, 0, 0⟩ ∧ t.dev.get (HIF_RCFG_LSIZE r) = bitsOf v 4 0)
    ∧ (lsizeOk r (bitsOf v 4 0) = false → ∃ t, exec (.ringEnable r v) ⟨d, q⟩ = .next t ∧ t.dev.get (HIF_RCFG_EN r) = 0
        ∧ t.dev.get (HIF_RCFG_ERR r) = 1))
  ∧ (∀ (d : Dev) (q : List Instr) (r : Nat), d.ready → d.role = .head → r ≤ 8 → d.ringEn r = true →
    ∃ t, exec (.ringDisable r) ⟨d, q⟩ = .next t ∧ t.dev.get (HIF_RCFG_EN r) = 0 ∧ (t.dev.ring r).stopped = false)
  ∧ (∀ (d : Dev) (q : List Instr) (r : Nat) (v : Word), d.runs → d.role = .head → d.ringEn r = true → (d.ring r).stopped = false →
    let s := d.ring r
    let ahead := (v.toNat + 2 ^ 32 - s.cidx) % 2 ^ 32
    let held := (s.pidx + 2 ^ 32 - s.cidx) % 2 ^ 32
    (r ≤ 8 → ahead ≤ d.ringSize r → held ≤ ahead →
      exec (.producerDoorbell r v) ⟨d, q⟩ = .next ⟨d.setRing r { s with pidx := v.toNat }, q⟩)
    ∧ (r ≤ 8 → d.ringSize r < ahead ∨ ahead < held →
      exec (.producerDoorbell r v) ⟨d, q⟩ = .next ⟨d.badDoorbell r, q⟩)
    ∧ (9 ≤ r → r < 34 → ahead ≤ held →
      exec (.consumerDoorbell r v) ⟨d, q⟩ = .next ⟨(d.setRing r { s with cidx := v.toNat }).flush, q⟩)
    ∧ (9 ≤ r → r < 34 → held < ahead → exec (.consumerDoorbell r v) ⟨d, q⟩ = .next ⟨d.badDoorbell r, q⟩))
  ∧ (∀ (d : Dev) (q : List Instr) (r : Nat), d.settled → d.ringEn r = true → 0 < (d.ring r).unsig →
    exec (.interruptCoalesceTimer r) ⟨d, q⟩
      = .next ⟨(d.setRing r { d.ring r with unsig := 0 }).emit (.msix (d.get (HIF_RCFG_VEC r))), q⟩)
  ∧ (∀ (d : Dev) (q : List Instr) (r cid addr : Nat), d.settled → d.role = .head → r < 34 → d.ringEn r = true → d.hif.runs = [] →
    d.bit HIF_STAT_DMAERR = true → exec (.dmaError r cid addr) ⟨d, q⟩
      = .next ⟨(((d.put HIF_STAT_DMAERR 1).setRing r { d.ring r with stopped := true }).raise 0x9008 0
        (item64 addr)).ringError r 6, q⟩)

/-- A waiting event and a held completion are written to their rings once there is room. A PCIe reset disables the
interface and every ring, ends every run and unbinds every stream, and shows PRST. D3hot stops the interface and D0
resumes it. (R410, R412, R416, R425) -/
def Obligations.HostQueuesComplete : Prop :=
  (∀ (d : Dev) (q : List Instr) (e : EventRec), d.settled → d.hif.evq = [e] → d.hif.evFullDue = false → d.eventRoom = true →
    exec .eventQueueDrain ⟨d, q⟩
      = .next ⟨({ d with hif := { d.hif with evq := [] } }).ringWrite 17 1 e.bytes, q⟩)
  ∧ (∀ (d : Dev) (q : List Instr) (i : Nat) (h : HeldComp), d.settled → i < 8 → d.hif.held = [h] → compRing h.ring = 9 + i →
    d.ringLive (9 + i) = true → 0 < d.ringFree (9 + i) → exec (.heldCompletionDrain i) ⟨d, q⟩
      = .next ⟨((({ d with hif := { d.hif with held := [] } }).put HIF_STAT_HELD 0).ringWrite (9 + i) 1
        (compBytes h.ring h.cid stAborted h.tq h.cause h.time)).raise 0x9003 0 [9 + i, (d.hif.heldCount[i]?).getD 0], q⟩)
  ∧ (∀ (d : Dev) (q : List Instr) (k : PcieResetKind), d.settled → d.role = .head →
    ∃ t, exec (.pcieReset k) ⟨d, q⟩ = .next t ∧ t.dev.get HIF_CTRL_EN = 0 ∧ (∀ r, r < 34 → t.dev.ringEn r = false)
      ∧ t.dev.hif.runs = [] ∧ t.dev.get HIF_STAT_PRST = 1 ∧ t.dev.boundMask = 0)
  ∧ (∀ (d : Dev) (q : List Instr), d.settled → d.role = .head →
    exec (.pmStateChange true) ⟨d, q⟩ = .next ⟨{ d with hif := { d.hif with d3hot := true } }, q⟩
    ∧ (d.hif.compq = [] → d.hif.evq = [] → d.hif.evFullDue = false →
      exec (.pmStateChange false) ⟨d, q⟩ = .next ⟨{ d with hif := { d.hif with d3hot := false } }, q⟩))

/-- A PTM dialogue or a labelled PPS edge updates the error and the count of good updates; the sixteenth in succession
locks, and one that is out, however far and whether or not a step is decided, takes a locked head to FREE. A lost source takes a locked head to HOLDOVER and leaves a free one FREE. A PPS edge off its instant is discarded
with its event. (R375, R376, R377, R381) -/
def Obligations.HeadTimeSourcesComplete : Prop :=
  (∀ (d : Dev) (q : List Instr) (src tb : Int), d.settled → d.headTb = true → d.get TB_CFG_SRC = 1 →
    d.get TB_STAT_ACT = 1 → d.tb.step = none → d.tq ≠ tqUnset →
    let err := tb - 256 * (src + toSigned 64 (d.get64 TB_PTMOFSL TB_PTMOFSH))
    |err| ≤ ((d.get TB_CFG_STEPLIM * 10000 * 256 : Nat) : Int) →
    (|err| ≤ 51200 → d.tb.good < 15 → exec (.ptmDialogue src tb) ⟨d, q⟩
      = .next ⟨{ d.putS TB_ERR err with tb := { d.tb with ptmOk := true, good := d.tb.good + 1 } }, q⟩)
    ∧ (|err| ≤ 51200 → 15 ≤ d.tb.good → ∃ t, exec (.ptmDialogue src tb) ⟨d, q⟩ = .next t ∧ t.dev.get TB_STAT_TQ = 3)
    ∧ (51200 < |err| → d.tq ≠ tqLocked → exec (.ptmDialogue src tb) ⟨d, q⟩
      = .next ⟨{ d.putS TB_ERR err with tb := { d.tb with ptmOk := true, good := 0 } }, q⟩))
  ∧ (∀ (d : Dev) (q : List Instr) (src tb : Int), d.settled → d.headTb = true → d.get TB_CFG_SRC = 1 →
    d.get TB_STAT_ACT = 1 → d.tq = tqLocked →
    51200 < |tb - 256 * (src + toSigned 64 (d.get64 TB_PTMOFSL TB_PTMOFSH))| →
    ∃ t, exec (.ptmDialogue src tb) ⟨d, q⟩ = .next t ∧ t.dev.get TB_STAT_TQ = 1 ∧ t.dev.tb.good = 0)
  ∧ (∀ (d : Dev) (q : List Instr), d.settled → d.role = .head → d.get TB_CFG_SRC = 1 → d.get TB_STAT_ACT = 1 →
    (d.tq = tqLocked → ∃ t, exec .ptmLoss ⟨d, q⟩ = .next t ∧ t.dev.get TB_STAT_TQ = 2 ∧ t.dev.get TB_STAT_ACT = 0)
    ∧ (d.tq = tqFree → ∃ t, exec .ptmLoss ⟨d, q⟩ = .next t ∧ t.dev.get TB_STAT_TQ = 1 ∧ t.dev.get TB_STAT_ACT = 0))
  ∧ (∀ (d : Dev) (q : List Instr) (tb : Int), d.settled → d.headTb = true → d.get TB_CFG_SRC = 2 → d.get TB_STAT_ACT = 2 →
    (∀ e : Int, d.tb.lastEdge = some e → 256000000 < |tb - (e + 256000000000)| →
      exec (.ppsEdge tb) ⟨d, q⟩ = .next ⟨d.raise 0x8007 0 [], q⟩)
    ∧ (∀ e : Int, d.tb.lastEdge = some e → |tb - (e + 256000000000)| ≤ 256000000 → d.tb.tod = none →
      exec (.ppsEdge tb) ⟨d, q⟩ = .next ⟨{ d with tb := { d.tb with
        ppsOk := true, lastEdge := some tb, lastSec := d.tb.lastSec.map (· + 1) } }, q⟩)
    ∧ (∀ sec : Nat, d.tb.lastEdge = none → d.tb.tod = some sec → d.tb.step = none → d.tq ≠ tqUnset →
      let err := tb - ((sec * 1000000000 * 256 : Nat) : Int)
      |err| ≤ ((d.get TB_CFG_STEPLIM * 10000 * 256 : Nat) : Int) → |err| ≤ 51200 → d.tb.good < 15 →
      exec (.ppsEdge tb) ⟨d, q⟩ = .next ⟨{ d.putS TB_ERR err with tb := { d.tb with
        ppsOk := true, lastEdge := some tb, lastSec := some sec, tod := none, good := d.tb.good + 1 } }, q⟩))
  ∧ (∀ (d : Dev) (q : List Instr), d.settled → d.role = .head → d.get TB_CFG_SRC = 2 → d.get TB_STAT_ACT = 2 →
    ∃ t, exec .ppsLoss ⟨d, q⟩ = .next t ∧ t.dev.get TB_STAT_ACT = 0 ∧ t.dev.tb.ppsOk = false ∧ t.dev.tb.lastEdge = none
      ∧ (d.tq = tqLocked → t.dev.get TB_STAT_TQ = 2) ∧ (d.tq = tqFree → t.dev.get TB_STAT_TQ = 1))

/-- A good time-of-day message between 100 ms and 900 ms names the next second, and any other is discarded with its
event. TB_SET decides a step at the first whole second at least 3 s on, where it is accepted. A step jumps the count at
its edge. HOLDOVER ends in FREE. (R376, R379, R380, R381) -/
def Obligations.TimeSettingCompletes : Prop :=
  (∀ (d : Dev) (q : List Instr) (sec ms : Nat), d.settled → d.role = .head → sec < 2 ^ 64 →
    let head : List Byte := [0x54, 1] ++ (List.range 8).map (fun i => BitVec.ofNat 8 (sec / 256 ^ i)) ++ [1]
    let named : Host.Outcome State Fault Refusal := .next ⟨{ d with tb := { d.tb with tod := some sec } }, q⟩
    let bad : Host.Outcome State Fault Refusal := .next ⟨d.raise 0x8007 0 [], q⟩
    (100 ≤ ms → ms ≤ 900 → d.tb.lastSec = none ∨ (∃ l, d.tb.lastSec = some l ∧ sec = l + 1) →
      exec (.timeOfDayMessage (head ++ [crc8 head]) ms) ⟨d, q⟩ = named)
    ∧ (ms < 100 ∨ 900 < ms → exec (.timeOfDayMessage (head ++ [crc8 head]) ms) ⟨d, q⟩ = bad)
    ∧ (∀ l, d.tb.lastSec = some l → sec ≠ l + 1 → exec (.timeOfDayMessage (head ++ [crc8 head]) ms) ⟨d, q⟩ = bad)
    ∧ (∀ c, c ≠ crc8 head → exec (.timeOfDayMessage (head ++ [c]) ms) ⟨d, q⟩ = bad))
  ∧ (∀ (d : Dev) (q : List Instr) (lo hi : Word) (ms : Nat), d.accepts TB_TODH → d.role = .head → 100 ≤ ms → ms ≤ 900 →
    let sec := lo.toNat + 2 ^ 32 * hi.toNat
    d.tb.lastSec = none ∨ (∃ l, d.tb.lastSec = some l ∧ sec = l + 1) →
    exec (.tbTodWrite lo hi ms) ⟨d, q⟩
      = .next ⟨({ d with tb := { d.tb with todLow := lo.toNat, tod := some sec } } : Dev).commandDone, q⟩)
  ∧ (∀ (d : Dev) (q : List Instr) (lo hi : Word), d.accepts TB_SETH →
    (d.headTb = true → d.get TB_CFG_SRC = 0 ∨ d.tq = tqUnset →
      let e : Dev := { d with tb := { d.tb with setLow := lo.toNat, good := 0
                                                step := some (secondFrom (d.mtick + 18000000), lo.toNat + 2 ^ 32 * hi.toNat, 0) } }
      exec (.tbSet lo hi) ⟨d, q⟩ = .next ⟨(e.put TB_STAT_STEPPEND 1).commandDone, q⟩)
    ∧ (d.get TB_CFG_SRC ≠ 0 → d.tq ≠ tqUnset → exec (.tbSet lo hi) ⟨d, q⟩
      = .next ⟨({ d with tb := { d.tb with setLow := lo.toNat } } : Dev).commandDone, q⟩))
  ∧ (∀ (d : Dev) (q : List Instr), d.settled → d.tq = tqHoldover →
    (d.role = .member → d.bit TB_STAT_RLOCK = false →
      exec .holdoverEnd ⟨d, q⟩ = .next ⟨d.put TB_STAT_TQ 1, q⟩)
    ∧ (d.role = .head → exec .holdoverEnd ⟨d, q⟩ = .next ⟨(d.put TB_STAT_TQ 1).raise 0x8003 0 [], q⟩))
  ∧ (∀ (d : Dev) (q : List Instr) (s sec tick : Nat), d.settled → d.tbRuns = true → d.tb.step = some (s, sec, tick) →
    d.mtick ≤ s * 6000000 → d.win.opened = false ∨ ((s * 6000000 : Nat) : Int) ≤ d.nextBoundary →
    ∃ t, exec .tbStep ⟨d, q⟩ = .next t ∧ t.dev.mtick = sec * 6000000 + tick ∧ t.dev.tb.step = none
      ∧ t.dev.get TB_STAT_STEPPEND = 0 ∧ t.dev.win.tstep = true
      ∧ t.dev.get TB_STAT_STEPCNT = (d.get TB_STAT_STEPCNT + 1) % 65536)

/-- The two ends of a link exchange STAMP, REQ and RESP; the downstream end computes delay and error and sets or clears
RLOCK. INFO carries the seconds, the quality with the hops, and an announced step. (R380, R383, R384, R385, R551) -/
def Obligations.TimingFramesComplete : Prop :=
  (∀ (d : Dev) (q : List Instr) (p : Port) (tx : Nat), d.settled → d.upstream p = true → ∃ t,
    exec (.timingExchangeStart p tx) ⟨d, q⟩ = .next t
      ∧ (p = .north → t.dev.tb = { d.tb with infoN := (d.tb.infoN + 1) % 4 })
      ∧ (p = .south → t.dev.tb = { d.tb with infoS := (d.tb.infoS + 1) % 4 }))
  ∧ (∀ (d : Dev) (q : List Instr) (p : Port) (w : Word64) (rx tx : Nat), d.hearsTiming p 0 w → d.timePort = some p →
    exec (.timingStamp p w rx tx) ⟨d, q⟩ = .next ⟨({ d with tb := { d.tb with
      t1 := cfPay w % 2 ^ 30, t2 := rx % 2 ^ 30, t3 := tx % 2 ^ 30 } } : Dev).sendTiming p (2 ^ 30 + tx % 2 ^ 30), q⟩)
  ∧ (∀ (d : Dev) (q : List Instr) (p : Port) (w : Word64) (rx : Nat), d.hearsTiming p 1 w → d.upstream p = true →
    exec (.timingReq p w rx) ⟨d, q⟩ = .next ⟨d.sendTiming p (2 * 2 ^ 30 + rx % 2 ^ 30), q⟩)
  ∧ (∀ (d : Dev) (q : List Instr) (p : Port) (w : Word64), d.hearsTiming p 2 w → d.timePort = some p → d.role = .member →
    let x := exchange d.tb.t1 d.tb.t2 d.tb.t3 (cfPay w % 2 ^ 30) (d.asym p)
    let e := (d.putS (match p with | .north => TB_DLYN | .south => TB_DLYS) x.1).putS TB_ERR x.2
    let lim : Int := if d.pstate p = pHr then 256 else 5120
    (|x.2| ≤ lim → d.tb.good < 63 ∨ d.bit TB_STAT_RLOCK = true → exec (.timingResp p w) ⟨d, q⟩
      = .next ⟨({ e with tb := { d.tb with good := d.tb.good + 1, bad := 0 } }).stepStages, q⟩)
    ∧ (|x.2| ≤ lim → 63 ≤ d.tb.good → d.bit TB_STAT_RLOCK = false → ∃ t, exec (.timingResp p w) ⟨d, q⟩ = .next t
      ∧ t.dev.get TB_STAT_RLOCK = 1 ∧ t.dev.get TB_STAT_TQ = d.tb.headTq % 4)
    ∧ (lim < |x.2| → d.bit TB_STAT_RLOCK = true → 15 ≤ d.tb.bad → ∃ t, exec (.timingResp p w) ⟨d, q⟩ = .next t
      ∧ t.dev.get TB_STAT_RLOCK = 0 ∧ t.dev.get TB_STAT_TQ = 2)
    ∧ (lim < |x.2| → d.bit TB_STAT_RLOCK = true → d.tb.bad < 15 → exec (.timingResp p w) ⟨d, q⟩
      = .next ⟨({ e with tb := { d.tb with good := 0, bad := d.tb.bad + 1 } }).stepStages, q⟩))
  ∧ (∀ (d : Dev) (q : List Instr) (p : Port) (w : Word64) (edge : Nat), d.hearsTiming p 3 w → d.timePort = some p →
    let v := cfPay w % 2 ^ 28
    (cfPay w % 2 ^ 30 / 2 ^ 28 = 0 → d.bit TB_STAT_STEPPEND = false → d.tb.annH = none →
      exec (.timingInfo p w edge) ⟨d, q⟩ = .next ⟨({ d with tb := { d.tb with annL := some v } }).stepStages, q⟩)
    ∧ (cfPay w % 2 ^ 30 / 2 ^ 28 = 2 → d.bit TB_STAT_RLOCK = true → v / 2 ^ 19 % 2 = 0 → d.tb.step = none →
      let e := ((d.put TB_STAT_TQ (v / 2 ^ 26)).put TB_STAT_HOPS (v / 2 ^ 20 % 64 + 1)).put TB_STAT_STEPPEND 0
      exec (.timingInfo p w edge) ⟨d, q⟩ = .next ⟨({ e with tb := { d.tb with headTq := v / 2 ^ 26 } }).stepStages, q⟩)
    ∧ (∀ l h : Nat, cfPay w % 2 ^ 30 / 2 ^ 28 = 3 → d.bit TB_STAT_STEPPEND = true → d.tb.annL = some l → d.tb.annH = some h →
      d.mtick ≤ edge * 6000000 →
      let e := d.put TB_STAT_STEPPEND 1
      exec (.timingInfo p w edge) ⟨d, q⟩ = .next ⟨({ e with tb := { d.tb with
        annT := some (v % 2 ^ 23), step := some (edge, l + 2 ^ 28 * h, v % 2 ^ 23), late := false } }).stepStages, q⟩))

/-- A search starts on a free line and waits for a busy one; each frame that passes leads to the next of the search, up
to the roster at its end; a frame that fails is repeated once. (R430, R437, R438, R441) -/
def Obligations.BeadlineSearchCompletes : Prop :=
  (∀ (d : Dev) (q : List Instr), d.accepts BDL_CTRL_SRCH → d.bdlUp 0 = true → d.bit (BDL_LSTAT_SRCH 0) = false →
    (d.bdl.l0.act = .idle → ∃ t, exec (.bdlSearch 1) ⟨d, q⟩ = .next t ∧ t.dev.get (BDL_LSTAT_SRCH 0) = 1
      ∧ t.dev.get (BDL_LSTAT_RCHG 0) = 0 ∧ t.dev.get (BDL_LSTAT_FULL 0) = 0 ∧ t.dev.get (BDL_LSTAT_NEWPRB 0) = 0
      ∧ t.dev.bdl.l0.act = .restart ∧ t.dev.bdl.l1 = d.bdl.l1)
    ∧ (d.bdl.l0.act ≠ .idle → exec (.bdlSearch 1) ⟨d, q⟩
      = .next ⟨({ d with bdl := { d.bdl with l0 := { d.bdl.l0 with wanted := true } } } : Dev).commandDone, q⟩))
  ∧ (∀ (d : Dev) (q : List Instr) (l : Nat), d.settled → l < 2 → d.bdlUp l = true → d.bit (BDL_LSTAT_SRCH l) = false →
    d.bit (BDL_LSTAT_VALID l) = false → (d.bline l).act = .idle →
    (d.bitAt BDL_CFG_AUTOS l = true → exec (.autoSearch l) ⟨d, q⟩ = .next ⟨d.searchStart l, q⟩)
    ∧ (d.bitAt BDL_CFG_AUTOS l = false → exec (.autoSearch l) ⟨d, q⟩ = .next ⟨d, q⟩))
  ∧ (∀ (d : Dev) (q : List Instr) (l : Nat), d.settled → l < 2 →
    ((d.bline l).act = .restart → exec (.bdlWaitEnd l) ⟨d, q⟩ = .next ⟨d.bdlStep l .frontier, q⟩)
    ∧ (∀ p, (d.bline l).act = .powerUp p → p ≠ 32 → exec (.bdlWaitEnd l) ⟨d, q⟩ = .next ⟨d.bdlStep l (.assign (p + 1)), q⟩)
    ∧ ((d.bline l).act = .pull → d.schedReads l ≠ [] →
      exec (.bdlWaitEnd l) ⟨d, q⟩ = .next ⟨d.bdlStep l (.reads (d.schedReads l)), q⟩)
    ∧ ((d.bline l).act = .hostPull → ∃ t, exec (.bdlWaitEnd l) ⟨d, q⟩ = .next t ∧ t.dev.get BDL_XRES_DONE = 1
      ∧ t.dev.get BDL_XRES_ERR = 0 ∧ t.dev.bdl.xfer = none))
  ∧ (∀ (d : Dev) (q : List Instr) (l : Nat) (r : BdlReply), d.settled → l < 2 →
    (∀ c a : Nat, d.frameOf l = some (c, a) → judge c a r = 0 →
      ((d.bline l).act = .frontier → exec (.bdlFrameEnd l r) ⟨d, q⟩ = .next ⟨d.bdlStep l (.assign 1), q⟩)
      ∧ ((d.bline l).act = .assign 1 → exec (.bdlFrameEnd l r) ⟨d, q⟩ = .next ⟨d.bdlStep l (.pass 1), q⟩)
      ∧ (∀ p, (d.bline l).act = .assign p → p ≠ 1 → exec (.bdlFrameEnd l r) ⟨d, q⟩ = .next ⟨d.bdlStep l (.checkPrev p), q⟩)
      ∧ (∀ p, (d.bline l).act = .checkPrev p → exec (.bdlFrameEnd l r) ⟨d, q⟩ = .next ⟨d.bdlStep l (.pass p), q⟩)
      ∧ (∀ p, (d.bline l).act = .pass p → exec (.bdlFrameEnd l r) ⟨d, q⟩ = .next ⟨d.bdlTo l (.powerUp p), q⟩)
      ∧ (∀ p, (d.bline l).act = .checkLast p → p ≤ 32 → ∃ t, exec (.bdlFrameEnd l r) ⟨d, q⟩ = .next t
        ∧ t.dev.get (BDL_ROSTER l) = 2 ^ (p - 1) - 1 ∧ t.dev.get (BDL_LSTAT_VALID l) = 1
        ∧ t.dev.get (BDL_LSTAT_NPROBE l) = p - 1 ∧ t.dev.get (BDL_LSTAT_RCHG l) = 0))
    ∧ (∀ c a : Nat, d.frameOf l = some (c, a) → judge c a r ≠ 0 → (d.bline l).again = false → (d.bline l).act ≠ .host →
      exec (.bdlFrameEnd l r) ⟨d, q⟩ = .next ⟨(d.setBline l { d.bline l with again := true }).bdlSend l, q⟩))

/-- A schedule frame starts with CONVERT on a free line and counts an overrun on a busy one. A host transaction starts
or is refused. A fault of the strong pull-up or a short abandons the frame with its flag. Enabling a line starts it
without a roster; disabling it drops what runs. (R440, R441, R442, R445) -/
def Obligations.BeadlineFramesComplete : Prop :=
  (∀ (d : Dev) (q : List Instr) (l : Nat), d.settled → d.schedRuns l = true → d.bit (BDL_SCH_EN l) = true →
    d.pend bdlBase l = false →
    ((d.bline l).act = .idle → exec (.bdlScheduleFrame l) ⟨d, q⟩
      = .next ⟨(d.setBline l { d.bline l with done := [] }).bdlStep l .convert, q⟩)
    ∧ ((d.bline l).act ≠ .idle → (d.bline l).overSaid = true → exec (.bdlScheduleFrame l) ⟨d, q⟩
      = .next ⟨d.put (BDL_LSTAT_OVRUN l) (min 255 (d.get (BDL_LSTAT_OVRUN l) + 1)), q⟩))
  ∧ (∀ (d : Dev) (q : List Instr) (v : Word), d.accepts BDL_XCTL_GO → bitsOf v 31 31 = 1 →
    let e := d.setWord BDL_XCTL_CODE.addr (v &&& 0x011F3FFF#32)
    let l := bitsOf v 24 24
    (e.bit (BDL_LSTAT_SRCH l) = true ∨ d.bdl.xfer ≠ none → exec (.bdlXctlGo v) ⟨d, q⟩
      = .next ⟨(e.put BDL_XRES_REFUSED 1).commandDone, q⟩)
    ∧ (e.bit (BDL_LSTAT_SRCH l) = false → d.bdl.xfer = none → bitsOf v 20 16 = 0 → e.bdlUp l = true → (d.bline l).act = .idle →
      ∃ t, exec (.bdlXctlGo v) ⟨d, q⟩ = .next t ∧ t.dev.get BDL_XRES_REFUSED = 0
      ∧ t.dev.bdl.xfer = some ⟨l, 0, bitsOf v 13 8, bitsOf v 7 0⟩ ∧ (t.dev.bline l).act = .host))
  ∧ (∀ (d : Dev) (q : List Instr) (l : Nat), d.settled → l < 2 →
    ((d.bline l).act = .pull → d.bdl.xfer = none → (d.bline l).wanted = false → ∃ t, exec (.bdlSpuFault l) ⟨d, q⟩ = .next t
      ∧ t.dev.get (BDL_LSTAT_SPUERR l) = 1 ∧ (t.dev.bline l).act = .idle)
    ∧ ((d.bline l).act = .hostPull → ∃ t, exec (.bdlSpuFault l) ⟨d, q⟩ = .next t ∧ t.dev.get BDL_XRES_ERR = 3
      ∧ t.dev.get (BDL_LSTAT_SPUERR l) = 1)
    ∧ (d.bdlUp l = true → ∃ t, exec (.bdlShort l) ⟨d, q⟩ = .next t ∧ t.dev.get (BDL_LSTAT_SHORT l) = 1
      ∧ (t.dev.bline l).act = .idle ∧ (d.keepsEvents → d.newEvent t.dev 0xA006 [l])))
  ∧ (∀ (d : Dev) (q : List Instr) (l : Nat), d.accepts BDL_CFG_LEN → l < 2 →
    (d.bitAt BDL_CFG_LEN l = false → ∃ t, exec (.bdlLineEnable l true) ⟨d, q⟩ = .next t
      ∧ t.dev.bitAt BDL_CFG_LEN l = true ∧ t.dev.get (BDL_LSTAT_SHORT l) = 0 ∧ t.dev.get (BDL_LSTAT_VALID l) = 0)
    ∧ (d.bitAt BDL_CFG_LEN l = true → ∃ t, exec (.bdlLineEnable l false) ⟨d, q⟩ = .next t
      ∧ t.dev.bitAt BDL_CFG_LEN l = false ∧ (t.dev.bline l).act = .idle))

/-- GO starts a transfer on a free bus, lets it wait on a busy one, and is refused while stuck or busy. The bus clear
runs as R464 says. A transfer ends with its status and count; lost arbitration is counted, may make the device a target,
and is tried again up to RETRY; a stretch that is too long ends the transfer. (R454, R455, R456, R457, R458, R459, R464)
-/
def Obligations.IicControllerCompletes : Prop :=
  (∀ (d : Dev) (q : List Instr), d.accepts IIC_CTRL_GO → d.pw.iicWait = none → d.bit IIC_CFG_CEN = true →
    (d.bit IIC_STAT_STUCK = true → exec .iicGo ⟨d, q⟩ = .next ⟨(d.put IIC_STAT_XST 6).commandDone, q⟩)
    ∧ (d.bit IIC_STAT_STUCK = false → d.iic.xfer ≠ none → exec .iicGo ⟨d, q⟩ = .next ⟨(d.put IIC_STAT_XST 7).commandDone, q⟩)
    ∧ (d.bit IIC_STAT_STUCK = false → d.iic.xfer = none → d.iicFree = true → ∃ t, exec .iicGo ⟨d, q⟩ = .next t
      ∧ t.dev.get IIC_STAT_XRUN = 1 ∧ t.dev.get IIC_STAT_BUSY = 1 ∧ ∃ x, t.dev.iic.xfer = some x ∧ x.phase = .running
        ∧ x.wlen = min 64 (d.get IIC_XCTL_WLEN) ∧ x.rlen = min 64 (d.get IIC_XCTL_RLEN) ∧ x.tries = 0)
    ∧ (d.bit IIC_STAT_STUCK = false → d.iic.xfer = none → d.iicFree = false → ∃ t, exec .iicGo ⟨d, q⟩ = .next t
      ∧ t.dev.get IIC_STAT_XRUN = 1 ∧ ∃ x, t.dev.iic.xfer = some x ∧ x.phase = .waiting))
  ∧ (∀ (d : Dev) (q : List Instr) (o : IicBusObs), d.pw.iicWait = none →
    (d.accepts IIC_CTRL_CLRSTK → o.sdaHigh = true → exec (.iicClrstk o) ⟨d, q⟩
      = .next ⟨((d.put IIC_STAT_STUCK 0).put IIC_STAT_STUCKSCL 0).commandDone, q⟩)
    ∧ (d.accepts IIC_CTRL_CLRSTK → o.sdaHigh = false → o.sclHeld = false → o.freed = false → ∃ t,
      exec (.iicClrstk o) ⟨d, q⟩ = .next t ∧ t.dev.get IIC_STAT_STUCK = 1 ∧ t.dev.get IIC_STAT_STUCKSCL = 0)
    ∧ (d.accepts IIC_CFG_CEN → d.iic.cenDue = false → d.bit IIC_CFG_CEN = false → exec (.iicCenWrite o) ⟨d, q⟩
      = .next ⟨({ d.put IIC_CFG_CEN 1 with iic := { d.iic with fresh := true } } : Dev).commandDone, q⟩)
    ∧ (d.accepts IIC_CFG_CEN → d.iic.cenDue = true → o.sdaHigh = true → ∃ t, exec (.iicCenWrite o) ⟨d, q⟩ = .next t
      ∧ t.dev.get IIC_CFG_CEN = 1 ∧ t.dev.iic.cenDue = false ∧ t.dev.get IIC_STAT_STUCK = d.get IIC_STAT_STUCK))
  ∧ (∀ (d : Dev) (q : List Instr), d.settled → d.pw.iicWait = none → d.iicUp = true → d.iic.xfer = none →
    exec .iicBusIdle ⟨d, q⟩ = .next ⟨{ d.put IIC_STAT_BUSY 0 with iic := { d.iic with fresh := false, target := false } }, q⟩)
  ∧ (∀ (d : Dev) (q : List Instr) (x : IicXfer), d.settled → d.pw.iicWait = none → d.iic.xfer = some x → x.phase = .running →
    (x.rlen = 0 → ∃ t, exec (.iicTransferEnd (.ok [])) ⟨d, q⟩ = .next t ∧ t.dev.get IIC_STAT_XST = 1
      ∧ t.dev.get IIC_STAT_XCNT = x.wlen % 256 ∧ t.dev.get IIC_STAT_XDONE = 1 ∧ t.dev.get IIC_STAT_XRUN = 0
      ∧ t.dev.get IIC_STAT_BUSY = 0 ∧ t.dev.iic.xfer = none)
    ∧ (∃ t, exec (.iicTransferEnd .nackAddr) ⟨d, q⟩ = .next t ∧ t.dev.get IIC_STAT_XST = 2 ∧ t.dev.iic.xfer = none)
    ∧ (∀ n, n ≤ x.wlen → n < 256 → ∃ t, exec (.iicTransferEnd (.nackData n)) ⟨d, q⟩ = .next t ∧ t.dev.get IIC_STAT_XST = 3
      ∧ t.dev.get IIC_STAT_XCNT = n)
    ∧ (∀ (b : Nat) (read : List Byte), ∃ t, exec (.arbitrationLost b read .none) ⟨d, q⟩ = .next t
      ∧ t.dev.get IIC_STAT_LOSTBIT = min 4095 b ∧ t.dev.get IIC_CNT_ARBCNT = min 65535 (d.get IIC_CNT_ARBCNT + 1)
      ∧ t.dev.iic.xfer = some { x with phase := .lost } ∧ t.dev.iic.target = false)
    ∧ (∀ (b : Nat) (read : List Byte), b < 9 → d.bit IIC_CFG_TEN = true → ∃ t, exec (.arbitrationLost b read .ta) ⟨d, q⟩ = .next t
      ∧ t.dev.iic.target = true ∧ t.dev.get IIC_STAT_XST = 8)
    ∧ (∀ (n : Nat) (o : IicBusObs), n ≤ x.wlen → n < 256 → o.sdaHigh = true → ∃ t, exec (.iicStretchTimeout n [] o) ⟨d, q⟩ = .next t
      ∧ t.dev.get IIC_STAT_XST = 5 ∧ t.dev.get IIC_STAT_XCNT = n ∧ (d.keepsEvents → d.newEvent t.dev 0xA105 [x.addr, n])))
  ∧ (∀ (d : Dev) (q : List Instr) (x : IicXfer), d.settled → d.pw.iicWait = none → d.iic.xfer = some x → x.phase = .lost →
    (x.tries < d.get IIC_CFG_RETRY → ∃ t, exec .iicRetry ⟨d, q⟩ = .next t
      ∧ t.dev.iic.xfer = some { x with tries := x.tries + 1, phase := .running } ∧ t.dev.get IIC_STAT_BUSY = 1)
    ∧ (d.get IIC_CFG_RETRY ≤ x.tries → ∃ t, exec .iicRetry ⟨d, q⟩ = .next t ∧ t.dev.iic.xfer = none
      ∧ t.dev.get IIC_STAT_XST = 4 ∧ (d.keepsEvents → d.newEvent t.dev 0xA101 [d.get IIC_STAT_LOSTBIT, x.tries + 1])))

/-- The mailbox takes a message while RXNEW is 0 and answers a read with TXLEN bytes and then 0xFF. A time-of-day write
of twelve bytes is that message, and another length is discarded. A target that times out is released and counted. A
move that waited for the port goes on after TTO. (R449, R461, R462, R463) -/
def Obligations.IicTargetCompletes : Prop :=
  (∀ (d : Dev) (q : List Instr), d.settled → d.pw.iicWait = none → d.iicUp = true → d.bit IIC_CFG_TEN = true →
    (∀ bytes : List Byte, bytes.length ≤ 64 → d.bit IIC_TSTAT_RXNEW = false → ∃ t, exec (.iicTargetRx bytes) ⟨d, q⟩ = .next t
      ∧ t.dev.get IIC_TSTAT_RXLEN = bytes.length ∧ t.dev.get IIC_TSTAT_RXNEW = 1
      ∧ (∀ k : Nat, k < bytes.length → (t.dev.bufBytes IIC_TRX 64)[k]? = bytes[k]?)
      ∧ (d.keepsEvents → d.newEvent t.dev 0xA104 [bytes.length]))
    ∧ (∀ bytes : List Byte, d.bit IIC_TSTAT_RXNEW = true → exec (.iicTargetRx bytes) ⟨d, q⟩ = .next ⟨d, q⟩)
    ∧ (∀ n : Nat, let bs := d.bufBytes IIC_TTX (min 64 (d.get IIC_TTXL_TXLEN))
      exec (.iicTargetRead n) ⟨d, q⟩ = .next ⟨({ (d.emit (.iicBytes (bs.take n ++ List.replicate (n - bs.length) 0xFF))).put
        IIC_TSTAT_TXRD 1 with iic := { d.iic with target := false } } : Dev), q⟩)
    ∧ (∀ (bytes : List Byte) (ms : Nat), d.todaUp = true → bytes.length ≠ 12 → exec (.iicTodaWrite bytes ms) ⟨d, q⟩
      = .next ⟨({ d with iic := { d.iic with target := false } } : Dev).raise 0x8007 0 [], q⟩)
    ∧ (∀ (bytes : List Byte) (ms : Nat), d.todaUp = true → bytes.length = 12 → exec (.iicTodaWrite bytes ms) ⟨d, q⟩
      = exec (.timeOfDayMessage bytes ms) ⟨{ d with iic := { d.iic with target := false } }, q⟩)
    ∧ (∀ a : Nat, ∃ t, exec (.iicTargetTimeout a) ⟨d, q⟩ = .next t ∧ t.dev.iic.target = false
      ∧ t.dev.get IIC_CNT_TTOCNT = min 65535 (d.get IIC_CNT_TTOCNT + 1) ∧ (d.keepsEvents → d.newEvent t.dev 0xA103 [a])))
  ∧ (∀ (d : Dev) (q : List Instr), d.settled →
    (∀ tr : Nat, d.pw.iicWait = some tr → ∃ t, exec .iicMoveWaitTto ⟨d, q⟩ = .next t ∧ t.dev.iic.xfer = none
      ∧ t.dev.iic.target = false ∧ t.dev.get IIC_STAT_BUSY = 0 ∧ t.dev.pw.iicWait = none)
    ∧ (d.pw.iicWait = none → exec .iicMoveWaitTto ⟨d, q⟩ = .next ⟨d, q⟩))

/-- A context takes 1, 2 or 4 bytes from CRC_DATA where it is enabled for software, and sets DERR otherwise. INIT, a
change of POLY and a write of VAL load the value. The recorder protects and unprotects the named slots, empties those
that are not protected, and erases its history. (R471, R473, R474, R485, R489) -/
def Obligations.CrcAndRecorderCommandsComplete : Prop :=
  (∀ (d : Dev) (q : List Instr) (c : Nat) (v : Word), c < 4 → d.accepts (CRC_DATA c) →
    (d.get (CRC_CTX_EN c) = 1 ∧ (d.get (CRC_CTX_TAP c) = 0 ∨ d.get (CRC_CTX_TAP c) = 3) →
      ∀ n, (d.get (CRC_CTX_DW c) = 0 ∧ n = 1) ∨ (d.get (CRC_CTX_DW c) = 1 ∧ n = 2) ∨ (2 ≤ d.get (CRC_CTX_DW c) ∧ n = 4) →
      exec (.crcData c v) ⟨d, q⟩ = .next ⟨((d.setWord (CRC_VAL c).addr ((leBytes n v.toNat).foldl
        (crcByte (d.get (CRC_CTX_POLY c))) (d.word (CRC_VAL c).addr))).countMod (CRC_CNT c) n).commandDone, q⟩)
    ∧ (d.get (CRC_CTX_EN c) = 0 ∨ (d.get (CRC_CTX_TAP c) ≠ 0 ∧ d.get (CRC_CTX_TAP c) ≠ 3) →
      exec (.crcData c v) ⟨d, q⟩ = .next ⟨(d.put CRC_STAT_DERR (setNat (d.get CRC_STAT_DERR) c c 1)).commandDone, q⟩))
  ∧ (∀ (d : Dev) (q : List Instr) (c : Nat), c < 4 → d.accepts (CRC_CTX_INIT c) →
      exec (.crcInit c) ⟨d, q⟩
        = .next ⟨((d.put (CRC_VAL c) (crcInitial (d.get (CRC_CTX_POLY c)))).put (CRC_CNT c) 0).commandDone, q⟩)
  ∧ (∀ (d : Dev) (q : List Instr) (c : Nat) (v : Word), c < 4 → d.accepts (CRC_CTX_POLY c) → bitsOf v 9 9 = 0 →
      bitsOf v 1 0 = d.get (CRC_CTX_POLY c) →
      exec (.crcCtxWrite c v) ⟨d, q⟩ = .next ⟨(d.setWord (CRC_CTX_POLY c).addr (v &&& 0x13F#32)).commandDone, q⟩)
  ∧ (∀ (d : Dev) (q : List Instr) (c : Nat) (v : Word), c < 4 → d.accepts (CRC_CTX_POLY c) →
      bitsOf v 1 0 ≠ d.get (CRC_CTX_POLY c) →
      exec (.crcCtxWrite c v) ⟨d, q⟩ = .next ⟨(((d.setWord (CRC_CTX_POLY c).addr (v &&& 0x13F#32)).put (CRC_VAL c)
        (crcInitial (bitsOf v 1 0))).put (CRC_CNT c) 0).commandDone, q⟩)
  ∧ (∀ (d : Dev) (q : List Instr) (c : Nat) (v : Word), c < 4 → d.accepts (CRC_VAL c) →
      exec (.crcValWrite c v) ⟨d, q⟩
        = .next ⟨(d.put (CRC_VAL c) (v.toNat % 2 ^ crcWidth (d.get (CRC_CTX_POLY c)))).commandDone, q⟩)
  ∧ (∀ (d : Dev) (q : List Instr) (mask : BitVec 12), d.hasBurl = true → d.burl.slots.length = 12 →
    (d.accepts RCD_PROT_PROT → ∃ t, exec (.rcdProt mask) ⟨d, q⟩ = .next t
      ∧ ∀ k : Nat, k < 12 → t.dev.burlSlot k = { d.burlSlot k with prot := (d.burlSlot k).prot || mask.getLsbD k })
    ∧ (d.accepts RCD_PROT_UNPROT → ∃ t, exec (.rcdUnprot mask) ⟨d, q⟩ = .next t
      ∧ ∀ k : Nat, k < 12 → t.dev.burlSlot k = { d.burlSlot k with prot := (d.burlSlot k).prot && !mask.getLsbD k })
    ∧ (d.accepts RCD_ERASE_SLOT → ∃ t, exec (.rcdEraseSlot mask) ⟨d, q⟩ = .next t
      ∧ ∀ k : Nat, k < 12 → ((d.burlSlot k).prot = true ∨ mask.getLsbD k = false → t.dev.burlSlot k = d.burlSlot k)
        ∧ ((d.burlSlot k).prot = false → mask.getLsbD k = true → (t.dev.burlSlot k).state = 0))
    ∧ (d.accepts RCD_ERASE_HIST → exec .rcdEraseHist ⟨d, q⟩
      = .next ⟨({ d with burl := { d.burl with hist := [] } } : Dev).commandDone, q⟩))

/-- The background test takes the next bank that is not retired, and one that fails is retired softly while fewer than
two are. A host test runs its banks, is refused with its CAUSE, or ends aborted. REPAIR maps failing rows to spare rows
by fuse where enough are left, and RETIRE retires banks by fuse up to two. (R491, R492, R493, R494, R495, R496) -/
def Obligations.BankTestsComplete : Prop :=
  (∀ (d : Dev) (q : List Instr), d.settled → d.monitoring = true → d.snapBusy = false → d.bankTesting = false →
    (∃ b, b < 6 ∧ d.bankRetired b = false) → ∃ t b, exec .bistBackground ⟨d, q⟩ = .next t ∧ t.dev.bst.bg = some b
      ∧ d.bankRetired b = false ∧ t.dev.get BST_STAT_STATE = 2 ∧ t.dev.get BST_STAT_BANK = b ∧ t.dev.bst.next = (b + 1) % 6)
  ∧ (∀ (d : Dev) (q : List Instr) (o : BistObs), d.runs →
    (∀ b, d.bst.bg = some b → o.pass = true → ∃ t, exec (.bistBankDone o) ⟨d, q⟩ = .next t ∧ t.dev.bst.bg = none
      ∧ t.dev.get BST_STAT_STATE = 0)
    ∧ (∀ b, d.bst.bg = some b → b < 6 → o.pass = false → d.retiredCount < 2 → ∃ t, exec (.bistBankDone o) ⟨d, q⟩ = .next t
      ∧ t.dev.bitAt BST_MAP_SOFTRET b = true ∧ t.dev.bst.bg = none
      ∧ (d.keepsEvents → d.newEvent t.dev 0xC011 [b, o.faddr, o.fbit.toNat]))
    ∧ (∀ b, d.bst.bg = none → d.bst.host = [b] → b < 6 → o.pass = true → d.bst.bad = false → ∃ t,
      exec (.bistBankDone o) ⟨d, q⟩ = .next t ∧ t.dev.get BST_STAT_RESULT = 1 ∧ t.dev.get BST_STAT_STATE = 0
      ∧ t.dev.get (BST_RES_RES b) = 1 ∧ t.dev.bst.host = [])
    ∧ (∀ b, d.bst.bg = none → d.bst.host = [b] → b < 6 → o.pass = false → ∃ t, exec (.bistBankDone o) ⟨d, q⟩ = .next t
      ∧ t.dev.get BST_STAT_RESULT = 2 ∧ t.dev.get (BST_RES_RES b) = 2 ∧ t.dev.get (BST_FBIT b) = o.fbit.toNat))
  ∧ (∀ (d : Dev) (q : List Instr) (pll vcore : Bool), d.accepts BST_CTRL_GO → d.bst.host = [] →
    (d.bistRefusal pll vcore d.cfgBanks = none → ∃ t, exec (.bstGo pll vcore) ⟨d, q⟩ = .next t ∧ t.dev.bst.host = d.cfgBanks
      ∧ t.dev.get BST_STAT_STATE = 2 ∧ t.dev.get BST_STAT_BANK = d.cfgBanks.headD 0 ∧ t.dev.get BST_STAT_RESULT = 0)
    ∧ (∀ c, d.bistRefusal pll vcore d.cfgBanks = some c → ∃ t, exec (.bstGo pll vcore) ⟨d, q⟩ = .next t
      ∧ t.dev.get BST_STAT_RESULT = 3 ∧ t.dev.get BST_STAT_CAUSE = c ∧ t.dev.bst = d.bst))
  ∧ (∀ (d : Dev) (q : List Instr), d.bst.host ≠ [] →
    (d.accepts BST_CTRL_ABORT → ∃ t, exec .bstAbort ⟨d, q⟩ = .next t ∧ t.dev.get BST_STAT_RESULT = 5 ∧ t.dev.bst.host = [])
    ∧ (d.runs → ∃ t, exec .vcoreOutOfWindow ⟨d, q⟩ = .next t ∧ t.dev.get BST_STAT_RESULT = 4 ∧ t.dev.bst.host = []))
  ∧ (∀ (d : Dev) (q : List Instr), d.accepts BST_CTRL_REPAIR → d.bankFuseOk = true → d.fz.spares.length = 6 → d.bst.rows.length = 6 →
    (∀ b ∈ d.cfgBanks, (d.bst.rows[b]?).getD 0 ≤ d.sparesLeft b) → ∃ t, exec .bstRepair ⟨d, q⟩ = .next t
      ∧ t.dev.get BST_STAT_RESULT = 8 ∧ ∀ b ∈ d.cfgBanks,
        t.dev.fz.spares[b]? = some ((d.fz.spares[b]?).getD 0 + (d.bst.rows[b]?).getD 0) ∧ t.dev.bst.rows[b]? = some 0)
  ∧ (∀ (d : Dev) (q : List Instr) (b : Nat), d.accepts BST_CTRL_REPAIR → d.bankFuseOk = true → d.cfgBanks = [b] →
    d.sparesLeft b < (d.bst.rows[b]?).getD 0 → ∃ t, exec .bstRepair ⟨d, q⟩ = .next t ∧ t.dev.get BST_STAT_RESULT = 6
      ∧ t.dev.fz = d.fz)
  ∧ (∀ (d : Dev) (q : List Instr), d.accepts BST_CTRL_RETIRE → d.bankFuseOk = true → d.fz.banks.length = 6 →
    (2 < ((List.range 6).filter (fun b => d.bankRetired b || d.cfgBanks.contains b)).length →
      exec .bstRetire ⟨d, q⟩ = .next ⟨(d.put BST_STAT_RESULT 7).commandDone, q⟩)
    ∧ (((List.range 6).filter (fun b => d.bankRetired b || d.cfgBanks.contains b)).length ≤ 2 → ∃ t,
      exec .bstRetire ⟨d, q⟩ = .next t ∧ ∀ b ∈ d.cfgBanks, (t.dev.fz.banks[b]?).getD 0 ≠ 0 ∧ t.dev.bitAt BST_MAP_FUSERET b = true))

/-- A request starts a burn or opens an authentication window with a new nonce. A good response starts the burn; a bad
one, or none in time, is refused with RESULT and its event. A burn that ends shows the state the fuses hold, with its
event. (R498, R499, R500) -/
def Obligations.LifecycleCommandsComplete : Prop :=
  (∀ (d : Dev) (q : List Instr), d.accepts LCS_REQ_TARGET → d.life = lBlank → d.cur = .provision → d.lcs.burn = none →
    exec (.lcsReq lProvisioned) ⟨d, q⟩
      = .next ⟨((({ d with lcs := { d.lcs with auth := none } }).put LCS_STAT_AUTHW 0).startBurn lProvisioned).commandDone, q⟩
    ∧ fuseFor d.fz.chain lProvisioned = 0)
  ∧ (∀ (d : Dev) (q : List Instr), d.accepts LCS_REQ_TARGET → d.life ≠ lRetired → d.cur ≠ .safe → d.cur ≠ .legacy →
    d.lcs.burn = none → ∃ t, exec (.lcsReq lRetired) ⟨d, q⟩ = .next t ∧ t.dev.lcs = { d.lcs with auth := some lRetired }
      ∧ t.dev.get LCS_STAT_AUTHW = 1 ∧ t.dev.get (LCS_CHAL 0) = (Config.lcsNonce d.draws).toNat % 2 ^ 32
      ∧ t.dev.get (LCS_CHAL 3) = (Config.lcsNonce d.draws).toNat / 2 ^ 96)
  ∧ (∀ (d : Dev) (q : List Instr) (v : Word) (target : Nat), d.accepts (LCS_RESP 15) → d.lcs.auth = some target →
    (∃ t, exec (.lcsResp v true) ⟨d, q⟩ = .next t ∧ t.dev.lcs = ⟨none, some (fuseFor d.fz.chain target, target)⟩
      ∧ t.dev.get LCS_STAT_BUSY = 1 ∧ t.dev.get LCS_STAT_AUTHW = 0 ∧ t.dev.word (LCS_RESP 15).addr = v)
    ∧ (∃ t, exec (.lcsResp v false) ⟨d, q⟩ = .next t ∧ t.dev.lcs = { d.lcs with auth := none }
      ∧ t.dev.get LCS_STAT_RESULT = 5 ∧ t.dev.get LCS_STAT_AUTHW = 0
      ∧ (d.keepsEvents → d.newEvent t.dev 0xC021 [5])))
  ∧ (∀ (d : Dev) (q : List Instr) (target : Nat), d.runs → d.lcs.auth = some target →
    exec .authTimeout ⟨d, q⟩ = .next ⟨(((({ d with lcs := { d.lcs with auth := none } }).put LCS_STAT_AUTHW 0).put
      LCS_STAT_RESULT 6).raise 0xC021 0 [6]), q⟩)
  ∧ (∀ (d : Dev) (q : List Instr) (k target : Nat), d.runs → d.lcs.burn = some (k, target) → k < d.fz.chain.length →
    ∃ t, exec (.fuseBurnDone true) ⟨d, q⟩ = .next t ∧ burnt t.dev.fz.chain k = true ∧ t.dev.lcs.burn = none
      ∧ t.dev.get LCS_STAT_BUSY = 0 ∧ t.dev.get LCS_STAT_RESULT = 1 ∧ t.dev.life = lifeOf t.dev.fz.chain
      ∧ (d.keepsEvents → d.newEvent t.dev 0xC020 [d.life, lifeOf t.dev.fz.chain]))

/-- An update operation starts, or is refused while another runs, in RETIRED or in a trial that forbids it; it ends with
STATE, RESULT and what it did to the slot. ACT takes the verified slot as NEXT; CONFIRM ends the trial and raises the
minimum version by fuse; the legacy settings are saved. (R503, R504, R506) -/
def Obligations.FirmwareCommandsComplete : Prop :=
  (∀ (d : Dev) (q : List Instr), d.accepts FW_UPDCTL_ERASE → d.fw.op = none → d.life ≠ lRetired → d.bit FW_IMG_TRIAL = false →
    exec .fwErase ⟨d, q⟩ = .next ⟨((({ d with fw := { d.fw with op := some .erase, verified := false } }).put
      FW_UPDSTAT_STATE 1).put FW_UPDSTAT_RESULT 0).commandDone, q⟩)
  ∧ (∀ (d : Dev) (q : List Instr), d.accepts FW_UPDCTL_PROG → d.fw.op = none → d.life ≠ lRetired → d.bit FW_IMG_TRIAL = false →
    d.get FW_UPDCTL_PAGE ≤ 223 →
    exec .fwProg ⟨d, q⟩ = .next ⟨((({ d with fw := { d.fw with
      op := some (.prog (d.get FW_UPDCTL_PAGE) ((List.range 1024).map (fun i => d.word (FW_UPDBUF i).addr)))
      verified := false } }).put FW_UPDSTAT_STATE 2).put FW_UPDSTAT_RESULT 0).commandDone, q⟩)
  ∧ (∀ (d : Dev) (q : List Instr), d.accepts FW_UPDCTL_VERIFY → d.fw.op = none → d.life ≠ lRetired →
    exec .fwVerify ⟨d, q⟩ = .next ⟨((({ d with fw := { d.fw with op := some .verify } }).put
      FW_UPDSTAT_STATE 3).put FW_UPDSTAT_RESULT 0).commandDone, q⟩)
  ∧ (∀ (d : Dev) (q : List Instr), d.fw.op.isSome ∨ d.life = lRetired →
      (d.accepts FW_UPDCTL_ERASE → exec .fwErase ⟨d, q⟩ = .next ⟨(d.put FW_UPDSTAT_RESULT 2).commandDone, q⟩)
      ∧ (d.accepts FW_UPDCTL_PROG → exec .fwProg ⟨d, q⟩ = .next ⟨(d.put FW_UPDSTAT_RESULT 2).commandDone, q⟩)
      ∧ (d.accepts FW_UPDCTL_VERIFY → exec .fwVerify ⟨d, q⟩ = .next ⟨(d.put FW_UPDSTAT_RESULT 2).commandDone, q⟩))
  ∧ (∀ (d : Dev) (q : List Instr), d.bit FW_IMG_TRIAL = true →
      (d.accepts FW_UPDCTL_ERASE → exec .fwErase ⟨d, q⟩ = .next ⟨(d.put FW_UPDSTAT_RESULT 2).commandDone, q⟩)
      ∧ (d.accepts FW_UPDCTL_PROG → exec .fwProg ⟨d, q⟩ = .next ⟨(d.put FW_UPDSTAT_RESULT 2).commandDone, q⟩))
  ∧ (∀ (d : Dev) (q : List Instr) (o : FwObs), d.runs → o.result = 1 →
    (d.fw.op = some .erase → ∃ t, exec (.fwOperationDone o) ⟨d, q⟩ = .next t ∧ t.dev.fw.op = none
      ∧ (∀ p ∈ t.dev.fw.pages, p.slot ≠ 1 - d.get FW_IMG_RUN) ∧ t.dev.get (fwVer (1 - d.get FW_IMG_RUN)) = 0
      ∧ t.dev.get FW_UPDSTAT_PAGES = 0 ∧ t.dev.get FW_UPDSTAT_STATE = 0 ∧ t.dev.get FW_UPDSTAT_RESULT = 1)
    ∧ (∀ page ws, d.fw.op = some (.prog page ws) → ∃ t, exec (.fwOperationDone o) ⟨d, q⟩ = .next t ∧ t.dev.fw.op = none
      ∧ ⟨1 - d.get FW_IMG_RUN, page, ws⟩ ∈ t.dev.fw.pages
      ∧ t.dev.get FW_UPDSTAT_PAGES = min 255 (d.get FW_UPDSTAT_PAGES + 1)
      ∧ t.dev.get FW_UPDSTAT_STATE = 0 ∧ t.dev.get FW_UPDSTAT_RESULT = 1)
    ∧ (d.fw.op = some .verify → d.get FW_SVN_MIN ≤ o.svn → ∃ t, exec (.fwOperationDone o) ⟨d, q⟩ = .next t
      ∧ t.dev.fw.op = none ∧ t.dev.fw.verified = true ∧ t.dev.word (fwVer (1 - d.get FW_IMG_RUN)).addr = o.version
      ∧ t.dev.get FW_UPDSTAT_STATE = 4 ∧ t.dev.get FW_UPDSTAT_RESULT = 1
      ∧ (d.keepsEvents → d.newEvent t.dev 0xC030 [o.version.toNat]))
    ∧ (d.fw.op = some .verify → o.svn < d.get FW_SVN_MIN → ∃ t, exec (.fwOperationDone o) ⟨d, q⟩ = .next t
      ∧ t.dev.fw.op = none ∧ t.dev.fw.verified = false ∧ t.dev.get FW_UPDSTAT_STATE = 5 ∧ t.dev.get FW_UPDSTAT_RESULT = 5
      ∧ (d.keepsEvents → d.newEvent t.dev 0xC031 [5])))
  ∧ (∀ (d : Dev) (q : List Instr) (rst : Bool), d.accepts FW_UPDCTL_ACT → d.life ≠ lRetired → d.fw.op = none →
    (d.fw.verified = true → exec (.fwAct rst) ⟨d, q⟩ = .next ⟨(({ d.putB FW_UPDCTL_RST rst with
      fw := { d.fw with fresh := true, rstDue := rst } }).put FW_IMG_NEXT (1 - d.get FW_IMG_RUN)).commandDone, q⟩)
    ∧ (d.fw.verified = false → exec (.fwAct rst) ⟨d, q⟩
      = .next ⟨((d.putB FW_UPDCTL_RST rst).put FW_UPDSTAT_RESULT 2).commandDone, q⟩))
  ∧ (∀ (d : Dev) (q : List Instr), d.accepts FW_UPDCTL_CONFIRM → d.bit FW_IMG_TRIAL = true →
    ∃ t, exec .fwConfirm ⟨d, q⟩ = .next t ∧ t.dev.get FW_IMG_TRIAL = 0
      ∧ t.dev.fz = { d.fz with svn := max d.fz.svn (min 63 (d.get FW_SVN_RUN)) }
      ∧ t.dev.get FW_SVN_MIN = (max d.fz.svn (min 63 (d.get FW_SVN_RUN))) % 256
      ∧ (d.keepsEvents → d.newEvent t.dev 0xC033 []))
  ∧ (∀ (d : Dev) (q : List Instr), d.accepts FW_LEG_SAVE →
    exec .fwLegSave ⟨d, q⟩ = .next ⟨({ d with nvm := { d.nvm with leg := d.word FW_LEG_EN.addr } }).commandDone, q⟩)

/-- A legacy frame that names a virtual device counts in CC and is answered: SETADDR gives an address, RD reads, WR
writes thresholds, discharge bits and the latch resets, CONVERT latches the next window. RESET takes the addresses back.
IDLE is sent in silence, and the discharge bits clear after DTO. (R512, R513, R514, R515, R516, R517, R518, R519) -/
def Obligations.LegacyCommandsComplete : Prop :=
  (∀ (d : Dev) (q : List Instr) (w : BitVec 48) (v : Nat), d.legacyHears w 1 → lfAddr w ≠ 0 → lfAddr w ≠ 63 →
    d.vdevIds.find? (fun i => (d.vdev i).addr = 0) = some v → exec (.setaddr .south w) ⟨d, q⟩
      = .next ⟨(((d.legacyRelayed w).setVdev v { d.vdev v with addr := lfAddr w }).countCc v).legRespond v 1 (lfData w), q⟩)
  ∧ (∀ (d : Dev) (q : List Instr) (w : BitVec 48) (v : Nat), d.legacyHears w 3 → d.named (lfAddr w) = [v] → lfAddr w ≠ 63 →
    exec (.legacyRd .south w) ⟨d, q⟩
      = .next ⟨((d.legacyRelayed w).countCc v).legRespond v 3 (((d.legacyRelayed w).countCc v).legRead v (lfReg w)), q⟩)
  ∧ (∀ (d : Dev) (q : List Instr) (w : BitVec 48) (v : Nat), d.legacyHears w 2 → d.named (lfAddr w) = [v] → lfAddr w ≠ 63 →
    (lfReg w ∉ [0x20, 0x21, 0x30, 0x3E] → exec (.legacyWr .south w) ⟨d, q⟩
      = .next ⟨((d.legacyRelayed w).countCc v).legRespond v 2 (lfData w), q⟩)
    ∧ (lfReg w = 0x20 → exec (.ovthUvthWrite .south w) ⟨d, q⟩
      = .next ⟨(((d.legacyRelayed w).countCc v).stageTh true v (lfData w)).legRespond v 2 (lfData w), q⟩)
    ∧ (lfReg w = 0x21 → exec (.ovthUvthWrite .south w) ⟨d, q⟩
      = .next ⟨(((d.legacyRelayed w).countCc v).stageTh false v (lfData w)).legRespond v 2 (lfData w), q⟩)
    ∧ (lfReg w = 0x30 → d.planLive = true → ∃ t, exec (.disch .south w) ⟨d, q⟩ = .next t
      ∧ t.dev.pend 0x28000 1 = true ∧ (∀ n, 12 * v < n → n ≤ 12 * v + 12 → n ≤ d.cells →
        t.dev.stg (BAL_CSET_DIR n) = lfData w / 2 ^ (n - 12 * v - 1) % 2))
    ∧ (lfReg w = 0x3E → lfData w ≠ 0x5AFE → exec (.clear .south w) ⟨d, q⟩
      = .next ⟨((d.legacyRelayed w).countCc v).legRespond v 2 (lfData w), q⟩)
    ∧ (lfReg w = 0x3E → lfData w = 0x5AFE → exec (.clear .south w) ⟨d, q⟩
      = .next ⟨(processorLatchReset (bezelLatchResetDev .L ((d.legacyRelayed w).countCc v))).legRespond v 2 0x5AFE, q⟩))
  ∧ (∀ (d : Dev) (q : List Instr) (w : BitVec 48) (v : Nat), d.legacyHears w 4 → d.named (lfAddr w) = [v] → lfAddr w ≠ 63 →
    v < d.leg.vdevs.length → ∃ t, exec (.convert .south w) ⟨d, q⟩ = .next t
      ∧ t.dev.vdev v = { d.vdev v with cc := ((d.vdev v).cc + 1) % 16, conv := true, thr := false })
  ∧ (∀ (d : Dev) (q : List Instr) (w : BitVec 48), d.legacyHears w 6 → lfAddr w = 63 →
    (∀ v ∈ d.vdevIds, d.dischBits v = 0) → let e := d.legacyRelayed w
    exec (.legacyReset .south w) ⟨d, q⟩ = .next ⟨{ e with leg := { d.leg with vdevs := d.leg.vdevs.map VDev.unaddressed } }, q⟩)
  ∧ (∀ (d : Dev) (q : List Instr), d.settled → d.lathe = true → d.inLegacy = true →
    (exec .legacyIdleSend ⟨d, q⟩ = .next ⟨d.emit (.legacyFrame .south (lfMake 0 0 0 0)), q⟩)
    ∧ (∀ v, d.leg.dto ≠ 0 → d.dischBits v ≠ 0 → exec (.legDto v) ⟨d, q⟩ = .next ⟨(d.stageDisch v 0).raise 0xE003 0 [v], q⟩))

/-- The bridge numbers the legacy chain and reports how many answered. A legacy command goes out of the bridge port, or
is refused while one is outstanding or without a bridge; its answer, or its absence, shows in FW_LPXR. (R521, R522) -/
def Obligations.LegacyBridgeCompletes : Prop :=
  (∀ (d : Dev) (q : List Instr) (p : Port) (n : Nat), d.settled → d.role = .member → d.inLegacy = false → d.monitoring = true →
    d.pstate p = pLr → d.bit (SPN_PORT_LEG p) = true → n ≤ 62 → ∃ t, exec (.legChain p n) ⟨d, q⟩ = .next t
      ∧ t.dev.get FW_LSTAT_BRIDGE = 1 ∧ t.dev.get FW_LSTAT_NLEG = n ∧ t.dev.get FW_LSTAT_PORT = portCode p
      ∧ (d.keepsEvents → d.newEvent t.dev 0xE002 [n, portCode p]))
  ∧ (∀ (d : Dev) (q : List Instr), d.accepts FW_LPXC_GO →
    (d.leg.lpx ≠ none ∨ d.bit FW_LSTAT_BRIDGE = false → exec .fwLpxcGo ⟨d, q⟩
      = .next ⟨((d.put FW_LPXR_DONE 1).put FW_LPXR_ERR 3).commandDone, q⟩)
    ∧ (d.leg.lpx = none → d.bit FW_LSTAT_BRIDGE = true → d.get FW_LSTAT_PORT = 0 →
      let f := lfMake (d.get FW_LPXC_CMD) (d.get FW_LPXC_ADDR) (d.get FW_LPXC_REG) (d.get FW_LPXD_DATA)
      exec .fwLpxcGo ⟨d, q⟩ = .next ⟨({ d.emit (.legacyFrame .north f) with
        leg := { d.leg with lpx := some (d.get FW_LPXC_CMD, d.get FW_LPXC_ADDR) } } : Dev).commandDone, q⟩))
  ∧ (∀ (d : Dev) (q : List Instr) (cmd addr : Nat), d.runs → d.leg.lpx = some (cmd, addr) →
    (∀ w : BitVec 48, lfOk w = true → lfCmd w = cmd → lfAddr w = addr → ∃ t, exec (.legacyResponse w) ⟨d, q⟩ = .next t
      ∧ t.dev.get FW_LPXR_DONE = 1 ∧ t.dev.get FW_LPXR_ERR = 0 ∧ t.dev.get FW_LPXR_CC = bitsOf w 33 30
      ∧ t.dev.get FW_LPXR_STS = bitsOf w 29 24 ∧ t.dev.get FW_LPXR_DATA = lfData w ∧ t.dev.leg.lpx = none)
    ∧ (∃ t, exec .lpxTimeout ⟨d, q⟩ = .next t ∧ t.dev.get FW_LPXR_DONE = 1 ∧ t.dev.get FW_LPXR_ERR = 1
      ∧ t.dev.leg.lpx = none))

/-- Every command of the I²C port completes and changes no register outside its block and the CRC contexts, but for
those that an event and the budget rule account for. Staged copies, NVM, fuses, Burl slots, time, role and the last read
stay. (R449, R455, R470) -/
def Obligations.IicPortKeepsTheRest : Prop :=
  let own (a : Nat) : Bool := decide (0x1C000 ≤ a ∧ a < 0x1D000) || decide (0x18000 ≤ a ∧ a < 0x18080)
  let rest (d : Dev) (c : Instr) : Prop := ∀ q : List Instr, ∃ t, exec c ⟨d, q⟩ = .next t ∧ t.pending = q ∧ Dev.Keeps own d t.dev
  (∀ d : Dev, d.accepts IIC_CTRL_GO → rest d .iicGo)
  ∧ (∀ (d : Dev) (o : IicBusObs), d.accepts IIC_CTRL_CLRSTK → rest d (.iicClrstk o))
  ∧ (∀ (d : Dev) (o : IicBusObs), d.accepts IIC_CFG_CEN → rest d (.iicCenWrite o))
  ∧ ∀ d : Dev, d.settled → rest d .iicBusIdle ∧ (∀ e, rest d (.iicTransferEnd e)) ∧ (∀ b read a, rest d (.arbitrationLost b read a))
    ∧ rest d .iicRetry ∧ (∀ n read o, rest d (.iicStretchTimeout n read o)) ∧ (∀ bytes, rest d (.iicTargetRx bytes))
    ∧ (∀ n, rest d (.iicTargetRead n)) ∧ (∀ bytes ms, rest d (.iicTodaWrite bytes ms)) ∧ (∀ a, rest d (.iicTargetTimeout a))
    ∧ rest d .iicMoveWaitTto

/-- Every command of Beadline completes and changes no register outside its block, but for those that an event and the
budget rule account for. Staged copies, NVM, fuses, Burl slots, time, role and the last read stay. (R437, R440, R441) -/
def Obligations.BeadlineKeepsTheRest : Prop :=
  let own (a : Nat) : Bool := decide (0x20000 ≤ a ∧ a < 0x21000)
  let rest (d : Dev) (c : Instr) : Prop := ∀ q : List Instr, ∃ t, exec c ⟨d, q⟩ = .next t ∧ t.pending = q ∧ Dev.Keeps own d t.dev
  (∀ (d : Dev) (lines : BitVec 2), d.accepts BDL_CTRL_SRCH → rest d (.bdlSearch lines))
  ∧ (∀ (d : Dev) (v : Word), d.accepts BDL_XCTL_GO → rest d (.bdlXctlGo v))
  ∧ (∀ (d : Dev) (l : Nat) (en : Bool), d.accepts BDL_CFG_LEN → l < 2 → rest d (.bdlLineEnable l en))
  ∧ ∀ (d : Dev) (l : Nat), d.settled → rest d (.autoSearch l) ∧ (∀ r, rest d (.bdlFrameEnd l r)) ∧ rest d (.bdlWaitEnd l)
    ∧ rest d (.bdlSpuFault l) ∧ rest d (.bdlShort l) ∧ (d.pend bdlBase l = false → rest d (.bdlScheduleFrame l))

/-- The commands of the life-cycle, of firmware update and of the legacy bridge complete and change no register outside
LCS and FW, but for those that an event and the budget rule account for. Staged copies, NVM, fuses, Burl slots, time,
role and the last read stay. (R499, R503, R522) -/
def Obligations.LifecycleAndFirmwareKeepTheRest : Prop :=
  let own (a : Nat) : Bool := decide (0x2C000 ≤ a ∧ a < 0x2D000) || decide (0x34000 ≤ a ∧ a < 0x36000)
  let rest (d : Dev) (c : Instr) : Prop := ∀ q : List Instr, ∃ t, exec c ⟨d, q⟩ = .next t ∧ t.pending = q ∧ Dev.Keeps own d t.dev
  (∀ (d : Dev) (target : Nat), d.accepts LCS_REQ_TARGET → rest d (.lcsReq target))
  ∧ (∀ (d : Dev) (v : Word) (ok : Bool), d.accepts (LCS_RESP 15) → rest d (.lcsResp v ok))
  ∧ (∀ d : Dev, d.accepts FW_UPDCTL_ERASE → rest d .fwErase) ∧ (∀ d : Dev, d.accepts FW_UPDCTL_PROG → rest d .fwProg)
  ∧ (∀ d : Dev, d.accepts FW_UPDCTL_VERIFY → rest d .fwVerify)
  ∧ (∀ (d : Dev) (rst : Bool), d.accepts FW_UPDCTL_ACT → rest d (.fwAct rst))
  ∧ (∀ d : Dev, d.accepts FW_LPXC_GO → rest d .fwLpxcGo)
  ∧ ∀ d : Dev, d.settled → rest d .authTimeout ∧ (∀ o, rest d (.fwOperationDone o)) ∧ (∀ w, rest d (.legacyResponse w))
    ∧ rest d .lpxTimeout

/-- For every MTICK, TBTIME is the whole nanoseconds of MTICK times 1000 over 6, and TBFRAC is the rest truncated to 16
bits, which is 0, 0x5555 or 0xAAAA. (R371) -/
def Obligations.TbtimeOfAnEdge : Prop :=
  ∀ m : Nat, 6 * tbTime m ≤ 1000 * m ∧ 1000 * m < 6 * (tbTime m + 1)
    ∧ 6 * tbFrac m ≤ 65536 * (1000 * m - 6 * tbTime m) ∧ 65536 * (1000 * m - 6 * tbTime m) < 6 * (tbFrac m + 1)
    ∧ (1000 * m < 6 * 2 ^ 64 → tbTime m < 2 ^ 64) ∧ (tbFrac m = 0 ∨ tbFrac m = 0x5555 ∨ tbFrac m = 0xAAAA)

/-- Example 14-1 gives TBTIME and TBFRAC of an edge, Example 14-2 the delay and error of an exchange, and Example 18-1
the CRC-32 of the digits 1 to 9 in two parts with the value restored between them. (R371, R383, R469, R473, R474) -/
def Obligations.WorkedExamples : Prop :=
  (tbTime (6000000 * 1752000100 + 4) = 1752000100000000666 ∧ tbFrac (6000000 * 1752000100 + 4) = 0xAAAA)
  ∧ exchange 1000000 1039040 2319040 2356800 0 = (38400, 640)
  ∧ ∀ (d : Dev) (c : Nat), c < 4 → d.get (CRC_CTX_POLY c) = 2 → d.get (CRC_CTX_TAP c) = 0 → d.get (CRC_CTX_DW c) = 2 →
    d.bit (CRC_CTX_EN c) = true → d.get (CRC_CNT c) = 0 → d.word (CRC_VAL c).addr = 0xFFFFFFFF#32 →
    let e := crcDataDev c 0x34333231#32 d
    e.get (CRC_CNT c) = 4 ∧ ∀ f : Dev, f.get (CRC_CTX_POLY c) = 2 → f.get (CRC_CTX_TAP c) = 0 → f.get (CRC_CTX_DW c) = 2 →
      f.bit (CRC_CTX_EN c) = true → f.get (CRC_CNT c) = 0 → f.word (CRC_VAL c).addr = e.word (CRC_VAL c).addr →
      let g := crcDataDev c 0x39#32 ((crcDataDev c 0x38373635#32 f).put (CRC_CTX_DW c) 0)
      g.crcRes c = 0xCBF43926#32 ∧ g.get (CRC_VAL c) = 0x340BC6D9 ∧ g.get (CRC_CNT c) = 5
end

