-- ==== Sys2Proof/Laws/State.lean ====
section
/-!
SUPPORT. One lemma per field per update of the device: what an update of a register, of a staged copy, of the output
or of the requests leaves as it was.
-/

namespace Sys2Proof.Machine

@[simp] theorem Dev.setWord_build (d : Dev) (a : Nat) (v : Word) : (d.setWord a v).build = d.build := (rfl)
@[simp] theorem Dev.setWord_role (d : Dev) (a : Nat) (v : Word) : (d.setWord a v).role = d.role := (rfl)
@[simp] theorem Dev.setWord_staged (d : Dev) (a : Nat) (v : Word) : (d.setWord a v).staged = d.staged := (rfl)
@[simp] theorem Dev.setWord_readData (d : Dev) (a : Nat) (v : Word) : (d.setWord a v).readData = d.readData := (rfl)
@[simp] theorem Dev.setWord_out (d : Dev) (a : Nat) (v : Word) : (d.setWord a v).out = d.out := (rfl)
@[simp] theorem Dev.setWord_now (d : Dev) (a : Nat) (v : Word) : (d.setWord a v).now = d.now := (rfl)
@[simp] theorem Dev.setWord_mtick (d : Dev) (a : Nat) (v : Word) : (d.setWord a v).mtick = d.mtick := (rfl)
@[simp] theorem Dev.setWord_draws (d : Dev) (a : Nat) (v : Word) : (d.setWord a v).draws = d.draws := (rfl)
@[simp] theorem Dev.setWord_pw (d : Dev) (a : Nat) (v : Word) : (d.setWord a v).pw = d.pw := (rfl)
@[simp] theorem Dev.setWord_spn (d : Dev) (a : Nat) (v : Word) : (d.setWord a v).spn = d.spn := (rfl)
@[simp] theorem Dev.setWord_hd (d : Dev) (a : Nat) (v : Word) : (d.setWord a v).hd = d.hd := (rfl)
@[simp] theorem Dev.setWord_hif (d : Dev) (a : Nat) (v : Word) : (d.setWord a v).hif = d.hif := (rfl)
@[simp] theorem Dev.setWord_burl (d : Dev) (a : Nat) (v : Word) : (d.setWord a v).burl = d.burl := (rfl)
@[simp] theorem Dev.setWord_win (d : Dev) (a : Nat) (v : Word) : (d.setWord a v).win = d.win := (rfl)
@[simp] theorem Dev.setWord_cap (d : Dev) (a : Nat) (v : Word) : (d.setWord a v).cap = d.cap := (rfl)
@[simp] theorem Dev.setWord_tb (d : Dev) (a : Nat) (v : Word) : (d.setWord a v).tb = d.tb := (rfl)
@[simp] theorem Dev.setWord_auxL (d : Dev) (a : Nat) (v : Word) : (d.setWord a v).auxL = d.auxL := (rfl)
@[simp] theorem Dev.setWord_auxU (d : Dev) (a : Nat) (v : Word) : (d.setWord a v).auxU = d.auxU := (rfl)
@[simp] theorem Dev.setWord_owd (d : Dev) (a : Nat) (v : Word) : (d.setWord a v).owd = d.owd := (rfl)
@[simp] theorem Dev.setWord_bal (d : Dev) (a : Nat) (v : Word) : (d.setWord a v).bal = d.bal := (rfl)
@[simp] theorem Dev.setWord_calL (d : Dev) (a : Nat) (v : Word) : (d.setWord a v).calL = d.calL := (rfl)
@[simp] theorem Dev.setWord_calU (d : Dev) (a : Nat) (v : Word) : (d.setWord a v).calU = d.calU := (rfl)
@[simp] theorem Dev.setWord_imp (d : Dev) (a : Nat) (v : Word) : (d.setWord a v).imp = d.imp := (rfl)
@[simp] theorem Dev.setWord_bdl (d : Dev) (a : Nat) (v : Word) : (d.setWord a v).bdl = d.bdl := (rfl)
@[simp] theorem Dev.setWord_iic (d : Dev) (a : Nat) (v : Word) : (d.setWord a v).iic = d.iic := (rfl)
@[simp] theorem Dev.setWord_bzlL (d : Dev) (a : Nat) (v : Word) : (d.setWord a v).bzlL = d.bzlL := (rfl)
@[simp] theorem Dev.setWord_bzlU (d : Dev) (a : Nat) (v : Word) : (d.setWord a v).bzlU = d.bzlU := (rfl)
@[simp] theorem Dev.setWord_saf (d : Dev) (a : Nat) (v : Word) : (d.setWord a v).saf = d.saf := (rfl)
@[simp] theorem Dev.setWord_nvm (d : Dev) (a : Nat) (v : Word) : (d.setWord a v).nvm = d.nvm := (rfl)
@[simp] theorem Dev.setWord_bst (d : Dev) (a : Nat) (v : Word) : (d.setWord a v).bst = d.bst := (rfl)
@[simp] theorem Dev.setWord_lcs (d : Dev) (a : Nat) (v : Word) : (d.setWord a v).lcs = d.lcs := (rfl)
@[simp] theorem Dev.setWord_fw (d : Dev) (a : Nat) (v : Word) : (d.setWord a v).fw = d.fw := (rfl)
@[simp] theorem Dev.setWord_leg (d : Dev) (a : Nat) (v : Word) : (d.setWord a v).leg = d.leg := (rfl)
@[simp] theorem Dev.setWord_fz (d : Dev) (a : Nat) (v : Word) : (d.setWord a v).fz = d.fz := (rfl)
@[simp] theorem Dev.setWord_asks (d : Dev) (a : Nat) (v : Word) : (d.setWord a v).asks = d.asks := (rfl)

@[simp] theorem Dev.put_build (d : Dev) (f : Fld) (v : Nat) : (d.put f v).build = d.build := (rfl)
@[simp] theorem Dev.put_role (d : Dev) (f : Fld) (v : Nat) : (d.put f v).role = d.role := (rfl)
@[simp] theorem Dev.put_staged (d : Dev) (f : Fld) (v : Nat) : (d.put f v).staged = d.staged := (rfl)
@[simp] theorem Dev.put_readData (d : Dev) (f : Fld) (v : Nat) : (d.put f v).readData = d.readData := (rfl)
@[simp] theorem Dev.put_out (d : Dev) (f : Fld) (v : Nat) : (d.put f v).out = d.out := (rfl)
@[simp] theorem Dev.put_now (d : Dev) (f : Fld) (v : Nat) : (d.put f v).now = d.now := (rfl)
@[simp] theorem Dev.put_mtick (d : Dev) (f : Fld) (v : Nat) : (d.put f v).mtick = d.mtick := (rfl)
@[simp] theorem Dev.put_draws (d : Dev) (f : Fld) (v : Nat) : (d.put f v).draws = d.draws := (rfl)
@[simp] theorem Dev.put_pw (d : Dev) (f : Fld) (v : Nat) : (d.put f v).pw = d.pw := (rfl)
@[simp] theorem Dev.put_spn (d : Dev) (f : Fld) (v : Nat) : (d.put f v).spn = d.spn := (rfl)
@[simp] theorem Dev.put_hd (d : Dev) (f : Fld) (v : Nat) : (d.put f v).hd = d.hd := (rfl)
@[simp] theorem Dev.put_hif (d : Dev) (f : Fld) (v : Nat) : (d.put f v).hif = d.hif := (rfl)
@[simp] theorem Dev.put_burl (d : Dev) (f : Fld) (v : Nat) : (d.put f v).burl = d.burl := (rfl)
@[simp] theorem Dev.put_win (d : Dev) (f : Fld) (v : Nat) : (d.put f v).win = d.win := (rfl)
@[simp] theorem Dev.put_cap (d : Dev) (f : Fld) (v : Nat) : (d.put f v).cap = d.cap := (rfl)
@[simp] theorem Dev.put_tb (d : Dev) (f : Fld) (v : Nat) : (d.put f v).tb = d.tb := (rfl)
@[simp] theorem Dev.put_auxL (d : Dev) (f : Fld) (v : Nat) : (d.put f v).auxL = d.auxL := (rfl)
@[simp] theorem Dev.put_auxU (d : Dev) (f : Fld) (v : Nat) : (d.put f v).auxU = d.auxU := (rfl)
@[simp] theorem Dev.put_owd (d : Dev) (f : Fld) (v : Nat) : (d.put f v).owd = d.owd := (rfl)
@[simp] theorem Dev.put_bal (d : Dev) (f : Fld) (v : Nat) : (d.put f v).bal = d.bal := (rfl)
@[simp] theorem Dev.put_calL (d : Dev) (f : Fld) (v : Nat) : (d.put f v).calL = d.calL := (rfl)
@[simp] theorem Dev.put_calU (d : Dev) (f : Fld) (v : Nat) : (d.put f v).calU = d.calU := (rfl)
@[simp] theorem Dev.put_imp (d : Dev) (f : Fld) (v : Nat) : (d.put f v).imp = d.imp := (rfl)
@[simp] theorem Dev.put_bdl (d : Dev) (f : Fld) (v : Nat) : (d.put f v).bdl = d.bdl := (rfl)
@[simp] theorem Dev.put_iic (d : Dev) (f : Fld) (v : Nat) : (d.put f v).iic = d.iic := (rfl)
@[simp] theorem Dev.put_bzlL (d : Dev) (f : Fld) (v : Nat) : (d.put f v).bzlL = d.bzlL := (rfl)
@[simp] theorem Dev.put_bzlU (d : Dev) (f : Fld) (v : Nat) : (d.put f v).bzlU = d.bzlU := (rfl)
@[simp] theorem Dev.put_saf (d : Dev) (f : Fld) (v : Nat) : (d.put f v).saf = d.saf := (rfl)
@[simp] theorem Dev.put_nvm (d : Dev) (f : Fld) (v : Nat) : (d.put f v).nvm = d.nvm := (rfl)
@[simp] theorem Dev.put_bst (d : Dev) (f : Fld) (v : Nat) : (d.put f v).bst = d.bst := (rfl)
@[simp] theorem Dev.put_lcs (d : Dev) (f : Fld) (v : Nat) : (d.put f v).lcs = d.lcs := (rfl)
@[simp] theorem Dev.put_fw (d : Dev) (f : Fld) (v : Nat) : (d.put f v).fw = d.fw := (rfl)
@[simp] theorem Dev.put_leg (d : Dev) (f : Fld) (v : Nat) : (d.put f v).leg = d.leg := (rfl)
@[simp] theorem Dev.put_fz (d : Dev) (f : Fld) (v : Nat) : (d.put f v).fz = d.fz := (rfl)
@[simp] theorem Dev.put_asks (d : Dev) (f : Fld) (v : Nat) : (d.put f v).asks = d.asks := (rfl)

@[simp] theorem Dev.putS_build (d : Dev) (f : Fld) (v : Int) : (d.putS f v).build = d.build := (rfl)
@[simp] theorem Dev.putS_role (d : Dev) (f : Fld) (v : Int) : (d.putS f v).role = d.role := (rfl)
@[simp] theorem Dev.putS_staged (d : Dev) (f : Fld) (v : Int) : (d.putS f v).staged = d.staged := (rfl)
@[simp] theorem Dev.putS_readData (d : Dev) (f : Fld) (v : Int) : (d.putS f v).readData = d.readData := (rfl)
@[simp] theorem Dev.putS_out (d : Dev) (f : Fld) (v : Int) : (d.putS f v).out = d.out := (rfl)
@[simp] theorem Dev.putS_now (d : Dev) (f : Fld) (v : Int) : (d.putS f v).now = d.now := (rfl)
@[simp] theorem Dev.putS_mtick (d : Dev) (f : Fld) (v : Int) : (d.putS f v).mtick = d.mtick := (rfl)
@[simp] theorem Dev.putS_draws (d : Dev) (f : Fld) (v : Int) : (d.putS f v).draws = d.draws := (rfl)
@[simp] theorem Dev.putS_pw (d : Dev) (f : Fld) (v : Int) : (d.putS f v).pw = d.pw := (rfl)
@[simp] theorem Dev.putS_spn (d : Dev) (f : Fld) (v : Int) : (d.putS f v).spn = d.spn := (rfl)
@[simp] theorem Dev.putS_hd (d : Dev) (f : Fld) (v : Int) : (d.putS f v).hd = d.hd := (rfl)
@[simp] theorem Dev.putS_hif (d : Dev) (f : Fld) (v : Int) : (d.putS f v).hif = d.hif := (rfl)
@[simp] theorem Dev.putS_burl (d : Dev) (f : Fld) (v : Int) : (d.putS f v).burl = d.burl := (rfl)
@[simp] theorem Dev.putS_win (d : Dev) (f : Fld) (v : Int) : (d.putS f v).win = d.win := (rfl)
@[simp] theorem Dev.putS_cap (d : Dev) (f : Fld) (v : Int) : (d.putS f v).cap = d.cap := (rfl)
@[simp] theorem Dev.putS_tb (d : Dev) (f : Fld) (v : Int) : (d.putS f v).tb = d.tb := (rfl)
@[simp] theorem Dev.putS_auxL (d : Dev) (f : Fld) (v : Int) : (d.putS f v).auxL = d.auxL := (rfl)
@[simp] theorem Dev.putS_auxU (d : Dev) (f : Fld) (v : Int) : (d.putS f v).auxU = d.auxU := (rfl)
@[simp] theorem Dev.putS_owd (d : Dev) (f : Fld) (v : Int) : (d.putS f v).owd = d.owd := (rfl)
@[simp] theorem Dev.putS_bal (d : Dev) (f : Fld) (v : Int) : (d.putS f v).bal = d.bal := (rfl)
@[simp] theorem Dev.putS_calL (d : Dev) (f : Fld) (v : Int) : (d.putS f v).calL = d.calL := (rfl)
@[simp] theorem Dev.putS_calU (d : Dev) (f : Fld) (v : Int) : (d.putS f v).calU = d.calU := (rfl)
@[simp] theorem Dev.putS_imp (d : Dev) (f : Fld) (v : Int) : (d.putS f v).imp = d.imp := (rfl)
@[simp] theorem Dev.putS_bdl (d : Dev) (f : Fld) (v : Int) : (d.putS f v).bdl = d.bdl := (rfl)
@[simp] theorem Dev.putS_iic (d : Dev) (f : Fld) (v : Int) : (d.putS f v).iic = d.iic := (rfl)
@[simp] theorem Dev.putS_bzlL (d : Dev) (f : Fld) (v : Int) : (d.putS f v).bzlL = d.bzlL := (rfl)
@[simp] theorem Dev.putS_bzlU (d : Dev) (f : Fld) (v : Int) : (d.putS f v).bzlU = d.bzlU := (rfl)
@[simp] theorem Dev.putS_saf (d : Dev) (f : Fld) (v : Int) : (d.putS f v).saf = d.saf := (rfl)
@[simp] theorem Dev.putS_nvm (d : Dev) (f : Fld) (v : Int) : (d.putS f v).nvm = d.nvm := (rfl)
@[simp] theorem Dev.putS_bst (d : Dev) (f : Fld) (v : Int) : (d.putS f v).bst = d.bst := (rfl)
@[simp] theorem Dev.putS_lcs (d : Dev) (f : Fld) (v : Int) : (d.putS f v).lcs = d.lcs := (rfl)
@[simp] theorem Dev.putS_fw (d : Dev) (f : Fld) (v : Int) : (d.putS f v).fw = d.fw := (rfl)
@[simp] theorem Dev.putS_leg (d : Dev) (f : Fld) (v : Int) : (d.putS f v).leg = d.leg := (rfl)
@[simp] theorem Dev.putS_fz (d : Dev) (f : Fld) (v : Int) : (d.putS f v).fz = d.fz := (rfl)
@[simp] theorem Dev.putS_asks (d : Dev) (f : Fld) (v : Int) : (d.putS f v).asks = d.asks := (rfl)

@[simp] theorem Dev.putB_build (d : Dev) (f : Fld) (b : Bool) : (d.putB f b).build = d.build := (rfl)
@[simp] theorem Dev.putB_role (d : Dev) (f : Fld) (b : Bool) : (d.putB f b).role = d.role := (rfl)
@[simp] theorem Dev.putB_staged (d : Dev) (f : Fld) (b : Bool) : (d.putB f b).staged = d.staged := (rfl)
@[simp] theorem Dev.putB_readData (d : Dev) (f : Fld) (b : Bool) : (d.putB f b).readData = d.readData := (rfl)
@[simp] theorem Dev.putB_out (d : Dev) (f : Fld) (b : Bool) : (d.putB f b).out = d.out := (rfl)
@[simp] theorem Dev.putB_now (d : Dev) (f : Fld) (b : Bool) : (d.putB f b).now = d.now := (rfl)
@[simp] theorem Dev.putB_mtick (d : Dev) (f : Fld) (b : Bool) : (d.putB f b).mtick = d.mtick := (rfl)
@[simp] theorem Dev.putB_draws (d : Dev) (f : Fld) (b : Bool) : (d.putB f b).draws = d.draws := (rfl)
@[simp] theorem Dev.putB_pw (d : Dev) (f : Fld) (b : Bool) : (d.putB f b).pw = d.pw := (rfl)
@[simp] theorem Dev.putB_spn (d : Dev) (f : Fld) (b : Bool) : (d.putB f b).spn = d.spn := (rfl)
@[simp] theorem Dev.putB_hd (d : Dev) (f : Fld) (b : Bool) : (d.putB f b).hd = d.hd := (rfl)
@[simp] theorem Dev.putB_hif (d : Dev) (f : Fld) (b : Bool) : (d.putB f b).hif = d.hif := (rfl)
@[simp] theorem Dev.putB_burl (d : Dev) (f : Fld) (b : Bool) : (d.putB f b).burl = d.burl := (rfl)
@[simp] theorem Dev.putB_win (d : Dev) (f : Fld) (b : Bool) : (d.putB f b).win = d.win := (rfl)
@[simp] theorem Dev.putB_cap (d : Dev) (f : Fld) (b : Bool) : (d.putB f b).cap = d.cap := (rfl)
@[simp] theorem Dev.putB_tb (d : Dev) (f : Fld) (b : Bool) : (d.putB f b).tb = d.tb := (rfl)
@[simp] theorem Dev.putB_auxL (d : Dev) (f : Fld) (b : Bool) : (d.putB f b).auxL = d.auxL := (rfl)
@[simp] theorem Dev.putB_auxU (d : Dev) (f : Fld) (b : Bool) : (d.putB f b).auxU = d.auxU := (rfl)
@[simp] theorem Dev.putB_owd (d : Dev) (f : Fld) (b : Bool) : (d.putB f b).owd = d.owd := (rfl)
@[simp] theorem Dev.putB_bal (d : Dev) (f : Fld) (b : Bool) : (d.putB f b).bal = d.bal := (rfl)
@[simp] theorem Dev.putB_calL (d : Dev) (f : Fld) (b : Bool) : (d.putB f b).calL = d.calL := (rfl)
@[simp] theorem Dev.putB_calU (d : Dev) (f : Fld) (b : Bool) : (d.putB f b).calU = d.calU := (rfl)
@[simp] theorem Dev.putB_imp (d : Dev) (f : Fld) (b : Bool) : (d.putB f b).imp = d.imp := (rfl)
@[simp] theorem Dev.putB_bdl (d : Dev) (f : Fld) (b : Bool) : (d.putB f b).bdl = d.bdl := (rfl)
@[simp] theorem Dev.putB_iic (d : Dev) (f : Fld) (b : Bool) : (d.putB f b).iic = d.iic := (rfl)
@[simp] theorem Dev.putB_bzlL (d : Dev) (f : Fld) (b : Bool) : (d.putB f b).bzlL = d.bzlL := (rfl)
@[simp] theorem Dev.putB_bzlU (d : Dev) (f : Fld) (b : Bool) : (d.putB f b).bzlU = d.bzlU := (rfl)
@[simp] theorem Dev.putB_saf (d : Dev) (f : Fld) (b : Bool) : (d.putB f b).saf = d.saf := (rfl)
@[simp] theorem Dev.putB_nvm (d : Dev) (f : Fld) (b : Bool) : (d.putB f b).nvm = d.nvm := (rfl)
@[simp] theorem Dev.putB_bst (d : Dev) (f : Fld) (b : Bool) : (d.putB f b).bst = d.bst := (rfl)
@[simp] theorem Dev.putB_lcs (d : Dev) (f : Fld) (b : Bool) : (d.putB f b).lcs = d.lcs := (rfl)
@[simp] theorem Dev.putB_fw (d : Dev) (f : Fld) (b : Bool) : (d.putB f b).fw = d.fw := (rfl)
@[simp] theorem Dev.putB_leg (d : Dev) (f : Fld) (b : Bool) : (d.putB f b).leg = d.leg := (rfl)
@[simp] theorem Dev.putB_fz (d : Dev) (f : Fld) (b : Bool) : (d.putB f b).fz = d.fz := (rfl)
@[simp] theorem Dev.putB_asks (d : Dev) (f : Fld) (b : Bool) : (d.putB f b).asks = d.asks := (rfl)

@[simp] theorem Dev.countSat_build (d : Dev) (f : Fld) (n : Nat) : (d.countSat f n).build = d.build := (rfl)
@[simp] theorem Dev.countSat_role (d : Dev) (f : Fld) (n : Nat) : (d.countSat f n).role = d.role := (rfl)
@[simp] theorem Dev.countSat_staged (d : Dev) (f : Fld) (n : Nat) : (d.countSat f n).staged = d.staged := (rfl)
@[simp] theorem Dev.countSat_readData (d : Dev) (f : Fld) (n : Nat) : (d.countSat f n).readData = d.readData := (rfl)
@[simp] theorem Dev.countSat_out (d : Dev) (f : Fld) (n : Nat) : (d.countSat f n).out = d.out := (rfl)
@[simp] theorem Dev.countSat_now (d : Dev) (f : Fld) (n : Nat) : (d.countSat f n).now = d.now := (rfl)
@[simp] theorem Dev.countSat_mtick (d : Dev) (f : Fld) (n : Nat) : (d.countSat f n).mtick = d.mtick := (rfl)
@[simp] theorem Dev.countSat_draws (d : Dev) (f : Fld) (n : Nat) : (d.countSat f n).draws = d.draws := (rfl)
@[simp] theorem Dev.countSat_pw (d : Dev) (f : Fld) (n : Nat) : (d.countSat f n).pw = d.pw := (rfl)
@[simp] theorem Dev.countSat_spn (d : Dev) (f : Fld) (n : Nat) : (d.countSat f n).spn = d.spn := (rfl)
@[simp] theorem Dev.countSat_hd (d : Dev) (f : Fld) (n : Nat) : (d.countSat f n).hd = d.hd := (rfl)
@[simp] theorem Dev.countSat_hif (d : Dev) (f : Fld) (n : Nat) : (d.countSat f n).hif = d.hif := (rfl)
@[simp] theorem Dev.countSat_burl (d : Dev) (f : Fld) (n : Nat) : (d.countSat f n).burl = d.burl := (rfl)
@[simp] theorem Dev.countSat_win (d : Dev) (f : Fld) (n : Nat) : (d.countSat f n).win = d.win := (rfl)
@[simp] theorem Dev.countSat_cap (d : Dev) (f : Fld) (n : Nat) : (d.countSat f n).cap = d.cap := (rfl)
@[simp] theorem Dev.countSat_tb (d : Dev) (f : Fld) (n : Nat) : (d.countSat f n).tb = d.tb := (rfl)
@[simp] theorem Dev.countSat_auxL (d : Dev) (f : Fld) (n : Nat) : (d.countSat f n).auxL = d.auxL := (rfl)
@[simp] theorem Dev.countSat_auxU (d : Dev) (f : Fld) (n : Nat) : (d.countSat f n).auxU = d.auxU := (rfl)
@[simp] theorem Dev.countSat_owd (d : Dev) (f : Fld) (n : Nat) : (d.countSat f n).owd = d.owd := (rfl)
@[simp] theorem Dev.countSat_bal (d : Dev) (f : Fld) (n : Nat) : (d.countSat f n).bal = d.bal := (rfl)
@[simp] theorem Dev.countSat_calL (d : Dev) (f : Fld) (n : Nat) : (d.countSat f n).calL = d.calL := (rfl)
@[simp] theorem Dev.countSat_calU (d : Dev) (f : Fld) (n : Nat) : (d.countSat f n).calU = d.calU := (rfl)
@[simp] theorem Dev.countSat_imp (d : Dev) (f : Fld) (n : Nat) : (d.countSat f n).imp = d.imp := (rfl)
@[simp] theorem Dev.countSat_bdl (d : Dev) (f : Fld) (n : Nat) : (d.countSat f n).bdl = d.bdl := (rfl)
@[simp] theorem Dev.countSat_iic (d : Dev) (f : Fld) (n : Nat) : (d.countSat f n).iic = d.iic := (rfl)
@[simp] theorem Dev.countSat_bzlL (d : Dev) (f : Fld) (n : Nat) : (d.countSat f n).bzlL = d.bzlL := (rfl)
@[simp] theorem Dev.countSat_bzlU (d : Dev) (f : Fld) (n : Nat) : (d.countSat f n).bzlU = d.bzlU := (rfl)
@[simp] theorem Dev.countSat_saf (d : Dev) (f : Fld) (n : Nat) : (d.countSat f n).saf = d.saf := (rfl)
@[simp] theorem Dev.countSat_nvm (d : Dev) (f : Fld) (n : Nat) : (d.countSat f n).nvm = d.nvm := (rfl)
@[simp] theorem Dev.countSat_bst (d : Dev) (f : Fld) (n : Nat) : (d.countSat f n).bst = d.bst := (rfl)
@[simp] theorem Dev.countSat_lcs (d : Dev) (f : Fld) (n : Nat) : (d.countSat f n).lcs = d.lcs := (rfl)
@[simp] theorem Dev.countSat_fw (d : Dev) (f : Fld) (n : Nat) : (d.countSat f n).fw = d.fw := (rfl)
@[simp] theorem Dev.countSat_leg (d : Dev) (f : Fld) (n : Nat) : (d.countSat f n).leg = d.leg := (rfl)
@[simp] theorem Dev.countSat_fz (d : Dev) (f : Fld) (n : Nat) : (d.countSat f n).fz = d.fz := (rfl)
@[simp] theorem Dev.countSat_asks (d : Dev) (f : Fld) (n : Nat) : (d.countSat f n).asks = d.asks := (rfl)

@[simp] theorem Dev.countMod_build (d : Dev) (f : Fld) (n : Nat) : (d.countMod f n).build = d.build := (rfl)
@[simp] theorem Dev.countMod_role (d : Dev) (f : Fld) (n : Nat) : (d.countMod f n).role = d.role := (rfl)
@[simp] theorem Dev.countMod_staged (d : Dev) (f : Fld) (n : Nat) : (d.countMod f n).staged = d.staged := (rfl)
@[simp] theorem Dev.countMod_readData (d : Dev) (f : Fld) (n : Nat) : (d.countMod f n).readData = d.readData := (rfl)
@[simp] theorem Dev.countMod_out (d : Dev) (f : Fld) (n : Nat) : (d.countMod f n).out = d.out := (rfl)
@[simp] theorem Dev.countMod_now (d : Dev) (f : Fld) (n : Nat) : (d.countMod f n).now = d.now := (rfl)
@[simp] theorem Dev.countMod_mtick (d : Dev) (f : Fld) (n : Nat) : (d.countMod f n).mtick = d.mtick := (rfl)
@[simp] theorem Dev.countMod_draws (d : Dev) (f : Fld) (n : Nat) : (d.countMod f n).draws = d.draws := (rfl)
@[simp] theorem Dev.countMod_pw (d : Dev) (f : Fld) (n : Nat) : (d.countMod f n).pw = d.pw := (rfl)
@[simp] theorem Dev.countMod_spn (d : Dev) (f : Fld) (n : Nat) : (d.countMod f n).spn = d.spn := (rfl)
@[simp] theorem Dev.countMod_hd (d : Dev) (f : Fld) (n : Nat) : (d.countMod f n).hd = d.hd := (rfl)
@[simp] theorem Dev.countMod_hif (d : Dev) (f : Fld) (n : Nat) : (d.countMod f n).hif = d.hif := (rfl)
@[simp] theorem Dev.countMod_burl (d : Dev) (f : Fld) (n : Nat) : (d.countMod f n).burl = d.burl := (rfl)
@[simp] theorem Dev.countMod_win (d : Dev) (f : Fld) (n : Nat) : (d.countMod f n).win = d.win := (rfl)
@[simp] theorem Dev.countMod_cap (d : Dev) (f : Fld) (n : Nat) : (d.countMod f n).cap = d.cap := (rfl)
@[simp] theorem Dev.countMod_tb (d : Dev) (f : Fld) (n : Nat) : (d.countMod f n).tb = d.tb := (rfl)
@[simp] theorem Dev.countMod_auxL (d : Dev) (f : Fld) (n : Nat) : (d.countMod f n).auxL = d.auxL := (rfl)
@[simp] theorem Dev.countMod_auxU (d : Dev) (f : Fld) (n : Nat) : (d.countMod f n).auxU = d.auxU := (rfl)
@[simp] theorem Dev.countMod_owd (d : Dev) (f : Fld) (n : Nat) : (d.countMod f n).owd = d.owd := (rfl)
@[simp] theorem Dev.countMod_bal (d : Dev) (f : Fld) (n : Nat) : (d.countMod f n).bal = d.bal := (rfl)
@[simp] theorem Dev.countMod_calL (d : Dev) (f : Fld) (n : Nat) : (d.countMod f n).calL = d.calL := (rfl)
@[simp] theorem Dev.countMod_calU (d : Dev) (f : Fld) (n : Nat) : (d.countMod f n).calU = d.calU := (rfl)
@[simp] theorem Dev.countMod_imp (d : Dev) (f : Fld) (n : Nat) : (d.countMod f n).imp = d.imp := (rfl)
@[simp] theorem Dev.countMod_bdl (d : Dev) (f : Fld) (n : Nat) : (d.countMod f n).bdl = d.bdl := (rfl)
@[simp] theorem Dev.countMod_iic (d : Dev) (f : Fld) (n : Nat) : (d.countMod f n).iic = d.iic := (rfl)
@[simp] theorem Dev.countMod_bzlL (d : Dev) (f : Fld) (n : Nat) : (d.countMod f n).bzlL = d.bzlL := (rfl)
@[simp] theorem Dev.countMod_bzlU (d : Dev) (f : Fld) (n : Nat) : (d.countMod f n).bzlU = d.bzlU := (rfl)
@[simp] theorem Dev.countMod_saf (d : Dev) (f : Fld) (n : Nat) : (d.countMod f n).saf = d.saf := (rfl)
@[simp] theorem Dev.countMod_nvm (d : Dev) (f : Fld) (n : Nat) : (d.countMod f n).nvm = d.nvm := (rfl)
@[simp] theorem Dev.countMod_bst (d : Dev) (f : Fld) (n : Nat) : (d.countMod f n).bst = d.bst := (rfl)
@[simp] theorem Dev.countMod_lcs (d : Dev) (f : Fld) (n : Nat) : (d.countMod f n).lcs = d.lcs := (rfl)
@[simp] theorem Dev.countMod_fw (d : Dev) (f : Fld) (n : Nat) : (d.countMod f n).fw = d.fw := (rfl)
@[simp] theorem Dev.countMod_leg (d : Dev) (f : Fld) (n : Nat) : (d.countMod f n).leg = d.leg := (rfl)
@[simp] theorem Dev.countMod_fz (d : Dev) (f : Fld) (n : Nat) : (d.countMod f n).fz = d.fz := (rfl)
@[simp] theorem Dev.countMod_asks (d : Dev) (f : Fld) (n : Nat) : (d.countMod f n).asks = d.asks := (rfl)

@[simp] theorem Dev.put64_build (d : Dev) (lo hi : Fld) (v : Nat) : (d.put64 lo hi v).build = d.build := (rfl)
@[simp] theorem Dev.put64_role (d : Dev) (lo hi : Fld) (v : Nat) : (d.put64 lo hi v).role = d.role := (rfl)
@[simp] theorem Dev.put64_staged (d : Dev) (lo hi : Fld) (v : Nat) : (d.put64 lo hi v).staged = d.staged := (rfl)
@[simp] theorem Dev.put64_readData (d : Dev) (lo hi : Fld) (v : Nat) : (d.put64 lo hi v).readData = d.readData := (rfl)
@[simp] theorem Dev.put64_out (d : Dev) (lo hi : Fld) (v : Nat) : (d.put64 lo hi v).out = d.out := (rfl)
@[simp] theorem Dev.put64_now (d : Dev) (lo hi : Fld) (v : Nat) : (d.put64 lo hi v).now = d.now := (rfl)
@[simp] theorem Dev.put64_mtick (d : Dev) (lo hi : Fld) (v : Nat) : (d.put64 lo hi v).mtick = d.mtick := (rfl)
@[simp] theorem Dev.put64_draws (d : Dev) (lo hi : Fld) (v : Nat) : (d.put64 lo hi v).draws = d.draws := (rfl)
@[simp] theorem Dev.put64_pw (d : Dev) (lo hi : Fld) (v : Nat) : (d.put64 lo hi v).pw = d.pw := (rfl)
@[simp] theorem Dev.put64_spn (d : Dev) (lo hi : Fld) (v : Nat) : (d.put64 lo hi v).spn = d.spn := (rfl)
@[simp] theorem Dev.put64_hd (d : Dev) (lo hi : Fld) (v : Nat) : (d.put64 lo hi v).hd = d.hd := (rfl)
@[simp] theorem Dev.put64_hif (d : Dev) (lo hi : Fld) (v : Nat) : (d.put64 lo hi v).hif = d.hif := (rfl)
@[simp] theorem Dev.put64_burl (d : Dev) (lo hi : Fld) (v : Nat) : (d.put64 lo hi v).burl = d.burl := (rfl)
@[simp] theorem Dev.put64_win (d : Dev) (lo hi : Fld) (v : Nat) : (d.put64 lo hi v).win = d.win := (rfl)
@[simp] theorem Dev.put64_cap (d : Dev) (lo hi : Fld) (v : Nat) : (d.put64 lo hi v).cap = d.cap := (rfl)
@[simp] theorem Dev.put64_tb (d : Dev) (lo hi : Fld) (v : Nat) : (d.put64 lo hi v).tb = d.tb := (rfl)
@[simp] theorem Dev.put64_auxL (d : Dev) (lo hi : Fld) (v : Nat) : (d.put64 lo hi v).auxL = d.auxL := (rfl)
@[simp] theorem Dev.put64_auxU (d : Dev) (lo hi : Fld) (v : Nat) : (d.put64 lo hi v).auxU = d.auxU := (rfl)
@[simp] theorem Dev.put64_owd (d : Dev) (lo hi : Fld) (v : Nat) : (d.put64 lo hi v).owd = d.owd := (rfl)
@[simp] theorem Dev.put64_bal (d : Dev) (lo hi : Fld) (v : Nat) : (d.put64 lo hi v).bal = d.bal := (rfl)
@[simp] theorem Dev.put64_calL (d : Dev) (lo hi : Fld) (v : Nat) : (d.put64 lo hi v).calL = d.calL := (rfl)
@[simp] theorem Dev.put64_calU (d : Dev) (lo hi : Fld) (v : Nat) : (d.put64 lo hi v).calU = d.calU := (rfl)
@[simp] theorem Dev.put64_imp (d : Dev) (lo hi : Fld) (v : Nat) : (d.put64 lo hi v).imp = d.imp := (rfl)
@[simp] theorem Dev.put64_bdl (d : Dev) (lo hi : Fld) (v : Nat) : (d.put64 lo hi v).bdl = d.bdl := (rfl)
@[simp] theorem Dev.put64_iic (d : Dev) (lo hi : Fld) (v : Nat) : (d.put64 lo hi v).iic = d.iic := (rfl)
@[simp] theorem Dev.put64_bzlL (d : Dev) (lo hi : Fld) (v : Nat) : (d.put64 lo hi v).bzlL = d.bzlL := (rfl)
@[simp] theorem Dev.put64_bzlU (d : Dev) (lo hi : Fld) (v : Nat) : (d.put64 lo hi v).bzlU = d.bzlU := (rfl)
@[simp] theorem Dev.put64_saf (d : Dev) (lo hi : Fld) (v : Nat) : (d.put64 lo hi v).saf = d.saf := (rfl)
@[simp] theorem Dev.put64_nvm (d : Dev) (lo hi : Fld) (v : Nat) : (d.put64 lo hi v).nvm = d.nvm := (rfl)
@[simp] theorem Dev.put64_bst (d : Dev) (lo hi : Fld) (v : Nat) : (d.put64 lo hi v).bst = d.bst := (rfl)
@[simp] theorem Dev.put64_lcs (d : Dev) (lo hi : Fld) (v : Nat) : (d.put64 lo hi v).lcs = d.lcs := (rfl)
@[simp] theorem Dev.put64_fw (d : Dev) (lo hi : Fld) (v : Nat) : (d.put64 lo hi v).fw = d.fw := (rfl)
@[simp] theorem Dev.put64_leg (d : Dev) (lo hi : Fld) (v : Nat) : (d.put64 lo hi v).leg = d.leg := (rfl)
@[simp] theorem Dev.put64_fz (d : Dev) (lo hi : Fld) (v : Nat) : (d.put64 lo hi v).fz = d.fz := (rfl)
@[simp] theorem Dev.put64_asks (d : Dev) (lo hi : Fld) (v : Nat) : (d.put64 lo hi v).asks = d.asks := (rfl)

@[simp] theorem Dev.setStaged_build (d : Dev) (a : Nat) (v : Word) : (d.setStaged a v).build = d.build := (rfl)
@[simp] theorem Dev.setStaged_role (d : Dev) (a : Nat) (v : Word) : (d.setStaged a v).role = d.role := (rfl)
@[simp] theorem Dev.setStaged_regs (d : Dev) (a : Nat) (v : Word) : (d.setStaged a v).regs = d.regs := (rfl)
@[simp] theorem Dev.setStaged_readData (d : Dev) (a : Nat) (v : Word) : (d.setStaged a v).readData = d.readData := (rfl)
@[simp] theorem Dev.setStaged_out (d : Dev) (a : Nat) (v : Word) : (d.setStaged a v).out = d.out := (rfl)
@[simp] theorem Dev.setStaged_now (d : Dev) (a : Nat) (v : Word) : (d.setStaged a v).now = d.now := (rfl)
@[simp] theorem Dev.setStaged_mtick (d : Dev) (a : Nat) (v : Word) : (d.setStaged a v).mtick = d.mtick := (rfl)
@[simp] theorem Dev.setStaged_draws (d : Dev) (a : Nat) (v : Word) : (d.setStaged a v).draws = d.draws := (rfl)
@[simp] theorem Dev.setStaged_pw (d : Dev) (a : Nat) (v : Word) : (d.setStaged a v).pw = d.pw := (rfl)
@[simp] theorem Dev.setStaged_spn (d : Dev) (a : Nat) (v : Word) : (d.setStaged a v).spn = d.spn := (rfl)
@[simp] theorem Dev.setStaged_hd (d : Dev) (a : Nat) (v : Word) : (d.setStaged a v).hd = d.hd := (rfl)
@[simp] theorem Dev.setStaged_hif (d : Dev) (a : Nat) (v : Word) : (d.setStaged a v).hif = d.hif := (rfl)
@[simp] theorem Dev.setStaged_burl (d : Dev) (a : Nat) (v : Word) : (d.setStaged a v).burl = d.burl := (rfl)
@[simp] theorem Dev.setStaged_win (d : Dev) (a : Nat) (v : Word) : (d.setStaged a v).win = d.win := (rfl)
@[simp] theorem Dev.setStaged_cap (d : Dev) (a : Nat) (v : Word) : (d.setStaged a v).cap = d.cap := (rfl)
@[simp] theorem Dev.setStaged_tb (d : Dev) (a : Nat) (v : Word) : (d.setStaged a v).tb = d.tb := (rfl)
@[simp] theorem Dev.setStaged_auxL (d : Dev) (a : Nat) (v : Word) : (d.setStaged a v).auxL = d.auxL := (rfl)
@[simp] theorem Dev.setStaged_auxU (d : Dev) (a : Nat) (v : Word) : (d.setStaged a v).auxU = d.auxU := (rfl)
@[simp] theorem Dev.setStaged_owd (d : Dev) (a : Nat) (v : Word) : (d.setStaged a v).owd = d.owd := (rfl)
@[simp] theorem Dev.setStaged_bal (d : Dev) (a : Nat) (v : Word) : (d.setStaged a v).bal = d.bal := (rfl)
@[simp] theorem Dev.setStaged_calL (d : Dev) (a : Nat) (v : Word) : (d.setStaged a v).calL = d.calL := (rfl)
@[simp] theorem Dev.setStaged_calU (d : Dev) (a : Nat) (v : Word) : (d.setStaged a v).calU = d.calU := (rfl)
@[simp] theorem Dev.setStaged_imp (d : Dev) (a : Nat) (v : Word) : (d.setStaged a v).imp = d.imp := (rfl)
@[simp] theorem Dev.setStaged_bdl (d : Dev) (a : Nat) (v : Word) : (d.setStaged a v).bdl = d.bdl := (rfl)
@[simp] theorem Dev.setStaged_iic (d : Dev) (a : Nat) (v : Word) : (d.setStaged a v).iic = d.iic := (rfl)
@[simp] theorem Dev.setStaged_bzlL (d : Dev) (a : Nat) (v : Word) : (d.setStaged a v).bzlL = d.bzlL := (rfl)
@[simp] theorem Dev.setStaged_bzlU (d : Dev) (a : Nat) (v : Word) : (d.setStaged a v).bzlU = d.bzlU := (rfl)
@[simp] theorem Dev.setStaged_saf (d : Dev) (a : Nat) (v : Word) : (d.setStaged a v).saf = d.saf := (rfl)
@[simp] theorem Dev.setStaged_nvm (d : Dev) (a : Nat) (v : Word) : (d.setStaged a v).nvm = d.nvm := (rfl)
@[simp] theorem Dev.setStaged_bst (d : Dev) (a : Nat) (v : Word) : (d.setStaged a v).bst = d.bst := (rfl)
@[simp] theorem Dev.setStaged_lcs (d : Dev) (a : Nat) (v : Word) : (d.setStaged a v).lcs = d.lcs := (rfl)
@[simp] theorem Dev.setStaged_fw (d : Dev) (a : Nat) (v : Word) : (d.setStaged a v).fw = d.fw := (rfl)
@[simp] theorem Dev.setStaged_leg (d : Dev) (a : Nat) (v : Word) : (d.setStaged a v).leg = d.leg := (rfl)
@[simp] theorem Dev.setStaged_fz (d : Dev) (a : Nat) (v : Word) : (d.setStaged a v).fz = d.fz := (rfl)
@[simp] theorem Dev.setStaged_asks (d : Dev) (a : Nat) (v : Word) : (d.setStaged a v).asks = d.asks := (rfl)

@[simp] theorem Dev.emit_build (d : Dev) (o : Output) : (d.emit o).build = d.build := (rfl)
@[simp] theorem Dev.emit_role (d : Dev) (o : Output) : (d.emit o).role = d.role := (rfl)
@[simp] theorem Dev.emit_regs (d : Dev) (o : Output) : (d.emit o).regs = d.regs := (rfl)
@[simp] theorem Dev.emit_staged (d : Dev) (o : Output) : (d.emit o).staged = d.staged := (rfl)
@[simp] theorem Dev.emit_readData (d : Dev) (o : Output) : (d.emit o).readData = d.readData := (rfl)
@[simp] theorem Dev.emit_now (d : Dev) (o : Output) : (d.emit o).now = d.now := (rfl)
@[simp] theorem Dev.emit_mtick (d : Dev) (o : Output) : (d.emit o).mtick = d.mtick := (rfl)
@[simp] theorem Dev.emit_draws (d : Dev) (o : Output) : (d.emit o).draws = d.draws := (rfl)
@[simp] theorem Dev.emit_pw (d : Dev) (o : Output) : (d.emit o).pw = d.pw := (rfl)
@[simp] theorem Dev.emit_spn (d : Dev) (o : Output) : (d.emit o).spn = d.spn := (rfl)
@[simp] theorem Dev.emit_hd (d : Dev) (o : Output) : (d.emit o).hd = d.hd := (rfl)
@[simp] theorem Dev.emit_hif (d : Dev) (o : Output) : (d.emit o).hif = d.hif := (rfl)
@[simp] theorem Dev.emit_burl (d : Dev) (o : Output) : (d.emit o).burl = d.burl := (rfl)
@[simp] theorem Dev.emit_win (d : Dev) (o : Output) : (d.emit o).win = d.win := (rfl)
@[simp] theorem Dev.emit_cap (d : Dev) (o : Output) : (d.emit o).cap = d.cap := (rfl)
@[simp] theorem Dev.emit_tb (d : Dev) (o : Output) : (d.emit o).tb = d.tb := (rfl)
@[simp] theorem Dev.emit_auxL (d : Dev) (o : Output) : (d.emit o).auxL = d.auxL := (rfl)
@[simp] theorem Dev.emit_auxU (d : Dev) (o : Output) : (d.emit o).auxU = d.auxU := (rfl)
@[simp] theorem Dev.emit_owd (d : Dev) (o : Output) : (d.emit o).owd = d.owd := (rfl)
@[simp] theorem Dev.emit_bal (d : Dev) (o : Output) : (d.emit o).bal = d.bal := (rfl)
@[simp] theorem Dev.emit_calL (d : Dev) (o : Output) : (d.emit o).calL = d.calL := (rfl)
@[simp] theorem Dev.emit_calU (d : Dev) (o : Output) : (d.emit o).calU = d.calU := (rfl)
@[simp] theorem Dev.emit_imp (d : Dev) (o : Output) : (d.emit o).imp = d.imp := (rfl)
@[simp] theorem Dev.emit_bdl (d : Dev) (o : Output) : (d.emit o).bdl = d.bdl := (rfl)
@[simp] theorem Dev.emit_iic (d : Dev) (o : Output) : (d.emit o).iic = d.iic := (rfl)
@[simp] theorem Dev.emit_bzlL (d : Dev) (o : Output) : (d.emit o).bzlL = d.bzlL := (rfl)
@[simp] theorem Dev.emit_bzlU (d : Dev) (o : Output) : (d.emit o).bzlU = d.bzlU := (rfl)
@[simp] theorem Dev.emit_saf (d : Dev) (o : Output) : (d.emit o).saf = d.saf := (rfl)
@[simp] theorem Dev.emit_nvm (d : Dev) (o : Output) : (d.emit o).nvm = d.nvm := (rfl)
@[simp] theorem Dev.emit_bst (d : Dev) (o : Output) : (d.emit o).bst = d.bst := (rfl)
@[simp] theorem Dev.emit_lcs (d : Dev) (o : Output) : (d.emit o).lcs = d.lcs := (rfl)
@[simp] theorem Dev.emit_fw (d : Dev) (o : Output) : (d.emit o).fw = d.fw := (rfl)
@[simp] theorem Dev.emit_leg (d : Dev) (o : Output) : (d.emit o).leg = d.leg := (rfl)
@[simp] theorem Dev.emit_fz (d : Dev) (o : Output) : (d.emit o).fz = d.fz := (rfl)
@[simp] theorem Dev.emit_asks (d : Dev) (o : Output) : (d.emit o).asks = d.asks := (rfl)

@[simp] theorem Dev.ask_build (d : Dev) (q : Ask) : (d.ask q).build = d.build := (rfl)
@[simp] theorem Dev.ask_role (d : Dev) (q : Ask) : (d.ask q).role = d.role := (rfl)
@[simp] theorem Dev.ask_regs (d : Dev) (q : Ask) : (d.ask q).regs = d.regs := (rfl)
@[simp] theorem Dev.ask_staged (d : Dev) (q : Ask) : (d.ask q).staged = d.staged := (rfl)
@[simp] theorem Dev.ask_readData (d : Dev) (q : Ask) : (d.ask q).readData = d.readData := (rfl)
@[simp] theorem Dev.ask_out (d : Dev) (q : Ask) : (d.ask q).out = d.out := (rfl)
@[simp] theorem Dev.ask_now (d : Dev) (q : Ask) : (d.ask q).now = d.now := (rfl)
@[simp] theorem Dev.ask_mtick (d : Dev) (q : Ask) : (d.ask q).mtick = d.mtick := (rfl)
@[simp] theorem Dev.ask_draws (d : Dev) (q : Ask) : (d.ask q).draws = d.draws := (rfl)
@[simp] theorem Dev.ask_pw (d : Dev) (q : Ask) : (d.ask q).pw = d.pw := (rfl)
@[simp] theorem Dev.ask_spn (d : Dev) (q : Ask) : (d.ask q).spn = d.spn := (rfl)
@[simp] theorem Dev.ask_hd (d : Dev) (q : Ask) : (d.ask q).hd = d.hd := (rfl)
@[simp] theorem Dev.ask_hif (d : Dev) (q : Ask) : (d.ask q).hif = d.hif := (rfl)
@[simp] theorem Dev.ask_burl (d : Dev) (q : Ask) : (d.ask q).burl = d.burl := (rfl)
@[simp] theorem Dev.ask_win (d : Dev) (q : Ask) : (d.ask q).win = d.win := (rfl)
@[simp] theorem Dev.ask_cap (d : Dev) (q : Ask) : (d.ask q).cap = d.cap := (rfl)
@[simp] theorem Dev.ask_tb (d : Dev) (q : Ask) : (d.ask q).tb = d.tb := (rfl)
@[simp] theorem Dev.ask_auxL (d : Dev) (q : Ask) : (d.ask q).auxL = d.auxL := (rfl)
@[simp] theorem Dev.ask_auxU (d : Dev) (q : Ask) : (d.ask q).auxU = d.auxU := (rfl)
@[simp] theorem Dev.ask_owd (d : Dev) (q : Ask) : (d.ask q).owd = d.owd := (rfl)
@[simp] theorem Dev.ask_bal (d : Dev) (q : Ask) : (d.ask q).bal = d.bal := (rfl)
@[simp] theorem Dev.ask_calL (d : Dev) (q : Ask) : (d.ask q).calL = d.calL := (rfl)
@[simp] theorem Dev.ask_calU (d : Dev) (q : Ask) : (d.ask q).calU = d.calU := (rfl)
@[simp] theorem Dev.ask_imp (d : Dev) (q : Ask) : (d.ask q).imp = d.imp := (rfl)
@[simp] theorem Dev.ask_bdl (d : Dev) (q : Ask) : (d.ask q).bdl = d.bdl := (rfl)
@[simp] theorem Dev.ask_iic (d : Dev) (q : Ask) : (d.ask q).iic = d.iic := (rfl)
@[simp] theorem Dev.ask_bzlL (d : Dev) (q : Ask) : (d.ask q).bzlL = d.bzlL := (rfl)
@[simp] theorem Dev.ask_bzlU (d : Dev) (q : Ask) : (d.ask q).bzlU = d.bzlU := (rfl)
@[simp] theorem Dev.ask_saf (d : Dev) (q : Ask) : (d.ask q).saf = d.saf := (rfl)
@[simp] theorem Dev.ask_nvm (d : Dev) (q : Ask) : (d.ask q).nvm = d.nvm := (rfl)
@[simp] theorem Dev.ask_bst (d : Dev) (q : Ask) : (d.ask q).bst = d.bst := (rfl)
@[simp] theorem Dev.ask_lcs (d : Dev) (q : Ask) : (d.ask q).lcs = d.lcs := (rfl)
@[simp] theorem Dev.ask_fw (d : Dev) (q : Ask) : (d.ask q).fw = d.fw := (rfl)
@[simp] theorem Dev.ask_leg (d : Dev) (q : Ask) : (d.ask q).leg = d.leg := (rfl)
@[simp] theorem Dev.ask_fz (d : Dev) (q : Ask) : (d.ask q).fz = d.fz := (rfl)

@[simp] theorem Dev.emit_out (d : Dev) (o : Output) : (d.emit o).out = o :: d.out := (rfl)
@[simp] theorem Dev.ask_asks (d : Dev) (q : Ask) : (d.ask q).asks = d.asks ++ [q] := (rfl)
@[simp] theorem Dev.word_with_staged (d : Dev) (x : _) (a : Nat) : Dev.word { d with staged := x } a = d.word a := (rfl)
@[simp] theorem Dev.get_with_staged (d : Dev) (x : _) (f : Fld) : Dev.get { d with staged := x } f = d.get f := (rfl)
@[simp] theorem Dev.bit_with_staged (d : Dev) (x : _) (f : Fld) : Dev.bit { d with staged := x } f = d.bit f := (rfl)
@[simp] theorem Dev.word_with_readData (d : Dev) (x : _) (a : Nat) : Dev.word { d with readData := x } a = d.word a := (rfl)
@[simp] theorem Dev.get_with_readData (d : Dev) (x : _) (f : Fld) : Dev.get { d with readData := x } f = d.get f := (rfl)
@[simp] theorem Dev.bit_with_readData (d : Dev) (x : _) (f : Fld) : Dev.bit { d with readData := x } f = d.bit f := (rfl)
@[simp] theorem Dev.word_with_out (d : Dev) (x : _) (a : Nat) : Dev.word { d with out := x } a = d.word a := (rfl)
@[simp] theorem Dev.get_with_out (d : Dev) (x : _) (f : Fld) : Dev.get { d with out := x } f = d.get f := (rfl)
@[simp] theorem Dev.bit_with_out (d : Dev) (x : _) (f : Fld) : Dev.bit { d with out := x } f = d.bit f := (rfl)
@[simp] theorem Dev.word_with_now (d : Dev) (x : _) (a : Nat) : Dev.word { d with now := x } a = d.word a := (rfl)
@[simp] theorem Dev.get_with_now (d : Dev) (x : _) (f : Fld) : Dev.get { d with now := x } f = d.get f := (rfl)
@[simp] theorem Dev.bit_with_now (d : Dev) (x : _) (f : Fld) : Dev.bit { d with now := x } f = d.bit f := (rfl)
@[simp] theorem Dev.word_with_mtick (d : Dev) (x : _) (a : Nat) : Dev.word { d with mtick := x } a = d.word a := (rfl)
@[simp] theorem Dev.get_with_mtick (d : Dev) (x : _) (f : Fld) : Dev.get { d with mtick := x } f = d.get f := (rfl)
@[simp] theorem Dev.bit_with_mtick (d : Dev) (x : _) (f : Fld) : Dev.bit { d with mtick := x } f = d.bit f := (rfl)
@[simp] theorem Dev.word_with_draws (d : Dev) (x : _) (a : Nat) : Dev.word { d with draws := x } a = d.word a := (rfl)
@[simp] theorem Dev.get_with_draws (d : Dev) (x : _) (f : Fld) : Dev.get { d with draws := x } f = d.get f := (rfl)
@[simp] theorem Dev.bit_with_draws (d : Dev) (x : _) (f : Fld) : Dev.bit { d with draws := x } f = d.bit f := (rfl)
@[simp] theorem Dev.word_with_pw (d : Dev) (x : _) (a : Nat) : Dev.word { d with pw := x } a = d.word a := (rfl)
@[simp] theorem Dev.get_with_pw (d : Dev) (x : _) (f : Fld) : Dev.get { d with pw := x } f = d.get f := (rfl)
@[simp] theorem Dev.bit_with_pw (d : Dev) (x : _) (f : Fld) : Dev.bit { d with pw := x } f = d.bit f := (rfl)
@[simp] theorem Dev.word_with_spn (d : Dev) (x : _) (a : Nat) : Dev.word { d with spn := x } a = d.word a := (rfl)
@[simp] theorem Dev.get_with_spn (d : Dev) (x : _) (f : Fld) : Dev.get { d with spn := x } f = d.get f := (rfl)
@[simp] theorem Dev.bit_with_spn (d : Dev) (x : _) (f : Fld) : Dev.bit { d with spn := x } f = d.bit f := (rfl)
@[simp] theorem Dev.word_with_hd (d : Dev) (x : _) (a : Nat) : Dev.word { d with hd := x } a = d.word a := (rfl)
@[simp] theorem Dev.get_with_hd (d : Dev) (x : _) (f : Fld) : Dev.get { d with hd := x } f = d.get f := (rfl)
@[simp] theorem Dev.bit_with_hd (d : Dev) (x : _) (f : Fld) : Dev.bit { d with hd := x } f = d.bit f := (rfl)
@[simp] theorem Dev.word_with_hif (d : Dev) (x : _) (a : Nat) : Dev.word { d with hif := x } a = d.word a := (rfl)
@[simp] theorem Dev.get_with_hif (d : Dev) (x : _) (f : Fld) : Dev.get { d with hif := x } f = d.get f := (rfl)
@[simp] theorem Dev.bit_with_hif (d : Dev) (x : _) (f : Fld) : Dev.bit { d with hif := x } f = d.bit f := (rfl)
@[simp] theorem Dev.word_with_burl (d : Dev) (x : _) (a : Nat) : Dev.word { d with burl := x } a = d.word a := (rfl)
@[simp] theorem Dev.get_with_burl (d : Dev) (x : _) (f : Fld) : Dev.get { d with burl := x } f = d.get f := (rfl)
@[simp] theorem Dev.bit_with_burl (d : Dev) (x : _) (f : Fld) : Dev.bit { d with burl := x } f = d.bit f := (rfl)
@[simp] theorem Dev.word_with_win (d : Dev) (x : _) (a : Nat) : Dev.word { d with win := x } a = d.word a := (rfl)
@[simp] theorem Dev.get_with_win (d : Dev) (x : _) (f : Fld) : Dev.get { d with win := x } f = d.get f := (rfl)
@[simp] theorem Dev.bit_with_win (d : Dev) (x : _) (f : Fld) : Dev.bit { d with win := x } f = d.bit f := (rfl)
@[simp] theorem Dev.word_with_cap (d : Dev) (x : _) (a : Nat) : Dev.word { d with cap := x } a = d.word a := (rfl)
@[simp] theorem Dev.get_with_cap (d : Dev) (x : _) (f : Fld) : Dev.get { d with cap := x } f = d.get f := (rfl)
@[simp] theorem Dev.bit_with_cap (d : Dev) (x : _) (f : Fld) : Dev.bit { d with cap := x } f = d.bit f := (rfl)
@[simp] theorem Dev.word_with_tb (d : Dev) (x : _) (a : Nat) : Dev.word { d with tb := x } a = d.word a := (rfl)
@[simp] theorem Dev.get_with_tb (d : Dev) (x : _) (f : Fld) : Dev.get { d with tb := x } f = d.get f := (rfl)
@[simp] theorem Dev.bit_with_tb (d : Dev) (x : _) (f : Fld) : Dev.bit { d with tb := x } f = d.bit f := (rfl)
@[simp] theorem Dev.word_with_auxL (d : Dev) (x : _) (a : Nat) : Dev.word { d with auxL := x } a = d.word a := (rfl)
@[simp] theorem Dev.get_with_auxL (d : Dev) (x : _) (f : Fld) : Dev.get { d with auxL := x } f = d.get f := (rfl)
@[simp] theorem Dev.bit_with_auxL (d : Dev) (x : _) (f : Fld) : Dev.bit { d with auxL := x } f = d.bit f := (rfl)
@[simp] theorem Dev.word_with_auxU (d : Dev) (x : _) (a : Nat) : Dev.word { d with auxU := x } a = d.word a := (rfl)
@[simp] theorem Dev.get_with_auxU (d : Dev) (x : _) (f : Fld) : Dev.get { d with auxU := x } f = d.get f := (rfl)
@[simp] theorem Dev.bit_with_auxU (d : Dev) (x : _) (f : Fld) : Dev.bit { d with auxU := x } f = d.bit f := (rfl)
@[simp] theorem Dev.word_with_owd (d : Dev) (x : _) (a : Nat) : Dev.word { d with owd := x } a = d.word a := (rfl)
@[simp] theorem Dev.get_with_owd (d : Dev) (x : _) (f : Fld) : Dev.get { d with owd := x } f = d.get f := (rfl)
@[simp] theorem Dev.bit_with_owd (d : Dev) (x : _) (f : Fld) : Dev.bit { d with owd := x } f = d.bit f := (rfl)
@[simp] theorem Dev.word_with_bal (d : Dev) (x : _) (a : Nat) : Dev.word { d with bal := x } a = d.word a := (rfl)
@[simp] theorem Dev.get_with_bal (d : Dev) (x : _) (f : Fld) : Dev.get { d with bal := x } f = d.get f := (rfl)
@[simp] theorem Dev.bit_with_bal (d : Dev) (x : _) (f : Fld) : Dev.bit { d with bal := x } f = d.bit f := (rfl)
@[simp] theorem Dev.word_with_calL (d : Dev) (x : _) (a : Nat) : Dev.word { d with calL := x } a = d.word a := (rfl)
@[simp] theorem Dev.get_with_calL (d : Dev) (x : _) (f : Fld) : Dev.get { d with calL := x } f = d.get f := (rfl)
@[simp] theorem Dev.bit_with_calL (d : Dev) (x : _) (f : Fld) : Dev.bit { d with calL := x } f = d.bit f := (rfl)
@[simp] theorem Dev.word_with_calU (d : Dev) (x : _) (a : Nat) : Dev.word { d with calU := x } a = d.word a := (rfl)
@[simp] theorem Dev.get_with_calU (d : Dev) (x : _) (f : Fld) : Dev.get { d with calU := x } f = d.get f := (rfl)
@[simp] theorem Dev.bit_with_calU (d : Dev) (x : _) (f : Fld) : Dev.bit { d with calU := x } f = d.bit f := (rfl)
@[simp] theorem Dev.word_with_imp (d : Dev) (x : _) (a : Nat) : Dev.word { d with imp := x } a = d.word a := (rfl)
@[simp] theorem Dev.get_with_imp (d : Dev) (x : _) (f : Fld) : Dev.get { d with imp := x } f = d.get f := (rfl)
@[simp] theorem Dev.bit_with_imp (d : Dev) (x : _) (f : Fld) : Dev.bit { d with imp := x } f = d.bit f := (rfl)
@[simp] theorem Dev.word_with_bdl (d : Dev) (x : _) (a : Nat) : Dev.word { d with bdl := x } a = d.word a := (rfl)
@[simp] theorem Dev.get_with_bdl (d : Dev) (x : _) (f : Fld) : Dev.get { d with bdl := x } f = d.get f := (rfl)
@[simp] theorem Dev.bit_with_bdl (d : Dev) (x : _) (f : Fld) : Dev.bit { d with bdl := x } f = d.bit f := (rfl)
@[simp] theorem Dev.word_with_iic (d : Dev) (x : _) (a : Nat) : Dev.word { d with iic := x } a = d.word a := (rfl)
@[simp] theorem Dev.get_with_iic (d : Dev) (x : _) (f : Fld) : Dev.get { d with iic := x } f = d.get f := (rfl)
@[simp] theorem Dev.bit_with_iic (d : Dev) (x : _) (f : Fld) : Dev.bit { d with iic := x } f = d.bit f := (rfl)
@[simp] theorem Dev.word_with_bzlL (d : Dev) (x : _) (a : Nat) : Dev.word { d with bzlL := x } a = d.word a := (rfl)
@[simp] theorem Dev.get_with_bzlL (d : Dev) (x : _) (f : Fld) : Dev.get { d with bzlL := x } f = d.get f := (rfl)
@[simp] theorem Dev.bit_with_bzlL (d : Dev) (x : _) (f : Fld) : Dev.bit { d with bzlL := x } f = d.bit f := (rfl)
@[simp] theorem Dev.word_with_bzlU (d : Dev) (x : _) (a : Nat) : Dev.word { d with bzlU := x } a = d.word a := (rfl)
@[simp] theorem Dev.get_with_bzlU (d : Dev) (x : _) (f : Fld) : Dev.get { d with bzlU := x } f = d.get f := (rfl)
@[simp] theorem Dev.bit_with_bzlU (d : Dev) (x : _) (f : Fld) : Dev.bit { d with bzlU := x } f = d.bit f := (rfl)
@[simp] theorem Dev.word_with_saf (d : Dev) (x : _) (a : Nat) : Dev.word { d with saf := x } a = d.word a := (rfl)
@[simp] theorem Dev.get_with_saf (d : Dev) (x : _) (f : Fld) : Dev.get { d with saf := x } f = d.get f := (rfl)
@[simp] theorem Dev.bit_with_saf (d : Dev) (x : _) (f : Fld) : Dev.bit { d with saf := x } f = d.bit f := (rfl)
@[simp] theorem Dev.word_with_nvm (d : Dev) (x : _) (a : Nat) : Dev.word { d with nvm := x } a = d.word a := (rfl)
@[simp] theorem Dev.get_with_nvm (d : Dev) (x : _) (f : Fld) : Dev.get { d with nvm := x } f = d.get f := (rfl)
@[simp] theorem Dev.bit_with_nvm (d : Dev) (x : _) (f : Fld) : Dev.bit { d with nvm := x } f = d.bit f := (rfl)
@[simp] theorem Dev.word_with_bst (d : Dev) (x : _) (a : Nat) : Dev.word { d with bst := x } a = d.word a := (rfl)
@[simp] theorem Dev.get_with_bst (d : Dev) (x : _) (f : Fld) : Dev.get { d with bst := x } f = d.get f := (rfl)
@[simp] theorem Dev.bit_with_bst (d : Dev) (x : _) (f : Fld) : Dev.bit { d with bst := x } f = d.bit f := (rfl)
@[simp] theorem Dev.word_with_lcs (d : Dev) (x : _) (a : Nat) : Dev.word { d with lcs := x } a = d.word a := (rfl)
@[simp] theorem Dev.get_with_lcs (d : Dev) (x : _) (f : Fld) : Dev.get { d with lcs := x } f = d.get f := (rfl)
@[simp] theorem Dev.bit_with_lcs (d : Dev) (x : _) (f : Fld) : Dev.bit { d with lcs := x } f = d.bit f := (rfl)
@[simp] theorem Dev.word_with_fw (d : Dev) (x : _) (a : Nat) : Dev.word { d with fw := x } a = d.word a := (rfl)
@[simp] theorem Dev.get_with_fw (d : Dev) (x : _) (f : Fld) : Dev.get { d with fw := x } f = d.get f := (rfl)
@[simp] theorem Dev.bit_with_fw (d : Dev) (x : _) (f : Fld) : Dev.bit { d with fw := x } f = d.bit f := (rfl)
@[simp] theorem Dev.word_with_leg (d : Dev) (x : _) (a : Nat) : Dev.word { d with leg := x } a = d.word a := (rfl)
@[simp] theorem Dev.get_with_leg (d : Dev) (x : _) (f : Fld) : Dev.get { d with leg := x } f = d.get f := (rfl)
@[simp] theorem Dev.bit_with_leg (d : Dev) (x : _) (f : Fld) : Dev.bit { d with leg := x } f = d.bit f := (rfl)
@[simp] theorem Dev.word_with_fz (d : Dev) (x : _) (a : Nat) : Dev.word { d with fz := x } a = d.word a := (rfl)
@[simp] theorem Dev.get_with_fz (d : Dev) (x : _) (f : Fld) : Dev.get { d with fz := x } f = d.get f := (rfl)
@[simp] theorem Dev.bit_with_fz (d : Dev) (x : _) (f : Fld) : Dev.bit { d with fz := x } f = d.bit f := (rfl)
@[simp] theorem Dev.word_with_asks (d : Dev) (x : _) (a : Nat) : Dev.word { d with asks := x } a = d.word a := (rfl)
@[simp] theorem Dev.get_with_asks (d : Dev) (x : _) (f : Fld) : Dev.get { d with asks := x } f = d.get f := (rfl)
@[simp] theorem Dev.bit_with_asks (d : Dev) (x : _) (f : Fld) : Dev.bit { d with asks := x } f = d.bit f := (rfl)
@[simp] theorem Dev.word_setStaged (d : Dev) (a : Nat) (v : Word) (b : Nat) : (d.setStaged a v).word b = d.word b := (rfl)
@[simp] theorem Dev.get_setStaged (d : Dev) (a : Nat) (v : Word) (g : Fld) : (d.setStaged a v).get g = d.get g := (rfl)
@[simp] theorem Dev.bit_setStaged (d : Dev) (a : Nat) (v : Word) (g : Fld) : (d.setStaged a v).bit g = d.bit g := (rfl)
@[simp] theorem Dev.word_emit (d : Dev) (o : Output) (b : Nat) : (d.emit o).word b = d.word b := (rfl)
@[simp] theorem Dev.get_emit (d : Dev) (o : Output) (g : Fld) : (d.emit o).get g = d.get g := (rfl)
@[simp] theorem Dev.bit_emit (d : Dev) (o : Output) (g : Fld) : (d.emit o).bit g = d.bit g := (rfl)
@[simp] theorem Dev.word_ask (d : Dev) (q : Ask) (b : Nat) : (d.ask q).word b = d.word b := (rfl)
@[simp] theorem Dev.get_ask (d : Dev) (q : Ask) (g : Fld) : (d.ask q).get g = d.get g := (rfl)
@[simp] theorem Dev.bit_ask (d : Dev) (q : Ask) (g : Fld) : (d.ask q).bit g = d.bit g := (rfl)

end Sys2Proof.Machine
end

