-- ==== Sys2Proof/Laws/Registers.lean ====
section
/-!
SUPPORT. Registers: bit fields read back what was written into them, the register store answers the last word written
and keeps every other word, and its canonical form survives every operation.
-/

namespace Sys2Proof.Machine

/-! ## Bit fields -/

theorem bitsNat_lt (v hi lo : Nat) : bitsNat v hi lo < 2 ^ (hi + 1 - lo) := Nat.mod_lt _ (Nat.two_pow_pos _)

/-- A field as the bits of the number. -/
theorem testBit_bitsNat (v hi lo i : Nat) :
    (bitsNat v hi lo).testBit i = (decide (i < hi + 1 - lo) && v.testBit (lo + i)) := by
  unfold bitsNat
  rw [Nat.testBit_mod_two_pow, Nat.testBit_div_two_pow, Nat.add_comm i lo]

/-- The bits of a number with a field replaced. -/
theorem testBit_setNat (n hi lo v i : Nat) (h : lo ≤ hi) :
    (setNat n hi lo v).testBit i = if lo ≤ i ∧ i ≤ hi then v.testBit (i - lo) else n.testBit i := by
  have hlow : n % 2 ^ lo < 2 ^ lo := Nat.mod_lt _ (Nat.two_pow_pos _)
  have hmid : v % 2 ^ (hi + 1 - lo) < 2 ^ (hi + 1 - lo) := Nat.mod_lt _ (Nat.two_pow_pos _)
  have hp : 2 ^ (hi + 1) = 2 ^ lo * 2 ^ (hi + 1 - lo) := by rw [← pow_add]; congr 1; omega
  have heq : setNat n hi lo v
      = 2 ^ lo * (2 ^ (hi + 1 - lo) * (n / 2 ^ (hi + 1)) + v % 2 ^ (hi + 1 - lo)) + n % 2 ^ lo := by
    unfold setNat; rw [hp]; ring
  rw [heq, Nat.testBit_two_pow_mul_add _ hlow]
  by_cases h1 : i < lo
  · have : ¬ (lo ≤ i ∧ i ≤ hi) := by omega
    simp [h1, this, Nat.testBit_mod_two_pow]
  · rw [if_neg h1, Nat.testBit_two_pow_mul_add _ hmid]
    by_cases h2 : i - lo < hi + 1 - lo
    · have : lo ≤ i ∧ i ≤ hi := by omega
      simp [h2, this, Nat.testBit_mod_two_pow]
    · have : ¬ (lo ≤ i ∧ i ≤ hi) := by omega
      rw [if_neg h2, if_neg this, Nat.testBit_div_two_pow]
      congr 1; omega

/-- A field that was replaced reads as the new value, cut to its width. -/
theorem bitsOf_setBits (w : Word) (hi lo v : Nat) (h : lo ≤ hi) (h32 : hi < 32) :
    bitsOf (setBits w hi lo v) hi lo = v % 2 ^ (hi + 1 - lo) := by
  apply Nat.eq_of_testBit_eq
  intro i
  unfold bitsOf setBits
  rw [BitVec.toNat_ofNat, testBit_bitsNat, Nat.testBit_mod_two_pow, Nat.testBit_mod_two_pow, testBit_setNat _ _ _ _ _ h]
  by_cases hi' : i < hi + 1 - lo
  · have h1 : lo ≤ lo + i ∧ lo + i ≤ hi := by omega
    have h2 : lo + i < 32 := by omega
    simp [hi', h1, h2]
  · simp [hi']

/-- A field apart from the one that was replaced reads as before. -/
theorem bitsOf_setBits_apart (w : Word) (hi lo v hi' lo' : Nat) (h : lo ≤ hi) (h' : hi' < lo ∨ hi < lo') (h32 : hi' < 32) :
    bitsOf (setBits w hi lo v) hi' lo' = bitsOf w hi' lo' := by
  apply Nat.eq_of_testBit_eq
  intro i
  unfold bitsOf setBits
  rw [BitVec.toNat_ofNat, testBit_bitsNat, testBit_bitsNat, Nat.testBit_mod_two_pow, testBit_setNat _ _ _ _ _ h]
  by_cases hi1 : i < hi' + 1 - lo'
  · have h1 : ¬ (lo ≤ lo' + i ∧ lo' + i ≤ hi) := by omega
    have h2 : lo' + i < 32 := by omega
    simp [hi1, h1, h2]
  · simp [hi1]

/-! ## The register store -/

@[simp] theorem Store.find_insert_same (a : Nat) (v : Word) (s : Store) : Store.find a (Store.insert a v s) = some v := by
  induction s with
  | nil => simp [Store.insert, Store.find]
  | cons p rest ih =>
    obtain ⟨b, w⟩ := p
    unfold Store.insert
    split
    · simp [Store.find]
    · split
      · simp [Store.find]
      · simp_all [Store.find]

theorem Store.find_insert_other (a b : Nat) (v : Word) (s : Store) (h : b ≠ a) :
    Store.find b (Store.insert a v s) = Store.find b s := by
  have h' : ¬ a = b := fun e => h e.symm
  induction s with
  | nil => simp [Store.insert, Store.find, h']
  | cons p rest ih =>
    obtain ⟨c, w⟩ := p
    unfold Store.insert
    split
    · rename_i hc; subst hc; simp [Store.find, h']
    · split
      · simp [Store.find, h']
      · simp [Store.find, ih]

@[simp] theorem Store.find_drop_same (a : Nat) (s : Store) : Store.find a (Store.drop a s) = none := by
  induction s with
  | nil => rfl
  | cons p rest ih =>
    obtain ⟨b, w⟩ := p
    unfold Store.drop
    split
    · exact ih
    · simp_all [Store.find]

theorem Store.find_drop_other (a b : Nat) (s : Store) (h : b ≠ a) : Store.find b (Store.drop a s) = Store.find b s := by
  have h' : ¬ a = b := fun e => h e.symm
  induction s with
  | nil => rfl
  | cons p rest ih =>
    obtain ⟨c, w⟩ := p
    unfold Store.drop
    split
    · rename_i hc; subst hc; simp [Store.find, h', ih]
    · simp [Store.find, ih]

/-! ## Registers in force -/

/-- A register word that was written reads back, and every other word reads as before. -/
@[simp] theorem Dev.word_setWord (d : Dev) (a : Nat) (v : Word) (b : Nat) :
    (d.setWord a v).word b = if b = a then v else d.word b := by
  unfold Dev.word Dev.setWord Store.set
  by_cases h : b = a
  · subst h
    by_cases hv : v = resetWord d.build d.role b <;> simp [hv]
  · by_cases hv : v = resetWord d.build d.role a <;>
      simp [hv, h, Store.find_drop_other _ _ _ h, Store.find_insert_other _ _ _ _ h]

/-- The word of a register after one of its fields, or a field of another register, is replaced. -/
theorem Dev.word_put (d : Dev) (f : Fld) (v a : Nat) :
    (d.put f v).word a = if a = f.addr then setBits (d.word f.addr) f.hi f.lo v else d.word a := by
  unfold Dev.put; rw [Dev.word_setWord]

/-- A register that a field does not lie in reads as before. -/
theorem Dev.word_put_other (d : Dev) (f : Fld) (v a : Nat) (h : a ≠ f.addr) : (d.put f v).word a = d.word a := by
  rw [Dev.word_put, if_neg h]

/-- A field of the register map: its bits lie in a word. -/
def Fld.wf (f : Fld) : Bool := decide (f.lo ≤ f.hi) && decide (f.hi < 32)

/-- Two fields share no bit. -/
def Fld.apart (f g : Fld) : Bool := decide (f.addr ≠ g.addr) || decide (g.hi < f.lo) || decide (f.hi < g.lo)

/-- A field that was written reads as the value, cut to its width. -/
theorem Dev.get_put_same (d : Dev) (f : Fld) (v : Nat) (h : f.wf = true) :
    (d.put f v).get f = v % 2 ^ (f.hi + 1 - f.lo) := by
  simp only [Fld.wf, Bool.and_eq_true, decide_eq_true_eq] at h
  unfold Dev.get
  rw [Dev.word_put, if_pos rfl, bitsOf_setBits _ _ _ _ h.1 h.2]

/-- A field apart from the one that was written reads as before. -/
theorem Dev.get_put_apart (d : Dev) (f g : Fld) (v : Nat) (hf : f.wf = true) (hg : g.wf = true) (h : f.apart g = true) :
    (d.put f v).get g = d.get g := by
  simp only [Fld.wf, Fld.apart, Bool.and_eq_true, Bool.or_eq_true, decide_eq_true_eq] at hf hg h
  unfold Dev.get
  by_cases ha : g.addr = f.addr
  · rw [Dev.word_put, if_pos ha, bitsOf_setBits_apart _ _ _ _ _ _ hf.1 _ hg.2, ← ha]
    rcases h with (h | h) | h
    · exact absurd ha.symm h
    · exact .inl h
    · exact .inr h
  · rw [Dev.word_put_other _ _ _ _ ha]

theorem Dev.get_lt (d : Dev) (f : Fld) : d.get f < 2 ^ (f.hi + 1 - f.lo) := bitsNat_lt _ _ _

theorem Dev.bit_put_same (d : Dev) (f : Fld) (v : Nat) (h : f.wf = true) :
    (d.put f v).bit f = decide (v % 2 ^ (f.hi + 1 - f.lo) ≠ 0) := by
  unfold Dev.bit; rw [Dev.get_put_same _ _ _ h]

theorem Dev.bit_put_apart (d : Dev) (f g : Fld) (v : Nat) (hf : f.wf = true) (hg : g.wf = true) (h : f.apart g = true) :
    (d.put f v).bit g = d.bit g := by
  unfold Dev.bit; rw [Dev.get_put_apart _ _ _ _ hf hg h]

/-- A field of one bit is 0 or 1. -/
theorem Dev.get_one_bit (d : Dev) (f : Fld) (h : f.hi = f.lo) : d.get f = if d.bit f then 1 else 0 := by
  have := d.get_lt f
  rw [h, Nat.add_sub_cancel_left] at this
  unfold Dev.bit
  by_cases h0 : d.get f = 0
  · simp [h0]
  · simp [h0]; omega

/-! ## The canonical form -/

/-- Every address listed lies above a bound. -/
def Store.above (a : Nat) (s : Store) : Prop := ∀ p ∈ s, a < p.1

theorem Store.wf_cons (rst : Nat → Word) (a : Nat) (w : Word) (s : Store) :
    Store.wf rst ((a, w) :: s) = true ↔ w ≠ rst a ∧ Store.above a s ∧ Store.wf rst s = true := by
  induction s generalizing a w with
  | nil => simp [Store.wf, Store.above]
  | cons p rest ih =>
    obtain ⟨b, v⟩ := p
    simp only [Store.wf, Bool.and_eq_true, decide_eq_true_eq]
    constructor
    · rintro ⟨⟨h1, h2⟩, h3⟩
      refine ⟨h1, ?_, h3⟩
      intro q hq
      rcases List.mem_cons.mp hq with rfl | hq
      · exact h2
      · exact lt_trans h2 (((ih b v).mp h3).2.1 q hq)
    · rintro ⟨h1, h2, h3⟩
      exact ⟨⟨h1, h2 (b, v) (by simp)⟩, h3⟩

theorem Store.mem_insert (a : Nat) (v : Word) (s : Store) (p : Nat × Word) (h : p ∈ Store.insert a v s) :
    p = (a, v) ∨ p ∈ s := by
  induction s with
  | nil => simpa [Store.insert] using h
  | cons q rest ih =>
    obtain ⟨b, w⟩ := q
    unfold Store.insert at h
    split at h
    · simp only [List.mem_cons] at h ⊢; tauto
    · split at h
      · simpa using h
      · simp only [List.mem_cons] at h ⊢
        rcases h with h | h
        · tauto
        · rcases ih h with h | h <;> tauto

theorem Store.mem_drop (a : Nat) (s : Store) (p : Nat × Word) (h : p ∈ Store.drop a s) : p ∈ s := by
  induction s with
  | nil => simp [Store.drop] at h
  | cons q rest ih =>
    obtain ⟨b, w⟩ := q
    unfold Store.drop at h
    split at h
    · exact List.mem_cons_of_mem _ (ih h)
    · simp only [List.mem_cons] at h ⊢
      rcases h with h | h
      · exact .inl h
      · exact .inr (ih h)

theorem Store.wf_drop (rst : Nat → Word) (a : Nat) (s : Store) (h : Store.wf rst s = true) :
    Store.wf rst (Store.drop a s) = true := by
  induction s with
  | nil => rfl
  | cons q rest ih =>
    obtain ⟨b, w⟩ := q
    obtain ⟨h1, h2, h3⟩ := (Store.wf_cons rst b w rest).mp h
    unfold Store.drop
    split
    · exact ih h3
    · exact (Store.wf_cons rst b w _).mpr ⟨h1, fun p hp => h2 p (Store.mem_drop a rest p hp), ih h3⟩

theorem Store.wf_insert (rst : Nat → Word) (a : Nat) (v : Word) (s : Store) (hv : v ≠ rst a) (h : Store.wf rst s = true) :
    Store.wf rst (Store.insert a v s) = true := by
  induction s with
  | nil => simp [Store.insert, Store.wf, hv]
  | cons q rest ih =>
    obtain ⟨b, w⟩ := q
    obtain ⟨h1, h2, h3⟩ := (Store.wf_cons rst b w rest).mp h
    unfold Store.insert
    split
    · rename_i hb; subst hb
      exact (Store.wf_cons rst _ v rest).mpr ⟨hv, h2, h3⟩
    · split
      · rename_i hb hab
        refine (Store.wf_cons rst a v _).mpr ⟨hv, ?_, h⟩
        intro p hp
        rcases List.mem_cons.mp hp with rfl | hp
        · exact hab
        · exact lt_trans hab (h2 p hp)
      · rename_i hb hab
        refine (Store.wf_cons rst b w _).mpr ⟨h1, ?_, ih h3⟩
        intro p hp
        rcases Store.mem_insert a v rest p hp with rfl | hp
        · show b < a
          omega
        · exact h2 p hp

/-- Writing a word keeps the canonical form of a store. -/
theorem Store.wf_set (rst : Nat → Word) (a : Nat) (v : Word) (s : Store) (h : Store.wf rst s = true) :
    Store.wf rst (Store.set (rst a) a v s) = true := by
  unfold Store.set
  split
  · exact Store.wf_drop rst a s h
  · exact Store.wf_insert rst a v s (by assumption) h

/-- The registers of a device in canonical form. -/
def Dev.regsWf (d : Dev) : Bool := Store.wf (resetWord d.build d.role) d.regs

theorem Dev.regsWf_setWord (d : Dev) (a : Nat) (v : Word) (h : d.regsWf = true) : (d.setWord a v).regsWf = true :=
  Store.wf_set (resetWord d.build d.role) a v d.regs h

theorem Dev.regsWf_put (d : Dev) (f : Fld) (v : Nat) (h : d.regsWf = true) : (d.put f v).regsWf = true :=
  Dev.regsWf_setWord d _ _ h

/-! ## A device that differs in what is no register -/

theorem Dev.word_mk (d : Dev) {b : Build} {r : Role} {x0 x1 x2 x3 x4 x5 x6 x7 x8 x9 x10 x11 x12 x13 x14 x15 x16 x17 x18 x19 x20 x21 x22 x23 x24 x25 x26 x27 x28 x29 x30 x31 x32} (a : Nat)
    (hb : d.build = b) (hr : d.role = r) :
    (Dev.mk b r d.regs x0 x1 x2 x3 x4 x5 x6 x7 x8 x9 x10 x11 x12 x13 x14 x15 x16 x17 x18 x19 x20 x21 x22 x23 x24 x25 x26 x27 x28 x29 x30 x31 x32).word a
      = d.word a := by subst hb hr; rfl

theorem Dev.get_mk (d : Dev) {b : Build} {r : Role} {x0 x1 x2 x3 x4 x5 x6 x7 x8 x9 x10 x11 x12 x13 x14 x15 x16 x17 x18 x19 x20 x21 x22 x23 x24 x25 x26 x27 x28 x29 x30 x31 x32} (f : Fld)
    (hb : d.build = b) (hr : d.role = r) :
    (Dev.mk b r d.regs x0 x1 x2 x3 x4 x5 x6 x7 x8 x9 x10 x11 x12 x13 x14 x15 x16 x17 x18 x19 x20 x21 x22 x23 x24 x25 x26 x27 x28 x29 x30 x31 x32).get f
      = d.get f := by subst hb hr; rfl

theorem Dev.bit_mk (d : Dev) {b : Build} {r : Role} {x0 x1 x2 x3 x4 x5 x6 x7 x8 x9 x10 x11 x12 x13 x14 x15 x16 x17 x18 x19 x20 x21 x22 x23 x24 x25 x26 x27 x28 x29 x30 x31 x32} (f : Fld)
    (hb : d.build = b) (hr : d.role = r) :
    (Dev.mk b r d.regs x0 x1 x2 x3 x4 x5 x6 x7 x8 x9 x10 x11 x12 x13 x14 x15 x16 x17 x18 x19 x20 x21 x22 x23 x24 x25 x26 x27 x28 x29 x30 x31 x32).bit f
      = d.bit f := by subst hb hr; rfl

end Sys2Proof.Machine
end

