-- ==== Sys2Proof/Laws/Events.lean ====
section
/-!
SUPPORT. What raising an event can change: what was sent, the frames that wait at the ports, the kept events and the
head's event queue, the rings, the history log, and four registers that count them. Everything else stays.
-/

namespace Sys2Proof.Machine

/-- The registers that sending and recording change: SPN_EVQ, SPN_CREDN, SPN_CREDS and RCD_HWP. -/
def sendRegs : List Nat := [0x1402C, 0x14058, 0x1405C, 0x800008]

/-- What sending a frame or recording an event can change of the device, and no more. -/
structure Dev.Sent (d e : Dev) : Prop where
  rest : e = { d with regs := e.regs, out := e.out, spn := e.spn, hd := e.hd, hif := e.hif, burl := e.burl }
  spn  : e.spn = { d.spn with north := e.spn.north, south := e.spn.south, evq := e.spn.evq, evSent := e.spn.evSent
                              evLost := e.spn.evLost, full2 := e.spn.full2 }
  hd   : e.hd = { d.hd with eseq := e.hd.eseq }
  hif  : e.hif = { d.hif with rings := e.hif.rings, evq := e.hif.evq, evFullDue := e.hif.evFullDue }
  burl : e.burl = { d.burl with hist := e.burl.hist }
  out  : ∃ l, e.out = l ++ d.out
  word : ∀ a, a ∉ sendRegs → e.word a = d.word a
  evq  : d.spn.evq <+: e.spn.evq

theorem Dev.Sent.refl (d : Dev) : Dev.Sent d d := ⟨rfl, rfl, rfl, rfl, rfl, ⟨[], rfl⟩, fun _ _ => rfl, List.prefix_rfl⟩

theorem Dev.Sent.trans {d e f : Dev} (h : Dev.Sent d e) (g : Dev.Sent e f) : Dev.Sent d f where
  rest := by rw [g.rest, h.rest]
  spn := by rw [g.spn, h.spn]
  hd := by rw [g.hd, h.hd]
  hif := by rw [g.hif, h.hif]
  burl := by rw [g.burl, h.burl]
  out := by
    obtain ⟨l, hl⟩ := h.out; obtain ⟨m, hm⟩ := g.out
    exact ⟨m ++ l, by rw [hm, hl, List.append_assoc]⟩
  word := fun a ha => (g.word a ha).trans (h.word a ha)
  evq := h.evq.trans g.evq

/-- A field outside the registers that sending changes reads as before. -/
theorem Dev.Sent.get {d e : Dev} (h : Dev.Sent d e) (f : Fld) (hf : f.addr ∉ sendRegs) : e.get f = d.get f := by
  unfold Dev.get; rw [h.word _ hf]

theorem Dev.Sent.bit {d e : Dev} (h : Dev.Sent d e) (f : Fld) (hf : f.addr ∉ sendRegs) : e.bit f = d.bit f := by
  unfold Dev.bit; rw [h.get f hf]

theorem Dev.Sent.put (d : Dev) (f : Fld) (v : Nat) (hf : f.addr ∈ sendRegs) : Dev.Sent d (d.put f v) where
  rest := rfl
  spn := rfl
  hd := rfl
  hif := rfl
  burl := rfl
  out := ⟨[], rfl⟩
  word := fun a ha => Dev.word_put_other d f v a (fun e => ha (e ▸ hf))
  evq := List.prefix_rfl

theorem Dev.Sent.emit (d : Dev) (o : Output) : Dev.Sent d (d.emit o) :=
  ⟨rfl, rfl, rfl, rfl, rfl, ⟨[o], rfl⟩, fun _ _ => rfl, List.prefix_rfl⟩

theorem Dev.Sent.setPort (d : Dev) (p : Port) (s : PortSt) : Dev.Sent d (d.setPort p s) := by
  cases p <;> exact ⟨rfl, rfl, rfl, rfl, rfl, ⟨[], rfl⟩, fun _ _ => rfl, List.prefix_rfl⟩

theorem Dev.Sent.setRing (d : Dev) (r : Nat) (s : RingSt) : Dev.Sent d (d.setRing r s) :=
  ⟨rfl, rfl, rfl, rfl, rfl, ⟨[], rfl⟩, fun _ _ => rfl, List.prefix_rfl⟩

theorem Dev.Sent.creditDue (d : Dev) (p : Port) : Dev.Sent d (d.creditDue p) := by
  unfold Dev.creditDue Dev.sendCredit
  split
  · exact (Dev.Sent.setPort ..).trans (Dev.Sent.emit ..)
  · exact Dev.Sent.refl _

theorem Dev.Sent.freeUnits (d : Dev) (p : Port) (tc n : Nat) : Dev.Sent d (d.freeUnits p tc n) := by
  unfold Dev.freeUnits
  split <;> first | exact (Dev.Sent.setPort ..).trans (Dev.Sent.creditDue ..) | exact Dev.Sent.refl _

theorem SPN_CRED_mem (p : Port) (tc : Nat) : (SPN_CRED p tc).addr ∈ sendRegs := by
  unfold SPN_CRED
  split <;> decide

theorem Dev.Sent.leave (d : Dev) (p : Port) (i : TxItem) : Dev.Sent d (d.leave p i) := by
  unfold Dev.leave
  have h1 := Dev.Sent.emit d (.frame p i.body)
  have h2 : Dev.Sent d (if i.tc = 0 || i.body.linkKind then d.emit (.frame p i.body)
      else (d.emit (.frame p i.body)).put (SPN_CRED p i.tc) ((d.emit (.frame p i.body)).get (SPN_CRED p i.tc) - i.units)) := by
    split
    · exact h1
    · exact h1.trans (Dev.Sent.put _ _ _ (SPN_CRED_mem p i.tc))
  simp only []
  cases i.src with
  | none => exact h2
  | some q => exact h2.trans (Dev.Sent.freeUnits ..)

theorem Dev.Sent.drainPort (n : Nat) (d : Dev) (p : Port) : Dev.Sent d (Dev.drainPort n d p) := by
  induction n generalizing d with
  | zero => exact Dev.Sent.refl d
  | succ n ih =>
    simp only [Dev.drainPort]
    split
    · exact ((Dev.Sent.setPort ..).trans (Dev.Sent.leave ..)).trans (ih _)
    · exact Dev.Sent.refl d

/-- Everything handing a frame to a port can do. -/
theorem Dev.Sent.portSend (d : Dev) (p : Port) (src : Option Port) (b : Body) : Dev.Sent d (d.portSend p src b) := by
  unfold Dev.portSend
  simp only []
  split
  · split
    · split
      · exact Dev.Sent.refl d
      · exact Dev.Sent.freeUnits ..
    · exact Dev.Sent.refl d
  · exact (Dev.Sent.setPort ..).trans (Dev.Sent.drainPort ..)

theorem Dev.Sent.each {α : Type} (d : Dev) (xs : List α) (f : Dev → α → Dev) (h : ∀ d x, Dev.Sent d (f d x)) :
    Dev.Sent d (d.each xs f) := by
  unfold Dev.each
  induction xs generalizing d with
  | nil => exact Dev.Sent.refl d
  | cons x rest ih => exact (h d x).trans (ih _)

theorem Dev.Sent.ringSignal (d : Dev) (r n : Nat) : Dev.Sent d (d.ringSignal r n) := by
  unfold Dev.ringSignal
  simp only []
  split
  · exact (Dev.Sent.setRing ..).trans (Dev.Sent.emit ..)
  · exact Dev.Sent.setRing ..

theorem Dev.Sent.ringWrite (d : Dev) (r n : Nat) (bs : List Byte) : Dev.Sent d (d.ringWrite r n bs) := by
  unfold Dev.ringWrite Dev.writeBack
  simp only []
  exact (((Dev.Sent.emit ..).trans (Dev.Sent.setRing ..)).trans (Dev.Sent.emit ..)).trans (Dev.Sent.ringSignal ..)

theorem Dev.Sent.hostEvent (d : Dev) (e : EventRec) : Dev.Sent d (d.hostEvent e) := by
  unfold Dev.hostEvent
  split
  · exact Dev.Sent.ringWrite ..
  · split
    · exact ⟨rfl, rfl, rfl, rfl, rfl, ⟨[], rfl⟩, fun _ _ => rfl, List.prefix_rfl⟩
    · exact Dev.Sent.refl d

theorem Dev.Sent.histAppend (d : Dev) (bs : List Byte) : Dev.Sent d (d.histAppend bs) := by
  have h (e : Dev) (v : Nat) : Dev.Sent e (e.put RCD_HWP v) := Dev.Sent.put e RCD_HWP v (by decide)
  have hb (x : List HistRec) : Dev.Sent d { d with burl := { d.burl with hist := x } } :=
    ⟨rfl, rfl, rfl, rfl, rfl, ⟨[], rfl⟩, fun _ _ => rfl, List.prefix_rfl⟩
  unfold Dev.histAppend
  split
  · exact (hb _).trans (h _ _)
  · exact Dev.Sent.refl d

theorem Dev.Sent.sendEvents (d : Dev) : Dev.Sent d d.sendEvents := by
  unfold Dev.sendEvents
  split
  · have h2 (e : Dev) (n : Nat) : Dev.Sent e { e with spn := { e.spn with evSent := n } } :=
      ⟨rfl, rfl, rfl, rfl, rfl, ⟨[], rfl⟩, fun _ _ => rfl, List.prefix_rfl⟩
    refine (Dev.Sent.each d _ _ ?_).trans (h2 _ _)
    rintro e ⟨x, i⟩
    have h3 (e : Dev) : Dev.Sent e { e with spn := { e.spn with full2 := false } } :=
      ⟨rfl, rfl, rfl, rfl, rfl, ⟨[], rfl⟩, fun _ _ => rfl, List.prefix_rfl⟩
    exact (Dev.Sent.portSend ..).trans (h3 _)
  · exact Dev.Sent.refl d

theorem Dev.Sent.keepEvent (d : Dev) (e : EventRec) : Dev.Sent d (d.keepEvent e) := by
  unfold Dev.keepEvent
  split
  · have h2 : Dev.Sent d { d with spn := { d.spn with evq := d.spn.evq ++ [e] } } :=
      ⟨rfl, rfl, rfl, rfl, rfl, ⟨[], rfl⟩, fun _ _ => rfl, List.prefix_append _ _⟩
    exact (h2.trans (Dev.Sent.put _ SPN_EVQ_QUEUED _ (by decide))).trans (Dev.Sent.sendEvents _)
  · have h2 (n : Nat) : Dev.Sent d { d with spn := { d.spn with evLost := n } } :=
      ⟨rfl, rfl, rfl, rfl, rfl, ⟨[], rfl⟩, fun _ _ => rfl, List.prefix_rfl⟩
    exact (h2 _).trans (Dev.Sent.put _ SPN_EVQ_DROP _ (by decide))

theorem Dev.Sent.eseq (d : Dev) (n : Nat) : Dev.Sent d { d with hd := { d.hd with eseq := n } } :=
  ⟨rfl, rfl, rfl, rfl, rfl, ⟨[], rfl⟩, fun _ _ => rfl, List.prefix_rfl⟩

/-- Everything raising an event can do (R413, R357, R486). -/
theorem Dev.Sent.raise (d : Dev) (code src : Nat) (items : List Nat) : Dev.Sent d (d.raise code src items) := by
  unfold Dev.raise
  split
  · exact ((Dev.Sent.eseq ..).trans (Dev.Sent.histAppend ..)).trans (Dev.Sent.hostEvent ..)
  · simp only []
    split
    · exact Dev.Sent.histAppend ..
    · exact (Dev.Sent.histAppend ..).trans (Dev.Sent.keepEvent ..)

theorem Dev.Sent.raiseAbout (d : Dev) (pos code src : Nat) (items : List Nat) :
    Dev.Sent d (d.raiseAbout pos code src items) := by
  unfold Dev.raiseAbout
  exact ((Dev.Sent.eseq ..).trans (Dev.Sent.histAppend ..)).trans (Dev.Sent.hostEvent ..)

/-! ## The kept events of a member -/

theorem Dev.creditDue_evq (d : Dev) (p : Port) : (d.creditDue p).spn.evq = d.spn.evq := by
  unfold Dev.creditDue Dev.sendCredit
  split
  · cases p <;> rfl
  · rfl

theorem Dev.freeUnits_evq (d : Dev) (p : Port) (tc n : Nat) : (d.freeUnits p tc n).spn.evq = d.spn.evq := by
  unfold Dev.freeUnits
  split
  all_goals first | rfl | (refine (Dev.creditDue_evq ..).trans ?_; cases p <;> rfl)

theorem Dev.leave_evq (d : Dev) (p : Port) (i : TxItem) : (d.leave p i).spn.evq = d.spn.evq := by
  unfold Dev.leave
  by_cases hc : (decide (i.tc = 0) || i.body.linkKind) = true <;> simp only [hc] <;>
    cases i.src <;> simp [Dev.freeUnits_evq]

theorem Dev.drainPort_evq (n : Nat) (d : Dev) (p : Port) : (Dev.drainPort n d p).spn.evq = d.spn.evq := by
  induction n generalizing d with
  | zero => rfl
  | succ n ih =>
    simp only [Dev.drainPort]
    split
    · rw [ih, Dev.leave_evq]; cases p <;> rfl
    · rfl

theorem Dev.portSend_evq (d : Dev) (p : Port) (src : Option Port) (b : Body) :
    (d.portSend p src b).spn.evq = d.spn.evq := by
  unfold Dev.portSend
  simp only []
  split
  · split
    · split
      · rfl
      · exact Dev.freeUnits_evq ..
    · rfl
  · unfold Dev.drain; rw [Dev.drainPort_evq]; cases p <;> rfl

theorem Dev.each_evq {α : Type} (d : Dev) (xs : List α) (f : Dev → α → Dev) (h : ∀ d x, (f d x).spn.evq = d.spn.evq) :
    (d.each xs f).spn.evq = d.spn.evq := by
  unfold Dev.each
  induction xs generalizing d with
  | nil => rfl
  | cons x rest ih => exact (ih _).trans (h d x)

theorem Dev.sendEvents_evq (d : Dev) : d.sendEvents.spn.evq = d.spn.evq := by
  unfold Dev.sendEvents
  split
  · exact Dev.each_evq _ _ _ (fun e x => Dev.portSend_evq ..)
  · rfl

theorem Dev.histAppend_spn (d : Dev) (bs : List Byte) : (d.histAppend bs).spn = d.spn := by
  unfold Dev.histAppend; split <;> rfl

theorem Dev.inLegacy_sent {d e : Dev} (h : Dev.Sent d e) : e.inLegacy = d.inLegacy := by
  unfold Dev.inLegacy Dev.cur
  rw [h.get PWR_STAT_CUR (by decide), h.rest]

/-- A member that keeps fewer than 128 events, outside LEGACY, keeps the one that is raised as its newest (R357). -/
theorem Dev.raise_kept (d : Dev) (code src : Nat) (items : List Nat) (hr : d.role = .member) (hl : d.inLegacy = false)
    (hn : d.spn.evq.length < 128) :
    (d.raise code src items).spn.evq = d.spn.evq
      ++ [d.mkEvent code src d.pos false ((d.spn.evBase + d.spn.evq.length) % 2 ^ 32) items] := by
  have hs := Dev.inLegacy_sent (Dev.Sent.histAppend d
    (d.mkEvent code src d.pos false ((d.spn.evBase + d.spn.evq.length) % 2 ^ 32) items).bytes)
  unfold Dev.raise
  rw [hr]
  simp only [hs, hl, Bool.false_eq_true, if_false]
  unfold Dev.keepEvent
  rw [Dev.histAppend_spn, if_pos hn, Dev.sendEvents_evq]
  rfl

/-- An event that a member keeps stays through whatever only adds to its kept events. -/
theorem Dev.raise_prefix (d e : Dev) (code src : Nat) (items : List Nat) (hr : d.role = .member)
    (hl : d.inLegacy = false) (hn : d.spn.evq.length < 128) (h : (d.raise code src items).spn.evq <+: e.spn.evq) :
    ∃ more, e.spn.evq = d.spn.evq ++ more ∧ ∃ r ∈ more, r.code = code ∧ r.items = items := by
  rw [Dev.raise_kept d code src items hr hl hn] at h
  obtain ⟨l, hm⟩ := h
  exact ⟨d.mkEvent code src d.pos false ((d.spn.evBase + d.spn.evq.length) % 2 ^ 32) items :: l, by rw [← hm]; simp,
    _, List.mem_cons_self .., rfl, rfl⟩

end Sys2Proof.Machine
end

