-- ==== Sys2Proof/Laws/Lift.lean ====
section
/-!
SUPPORT. What every command has in common: it answers a next state, the queue stays, no request is left over, and no
fuse is less burned than before.
-/

namespace Sys2Proof.Machine

/-! ## Requests -/

@[simp] theorem Dev.takeAsks_asks (n : Nat) (d : Dev) : (Dev.takeAsks n d).asks = [] := by
  induction n generalizing d with
  | zero => rfl
  | succ n ih =>
    unfold Dev.takeAsks
    split
    · assumption
    · exact ih _

/-- With nothing asked, nothing is done. -/
theorem Dev.takeAsks_nil (n : Nat) (d : Dev) (h : d.asks = []) : Dev.takeAsks n d = d := by
  cases n with
  | zero => unfold Dev.takeAsks; rw [← h]
  | succ n => unfold Dev.takeAsks; rw [h]

@[simp] theorem Dev.after_asks (f : Dev → Dev) (d : Dev) : (d.after f).asks = [] := by
  unfold Dev.after; simp

@[simp] theorem Dev.after_build (f : Dev → Dev) (d : Dev) : (d.after f).build = d.build := rfl

/-! ## Fuses -/

theorem keepCounts_length (old new : List Nat) : (keepCounts old new).length = old.length := by
  simp [keepCounts]

theorem keepCounts_get (old new : List Nat) (k : Nat) :
    (keepCounts old new)[k]? = (old[k]?).map (fun x => max x ((new[k]?).getD 0)) := by
  unfold keepCounts
  rw [List.getElem?_map, List.getElem?_zipIdx]
  cases old[k]? <;> simp

theorem keepCounts_ge (old new : List Nat) (k : Nat) : (old[k]?).getD 0 ≤ ((keepCounts old new)[k]?).getD 0 := by
  rw [keepCounts_get]
  cases old[k]? <;> simp

theorem keepCounts_self (old : List Nat) : keepCounts old old = old := by
  apply List.ext_getElem?
  intro k
  rw [keepCounts_get]
  cases old[k]? <;> simp

theorem Fuses.kept_self (f : Fuses) : f.kept f = f := by
  unfold Fuses.kept; simp [keepCounts_self]

theorem Fuses.le_kept (f g : Fuses) : f.le (f.kept g) :=
  ⟨keepCounts_ge _ _, le_max_left _ _, keepCounts_ge _ _, keepCounts_ge _ _⟩

theorem Dev.after_fuses (f : Dev → Dev) (d : Dev) : d.fz.le (d.after f).fz := Fuses.le_kept _ _

/-! ## Commands -/

/-- Everything the frame of a command guarantees. -/
theorem State.lift_spec (s : State) (f : Dev → Dev) :
    ∃ t, s.lift f = .next t ∧ t.pending = s.pending ∧ t.dev.build = s.dev.build ∧ t.dev.role = s.dev.role
      ∧ t.dev.settled ∧ s.dev.fz.le t.dev.fz :=
  ⟨_, rfl, rfl, rfl, rfl, Dev.after_asks _ _, Dev.after_fuses _ _⟩

/-- The same for a command that may start the part from power-on, where the role is sampled. -/
theorem State.liftBoot_spec (s : State) (f : Dev → Dev) :
    ∃ t, s.liftBoot f = .next t ∧ t.pending = s.pending ∧ t.dev.build = s.dev.build ∧ t.dev.settled
      ∧ s.dev.fz.le t.dev.fz :=
  ⟨_, rfl, rfl, rfl, Dev.after_asks _ _, Dev.after_fuses _ _⟩

/-- A command whose effect asks for nothing and leaves build, role and fuses alone is that effect. -/
theorem State.lift_plain (s : State) (f : Dev → Dev) (ha : (f s.dev).asks = []) (hb : (f s.dev).build = s.dev.build)
    (hr : (f s.dev).role = s.dev.role) (hz : (f s.dev).fz = s.dev.fz) :
    s.lift f = .next { s with dev := f s.dev } := by
  unfold State.lift Dev.after
  simp only [Dev.takeAsks_nil _ _ ha, hz, Fuses.kept_self, ← hb, ← hr]
  rw [← hz]

end Sys2Proof.Machine
end

