-- ==== Sys2Proof/Laws/Modes.lean ====
section
/-!
SUPPORT. What the budget rule can do: it changes the fields of PWR_STAT and the transition in progress, and may raise
MODE_CHANGED. A command at a register of a device that is awake has its own effect, and then HOLD counts anew.
-/

namespace Sys2Proof.Machine

/-- The registers that the budget rule and an event can change: PWR_STAT with those of `sendRegs`. -/
def moveRegs : List Nat := 0x4008 :: sendRegs

/-- What the budget rule can change of the device, and no more. -/
structure Dev.Moved (d e : Dev) : Prop where
  rest : e = { d with regs := e.regs, out := e.out, spn := e.spn, hd := e.hd, hif := e.hif, burl := e.burl, pw := e.pw }
  spn  : e.spn = { d.spn with north := e.spn.north, south := e.spn.south, evq := e.spn.evq, evSent := e.spn.evSent
                              evLost := e.spn.evLost, full2 := e.spn.full2 }
  hd   : e.hd = { d.hd with eseq := e.hd.eseq }
  hif  : e.hif = { d.hif with rings := e.hif.rings, evq := e.hif.evq, evFullDue := e.hif.evFullDue }
  burl : e.burl = { d.burl with hist := e.burl.hist }
  pw   : e.pw = { d.pw with trans := e.pw.trans, later := e.pw.later, hold := e.pw.hold, iicWait := e.pw.iicWait }
  out  : ∃ l, e.out = l ++ d.out
  word : ∀ a, a ∉ moveRegs → e.word a = d.word a
  refused : e.get PWR_STAT_REFUSED = d.get PWR_STAT_REFUSED
  calbank : e.get PWR_STAT_CALBANK = d.get PWR_STAT_CALBANK
  evq : d.spn.evq <+: e.spn.evq

theorem Dev.Moved.refl (d : Dev) : Dev.Moved d d :=
  ⟨rfl, rfl, rfl, rfl, rfl, rfl, ⟨[], rfl⟩, fun _ _ => rfl, rfl, rfl, List.prefix_rfl⟩

theorem Dev.Moved.trans {d e f : Dev} (h : Dev.Moved d e) (g : Dev.Moved e f) : Dev.Moved d f where
  rest := by rw [g.rest, h.rest]
  spn := by rw [g.spn, h.spn]
  hd := by rw [g.hd, h.hd]
  hif := by rw [g.hif, h.hif]
  burl := by rw [g.burl, h.burl]
  pw := by rw [g.pw, h.pw]
  out := by
    obtain ⟨l, hl⟩ := h.out; obtain ⟨m, hm⟩ := g.out
    exact ⟨m ++ l, by rw [hm, hl, List.append_assoc]⟩
  word := fun a ha => (g.word a ha).trans (h.word a ha)
  refused := g.refused.trans h.refused
  calbank := g.calbank.trans h.calbank
  evq := h.evq.trans g.evq

theorem Dev.Sent.moved {d e : Dev} (h : Dev.Sent d e) : Dev.Moved d e where
  rest := by have := h.rest; rw [this]
  spn := h.spn
  hd := h.hd
  hif := h.hif
  burl := h.burl
  pw := by rw [h.rest]
  out := h.out
  word := fun a ha => h.word a (fun hm => ha (List.mem_cons_of_mem _ hm))
  refused := h.get _ (by decide)
  calbank := h.get _ (by decide)
  evq := h.evq

theorem Dev.Moved.get {d e : Dev} (h : Dev.Moved d e) (f : Fld) (hf : f.addr ∉ moveRegs) : e.get f = d.get f := by
  unfold Dev.get; rw [h.word _ hf]

theorem Dev.Moved.bit {d e : Dev} (h : Dev.Moved d e) (f : Fld) (hf : f.addr ∉ moveRegs) : e.bit f = d.bit f := by
  unfold Dev.bit; rw [h.get f hf]

theorem Dev.Moved.put (d : Dev) (f : Fld) (v : Nat) (hf : f.addr ∈ moveRegs) (hw : f.wf = true)
    (h1 : f.apart PWR_STAT_REFUSED = true) (h2 : f.apart PWR_STAT_CALBANK = true) : Dev.Moved d (d.put f v) where
  rest := rfl
  spn := rfl
  hd := rfl
  hif := rfl
  burl := rfl
  pw := rfl
  out := ⟨[], rfl⟩
  word := fun a ha => Dev.word_put_other d f v a (fun e => ha (e ▸ hf))
  refused := Dev.get_put_apart _ _ _ _ hw (by decide) h1
  calbank := Dev.get_put_apart _ _ _ _ hw (by decide) h2
  evq := List.prefix_rfl

theorem Dev.Moved.trans' (d : Dev) (x : Option Trans) : Dev.Moved d { d with pw := { d.pw with trans := x } } :=
  ⟨rfl, rfl, rfl, rfl, rfl, rfl, ⟨[], rfl⟩, fun _ _ => rfl, rfl, rfl, List.prefix_rfl⟩

theorem Dev.Moved.later' (d : Dev) (x : Option (Nat × Nat)) : Dev.Moved d { d with pw := { d.pw with later := x } } :=
  ⟨rfl, rfl, rfl, rfl, rfl, rfl, ⟨[], rfl⟩, fun _ _ => rfl, rfl, rfl, List.prefix_rfl⟩

theorem Dev.Moved.hold' (d : Dev) (x : Bool) : Dev.Moved d { d with pw := { d.pw with hold := x } } :=
  ⟨rfl, rfl, rfl, rfl, rfl, rfl, ⟨[], rfl⟩, fun _ _ => rfl, rfl, rfl, List.prefix_rfl⟩

theorem Dev.Moved.iicWait' (d : Dev) (x : Option Nat) : Dev.Moved d { d with pw := { d.pw with iicWait := x } } :=
  ⟨rfl, rfl, rfl, rfl, rfl, rfl, ⟨[], rfl⟩, fun _ _ => rfl, rfl, rfl, List.prefix_rfl⟩

/-- Everything a change of CUR and BASE by the budget rule can do (R66). -/
theorem Dev.Moved.showMode (d : Dev) (cur base trig : Nat) : Dev.Moved d (d.showMode cur base trig) := by
  have h : Dev.Moved d ((d.put PWR_STAT_CUR cur).put PWR_STAT_BASE base) :=
    (Dev.Moved.put d PWR_STAT_CUR cur (by decide) (by decide) (by decide) (by decide)).trans (Dev.Moved.put _ PWR_STAT_BASE base (by decide) (by decide) (by decide) (by decide))
  unfold Dev.showMode
  simp only []
  split
  · exact h
  · exact h.trans (Dev.Sent.raise ..).moved

theorem Dev.Moved.startTrans (d : Dev) (goal trig : Nat) : Dev.Moved d (d.startTrans goal trig) := by
  unfold Dev.startTrans
  simp only []
  split
  · exact Dev.Moved.iicWait' ..
  · split
    · exact Dev.Moved.showMode ..
    · exact (Dev.Moved.trans' ..).trans (Dev.Moved.put _ PWR_STAT_TRANS _ (by decide) (by decide) (by decide) (by decide))

/-- Everything an evaluation of the budget rule can do (R55 to R57). -/
theorem Dev.Moved.budgetEval (d : Dev) (trig : Nat) : Dev.Moved d (d.budgetEval trig) := by
  have h := Dev.Moved.put d PWR_STAT_TARGET d.targetLevel (by decide) (by decide) (by decide) (by decide)
  unfold Dev.budgetEval
  simp only []
  refine h.trans ?_
  generalize d.put PWR_STAT_TARGET d.targetLevel = e
  split
  · exact Dev.Moved.refl _
  · exact Dev.Moved.refl _
  all_goals first
    | (split
       · exact Dev.Moved.showMode ..
       · exact Dev.Moved.refl _)
    | (split
       · split
         · exact Dev.Moved.refl _
         · exact Dev.Moved.later' ..
       · split
         · exact Dev.Moved.startTrans ..
         · split
           · exact Dev.Moved.startTrans ..
           · exact Dev.Moved.refl _)

theorem Dev.Moved.commandDone (d : Dev) : Dev.Moved d d.commandDone :=
  Dev.Moved.hold' d true

/-- The code of a mode that lies below MONITOR. -/
theorem Dev.riseForCommand_awake (d : Dev) (h : d.awake) : d.riseForCommand = d := by
  unfold Dev.riseForCommand
  rw [if_neg]
  rintro ⟨-, h2, -⟩
  have := h.2
  omega

/-- A register command at a device that is awake: its action, and then HOLD counts anew. -/
theorem Dev.command_awake (act : Dev → Dev) (d : Dev) (h : d.awake) : d.command act = (act d).commandDone := by
  unfold Dev.command
  rw [if_pos h.1, Dev.riseForCommand_awake d h]

/-- A write that starts an action, admitted at a device that is awake: the action, and then HOLD counts anew. -/
theorem Dev.actWrite_awake (f : Fld) (act : Dev → Dev) (d : Dev) (h : d.awake) (ha : d.admits f = true) :
    Dev.actWrite f act d = (act d).commandDone := by
  unfold Dev.actWrite
  rw [Dev.command_awake _ _ h]
  unfold Dev.admits at ha
  split at ha
  · cases ha
  · rename_i l hl
    rw [Bool.not_eq_true'] at ha
    simp [hl, ha]

/-- A command that acts through the write of a field that the device takes: the action, and then HOLD counts anew. -/
theorem State.lift_takes (d : Dev) (q : List Instr) (f : Fld) (act : Dev → Dev) (e : Dev) (h : d.accepts f)
    (he : act d = e) (ha : e.asks = []) (hb : e.build = d.build) (hr : e.role = d.role) (hz : e.fz = d.fz) :
    (⟨d, q⟩ : State).lift (Dev.actWrite f act) = .next ⟨e.commandDone, q⟩ := by
  have hf := Dev.actWrite_awake f act d h.1.2 h.2
  have hm := (Dev.Moved.commandDone e).rest
  rw [State.lift_plain, hf, he]
  · rw [hf, he, hm]; exact ha
  · rw [hf, he, hm]; exact hb
  · rw [hf, he, hm]; exact hr
  · rw [hf, he, hm]; exact hz

/-- A command that acts on the device directly. -/
theorem State.lift_runs (d : Dev) (q : List Instr) (f : Dev → Dev) (e : Dev)
    (he : f d = e) (ha : e.asks = []) (hb : e.build = d.build) (hr : e.role = d.role) (hz : e.fz = d.fz) :
    (⟨d, q⟩ : State).lift f = .next ⟨e, q⟩ := by
  rw [State.lift_plain, he] <;> rw [he] <;> assumption

/-- A command whose action, at a device that is awake, asks for nothing and leaves build, role and fuses alone: the
machine after it is the action, with HOLD counting anew. -/
theorem State.lift_action (s : State) (f : Dev → Dev) (act : Dev → Dev) (hf : f s.dev = (act s.dev).commandDone)
    (ha : (act s.dev).asks = []) (hb : (act s.dev).build = s.dev.build) (hr : (act s.dev).role = s.dev.role)
    (hz : (act s.dev).fz = s.dev.fz) :
    ∃ e, Dev.Moved (act s.dev) e ∧ s.lift f = .next { s with dev := e } := by
  have hm := Dev.Moved.commandDone (act s.dev)
  refine ⟨_, hm, ?_⟩
  have h := hm.rest
  rw [← hf] at h
  rw [State.lift_plain s f, hf]
  · rw [h]; exact ha
  · rw [h]; exact hb
  · rw [h]; exact hr
  · rw [h]; exact hz

/-- A member that keeps events keeps the one that is raised, through whatever only adds to the kept events. -/
theorem Dev.newEvent_raise (d x e : Dev) (code src : Nat) (items : List Nat) (hk : d.keepsEvents)
    (hq : x.spn.evq = d.spn.evq) (hr : x.role = d.role) (hf : x.saf.fromLegacy = d.saf.fromLegacy)
    (hc : x.get PWR_STAT_CUR = d.get PWR_STAT_CUR) (hp : (x.raise code src items).spn.evq <+: e.spn.evq) :
    d.newEvent e code items := by
  have hl : x.inLegacy = d.inLegacy := by unfold Dev.inLegacy Dev.cur; rw [hc, hf]
  have h := Dev.raise_prefix x e code src items (hr.trans hk.1) (hl.trans hk.2.1) (by rw [hq]; exact hk.2.2) hp
  unfold Dev.newEvent
  rw [hq] at h
  exact h

end Sys2Proof.Machine
end

