-- ==== Sys2Proof/Laws/Guard.lean ====
section
/-!
SUPPORT. What the guard logic can do when it settles after a change: trips, SAFE, DEGRADED and what they stop. It writes
the registers of `settleReg` and the hidden state of the blocks that stop, and nothing else: no setting, no stored
copy, no life-cycle state, no time.
-/

namespace Sys2Proof.Machine

/-- The registers that the settling of the guard logic, the services it stops and the budget rule can write. -/
def settleReg (a : Nat) : Bool :=
  [0x4008, 0xC020, 0x1402C, 0x14058, 0x1405C, 0x1C020, 0x2000C, 0x20050, 0x20070, 0x24024, 0x24028, 0x28018, 0x34124, 0x400040
    , 0x401018, 0x404004, 0x404008, 0x405018, 0x406000, 0x406004, 0x406010, 0x407004, 0x500040, 0x501018, 0x504004
    , 0x504008, 0x700000, 0x780000, 0x800008].contains a
  || decide (0x28400 ≤ a ∧ a < 0x28490) || decide (0x405100 ≤ a ∧ a < 0x405194)

/-- What the settling of the guard logic can change of the device, and no more. -/
structure Dev.Kin (d e : Dev) : Prop where
  rest : e = { d with
    regs := e.regs, out := e.out, draws := e.draws, pw := e.pw, spn := e.spn, hd := e.hd, hif := e.hif, burl := e.burl
    win := e.win, tb := e.tb, auxL := e.auxL, auxU := e.auxU, owd := e.owd, bal := e.bal, calL := e.calL, calU := e.calU
    imp := e.imp, bdl := e.bdl, iic := e.iic, bzlL := e.bzlL, bzlU := e.bzlU, saf := e.saf }
  pw   : e.pw = { d.pw with trans := e.pw.trans, later := e.pw.later, hold := e.pw.hold, iicWait := e.pw.iicWait }
  spn  : e.spn = { d.spn with
    north := e.spn.north, south := e.spn.south, evq := e.spn.evq, evSent := e.spn.evSent, evLost := e.spn.evLost
    full2 := e.spn.full2, aliveOut := e.spn.aliveOut }
  hd   : e.hd = { d.hd with eseq := e.hd.eseq }
  hif  : e.hif = { d.hif with rings := e.hif.rings, evq := e.hif.evq, evFullDue := e.hif.evFullDue }
  burl : e.burl = { d.burl with hist := e.burl.hist }
  bzlL : e.bzlL = { d.bzlL with ttrip := e.bzlL.ttrip }
  bzlU : e.bzlU = { d.bzlU with ttrip := e.bzlU.ttrip }
  saf  : e.saf = { d.saf with
    faults := e.saf.faults, two := e.saf.two, grace := e.saf.grace, graceOf := e.saf.graceOf, hold := e.saf.hold
    fromLegacy := e.saf.fromLegacy, watchSaid := e.saf.watchSaid, hwlDue := e.saf.hwlDue }
  word : ∀ a, settleReg a = false → e.word a = d.word a
  out  : ∃ l, e.out = l ++ d.out
  evq  : d.spn.evq <+: e.spn.evq

theorem Dev.Kin.refl (d : Dev) : Dev.Kin d d := ⟨rfl, rfl, rfl, rfl, rfl, rfl, rfl, rfl, rfl, fun _ _ => rfl, ⟨[], rfl⟩, List.prefix_rfl⟩

theorem Dev.Kin.trans {d e f : Dev} (h : Dev.Kin d e) (g : Dev.Kin e f) : Dev.Kin d f where
  rest := by rw [g.rest, h.rest]
  pw := by rw [g.pw, h.pw]
  spn := by rw [g.spn, h.spn]
  hd := by rw [g.hd, h.hd]
  hif := by rw [g.hif, h.hif]
  burl := by rw [g.burl, h.burl]
  bzlL := by rw [g.bzlL, h.bzlL]
  bzlU := by rw [g.bzlU, h.bzlU]
  saf := by rw [g.saf, h.saf]
  word := fun a ha => (g.word a ha).trans (h.word a ha)
  out := by
    obtain ⟨l, hl⟩ := h.out; obtain ⟨m, hm⟩ := g.out
    exact ⟨m ++ l, by rw [hm, hl, List.append_assoc]⟩
  evq := h.evq.trans g.evq

theorem Dev.Kin.get {d e : Dev} (h : Dev.Kin d e) (f : Fld) (hf : settleReg f.addr = false) : e.get f = d.get f := by
  unfold Dev.get; rw [h.word _ hf]

theorem Dev.Kin.bit {d e : Dev} (h : Dev.Kin d e) (f : Fld) (hf : settleReg f.addr = false) : e.bit f = d.bit f := by
  unfold Dev.bit; rw [h.get f hf]

theorem Dev.Kin.put (d : Dev) (f : Fld) (v : Nat) (hf : settleReg f.addr = true) : Dev.Kin d (d.put f v) where
  rest := rfl
  pw := rfl
  spn := rfl
  hd := rfl
  hif := rfl
  burl := rfl
  bzlL := rfl
  bzlU := rfl
  saf := rfl
  word := fun a ha => Dev.word_put_other d f v a (fun e => by rw [e, hf] at ha; cases ha)
  out := ⟨[], rfl⟩
  evq := List.prefix_rfl

theorem moveRegs_settle (a : Nat) (h : a ∈ moveRegs) : settleReg a = true := by
  simp only [moveRegs, sendRegs, List.mem_cons, List.not_mem_nil, or_false] at h
  rcases h with rfl | rfl | rfl | rfl | rfl <;> decide

theorem Dev.Moved.kin {d e : Dev} (h : Dev.Moved d e) : Dev.Kin d e where
  rest := by have := h.rest; rw [this]
  pw := h.pw
  spn := by rw [h.spn]
  hd := h.hd
  hif := h.hif
  burl := h.burl
  bzlL := by rw [h.rest]
  bzlU := by rw [h.rest]
  saf := by rw [h.rest]
  word := fun a ha => h.word a (fun hm => by rw [moveRegs_settle a hm] at ha; cases ha)
  out := h.out
  evq := h.evq

theorem Dev.Sent.kin {d e : Dev} (h : Dev.Sent d e) : Dev.Kin d e := h.moved.kin

theorem Dev.Kin.raise (d : Dev) (code src : Nat) (items : List Nat) : Dev.Kin d (d.raise code src items) :=
  (Dev.Sent.raise ..).kin

theorem Dev.Kin.emit (d : Dev) (o : Output) : Dev.Kin d (d.emit o) := (Dev.Sent.emit ..).kin

theorem Dev.Kin.each {α : Type} (d : Dev) (xs : List α) (f : Dev → α → Dev) (h : ∀ d, ∀ x ∈ xs, Dev.Kin d (f d x)) :
    Dev.Kin d (d.each xs f) := by
  unfold Dev.each
  induction xs generalizing d with
  | nil => exact Dev.Kin.refl d
  | cons x rest ih =>
    exact (h d x (List.mem_cons_self ..)).trans (ih _ (fun d y hy => h d y (List.mem_cons_of_mem _ hy)))

/-- A function applied where a condition holds. -/
theorem Dev.Kin.ite {d e f : Dev} {c : Prop} [Decidable c] (h : Dev.Kin d e) (g : Dev.Kin d f) :
    Dev.Kin d (if c then e else f) := by split <;> assumption

/-! ## Hidden state alone -/

theorem Dev.Kin.draws' (d : Dev) (n : Nat) : Dev.Kin d { d with draws := n } :=
  ⟨rfl, rfl, rfl, rfl, rfl, rfl, rfl, rfl, rfl, fun _ _ => rfl, ⟨[], rfl⟩, List.prefix_rfl⟩
theorem Dev.Kin.win' (d : Dev) (x : WinSt) : Dev.Kin d { d with win := x } :=
  ⟨rfl, rfl, rfl, rfl, rfl, rfl, rfl, rfl, rfl, fun _ _ => rfl, ⟨[], rfl⟩, List.prefix_rfl⟩
theorem Dev.Kin.tb' (d : Dev) (x : TbSt) : Dev.Kin d { d with tb := x } :=
  ⟨rfl, rfl, rfl, rfl, rfl, rfl, rfl, rfl, rfl, fun _ _ => rfl, ⟨[], rfl⟩, List.prefix_rfl⟩
theorem Dev.Kin.owd' (d : Dev) (x : OwdSt) : Dev.Kin d { d with owd := x } :=
  ⟨rfl, rfl, rfl, rfl, rfl, rfl, rfl, rfl, rfl, fun _ _ => rfl, ⟨[], rfl⟩, List.prefix_rfl⟩
theorem Dev.Kin.bal' (d : Dev) (x : BalSt) : Dev.Kin d { d with bal := x } :=
  ⟨rfl, rfl, rfl, rfl, rfl, rfl, rfl, rfl, rfl, fun _ _ => rfl, ⟨[], rfl⟩, List.prefix_rfl⟩
theorem Dev.Kin.imp' (d : Dev) (x : ImpSt) : Dev.Kin d { d with imp := x } :=
  ⟨rfl, rfl, rfl, rfl, rfl, rfl, rfl, rfl, rfl, fun _ _ => rfl, ⟨[], rfl⟩, List.prefix_rfl⟩
theorem Dev.Kin.bdl' (d : Dev) (x : BdlSt) : Dev.Kin d { d with bdl := x } :=
  ⟨rfl, rfl, rfl, rfl, rfl, rfl, rfl, rfl, rfl, fun _ _ => rfl, ⟨[], rfl⟩, List.prefix_rfl⟩
theorem Dev.Kin.iic' (d : Dev) (x : IicSt) : Dev.Kin d { d with iic := x } :=
  ⟨rfl, rfl, rfl, rfl, rfl, rfl, rfl, rfl, rfl, fun _ _ => rfl, ⟨[], rfl⟩, List.prefix_rfl⟩
theorem Dev.Kin.setAux (d : Dev) (a : Afe) (x : AuxSt) : Dev.Kin d (d.setAux a x) := by
  cases a <;> exact ⟨rfl, rfl, rfl, rfl, rfl, rfl, rfl, rfl, rfl, fun _ _ => rfl, ⟨[], rfl⟩, List.prefix_rfl⟩
theorem Dev.Kin.setCal (d : Dev) (a : Afe) (x : CalSt) : Dev.Kin d (d.setCal a x) := by
  cases a <;> exact ⟨rfl, rfl, rfl, rfl, rfl, rfl, rfl, rfl, rfl, fun _ _ => rfl, ⟨[], rfl⟩, List.prefix_rfl⟩
theorem Dev.Kin.setBline (d : Dev) (l : Nat) (x : BdlLine) : Dev.Kin d (d.setBline l x) := by
  unfold Dev.setBline; split <;> exact ⟨rfl, rfl, rfl, rfl, rfl, rfl, rfl, rfl, rfl, fun _ _ => rfl, ⟨[], rfl⟩, List.prefix_rfl⟩
theorem Dev.Kin.hold' (d : Dev) (x : Bool) : Dev.Kin d { d with pw := { d.pw with hold := x } } :=
  ⟨rfl, rfl, rfl, rfl, rfl, rfl, rfl, rfl, rfl, fun _ _ => rfl, ⟨[], rfl⟩, List.prefix_rfl⟩
theorem Dev.Kin.notrans (d : Dev) : Dev.Kin d { d with pw := { d.pw with trans := none } } :=
  ⟨rfl, rfl, rfl, rfl, rfl, rfl, rfl, rfl, rfl, fun _ _ => rfl, ⟨[], rfl⟩, List.prefix_rfl⟩
theorem Dev.Kin.faults' (d : Dev) (x : List ChFault) : Dev.Kin d { d with saf := { d.saf with faults := x } } :=
  ⟨rfl, rfl, rfl, rfl, rfl, rfl, rfl, rfl, rfl, fun _ _ => rfl, ⟨[], rfl⟩, List.prefix_rfl⟩
theorem Dev.Kin.two' (d : Dev) (x : Bool) : Dev.Kin d { d with saf := { d.saf with two := x } } :=
  ⟨rfl, rfl, rfl, rfl, rfl, rfl, rfl, rfl, rfl, fun _ _ => rfl, ⟨[], rfl⟩, List.prefix_rfl⟩
theorem Dev.Kin.hold2 (d : Dev) (x : List (Nat × Chan)) : Dev.Kin d { d with saf := { d.saf with hold := x } } :=
  ⟨rfl, rfl, rfl, rfl, rfl, rfl, rfl, rfl, rfl, fun _ _ => rfl, ⟨[], rfl⟩, List.prefix_rfl⟩
theorem Dev.Kin.grace' (d : Dev) (x : Option Nat) (y : Option (Nat × Chan)) :
    Dev.Kin d { d with saf := { d.saf with grace := x, graceOf := y } } :=
  ⟨rfl, rfl, rfl, rfl, rfl, rfl, rfl, rfl, rfl, fun _ _ => rfl, ⟨[], rfl⟩, List.prefix_rfl⟩
theorem Dev.Kin.fromLegacy' (d : Dev) (x : Bool) : Dev.Kin d { d with saf := { d.saf with fromLegacy := x } } :=
  ⟨rfl, rfl, rfl, rfl, rfl, rfl, rfl, rfl, rfl, fun _ _ => rfl, ⟨[], rfl⟩, List.prefix_rfl⟩
theorem Dev.Kin.watchSaid' (d : Dev) (x : List Nat) : Dev.Kin d { d with saf := { d.saf with watchSaid := x } } :=
  ⟨rfl, rfl, rfl, rfl, rfl, rfl, rfl, rfl, rfl, fun _ _ => rfl, ⟨[], rfl⟩, List.prefix_rfl⟩

theorem Dev.Kin.hwlDue' (d : Dev) (x : Option Nat) : Dev.Kin d { d with saf := { d.saf with hwlDue := x } } :=
  ⟨rfl, rfl, rfl, rfl, rfl, rfl, rfl, rfl, rfl, fun _ _ => rfl, ⟨[], rfl⟩, List.prefix_rfl⟩
theorem Dev.Kin.evq' (d : Dev) (x : List EventRec) : Dev.Kin d { d with hif := { d.hif with evq := x } } :=
  ⟨rfl, rfl, rfl, rfl, rfl, rfl, rfl, rfl, rfl, fun _ _ => rfl, ⟨[], rfl⟩, List.prefix_rfl⟩

/-! ## Windows, auxiliary converter, wiring, Beadline, I²C, timebase: what stops with the services -/

theorem Dev.Kin.stopBank (d : Dev) (a : Afe) (b : Bool) : Dev.Kin d (d.stopBank a b) := by
  have h := Dev.Kin.put d (CVW_STAT_INTEG a) 0 (by cases a <;> decide)
  unfold Dev.stopBank
  refine Dev.Kin.ite (Dev.Kin.refl d) ?_
  refine Dev.Kin.ite h ?_
  refine h.trans ?_
  cases a <;> exact ⟨rfl, rfl, rfl, rfl, rfl, rfl, rfl, rfl, rfl, fun _ _ => rfl, ⟨[], rfl⟩, List.prefix_rfl⟩

theorem Dev.Kin.stopWindows (d : Dev) : Dev.Kin d d.stopWindows := by
  unfold Dev.stopWindows
  exact (Dev.Kin.each _ _ _ (fun e a _ => Dev.Kin.stopBank e a false)).trans (Dev.Kin.win' _ _)

theorem Dev.Kin.auxTo (d : Dev) (a : Afe) (ph : AuxPhase) : Dev.Kin d (d.auxTo a ph) := by
  have h1 (e : Dev) (v : Bool) : Dev.Kin e (e.putB (AUX_STAT_WAIT a) v) := Dev.Kin.put e _ _ (by cases a <;> decide)
  have h2 (e : Dev) (v : Bool) : Dev.Kin e (e.putB (AUX_STAT_BUSY a) v) := Dev.Kin.put e _ _ (by cases a <;> decide)
  have h3 (e : Dev) (v : Nat) : Dev.Kin e (e.put (AUX_STAT_ENTRY a) v) := Dev.Kin.put e _ v (by cases a <;> decide)
  have key (x : AuxSt) (w b : Bool) : Dev.Kin d (((d.setAux a x).putB (AUX_STAT_WAIT a) w).putB (AUX_STAT_BUSY a) b) :=
    ((Dev.Kin.setAux d a x).trans (h1 _ w)).trans (h2 _ b)
  have last (e : Dev) (p : AuxPhase) : Dev.Kin e (match p with
      | .waitEntry k | .dly k | .conv k => e.put (AUX_STAT_ENTRY a) k
      | _ => e) := by
    cases p with
    | waitEntry k => exact h3 e k
    | dly k => exact h3 e k
    | conv k => exact h3 e k
    | stopped => exact Dev.Kin.refl e
    | waitPass => exact Dev.Kin.refl e
    | delay => exact Dev.Kin.refl e
    | ready k => exact Dev.Kin.refl e
    | held k => exact Dev.Kin.refl e
  unfold Dev.auxTo
  exact (key _ _ _).trans (last _ _)

theorem Dev.Kin.auxEntry (d : Dev) (a : Afe) (e : Nat) : Dev.Kin d (d.auxEntry a e) := by
  unfold Dev.auxEntry
  repeat' (first | exact Dev.Kin.auxTo .. | refine Dev.Kin.ite ?_ ?_)

theorem Dev.Kin.auxSettle (d : Dev) (a : Afe) : Dev.Kin d (d.auxSettle a) := by
  unfold Dev.auxSettle
  split <;> repeat' (first | exact Dev.Kin.auxTo .. | exact Dev.Kin.auxEntry .. | exact Dev.Kin.refl _
                           | refine Dev.Kin.ite ?_ ?_)

theorem Dev.Kin.auxStop (d : Dev) (a : Afe) : Dev.Kin d (d.auxStop a) := by
  unfold Dev.auxStop
  exact Dev.Kin.ite (Dev.Kin.setAux ..) (Dev.Kin.auxTo ..)

theorem Dev.Kin.auxDown (d : Dev) (a : Afe) : Dev.Kin d (d.auxDown a) := by
  unfold Dev.auxDown
  exact (Dev.Kin.setAux ..).trans (Dev.Kin.auxStop ..)

theorem Dev.Kin.countSat (d : Dev) (f : Fld) (n : Nat) (hf : settleReg f.addr = true) : Dev.Kin d (d.countSat f n) :=
  Dev.Kin.put d f _ hf

theorem Dev.Kin.showClass (d : Dev) (j c : Nat) : Dev.Kin d (d.showClass j c) := by
  unfold Dev.showClass
  split
  · refine Dev.Kin.put d _ c ?_
    have hj : OWD_JSTAT_CLASS .L j = ⟨0x405100 + 4 * j, 31, 28⟩ := rfl
    rw [hj]
    unfold settleReg
    have : (0x405100 ≤ 0x405100 + 4 * j ∧ 0x405100 + 4 * j < 0x405194) := by omega
    simp [this]
  · exact Dev.Kin.refl d

theorem Dev.Kin.owdLose (d : Dev) : Dev.Kin d d.owdLose := by
  unfold Dev.owdLose
  split
  · exact Dev.Kin.owd' _ _
  · exact (Dev.Kin.each _ _ _ (fun e j _ =>
      (Dev.Kin.showClass e j 5).trans (Dev.Kin.countSat _ (OWD_SKIP .L) 1 (by decide)))).trans (Dev.Kin.owd' _ _)

theorem Dev.Kin.bdlDrop (d : Dev) (l err : Nat) (hl : l < 2) : Dev.Kin d (d.bdlDrop l err) := by
  have hs (e : Dev) (v : Nat) : Dev.Kin e (e.put (BDL_LSTAT_SRCH l) v) :=
    Dev.Kin.put e _ v (by interval_cases l <;> decide)
  have hv (e : Dev) (v : Nat) : Dev.Kin e (e.put (BDL_LSTAT_VALID l) v) :=
    Dev.Kin.put e _ v (by interval_cases l <;> decide)
  have hd (e : Dev) (v : Nat) : Dev.Kin e (e.put BDL_XRES_DONE v) := Dev.Kin.put e _ v (by decide)
  have he (e : Dev) (v : Nat) : Dev.Kin e (e.put BDL_XRES_ERR v) := Dev.Kin.put e _ v (by decide)
  unfold Dev.bdlDrop
  have h1 : Dev.Kin d (if d.bit (BDL_LSTAT_SRCH l) then (d.put (BDL_LSTAT_SRCH l) 0).put (BDL_LSTAT_VALID l) 0 else d) :=
    Dev.Kin.ite ((hs _ _).trans (hv _ _)) (Dev.Kin.refl d)
  simp only []
  refine h1.trans ?_
  generalize (if d.bit (BDL_LSTAT_SRCH l) then (d.put (BDL_LSTAT_SRCH l) 0).put (BDL_LSTAT_VALID l) 0 else d) = e
  refine (Dev.Kin.setBline e l { e.bline l with act := .idle, again := false, wanted := false }).trans ?_
  generalize e.setBline l { e.bline l with act := .idle, again := false, wanted := false } = f
  split
  · refine Dev.Kin.ite ?_ (Dev.Kin.refl _)
    exact (Dev.Kin.bdl' _ _).trans ((hd _ _).trans (he _ _))
  · exact Dev.Kin.refl _

theorem Dev.Kin.bdlStop (d : Dev) : Dev.Kin d d.bdlStop := by
  unfold Dev.bdlStop
  exact (Dev.Kin.bdlDrop _ 0 1 (by decide)).trans (Dev.Kin.bdlDrop _ 1 1 (by decide))

theorem Dev.Kin.iicStop (d : Dev) : Dev.Kin d d.iicStop := by
  unfold Dev.iicStop
  exact (Dev.Kin.iic' _ _).trans ((Dev.Kin.put _ IIC_STAT_XRUN _ (by decide)).trans (Dev.Kin.put _ IIC_STAT_BUSY _ (by decide)))

theorem Dev.Kin.ringUnlock (d : Dev) : Dev.Kin d d.ringUnlock := by
  unfold Dev.ringUnlock
  refine (Dev.Kin.tb' d _).trans (Dev.Kin.ite ?_ (Dev.Kin.refl _))
  exact ((Dev.Kin.put _ TB_STAT_RLOCK _ (by decide)).trans (Dev.Kin.put _ TB_STAT_TQ _ (by decide))).trans (Dev.Kin.raise ..)

theorem Dev.Kin.stopTb (d : Dev) : Dev.Kin d d.stopTb := by
  unfold Dev.stopTb
  refine Dev.Kin.ite (Dev.Kin.refl d) ?_
  refine (Dev.Kin.ringUnlock d).trans (Dev.Kin.ite (Dev.Kin.refl _) ?_)
  exact Dev.Kin.put _ TB_STAT_TQ _ (by decide)

/-! ## Frames of a member's protection -/

theorem Dev.Kin.nextAlive (d : Dev) (k : Nat) : Dev.Kin d (d.nextAlive k).2 :=
  ⟨rfl, rfl, rfl, rfl, rfl, rfl, rfl, rfl, rfl, fun _ _ => rfl, ⟨[], rfl⟩, List.prefix_rfl⟩

theorem Dev.Kin.sendCompact (d : Dev) (ps : List Port) (k pos pay : Nat) : Dev.Kin d (d.sendCompact ps k pos pay) := by
  unfold Dev.sendCompact
  exact (Dev.Kin.nextAlive d k).trans (Dev.Kin.each _ _ _ (fun e p _ => (Dev.Sent.portSend ..).kin))

theorem Dev.Kin.sendGuard (d : Dev) (last : Bool) : Dev.Kin d (d.sendGuard last) := by
  unfold Dev.sendGuard Dev.compactToHead
  exact Dev.Kin.ite (Dev.Kin.sendCompact ..) (Dev.Kin.refl d)

theorem Dev.Kin.sendTrip (d : Dev) : Dev.Kin d d.sendTrip := by
  unfold Dev.sendTrip
  exact Dev.Kin.ite (Dev.Kin.sendCompact ..) (Dev.Kin.refl d)

/-! ## Modes -/

theorem Dev.Kin.showMode (d : Dev) (cur base trig : Nat) : Dev.Kin d (d.showMode cur base trig) :=
  (Dev.Moved.showMode ..).kin

theorem Dev.Kin.budgetEval (d : Dev) (trig : Nat) : Dev.Kin d (d.budgetEval trig) := (Dev.Moved.budgetEval ..).kin

theorem Dev.Kin.holdBudget (d : Dev) (trig : Nat) : Dev.Kin d (d.setHold.budgetEval trig) :=
  (Dev.Kin.hold' d true).trans (Dev.Kin.budgetEval ..)

theorem Dev.Kin.overTrans (d : Dev) : Dev.Kin d d.overTrans := by
  unfold Dev.overTrans
  split
  · exact Dev.Kin.ite ((Dev.Kin.notrans d).trans (Dev.Kin.put _ PWR_STAT_TRANS _ (by decide))) (Dev.Kin.refl d)
  · exact Dev.Kin.refl d

/-! ## Plan, sweep and sessions -/

theorem mem_allCells {d : Dev} {n : Nat} (h : n ∈ d.allCells) : n ≤ 36 := by
  unfold Dev.allCells rangeL at h
  simp only [List.mem_map, List.mem_range] at h
  obtain ⟨k, hk, rfl⟩ := h
  have hc : d.cells ≤ 36 := by
    unfold Dev.cells cellCount
    split
    · omega
    · split <;> omega
  omega

theorem Dev.Kin.cellState (d : Dev) (n v : Nat) (h : n ≤ 36) : Dev.Kin d (d.put (BAL_CSTS_STATE n) v) := by
  refine Dev.Kin.put d _ v ?_
  have hj : BAL_CSTS_STATE n = ⟨0x28400 + 4 * (n - 1), 31, 28⟩ := rfl
  rw [hj]
  unfold settleReg
  have : (0x28400 ≤ 0x28400 + 4 * (n - 1) ∧ 0x28400 + 4 * (n - 1) < 0x28490) := by omega
  simp [this]

theorem Dev.Kin.showSw (d : Dev) : Dev.Kin d d.showSw := by
  unfold Dev.showSw
  refine Dev.Kin.each _ _ _ (fun e a _ => Dev.Kin.ite ?_ (Dev.Kin.refl e))
  exact Dev.Kin.put e (BPS_STAT_SW a) _ (by cases a <;> decide)

/-- A change of what the planner and the window in progress hold, shown in BPS_STAT.SW. -/
theorem Dev.Kin.balWin (d : Dev) (b : BalSt) (w : WinSt) : Dev.Kin d ({ d with bal := b, win := w }).showSw :=
  ((Dev.Kin.bal' d b).trans (Dev.Kin.win' _ w)).trans (Dev.Kin.showSw _)

theorem Dev.Kin.seeStages (d : Dev) : Dev.Kin d d.seeStages := by
  unfold Dev.seeStages
  exact Dev.Kin.balWin ..

theorem Dev.Kin.seeMclk (d : Dev) : Dev.Kin d d.seeMclk := by
  unfold Dev.seeMclk
  exact Dev.Kin.ite (Dev.Kin.refl d) (Dev.Kin.win' _ _)

theorem Dev.Kin.balCells (d : Dev) : Dev.Kin d d.balCells := by
  unfold Dev.balCells
  refine Dev.Kin.ite ?_ (Dev.Kin.seeStages d)
  refine (Dev.Kin.each _ _ _ (fun e n hn => ?_)).trans (Dev.Kin.seeStages _)
  exact Dev.Kin.cellState e n _ (mem_allCells (List.mem_of_mem_filter hn))

/-! ## The services of MONITOR -/

theorem Dev.Kin.servicesDown (d : Dev) : Dev.Kin d d.servicesDown := by
  unfold Dev.servicesDown
  have h := (((((((Dev.Kin.sendGuard d true).trans (Dev.Kin.each _ (d.sendGuard true).banks Dev.auxDown
    (fun e a _ => Dev.Kin.auxDown e a))).trans (Dev.Kin.stopWindows _)).trans (Dev.Kin.owdLose _)).trans
    (Dev.Kin.balCells _)).trans (Dev.Kin.bdlStop _)).trans (Dev.Kin.iicStop _)).trans (Dev.Kin.seeMclk _)
  exact Dev.Kin.ite h (h.trans (Dev.Kin.stopTb _))

theorem Dev.Kin.drainEvents (n : Nat) (d : Dev) : Dev.Kin d (drainEvents n d) := by
  induction n generalizing d with
  | zero => exact Dev.Kin.refl d
  | succ n ih =>
    unfold Sys2Proof.Machine.drainEvents
    split
    · exact Dev.Kin.ite (((Dev.Kin.evq' d _).trans (Dev.Sent.ringWrite ..).kin).trans (ih _)) (Dev.Kin.refl d)
    · exact Dev.Kin.refl d

theorem Dev.Kin.servicesUp (d : Dev) : Dev.Kin d d.servicesUp := by
  unfold Dev.servicesUp
  exact ((Dev.Kin.each _ _ _ (fun e a _ => Dev.Kin.auxSettle e a)).trans (Dev.Sent.sendEvents _).kin).trans
    (Dev.Kin.drainEvents ..)

theorem Dev.Kin.services (was : Bool) (d : Dev) : Dev.Kin d (Dev.services was d) := by
  unfold Dev.services
  exact Dev.Kin.ite (Dev.Kin.servicesDown d) (Dev.Kin.ite (Dev.Kin.servicesUp d) (Dev.Kin.refl d))

/-! ## The plan's end, sweeps and sessions -/

theorem Dev.Kin.balEnd (d : Dev) (cause : Nat) : Dev.Kin d (d.balEnd cause) := by
  unfold Dev.balEnd
  simp only []
  have h1 : Dev.Kin d (d.each (d.allCells.filter d.inPlan) (fun d n => d.put (BAL_CSTS_STATE n) csStopped)) :=
    Dev.Kin.each _ _ _ (fun e n hn => Dev.Kin.cellState e n _ (mem_allCells (List.mem_of_mem_filter hn)))
  generalize d.each (d.allCells.filter d.inPlan) (fun d n => d.put (BAL_CSTS_STATE n) csStopped) = e at h1
  have h2 : Dev.Kin d ((((e.put BAL_STAT_ACTIVE 0).put BAL_STAT_ENDC cause).put BAL_STAT_PAUSE 0).put BAL_STAT_PAUSED 0) :=
    h1.trans ((((Dev.Kin.put _ BAL_STAT_ACTIVE _ (by decide)).trans (Dev.Kin.put _ BAL_STAT_ENDC _ (by decide))).trans
      (Dev.Kin.put _ BAL_STAT_PAUSE _ (by decide))).trans (Dev.Kin.put _ BAL_STAT_PAUSED _ (by decide)))
  exact ((((h2.trans (Dev.Kin.bal' _ _)).trans (Dev.Kin.raise ..)).trans (Dev.Kin.seeStages _)).trans
    (Dev.Kin.budgetEval _ 3)).trans (Dev.Kin.seeMclk _)

theorem Dev.Kin.balInterrupt (d : Dev) (b : Nat) : Dev.Kin d (d.balInterrupt b) := by
  unfold Dev.balInterrupt
  refine Dev.Kin.ite (Dev.Kin.seeStages d) (Dev.Kin.ite (Dev.Kin.balEnd d 4) ?_)
  refine Dev.Kin.ite (Dev.Kin.seeStages d) ?_
  exact (((Dev.Kin.put _ BAL_STAT_PAUSE _ (by decide)).trans (Dev.Kin.put _ BAL_STAT_PAUSED _ (by decide))).trans
    (Dev.Kin.balCells _)).trans (Dev.Kin.raise ..)

theorem Dev.Kin.calEnding (d : Dev) (a : Afe) (r : Nat) : Dev.Kin d (d.calEnding a r) := by
  unfold Dev.calEnding
  split
  · exact Dev.Kin.ite (Dev.Kin.refl d) (Dev.Kin.setCal ..)
  · exact Dev.Kin.ite (Dev.Kin.setCal ..) (Dev.Kin.refl d)

theorem Dev.Kin.cellRecord (d : Dev) (ab : Bool) (n : Nat) : Dev.Kin d (d.cellRecord ab n).2 := by
  unfold Dev.cellRecord
  dsimp only
  split
  · exact Dev.Kin.refl d
  · split
    · exact Dev.Kin.refl d
    · exact Dev.Kin.draws' d _

theorem Dev.Kin.cellRecords (d : Dev) (c : Bool) (xs : List Nat) (ws : List Word) :
    Dev.Kin d (xs.foldl (fun (acc : List Word × Dev) n =>
      let (r, d) := acc.2.cellRecord c n
      (acc.1 ++ r, d)) (ws, d)).2 := by
  induction xs generalizing d ws with
  | nil => exact Dev.Kin.refl d
  | cons x rest ih => exact (Dev.Kin.cellRecord d c x).trans (ih _ _)

theorem Dev.Kin.pointResult (d : Dev) (ps : Nat) : Dev.Kin d (d.pointResult ps).2.2 := by
  unfold Dev.pointResult
  exact (Dev.Kin.cellRecords d _ _ _).trans (Dev.Kin.imp' _ _)

theorem Dev.Kin.sweepModeEnd (d : Dev) : Dev.Kin d d.sweepModeEnd := by
  unfold Dev.sweepModeEnd
  simp only []
  refine Dev.Kin.trans ?_ (Dev.Kin.budgetEval _ 9)
  split <;> first
    | exact Dev.Kin.showMode ..
    | exact Dev.Kin.ite (Dev.Kin.showMode ..) (Dev.Kin.refl d)
    | exact Dev.Kin.refl d

theorem Dev.Kin.sweepOver (d : Dev) (r : Nat) : Dev.Kin d (d.sweepOver r) := by
  unfold Dev.sweepOver
  exact (((((Dev.Kin.put _ IMP_STAT_STATE _ (by decide)).trans (Dev.Kin.put _ IMP_STAT_RESULT _ (by decide))).trans
    (Dev.Kin.put _ IMP_STAT_CORR _ (by decide))).trans (Dev.Kin.imp' _ _)).trans (Dev.Kin.seeStages _)).trans
    (Dev.Kin.sweepModeEnd _)

theorem Dev.Kin.toneBank (d : Dev) (a : Afe) : Dev.Kin d (d.toneBank a) := by
  unfold Dev.toneBank
  exact Dev.Kin.ite (Dev.Kin.refl d) (Dev.Kin.imp' ..)

theorem Dev.Kin.pointStart (d : Dev) (p : Nat) : Dev.Kin d (d.pointStart p) := by
  have h (e : Dev) (b : Bool) : Dev.Kin e (e.putB IMP_STAT_CORR b) := Dev.Kin.put e _ _ (by decide)
  unfold Dev.pointStart
  exact (((((Dev.Kin.put _ IMP_STAT_PT _ (by decide)).trans (Dev.Kin.put _ IMP_PROG _ (by decide))).trans (Dev.Kin.imp' _ _)).trans
    (h _ _)).trans (Dev.Kin.toneBank _ .L)).trans (Dev.Kin.toneBank _ .U)

theorem Dev.Kin.sweepAbort (d : Dev) (r : Nat) : Dev.Kin d (d.sweepAbort r) := by
  have rest (e : Dev) : Dev.Kin e (let (_, _, d) := e.pointResult 2
      let d := { d with imp := { d.imp with broken := some d.impPt } }
      let d := d.sweepOver r
      d.raise 0x5004 0 [r, d.impPt]) :=
    (((Dev.Kin.pointResult e 2).trans (Dev.Kin.imp' _ _)).trans (Dev.Kin.sweepOver _ r)).trans (Dev.Kin.raise ..)
  unfold Dev.sweepAbort
  refine Dev.Kin.ite (Dev.Kin.refl d) (Dev.Kin.ite ?_ ?_)
  · exact (Dev.Kin.sweepOver d 1).trans (Dev.Kin.raise ..)
  · exact (Dev.Kin.ite (Dev.Kin.pointStart ..) (Dev.Kin.refl d)).trans (rest _)

theorem Dev.Kin.activitiesStop (d : Dev) (r p : Nat) : Dev.Kin d (d.activitiesStop r p) := by
  unfold Dev.activitiesStop Dev.calAborted
  exact (((Dev.Kin.sweepAbort d r).trans (Dev.Kin.calEnding ..)).trans (Dev.Kin.calEnding ..)).trans
    (Dev.Kin.balInterrupt ..)

/-! ## SAFE, Bezel, the processor latch, DEGRADED -/

theorem Dev.Kin.graceStop (d : Dev) : Dev.Kin d d.graceStop := by
  unfold Dev.graceStop
  exact (Dev.Kin.grace' d none none).trans (Dev.Kin.put _ (SDC_STAT_GRUN .L) _ (by decide))

theorem Dev.Kin.enterSafe (d : Dev) (c x : Nat) : Dev.Kin d (d.enterSafe c x) := by
  unfold Dev.enterSafe
  refine Dev.Kin.ite (Dev.Kin.refl d) ?_
  exact ((((((Dev.Kin.fromLegacy' d _).trans (Dev.Kin.graceStop _)).trans (Dev.Kin.overTrans _)).trans
    (Dev.Kin.showMode ..)).trans (Dev.Kin.raise ..)).trans (Dev.Kin.activitiesStop ..)).trans (Dev.Kin.services ..)

theorem Dev.Kin.safeExit (d : Dev) : Dev.Kin d d.safeExit := by
  unfold Dev.safeExit
  refine Dev.Kin.ite (Dev.Kin.refl d) (Dev.Kin.ite ?_ ?_)
  · exact (Dev.Kin.showMode ..).trans (Dev.Kin.raise ..)
  · exact (((Dev.Kin.showMode ..).trans (Dev.Kin.raise ..)).trans (Dev.Kin.services ..)).trans (Dev.Kin.holdBudget _ 3)

theorem Dev.Kin.seeGirdle (d : Dev) : Dev.Kin d d.seeGirdle := by
  have h1 (e : Dev) (v : Bool) : Dev.Kin e (e.putB (BZL_STAT_CARRO .L) v) := Dev.Kin.put e _ _ (by decide)
  have h2 (e : Dev) (v : Bool) : Dev.Kin e (e.putB (GRD_STAT_COUT .L) v) := Dev.Kin.put e _ _ (by decide)
  have h3 (e : Dev) (v : Bool) : Dev.Kin e (e.putB (BZL_STAT_XBOK .L) v) := Dev.Kin.put e _ _ (by decide)
  unfold Dev.seeGirdle
  have h := ((h1 d d.carrierOut).trans (h2 _ d.carrierOut)).trans (h3 _
    (((d.putB (BZL_STAT_CARRO .L) d.carrierOut).putB (GRD_STAT_COUT .L) d.carrierOut).twoBlocks
      && !((d.putB (BZL_STAT_CARRO .L) d.carrierOut).putB (GRD_STAT_COUT .L) d.carrierOut).crossBad))
  exact Dev.Kin.ite h (h.trans (Dev.Kin.emit ..))

theorem Dev.Kin.setHwl (d : Dev) (en : Bool) (x : Nat) : Dev.Kin d (d.setHwl en x) := by
  have h := Dev.Kin.put d (SDC_STAT_HWL .L) 1 (by decide)
  unfold Dev.setHwl
  exact Dev.Kin.ite (Dev.Kin.ite h (Dev.Kin.ite (h.trans (Dev.Kin.enterSafe ..)) (h.trans (Dev.Kin.hwlDue' _ _))))
    (Dev.Kin.refl d)

theorem Dev.Kin.bezelTrip (d : Dev) (a : Afe) (row : Nat) : Dev.Kin d (d.bezelTrip a row) := by
  have cap (e : Dev) : Dev.Kin e
      (if e.bit (CVW_CAPT_TRIP .L) then { e with win := { e.win with capSrc := e.win.capSrc ||| 8 } } else e) :=
    Dev.Kin.ite (Dev.Kin.win' _ _) (Dev.Kin.refl e)
  have act (e : Dev) (was : Bool) (c : Nat) : Dev.Kin e
      (match e.role with | .member => (e.enterSafe c row).sendTrip | .head => e.setHwl was 2) := by
    split
    · exact (Dev.Kin.enterSafe ..).trans (Dev.Kin.sendTrip _)
    · exact Dev.Kin.setHwl ..
  unfold Dev.bezelTrip
  exact ((((((Dev.Kin.put _ (BZL_CAUSE_ROW a) _ (by cases a <;> decide)).trans
      (Dev.Kin.countSat _ (BZL_CAUSE_TRIPCNT a) _ (by cases a <;> decide))).trans
      (Dev.Kin.put _ (BZL_STAT_STATE a) _ (by cases a <;> decide))).trans (Dev.Kin.seeGirdle _)).trans (Dev.Kin.raise ..)).trans
      (cap _)).trans (act _ _ _)

theorem Dev.Kin.bezelArm (d : Dev) (a : Afe) : Dev.Kin d (d.bezelArm a) := by
  unfold Dev.bezelArm
  exact ((Dev.Kin.put _ (BZL_STAT_STATE a) _ (by cases a <;> decide)).trans (Dev.Kin.seeGirdle _)).trans (Dev.Kin.raise ..)

theorem Dev.Kin.bezelStep (d : Dev) (a : Afe) : Dev.Kin d (d.bezelStep a) := by
  unfold Dev.bezelStep
  refine Dev.Kin.ite (Dev.Kin.refl d) (Dev.Kin.ite (Dev.Kin.ite (Dev.Kin.bezelArm ..) (Dev.Kin.refl d))
    (Dev.Kin.ite ?_ (Dev.Kin.refl d)))
  split
  · exact Dev.Kin.bezelTrip ..
  · exact Dev.Kin.refl d

theorem Dev.Kin.bezelAct (d : Dev) : Dev.Kin d d.bezelAct := by
  unfold Dev.bezelAct
  exact ((Dev.Kin.bezelStep d .U).trans (Dev.Kin.bezelStep _ .L)).trans (Dev.Kin.seeGirdle _)

theorem Dev.Kin.warnEvents (d old : Dev) (a : Afe) : Dev.Kin d (d.warnEvents old a) := by
  unfold Dev.warnEvents
  exact Dev.Kin.each _ _ _ (fun e r _ => Dev.Kin.raise ..)

/-- An input or a setting of the guard logic changes: the change, and what follows from it. -/
theorem Dev.Kin.guardChange (f : Dev → Dev) (d : Dev) : Dev.Kin (f d) (d.guardChange f) := by
  unfold Dev.guardChange
  exact Dev.Kin.ite (((Dev.Kin.warnEvents ..).trans (Dev.Kin.warnEvents ..)).trans (Dev.Kin.bezelAct _)) (Dev.Kin.refl _)

theorem Dev.Kin.ttripSet (d : Dev) (a : Afe) : Dev.Kin d (d.setBz a { d.bz a with ttrip := true }) := by
  cases a <;> exact ⟨rfl, rfl, rfl, rfl, rfl, rfl, rfl, rfl, rfl, fun _ _ => rfl, ⟨[], rfl⟩, List.prefix_rfl⟩

theorem Dev.Kin.ttrip (d : Dev) (a : Afe) : Dev.Kin d (d.ttrip a) := by
  unfold Dev.ttrip
  exact Dev.Kin.ite ((Dev.Kin.ttripSet d a).trans (Dev.Kin.guardChange (fun d => d.setBz a { d.bz a with ttrip := true }) d))
    (Dev.Kin.refl d)

theorem Dev.Kin.setLatch (d : Dev) (c n : Nat) : Dev.Kin d (d.setLatch c n) := by
  unfold Dev.setLatch
  refine Dev.Kin.ite (Dev.Kin.refl d) ?_
  exact ((((Dev.Kin.put _ FW_PPSTAT_LATCH _ (by decide)).trans (Dev.Kin.put _ FW_PPSTAT_CAUSE _ (by decide))).trans
    (Dev.Kin.put _ FW_PPSTAT_CELL _ (by decide))).trans (Dev.Kin.countSat _ FW_PPSTAT_TRIPCNT _ (by decide))).trans
    (Dev.Kin.raise ..)

theorem Dev.Kin.openPath (d : Dev) : Dev.Kin d d.openPath := by
  unfold Dev.openPath
  have h : Dev.Kin d (if d.role = .head then d.put (SDC_CTRL_EN .L) 0 else d) :=
    Dev.Kin.ite (Dev.Kin.put _ (SDC_CTRL_EN .L) _ (by decide)) (Dev.Kin.refl d)
  exact (h.trans (Dev.Kin.ttrip _ .L)).trans (Dev.Kin.sendTrip _)

theorem Dev.Kin.enterDegraded (d : Dev) (pos : Nat) (c : Chan) : Dev.Kin d (d.enterDegraded pos c) := by
  unfold Dev.enterDegraded
  exact (((((((Dev.Kin.overTrans d).trans (Dev.Kin.showMode ..)).trans (Dev.Kin.put _ (SDC_GREM_POS .L) _ (by decide))).trans
    (Dev.Kin.put _ (SDC_GREM_CH .L) _ (by decide))).trans (Dev.Kin.grace' _ _ _)).trans
    (Dev.Kin.put _ (SDC_STAT_GRUN .L) _ (by decide))).trans (Dev.Kin.raise ..)).trans (Dev.Kin.activitiesStop ..)

theorem Dev.Kin.leaveDegraded (d : Dev) : Dev.Kin d d.leaveDegraded := by
  unfold Dev.leaveDegraded
  exact (((Dev.Kin.graceStop d).trans (Dev.Kin.showMode ..)).trans (Dev.Kin.raise ..)).trans (Dev.Kin.holdBudget _ 3)

theorem Dev.Kin.graceAct (d : Dev) (x : Bool) : Dev.Kin d (d.graceAct x) := by
  unfold Dev.graceAct
  simp only []
  have h := (Dev.Kin.hold2 d (if x then d.saf.graceOf.toList else d.faultPair)).trans
    (Dev.Kin.graceStop _)
  refine Dev.Kin.ite ?_ ?_
  · exact (((h.trans (Dev.Kin.setLatch ..)).trans (Dev.Kin.enterSafe ..)).trans (Dev.Kin.openPath _)).trans (Dev.Kin.raise ..)
  · exact ((h.trans (Dev.Kin.setLatch ..)).trans (Dev.Kin.enterSafe ..)).trans (Dev.Kin.openPath _)

theorem Dev.Kin.judge (d : Dev) : Dev.Kin d d.judge := by
  have none' (e : Dev) : Dev.Kin e (let d := { e with saf := { e.saf with two := false } }
      if d.cur = .degraded then d.leaveDegraded else d) :=
    (Dev.Kin.two' e false).trans (Dev.Kin.ite (Dev.Kin.leaveDegraded _) (Dev.Kin.refl _))
  have both (e : Dev) : Dev.Kin e (({ e with saf := { e.saf with two := true } }).graceAct false) :=
    (Dev.Kin.two' e true).trans (Dev.Kin.graceAct _ _)
  have one (e : Dev) (c : Nat × Chan) : Dev.Kin e (let d := { e with saf := { e.saf with two := false } }
      if d.mayDegrade then d.enterDegraded c.1 c.2 else d) :=
    (Dev.Kin.two' e false).trans (Dev.Kin.ite (Dev.Kin.enterDegraded ..) (Dev.Kin.refl _))
  have act (e : Dev) (cs : List (Nat × Chan)) : Dev.Kin e (match cs with
      | [] => let d := { e with saf := { e.saf with two := false } }
        if d.cur = .degraded then d.leaveDegraded else d
      | c :: _ =>
        if e.twoFaults then
          if e.saf.two ∨ !(e.mayDegrade || e.cur = .degraded) then e
          else ({ e with saf := { e.saf with two := true } }).graceAct false
        else
          let d := { e with saf := { e.saf with two := false } }
          if d.mayDegrade then d.enterDegraded c.1 c.2 else d) := by
    cases cs with
    | nil => exact none' e
    | cons c _ => exact Dev.Kin.ite (Dev.Kin.ite (Dev.Kin.refl e) (both e)) (one e c)
  unfold Dev.judge
  exact (Dev.Kin.hold2 d _).trans (act _ _)

theorem Dev.Kin.seeFaults (d : Dev) : Dev.Kin d d.seeFaults := by
  unfold Dev.seeFaults
  exact (Dev.Kin.faults' d _).trans (Dev.Kin.judge _)

theorem Dev.Kin.seeSdc (d : Dev) : Dev.Kin d d.seeSdc := by
  unfold Dev.seeSdc
  exact Dev.Kin.ite (Dev.Kin.put _ (SDC_STAT_SW .L) _ (by decide)) (Dev.Kin.refl d)

theorem Dev.Kin.seeSingle (d : Dev) : Dev.Kin d d.seeSingle := by
  unfold Dev.seeSingle
  refine Dev.Kin.ite (Dev.Kin.refl d) ?_
  exact (Dev.Kin.watchSaid' d _).trans (Dev.Kin.each _ _ _ (fun e p _ => (Dev.Sent.raiseAbout ..).kin))

/-- Everything the settling of the guard logic can do. -/
theorem Dev.Kin.guardSettle (d : Dev) : Dev.Kin d d.guardSettle := by
  unfold Dev.guardSettle
  exact ((((Dev.Kin.bezelAct d).trans (Dev.Kin.seeFaults _)).trans (Dev.Kin.safeExit _)).trans (Dev.Kin.seeSdc _)).trans
    (Dev.Kin.seeSingle _)

end Sys2Proof.Machine
end

