-- ==== Sys2Proof/Laws/Frames.lean ====
section
/-!
SUPPORT. What raising an event, sending a frame, the budget rule, the settling of the guard logic and of the stages leave
as it was, one lemma per part of the device, in the form that simp uses.
-/

namespace Sys2Proof.Machine

@[simp] theorem Dev.raise_build (d : Dev) (code src : Nat) (items : List Nat): (d.raise code src items).build = d.build := by rw [(Dev.Sent.raise d code src items).rest]
@[simp] theorem Dev.raise_role (d : Dev) (code src : Nat) (items : List Nat): (d.raise code src items).role = d.role := by rw [(Dev.Sent.raise d code src items).rest]
@[simp] theorem Dev.raise_staged (d : Dev) (code src : Nat) (items : List Nat): (d.raise code src items).staged = d.staged := by rw [(Dev.Sent.raise d code src items).rest]
@[simp] theorem Dev.raise_readData (d : Dev) (code src : Nat) (items : List Nat): (d.raise code src items).readData = d.readData := by rw [(Dev.Sent.raise d code src items).rest]
@[simp] theorem Dev.raise_now (d : Dev) (code src : Nat) (items : List Nat): (d.raise code src items).now = d.now := by rw [(Dev.Sent.raise d code src items).rest]
@[simp] theorem Dev.raise_mtick (d : Dev) (code src : Nat) (items : List Nat): (d.raise code src items).mtick = d.mtick := by rw [(Dev.Sent.raise d code src items).rest]
@[simp] theorem Dev.raise_draws (d : Dev) (code src : Nat) (items : List Nat): (d.raise code src items).draws = d.draws := by rw [(Dev.Sent.raise d code src items).rest]
@[simp] theorem Dev.raise_pw (d : Dev) (code src : Nat) (items : List Nat): (d.raise code src items).pw = d.pw := by rw [(Dev.Sent.raise d code src items).rest]
@[simp] theorem Dev.raise_win (d : Dev) (code src : Nat) (items : List Nat): (d.raise code src items).win = d.win := by rw [(Dev.Sent.raise d code src items).rest]
@[simp] theorem Dev.raise_cap (d : Dev) (code src : Nat) (items : List Nat): (d.raise code src items).cap = d.cap := by rw [(Dev.Sent.raise d code src items).rest]
@[simp] theorem Dev.raise_tb (d : Dev) (code src : Nat) (items : List Nat): (d.raise code src items).tb = d.tb := by rw [(Dev.Sent.raise d code src items).rest]
@[simp] theorem Dev.raise_auxL (d : Dev) (code src : Nat) (items : List Nat): (d.raise code src items).auxL = d.auxL := by rw [(Dev.Sent.raise d code src items).rest]
@[simp] theorem Dev.raise_auxU (d : Dev) (code src : Nat) (items : List Nat): (d.raise code src items).auxU = d.auxU := by rw [(Dev.Sent.raise d code src items).rest]
@[simp] theorem Dev.raise_owd (d : Dev) (code src : Nat) (items : List Nat): (d.raise code src items).owd = d.owd := by rw [(Dev.Sent.raise d code src items).rest]
@[simp] theorem Dev.raise_bal (d : Dev) (code src : Nat) (items : List Nat): (d.raise code src items).bal = d.bal := by rw [(Dev.Sent.raise d code src items).rest]
@[simp] theorem Dev.raise_calL (d : Dev) (code src : Nat) (items : List Nat): (d.raise code src items).calL = d.calL := by rw [(Dev.Sent.raise d code src items).rest]
@[simp] theorem Dev.raise_calU (d : Dev) (code src : Nat) (items : List Nat): (d.raise code src items).calU = d.calU := by rw [(Dev.Sent.raise d code src items).rest]
@[simp] theorem Dev.raise_imp (d : Dev) (code src : Nat) (items : List Nat): (d.raise code src items).imp = d.imp := by rw [(Dev.Sent.raise d code src items).rest]
@[simp] theorem Dev.raise_bdl (d : Dev) (code src : Nat) (items : List Nat): (d.raise code src items).bdl = d.bdl := by rw [(Dev.Sent.raise d code src items).rest]
@[simp] theorem Dev.raise_iic (d : Dev) (code src : Nat) (items : List Nat): (d.raise code src items).iic = d.iic := by rw [(Dev.Sent.raise d code src items).rest]
@[simp] theorem Dev.raise_bzlL (d : Dev) (code src : Nat) (items : List Nat): (d.raise code src items).bzlL = d.bzlL := by rw [(Dev.Sent.raise d code src items).rest]
@[simp] theorem Dev.raise_bzlU (d : Dev) (code src : Nat) (items : List Nat): (d.raise code src items).bzlU = d.bzlU := by rw [(Dev.Sent.raise d code src items).rest]
@[simp] theorem Dev.raise_saf (d : Dev) (code src : Nat) (items : List Nat): (d.raise code src items).saf = d.saf := by rw [(Dev.Sent.raise d code src items).rest]
@[simp] theorem Dev.raise_nvm (d : Dev) (code src : Nat) (items : List Nat): (d.raise code src items).nvm = d.nvm := by rw [(Dev.Sent.raise d code src items).rest]
@[simp] theorem Dev.raise_bst (d : Dev) (code src : Nat) (items : List Nat): (d.raise code src items).bst = d.bst := by rw [(Dev.Sent.raise d code src items).rest]
@[simp] theorem Dev.raise_lcs (d : Dev) (code src : Nat) (items : List Nat): (d.raise code src items).lcs = d.lcs := by rw [(Dev.Sent.raise d code src items).rest]
@[simp] theorem Dev.raise_fw (d : Dev) (code src : Nat) (items : List Nat): (d.raise code src items).fw = d.fw := by rw [(Dev.Sent.raise d code src items).rest]
@[simp] theorem Dev.raise_leg (d : Dev) (code src : Nat) (items : List Nat): (d.raise code src items).leg = d.leg := by rw [(Dev.Sent.raise d code src items).rest]
@[simp] theorem Dev.raise_fz (d : Dev) (code src : Nat) (items : List Nat): (d.raise code src items).fz = d.fz := by rw [(Dev.Sent.raise d code src items).rest]
@[simp] theorem Dev.raise_asks (d : Dev) (code src : Nat) (items : List Nat): (d.raise code src items).asks = d.asks := by rw [(Dev.Sent.raise d code src items).rest]
theorem Dev.raise_get (d : Dev) (code src : Nat) (items : List Nat) (f : Fld) (h : f.addr ∉ sendRegs) : (d.raise code src items).get f = d.get f := (Dev.Sent.raise d code src items).get f h
theorem Dev.raise_bit (d : Dev) (code src : Nat) (items : List Nat) (f : Fld) (h : f.addr ∉ sendRegs) : (d.raise code src items).bit f = d.bit f := (Dev.Sent.raise d code src items).bit f h
theorem Dev.raise_word (d : Dev) (code src : Nat) (items : List Nat) (a : Nat) (h : a ∉ sendRegs) : (d.raise code src items).word a = d.word a := (Dev.Sent.raise d code src items).word a h

@[simp] theorem Dev.raiseAbout_build (d : Dev) (pos code src : Nat) (items : List Nat): (d.raiseAbout pos code src items).build = d.build := by rw [(Dev.Sent.raiseAbout d pos code src items).rest]
@[simp] theorem Dev.raiseAbout_role (d : Dev) (pos code src : Nat) (items : List Nat): (d.raiseAbout pos code src items).role = d.role := by rw [(Dev.Sent.raiseAbout d pos code src items).rest]
@[simp] theorem Dev.raiseAbout_staged (d : Dev) (pos code src : Nat) (items : List Nat): (d.raiseAbout pos code src items).staged = d.staged := by rw [(Dev.Sent.raiseAbout d pos code src items).rest]
@[simp] theorem Dev.raiseAbout_readData (d : Dev) (pos code src : Nat) (items : List Nat): (d.raiseAbout pos code src items).readData = d.readData := by rw [(Dev.Sent.raiseAbout d pos code src items).rest]
@[simp] theorem Dev.raiseAbout_now (d : Dev) (pos code src : Nat) (items : List Nat): (d.raiseAbout pos code src items).now = d.now := by rw [(Dev.Sent.raiseAbout d pos code src items).rest]
@[simp] theorem Dev.raiseAbout_mtick (d : Dev) (pos code src : Nat) (items : List Nat): (d.raiseAbout pos code src items).mtick = d.mtick := by rw [(Dev.Sent.raiseAbout d pos code src items).rest]
@[simp] theorem Dev.raiseAbout_draws (d : Dev) (pos code src : Nat) (items : List Nat): (d.raiseAbout pos code src items).draws = d.draws := by rw [(Dev.Sent.raiseAbout d pos code src items).rest]
@[simp] theorem Dev.raiseAbout_pw (d : Dev) (pos code src : Nat) (items : List Nat): (d.raiseAbout pos code src items).pw = d.pw := by rw [(Dev.Sent.raiseAbout d pos code src items).rest]
@[simp] theorem Dev.raiseAbout_win (d : Dev) (pos code src : Nat) (items : List Nat): (d.raiseAbout pos code src items).win = d.win := by rw [(Dev.Sent.raiseAbout d pos code src items).rest]
@[simp] theorem Dev.raiseAbout_cap (d : Dev) (pos code src : Nat) (items : List Nat): (d.raiseAbout pos code src items).cap = d.cap := by rw [(Dev.Sent.raiseAbout d pos code src items).rest]
@[simp] theorem Dev.raiseAbout_tb (d : Dev) (pos code src : Nat) (items : List Nat): (d.raiseAbout pos code src items).tb = d.tb := by rw [(Dev.Sent.raiseAbout d pos code src items).rest]
@[simp] theorem Dev.raiseAbout_auxL (d : Dev) (pos code src : Nat) (items : List Nat): (d.raiseAbout pos code src items).auxL = d.auxL := by rw [(Dev.Sent.raiseAbout d pos code src items).rest]
@[simp] theorem Dev.raiseAbout_auxU (d : Dev) (pos code src : Nat) (items : List Nat): (d.raiseAbout pos code src items).auxU = d.auxU := by rw [(Dev.Sent.raiseAbout d pos code src items).rest]
@[simp] theorem Dev.raiseAbout_owd (d : Dev) (pos code src : Nat) (items : List Nat): (d.raiseAbout pos code src items).owd = d.owd := by rw [(Dev.Sent.raiseAbout d pos code src items).rest]
@[simp] theorem Dev.raiseAbout_bal (d : Dev) (pos code src : Nat) (items : List Nat): (d.raiseAbout pos code src items).bal = d.bal := by rw [(Dev.Sent.raiseAbout d pos code src items).rest]
@[simp] theorem Dev.raiseAbout_calL (d : Dev) (pos code src : Nat) (items : List Nat): (d.raiseAbout pos code src items).calL = d.calL := by rw [(Dev.Sent.raiseAbout d pos code src items).rest]
@[simp] theorem Dev.raiseAbout_calU (d : Dev) (pos code src : Nat) (items : List Nat): (d.raiseAbout pos code src items).calU = d.calU := by rw [(Dev.Sent.raiseAbout d pos code src items).rest]
@[simp] theorem Dev.raiseAbout_imp (d : Dev) (pos code src : Nat) (items : List Nat): (d.raiseAbout pos code src items).imp = d.imp := by rw [(Dev.Sent.raiseAbout d pos code src items).rest]
@[simp] theorem Dev.raiseAbout_bdl (d : Dev) (pos code src : Nat) (items : List Nat): (d.raiseAbout pos code src items).bdl = d.bdl := by rw [(Dev.Sent.raiseAbout d pos code src items).rest]
@[simp] theorem Dev.raiseAbout_iic (d : Dev) (pos code src : Nat) (items : List Nat): (d.raiseAbout pos code src items).iic = d.iic := by rw [(Dev.Sent.raiseAbout d pos code src items).rest]
@[simp] theorem Dev.raiseAbout_bzlL (d : Dev) (pos code src : Nat) (items : List Nat): (d.raiseAbout pos code src items).bzlL = d.bzlL := by rw [(Dev.Sent.raiseAbout d pos code src items).rest]
@[simp] theorem Dev.raiseAbout_bzlU (d : Dev) (pos code src : Nat) (items : List Nat): (d.raiseAbout pos code src items).bzlU = d.bzlU := by rw [(Dev.Sent.raiseAbout d pos code src items).rest]
@[simp] theorem Dev.raiseAbout_saf (d : Dev) (pos code src : Nat) (items : List Nat): (d.raiseAbout pos code src items).saf = d.saf := by rw [(Dev.Sent.raiseAbout d pos code src items).rest]
@[simp] theorem Dev.raiseAbout_nvm (d : Dev) (pos code src : Nat) (items : List Nat): (d.raiseAbout pos code src items).nvm = d.nvm := by rw [(Dev.Sent.raiseAbout d pos code src items).rest]
@[simp] theorem Dev.raiseAbout_bst (d : Dev) (pos code src : Nat) (items : List Nat): (d.raiseAbout pos code src items).bst = d.bst := by rw [(Dev.Sent.raiseAbout d pos code src items).rest]
@[simp] theorem Dev.raiseAbout_lcs (d : Dev) (pos code src : Nat) (items : List Nat): (d.raiseAbout pos code src items).lcs = d.lcs := by rw [(Dev.Sent.raiseAbout d pos code src items).rest]
@[simp] theorem Dev.raiseAbout_fw (d : Dev) (pos code src : Nat) (items : List Nat): (d.raiseAbout pos code src items).fw = d.fw := by rw [(Dev.Sent.raiseAbout d pos code src items).rest]
@[simp] theorem Dev.raiseAbout_leg (d : Dev) (pos code src : Nat) (items : List Nat): (d.raiseAbout pos code src items).leg = d.leg := by rw [(Dev.Sent.raiseAbout d pos code src items).rest]
@[simp] theorem Dev.raiseAbout_fz (d : Dev) (pos code src : Nat) (items : List Nat): (d.raiseAbout pos code src items).fz = d.fz := by rw [(Dev.Sent.raiseAbout d pos code src items).rest]
@[simp] theorem Dev.raiseAbout_asks (d : Dev) (pos code src : Nat) (items : List Nat): (d.raiseAbout pos code src items).asks = d.asks := by rw [(Dev.Sent.raiseAbout d pos code src items).rest]
theorem Dev.raiseAbout_get (d : Dev) (pos code src : Nat) (items : List Nat) (f : Fld) (h : f.addr ∉ sendRegs) : (d.raiseAbout pos code src items).get f = d.get f := (Dev.Sent.raiseAbout d pos code src items).get f h
theorem Dev.raiseAbout_bit (d : Dev) (pos code src : Nat) (items : List Nat) (f : Fld) (h : f.addr ∉ sendRegs) : (d.raiseAbout pos code src items).bit f = d.bit f := (Dev.Sent.raiseAbout d pos code src items).bit f h
theorem Dev.raiseAbout_word (d : Dev) (pos code src : Nat) (items : List Nat) (a : Nat) (h : a ∉ sendRegs) : (d.raiseAbout pos code src items).word a = d.word a := (Dev.Sent.raiseAbout d pos code src items).word a h

@[simp] theorem Dev.portSend_build (d : Dev) (p : Port) (src : Option Port) (b : Body): (d.portSend p src b).build = d.build := by rw [(Dev.Sent.portSend d p src b).rest]
@[simp] theorem Dev.portSend_role (d : Dev) (p : Port) (src : Option Port) (b : Body): (d.portSend p src b).role = d.role := by rw [(Dev.Sent.portSend d p src b).rest]
@[simp] theorem Dev.portSend_staged (d : Dev) (p : Port) (src : Option Port) (b : Body): (d.portSend p src b).staged = d.staged := by rw [(Dev.Sent.portSend d p src b).rest]
@[simp] theorem Dev.portSend_readData (d : Dev) (p : Port) (src : Option Port) (b : Body): (d.portSend p src b).readData = d.readData := by rw [(Dev.Sent.portSend d p src b).rest]
@[simp] theorem Dev.portSend_now (d : Dev) (p : Port) (src : Option Port) (b : Body): (d.portSend p src b).now = d.now := by rw [(Dev.Sent.portSend d p src b).rest]
@[simp] theorem Dev.portSend_mtick (d : Dev) (p : Port) (src : Option Port) (b : Body): (d.portSend p src b).mtick = d.mtick := by rw [(Dev.Sent.portSend d p src b).rest]
@[simp] theorem Dev.portSend_draws (d : Dev) (p : Port) (src : Option Port) (b : Body): (d.portSend p src b).draws = d.draws := by rw [(Dev.Sent.portSend d p src b).rest]
@[simp] theorem Dev.portSend_pw (d : Dev) (p : Port) (src : Option Port) (b : Body): (d.portSend p src b).pw = d.pw := by rw [(Dev.Sent.portSend d p src b).rest]
@[simp] theorem Dev.portSend_win (d : Dev) (p : Port) (src : Option Port) (b : Body): (d.portSend p src b).win = d.win := by rw [(Dev.Sent.portSend d p src b).rest]
@[simp] theorem Dev.portSend_cap (d : Dev) (p : Port) (src : Option Port) (b : Body): (d.portSend p src b).cap = d.cap := by rw [(Dev.Sent.portSend d p src b).rest]
@[simp] theorem Dev.portSend_tb (d : Dev) (p : Port) (src : Option Port) (b : Body): (d.portSend p src b).tb = d.tb := by rw [(Dev.Sent.portSend d p src b).rest]
@[simp] theorem Dev.portSend_auxL (d : Dev) (p : Port) (src : Option Port) (b : Body): (d.portSend p src b).auxL = d.auxL := by rw [(Dev.Sent.portSend d p src b).rest]
@[simp] theorem Dev.portSend_auxU (d : Dev) (p : Port) (src : Option Port) (b : Body): (d.portSend p src b).auxU = d.auxU := by rw [(Dev.Sent.portSend d p src b).rest]
@[simp] theorem Dev.portSend_owd (d : Dev) (p : Port) (src : Option Port) (b : Body): (d.portSend p src b).owd = d.owd := by rw [(Dev.Sent.portSend d p src b).rest]
@[simp] theorem Dev.portSend_bal (d : Dev) (p : Port) (src : Option Port) (b : Body): (d.portSend p src b).bal = d.bal := by rw [(Dev.Sent.portSend d p src b).rest]
@[simp] theorem Dev.portSend_calL (d : Dev) (p : Port) (src : Option Port) (b : Body): (d.portSend p src b).calL = d.calL := by rw [(Dev.Sent.portSend d p src b).rest]
@[simp] theorem Dev.portSend_calU (d : Dev) (p : Port) (src : Option Port) (b : Body): (d.portSend p src b).calU = d.calU := by rw [(Dev.Sent.portSend d p src b).rest]
@[simp] theorem Dev.portSend_imp (d : Dev) (p : Port) (src : Option Port) (b : Body): (d.portSend p src b).imp = d.imp := by rw [(Dev.Sent.portSend d p src b).rest]
@[simp] theorem Dev.portSend_bdl (d : Dev) (p : Port) (src : Option Port) (b : Body): (d.portSend p src b).bdl = d.bdl := by rw [(Dev.Sent.portSend d p src b).rest]
@[simp] theorem Dev.portSend_iic (d : Dev) (p : Port) (src : Option Port) (b : Body): (d.portSend p src b).iic = d.iic := by rw [(Dev.Sent.portSend d p src b).rest]
@[simp] theorem Dev.portSend_bzlL (d : Dev) (p : Port) (src : Option Port) (b : Body): (d.portSend p src b).bzlL = d.bzlL := by rw [(Dev.Sent.portSend d p src b).rest]
@[simp] theorem Dev.portSend_bzlU (d : Dev) (p : Port) (src : Option Port) (b : Body): (d.portSend p src b).bzlU = d.bzlU := by rw [(Dev.Sent.portSend d p src b).rest]
@[simp] theorem Dev.portSend_saf (d : Dev) (p : Port) (src : Option Port) (b : Body): (d.portSend p src b).saf = d.saf := by rw [(Dev.Sent.portSend d p src b).rest]
@[simp] theorem Dev.portSend_nvm (d : Dev) (p : Port) (src : Option Port) (b : Body): (d.portSend p src b).nvm = d.nvm := by rw [(Dev.Sent.portSend d p src b).rest]
@[simp] theorem Dev.portSend_bst (d : Dev) (p : Port) (src : Option Port) (b : Body): (d.portSend p src b).bst = d.bst := by rw [(Dev.Sent.portSend d p src b).rest]
@[simp] theorem Dev.portSend_lcs (d : Dev) (p : Port) (src : Option Port) (b : Body): (d.portSend p src b).lcs = d.lcs := by rw [(Dev.Sent.portSend d p src b).rest]
@[simp] theorem Dev.portSend_fw (d : Dev) (p : Port) (src : Option Port) (b : Body): (d.portSend p src b).fw = d.fw := by rw [(Dev.Sent.portSend d p src b).rest]
@[simp] theorem Dev.portSend_leg (d : Dev) (p : Port) (src : Option Port) (b : Body): (d.portSend p src b).leg = d.leg := by rw [(Dev.Sent.portSend d p src b).rest]
@[simp] theorem Dev.portSend_fz (d : Dev) (p : Port) (src : Option Port) (b : Body): (d.portSend p src b).fz = d.fz := by rw [(Dev.Sent.portSend d p src b).rest]
@[simp] theorem Dev.portSend_asks (d : Dev) (p : Port) (src : Option Port) (b : Body): (d.portSend p src b).asks = d.asks := by rw [(Dev.Sent.portSend d p src b).rest]
theorem Dev.portSend_get (d : Dev) (p : Port) (src : Option Port) (b : Body) (f : Fld) (h : f.addr ∉ sendRegs) : (d.portSend p src b).get f = d.get f := (Dev.Sent.portSend d p src b).get f h
theorem Dev.portSend_bit (d : Dev) (p : Port) (src : Option Port) (b : Body) (f : Fld) (h : f.addr ∉ sendRegs) : (d.portSend p src b).bit f = d.bit f := (Dev.Sent.portSend d p src b).bit f h
theorem Dev.portSend_word (d : Dev) (p : Port) (src : Option Port) (b : Body) (a : Nat) (h : a ∉ sendRegs) : (d.portSend p src b).word a = d.word a := (Dev.Sent.portSend d p src b).word a h

@[simp] theorem Dev.sendEvents_build (d : Dev) : (d.sendEvents).build = d.build := by rw [(Dev.Sent.sendEvents d).rest]
@[simp] theorem Dev.sendEvents_role (d : Dev) : (d.sendEvents).role = d.role := by rw [(Dev.Sent.sendEvents d).rest]
@[simp] theorem Dev.sendEvents_staged (d : Dev) : (d.sendEvents).staged = d.staged := by rw [(Dev.Sent.sendEvents d).rest]
@[simp] theorem Dev.sendEvents_readData (d : Dev) : (d.sendEvents).readData = d.readData := by rw [(Dev.Sent.sendEvents d).rest]
@[simp] theorem Dev.sendEvents_now (d : Dev) : (d.sendEvents).now = d.now := by rw [(Dev.Sent.sendEvents d).rest]
@[simp] theorem Dev.sendEvents_mtick (d : Dev) : (d.sendEvents).mtick = d.mtick := by rw [(Dev.Sent.sendEvents d).rest]
@[simp] theorem Dev.sendEvents_draws (d : Dev) : (d.sendEvents).draws = d.draws := by rw [(Dev.Sent.sendEvents d).rest]
@[simp] theorem Dev.sendEvents_pw (d : Dev) : (d.sendEvents).pw = d.pw := by rw [(Dev.Sent.sendEvents d).rest]
@[simp] theorem Dev.sendEvents_win (d : Dev) : (d.sendEvents).win = d.win := by rw [(Dev.Sent.sendEvents d).rest]
@[simp] theorem Dev.sendEvents_cap (d : Dev) : (d.sendEvents).cap = d.cap := by rw [(Dev.Sent.sendEvents d).rest]
@[simp] theorem Dev.sendEvents_tb (d : Dev) : (d.sendEvents).tb = d.tb := by rw [(Dev.Sent.sendEvents d).rest]
@[simp] theorem Dev.sendEvents_auxL (d : Dev) : (d.sendEvents).auxL = d.auxL := by rw [(Dev.Sent.sendEvents d).rest]
@[simp] theorem Dev.sendEvents_auxU (d : Dev) : (d.sendEvents).auxU = d.auxU := by rw [(Dev.Sent.sendEvents d).rest]
@[simp] theorem Dev.sendEvents_owd (d : Dev) : (d.sendEvents).owd = d.owd := by rw [(Dev.Sent.sendEvents d).rest]
@[simp] theorem Dev.sendEvents_bal (d : Dev) : (d.sendEvents).bal = d.bal := by rw [(Dev.Sent.sendEvents d).rest]
@[simp] theorem Dev.sendEvents_calL (d : Dev) : (d.sendEvents).calL = d.calL := by rw [(Dev.Sent.sendEvents d).rest]
@[simp] theorem Dev.sendEvents_calU (d : Dev) : (d.sendEvents).calU = d.calU := by rw [(Dev.Sent.sendEvents d).rest]
@[simp] theorem Dev.sendEvents_imp (d : Dev) : (d.sendEvents).imp = d.imp := by rw [(Dev.Sent.sendEvents d).rest]
@[simp] theorem Dev.sendEvents_bdl (d : Dev) : (d.sendEvents).bdl = d.bdl := by rw [(Dev.Sent.sendEvents d).rest]
@[simp] theorem Dev.sendEvents_iic (d : Dev) : (d.sendEvents).iic = d.iic := by rw [(Dev.Sent.sendEvents d).rest]
@[simp] theorem Dev.sendEvents_bzlL (d : Dev) : (d.sendEvents).bzlL = d.bzlL := by rw [(Dev.Sent.sendEvents d).rest]
@[simp] theorem Dev.sendEvents_bzlU (d : Dev) : (d.sendEvents).bzlU = d.bzlU := by rw [(Dev.Sent.sendEvents d).rest]
@[simp] theorem Dev.sendEvents_saf (d : Dev) : (d.sendEvents).saf = d.saf := by rw [(Dev.Sent.sendEvents d).rest]
@[simp] theorem Dev.sendEvents_nvm (d : Dev) : (d.sendEvents).nvm = d.nvm := by rw [(Dev.Sent.sendEvents d).rest]
@[simp] theorem Dev.sendEvents_bst (d : Dev) : (d.sendEvents).bst = d.bst := by rw [(Dev.Sent.sendEvents d).rest]
@[simp] theorem Dev.sendEvents_lcs (d : Dev) : (d.sendEvents).lcs = d.lcs := by rw [(Dev.Sent.sendEvents d).rest]
@[simp] theorem Dev.sendEvents_fw (d : Dev) : (d.sendEvents).fw = d.fw := by rw [(Dev.Sent.sendEvents d).rest]
@[simp] theorem Dev.sendEvents_leg (d : Dev) : (d.sendEvents).leg = d.leg := by rw [(Dev.Sent.sendEvents d).rest]
@[simp] theorem Dev.sendEvents_fz (d : Dev) : (d.sendEvents).fz = d.fz := by rw [(Dev.Sent.sendEvents d).rest]
@[simp] theorem Dev.sendEvents_asks (d : Dev) : (d.sendEvents).asks = d.asks := by rw [(Dev.Sent.sendEvents d).rest]
theorem Dev.sendEvents_get (d : Dev) (f : Fld) (h : f.addr ∉ sendRegs) : (d.sendEvents).get f = d.get f := (Dev.Sent.sendEvents d).get f h
theorem Dev.sendEvents_bit (d : Dev) (f : Fld) (h : f.addr ∉ sendRegs) : (d.sendEvents).bit f = d.bit f := (Dev.Sent.sendEvents d).bit f h
theorem Dev.sendEvents_word (d : Dev) (a : Nat) (h : a ∉ sendRegs) : (d.sendEvents).word a = d.word a := (Dev.Sent.sendEvents d).word a h

@[simp] theorem Dev.hostEvent_build (d : Dev) (r : EventRec): (d.hostEvent r).build = d.build := by rw [(Dev.Sent.hostEvent d r).rest]
@[simp] theorem Dev.hostEvent_role (d : Dev) (r : EventRec): (d.hostEvent r).role = d.role := by rw [(Dev.Sent.hostEvent d r).rest]
@[simp] theorem Dev.hostEvent_staged (d : Dev) (r : EventRec): (d.hostEvent r).staged = d.staged := by rw [(Dev.Sent.hostEvent d r).rest]
@[simp] theorem Dev.hostEvent_readData (d : Dev) (r : EventRec): (d.hostEvent r).readData = d.readData := by rw [(Dev.Sent.hostEvent d r).rest]
@[simp] theorem Dev.hostEvent_now (d : Dev) (r : EventRec): (d.hostEvent r).now = d.now := by rw [(Dev.Sent.hostEvent d r).rest]
@[simp] theorem Dev.hostEvent_mtick (d : Dev) (r : EventRec): (d.hostEvent r).mtick = d.mtick := by rw [(Dev.Sent.hostEvent d r).rest]
@[simp] theorem Dev.hostEvent_draws (d : Dev) (r : EventRec): (d.hostEvent r).draws = d.draws := by rw [(Dev.Sent.hostEvent d r).rest]
@[simp] theorem Dev.hostEvent_pw (d : Dev) (r : EventRec): (d.hostEvent r).pw = d.pw := by rw [(Dev.Sent.hostEvent d r).rest]
@[simp] theorem Dev.hostEvent_win (d : Dev) (r : EventRec): (d.hostEvent r).win = d.win := by rw [(Dev.Sent.hostEvent d r).rest]
@[simp] theorem Dev.hostEvent_cap (d : Dev) (r : EventRec): (d.hostEvent r).cap = d.cap := by rw [(Dev.Sent.hostEvent d r).rest]
@[simp] theorem Dev.hostEvent_tb (d : Dev) (r : EventRec): (d.hostEvent r).tb = d.tb := by rw [(Dev.Sent.hostEvent d r).rest]
@[simp] theorem Dev.hostEvent_auxL (d : Dev) (r : EventRec): (d.hostEvent r).auxL = d.auxL := by rw [(Dev.Sent.hostEvent d r).rest]
@[simp] theorem Dev.hostEvent_auxU (d : Dev) (r : EventRec): (d.hostEvent r).auxU = d.auxU := by rw [(Dev.Sent.hostEvent d r).rest]
@[simp] theorem Dev.hostEvent_owd (d : Dev) (r : EventRec): (d.hostEvent r).owd = d.owd := by rw [(Dev.Sent.hostEvent d r).rest]
@[simp] theorem Dev.hostEvent_bal (d : Dev) (r : EventRec): (d.hostEvent r).bal = d.bal := by rw [(Dev.Sent.hostEvent d r).rest]
@[simp] theorem Dev.hostEvent_calL (d : Dev) (r : EventRec): (d.hostEvent r).calL = d.calL := by rw [(Dev.Sent.hostEvent d r).rest]
@[simp] theorem Dev.hostEvent_calU (d : Dev) (r : EventRec): (d.hostEvent r).calU = d.calU := by rw [(Dev.Sent.hostEvent d r).rest]
@[simp] theorem Dev.hostEvent_imp (d : Dev) (r : EventRec): (d.hostEvent r).imp = d.imp := by rw [(Dev.Sent.hostEvent d r).rest]
@[simp] theorem Dev.hostEvent_bdl (d : Dev) (r : EventRec): (d.hostEvent r).bdl = d.bdl := by rw [(Dev.Sent.hostEvent d r).rest]
@[simp] theorem Dev.hostEvent_iic (d : Dev) (r : EventRec): (d.hostEvent r).iic = d.iic := by rw [(Dev.Sent.hostEvent d r).rest]
@[simp] theorem Dev.hostEvent_bzlL (d : Dev) (r : EventRec): (d.hostEvent r).bzlL = d.bzlL := by rw [(Dev.Sent.hostEvent d r).rest]
@[simp] theorem Dev.hostEvent_bzlU (d : Dev) (r : EventRec): (d.hostEvent r).bzlU = d.bzlU := by rw [(Dev.Sent.hostEvent d r).rest]
@[simp] theorem Dev.hostEvent_saf (d : Dev) (r : EventRec): (d.hostEvent r).saf = d.saf := by rw [(Dev.Sent.hostEvent d r).rest]
@[simp] theorem Dev.hostEvent_nvm (d : Dev) (r : EventRec): (d.hostEvent r).nvm = d.nvm := by rw [(Dev.Sent.hostEvent d r).rest]
@[simp] theorem Dev.hostEvent_bst (d : Dev) (r : EventRec): (d.hostEvent r).bst = d.bst := by rw [(Dev.Sent.hostEvent d r).rest]
@[simp] theorem Dev.hostEvent_lcs (d : Dev) (r : EventRec): (d.hostEvent r).lcs = d.lcs := by rw [(Dev.Sent.hostEvent d r).rest]
@[simp] theorem Dev.hostEvent_fw (d : Dev) (r : EventRec): (d.hostEvent r).fw = d.fw := by rw [(Dev.Sent.hostEvent d r).rest]
@[simp] theorem Dev.hostEvent_leg (d : Dev) (r : EventRec): (d.hostEvent r).leg = d.leg := by rw [(Dev.Sent.hostEvent d r).rest]
@[simp] theorem Dev.hostEvent_fz (d : Dev) (r : EventRec): (d.hostEvent r).fz = d.fz := by rw [(Dev.Sent.hostEvent d r).rest]
@[simp] theorem Dev.hostEvent_asks (d : Dev) (r : EventRec): (d.hostEvent r).asks = d.asks := by rw [(Dev.Sent.hostEvent d r).rest]
theorem Dev.hostEvent_get (d : Dev) (r : EventRec) (f : Fld) (h : f.addr ∉ sendRegs) : (d.hostEvent r).get f = d.get f := (Dev.Sent.hostEvent d r).get f h
theorem Dev.hostEvent_bit (d : Dev) (r : EventRec) (f : Fld) (h : f.addr ∉ sendRegs) : (d.hostEvent r).bit f = d.bit f := (Dev.Sent.hostEvent d r).bit f h
theorem Dev.hostEvent_word (d : Dev) (r : EventRec) (a : Nat) (h : a ∉ sendRegs) : (d.hostEvent r).word a = d.word a := (Dev.Sent.hostEvent d r).word a h

@[simp] theorem Dev.ringWrite_build (d : Dev) (r n : Nat) (bs : List Byte): (d.ringWrite r n bs).build = d.build := by rw [(Dev.Sent.ringWrite d r n bs).rest]
@[simp] theorem Dev.ringWrite_role (d : Dev) (r n : Nat) (bs : List Byte): (d.ringWrite r n bs).role = d.role := by rw [(Dev.Sent.ringWrite d r n bs).rest]
@[simp] theorem Dev.ringWrite_staged (d : Dev) (r n : Nat) (bs : List Byte): (d.ringWrite r n bs).staged = d.staged := by rw [(Dev.Sent.ringWrite d r n bs).rest]
@[simp] theorem Dev.ringWrite_readData (d : Dev) (r n : Nat) (bs : List Byte): (d.ringWrite r n bs).readData = d.readData := by rw [(Dev.Sent.ringWrite d r n bs).rest]
@[simp] theorem Dev.ringWrite_now (d : Dev) (r n : Nat) (bs : List Byte): (d.ringWrite r n bs).now = d.now := by rw [(Dev.Sent.ringWrite d r n bs).rest]
@[simp] theorem Dev.ringWrite_mtick (d : Dev) (r n : Nat) (bs : List Byte): (d.ringWrite r n bs).mtick = d.mtick := by rw [(Dev.Sent.ringWrite d r n bs).rest]
@[simp] theorem Dev.ringWrite_draws (d : Dev) (r n : Nat) (bs : List Byte): (d.ringWrite r n bs).draws = d.draws := by rw [(Dev.Sent.ringWrite d r n bs).rest]
@[simp] theorem Dev.ringWrite_pw (d : Dev) (r n : Nat) (bs : List Byte): (d.ringWrite r n bs).pw = d.pw := by rw [(Dev.Sent.ringWrite d r n bs).rest]
@[simp] theorem Dev.ringWrite_win (d : Dev) (r n : Nat) (bs : List Byte): (d.ringWrite r n bs).win = d.win := by rw [(Dev.Sent.ringWrite d r n bs).rest]
@[simp] theorem Dev.ringWrite_cap (d : Dev) (r n : Nat) (bs : List Byte): (d.ringWrite r n bs).cap = d.cap := by rw [(Dev.Sent.ringWrite d r n bs).rest]
@[simp] theorem Dev.ringWrite_tb (d : Dev) (r n : Nat) (bs : List Byte): (d.ringWrite r n bs).tb = d.tb := by rw [(Dev.Sent.ringWrite d r n bs).rest]
@[simp] theorem Dev.ringWrite_auxL (d : Dev) (r n : Nat) (bs : List Byte): (d.ringWrite r n bs).auxL = d.auxL := by rw [(Dev.Sent.ringWrite d r n bs).rest]
@[simp] theorem Dev.ringWrite_auxU (d : Dev) (r n : Nat) (bs : List Byte): (d.ringWrite r n bs).auxU = d.auxU := by rw [(Dev.Sent.ringWrite d r n bs).rest]
@[simp] theorem Dev.ringWrite_owd (d : Dev) (r n : Nat) (bs : List Byte): (d.ringWrite r n bs).owd = d.owd := by rw [(Dev.Sent.ringWrite d r n bs).rest]
@[simp] theorem Dev.ringWrite_bal (d : Dev) (r n : Nat) (bs : List Byte): (d.ringWrite r n bs).bal = d.bal := by rw [(Dev.Sent.ringWrite d r n bs).rest]
@[simp] theorem Dev.ringWrite_calL (d : Dev) (r n : Nat) (bs : List Byte): (d.ringWrite r n bs).calL = d.calL := by rw [(Dev.Sent.ringWrite d r n bs).rest]
@[simp] theorem Dev.ringWrite_calU (d : Dev) (r n : Nat) (bs : List Byte): (d.ringWrite r n bs).calU = d.calU := by rw [(Dev.Sent.ringWrite d r n bs).rest]
@[simp] theorem Dev.ringWrite_imp (d : Dev) (r n : Nat) (bs : List Byte): (d.ringWrite r n bs).imp = d.imp := by rw [(Dev.Sent.ringWrite d r n bs).rest]
@[simp] theorem Dev.ringWrite_bdl (d : Dev) (r n : Nat) (bs : List Byte): (d.ringWrite r n bs).bdl = d.bdl := by rw [(Dev.Sent.ringWrite d r n bs).rest]
@[simp] theorem Dev.ringWrite_iic (d : Dev) (r n : Nat) (bs : List Byte): (d.ringWrite r n bs).iic = d.iic := by rw [(Dev.Sent.ringWrite d r n bs).rest]
@[simp] theorem Dev.ringWrite_bzlL (d : Dev) (r n : Nat) (bs : List Byte): (d.ringWrite r n bs).bzlL = d.bzlL := by rw [(Dev.Sent.ringWrite d r n bs).rest]
@[simp] theorem Dev.ringWrite_bzlU (d : Dev) (r n : Nat) (bs : List Byte): (d.ringWrite r n bs).bzlU = d.bzlU := by rw [(Dev.Sent.ringWrite d r n bs).rest]
@[simp] theorem Dev.ringWrite_saf (d : Dev) (r n : Nat) (bs : List Byte): (d.ringWrite r n bs).saf = d.saf := by rw [(Dev.Sent.ringWrite d r n bs).rest]
@[simp] theorem Dev.ringWrite_nvm (d : Dev) (r n : Nat) (bs : List Byte): (d.ringWrite r n bs).nvm = d.nvm := by rw [(Dev.Sent.ringWrite d r n bs).rest]
@[simp] theorem Dev.ringWrite_bst (d : Dev) (r n : Nat) (bs : List Byte): (d.ringWrite r n bs).bst = d.bst := by rw [(Dev.Sent.ringWrite d r n bs).rest]
@[simp] theorem Dev.ringWrite_lcs (d : Dev) (r n : Nat) (bs : List Byte): (d.ringWrite r n bs).lcs = d.lcs := by rw [(Dev.Sent.ringWrite d r n bs).rest]
@[simp] theorem Dev.ringWrite_fw (d : Dev) (r n : Nat) (bs : List Byte): (d.ringWrite r n bs).fw = d.fw := by rw [(Dev.Sent.ringWrite d r n bs).rest]
@[simp] theorem Dev.ringWrite_leg (d : Dev) (r n : Nat) (bs : List Byte): (d.ringWrite r n bs).leg = d.leg := by rw [(Dev.Sent.ringWrite d r n bs).rest]
@[simp] theorem Dev.ringWrite_fz (d : Dev) (r n : Nat) (bs : List Byte): (d.ringWrite r n bs).fz = d.fz := by rw [(Dev.Sent.ringWrite d r n bs).rest]
@[simp] theorem Dev.ringWrite_asks (d : Dev) (r n : Nat) (bs : List Byte): (d.ringWrite r n bs).asks = d.asks := by rw [(Dev.Sent.ringWrite d r n bs).rest]
theorem Dev.ringWrite_get (d : Dev) (r n : Nat) (bs : List Byte) (f : Fld) (h : f.addr ∉ sendRegs) : (d.ringWrite r n bs).get f = d.get f := (Dev.Sent.ringWrite d r n bs).get f h
theorem Dev.ringWrite_bit (d : Dev) (r n : Nat) (bs : List Byte) (f : Fld) (h : f.addr ∉ sendRegs) : (d.ringWrite r n bs).bit f = d.bit f := (Dev.Sent.ringWrite d r n bs).bit f h
theorem Dev.ringWrite_word (d : Dev) (r n : Nat) (bs : List Byte) (a : Nat) (h : a ∉ sendRegs) : (d.ringWrite r n bs).word a = d.word a := (Dev.Sent.ringWrite d r n bs).word a h

@[simp] theorem Dev.commandDone_build (d : Dev) : (d.commandDone).build = d.build := by rw [(Dev.Moved.commandDone d).rest]
@[simp] theorem Dev.commandDone_role (d : Dev) : (d.commandDone).role = d.role := by rw [(Dev.Moved.commandDone d).rest]
@[simp] theorem Dev.commandDone_staged (d : Dev) : (d.commandDone).staged = d.staged := by rw [(Dev.Moved.commandDone d).rest]
@[simp] theorem Dev.commandDone_readData (d : Dev) : (d.commandDone).readData = d.readData := by rw [(Dev.Moved.commandDone d).rest]
@[simp] theorem Dev.commandDone_now (d : Dev) : (d.commandDone).now = d.now := by rw [(Dev.Moved.commandDone d).rest]
@[simp] theorem Dev.commandDone_mtick (d : Dev) : (d.commandDone).mtick = d.mtick := by rw [(Dev.Moved.commandDone d).rest]
@[simp] theorem Dev.commandDone_draws (d : Dev) : (d.commandDone).draws = d.draws := by rw [(Dev.Moved.commandDone d).rest]
@[simp] theorem Dev.commandDone_win (d : Dev) : (d.commandDone).win = d.win := by rw [(Dev.Moved.commandDone d).rest]
@[simp] theorem Dev.commandDone_cap (d : Dev) : (d.commandDone).cap = d.cap := by rw [(Dev.Moved.commandDone d).rest]
@[simp] theorem Dev.commandDone_tb (d : Dev) : (d.commandDone).tb = d.tb := by rw [(Dev.Moved.commandDone d).rest]
@[simp] theorem Dev.commandDone_auxL (d : Dev) : (d.commandDone).auxL = d.auxL := by rw [(Dev.Moved.commandDone d).rest]
@[simp] theorem Dev.commandDone_auxU (d : Dev) : (d.commandDone).auxU = d.auxU := by rw [(Dev.Moved.commandDone d).rest]
@[simp] theorem Dev.commandDone_owd (d : Dev) : (d.commandDone).owd = d.owd := by rw [(Dev.Moved.commandDone d).rest]
@[simp] theorem Dev.commandDone_bal (d : Dev) : (d.commandDone).bal = d.bal := by rw [(Dev.Moved.commandDone d).rest]
@[simp] theorem Dev.commandDone_calL (d : Dev) : (d.commandDone).calL = d.calL := by rw [(Dev.Moved.commandDone d).rest]
@[simp] theorem Dev.commandDone_calU (d : Dev) : (d.commandDone).calU = d.calU := by rw [(Dev.Moved.commandDone d).rest]
@[simp] theorem Dev.commandDone_imp (d : Dev) : (d.commandDone).imp = d.imp := by rw [(Dev.Moved.commandDone d).rest]
@[simp] theorem Dev.commandDone_bdl (d : Dev) : (d.commandDone).bdl = d.bdl := by rw [(Dev.Moved.commandDone d).rest]
@[simp] theorem Dev.commandDone_iic (d : Dev) : (d.commandDone).iic = d.iic := by rw [(Dev.Moved.commandDone d).rest]
@[simp] theorem Dev.commandDone_bzlL (d : Dev) : (d.commandDone).bzlL = d.bzlL := by rw [(Dev.Moved.commandDone d).rest]
@[simp] theorem Dev.commandDone_bzlU (d : Dev) : (d.commandDone).bzlU = d.bzlU := by rw [(Dev.Moved.commandDone d).rest]
@[simp] theorem Dev.commandDone_saf (d : Dev) : (d.commandDone).saf = d.saf := by rw [(Dev.Moved.commandDone d).rest]
@[simp] theorem Dev.commandDone_nvm (d : Dev) : (d.commandDone).nvm = d.nvm := by rw [(Dev.Moved.commandDone d).rest]
@[simp] theorem Dev.commandDone_bst (d : Dev) : (d.commandDone).bst = d.bst := by rw [(Dev.Moved.commandDone d).rest]
@[simp] theorem Dev.commandDone_lcs (d : Dev) : (d.commandDone).lcs = d.lcs := by rw [(Dev.Moved.commandDone d).rest]
@[simp] theorem Dev.commandDone_fw (d : Dev) : (d.commandDone).fw = d.fw := by rw [(Dev.Moved.commandDone d).rest]
@[simp] theorem Dev.commandDone_leg (d : Dev) : (d.commandDone).leg = d.leg := by rw [(Dev.Moved.commandDone d).rest]
@[simp] theorem Dev.commandDone_fz (d : Dev) : (d.commandDone).fz = d.fz := by rw [(Dev.Moved.commandDone d).rest]
@[simp] theorem Dev.commandDone_asks (d : Dev) : (d.commandDone).asks = d.asks := by rw [(Dev.Moved.commandDone d).rest]
theorem Dev.commandDone_get (d : Dev) (f : Fld) (h : f.addr ∉ moveRegs) : (d.commandDone).get f = d.get f := (Dev.Moved.commandDone d).get f h
theorem Dev.commandDone_bit (d : Dev) (f : Fld) (h : f.addr ∉ moveRegs) : (d.commandDone).bit f = d.bit f := (Dev.Moved.commandDone d).bit f h
theorem Dev.commandDone_word (d : Dev) (a : Nat) (h : a ∉ moveRegs) : (d.commandDone).word a = d.word a := (Dev.Moved.commandDone d).word a h

@[simp] theorem Dev.budgetEval_build (d : Dev) (trig : Nat): (d.budgetEval trig).build = d.build := by rw [(Dev.Moved.budgetEval d trig).rest]
@[simp] theorem Dev.budgetEval_role (d : Dev) (trig : Nat): (d.budgetEval trig).role = d.role := by rw [(Dev.Moved.budgetEval d trig).rest]
@[simp] theorem Dev.budgetEval_staged (d : Dev) (trig : Nat): (d.budgetEval trig).staged = d.staged := by rw [(Dev.Moved.budgetEval d trig).rest]
@[simp] theorem Dev.budgetEval_readData (d : Dev) (trig : Nat): (d.budgetEval trig).readData = d.readData := by rw [(Dev.Moved.budgetEval d trig).rest]
@[simp] theorem Dev.budgetEval_now (d : Dev) (trig : Nat): (d.budgetEval trig).now = d.now := by rw [(Dev.Moved.budgetEval d trig).rest]
@[simp] theorem Dev.budgetEval_mtick (d : Dev) (trig : Nat): (d.budgetEval trig).mtick = d.mtick := by rw [(Dev.Moved.budgetEval d trig).rest]
@[simp] theorem Dev.budgetEval_draws (d : Dev) (trig : Nat): (d.budgetEval trig).draws = d.draws := by rw [(Dev.Moved.budgetEval d trig).rest]
@[simp] theorem Dev.budgetEval_win (d : Dev) (trig : Nat): (d.budgetEval trig).win = d.win := by rw [(Dev.Moved.budgetEval d trig).rest]
@[simp] theorem Dev.budgetEval_cap (d : Dev) (trig : Nat): (d.budgetEval trig).cap = d.cap := by rw [(Dev.Moved.budgetEval d trig).rest]
@[simp] theorem Dev.budgetEval_tb (d : Dev) (trig : Nat): (d.budgetEval trig).tb = d.tb := by rw [(Dev.Moved.budgetEval d trig).rest]
@[simp] theorem Dev.budgetEval_auxL (d : Dev) (trig : Nat): (d.budgetEval trig).auxL = d.auxL := by rw [(Dev.Moved.budgetEval d trig).rest]
@[simp] theorem Dev.budgetEval_auxU (d : Dev) (trig : Nat): (d.budgetEval trig).auxU = d.auxU := by rw [(Dev.Moved.budgetEval d trig).rest]
@[simp] theorem Dev.budgetEval_owd (d : Dev) (trig : Nat): (d.budgetEval trig).owd = d.owd := by rw [(Dev.Moved.budgetEval d trig).rest]
@[simp] theorem Dev.budgetEval_bal (d : Dev) (trig : Nat): (d.budgetEval trig).bal = d.bal := by rw [(Dev.Moved.budgetEval d trig).rest]
@[simp] theorem Dev.budgetEval_calL (d : Dev) (trig : Nat): (d.budgetEval trig).calL = d.calL := by rw [(Dev.Moved.budgetEval d trig).rest]
@[simp] theorem Dev.budgetEval_calU (d : Dev) (trig : Nat): (d.budgetEval trig).calU = d.calU := by rw [(Dev.Moved.budgetEval d trig).rest]
@[simp] theorem Dev.budgetEval_imp (d : Dev) (trig : Nat): (d.budgetEval trig).imp = d.imp := by rw [(Dev.Moved.budgetEval d trig).rest]
@[simp] theorem Dev.budgetEval_bdl (d : Dev) (trig : Nat): (d.budgetEval trig).bdl = d.bdl := by rw [(Dev.Moved.budgetEval d trig).rest]
@[simp] theorem Dev.budgetEval_iic (d : Dev) (trig : Nat): (d.budgetEval trig).iic = d.iic := by rw [(Dev.Moved.budgetEval d trig).rest]
@[simp] theorem Dev.budgetEval_bzlL (d : Dev) (trig : Nat): (d.budgetEval trig).bzlL = d.bzlL := by rw [(Dev.Moved.budgetEval d trig).rest]
@[simp] theorem Dev.budgetEval_bzlU (d : Dev) (trig : Nat): (d.budgetEval trig).bzlU = d.bzlU := by rw [(Dev.Moved.budgetEval d trig).rest]
@[simp] theorem Dev.budgetEval_saf (d : Dev) (trig : Nat): (d.budgetEval trig).saf = d.saf := by rw [(Dev.Moved.budgetEval d trig).rest]
@[simp] theorem Dev.budgetEval_nvm (d : Dev) (trig : Nat): (d.budgetEval trig).nvm = d.nvm := by rw [(Dev.Moved.budgetEval d trig).rest]
@[simp] theorem Dev.budgetEval_bst (d : Dev) (trig : Nat): (d.budgetEval trig).bst = d.bst := by rw [(Dev.Moved.budgetEval d trig).rest]
@[simp] theorem Dev.budgetEval_lcs (d : Dev) (trig : Nat): (d.budgetEval trig).lcs = d.lcs := by rw [(Dev.Moved.budgetEval d trig).rest]
@[simp] theorem Dev.budgetEval_fw (d : Dev) (trig : Nat): (d.budgetEval trig).fw = d.fw := by rw [(Dev.Moved.budgetEval d trig).rest]
@[simp] theorem Dev.budgetEval_leg (d : Dev) (trig : Nat): (d.budgetEval trig).leg = d.leg := by rw [(Dev.Moved.budgetEval d trig).rest]
@[simp] theorem Dev.budgetEval_fz (d : Dev) (trig : Nat): (d.budgetEval trig).fz = d.fz := by rw [(Dev.Moved.budgetEval d trig).rest]
@[simp] theorem Dev.budgetEval_asks (d : Dev) (trig : Nat): (d.budgetEval trig).asks = d.asks := by rw [(Dev.Moved.budgetEval d trig).rest]
theorem Dev.budgetEval_get (d : Dev) (trig : Nat) (f : Fld) (h : f.addr ∉ moveRegs) : (d.budgetEval trig).get f = d.get f := (Dev.Moved.budgetEval d trig).get f h
theorem Dev.budgetEval_bit (d : Dev) (trig : Nat) (f : Fld) (h : f.addr ∉ moveRegs) : (d.budgetEval trig).bit f = d.bit f := (Dev.Moved.budgetEval d trig).bit f h
theorem Dev.budgetEval_word (d : Dev) (trig : Nat) (a : Nat) (h : a ∉ moveRegs) : (d.budgetEval trig).word a = d.word a := (Dev.Moved.budgetEval d trig).word a h

@[simp] theorem Dev.guardSettle_build (d : Dev) : (d.guardSettle).build = d.build := by rw [(Dev.Kin.guardSettle d).rest]
@[simp] theorem Dev.guardSettle_role (d : Dev) : (d.guardSettle).role = d.role := by rw [(Dev.Kin.guardSettle d).rest]
@[simp] theorem Dev.guardSettle_staged (d : Dev) : (d.guardSettle).staged = d.staged := by rw [(Dev.Kin.guardSettle d).rest]
@[simp] theorem Dev.guardSettle_readData (d : Dev) : (d.guardSettle).readData = d.readData := by rw [(Dev.Kin.guardSettle d).rest]
@[simp] theorem Dev.guardSettle_now (d : Dev) : (d.guardSettle).now = d.now := by rw [(Dev.Kin.guardSettle d).rest]
@[simp] theorem Dev.guardSettle_mtick (d : Dev) : (d.guardSettle).mtick = d.mtick := by rw [(Dev.Kin.guardSettle d).rest]
@[simp] theorem Dev.guardSettle_cap (d : Dev) : (d.guardSettle).cap = d.cap := by rw [(Dev.Kin.guardSettle d).rest]
@[simp] theorem Dev.guardSettle_nvm (d : Dev) : (d.guardSettle).nvm = d.nvm := by rw [(Dev.Kin.guardSettle d).rest]
@[simp] theorem Dev.guardSettle_bst (d : Dev) : (d.guardSettle).bst = d.bst := by rw [(Dev.Kin.guardSettle d).rest]
@[simp] theorem Dev.guardSettle_lcs (d : Dev) : (d.guardSettle).lcs = d.lcs := by rw [(Dev.Kin.guardSettle d).rest]
@[simp] theorem Dev.guardSettle_fw (d : Dev) : (d.guardSettle).fw = d.fw := by rw [(Dev.Kin.guardSettle d).rest]
@[simp] theorem Dev.guardSettle_leg (d : Dev) : (d.guardSettle).leg = d.leg := by rw [(Dev.Kin.guardSettle d).rest]
@[simp] theorem Dev.guardSettle_fz (d : Dev) : (d.guardSettle).fz = d.fz := by rw [(Dev.Kin.guardSettle d).rest]
@[simp] theorem Dev.guardSettle_asks (d : Dev) : (d.guardSettle).asks = d.asks := by rw [(Dev.Kin.guardSettle d).rest]
theorem Dev.guardSettle_get (d : Dev) (f : Fld) (h : settleReg f.addr = false) : (d.guardSettle).get f = d.get f := (Dev.Kin.guardSettle d).get f h
theorem Dev.guardSettle_bit (d : Dev) (f : Fld) (h : settleReg f.addr = false) : (d.guardSettle).bit f = d.bit f := (Dev.Kin.guardSettle d).bit f h
theorem Dev.guardSettle_word (d : Dev) (a : Nat) (h : settleReg a = false) : (d.guardSettle).word a = d.word a := (Dev.Kin.guardSettle d).word a h

@[simp] theorem Dev.seeStages_build (d : Dev) : (d.seeStages).build = d.build := by rw [(Dev.Kin.seeStages d).rest]
@[simp] theorem Dev.seeStages_role (d : Dev) : (d.seeStages).role = d.role := by rw [(Dev.Kin.seeStages d).rest]
@[simp] theorem Dev.seeStages_staged (d : Dev) : (d.seeStages).staged = d.staged := by rw [(Dev.Kin.seeStages d).rest]
@[simp] theorem Dev.seeStages_readData (d : Dev) : (d.seeStages).readData = d.readData := by rw [(Dev.Kin.seeStages d).rest]
@[simp] theorem Dev.seeStages_now (d : Dev) : (d.seeStages).now = d.now := by rw [(Dev.Kin.seeStages d).rest]
@[simp] theorem Dev.seeStages_mtick (d : Dev) : (d.seeStages).mtick = d.mtick := by rw [(Dev.Kin.seeStages d).rest]
@[simp] theorem Dev.seeStages_cap (d : Dev) : (d.seeStages).cap = d.cap := by rw [(Dev.Kin.seeStages d).rest]
@[simp] theorem Dev.seeStages_nvm (d : Dev) : (d.seeStages).nvm = d.nvm := by rw [(Dev.Kin.seeStages d).rest]
@[simp] theorem Dev.seeStages_bst (d : Dev) : (d.seeStages).bst = d.bst := by rw [(Dev.Kin.seeStages d).rest]
@[simp] theorem Dev.seeStages_lcs (d : Dev) : (d.seeStages).lcs = d.lcs := by rw [(Dev.Kin.seeStages d).rest]
@[simp] theorem Dev.seeStages_fw (d : Dev) : (d.seeStages).fw = d.fw := by rw [(Dev.Kin.seeStages d).rest]
@[simp] theorem Dev.seeStages_leg (d : Dev) : (d.seeStages).leg = d.leg := by rw [(Dev.Kin.seeStages d).rest]
@[simp] theorem Dev.seeStages_fz (d : Dev) : (d.seeStages).fz = d.fz := by rw [(Dev.Kin.seeStages d).rest]
@[simp] theorem Dev.seeStages_asks (d : Dev) : (d.seeStages).asks = d.asks := by rw [(Dev.Kin.seeStages d).rest]
theorem Dev.seeStages_get (d : Dev) (f : Fld) (h : settleReg f.addr = false) : (d.seeStages).get f = d.get f := (Dev.Kin.seeStages d).get f h
theorem Dev.seeStages_bit (d : Dev) (f : Fld) (h : settleReg f.addr = false) : (d.seeStages).bit f = d.bit f := (Dev.Kin.seeStages d).bit f h
theorem Dev.seeStages_word (d : Dev) (a : Nat) (h : settleReg a = false) : (d.seeStages).word a = d.word a := (Dev.Kin.seeStages d).word a h

@[simp] theorem Dev.balCells_build (d : Dev) : (d.balCells).build = d.build := by rw [(Dev.Kin.balCells d).rest]
@[simp] theorem Dev.balCells_role (d : Dev) : (d.balCells).role = d.role := by rw [(Dev.Kin.balCells d).rest]
@[simp] theorem Dev.balCells_staged (d : Dev) : (d.balCells).staged = d.staged := by rw [(Dev.Kin.balCells d).rest]
@[simp] theorem Dev.balCells_readData (d : Dev) : (d.balCells).readData = d.readData := by rw [(Dev.Kin.balCells d).rest]
@[simp] theorem Dev.balCells_now (d : Dev) : (d.balCells).now = d.now := by rw [(Dev.Kin.balCells d).rest]
@[simp] theorem Dev.balCells_mtick (d : Dev) : (d.balCells).mtick = d.mtick := by rw [(Dev.Kin.balCells d).rest]
@[simp] theorem Dev.balCells_cap (d : Dev) : (d.balCells).cap = d.cap := by rw [(Dev.Kin.balCells d).rest]
@[simp] theorem Dev.balCells_nvm (d : Dev) : (d.balCells).nvm = d.nvm := by rw [(Dev.Kin.balCells d).rest]
@[simp] theorem Dev.balCells_bst (d : Dev) : (d.balCells).bst = d.bst := by rw [(Dev.Kin.balCells d).rest]
@[simp] theorem Dev.balCells_lcs (d : Dev) : (d.balCells).lcs = d.lcs := by rw [(Dev.Kin.balCells d).rest]
@[simp] theorem Dev.balCells_fw (d : Dev) : (d.balCells).fw = d.fw := by rw [(Dev.Kin.balCells d).rest]
@[simp] theorem Dev.balCells_leg (d : Dev) : (d.balCells).leg = d.leg := by rw [(Dev.Kin.balCells d).rest]
@[simp] theorem Dev.balCells_fz (d : Dev) : (d.balCells).fz = d.fz := by rw [(Dev.Kin.balCells d).rest]
@[simp] theorem Dev.balCells_asks (d : Dev) : (d.balCells).asks = d.asks := by rw [(Dev.Kin.balCells d).rest]
theorem Dev.balCells_get (d : Dev) (f : Fld) (h : settleReg f.addr = false) : (d.balCells).get f = d.get f := (Dev.Kin.balCells d).get f h
theorem Dev.balCells_bit (d : Dev) (f : Fld) (h : settleReg f.addr = false) : (d.balCells).bit f = d.bit f := (Dev.Kin.balCells d).bit f h
theorem Dev.balCells_word (d : Dev) (a : Nat) (h : settleReg a = false) : (d.balCells).word a = d.word a := (Dev.Kin.balCells d).word a h

end Sys2Proof.Machine
end

