-- ==== Sys2Proof/Laws/Grow.lean ====
section
/-!
SUPPORT. What the work of the windows, the modes, the groups and the blocks leaves as it was, however much else it does:
the build and the role, time, the fuses and what the NVM holds; and that what was sent and the kept events only grow.
-/

set_option linter.unusedTactic false
set_option linter.unreachableTactic false

namespace Sys2Proof.Machine

/-- What the work of the blocks leaves alone, and what it only adds to. -/
structure Dev.Grow (d e : Dev) : Prop where
  build : e.build = d.build
  role  : e.role = d.role
  now   : e.now = d.now
  mtick : e.mtick = d.mtick
  read  : e.readData = d.readData
  nvm   : e.nvm = d.nvm
  bst   : e.bst = d.bst
  lcs   : e.lcs = d.lcs
  fw    : e.fw = d.fw
  fz    : e.fz = d.fz
  asks  : e.asks = d.asks
  off   : e.pw.off = d.pw.off
  warm  : e.pw.warm = d.pw.warm
  vstk  : e.pw.vstkOk = d.pw.vstkOk
  start : e.pw.starting = d.pw.starting
  ship  : e.pw.shipEntry = d.pw.shipEntry
  out   : ∃ l, e.out = l ++ d.out
  evq   : d.spn.evq <+: e.spn.evq

theorem Dev.Grow.refl (d : Dev) : Dev.Grow d d :=
  ⟨rfl, rfl, rfl, rfl, rfl, rfl, rfl, rfl, rfl, rfl, rfl, rfl, rfl, rfl, rfl, rfl, ⟨[], rfl⟩, List.prefix_rfl⟩

theorem Dev.Grow.trans {d e f : Dev} (h : Dev.Grow d e) (g : Dev.Grow e f) : Dev.Grow d f where
  build := g.build.trans h.build
  role := g.role.trans h.role
  now := g.now.trans h.now
  mtick := g.mtick.trans h.mtick
  read := g.read.trans h.read
  nvm := g.nvm.trans h.nvm
  bst := g.bst.trans h.bst
  lcs := g.lcs.trans h.lcs
  fw := g.fw.trans h.fw
  fz := g.fz.trans h.fz
  asks := g.asks.trans h.asks
  off := g.off.trans h.off
  warm := g.warm.trans h.warm
  vstk := g.vstk.trans h.vstk
  start := g.start.trans h.start
  ship := g.ship.trans h.ship
  out := by
    obtain ⟨l, hl⟩ := h.out; obtain ⟨m, hm⟩ := g.out
    exact ⟨m ++ l, by rw [hm, hl, List.append_assoc]⟩
  evq := h.evq.trans g.evq

/-- A device that differs only in what `Grow` does not name. -/
theorem Dev.Grow.upd {d e f : Dev} (h : Dev.Grow d e) (h1 : f.build = e.build) (h2 : f.role = e.role) (h3 : f.now = e.now)
    (h4 : f.mtick = e.mtick) (h5 : f.readData = e.readData) (h6 : f.nvm = e.nvm) (h7 : f.bst = e.bst)
    (h8 : f.lcs = e.lcs) (h9 : f.fw = e.fw) (h10 : f.fz = e.fz) (h11 : f.asks = e.asks) (h12 : f.pw.off = e.pw.off)
    (h13 : f.pw.warm = e.pw.warm) (h14 : f.pw.vstkOk = e.pw.vstkOk)
    (hs : f.pw.starting = e.pw.starting) (hp : f.pw.shipEntry = e.pw.shipEntry) (h15 : f.out = e.out)
    (h16 : f.spn.evq = e.spn.evq) : Dev.Grow d f :=
  h.trans ⟨h1, h2, h3, h4, h5, h6, h7, h8, h9, h10, h11, h12, h13, h14, hs, hp, ⟨[], h15⟩, by rw [h16]⟩

theorem Dev.Grow.part {d e : Dev} {xbuild xrole xregs xstaged xreadData xout xnow xmtick xdraws xpw xspn xhd xhif xburl xwin xcap xtb xauxL xauxU xowd xbal xcalL xcalU ximp xbdl xiic xbzlL xbzlU xsaf xnvm xbst xlcs xfw xleg xfz xasks}
    (h : Dev.Grow d e) (hbuild : e.build = xbuild) (hrole : e.role = xrole) (hreadData : e.readData = xreadData) (hout : e.out = xout) (hnow : e.now = xnow) (hmtick : e.mtick = xmtick) (hnvm : e.nvm = xnvm) (hbst : e.bst = xbst) (hlcs : e.lcs = xlcs) (hfw : e.fw = xfw) (hfz : e.fz = xfz) (hasks : e.asks = xasks) (hoff : e.pw.off = xpw.off) (hwarm : e.pw.warm = xpw.warm)
    (hvstk : e.pw.vstkOk = xpw.vstkOk) (hstart : e.pw.starting = xpw.starting)
    (hship : e.pw.shipEntry = xpw.shipEntry) (hevq : e.spn.evq = xspn.evq) :
    Dev.Grow d (Dev.mk xbuild xrole xregs xstaged xreadData xout xnow xmtick xdraws xpw xspn xhd xhif xburl xwin xcap xtb xauxL xauxU xowd xbal xcalL xcalU ximp xbdl xiic xbzlL xbzlU xsaf xnvm xbst xlcs xfw xleg xfz xasks) :=
  h.upd hbuild.symm hrole.symm hnow.symm hmtick.symm hreadData.symm hnvm.symm hbst.symm hlcs.symm hfw.symm hfz.symm
    hasks.symm hoff.symm hwarm.symm hvstk.symm hstart.symm hship.symm hout.symm hevq.symm

theorem Dev.Kin.grow {d e : Dev} (h : Dev.Kin d e) : Dev.Grow d e where
  build := by rw [h.rest]
  role := by rw [h.rest]
  now := by rw [h.rest]
  mtick := by rw [h.rest]
  read := by rw [h.rest]
  nvm := by rw [h.rest]
  bst := by rw [h.rest]
  lcs := by rw [h.rest]
  fw := by rw [h.rest]
  fz := by rw [h.rest]
  asks := by rw [h.rest]
  off := by rw [h.pw]
  warm := by rw [h.pw]
  vstk := by rw [h.pw]
  start := by rw [h.pw]
  ship := by rw [h.pw]
  out := h.out
  evq := h.evq

theorem Dev.Grow.setWord {d e : Dev} (a : Nat) (v : Word) (h : Dev.Grow d e) : Dev.Grow d (e.setWord a v) :=
  h.upd rfl rfl rfl rfl rfl rfl rfl rfl rfl rfl rfl rfl rfl rfl rfl rfl rfl rfl

theorem Dev.Grow.put {d e : Dev} (f : Fld) (v : Nat) (h : Dev.Grow d e) : Dev.Grow d (e.put f v) := Dev.Grow.setWord _ _ h
theorem Dev.Grow.putB {d e : Dev} (f : Fld) (v : Bool) (h : Dev.Grow d e) : Dev.Grow d (e.putB f v) := Dev.Grow.setWord _ _ h
theorem Dev.Grow.putS {d e : Dev} (f : Fld) (v : Int) (h : Dev.Grow d e) : Dev.Grow d (e.putS f v) := Dev.Grow.setWord _ _ h
theorem Dev.Grow.countSat {d e : Dev} (f : Fld) (v : Nat) (h : Dev.Grow d e) : Dev.Grow d (e.countSat f v) := Dev.Grow.setWord _ _ h
theorem Dev.Grow.countMod {d e : Dev} (f : Fld) (v : Nat) (h : Dev.Grow d e) : Dev.Grow d (e.countMod f v) := Dev.Grow.setWord _ _ h
theorem Dev.Grow.put64 {d e : Dev} (f g : Fld) (v : Nat) (h : Dev.Grow d e) : Dev.Grow d (e.put64 f g v) :=
  Dev.Grow.put _ _ (Dev.Grow.put _ _ h)
theorem Dev.Grow.setStaged {d e : Dev} (a : Nat) (v : Word) (h : Dev.Grow d e) : Dev.Grow d (e.setStaged a v) :=
  h.upd rfl rfl rfl rfl rfl rfl rfl rfl rfl rfl rfl rfl rfl rfl rfl rfl rfl rfl
theorem Dev.Grow.emit {d e : Dev} (o : Output) (h : Dev.Grow d e) : Dev.Grow d (e.emit o) :=
  h.trans (Dev.Kin.emit e o).grow

theorem Dev.Grow.foldl {α : Type} {d : Dev} (f : Dev → α → Dev) (hf : ∀ e x, Dev.Grow d e → Dev.Grow d (f e x))
    (xs : List α) {e : Dev} (h : Dev.Grow d e) : Dev.Grow d (xs.foldl f e) := by
  induction xs generalizing e with
  | nil => exact h
  | cons x rest ih => exact ih (hf e x h)

theorem Dev.Grow.each {α : Type} {d e : Dev} (xs : List α) (f : Dev → α → Dev) (h : Dev.Grow d e)
    (hf : ∀ e x, Dev.Grow d e → Dev.Grow d (f e x)) : Dev.Grow d (e.each xs f) := Dev.Grow.foldl f hf xs h

theorem Dev.Grow.ite {d e f : Dev} {c : Prop} [Decidable c] (h : Dev.Grow d e) (g : Dev.Grow d f) :
    Dev.Grow d (if c then e else f) := by split <;> assumption

theorem Dev.Grow.ite2 {β : Type} {d : Dev} {p r : β × Dev} {c : Prop} [Decidable c] (h : Dev.Grow d p.2)
    (g : Dev.Grow d r.2) : Dev.Grow d (if c then p else r).2 := by split <;> assumption

theorem Dev.Grow.foldlSnd {α β : Type} {d : Dev} (f : β × Dev → α → β × Dev)
    (hf : ∀ acc x, Dev.Grow d acc.2 → Dev.Grow d (f acc x).2) (xs : List α) {acc : β × Dev} (h : Dev.Grow d acc.2) :
    Dev.Grow d (xs.foldl f acc).2 := by
  induction xs generalizing acc with
  | nil => exact h
  | cons x rest ih => exact ih (hf acc x h)

theorem Dev.Grow.foldlFst {α β : Type} {d : Dev} (f : Dev × β → α → Dev × β)
    (hf : ∀ acc x, Dev.Grow d acc.1 → Dev.Grow d (f acc x).1) (xs : List α) {acc : Dev × β} (h : Dev.Grow d acc.1) :
    Dev.Grow d (xs.foldl f acc).1 := by
  induction xs generalizing acc with
  | nil => exact h
  | cons x rest ih => exact ih (hf acc x h)

theorem Dev.Grow.when {d e : Dev} (c : Bool) (f : Dev → Dev) (h : Dev.Grow d e) (g : Dev.Grow d (f e)) :
    Dev.Grow d (e.when c f) := by unfold Dev.when; split <;> assumption

theorem Dev.Grow.applyGroup {d e : Dev} (base : Nat) (g : Nat) (h : Dev.Grow d e) :
    Dev.Grow d (e.applyGroup base g) := by
  unfold Sys2Proof.Machine.Dev.applyGroup
  try dsimp only
  repeat' first
    | with_reducible first
      | assumption
      | exact Dev.Grow.refl _
      | apply Dev.Grow.setStaged
      | apply Dev.Grow.setWord
      | apply Dev.Grow.each
    | intro _
    | split
    | refine Dev.Grow.part ?_ rfl rfl rfl rfl rfl rfl rfl rfl rfl rfl rfl rfl rfl rfl rfl rfl rfl rfl
    | apply Dev.Grow.ite

theorem Dev.Grow.acceptGroup {d e : Dev} (base : Nat) (g : Nat) (h : Dev.Grow d e) :
    Dev.Grow d (e.acceptGroup base g) := by
  unfold Sys2Proof.Machine.Dev.acceptGroup
  try dsimp only
  repeat' first
    | with_reducible first
      | assumption
      | exact Dev.Grow.refl _
      | apply Dev.Grow.applyGroup
      | apply Dev.Grow.countMod
      | apply Dev.Grow.put
    | intro _
    | split
    | refine Dev.Grow.part ?_ rfl rfl rfl rfl rfl rfl rfl rfl rfl rfl rfl rfl rfl rfl rfl rfl rfl rfl
    | apply Dev.Grow.ite

theorem Dev.Grow.activitiesStop {d e : Dev} (sweepResult : Nat) (pause : Nat) (h : Dev.Grow d e) :
    Dev.Grow d (e.activitiesStop sweepResult pause) := h.trans (Dev.Kin.activitiesStop ..).grow

theorem Dev.Grow.addFlag {d e : Dev} (n : Nat) (bit : Nat) (h : Dev.Grow d e) :
    Dev.Grow d (e.addFlag n bit) := by
  unfold Sys2Proof.Machine.Dev.addFlag
  try dsimp only
  repeat' first
    | with_reducible first
      | assumption
      | exact Dev.Grow.refl _
      | apply Dev.Grow.put
    | intro _
    | split
    | refine Dev.Grow.part ?_ rfl rfl rfl rfl rfl rfl rfl rfl rfl rfl rfl rfl rfl rfl rfl rfl rfl rfl
    | apply Dev.Grow.ite

theorem Dev.Grow.auxEntry {d e : Dev} (a : Afe) (e' : Nat) (h : Dev.Grow d e) :
    Dev.Grow d (e.auxEntry a e') := h.trans (Dev.Kin.auxEntry ..).grow

theorem Dev.Grow.auxBeginPass {d e : Dev} (a : Afe) (h : Dev.Grow d e) :
    Dev.Grow d (e.auxBeginPass a) := by
  unfold Sys2Proof.Machine.Dev.auxBeginPass
  try dsimp only
  repeat' first
    | with_reducible first
      | assumption
      | exact Dev.Grow.refl _
      | apply Dev.Grow.auxEntry
    | intro _
    | split
    | refine Dev.Grow.part ?_ rfl rfl rfl rfl rfl rfl rfl rfl rfl rfl rfl rfl rfl rfl rfl rfl rfl rfl
    | apply Dev.Grow.ite

theorem Dev.Grow.auxSettle {d e : Dev} (a : Afe) (h : Dev.Grow d e) :
    Dev.Grow d (e.auxSettle a) := h.trans (Dev.Kin.auxSettle ..).grow

theorem Dev.Grow.setAux {d e : Dev} (a : Afe) (x : AuxSt) (h : Dev.Grow d e) :
    Dev.Grow d (e.setAux a x) := h.trans (Dev.Kin.setAux ..).grow

theorem Dev.Grow.auxConfigured {d e : Dev} (a : Afe) (oldLoop : Nat) (h : Dev.Grow d e) :
    Dev.Grow d (e.auxConfigured a oldLoop) := by
  unfold Sys2Proof.Machine.Dev.auxConfigured
  try dsimp only
  repeat' first
    | with_reducible first
      | assumption
      | exact Dev.Grow.refl _
      | apply Dev.Grow.auxSettle
      | apply Dev.Grow.put
      | apply Dev.Grow.setAux
      | apply Dev.Grow.each
    | intro _
    | split
    | refine Dev.Grow.part ?_ rfl rfl rfl rfl rfl rfl rfl rfl rfl rfl rfl rfl rfl rfl rfl rfl rfl rfl
    | apply Dev.Grow.ite

theorem Dev.Grow.auxDown {d e : Dev} (a : Afe) (h : Dev.Grow d e) :
    Dev.Grow d (e.auxDown a) := h.trans (Dev.Kin.auxDown ..).grow

theorem Dev.Grow.auxTo {d e : Dev} (a : Afe) (ph : AuxPhase) (h : Dev.Grow d e) :
    Dev.Grow d (e.auxTo a ph) := h.trans (Dev.Kin.auxTo ..).grow

theorem Dev.Grow.auxStart {d e : Dev} (a : Afe) (e' : Nat) (h : Dev.Grow d e) :
    Dev.Grow d (e.auxStart a e') := by
  unfold Sys2Proof.Machine.Dev.auxStart
  try dsimp only
  repeat' first
    | with_reducible first
      | assumption
      | exact Dev.Grow.refl _
      | apply Dev.Grow.auxTo
      | apply Dev.Grow.setAux
    | intro _
    | split
    | refine Dev.Grow.part ?_ rfl rfl rfl rfl rfl rfl rfl rfl rfl rfl rfl rfl rfl rfl rfl rfl rfl rfl
    | apply Dev.Grow.ite

theorem Dev.Grow.auxStop {d e : Dev} (a : Afe) (h : Dev.Grow d e) :
    Dev.Grow d (e.auxStop a) := h.trans (Dev.Kin.auxStop ..).grow

theorem Dev.Grow.plausOpen {d e : Dev} (views : List (Nat × Nat)) (a : Afe) (h : Dev.Grow d e) :
    Dev.Grow d (e.plausOpen views a) := by
  unfold Sys2Proof.Machine.Dev.plausOpen
  try dsimp only
  repeat' first
    | with_reducible first
      | assumption
      | exact Dev.Grow.refl _
      | apply Dev.Grow.putB
      | apply Dev.Grow.setAux
    | intro _
    | split
    | refine Dev.Grow.part ?_ rfl rfl rfl rfl rfl rfl rfl rfl rfl rfl rfl rfl rfl rfl rfl rfl rfl rfl
    | apply Dev.Grow.ite

theorem Dev.Grow.auxWindow {d e : Dev} (views : List (Nat × Nat)) (a : Afe) (h : Dev.Grow d e) :
    Dev.Grow d (e.auxWindow views a) := by
  unfold Sys2Proof.Machine.Dev.auxWindow
  try dsimp only
  repeat' first
    | with_reducible first
      | assumption
      | exact Dev.Grow.refl _
      | apply Dev.Grow.auxStart
      | apply Dev.Grow.plausOpen
    | intro _
    | split
    | refine Dev.Grow.part ?_ rfl rfl rfl rfl rfl rfl rfl rfl rfl rfl rfl rfl rfl rfl rfl rfl rfl rfl
    | apply Dev.Grow.ite

theorem Dev.Grow.cellStart {d e : Dev} (n : Nat) (h : Dev.Grow d e) :
    Dev.Grow d (e.cellStart n) := by
  unfold Sys2Proof.Machine.Dev.cellStart
  try dsimp only
  repeat' first
    | with_reducible first
      | assumption
      | exact Dev.Grow.refl _
      | apply Dev.Grow.put
    | intro _
    | split
    | refine Dev.Grow.part ?_ rfl rfl rfl rfl rfl rfl rfl rfl rfl rfl rfl rfl rfl rfl rfl rfl rfl rfl
    | apply Dev.Grow.ite

theorem Dev.Grow.raise {d e : Dev} (code : Nat) (src : Nat) (items : List Nat) (h : Dev.Grow d e) :
    Dev.Grow d (e.raise code src items) := h.trans (Dev.Sent.raise ..).kin.grow

theorem Dev.Grow.setpoints {d e : Dev} (a : Afe) (h : Dev.Grow d e) :
    Dev.Grow d (e.setpoints a) := by
  unfold Sys2Proof.Machine.Dev.setpoints
  try dsimp only
  repeat' first
    | with_reducible first
      | assumption
      | exact Dev.Grow.refl _
      | apply Dev.Grow.put
      | apply Dev.Grow.putB
      | apply Dev.Grow.each
    | intro _
    | split
    | refine Dev.Grow.part ?_ rfl rfl rfl rfl rfl rfl rfl rfl rfl rfl rfl rfl rfl rfl rfl rfl rfl rfl
    | apply Dev.Grow.ite

theorem Dev.Grow.balActivate {d e : Dev} (h : Dev.Grow d e) :
    Dev.Grow d (e.balActivate) := by
  unfold Sys2Proof.Machine.Dev.balActivate
  try dsimp only
  repeat' first
    | with_reducible first
      | assumption
      | exact Dev.Grow.refl _
      | apply Dev.Grow.cellStart
      | apply Dev.Grow.put
      | apply Dev.Grow.putB
      | apply Dev.Grow.raise
      | apply Dev.Grow.setpoints
      | apply Dev.Grow.each
    | intro _
    | split
    | refine Dev.Grow.part ?_ rfl rfl rfl rfl rfl rfl rfl rfl rfl rfl rfl rfl rfl rfl rfl rfl rfl rfl
    | apply Dev.Grow.ite

theorem Dev.Grow.balCells {d e : Dev} (h : Dev.Grow d e) :
    Dev.Grow d (e.balCells) := h.trans (Dev.Kin.balCells ..).grow

theorem Dev.Grow.balEnd {d e : Dev} (cause : Nat) (h : Dev.Grow d e) :
    Dev.Grow d (e.balEnd cause) := h.trans (Dev.Kin.balEnd ..).grow

theorem Dev.Grow.balInterrupt {d e : Dev} (bit : Nat) (h : Dev.Grow d e) :
    Dev.Grow d (e.balInterrupt bit) := h.trans (Dev.Kin.balInterrupt ..).grow

theorem Dev.Grow.derate {d e : Dev} (a : Afe) (h : Dev.Grow d e) :
    Dev.Grow d (e.derate a) := by
  unfold Sys2Proof.Machine.Dev.derate
  try dsimp only
  repeat' first
    | with_reducible first
      | assumption
      | exact Dev.Grow.refl _
      | apply Dev.Grow.raise
      | apply Dev.Grow.setpoints
      | apply Dev.Grow.foldl
      | apply Dev.Grow.foldlSnd
      | apply Dev.Grow.foldlFst
    | intro _
    | split
    | refine Dev.Grow.part ?_ rfl rfl rfl rfl rfl rfl rfl rfl rfl rfl rfl rfl rfl rfl rfl rfl rfl rfl
    | apply Dev.Grow.ite

theorem Dev.Grow.balPeriod {d e : Dev} (h : Dev.Grow d e) :
    Dev.Grow d (e.balPeriod) := by
  unfold Sys2Proof.Machine.Dev.balPeriod
  try dsimp only
  repeat' first
    | with_reducible first
      | assumption
      | exact Dev.Grow.refl _
      | apply Dev.Grow.balCells
      | apply Dev.Grow.balEnd
      | apply Dev.Grow.balInterrupt
      | apply Dev.Grow.countMod
      | apply Dev.Grow.derate
      | apply Dev.Grow.put
      | apply Dev.Grow.putB
      | apply Dev.Grow.raise
    | intro _
    | split
    | refine Dev.Grow.part ?_ rfl rfl rfl rfl rfl rfl rfl rfl rfl rfl rfl rfl rfl rfl rfl rfl rfl rfl
    | apply Dev.Grow.ite

theorem Dev.Grow.balPlanChanged {d e : Dev} (old : List (Word × Word)) (h : Dev.Grow d e) :
    Dev.Grow d (e.balPlanChanged old) := by
  unfold Sys2Proof.Machine.Dev.balPlanChanged
  try dsimp only
  repeat' first
    | with_reducible first
      | assumption
      | exact Dev.Grow.refl _
      | apply Dev.Grow.cellStart
      | apply Dev.Grow.each
    | intro _
    | split
    | refine Dev.Grow.part ?_ rfl rfl rfl rfl rfl rfl rfl rfl rfl rfl rfl rfl rfl rfl rfl rfl rfl rfl
    | apply Dev.Grow.ite

theorem Dev.Grow.jrequest {d e : Dev} (j : Nat) (cls : Nat) (named : Nat) (cell : Nat) (h : Dev.Grow d e) :
    Dev.Grow d (e.jrequest j cls named cell) := by
  unfold Sys2Proof.Machine.Dev.jrequest
  try dsimp only
  repeat' first
    | with_reducible first
      | assumption
      | exact Dev.Grow.refl _
    | intro _
    | split
    | refine Dev.Grow.part ?_ rfl rfl rfl rfl rfl rfl rfl rfl rfl rfl rfl rfl rfl rfl rfl rfl rfl rfl
    | apply Dev.Grow.ite

theorem Dev.Grow.probeFailed {d e : Dev} (n : Nat) (h : Dev.Grow d e) :
    Dev.Grow d (e.probeFailed n) := by
  unfold Sys2Proof.Machine.Dev.probeFailed
  try dsimp only
  repeat' first
    | with_reducible first
      | assumption
      | exact Dev.Grow.refl _
      | apply Dev.Grow.jrequest
    | intro _
    | split
    | refine Dev.Grow.part ?_ rfl rfl rfl rfl rfl rfl rfl rfl rfl rfl rfl rfl rfl rfl rfl rfl rfl rfl
    | apply Dev.Grow.ite

theorem Dev.Grow.stageTest {d e : Dev} (w : WinIn) (len : Nat) (n : Nat) (h : Dev.Grow d e) :
    Dev.Grow d (e.stageTest w len n) := by
  unfold Sys2Proof.Machine.Dev.stageTest
  try dsimp only
  repeat' first
    | with_reducible first
      | assumption
      | exact Dev.Grow.refl _
      | apply Dev.Grow.probeFailed
      | apply Dev.Grow.put
      | apply Dev.Grow.raise
    | intro _
    | split
    | refine Dev.Grow.part ?_ rfl rfl rfl rfl rfl rfl rfl rfl rfl rfl rfl rfl rfl rfl rfl rfl rfl rfl
    | apply Dev.Grow.ite

theorem Dev.Grow.cellDone {d e : Dev} (n : Nat) (h : Dev.Grow d e) :
    Dev.Grow d (e.cellDone n) := by
  unfold Sys2Proof.Machine.Dev.cellDone
  try dsimp only
  repeat' first
    | with_reducible first
      | assumption
      | exact Dev.Grow.refl _
      | apply Dev.Grow.put
      | apply Dev.Grow.raise
    | intro _
    | split
    | refine Dev.Grow.part ?_ rfl rfl rfl rfl rfl rfl rfl rfl rfl rfl rfl rfl rfl rfl rfl rfl rfl rfl
    | apply Dev.Grow.ite

theorem Dev.Grow.voltageTarget {d e : Dev} (quiet : Bool) (n : Nat) (h : Dev.Grow d e) :
    Dev.Grow d (e.voltageTarget quiet n) := by
  unfold Sys2Proof.Machine.Dev.voltageTarget
  try dsimp only
  repeat' first
    | with_reducible first
      | assumption
      | exact Dev.Grow.refl _
      | apply Dev.Grow.cellDone
    | intro _
    | split
    | refine Dev.Grow.part ?_ rfl rfl rfl rfl rfl rfl rfl rfl rfl rfl rfl rfl rfl rfl rfl rfl rfl rfl
    | apply Dev.Grow.ite

theorem Dev.Grow.balWindow {d e : Dev} (w : WinIn) (len : Nat) (results : Bool) (h : Dev.Grow d e) :
    Dev.Grow d (e.balWindow w len results) := by
  unfold Sys2Proof.Machine.Dev.balWindow
  try dsimp only
  repeat' first
    | with_reducible first
      | assumption
      | exact Dev.Grow.refl _
      | apply Dev.Grow.putS
      | apply Dev.Grow.stageTest
      | apply Dev.Grow.voltageTarget
      | apply Dev.Grow.each
    | intro _
    | split
    | refine Dev.Grow.part ?_ rfl rfl rfl rfl rfl rfl rfl rfl rfl rfl rfl rfl rfl rfl rfl rfl rfl rfl
    | apply Dev.Grow.ite

theorem Dev.Grow.setBline {d e : Dev} (l : Nat) (x : BdlLine) (h : Dev.Grow d e) :
    Dev.Grow d (e.setBline l x) := h.trans (Dev.Kin.setBline ..).grow

theorem Dev.Grow.bdlDrop {d e : Dev} (l : Nat) (err : Nat) (h : Dev.Grow d e) :
    Dev.Grow d (e.bdlDrop l err) := by
  unfold Sys2Proof.Machine.Dev.bdlDrop
  try dsimp only
  repeat' first
    | with_reducible first
      | assumption
      | exact Dev.Grow.refl _
      | apply Dev.Grow.put
      | apply Dev.Grow.setBline
    | intro _
    | split
    | refine Dev.Grow.part ?_ rfl rfl rfl rfl rfl rfl rfl rfl rfl rfl rfl rfl rfl rfl rfl rfl rfl rfl
    | apply Dev.Grow.ite

theorem Dev.Grow.bdlRise {d e : Dev} (h : Dev.Grow d e) :
    Dev.Grow d (e.bdlRise) := by
  unfold Sys2Proof.Machine.Dev.bdlRise
  try dsimp only
  repeat' first
    | with_reducible first
      | assumption
      | exact Dev.Grow.refl _
      | apply Dev.Grow.put
    | intro _
    | split
    | refine Dev.Grow.part ?_ rfl rfl rfl rfl rfl rfl rfl rfl rfl rfl rfl rfl rfl rfl rfl rfl rfl rfl
    | apply Dev.Grow.ite

theorem Dev.Grow.bdlSend {d e : Dev} (l : Nat) (h : Dev.Grow d e) :
    Dev.Grow d (e.bdlSend l) := by
  unfold Sys2Proof.Machine.Dev.bdlSend
  try dsimp only
  repeat' first
    | with_reducible first
      | assumption
      | exact Dev.Grow.refl _
      | apply Dev.Grow.emit
    | intro _
    | split
    | refine Dev.Grow.part ?_ rfl rfl rfl rfl rfl rfl rfl rfl rfl rfl rfl rfl rfl rfl rfl rfl rfl rfl
    | apply Dev.Grow.ite

theorem Dev.Grow.bdlTo {d e : Dev} (l : Nat) (a : BdlAct) (h : Dev.Grow d e) :
    Dev.Grow d (e.bdlTo l a) := by
  unfold Sys2Proof.Machine.Dev.bdlTo
  try dsimp only
  repeat' first
    | with_reducible first
      | assumption
      | exact Dev.Grow.refl _
      | apply Dev.Grow.setBline
    | intro _
    | split
    | refine Dev.Grow.part ?_ rfl rfl rfl rfl rfl rfl rfl rfl rfl rfl rfl rfl rfl rfl rfl rfl rfl rfl
    | apply Dev.Grow.ite

theorem Dev.Grow.bdlStep {d e : Dev} (l : Nat) (a : BdlAct) (h : Dev.Grow d e) :
    Dev.Grow d (e.bdlStep l a) := by
  unfold Sys2Proof.Machine.Dev.bdlStep
  try dsimp only
  repeat' first
    | with_reducible first
      | assumption
      | exact Dev.Grow.refl _
      | apply Dev.Grow.bdlSend
      | apply Dev.Grow.bdlTo
    | intro _
    | split
    | refine Dev.Grow.part ?_ rfl rfl rfl rfl rfl rfl rfl rfl rfl rfl rfl rfl rfl rfl rfl rfl rfl rfl
    | apply Dev.Grow.ite

theorem Dev.Grow.bdlStop {d e : Dev} (h : Dev.Grow d e) :
    Dev.Grow d (e.bdlStop) := h.trans (Dev.Kin.bdlStop ..).grow

theorem Dev.Grow.bezelAct {d e : Dev} (h : Dev.Grow d e) :
    Dev.Grow d (e.bezelAct) := h.trans (Dev.Kin.bezelAct ..).grow

theorem Dev.Grow.bezelArm {d e : Dev} (a : Afe) (h : Dev.Grow d e) :
    Dev.Grow d (e.bezelArm a) := h.trans (Dev.Kin.bezelArm ..).grow

theorem Dev.Grow.setBz {d e : Dev} (a : Afe) (b : BzlSt) (h : Dev.Grow d e) :
    Dev.Grow d (e.setBz a b) := by
  unfold Sys2Proof.Machine.Dev.setBz
  try dsimp only
  repeat' first
    | with_reducible first
      | assumption
      | exact Dev.Grow.refl _
    | intro _
    | split
    | refine Dev.Grow.part ?_ rfl rfl rfl rfl rfl rfl rfl rfl rfl rfl rfl rfl rfl rfl rfl rfl rfl rfl
    | apply Dev.Grow.ite

theorem Dev.Grow.bezelPowerUp {d e : Dev} (a : Afe) (h : Dev.Grow d e) :
    Dev.Grow d (e.bezelPowerUp a) := by
  unfold Sys2Proof.Machine.Dev.bezelPowerUp
  try dsimp only
  repeat' first
    | with_reducible first
      | assumption
      | exact Dev.Grow.refl _
      | apply Dev.Grow.put
      | apply Dev.Grow.setBz
    | intro _
    | split
    | refine Dev.Grow.part ?_ rfl rfl rfl rfl rfl rfl rfl rfl rfl rfl rfl rfl rfl rfl rfl rfl rfl rfl
    | apply Dev.Grow.ite

theorem Dev.Grow.bezelStep {d e : Dev} (a : Afe) (h : Dev.Grow d e) :
    Dev.Grow d (e.bezelStep a) := h.trans (Dev.Kin.bezelStep ..).grow

theorem Dev.Grow.bezelTrip {d e : Dev} (a : Afe) (row : Nat) (h : Dev.Grow d e) :
    Dev.Grow d (e.bezelTrip a row) := h.trans (Dev.Kin.bezelTrip ..).grow

theorem Dev.Grow.showMode {d e : Dev} (cur : Nat) (base : Nat) (trig : Nat) (h : Dev.Grow d e) :
    Dev.Grow d (e.showMode cur base trig) := h.trans (Dev.Moved.showMode ..).kin.grow

theorem Dev.Grow.calModeStart {d e : Dev} (a : Afe) (h : Dev.Grow d e) :
    Dev.Grow d (e.calModeStart a) := by
  unfold Sys2Proof.Machine.Dev.calModeStart
  try dsimp only
  repeat' first
    | with_reducible first
      | assumption
      | exact Dev.Grow.refl _
      | apply Dev.Grow.put
      | apply Dev.Grow.showMode
    | intro _
    | split
    | refine Dev.Grow.part ?_ rfl rfl rfl rfl rfl rfl rfl rfl rfl rfl rfl rfl rfl rfl rfl rfl rfl rfl
    | apply Dev.Grow.ite

theorem Dev.Grow.setCal {d e : Dev} (a : Afe) (c : CalSt) (h : Dev.Grow d e) :
    Dev.Grow d (e.setCal a c) := h.trans (Dev.Kin.setCal ..).grow

theorem Dev.Grow.setSess {d e : Dev} (a : Afe) (s : Option CalSess) (h : Dev.Grow d e) :
    Dev.Grow d (e.setSess a s) := by
  unfold Sys2Proof.Machine.Dev.setSess
  try dsimp only
  repeat' first
    | with_reducible first
      | assumption
      | exact Dev.Grow.refl _
      | apply Dev.Grow.setCal
    | intro _
    | split
    | refine Dev.Grow.part ?_ rfl rfl rfl rfl rfl rfl rfl rfl rfl rfl rfl rfl rfl rfl rfl rfl rfl rfl
    | apply Dev.Grow.ite

theorem Dev.Grow.setShunt {d e : Dev} (a : Afe) (b : Bool) (h : Dev.Grow d e) :
    Dev.Grow d (e.setShunt a b) := by
  unfold Sys2Proof.Machine.Dev.setShunt
  try dsimp only
  repeat' first
    | with_reducible first
      | assumption
      | exact Dev.Grow.refl _
    | intro _
    | split
    | refine Dev.Grow.part ?_ rfl rfl rfl rfl rfl rfl rfl rfl rfl rfl rfl rfl rfl rfl rfl rfl rfl rfl
    | apply Dev.Grow.ite

theorem Dev.Grow.stopBank {d e : Dev} (a : Afe) (atEdge : Bool) (h : Dev.Grow d e) :
    Dev.Grow d (e.stopBank a atEdge) := h.trans (Dev.Kin.stopBank ..).grow

theorem Dev.Grow.calEnter {d e : Dev} (a : Afe) (s : CalSess) (h : Dev.Grow d e) :
    Dev.Grow d (e.calEnter a s) := by
  unfold Sys2Proof.Machine.Dev.calEnter
  try dsimp only
  repeat' first
    | with_reducible first
      | assumption
      | exact Dev.Grow.refl _
      | apply Dev.Grow.auxSettle
      | apply Dev.Grow.balInterrupt
      | apply Dev.Grow.calModeStart
      | apply Dev.Grow.put
      | apply Dev.Grow.setSess
      | apply Dev.Grow.setShunt
      | apply Dev.Grow.stopBank
    | intro _
    | split
    | refine Dev.Grow.part ?_ rfl rfl rfl rfl rfl rfl rfl rfl rfl rfl rfl rfl rfl rfl rfl rfl rfl rfl
    | apply Dev.Grow.ite

theorem Dev.Grow.budgetEval {d e : Dev} (trig : Nat) (h : Dev.Grow d e) :
    Dev.Grow d (e.budgetEval trig) := h.trans (Dev.Moved.budgetEval ..).kin.grow

theorem Dev.Grow.setHold {d e : Dev} (h : Dev.Grow d e) :
    Dev.Grow d (e.setHold) := by
  unfold Sys2Proof.Machine.Dev.setHold
  try dsimp only
  repeat' first
    | with_reducible first
      | assumption
      | exact Dev.Grow.refl _
    | intro _
    | split
    | refine Dev.Grow.part ?_ rfl rfl rfl rfl rfl rfl rfl rfl rfl rfl rfl rfl rfl rfl rfl rfl rfl rfl
    | apply Dev.Grow.ite

theorem Dev.Grow.calModeEnd {d e : Dev} (a : Afe) (h : Dev.Grow d e) :
    Dev.Grow d (e.calModeEnd a) := by
  unfold Sys2Proof.Machine.Dev.calModeEnd
  try dsimp only
  repeat' first
    | with_reducible first
      | assumption
      | exact Dev.Grow.refl _
      | apply Dev.Grow.budgetEval
      | apply Dev.Grow.put
      | apply Dev.Grow.setHold
      | apply Dev.Grow.showMode
    | intro _
    | split
    | refine Dev.Grow.part ?_ rfl rfl rfl rfl rfl rfl rfl rfl rfl rfl rfl rfl rfl rfl rfl rfl rfl rfl
    | apply Dev.Grow.ite

theorem Dev.Grow.showSet {d e : Dev} (a : Afe) (s : TrimSet) (h : Dev.Grow d e) :
    Dev.Grow d (e.showSet a s) := by
  unfold Sys2Proof.Machine.Dev.showSet
  try dsimp only
  repeat' first
    | with_reducible first
      | assumption
      | exact Dev.Grow.refl _
      | apply Dev.Grow.put
      | apply Dev.Grow.put64
      | apply Dev.Grow.putS
      | apply Dev.Grow.each
    | intro _
    | split
    | refine Dev.Grow.part ?_ rfl rfl rfl rfl rfl rfl rfl rfl rfl rfl rfl rfl rfl rfl rfl rfl rfl rfl
    | apply Dev.Grow.ite

theorem Dev.Grow.showEras {d e : Dev} (h : Dev.Grow d e) :
    Dev.Grow d (e.showEras) := by
  unfold Sys2Proof.Machine.Dev.showEras
  try dsimp only
  repeat' first
    | with_reducible first
      | assumption
      | exact Dev.Grow.refl _
      | apply Dev.Grow.put
      | apply Dev.Grow.each
    | intro _
    | split
    | refine Dev.Grow.part ?_ rfl rfl rfl rfl rfl rfl rfl rfl rfl rfl rfl rfl rfl rfl rfl rfl rfl rfl
    | apply Dev.Grow.ite

theorem Dev.Grow.startBank {d e : Dev} (a : Afe) (atEdge : Bool) (h : Dev.Grow d e) :
    Dev.Grow d (e.startBank a atEdge) := by
  unfold Sys2Proof.Machine.Dev.startBank
  try dsimp only
  repeat' first
    | with_reducible first
      | assumption
      | exact Dev.Grow.refl _
      | apply Dev.Grow.put
      | apply Dev.Grow.raise
      | apply Dev.Grow.showEras
    | intro _
    | split
    | refine Dev.Grow.part ?_ rfl rfl rfl rfl rfl rfl rfl rfl rfl rfl rfl rfl rfl rfl rfl rfl rfl rfl
    | apply Dev.Grow.ite

theorem Dev.Grow.calLeave {d e : Dev} (a : Afe) (s : CalSess) (result : Nat) (h : Dev.Grow d e) :
    Dev.Grow d (e.calLeave a s result) := by
  unfold Sys2Proof.Machine.Dev.calLeave
  try dsimp only
  repeat' first
    | with_reducible first
      | assumption
      | exact Dev.Grow.refl _
      | apply Dev.Grow.auxSettle
      | apply Dev.Grow.calModeEnd
      | apply Dev.Grow.put
      | apply Dev.Grow.raise
      | apply Dev.Grow.setCal
      | apply Dev.Grow.setSess
      | apply Dev.Grow.setShunt
      | apply Dev.Grow.showSet
      | apply Dev.Grow.startBank
    | intro _
    | split
    | refine Dev.Grow.part ?_ rfl rfl rfl rfl rfl rfl rfl rfl rfl rfl rfl rfl rfl rfl rfl rfl rfl rfl
    | apply Dev.Grow.ite

theorem Dev.Grow.calBoundary {d e : Dev} (a : Afe) (h : Dev.Grow d e) :
    Dev.Grow d (e.calBoundary a).2 := by
  unfold Sys2Proof.Machine.Dev.calBoundary
  try dsimp only
  repeat' first
    | with_reducible first
      | assumption
      | exact Dev.Grow.refl _
      | apply Dev.Grow.calEnter
      | apply Dev.Grow.calLeave
      | apply Dev.Grow.put
      | apply Dev.Grow.raise
      | apply Dev.Grow.setCal
      | apply Dev.Grow.showSet
      | apply Dev.Grow.ite2
    | intro _
    | split
    | refine Dev.Grow.part ?_ rfl rfl rfl rfl rfl rfl rfl rfl rfl rfl rfl rfl rfl rfl rfl rfl rfl rfl
    | apply Dev.Grow.ite

theorem Dev.Grow.boundaryCal {d e : Dev} (h : Dev.Grow d e) :
    Dev.Grow d (e.boundaryCal).2 := by
  unfold Sys2Proof.Machine.Dev.boundaryCal
  try dsimp only
  repeat' first
    | with_reducible first
      | assumption
      | exact Dev.Grow.refl _
      | apply Dev.Grow.calBoundary
      | apply Dev.Grow.foldl
      | apply Dev.Grow.foldlSnd
      | apply Dev.Grow.foldlFst
      | apply Dev.Grow.ite2
    | intro _
    | split
    | refine Dev.Grow.part ?_ rfl rfl rfl rfl rfl rfl rfl rfl rfl rfl rfl rfl rfl rfl rfl rfl rfl rfl
    | apply Dev.Grow.ite

theorem Dev.Grow.closeChannel {d e : Dev} (len : Nat) (c : ChanIn) (comp : Option Int) (wire : Bool) (n : Nat) (h : Dev.Grow d e) :
    Dev.Grow d (e.closeChannel len c comp wire n) := by
  unfold Sys2Proof.Machine.Dev.closeChannel
  try dsimp only
  repeat' first
    | with_reducible first
      | assumption
      | exact Dev.Grow.refl _
      | apply Dev.Grow.put
      | apply Dev.Grow.put64
      | apply Dev.Grow.putS
    | intro _
    | split
    | refine Dev.Grow.part ?_ rfl rfl rfl rfl rfl rfl rfl rfl rfl rfl rfl rfl rfl rfl rfl rfl rfl rfl
    | apply Dev.Grow.ite

theorem Dev.Grow.rangeEvents {d e : Dev} (wseq : Nat) (h : Dev.Grow d e) :
    Dev.Grow d (e.rangeEvents wseq) := by
  unfold Sys2Proof.Machine.Dev.rangeEvents
  try dsimp only
  repeat' first
    | with_reducible first
      | assumption
      | exact Dev.Grow.refl _
      | apply Dev.Grow.raise
      | apply Dev.Grow.each
    | intro _
    | split
    | refine Dev.Grow.part ?_ rfl rfl rfl rfl rfl rfl rfl rfl rfl rfl rfl rfl rfl rfl rfl rfl rfl rfl
    | apply Dev.Grow.ite

theorem Dev.Grow.takeMark {d e : Dev} (wseq : Nat) (h : Dev.Grow d e) :
    Dev.Grow d (e.takeMark wseq).2 := by
  unfold Sys2Proof.Machine.Dev.takeMark
  try dsimp only
  repeat' first
    | with_reducible first
      | assumption
      | exact Dev.Grow.refl _
      | apply Dev.Grow.put
      | apply Dev.Grow.ite2
    | intro _
    | split
    | refine Dev.Grow.part ?_ rfl rfl rfl rfl rfl rfl rfl rfl rfl rfl rfl rfl rfl rfl rfl rfl rfl rfl
    | apply Dev.Grow.ite

theorem Dev.Grow.closeWindow {d e : Dev} (w : WinIn) (comp : Nat → Option Int) (wire : Nat → Bool) (checks : Dev → Dev)
    (h : Dev.Grow d e) (hc : ∀ x, Dev.Grow d x → Dev.Grow d (checks x)) : Dev.Grow d (e.closeWindow w comp wire checks) := by
  unfold Dev.closeWindow
  extract_lets len wseq s1 d1 bflags d2 d3 d4 d5
  have g1 : Dev.Grow d d1 := Dev.Grow.ite h (h.upd rfl rfl rfl rfl rfl rfl rfl rfl rfl rfl rfl rfl rfl rfl rfl rfl rfl rfl)
  have g3 : Dev.Grow d d3 := hc _ (Dev.Grow.each _ _ g1 (fun x n hx => Dev.Grow.closeChannel _ _ _ _ _ hx))
  have g4 : Dev.Grow d d4 := Dev.Grow.each _ _ g3 (fun x a hx =>
    Dev.Grow.put64 _ _ _ (Dev.Grow.put _ _ (Dev.Grow.put _ _ hx)))
  have g5 : Dev.Grow d d5 := Dev.Grow.rangeEvents _ g4
  have g6 := Dev.Grow.takeMark wseq g5
  clear_value d5 bflags len wseq
  exact g6.upd rfl rfl rfl rfl rfl rfl rfl rfl rfl rfl rfl rfl rfl rfl rfl rfl rfl rfl

theorem Dev.Grow.setVdev {d e : Dev} (i : Nat) (v : VDev) (h : Dev.Grow d e) :
    Dev.Grow d (e.setVdev i v) := by
  unfold Sys2Proof.Machine.Dev.setVdev
  try dsimp only
  repeat' first
    | with_reducible first
      | assumption
      | exact Dev.Grow.refl _
    | intro _
    | split
    | refine Dev.Grow.part ?_ rfl rfl rfl rfl rfl rfl rfl rfl rfl rfl rfl rfl rfl rfl rfl rfl rfl rfl
    | apply Dev.Grow.ite

theorem Dev.Grow.legWindow {d e : Dev} (h : Dev.Grow d e) :
    Dev.Grow d (e.legWindow) := by
  unfold Sys2Proof.Machine.Dev.legWindow
  try dsimp only
  repeat' first
    | with_reducible first
      | assumption
      | exact Dev.Grow.refl _
      | apply Dev.Grow.setVdev
      | apply Dev.Grow.vdev
      | apply Dev.Grow.each
      | apply Dev.Grow.foldl
      | apply Dev.Grow.foldlSnd
      | apply Dev.Grow.foldlFst
    | intro _
    | split
    | refine Dev.Grow.part ?_ rfl rfl rfl rfl rfl rfl rfl rfl rfl rfl rfl rfl rfl rfl rfl rfl rfl rfl
    | apply Dev.Grow.ite

theorem Dev.Grow.wireEvent {d e : Dev} (code : Nat) (j : Nat) (cells : List Nat) (cls : Nat) (h : Dev.Grow d e) :
    Dev.Grow d (e.wireEvent code j cells cls) := by
  unfold Sys2Proof.Machine.Dev.wireEvent
  try dsimp only
  repeat' first
    | with_reducible first
      | assumption
      | exact Dev.Grow.refl _
      | apply Dev.Grow.raise
    | intro _
    | split
    | refine Dev.Grow.part ?_ rfl rfl rfl rfl rfl rfl rfl rfl rfl rfl rfl rfl rfl rfl rfl rfl rfl rfl
    | apply Dev.Grow.ite

theorem Dev.Grow.verdict {d e : Dev} (r : JReq) (v : Nat) (h : Dev.Grow d e) :
    Dev.Grow d (e.verdict r v) := by
  unfold Sys2Proof.Machine.Dev.verdict
  try dsimp only
  repeat' first
    | with_reducible first
      | assumption
      | exact Dev.Grow.refl _
      | apply Dev.Grow.put
      | apply Dev.Grow.wireEvent
    | intro _
    | split
    | refine Dev.Grow.part ?_ rfl rfl rfl rfl rfl rfl rfl rfl rfl rfl rfl rfl rfl rfl rfl rfl rfl rfl
    | apply Dev.Grow.ite

theorem Dev.Grow.owdCloseCheck {d e : Dev} (h : Dev.Grow d e) :
    Dev.Grow d (e.owdCloseCheck) := by
  unfold Sys2Proof.Machine.Dev.owdCloseCheck
  try dsimp only
  repeat' first
    | with_reducible first
      | assumption
      | exact Dev.Grow.refl _
      | apply Dev.Grow.verdict
      | apply Dev.Grow.each
    | intro _
    | split
    | refine Dev.Grow.part ?_ rfl rfl rfl rfl rfl rfl rfl rfl rfl rfl rfl rfl rfl rfl rfl rfl rfl rfl
    | apply Dev.Grow.ite

theorem Dev.Grow.findClear {d e : Dev} (j : Nat) (cells : List Nat) (cls : Nat) (h : Dev.Grow d e) :
    Dev.Grow d (e.findClear j cells cls) := by
  unfold Sys2Proof.Machine.Dev.findClear
  try dsimp only
  repeat' first
    | with_reducible first
      | assumption
      | exact Dev.Grow.refl _
      | apply Dev.Grow.put
      | apply Dev.Grow.wireEvent
    | intro _
    | split
    | refine Dev.Grow.part ?_ rfl rfl rfl rfl rfl rfl rfl rfl rfl rfl rfl rfl rfl rfl rfl rfl rfl rfl
    | apply Dev.Grow.ite

theorem Dev.Grow.findRun {d e : Dev} (j : Nat) (cls : Nat) (h : Dev.Grow d e) :
    Dev.Grow d (e.findRun j cls) := by
  unfold Sys2Proof.Machine.Dev.findRun
  try dsimp only
  repeat' first
    | with_reducible first
      | assumption
      | exact Dev.Grow.refl _
      | apply Dev.Grow.findClear
    | intro _
    | split
    | refine Dev.Grow.part ?_ rfl rfl rfl rfl rfl rfl rfl rfl rfl rfl rfl rfl rfl rfl rfl rfl rfl rfl
    | apply Dev.Grow.ite

theorem Dev.Grow.refBad {d e : Dev} (j : Nat) (h : Dev.Grow d e) :
    Dev.Grow d (e.refBad j) := by
  unfold Sys2Proof.Machine.Dev.refBad
  try dsimp only
  repeat' first
    | with_reducible first
      | assumption
      | exact Dev.Grow.refl _
      | apply Dev.Grow.put
    | intro _
    | split
    | refine Dev.Grow.part ?_ rfl rfl rfl rfl rfl rfl rfl rfl rfl rfl rfl rfl rfl rfl rfl rfl rfl rfl
    | apply Dev.Grow.ite

theorem Dev.Grow.showClass {d e : Dev} (j : Nat) (c : Nat) (h : Dev.Grow d e) :
    Dev.Grow d (e.showClass j c) := h.trans (Dev.Kin.showClass ..).grow

theorem Dev.Grow.owdOf {d e : Dev} (x : OwdSt) (h : Dev.Grow d e) : Dev.Grow d { e with owd := x } :=
  h.upd rfl rfl rfl rfl rfl rfl rfl rfl rfl rfl rfl rfl rfl rfl rfl rfl rfl rfl

theorem Dev.Grow.owdWire {d e : Dev} (r : OwdRun) (j : Nat) (h : Dev.Grow d e) : Dev.Grow d (e.owdWire r j) := by
  unfold Dev.owdWire
  extract_lets _ _ _ _ _ _ _ _ _ _ e1 shown e2 e3 _ s4 e4 s5 e5 e6 e7
  have g2 : Dev.Grow d e2 := Dev.Grow.ite (Dev.Grow.put _ _ (Dev.Grow.showClass _ _ (Dev.Grow.owdOf _ h))) (Dev.Grow.owdOf _ h)
  have g4 : Dev.Grow d e4 := Dev.Grow.owdOf _ (Dev.Grow.findRun _ _ g2)
  have g5 : Dev.Grow d e5 := Dev.Grow.ite (Dev.Grow.owdOf _ g4) g4
  have g6 : Dev.Grow d e6 := Dev.Grow.ite (Dev.Grow.refBad _ g5) g5
  have g7 : Dev.Grow d e7 := Dev.Grow.ite (Dev.Grow.jrequest _ _ _ _ g6) g6
  split
  · exact Dev.Grow.countSat _ _ (Dev.Grow.showClass _ _ h)
  · exact Dev.Grow.each _ _ g7 (fun x q hx => Dev.Grow.jrequest _ _ _ _ hx)

theorem Dev.Grow.owdCloseRun {d e : Dev} (h : Dev.Grow d e) :
    Dev.Grow d (e.owdCloseRun) := by
  unfold Sys2Proof.Machine.Dev.owdCloseRun
  try dsimp only
  repeat' first
    | with_reducible first
      | assumption
      | exact Dev.Grow.refl _
      | apply Dev.Grow.owdWire
      | apply Dev.Grow.each
    | intro _
    | split
    | refine Dev.Grow.part ?_ rfl rfl rfl rfl rfl rfl rfl rfl rfl rfl rfl rfl rfl rfl rfl rfl rfl rfl
    | apply Dev.Grow.ite

theorem Dev.Grow.plausCell {d e : Dev} (a : Afe) (p : PlausWin) (comp : Int) (k : Nat) (sum : Nat) (ovr : Bool) (h : Dev.Grow d e) :
    Dev.Grow d (e.plausCell a p comp k sum ovr) := by
  unfold Sys2Proof.Machine.Dev.plausCell
  try dsimp only
  repeat' first
    | with_reducible first
      | assumption
      | exact Dev.Grow.refl _
      | apply Dev.Grow.addFlag
      | apply Dev.Grow.countSat
      | apply Dev.Grow.put
      | apply Dev.Grow.raise
      | apply Dev.Grow.setAux
    | intro _
    | split
    | refine Dev.Grow.part ?_ rfl rfl rfl rfl rfl rfl rfl rfl rfl rfl rfl rfl rfl rfl rfl rfl rfl rfl
    | apply Dev.Grow.ite

theorem Dev.Grow.plausClose {d e : Dev} (comp : Nat → Int) (a : Afe) (h : Dev.Grow d e) :
    Dev.Grow d (e.plausClose comp a) := by
  unfold Sys2Proof.Machine.Dev.plausClose
  try dsimp only
  repeat' first
    | with_reducible first
      | assumption
      | exact Dev.Grow.refl _
      | apply Dev.Grow.countSat
      | apply Dev.Grow.plausCell
      | apply Dev.Grow.each
    | intro _
    | split
    | refine Dev.Grow.part ?_ rfl rfl rfl rfl rfl rfl rfl rfl rfl rfl rfl rfl rfl rfl rfl rfl rfl rfl
    | apply Dev.Grow.ite

theorem Dev.Grow.plausRequests {d e : Dev} (cells : List Nat) (h : Dev.Grow d e) :
    Dev.Grow d (e.plausRequests cells) := by
  unfold Sys2Proof.Machine.Dev.plausRequests
  try dsimp only
  repeat' first
    | with_reducible first
      | assumption
      | exact Dev.Grow.refl _
      | apply Dev.Grow.jrequest
      | apply Dev.Grow.each
    | intro _
    | split
    | refine Dev.Grow.part ?_ rfl rfl rfl rfl rfl rfl rfl rfl rfl rfl rfl rfl rfl rfl rfl rfl rfl rfl
    | apply Dev.Grow.ite

theorem Dev.Grow.enterSafe {d e : Dev} (cause : Nat) (detail : Nat) (h : Dev.Grow d e) :
    Dev.Grow d (e.enterSafe cause detail) := h.trans (Dev.Kin.enterSafe ..).grow

theorem Dev.Grow.openPath {d e : Dev} (h : Dev.Grow d e) :
    Dev.Grow d (e.openPath) := h.trans (Dev.Kin.openPath ..).grow

theorem Dev.Grow.setLatch {d e : Dev} (cause : Nat) (cell : Nat) (h : Dev.Grow d e) :
    Dev.Grow d (e.setLatch cause cell) := h.trans (Dev.Kin.setLatch ..).grow

theorem Dev.Grow.ppTrip {d e : Dev} (cause : Nat) (cell : Nat) (h : Dev.Grow d e) :
    Dev.Grow d (e.ppTrip cause cell) := by
  unfold Sys2Proof.Machine.Dev.ppTrip
  try dsimp only
  repeat' first
    | with_reducible first
      | assumption
      | exact Dev.Grow.refl _
      | apply Dev.Grow.enterSafe
      | apply Dev.Grow.openPath
      | apply Dev.Grow.setLatch
    | intro _
    | split
    | refine Dev.Grow.part ?_ rfl rfl rfl rfl rfl rfl rfl rfl rfl rfl rfl rfl rfl rfl rfl rfl rfl rfl
    | apply Dev.Grow.ite

theorem Dev.Grow.ppWindow {d e : Dev} (h : Dev.Grow d e) :
    Dev.Grow d (e.ppWindow) := by
  unfold Sys2Proof.Machine.Dev.ppWindow
  try dsimp only
  repeat' first
    | with_reducible first
      | assumption
      | exact Dev.Grow.refl _
      | apply Dev.Grow.ppTrip
    | intro _
    | split
    | refine Dev.Grow.part ?_ rfl rfl rfl rfl rfl rfl rfl rfl rfl rfl rfl rfl rfl rfl rfl rfl rfl rfl
    | apply Dev.Grow.ite

theorem Dev.Grow.ppWires {d e : Dev} (old : List (Nat × List Nat × Nat)) (h : Dev.Grow d e) :
    Dev.Grow d (e.ppWires old) := by
  unfold Sys2Proof.Machine.Dev.ppWires
  try dsimp only
  repeat' first
    | with_reducible first
      | assumption
      | exact Dev.Grow.refl _
      | apply Dev.Grow.ppTrip
    | intro _
    | split
    | refine Dev.Grow.part ?_ rfl rfl rfl rfl rfl rfl rfl rfl rfl rfl rfl rfl rfl rfl rfl rfl rfl rfl
    | apply Dev.Grow.ite

theorem Dev.Grow.pointResult {d e : Dev} (pstate : Nat) (h : Dev.Grow d e) :
    Dev.Grow d (e.pointResult pstate).2.2 := h.trans (Dev.Kin.pointResult ..).grow

theorem Dev.Grow.toneBank {d e : Dev} (a : Afe) (h : Dev.Grow d e) :
    Dev.Grow d (e.toneBank a) := h.trans (Dev.Kin.toneBank ..).grow

theorem Dev.Grow.spanEnd {d e : Dev} (h : Dev.Grow d e) :
    Dev.Grow d (e.spanEnd) := by
  unfold Sys2Proof.Machine.Dev.spanEnd
  try dsimp only
  repeat' first
    | with_reducible first
      | assumption
      | exact Dev.Grow.refl _
      | apply Dev.Grow.putB
      | apply Dev.Grow.toneBank
    | intro _
    | split
    | refine Dev.Grow.part ?_ rfl rfl rfl rfl rfl rfl rfl rfl rfl rfl rfl rfl rfl rfl rfl rfl rfl rfl
    | apply Dev.Grow.ite

theorem Dev.Grow.sweepWindow {d e : Dev} (w : WinIn) (bflags : Nat) (h : Dev.Grow d e) :
    Dev.Grow d (e.sweepWindow w bflags) := by
  unfold Sys2Proof.Machine.Dev.sweepWindow
  try dsimp only
  repeat' first
    | with_reducible first
      | assumption
      | exact Dev.Grow.refl _
      | apply Dev.Grow.pointResult
      | apply Dev.Grow.put
      | apply Dev.Grow.raise
      | apply Dev.Grow.spanEnd
    | intro _
    | split
    | refine Dev.Grow.part ?_ rfl rfl rfl rfl rfl rfl rfl rfl rfl rfl rfl rfl rfl rfl rfl rfl rfl rfl
    | apply Dev.Grow.ite

theorem Dev.Grow.seeFaults {d e : Dev} (h : Dev.Grow d e) :
    Dev.Grow d (e.seeFaults) := h.trans (Dev.Kin.seeFaults ..).grow

theorem Dev.Grow.xcheckPass {d e : Dev} (c : Nat) (h : Dev.Grow d e) :
    Dev.Grow d (e.xcheckPass c) := by
  unfold Sys2Proof.Machine.Dev.xcheckPass
  try dsimp only
  repeat' first
    | with_reducible first
      | assumption
      | exact Dev.Grow.refl _
      | apply Dev.Grow.raise
      | apply Dev.Grow.seeFaults
    | intro _
    | split
    | refine Dev.Grow.part ?_ rfl rfl rfl rfl rfl rfl rfl rfl rfl rfl rfl rfl rfl rfl rfl rfl rfl rfl
    | apply Dev.Grow.ite

theorem Dev.Grow.xcheckWindow {d e : Dev} (h : Dev.Grow d e) :
    Dev.Grow d (e.xcheckWindow) := by
  unfold Sys2Proof.Machine.Dev.xcheckWindow
  try dsimp only
  repeat' first
    | with_reducible first
      | assumption
      | exact Dev.Grow.refl _
      | apply Dev.Grow.xcheckPass
      | apply Dev.Grow.each
    | intro _
    | split
    | refine Dev.Grow.part ?_ rfl rfl rfl rfl rfl rfl rfl rfl rfl rfl rfl rfl rfl rfl rfl rfl rfl rfl
    | apply Dev.Grow.ite

theorem Dev.Grow.boundaryClose {d e : Dev} (w : WinIn) (h : Dev.Grow d e) :
    Dev.Grow d (e.boundaryClose w) := by
  unfold Sys2Proof.Machine.Dev.boundaryClose
  try dsimp only
  repeat' first
    | with_reducible first
      | assumption
      | exact Dev.Grow.refl _
      | apply Dev.Grow.balWindow
      | apply Dev.Grow.closeWindow
      | apply Dev.Grow.legWindow
      | apply Dev.Grow.owdCloseCheck
      | apply Dev.Grow.owdCloseRun
      | apply Dev.Grow.plausClose
      | apply Dev.Grow.plausRequests
      | apply Dev.Grow.ppWindow
      | apply Dev.Grow.ppWires
      | apply Dev.Grow.sweepWindow
      | apply Dev.Grow.xcheckWindow
      | apply Dev.Grow.each
    | intro _
    | split
    | refine Dev.Grow.part ?_ rfl rfl rfl rfl rfl rfl rfl rfl rfl rfl rfl rfl rfl rfl rfl rfl rfl rfl
    | apply Dev.Grow.ite

theorem Dev.Grow.warnEvents {d e : Dev} (old : Dev) (a : Afe) (h : Dev.Grow d e) :
    Dev.Grow d (e.warnEvents old a) := h.trans (Dev.Kin.warnEvents ..).grow

theorem Dev.Grow.guardChange {d e : Dev} (f : Dev → Dev) (h : Dev.Grow d (f e)) : Dev.Grow d (e.guardChange f) :=
  h.trans (Dev.Kin.guardChange f e).grow

theorem Dev.Grow.guardSettle {d e : Dev} (h : Dev.Grow d e) :
    Dev.Grow d (e.guardSettle) := h.trans (Dev.Kin.guardSettle ..).grow

theorem Dev.Grow.owdAdjust {d e : Dev} (h : Dev.Grow d e) :
    Dev.Grow d (e.owdAdjust) := by
  unfold Sys2Proof.Machine.Dev.owdAdjust
  try dsimp only
  repeat' first
    | with_reducible first
      | assumption
      | exact Dev.Grow.refl _
      | apply Dev.Grow.putB
    | intro _
    | split
    | refine Dev.Grow.part ?_ rfl rfl rfl rfl rfl rfl rfl rfl rfl rfl rfl rfl rfl rfl rfl rfl rfl rfl
    | apply Dev.Grow.ite

theorem Dev.Grow.setTq {d e : Dev} (q : Nat) (h : Dev.Grow d e) :
    Dev.Grow d (e.setTq q) := by
  unfold Sys2Proof.Machine.Dev.setTq
  try dsimp only
  repeat' first
    | with_reducible first
      | assumption
      | exact Dev.Grow.refl _
      | apply Dev.Grow.put
      | apply Dev.Grow.raise
    | intro _
    | split
    | refine Dev.Grow.part ?_ rfl rfl rfl rfl rfl rfl rfl rfl rfl rfl rfl rfl rfl rfl rfl rfl rfl rfl
    | apply Dev.Grow.ite

theorem Dev.Grow.setAct {d e : Dev} (a : Nat) (h : Dev.Grow d e) :
    Dev.Grow d (e.setAct a) := by
  unfold Sys2Proof.Machine.Dev.setAct
  try dsimp only
  repeat' first
    | with_reducible first
      | assumption
      | exact Dev.Grow.refl _
      | apply Dev.Grow.put
      | apply Dev.Grow.raise
    | intro _
    | split
    | refine Dev.Grow.part ?_ rfl rfl rfl rfl rfl rfl rfl rfl rfl rfl rfl rfl rfl rfl rfl rfl rfl rfl
    | apply Dev.Grow.ite

theorem Dev.Grow.sourceLost {d e : Dev} (h : Dev.Grow d e) :
    Dev.Grow d (e.sourceLost) := by
  unfold Sys2Proof.Machine.Dev.sourceLost
  try dsimp only
  repeat' first
    | with_reducible first
      | assumption
      | exact Dev.Grow.refl _
      | apply Dev.Grow.setAct
      | apply Dev.Grow.setTq
    | intro _
    | split
    | refine Dev.Grow.part ?_ rfl rfl rfl rfl rfl rfl rfl rfl rfl rfl rfl rfl rfl rfl rfl rfl rfl rfl
    | apply Dev.Grow.ite

theorem Dev.Grow.tbConfigured {d e : Dev} (h : Dev.Grow d e) :
    Dev.Grow d (e.tbConfigured) := by
  unfold Sys2Proof.Machine.Dev.tbConfigured
  try dsimp only
  repeat' first
    | with_reducible first
      | assumption
      | exact Dev.Grow.refl _
      | apply Dev.Grow.setTq
      | apply Dev.Grow.sourceLost
    | intro _
    | split
    | refine Dev.Grow.part ?_ rfl rfl rfl rfl rfl rfl rfl rfl rfl rfl rfl rfl rfl rfl rfl rfl rfl rfl
    | apply Dev.Grow.ite

theorem Dev.Grow.onAccept {d e : Dev} (old : Dev) (die : Die) (blk : Blk) (g : Nat) (h : Dev.Grow d e) :
    Dev.Grow d (Dev.onAccept old die blk g e) := by
  unfold Dev.onAccept
  simp only []
  split
  · exact Dev.Grow.tbConfigured h
  · exact Dev.Grow.auxConfigured _ _ h
  · exact Dev.Grow.balPlanChanged _ h
  · exact Dev.Grow.owdAdjust h
  · split
    · exact Dev.Grow.owdAdjust h
    · exact (Dev.Grow.owdAdjust h).upd rfl rfl rfl rfl rfl rfl rfl rfl rfl rfl rfl rfl rfl rfl rfl rfl rfl rfl
  · split
    · exact h
    · exact h.upd rfl rfl rfl rfl rfl rfl rfl rfl rfl rfl rfl rfl rfl rfl rfl rfl rfl rfl
  all_goals first | exact Dev.Grow.guardSettle h | exact h

theorem Dev.Grow.reloadGroup {d e : Dev} (base : Nat) (g : Nat) (h : Dev.Grow d e) :
    Dev.Grow d (e.reloadGroup base g) := by
  unfold Sys2Proof.Machine.Dev.reloadGroup
  try dsimp only
  repeat' first
    | with_reducible first
      | assumption
      | exact Dev.Grow.refl _
      | apply Dev.Grow.setStaged
      | apply Dev.Grow.each
    | intro _
    | split
    | refine Dev.Grow.part ?_ rfl rfl rfl rfl rfl rfl rfl rfl rfl rfl rfl rfl rfl rfl rfl rfl rfl rfl
    | apply Dev.Grow.ite

theorem Dev.Grow.rejectGroup {d e : Dev} (base : Nat) (g : Nat) (check : Nat) (h : Dev.Grow d e) :
    Dev.Grow d (e.rejectGroup base g check) := by
  unfold Sys2Proof.Machine.Dev.rejectGroup
  try dsimp only
  repeat' first
    | with_reducible first
      | assumption
      | exact Dev.Grow.refl _
      | apply Dev.Grow.put
      | apply Dev.Grow.reloadGroup
    | intro _
    | split
    | refine Dev.Grow.part ?_ rfl rfl rfl rfl rfl rfl rfl rfl rfl rfl rfl rfl rfl rfl rfl rfl rfl rfl
    | apply Dev.Grow.ite

theorem Dev.Grow.evalGroup {d e : Dev} (base : Nat) (g : Nat) (h : Dev.Grow d e) :
    Dev.Grow d (e.evalGroup base g) := by
  unfold Sys2Proof.Machine.Dev.evalGroup
  try dsimp only
  repeat' first
    | with_reducible first
      | assumption
      | exact Dev.Grow.refl _
      | apply Dev.Grow.acceptGroup
      | apply Dev.Grow.guardChange
      | apply Dev.Grow.onAccept
      | apply Dev.Grow.rejectGroup
    | intro _
    | split
    | refine Dev.Grow.part ?_ rfl rfl rfl rfl rfl rfl rfl rfl rfl rfl rfl rfl rfl rfl rfl rfl rfl rfl
    | apply Dev.Grow.ite

theorem Dev.Grow.noteBoundary {d e : Dev} (base : Nat) (h : Dev.Grow d e) :
    Dev.Grow d (e.noteBoundary base) := by
  unfold Sys2Proof.Machine.Dev.noteBoundary
  try dsimp only
  repeat' first
    | with_reducible first
      | assumption
      | exact Dev.Grow.refl _
    | intro _
    | split
    | refine Dev.Grow.part ?_ rfl rfl rfl rfl rfl rfl rfl rfl rfl rfl rfl rfl rfl rfl rfl rfl rfl rfl
    | apply Dev.Grow.ite

theorem Dev.Grow.evalBlock {d e : Dev} (base : Nat) (h : Dev.Grow d e) :
    Dev.Grow d (e.evalBlock base) := by
  unfold Sys2Proof.Machine.Dev.evalBlock
  try dsimp only
  repeat' first
    | with_reducible first
      | assumption
      | exact Dev.Grow.refl _
      | apply Dev.Grow.evalGroup
      | apply Dev.Grow.noteBoundary
      | apply Dev.Grow.each
    | intro _
    | split
    | refine Dev.Grow.part ?_ rfl rfl rfl rfl rfl rfl rfl rfl rfl rfl rfl rfl rfl rfl rfl rfl rfl rfl
    | apply Dev.Grow.ite

theorem Dev.Grow.boundaryGroups {d e : Dev} (h : Dev.Grow d e) :
    Dev.Grow d (e.boundaryGroups) := by
  unfold Sys2Proof.Machine.Dev.boundaryGroups
  try dsimp only
  repeat' first
    | with_reducible first
      | assumption
      | exact Dev.Grow.refl _
      | apply Dev.Grow.evalBlock
      | apply Dev.Grow.each
    | intro _
    | split
    | refine Dev.Grow.part ?_ rfl rfl rfl rfl rfl rfl rfl rfl rfl rfl rfl rfl rfl rfl rfl rfl rfl rfl
    | apply Dev.Grow.ite

theorem Dev.Grow.markTrim {d e : Dev} (a : Afe) (h : Dev.Grow d e) :
    Dev.Grow d (e.markTrim a) := by
  unfold Sys2Proof.Machine.Dev.markTrim
  try dsimp only
  repeat' first
    | with_reducible first
      | assumption
      | exact Dev.Grow.refl _
    | intro _
    | split
    | refine Dev.Grow.part ?_ rfl rfl rfl rfl rfl rfl rfl rfl rfl rfl rfl rfl rfl rfl rfl rfl rfl rfl
    | apply Dev.Grow.ite

theorem Dev.Grow.openWindow {d e : Dev} (h : Dev.Grow d e) :
    Dev.Grow d (e.openWindow) := by
  unfold Sys2Proof.Machine.Dev.openWindow
  try dsimp only
  repeat' first
    | with_reducible first
      | assumption
      | exact Dev.Grow.refl _
    | intro _
    | split
    | refine Dev.Grow.part ?_ rfl rfl rfl rfl rfl rfl rfl rfl rfl rfl rfl rfl rfl rfl rfl rfl rfl rfl
    | apply Dev.Grow.ite

theorem Dev.Grow.owdOpenCheck {d e : Dev} (h : Dev.Grow d e) :
    Dev.Grow d (e.owdOpenCheck) := by
  unfold Sys2Proof.Machine.Dev.owdOpenCheck
  try dsimp only
  repeat' first
    | with_reducible first
      | assumption
      | exact Dev.Grow.refl _
      | apply Dev.Grow.verdict
      | apply Dev.Grow.each
    | intro _
    | split
    | refine Dev.Grow.part ?_ rfl rfl rfl rfl rfl rfl rfl rfl rfl rfl rfl rfl rfl rfl rfl rfl rfl rfl
    | apply Dev.Grow.ite

theorem Dev.Grow.owdOpenProbe {d e : Dev} (busy : Nat → Bool) (h : Dev.Grow d e) :
    Dev.Grow d (e.owdOpenProbe busy) := by
  unfold Sys2Proof.Machine.Dev.owdOpenProbe
  try dsimp only
  repeat' first
    | with_reducible first
      | assumption
      | exact Dev.Grow.refl _
    | intro _
    | split
    | refine Dev.Grow.part ?_ rfl rfl rfl rfl rfl rfl rfl rfl rfl rfl rfl rfl rfl rfl rfl rfl rfl rfl
    | apply Dev.Grow.ite

theorem Dev.Grow.owdRun {d e : Dev} (ref : Option Closed) (h : Dev.Grow d e) :
    Dev.Grow d (e.owdRun ref) := by
  unfold Sys2Proof.Machine.Dev.owdRun
  try dsimp only
  repeat' first
    | with_reducible first
      | assumption
      | exact Dev.Grow.refl _
      | apply Dev.Grow.countSat
      | apply Dev.Grow.put
      | apply Dev.Grow.showClass
      | apply Dev.Grow.each
    | intro _
    | split
    | refine Dev.Grow.part ?_ rfl rfl rfl rfl rfl rfl rfl rfl rfl rfl rfl rfl rfl rfl rfl rfl rfl rfl
    | apply Dev.Grow.ite

theorem Dev.Grow.owdOpenRun {d e : Dev} (ref : Option Closed) (h : Dev.Grow d e) :
    Dev.Grow d (e.owdOpenRun ref) := by
  unfold Sys2Proof.Machine.Dev.owdOpenRun
  try dsimp only
  repeat' first
    | with_reducible first
      | assumption
      | exact Dev.Grow.refl _
      | apply Dev.Grow.owdRun
    | intro _
    | split
    | refine Dev.Grow.part ?_ rfl rfl rfl rfl rfl rfl rfl rfl rfl rfl rfl rfl rfl rfl rfl rfl rfl rfl
    | apply Dev.Grow.ite

theorem Dev.Grow.quietOpen {d e : Dev} (h : Dev.Grow d e) :
    Dev.Grow d (e.quietOpen) := by
  unfold Sys2Proof.Machine.Dev.quietOpen
  try dsimp only
  repeat' first
    | with_reducible first
      | assumption
      | exact Dev.Grow.refl _
    | intro _
    | split
    | refine Dev.Grow.part ?_ rfl rfl rfl rfl rfl rfl rfl rfl rfl rfl rfl rfl rfl rfl rfl rfl rfl rfl
    | apply Dev.Grow.ite

theorem Dev.Grow.sweepOpen {d e : Dev} (h : Dev.Grow d e) :
    Dev.Grow d (e.sweepOpen) := by
  unfold Sys2Proof.Machine.Dev.sweepOpen
  try dsimp only
  repeat' first
    | with_reducible first
      | assumption
      | exact Dev.Grow.refl _
    | intro _
    | split
    | refine Dev.Grow.part ?_ rfl rfl rfl rfl rfl rfl rfl rfl rfl rfl rfl rfl rfl rfl rfl rfl rfl rfl
    | apply Dev.Grow.ite

theorem Dev.Grow.showSw {d e : Dev} (h : Dev.Grow d e) :
    Dev.Grow d (e.showSw) := h.trans (Dev.Kin.showSw ..).grow

theorem Dev.Grow.tailOpen {d e : Dev} (within : Bool) (h : Dev.Grow d e) :
    Dev.Grow d (e.tailOpen within) := by
  unfold Sys2Proof.Machine.Dev.tailOpen
  try dsimp only
  repeat' first
    | with_reducible first
      | assumption
      | exact Dev.Grow.refl _
      | apply Dev.Grow.showSw
    | intro _
    | split
    | refine Dev.Grow.part ?_ rfl rfl rfl rfl rfl rfl rfl rfl rfl rfl rfl rfl rfl rfl rfl rfl rfl rfl
    | apply Dev.Grow.ite

theorem Dev.Grow.windowOpens {d e : Dev} (ref : Option Closed) (within : Bool) (h : Dev.Grow d e) :
    Dev.Grow d (e.windowOpens ref within) := by
  unfold Sys2Proof.Machine.Dev.windowOpens
  try dsimp only
  repeat' first
    | with_reducible first
      | assumption
      | exact Dev.Grow.refl _
      | apply Dev.Grow.auxWindow
      | apply Dev.Grow.balCells
      | apply Dev.Grow.owdOpenCheck
      | apply Dev.Grow.owdOpenProbe
      | apply Dev.Grow.owdOpenRun
      | apply Dev.Grow.quietOpen
      | apply Dev.Grow.sweepOpen
      | apply Dev.Grow.tailOpen
      | apply Dev.Grow.each
    | intro _
    | split
    | refine Dev.Grow.part ?_ rfl rfl rfl rfl rfl rfl rfl rfl rfl rfl rfl rfl rfl rfl rfl rfl rfl rfl
    | apply Dev.Grow.ite

theorem Dev.Grow.boundaryOpen {d e : Dev} (newcfg : Bool) (trims : List Afe) (within : Bool) (h : Dev.Grow d e) :
    Dev.Grow d (e.boundaryOpen newcfg trims within) := by
  unfold Sys2Proof.Machine.Dev.boundaryOpen
  try dsimp only
  repeat' first
    | with_reducible first
      | assumption
      | exact Dev.Grow.refl _
      | apply Dev.Grow.markTrim
      | apply Dev.Grow.openWindow
      | apply Dev.Grow.windowOpens
      | apply Dev.Grow.each
    | intro _
    | split
    | refine Dev.Grow.part ?_ rfl rfl rfl rfl rfl rfl rfl rfl rfl rfl rfl rfl rfl rfl rfl rfl rfl rfl
    | apply Dev.Grow.ite

theorem Dev.Grow.histAppend {d e : Dev} (bs : List Byte) (h : Dev.Grow d e) :
    Dev.Grow d (e.histAppend bs) := h.trans (Dev.Sent.histAppend ..).kin.grow

theorem Dev.Grow.writeSummary {d e : Dev} (part : Bool) (n : Nat) (h : Dev.Grow d e) :
    Dev.Grow d (e.writeSummary part n) := by
  unfold Sys2Proof.Machine.Dev.writeSummary
  try dsimp only
  repeat' first
    | with_reducible first
      | assumption
      | exact Dev.Grow.refl _
      | apply Dev.Grow.put
      | apply Dev.Grow.putB
      | apply Dev.Grow.putS
    | intro _
    | split
    | refine Dev.Grow.part ?_ rfl rfl rfl rfl rfl rfl rfl rfl rfl rfl rfl rfl rfl rfl rfl rfl rfl rfl
    | apply Dev.Grow.ite

theorem Dev.Grow.closeSummary {d e : Dev} (extraPart : Bool) (nextPart : Bool) (h : Dev.Grow d e) :
    Dev.Grow d (e.closeSummary extraPart nextPart) := by
  unfold Sys2Proof.Machine.Dev.closeSummary
  try dsimp only
  repeat' first
    | with_reducible first
      | assumption
      | exact Dev.Grow.refl _
      | apply Dev.Grow.countMod
      | apply Dev.Grow.histAppend
      | apply Dev.Grow.raise
      | apply Dev.Grow.writeSummary
      | apply Dev.Grow.each
    | intro _
    | split
    | refine Dev.Grow.part ?_ rfl rfl rfl rfl rfl rfl rfl rfl rfl rfl rfl rfl rfl rfl rfl rfl rfl rfl
    | apply Dev.Grow.ite

theorem Dev.Grow.boundarySummary {d e : Dev} (acc0 : Bool) (h : Dev.Grow d e) :
    Dev.Grow d (e.boundarySummary acc0) := by
  unfold Sys2Proof.Machine.Dev.boundarySummary
  try dsimp only
  repeat' first
    | with_reducible first
      | assumption
      | exact Dev.Grow.refl _
      | apply Dev.Grow.closeSummary
    | intro _
    | split
    | refine Dev.Grow.part ?_ rfl rfl rfl rfl rfl rfl rfl rfl rfl rfl rfl rfl rfl rfl rfl rfl rfl rfl
    | apply Dev.Grow.ite

theorem Dev.Grow.placePeriods {d e : Dev} (m : Nat) (h : Dev.Grow d e) :
    Dev.Grow d (e.placePeriods m) := by
  unfold Sys2Proof.Machine.Dev.placePeriods
  try dsimp only
  repeat' first
    | with_reducible first
      | assumption
      | exact Dev.Grow.refl _
    | intro _
    | split
    | refine Dev.Grow.part ?_ rfl rfl rfl rfl rfl rfl rfl rfl rfl rfl rfl rfl rfl rfl rfl rfl rfl rfl
    | apply Dev.Grow.ite

theorem Dev.Grow.newPeriods {d e : Dev} (old : Int) (h : Dev.Grow d e) :
    Dev.Grow d (e.newPeriods old) := by
  unfold Sys2Proof.Machine.Dev.newPeriods
  try dsimp only
  repeat' first
    | with_reducible first
      | assumption
      | exact Dev.Grow.refl _
      | apply Dev.Grow.placePeriods
    | intro _
    | split
    | refine Dev.Grow.part ?_ rfl rfl rfl rfl rfl rfl rfl rfl rfl rfl rfl rfl rfl rfl rfl rfl rfl rfl
    | apply Dev.Grow.ite

theorem Dev.Grow.ledgerAdd {d e : Dev} (lo : Fld) (hi : Fld) (frac : Nat) (amount : Nat) (h : Dev.Grow d e) :
    Dev.Grow d (e.ledgerAdd lo hi frac amount).2 := by
  unfold Sys2Proof.Machine.Dev.ledgerAdd
  try dsimp only
  repeat' first
    | with_reducible first
      | assumption
      | exact Dev.Grow.refl _
      | apply Dev.Grow.put64
      | apply Dev.Grow.ite2
    | intro _
    | split
    | refine Dev.Grow.part ?_ rfl rfl rfl rfl rfl rfl rfl rfl rfl rfl rfl rfl rfl rfl rfl rfl rfl rfl
    | apply Dev.Grow.ite

theorem Dev.Grow.reconcileStage {d e : Dev} (a : Afe) (n : Nat) (h : Dev.Grow d e) :
    Dev.Grow d (e.reconcileStage a n).2 := by
  unfold Sys2Proof.Machine.Dev.reconcileStage
  simp only [Dev.draw]
  repeat' first
    | with_reducible first
      | assumption
      | exact Dev.Grow.refl _
      | apply Dev.Grow.ledgerAdd
      | apply Dev.Grow.raise
      | apply Dev.Grow.ite2
    | intro _
    | split
    | refine Dev.Grow.part ?_ rfl rfl rfl rfl rfl rfl rfl rfl rfl rfl rfl rfl rfl rfl rfl rfl rfl rfl
    | apply Dev.Grow.ite

theorem Dev.Grow.reconcile {d e : Dev} (a : Afe) (h : Dev.Grow d e) :
    Dev.Grow d (e.reconcile a) := by
  unfold Sys2Proof.Machine.Dev.reconcile
  try dsimp only
  repeat' first
    | with_reducible first
      | assumption
      | exact Dev.Grow.refl _
      | apply Dev.Grow.put
      | apply Dev.Grow.putS
      | apply Dev.Grow.reconcileStage
      | apply Dev.Grow.foldl
      | apply Dev.Grow.foldlSnd
      | apply Dev.Grow.foldlFst
    | intro _
    | split
    | refine Dev.Grow.part ?_ rfl rfl rfl rfl rfl rfl rfl rfl rfl rfl rfl rfl rfl rfl rfl rfl rfl rfl
    | apply Dev.Grow.ite

theorem Dev.Grow.seeStages {d e : Dev} (h : Dev.Grow d e) :
    Dev.Grow d (e.seeStages) := h.trans (Dev.Kin.seeStages ..).grow

theorem Dev.Grow.planPeriodStart {d e : Dev} (h : Dev.Grow d e) :
    Dev.Grow d (e.planPeriodStart) := by
  unfold Sys2Proof.Machine.Dev.planPeriodStart
  try dsimp only
  repeat' first
    | with_reducible first
      | assumption
      | exact Dev.Grow.refl _
      | apply Dev.Grow.balActivate
      | apply Dev.Grow.balEnd
      | apply Dev.Grow.balPeriod
      | apply Dev.Grow.reconcile
      | apply Dev.Grow.seeStages
    | intro _
    | split
    | refine Dev.Grow.part ?_ rfl rfl rfl rfl rfl rfl rfl rfl rfl rfl rfl rfl rfl rfl rfl rfl rfl rfl
    | apply Dev.Grow.ite

theorem Dev.Grow.calEnding {d e : Dev} (a : Afe) (result : Nat) (h : Dev.Grow d e) :
    Dev.Grow d (e.calEnding a result) := h.trans (Dev.Kin.calEnding ..).grow

theorem Dev.Grow.calAborted {d e : Dev} (result : Nat) (a : Afe) (h : Dev.Grow d e) :
    Dev.Grow d (e.calAborted result a) := by
  unfold Sys2Proof.Machine.Dev.calAborted
  try dsimp only
  repeat' first
    | with_reducible first
      | assumption
      | exact Dev.Grow.refl _
      | apply Dev.Grow.calEnding
    | intro _
    | split
    | refine Dev.Grow.part ?_ rfl rfl rfl rfl rfl rfl rfl rfl rfl rfl rfl rfl rfl rfl rfl rfl rfl rfl
    | apply Dev.Grow.ite

theorem Dev.Grow.pointStart {d e : Dev} (p : Nat) (h : Dev.Grow d e) :
    Dev.Grow d (e.pointStart p) := h.trans (Dev.Kin.pointStart ..).grow

theorem Dev.Grow.sweepRefuse {d e : Dev} (result : Nat) (chk : Nat) (h : Dev.Grow d e) :
    Dev.Grow d (e.sweepRefuse result chk) := by
  unfold Sys2Proof.Machine.Dev.sweepRefuse
  try dsimp only
  repeat' first
    | with_reducible first
      | assumption
      | exact Dev.Grow.refl _
      | apply Dev.Grow.put
      | apply Dev.Grow.raise
    | intro _
    | split
    | refine Dev.Grow.part ?_ rfl rfl rfl rfl rfl rfl rfl rfl rfl rfl rfl rfl rfl rfl rfl rfl rfl rfl
    | apply Dev.Grow.ite

theorem Dev.Grow.sweepBegin {d e : Dev} (h : Dev.Grow d e) :
    Dev.Grow d (e.sweepBegin) := by
  unfold Sys2Proof.Machine.Dev.sweepBegin
  try dsimp only
  repeat' first
    | with_reducible first
      | assumption
      | exact Dev.Grow.refl _
      | apply Dev.Grow.balInterrupt
      | apply Dev.Grow.budgetEval
      | apply Dev.Grow.calAborted
      | apply Dev.Grow.pointStart
      | apply Dev.Grow.put
      | apply Dev.Grow.raise
      | apply Dev.Grow.seeStages
      | apply Dev.Grow.sweepRefuse
      | apply Dev.Grow.each
      | apply Dev.Grow.foldl
      | apply Dev.Grow.foldlSnd
      | apply Dev.Grow.foldlFst
    | intro _
    | split
    | refine Dev.Grow.part ?_ rfl rfl rfl rfl rfl rfl rfl rfl rfl rfl rfl rfl rfl rfl rfl rfl rfl rfl
    | apply Dev.Grow.ite

theorem Dev.Grow.sweepOver {d e : Dev} (result : Nat) (h : Dev.Grow d e) :
    Dev.Grow d (e.sweepOver result) := h.trans (Dev.Kin.sweepOver ..).grow

theorem Dev.Grow.sweepComplete {d e : Dev} (h : Dev.Grow d e) :
    Dev.Grow d (e.sweepComplete) := by
  unfold Sys2Proof.Machine.Dev.sweepComplete
  try dsimp only
  repeat' first
    | with_reducible first
      | assumption
      | exact Dev.Grow.refl _
      | apply Dev.Grow.raise
      | apply Dev.Grow.sweepOver
    | intro _
    | split
    | refine Dev.Grow.part ?_ rfl rfl rfl rfl rfl rfl rfl rfl rfl rfl rfl rfl rfl rfl rfl rfl rfl rfl
    | apply Dev.Grow.ite

theorem Dev.Grow.sweepNext {d e : Dev} (h : Dev.Grow d e) :
    Dev.Grow d (e.sweepNext) := by
  unfold Sys2Proof.Machine.Dev.sweepNext
  try dsimp only
  repeat' first
    | with_reducible first
      | assumption
      | exact Dev.Grow.refl _
      | apply Dev.Grow.pointStart
      | apply Dev.Grow.seeStages
      | apply Dev.Grow.sweepComplete
    | intro _
    | split
    | refine Dev.Grow.part ?_ rfl rfl rfl rfl rfl rfl rfl rfl rfl rfl rfl rfl rfl rfl rfl rfl rfl rfl
    | apply Dev.Grow.ite

theorem Dev.Grow.boundary {d e : Dev} (w : WinIn) (h : Dev.Grow d e) :
    Dev.Grow d (e.boundary w) := by
  unfold Sys2Proof.Machine.Dev.boundary
  try dsimp only
  repeat' first
    | with_reducible first
      | assumption
      | exact Dev.Grow.refl _
      | apply Dev.Grow.boundaryCal
      | apply Dev.Grow.boundaryClose
      | apply Dev.Grow.boundaryGroups
      | apply Dev.Grow.boundaryOpen
      | apply Dev.Grow.boundarySummary
      | apply Dev.Grow.evalBlock
      | apply Dev.Grow.guardSettle
      | apply Dev.Grow.newPeriods
      | apply Dev.Grow.planPeriodStart
      | apply Dev.Grow.sweepBegin
      | apply Dev.Grow.sweepNext
    | intro _
    | split
    | refine Dev.Grow.part ?_ rfl rfl rfl rfl rfl rfl rfl rfl rfl rfl rfl rfl rfl rfl rfl rfl rfl rfl
    | apply Dev.Grow.ite

theorem Dev.Grow.boundaryPlan {d e : Dev} (w : WinIn) (h : Dev.Grow d e) :
    Dev.Grow d (e.boundaryPlan w) := by
  unfold Sys2Proof.Machine.Dev.boundaryPlan
  try dsimp only
  repeat' first
    | with_reducible first
      | assumption
      | exact Dev.Grow.refl _
      | apply Dev.Grow.balWindow
      | apply Dev.Grow.evalBlock
      | apply Dev.Grow.newPeriods
      | apply Dev.Grow.planPeriodStart
      | apply Dev.Grow.quietOpen
      | apply Dev.Grow.seeStages
      | apply Dev.Grow.sweepBegin
      | apply Dev.Grow.tailOpen
      | apply Dev.Grow.each
    | intro _
    | split
    | refine Dev.Grow.part ?_ rfl rfl rfl rfl rfl rfl rfl rfl rfl rfl rfl rfl rfl rfl rfl rfl rfl rfl
    | apply Dev.Grow.ite

theorem Dev.Grow.owdOpenWarm {d e : Dev} (h : Dev.Grow d e) :
    Dev.Grow d (e.owdOpenWarm) := by
  unfold Sys2Proof.Machine.Dev.owdOpenWarm
  try dsimp only
  repeat' first
    | with_reducible first
      | assumption
      | exact Dev.Grow.refl _
      | apply Dev.Grow.countSat
      | apply Dev.Grow.put
      | apply Dev.Grow.showClass
      | apply Dev.Grow.each
    | intro _
    | split
    | refine Dev.Grow.part ?_ rfl rfl rfl rfl rfl rfl rfl rfl rfl rfl rfl rfl rfl rfl rfl rfl rfl rfl
    | apply Dev.Grow.ite

theorem Dev.Grow.boundaryWarm {d e : Dev} (w : WinIn) (h : Dev.Grow d e) :
    Dev.Grow d (e.boundaryWarm w) := by
  unfold Sys2Proof.Machine.Dev.boundaryWarm
  try dsimp only
  repeat' first
    | with_reducible first
      | assumption
      | exact Dev.Grow.refl _
      | apply Dev.Grow.auxWindow
      | apply Dev.Grow.closeWindow
      | apply Dev.Grow.evalBlock
      | apply Dev.Grow.openWindow
      | apply Dev.Grow.owdOpenWarm
      | apply Dev.Grow.tailOpen
      | apply Dev.Grow.each
    | intro _
    | split
    | refine Dev.Grow.part ?_ rfl rfl rfl rfl rfl rfl rfl rfl rfl rfl rfl rfl rfl rfl rfl rfl rfl rfl
    | apply Dev.Grow.ite

theorem Dev.Grow.breakSums {d e : Dev} (a : Afe) (h : Dev.Grow d e) :
    Dev.Grow d (e.breakSums a) := by
  unfold Sys2Proof.Machine.Dev.breakSums
  try dsimp only
  repeat' first
    | with_reducible first
      | assumption
      | exact Dev.Grow.refl _
    | intro _
    | split
    | refine Dev.Grow.part ?_ rfl rfl rfl rfl rfl rfl rfl rfl rfl rfl rfl rfl rfl rfl rfl rfl rfl rfl
    | apply Dev.Grow.ite

theorem Dev.Grow.bridgeLost {d e : Dev} (p : Port) (h : Dev.Grow d e) :
    Dev.Grow d (e.bridgeLost p) := by
  unfold Sys2Proof.Machine.Dev.bridgeLost
  try dsimp only
  repeat' first
    | with_reducible first
      | assumption
      | exact Dev.Grow.refl _
      | apply Dev.Grow.put
    | intro _
    | split
    | refine Dev.Grow.part ?_ rfl rfl rfl rfl rfl rfl rfl rfl rfl rfl rfl rfl rfl rfl rfl rfl rfl rfl
    | apply Dev.Grow.ite

theorem Dev.Grow.cellRecord {d e : Dev} (aborted : Bool) (n : Nat) (h : Dev.Grow d e) :
    Dev.Grow d (e.cellRecord aborted n).2 := h.trans (Dev.Kin.cellRecord ..).grow

theorem Dev.Grow.clkSettle {d e : Dev} (h : Dev.Grow d e) :
    Dev.Grow d (e.clkSettle) := by
  unfold Sys2Proof.Machine.Dev.clkSettle
  try dsimp only
  repeat' first
    | with_reducible first
      | assumption
      | exact Dev.Grow.refl _
      | apply Dev.Grow.foldl
      | apply Dev.Grow.foldlSnd
      | apply Dev.Grow.foldlFst
    | intro _
    | split
    | refine Dev.Grow.part ?_ rfl rfl rfl rfl rfl rfl rfl rfl rfl rfl rfl rfl rfl rfl rfl rfl rfl rfl
    | apply Dev.Grow.ite

theorem Dev.Grow.sendCompact {d e : Dev} (ports : List Port) (kind : Nat) (pos : Nat) (pay : Nat) (h : Dev.Grow d e) :
    Dev.Grow d (e.sendCompact ports kind pos pay) := h.trans (Dev.Kin.sendCompact ..).grow

theorem Dev.Grow.compactToHead {d e : Dev} (kind : Nat) (pay : Nat) (h : Dev.Grow d e) :
    Dev.Grow d (e.compactToHead kind pay) := by
  unfold Sys2Proof.Machine.Dev.compactToHead
  try dsimp only
  repeat' first
    | with_reducible first
      | assumption
      | exact Dev.Grow.refl _
      | apply Dev.Grow.sendCompact
    | intro _
    | split
    | refine Dev.Grow.part ?_ rfl rfl rfl rfl rfl rfl rfl rfl rfl rfl rfl rfl rfl rfl rfl rfl rfl rfl
    | apply Dev.Grow.ite

theorem Dev.Grow.creditDue {d e : Dev} (p : Port) (h : Dev.Grow d e) :
    Dev.Grow d (e.creditDue p) := h.trans (Dev.Sent.creditDue ..).kin.grow

theorem Dev.Grow.portSend {d e : Dev} (p : Port) (src : Option Port) (b : Body) (h : Dev.Grow d e) :
    Dev.Grow d (e.portSend p src b) := h.trans (Dev.Sent.portSend ..).kin.grow

theorem Dev.Grow.sendPlain {d e : Dev} (ports : List Port) (kind : Nat) (pos : Nat) (pay : Nat) (h : Dev.Grow d e) :
    Dev.Grow d (e.sendPlain ports kind pos pay) := by
  unfold Sys2Proof.Machine.Dev.sendPlain
  try dsimp only
  repeat' first
    | with_reducible first
      | assumption
      | exact Dev.Grow.refl _
      | apply Dev.Grow.portSend
      | apply Dev.Grow.each
    | intro _
    | split
    | refine Dev.Grow.part ?_ rfl rfl rfl rfl rfl rfl rfl rfl rfl rfl rfl rfl rfl rfl rfl rfl rfl rfl
    | apply Dev.Grow.ite

theorem Dev.Grow.setPort {d e : Dev} (p : Port) (s : PortSt) (h : Dev.Grow d e) :
    Dev.Grow d (e.setPort p s) := h.trans (Dev.Sent.setPort ..).kin.grow

theorem Dev.Grow.creditInit {d e : Dev} (p : Port) (hr : Bool) (h : Dev.Grow d e) :
    Dev.Grow d (e.creditInit p hr) := by
  unfold Sys2Proof.Machine.Dev.creditInit
  try dsimp only
  repeat' first
    | with_reducible first
      | assumption
      | exact Dev.Grow.refl _
      | apply Dev.Grow.sendPlain
      | apply Dev.Grow.setPort
    | intro _
    | split
    | refine Dev.Grow.part ?_ rfl rfl rfl rfl rfl rfl rfl rfl rfl rfl rfl rfl rfl rfl rfl rfl rfl rfl
    | apply Dev.Grow.ite

theorem Dev.Grow.drain {d e : Dev} (p : Port) (h : Dev.Grow d e) : Dev.Grow d (e.drain p) :=
  h.trans (Dev.Sent.drainPort ..).kin.grow

theorem Dev.Grow.enterDegraded {d e : Dev} (pos : Nat) (c : Chan) (h : Dev.Grow d e) :
    Dev.Grow d (e.enterDegraded pos c) := h.trans (Dev.Kin.enterDegraded ..).grow

theorem Dev.Grow.freeUnits {d e : Dev} (p : Port) (tc : Nat) (n : Nat) (h : Dev.Grow d e) :
    Dev.Grow d (e.freeUnits p tc n) := h.trans (Dev.Sent.freeUnits ..).kin.grow

theorem Dev.Grow.flushPort {d e : Dev} (p : Port) (h : Dev.Grow d e) :
    Dev.Grow d (e.flushPort p) := by
  unfold Sys2Proof.Machine.Dev.flushPort
  try dsimp only
  repeat' first
    | with_reducible first
      | assumption
      | exact Dev.Grow.refl _
      | apply Dev.Grow.countSat
      | apply Dev.Grow.freeUnits
      | apply Dev.Grow.put
      | apply Dev.Grow.setPort
      | apply Dev.Grow.each
    | intro _
    | split
    | refine Dev.Grow.part ?_ rfl rfl rfl rfl rfl rfl rfl rfl rfl rfl rfl rfl rfl rfl rfl rfl rfl rfl
    | apply Dev.Grow.ite

theorem Dev.Grow.intoDown {d e : Dev} (p : Port) (h : Dev.Grow d e) :
    Dev.Grow d (e.intoDown p) := by
  unfold Sys2Proof.Machine.Dev.intoDown
  try dsimp only
  repeat' first
    | with_reducible first
      | assumption
      | exact Dev.Grow.refl _
      | apply Dev.Grow.countMod
      | apply Dev.Grow.flushPort
      | apply Dev.Grow.put
      | apply Dev.Grow.setPort
    | intro _
    | split
    | refine Dev.Grow.part ?_ rfl rfl rfl rfl rfl rfl rfl rfl rfl rfl rfl rfl rfl rfl rfl rfl rfl rfl
    | apply Dev.Grow.ite

theorem Dev.Grow.setMember {d e : Dev} (p : Nat) (f : Member → Member) (h : Dev.Grow d e) :
    Dev.Grow d (e.setMember p f) := by
  unfold Sys2Proof.Machine.Dev.setMember
  try dsimp only
  repeat' first
    | with_reducible first
      | assumption
      | exact Dev.Grow.refl _
    | intro _
    | split
    | refine Dev.Grow.part ?_ rfl rfl rfl rfl rfl rfl rfl rfl rfl rfl rfl rfl rfl rfl rfl rfl rfl rfl
    | apply Dev.Grow.ite

theorem Dev.Grow.forgetRoutes {d e : Dev} (ps : List Nat) (h : Dev.Grow d e) :
    Dev.Grow d (e.forgetRoutes ps) := by
  unfold Sys2Proof.Machine.Dev.forgetRoutes
  try dsimp only
  repeat' first
    | with_reducible first
      | assumption
      | exact Dev.Grow.refl _
      | apply Dev.Grow.setMember
      | apply Dev.Grow.each
    | intro _
    | split
    | refine Dev.Grow.part ?_ rfl rfl rfl rfl rfl rfl rfl rfl rfl rfl rfl rfl rfl rfl rfl rfl rfl rfl
    | apply Dev.Grow.ite

theorem Dev.Grow.raiseAbout {d e : Dev} (pos : Nat) (code : Nat) (src : Nat) (items : List Nat) (h : Dev.Grow d e) :
    Dev.Grow d (e.raiseAbout pos code src items) := h.trans (Dev.Sent.raiseAbout ..).kin.grow

theorem Dev.Grow.headRoutes {d e : Dev} (h : Dev.Grow d e) :
    Dev.Grow d (e.headRoutes) := by
  unfold Sys2Proof.Machine.Dev.headRoutes
  try dsimp only
  repeat' first
    | with_reducible first
      | assumption
      | exact Dev.Grow.refl _
      | apply Dev.Grow.putB
    | intro _
    | split
    | refine Dev.Grow.part ?_ rfl rfl rfl rfl rfl rfl rfl rfl rfl rfl rfl rfl rfl rfl rfl rfl rfl rfl
    | apply Dev.Grow.ite

theorem Dev.Grow.sendRoute {d e : Dev} (p : Nat) (h : Dev.Grow d e) :
    Dev.Grow d (e.sendRoute p) := by
  unfold Sys2Proof.Machine.Dev.sendRoute
  try dsimp only
  repeat' first
    | with_reducible first
      | assumption
      | exact Dev.Grow.refl _
      | apply Dev.Grow.sendCompact
      | apply Dev.Grow.setMember
    | intro _
    | split
    | refine Dev.Grow.part ?_ rfl rfl rfl rfl rfl rfl rfl rfl rfl rfl rfl rfl rfl rfl rfl rfl rfl rfl
    | apply Dev.Grow.ite

theorem Dev.Grow.sendRoutes {d e : Dev} (h : Dev.Grow d e) :
    Dev.Grow d (e.sendRoutes) := by
  unfold Sys2Proof.Machine.Dev.sendRoutes
  try dsimp only
  repeat' first
    | with_reducible first
      | assumption
      | exact Dev.Grow.refl _
      | apply Dev.Grow.headRoutes
      | apply Dev.Grow.sendRoute
      | apply Dev.Grow.each
    | intro _
    | split
    | refine Dev.Grow.part ?_ rfl rfl rfl rfl rfl rfl rfl rfl rfl rfl rfl rfl rfl rfl rfl rfl rfl rfl
    | apply Dev.Grow.ite

theorem Dev.Grow.setWays {d e : Dev} (h : Dev.Grow d e) :
    Dev.Grow d (e.setWays) := by
  unfold Sys2Proof.Machine.Dev.setWays
  try dsimp only
  repeat' first
    | with_reducible first
      | assumption
      | exact Dev.Grow.refl _
      | apply Dev.Grow.sendRoutes
      | apply Dev.Grow.setMember
      | apply Dev.Grow.each
    | intro _
    | split
    | refine Dev.Grow.part ?_ rfl rfl rfl rfl rfl rfl rfl rfl rfl rfl rfl rfl rfl rfl rfl rfl rfl rfl
    | apply Dev.Grow.ite

theorem Dev.Grow.writeMaps {d e : Dev} (lostSet : List Nat) (h : Dev.Grow d e) :
    Dev.Grow d (e.writeMaps lostSet) := by
  unfold Sys2Proof.Machine.Dev.writeMaps
  try dsimp only
  repeat' first
    | with_reducible first
      | assumption
      | exact Dev.Grow.refl _
      | apply Dev.Grow.put
      | apply Dev.Grow.put64
      | apply Dev.Grow.each
    | intro _
    | split
    | refine Dev.Grow.part ?_ rfl rfl rfl rfl rfl rfl rfl rfl rfl rfl rfl rfl rfl rfl rfl rfl rfl rfl
    | apply Dev.Grow.ite

theorem Dev.Grow.ringBreak {d e : Dev} (l : Nat) (h : Dev.Grow d e) : Dev.Grow d (e.ringBreak l) := by
  unfold Dev.ringBreak
  split
  · exact h
  · split
    · exact h
    · extract_lets _ e1 e2 gone fresh e3 e4 e5 _ e6 bn bs e7
      have g1 : Dev.Grow d e1 := h.upd rfl rfl rfl rfl rfl rfl rfl rfl rfl rfl rfl rfl rfl rfl rfl rfl rfl rfl
      have g3 : Dev.Grow d e3 := Dev.Grow.writeMaps _ (Dev.Grow.countMod _ _ (Dev.Grow.put _ _ g1))
      have g4 : Dev.Grow d e4 := Dev.Grow.each _ _ g3 (fun x p hx => Dev.Grow.raiseAbout _ _ _ _ hx)
      have g5 : Dev.Grow d e5 := Dev.Grow.setWays (Dev.Grow.forgetRoutes _ g4)
      have g6 : Dev.Grow d e6 := Dev.Grow.ite (Dev.Grow.put _ _
        (g5.upd rfl rfl rfl rfl rfl rfl rfl rfl rfl rfl rfl rfl rfl rfl rfl rfl rfl rfl)) g5
      exact Dev.Grow.raise _ _ _ (Dev.Grow.put _ _ (Dev.Grow.put _ _ g6))

theorem Dev.Grow.ringMend {d e : Dev} (l : Nat) (hr : Bool) (h : Dev.Grow d e) :
    Dev.Grow d (e.ringMend l hr) := by
  unfold Sys2Proof.Machine.Dev.ringMend
  try dsimp only
  repeat' first
    | with_reducible first
      | assumption
      | exact Dev.Grow.refl _
      | apply Dev.Grow.put
    | intro _
    | split
    | refine Dev.Grow.part ?_ rfl rfl rfl rfl rfl rfl rfl rfl rfl rfl rfl rfl rfl rfl rfl rfl rfl rfl
    | apply Dev.Grow.ite

theorem Dev.Grow.linkChange {d e : Dev} (pos : Nat) (p : Port) (up : Bool) (hr : Bool) (h : Dev.Grow d e) :
    Dev.Grow d (e.linkChange pos p up hr) := by
  unfold Sys2Proof.Machine.Dev.linkChange
  try dsimp only
  repeat' first
    | with_reducible first
      | assumption
      | exact Dev.Grow.refl _
      | apply Dev.Grow.ringBreak
      | apply Dev.Grow.ringMend
    | intro _
    | split
    | refine Dev.Grow.part ?_ rfl rfl rfl rfl rfl rfl rfl rfl rfl rfl rfl rfl rfl rfl rfl rfl rfl rfl
    | apply Dev.Grow.ite

theorem Dev.Grow.linkNotice {d e : Dev} (p : Port) (up : Bool) (low : Nat) (h : Dev.Grow d e) :
    Dev.Grow d (e.linkNotice p up low) := by
  unfold Sys2Proof.Machine.Dev.linkNotice
  try dsimp only
  repeat' first
    | with_reducible first
      | assumption
      | exact Dev.Grow.refl _
      | apply Dev.Grow.compactToHead
    | intro _
    | split
    | refine Dev.Grow.part ?_ rfl rfl rfl rfl rfl rfl rfl rfl rfl rfl rfl rfl rfl rfl rfl rfl rfl rfl
    | apply Dev.Grow.ite

theorem Dev.Grow.enterDown {d e : Dev} (p : Port) (cause : Nat) (h : Dev.Grow d e) :
    Dev.Grow d (e.enterDown p cause) := by
  unfold Sys2Proof.Machine.Dev.enterDown
  try dsimp only
  repeat' first
    | with_reducible first
      | assumption
      | exact Dev.Grow.refl _
      | apply Dev.Grow.intoDown
      | apply Dev.Grow.linkChange
      | apply Dev.Grow.linkNotice
      | apply Dev.Grow.raise
    | intro _
    | split
    | refine Dev.Grow.part ?_ rfl rfl rfl rfl rfl rfl rfl rfl rfl rfl rfl rfl rfl rfl rfl rfl rfl rfl
    | apply Dev.Grow.ite

theorem Dev.Grow.enterHr {d e : Dev} (p : Port) (fresh : Bool) (h : Dev.Grow d e) :
    Dev.Grow d (e.enterHr p fresh) := by
  unfold Sys2Proof.Machine.Dev.enterHr
  try dsimp only
  repeat' first
    | with_reducible first
      | assumption
      | exact Dev.Grow.refl _
      | apply Dev.Grow.creditDue
      | apply Dev.Grow.creditInit
      | apply Dev.Grow.drain
      | apply Dev.Grow.linkChange
      | apply Dev.Grow.linkNotice
      | apply Dev.Grow.put
      | apply Dev.Grow.raise
    | intro _
    | split
    | refine Dev.Grow.part ?_ rfl rfl rfl rfl rfl rfl rfl rfl rfl rfl rfl rfl rfl rfl rfl rfl rfl rfl
    | apply Dev.Grow.ite

theorem Dev.Grow.legacyAux {d e : Dev} (a : Afe) (h : Dev.Grow d e) :
    Dev.Grow d (e.legacyAux a) := by
  unfold Sys2Proof.Machine.Dev.legacyAux
  try dsimp only
  repeat' first
    | with_reducible first
      | assumption
      | exact Dev.Grow.refl _
      | apply Dev.Grow.auxSettle
      | apply Dev.Grow.put
      | apply Dev.Grow.setAux
      | apply Dev.Grow.each
    | intro _
    | split
    | refine Dev.Grow.part ?_ rfl rfl rfl rfl rfl rfl rfl rfl rfl rfl rfl rfl rfl rfl rfl rfl rfl rfl
    | apply Dev.Grow.ite

theorem Dev.Grow.enterLegacy {d e : Dev} (h : Dev.Grow d e) :
    Dev.Grow d (e.enterLegacy) := by
  unfold Sys2Proof.Machine.Dev.enterLegacy
  try dsimp only
  repeat' first
    | with_reducible first
      | assumption
      | exact Dev.Grow.refl _
      | apply Dev.Grow.legacyAux
      | apply Dev.Grow.raise
      | apply Dev.Grow.showMode
      | apply Dev.Grow.freshVDev
      | apply Dev.Grow.each
    | intro _
    | split
    | refine Dev.Grow.part ?_ rfl rfl rfl rfl rfl rfl rfl rfl rfl rfl rfl rfl rfl rfl rfl rfl rfl rfl
    | apply Dev.Grow.ite

theorem Dev.Grow.reportFound {d e : Dev} (h : Dev.Grow d e) :
    Dev.Grow d (e.reportFound) := by
  unfold Sys2Proof.Machine.Dev.reportFound
  try dsimp only
  repeat' first
    | with_reducible first
      | assumption
      | exact Dev.Grow.refl _
      | apply Dev.Grow.raise
      | apply Dev.Grow.each
    | intro _
    | split
    | refine Dev.Grow.part ?_ rfl rfl rfl rfl rfl rfl rfl rfl rfl rfl rfl rfl rfl rfl rfl rfl rfl rfl
    | apply Dev.Grow.ite

theorem Dev.Grow.warmNotice {d e : Dev} (h : Dev.Grow d e) :
    Dev.Grow d (e.warmNotice) := by
  unfold Sys2Proof.Machine.Dev.warmNotice
  try dsimp only
  repeat' first
    | with_reducible first
      | assumption
      | exact Dev.Grow.refl _
      | apply Dev.Grow.compactToHead
    | intro _
    | split
    | refine Dev.Grow.part ?_ rfl rfl rfl rfl rfl rfl rfl rfl rfl rfl rfl rfl rfl rfl rfl rfl rfl rfl
    | apply Dev.Grow.ite

theorem Dev.Grow.enterLr {d e : Dev} (p : Port) (raises : Bool) (h : Dev.Grow d e) :
    Dev.Grow d (e.enterLr p raises) := by
  unfold Sys2Proof.Machine.Dev.enterLr
  try dsimp only
  repeat' first
    | with_reducible first
      | assumption
      | exact Dev.Grow.refl _
      | apply Dev.Grow.creditInit
      | apply Dev.Grow.drain
      | apply Dev.Grow.linkChange
      | apply Dev.Grow.linkNotice
      | apply Dev.Grow.put
      | apply Dev.Grow.raise
      | apply Dev.Grow.reportFound
      | apply Dev.Grow.warmNotice
    | intro _
    | split
    | refine Dev.Grow.part ?_ rfl rfl rfl rfl rfl rfl rfl rfl rfl rfl rfl rfl rfl rfl rfl rfl rfl rfl
    | apply Dev.Grow.ite

theorem Dev.Grow.evalStart {d e : Dev} (h : Dev.Grow d e) :
    Dev.Grow d (e.evalStart) := by
  unfold Sys2Proof.Machine.Dev.evalStart
  try dsimp only
  repeat' first
    | with_reducible first
      | assumption
      | exact Dev.Grow.refl _
      | apply Dev.Grow.evalBlock
      | apply Dev.Grow.each
    | intro _
    | split
    | refine Dev.Grow.part ?_ rfl rfl rfl rfl rfl rfl rfl rfl rfl rfl rfl rfl rfl rfl rfl rfl rfl rfl
    | apply Dev.Grow.ite

theorem Dev.Grow.evalTrain {d e : Dev} (h : Dev.Grow d e) :
    Dev.Grow d (e.evalTrain) := by
  unfold Sys2Proof.Machine.Dev.evalTrain
  try dsimp only
  repeat' first
    | with_reducible first
      | assumption
      | exact Dev.Grow.refl _
      | apply Dev.Grow.evalBlock
      | apply Dev.Grow.each
    | intro _
    | split
    | refine Dev.Grow.part ?_ rfl rfl rfl rfl rfl rfl rfl rfl rfl rfl rfl rfl rfl rfl rfl rfl rfl rfl
    | apply Dev.Grow.ite

theorem Dev.Grow.graceAct {d e : Dev} (expired : Bool) (h : Dev.Grow d e) :
    Dev.Grow d (e.graceAct expired) := h.trans (Dev.Kin.graceAct ..).grow

theorem Dev.Grow.graceStop {d e : Dev} (h : Dev.Grow d e) :
    Dev.Grow d (e.graceStop) := h.trans (Dev.Kin.graceStop ..).grow

theorem Dev.Grow.seeGirdle {d e : Dev} (h : Dev.Grow d e) :
    Dev.Grow d (e.seeGirdle) := h.trans (Dev.Kin.seeGirdle ..).grow

theorem Dev.Grow.seeSdc {d e : Dev} (h : Dev.Grow d e) :
    Dev.Grow d (e.seeSdc) := h.trans (Dev.Kin.seeSdc ..).grow

theorem Dev.Grow.guardFall {d e : Dev} (h : Dev.Grow d e) :
    Dev.Grow d (e.guardFall) := by
  unfold Sys2Proof.Machine.Dev.guardFall
  try dsimp only
  repeat' first
    | with_reducible first
      | assumption
      | exact Dev.Grow.refl _
      | apply Dev.Grow.put
      | apply Dev.Grow.seeGirdle
      | apply Dev.Grow.seeSdc
      | apply Dev.Grow.setBz
      | apply Dev.Grow.each
    | intro _
    | split
    | refine Dev.Grow.part ?_ rfl rfl rfl rfl rfl rfl rfl rfl rfl rfl rfl rfl rfl rfl rfl rfl rfl rfl
    | apply Dev.Grow.ite

theorem Dev.Grow.guardRise {d e : Dev} (h : Dev.Grow d e) :
    Dev.Grow d (e.guardRise) := by
  unfold Sys2Proof.Machine.Dev.guardRise
  try dsimp only
  repeat' first
    | with_reducible first
      | assumption
      | exact Dev.Grow.refl _
      | apply Dev.Grow.bezelPowerUp
      | apply Dev.Grow.seeGirdle
      | apply Dev.Grow.seeSdc
      | apply Dev.Grow.each
    | intro _
    | split
    | refine Dev.Grow.part ?_ rfl rfl rfl rfl rfl rfl rfl rfl rfl rfl rfl rfl rfl rfl rfl rfl rfl rfl
    | apply Dev.Grow.ite

theorem Dev.Grow.hostEvent {d e : Dev} (e' : EventRec) (h : Dev.Grow d e) :
    Dev.Grow d (e.hostEvent e') := h.trans (Dev.Sent.hostEvent ..).kin.grow

theorem Dev.Grow.hrSettle {d e : Dev} (h : Dev.Grow d e) :
    Dev.Grow d (e.hrSettle) := by
  unfold Sys2Proof.Machine.Dev.hrSettle
  try dsimp only
  repeat' first
    | with_reducible first
      | assumption
      | exact Dev.Grow.refl _
      | apply Dev.Grow.enterLr
      | apply Dev.Grow.flushPort
      | apply Dev.Grow.each
    | intro _
    | split
    | refine Dev.Grow.part ?_ rfl rfl rfl rfl rfl rfl rfl rfl rfl rfl rfl rfl rfl rfl rfl rfl rfl rfl
    | apply Dev.Grow.ite

theorem Dev.Grow.iicStop {d e : Dev} (h : Dev.Grow d e) :
    Dev.Grow d (e.iicStop) := h.trans (Dev.Kin.iicStop ..).grow

theorem Dev.Grow.judge {d e : Dev} (h : Dev.Grow d e) :
    Dev.Grow d (e.judge) := h.trans (Dev.Kin.judge ..).grow

theorem Dev.Grow.keepEvent {d e : Dev} (e' : EventRec) (h : Dev.Grow d e) :
    Dev.Grow d (e.keepEvent e') := h.trans (Dev.Sent.keepEvent ..).kin.grow

theorem Dev.Grow.leave {d e : Dev} (p : Port) (i : TxItem) (h : Dev.Grow d e) :
    Dev.Grow d (e.leave p i) := h.trans (Dev.Sent.leave ..).kin.grow

theorem Dev.Grow.leaveDegraded {d e : Dev} (h : Dev.Grow d e) :
    Dev.Grow d (e.leaveDegraded) := h.trans (Dev.Kin.leaveDegraded ..).grow

theorem Dev.Grow.tryLr {d e : Dev} (p : Port) (h : Dev.Grow d e) :
    Dev.Grow d (e.tryLr p) := by
  unfold Sys2Proof.Machine.Dev.tryLr
  try dsimp only
  repeat' first
    | with_reducible first
      | assumption
      | exact Dev.Grow.refl _
      | apply Dev.Grow.enterLr
    | intro _
    | split
    | refine Dev.Grow.part ?_ rfl rfl rfl rfl rfl rfl rfl rfl rfl rfl rfl rfl rfl rfl rfl rfl rfl rfl
    | apply Dev.Grow.ite

theorem Dev.Grow.sendWord {d e : Dev} (p : Port) (park : Bool) (h : Dev.Grow d e) :
    Dev.Grow d (e.sendWord p park) := by
  unfold Sys2Proof.Machine.Dev.sendWord
  try dsimp only
  repeat' first
    | with_reducible first
      | assumption
      | exact Dev.Grow.refl _
      | apply Dev.Grow.emit
      | apply Dev.Grow.setPort
      | apply Dev.Grow.tryLr
    | intro _
    | split
    | refine Dev.Grow.part ?_ rfl rfl rfl rfl rfl rfl rfl rfl rfl rfl rfl rfl rfl rfl rfl rfl rfl rfl
    | apply Dev.Grow.ite

theorem Dev.Grow.miswired {d e : Dev} (p : Port) (h : Dev.Grow d e) :
    Dev.Grow d (e.miswired p) := by
  unfold Sys2Proof.Machine.Dev.miswired
  try dsimp only
  repeat' first
    | with_reducible first
      | assumption
      | exact Dev.Grow.refl _
      | apply Dev.Grow.put
      | apply Dev.Grow.raise
      | apply Dev.Grow.sendWord
      | apply Dev.Grow.setPort
    | intro _
    | split
    | refine Dev.Grow.part ?_ rfl rfl rfl rfl rfl rfl rfl rfl rfl rfl rfl rfl rfl rfl rfl rfl rfl rfl
    | apply Dev.Grow.ite

theorem Dev.Grow.parkWords {d e : Dev} (h : Dev.Grow d e) :
    Dev.Grow d (e.parkWords) := by
  unfold Sys2Proof.Machine.Dev.parkWords
  try dsimp only
  repeat' first
    | with_reducible first
      | assumption
      | exact Dev.Grow.refl _
      | apply Dev.Grow.sendWord
      | apply Dev.Grow.each
    | intro _
    | split
    | refine Dev.Grow.part ?_ rfl rfl rfl rfl rfl rfl rfl rfl rfl rfl rfl rfl rfl rfl rfl rfl rfl rfl
    | apply Dev.Grow.ite

theorem Dev.Grow.portsOff {d e : Dev} (h : Dev.Grow d e) :
    Dev.Grow d (e.portsOff) := by
  unfold Sys2Proof.Machine.Dev.portsOff
  try dsimp only
  repeat' first
    | with_reducible first
      | assumption
      | exact Dev.Grow.refl _
      | apply Dev.Grow.flushPort
      | apply Dev.Grow.put
      | apply Dev.Grow.each
    | intro _
    | split
    | refine Dev.Grow.part ?_ rfl rfl rfl rfl rfl rfl rfl rfl rfl rfl rfl rfl rfl rfl rfl rfl rfl rfl
    | apply Dev.Grow.ite

theorem Dev.Grow.portsOn {d e : Dev} (h : Dev.Grow d e) :
    Dev.Grow d (e.portsOn) := by
  unfold Sys2Proof.Machine.Dev.portsOn
  try dsimp only
  repeat' first
    | with_reducible first
      | assumption
      | exact Dev.Grow.refl _
      | apply Dev.Grow.intoDown
      | apply Dev.Grow.each
    | intro _
    | split
    | refine Dev.Grow.part ?_ rfl rfl rfl rfl rfl rfl rfl rfl rfl rfl rfl rfl rfl rfl rfl rfl rfl rfl
    | apply Dev.Grow.ite

theorem Dev.Grow.ringUnlock {d e : Dev} (h : Dev.Grow d e) :
    Dev.Grow d (e.ringUnlock) := h.trans (Dev.Kin.ringUnlock ..).grow

theorem Dev.Grow.seeTimePort {d e : Dev} (h : Dev.Grow d e) :
    Dev.Grow d (e.seeTimePort) := by
  unfold Sys2Proof.Machine.Dev.seeTimePort
  try dsimp only
  repeat' first
    | with_reducible first
      | assumption
      | exact Dev.Grow.refl _
      | apply Dev.Grow.put
      | apply Dev.Grow.ringUnlock
    | intro _
    | split
    | refine Dev.Grow.part ?_ rfl rfl rfl rfl rfl rfl rfl rfl rfl rfl rfl rfl rfl rfl rfl rfl rfl rfl
    | apply Dev.Grow.ite

theorem Dev.Grow.services {d e : Dev} (was : Bool) (h : Dev.Grow d e) :
    Dev.Grow d (Dev.services was e) := h.trans (Dev.Kin.services ..).grow

theorem Dev.Grow.moveTo {d e : Dev} (cur : Nat) (base : Nat) (trig : Nat) (h : Dev.Grow d e) :
    Dev.Grow d (e.moveTo cur base trig) := by
  unfold Sys2Proof.Machine.Dev.moveTo
  try dsimp only
  repeat' first
    | with_reducible first
      | assumption
      | exact Dev.Grow.refl _
      | apply Dev.Grow.bdlRise
      | apply Dev.Grow.clkSettle
      | apply Dev.Grow.evalStart
      | apply Dev.Grow.guardFall
      | apply Dev.Grow.guardRise
      | apply Dev.Grow.guardSettle
      | apply Dev.Grow.hrSettle
      | apply Dev.Grow.parkWords
      | apply Dev.Grow.portsOff
      | apply Dev.Grow.portsOn
      | apply Dev.Grow.reportFound
      | apply Dev.Grow.seeTimePort
      | apply Dev.Grow.services
      | apply Dev.Grow.showMode
    | intro _
    | split
    | refine Dev.Grow.part ?_ rfl rfl rfl rfl rfl rfl rfl rfl rfl rfl rfl rfl rfl rfl rfl rfl rfl rfl
    | apply Dev.Grow.ite

theorem Dev.Grow.overTrans {d e : Dev} (h : Dev.Grow d e) :
    Dev.Grow d (e.overTrans) := h.trans (Dev.Kin.overTrans ..).grow

theorem Dev.Grow.owdLose {d e : Dev} (h : Dev.Grow d e) :
    Dev.Grow d (e.owdLose) := h.trans (Dev.Kin.owdLose ..).grow

theorem Dev.Grow.ringSignal {d e : Dev} (r : Nat) (n : Nat) (h : Dev.Grow d e) :
    Dev.Grow d (e.ringSignal r n) := h.trans (Dev.Sent.ringSignal ..).kin.grow

theorem Dev.Grow.ringWrite {d e : Dev} (r : Nat) (n : Nat) (bs : List Byte) (h : Dev.Grow d e) :
    Dev.Grow d (e.ringWrite r n bs) := h.trans (Dev.Sent.ringWrite ..).kin.grow

theorem Dev.Grow.safeExit {d e : Dev} (h : Dev.Grow d e) :
    Dev.Grow d (e.safeExit) := h.trans (Dev.Kin.safeExit ..).grow

theorem Dev.Grow.schedSkip {d e : Dev} (l : Nat) (h : Dev.Grow d e) :
    Dev.Grow d (e.schedSkip l) := by
  unfold Sys2Proof.Machine.Dev.schedSkip
  try dsimp only
  repeat' first
    | with_reducible first
      | assumption
      | exact Dev.Grow.refl _
      | apply Dev.Grow.countSat
      | apply Dev.Grow.raise
      | apply Dev.Grow.setBline
    | intro _
    | split
    | refine Dev.Grow.part ?_ rfl rfl rfl rfl rfl rfl rfl rfl rfl rfl rfl rfl rfl rfl rfl rfl rfl rfl
    | apply Dev.Grow.ite

theorem Dev.Grow.schedStart {d e : Dev} (l : Nat) (h : Dev.Grow d e) :
    Dev.Grow d (e.schedStart l) := by
  unfold Sys2Proof.Machine.Dev.schedStart
  try dsimp only
  repeat' first
    | with_reducible first
      | assumption
      | exact Dev.Grow.refl _
      | apply Dev.Grow.bdlStep
      | apply Dev.Grow.setBline
    | intro _
    | split
    | refine Dev.Grow.part ?_ rfl rfl rfl rfl rfl rfl rfl rfl rfl rfl rfl rfl rfl rfl rfl rfl rfl rfl
    | apply Dev.Grow.ite

theorem Dev.Grow.seeBinding {d e : Dev} (h : Dev.Grow d e) :
    Dev.Grow d (e.seeBinding) := by
  unfold Sys2Proof.Machine.Dev.seeBinding
  try dsimp only
  repeat' first
    | with_reducible first
      | assumption
      | exact Dev.Grow.refl _
      | apply Dev.Grow.budgetEval
    | intro _
    | split
    | refine Dev.Grow.part ?_ rfl rfl rfl rfl rfl rfl rfl rfl rfl rfl rfl rfl rfl rfl rfl rfl rfl rfl
    | apply Dev.Grow.ite

theorem Dev.Grow.seeMclk {d e : Dev} (h : Dev.Grow d e) :
    Dev.Grow d (e.seeMclk) := h.trans (Dev.Kin.seeMclk ..).grow

theorem Dev.Grow.seeSingle {d e : Dev} (h : Dev.Grow d e) :
    Dev.Grow d (e.seeSingle) := h.trans (Dev.Kin.seeSingle ..).grow

theorem Dev.Grow.sendCredit {d e : Dev} (p : Port) (h : Dev.Grow d e) :
    Dev.Grow d (e.sendCredit p) := by
  unfold Sys2Proof.Machine.Dev.sendCredit
  try dsimp only
  repeat' first
    | with_reducible first
      | assumption
      | exact Dev.Grow.refl _
      | apply Dev.Grow.emit
      | apply Dev.Grow.setPort
    | intro _
    | split
    | refine Dev.Grow.part ?_ rfl rfl rfl rfl rfl rfl rfl rfl rfl rfl rfl rfl rfl rfl rfl rfl rfl rfl
    | apply Dev.Grow.ite

theorem Dev.Grow.sendEvents {d e : Dev} (h : Dev.Grow d e) :
    Dev.Grow d (e.sendEvents) := h.trans (Dev.Sent.sendEvents ..).kin.grow

theorem Dev.Grow.sendGuard {d e : Dev} (last : Bool) (h : Dev.Grow d e) :
    Dev.Grow d (e.sendGuard last) := h.trans (Dev.Kin.sendGuard ..).grow

theorem Dev.Grow.sendTrip {d e : Dev} (h : Dev.Grow d e) :
    Dev.Grow d (e.sendTrip) := h.trans (Dev.Kin.sendTrip ..).grow

theorem Dev.Grow.servicesDown {d e : Dev} (h : Dev.Grow d e) :
    Dev.Grow d (e.servicesDown) := h.trans (Dev.Kin.servicesDown ..).grow

theorem Dev.Grow.servicesUp {d e : Dev} (h : Dev.Grow d e) :
    Dev.Grow d (e.servicesUp) := h.trans (Dev.Kin.servicesUp ..).grow

theorem Dev.Grow.setHwl {d e : Dev} (energised : Bool) (detail : Nat) (h : Dev.Grow d e) :
    Dev.Grow d (e.setHwl energised detail) := h.trans (Dev.Kin.setHwl ..).grow

theorem Dev.Grow.setRing {d e : Dev} (r : Nat) (s : RingSt) (h : Dev.Grow d e) :
    Dev.Grow d (e.setRing r s) := h.trans (Dev.Sent.setRing ..).kin.grow

theorem Dev.Grow.startTrans {d e : Dev} (goal : Nat) (trig : Nat) (h : Dev.Grow d e) :
    Dev.Grow d (e.startTrans goal trig) := h.trans (Dev.Moved.startTrans ..).kin.grow

theorem Dev.Grow.thenBudget {d e : Dev} (later : Option (Nat × Nat)) (trig : Nat) (h : Dev.Grow d e) :
    Dev.Grow d (e.thenBudget later trig) := by
  unfold Sys2Proof.Machine.Dev.thenBudget
  try dsimp only
  repeat' first
    | with_reducible first
      | assumption
      | exact Dev.Grow.refl _
      | apply Dev.Grow.budgetEval
      | apply Dev.Grow.startTrans
    | intro _
    | split
    | refine Dev.Grow.part ?_ rfl rfl rfl rfl rfl rfl rfl rfl rfl rfl rfl rfl rfl rfl rfl rfl rfl rfl
    | apply Dev.Grow.ite

theorem Dev.Grow.transOver {d e : Dev} (h : Dev.Grow d e) :
    Dev.Grow d (e.transOver) := by
  unfold Sys2Proof.Machine.Dev.transOver
  try dsimp only
  repeat' first
    | with_reducible first
      | assumption
      | exact Dev.Grow.refl _
      | apply Dev.Grow.put
    | intro _
    | split
    | refine Dev.Grow.part ?_ rfl rfl rfl rfl rfl rfl rfl rfl rfl rfl rfl rfl rfl rfl rfl rfl rfl rfl
    | apply Dev.Grow.ite

theorem Dev.Grow.stopTb {d e : Dev} (h : Dev.Grow d e) :
    Dev.Grow d (e.stopTb) := h.trans (Dev.Kin.stopTb ..).grow

theorem Dev.Grow.stopWindows {d e : Dev} (h : Dev.Grow d e) :
    Dev.Grow d (e.stopWindows) := h.trans (Dev.Kin.stopWindows ..).grow

theorem Dev.Grow.sweepAbort {d e : Dev} (result : Nat) (h : Dev.Grow d e) :
    Dev.Grow d (e.sweepAbort result) := h.trans (Dev.Kin.sweepAbort ..).grow

theorem Dev.Grow.sweepModeEnd {d e : Dev} (h : Dev.Grow d e) :
    Dev.Grow d (e.sweepModeEnd) := h.trans (Dev.Kin.sweepModeEnd ..).grow

theorem Dev.Grow.transDone {d e : Dev} (h : Dev.Grow d e) :
    Dev.Grow d (e.transDone) := by
  unfold Sys2Proof.Machine.Dev.transDone
  try dsimp only
  repeat' first
    | with_reducible first
      | assumption
      | exact Dev.Grow.refl _
      | apply Dev.Grow.moveTo
      | apply Dev.Grow.setHold
      | apply Dev.Grow.thenBudget
      | apply Dev.Grow.transOver
    | intro _
    | split
    | refine Dev.Grow.part ?_ rfl rfl rfl rfl rfl rfl rfl rfl rfl rfl rfl rfl rfl rfl rfl rfl rfl rfl
    | apply Dev.Grow.ite

theorem Dev.Grow.tryTrain {d e : Dev} (p : Port) (h : Dev.Grow d e) :
    Dev.Grow d (e.tryTrain p) := by
  unfold Sys2Proof.Machine.Dev.tryTrain
  try dsimp only
  repeat' first
    | with_reducible first
      | assumption
      | exact Dev.Grow.refl _
      | apply Dev.Grow.put
      | apply Dev.Grow.sendWord
    | intro _
    | split
    | refine Dev.Grow.part ?_ rfl rfl rfl rfl rfl rfl rfl rfl rfl rfl rfl rfl rfl rfl rfl rfl rfl rfl
    | apply Dev.Grow.ite

theorem Dev.Grow.ttrip {d e : Dev} (a : Afe) (h : Dev.Grow d e) :
    Dev.Grow d (e.ttrip a) := h.trans (Dev.Kin.ttrip ..).grow

theorem Dev.Grow.writeBack {d e : Dev} (off : Nat) (v : Nat) (h : Dev.Grow d e) :
    Dev.Grow d (e.writeBack off v) := by
  unfold Sys2Proof.Machine.Dev.writeBack
  try dsimp only
  repeat' first
    | with_reducible first
      | assumption
      | exact Dev.Grow.refl _
      | apply Dev.Grow.emit
    | intro _
    | split
    | refine Dev.Grow.part ?_ rfl rfl rfl rfl rfl rfl rfl rfl rfl rfl rfl rfl rfl rfl rfl rfl rfl rfl
    | apply Dev.Grow.ite

theorem Dev.Grow.blockClockBoundaryDev {d e : Dev} (base : Nat) (h : Dev.Grow d e) :
    Dev.Grow d (blockClockBoundaryDev base e) := by
  unfold Sys2Proof.Machine.blockClockBoundaryDev
  try dsimp only
  repeat' first
    | with_reducible first
      | assumption
      | exact Dev.Grow.refl _
      | apply Dev.Grow.evalBlock
      | apply Dev.Grow.evalGroup
      | apply Dev.Grow.each
    | intro _
    | split
    | refine Dev.Grow.part ?_ rfl rfl rfl rfl rfl rfl rfl rfl rfl rfl rfl rfl rfl rfl rfl rfl rfl rfl
    | apply Dev.Grow.ite

theorem Dev.Grow.blockLockRegainedDev {d e : Dev} (p : Port) (h : Dev.Grow d e) :
    Dev.Grow d (blockLockRegainedDev p e) := by
  unfold Sys2Proof.Machine.blockLockRegainedDev
  try dsimp only
  repeat' first
    | with_reducible first
      | assumption
      | exact Dev.Grow.refl _
      | apply Dev.Grow.enterHr
    | intro _
    | split
    | refine Dev.Grow.part ?_ rfl rfl rfl rfl rfl rfl rfl rfl rfl rfl rfl rfl rfl rfl rfl rfl rfl rfl
    | apply Dev.Grow.ite

theorem Dev.Grow.downSilenceEndDev {d e : Dev} (p : Port) (h : Dev.Grow d e) :
    Dev.Grow d (downSilenceEndDev p e) := by
  unfold Sys2Proof.Machine.downSilenceEndDev
  try dsimp only
  repeat' first
    | with_reducible first
      | assumption
      | exact Dev.Grow.refl _
      | apply Dev.Grow.setPort
    | intro _
    | split
    | refine Dev.Grow.part ?_ rfl rfl rfl rfl rfl rfl rfl rfl rfl rfl rfl rfl rfl rfl rfl rfl rfl rfl
    | apply Dev.Grow.ite

theorem Dev.Grow.hrRetryExpiryDev {d e : Dev} (p : Port) (h : Dev.Grow d e) :
    Dev.Grow d (hrRetryExpiryDev p e) := by
  unfold Sys2Proof.Machine.hrRetryExpiryDev
  try dsimp only
  repeat' first
    | with_reducible first
      | assumption
      | exact Dev.Grow.refl _
      | apply Dev.Grow.put
      | apply Dev.Grow.tryTrain
    | intro _
    | split
    | refine Dev.Grow.part ?_ rfl rfl rfl rfl rfl rfl rfl rfl rfl rfl rfl rfl rfl rfl rfl rfl rfl rfl
    | apply Dev.Grow.ite

theorem Dev.Grow.legacyFrameTimeoutDev {d e : Dev} (p : Port) (h : Dev.Grow d e) :
    Dev.Grow d (legacyFrameTimeoutDev p e) := by
  unfold Sys2Proof.Machine.legacyFrameTimeoutDev
  try dsimp only
  repeat' first
    | with_reducible first
      | assumption
      | exact Dev.Grow.refl _
      | apply Dev.Grow.enterDown
    | intro _
    | split
    | refine Dev.Grow.part ?_ rfl rfl rfl rfl rfl rfl rfl rfl rfl rfl rfl rfl rfl rfl rfl rfl rfl rfl
    | apply Dev.Grow.ite

theorem Dev.Grow.lineCheckDev {d e : Dev} (p : Port) (h : Dev.Grow d e) :
    Dev.Grow d (lineCheckDev p e) := by
  unfold Sys2Proof.Machine.lineCheckDev
  try dsimp only
  repeat' first
    | with_reducible first
      | assumption
      | exact Dev.Grow.refl _
      | apply Dev.Grow.put
      | apply Dev.Grow.raise
      | apply Dev.Grow.setPort
    | intro _
    | split
    | refine Dev.Grow.part ?_ rfl rfl rfl rfl rfl rfl rfl rfl rfl rfl rfl rfl rfl rfl rfl rfl rfl rfl
    | apply Dev.Grow.ite

theorem Dev.Grow.lineCheckDoneDev {d e : Dev} (p : Port) (rtx : Nat) (rrx : Nat) (dtx : Nat) (drx : Nat) (h : Dev.Grow d e) :
    Dev.Grow d (lineCheckDoneDev p rtx rrx dtx drx e) := by
  unfold Sys2Proof.Machine.lineCheckDoneDev
  try dsimp only
  repeat' first
    | with_reducible first
      | assumption
      | exact Dev.Grow.refl _
      | apply Dev.Grow.put
      | apply Dev.Grow.raise
      | apply Dev.Grow.setPort
    | intro _
    | split
    | refine Dev.Grow.part ?_ rfl rfl rfl rfl rfl rfl rfl rfl rfl rfl rfl rfl rfl rfl rfl rfl rfl rfl
    | apply Dev.Grow.ite

theorem Dev.Grow.linkWordDev {d e : Dev} (p : Port) (w : BitVec 16) (inv : Bool) (h : Dev.Grow d e) :
    Dev.Grow d (linkWordDev p w inv e) := by
  unfold Sys2Proof.Machine.linkWordDev
  try dsimp only
  repeat' first
    | with_reducible first
      | assumption
      | exact Dev.Grow.refl _
      | apply Dev.Grow.miswired
      | apply Dev.Grow.put
      | apply Dev.Grow.putB
      | apply Dev.Grow.raise
      | apply Dev.Grow.sendWord
      | apply Dev.Grow.setPort
      | apply Dev.Grow.tryLr
      | apply Dev.Grow.tryTrain
    | intro _
    | split
    | refine Dev.Grow.part ?_ rfl rfl rfl rfl rfl rfl rfl rfl rfl rfl rfl rfl rfl rfl rfl rfl rfl rfl
    | apply Dev.Grow.ite

theorem Dev.Grow.linkWordSendDev {d e : Dev} (p : Port) (h : Dev.Grow d e) :
    Dev.Grow d (linkWordSendDev p e) := by
  unfold Sys2Proof.Machine.linkWordSendDev
  try dsimp only
  repeat' first
    | with_reducible first
      | assumption
      | exact Dev.Grow.refl _
      | apply Dev.Grow.sendWord
      | apply Dev.Grow.tryTrain
    | intro _
    | split
    | refine Dev.Grow.part ?_ rfl rfl rfl rfl rfl rfl rfl rfl rfl rfl rfl rfl rfl rfl rfl rfl rfl rfl
    | apply Dev.Grow.ite

theorem Dev.Grow.preambleTimeoutDev {d e : Dev} (p : Port) (h : Dev.Grow d e) :
    Dev.Grow d (preambleTimeoutDev p e) := by
  unfold Sys2Proof.Machine.preambleTimeoutDev
  try dsimp only
  repeat' first
    | with_reducible first
      | assumption
      | exact Dev.Grow.refl _
      | apply Dev.Grow.enterDown
    | intro _
    | split
    | refine Dev.Grow.part ?_ rfl rfl rfl rfl rfl rfl rfl rfl rfl rfl rfl rfl rfl rfl rfl rfl rfl rfl
    | apply Dev.Grow.ite

theorem Dev.Grow.prtHrdisDev {d e : Dev} (p : Port) (v : Bool) (h : Dev.Grow d e) :
    Dev.Grow d (prtHrdisDev p v e) := by
  unfold Sys2Proof.Machine.prtHrdisDev
  try dsimp only
  repeat' first
    | with_reducible first
      | assumption
      | exact Dev.Grow.refl _
      | apply Dev.Grow.putB
    | intro _
    | split
    | refine Dev.Grow.part ?_ rfl rfl rfl rfl rfl rfl rfl rfl rfl rfl rfl rfl rfl rfl rfl rfl rfl rfl
    | apply Dev.Grow.ite

theorem Dev.Grow.prtRetrnDev {d e : Dev} (p : Port) (far : Bool) (h : Dev.Grow d e) :
    Dev.Grow d (prtRetrnDev p far e) := by
  unfold Sys2Proof.Machine.prtRetrnDev
  try dsimp only
  repeat' first
    | with_reducible first
      | assumption
      | exact Dev.Grow.refl _
      | apply Dev.Grow.put
    | intro _
    | split
    | refine Dev.Grow.part ?_ rfl rfl rfl rfl rfl rfl rfl rfl rfl rfl rfl rfl rfl rfl rfl rfl rfl rfl
    | apply Dev.Grow.ite

theorem Dev.Grow.retrainTimeoutDev {d e : Dev} (p : Port) (signal : Bool) (h : Dev.Grow d e) :
    Dev.Grow d (retrainTimeoutDev p signal e) := by
  unfold Sys2Proof.Machine.retrainTimeoutDev
  try dsimp only
  repeat' first
    | with_reducible first
      | assumption
      | exact Dev.Grow.refl _
      | apply Dev.Grow.enterDown
      | apply Dev.Grow.put
    | intro _
    | split
    | refine Dev.Grow.part ?_ rfl rfl rfl rfl rfl rfl rfl rfl rfl rfl rfl rfl rfl rfl rfl rfl rfl rfl
    | apply Dev.Grow.ite

theorem Dev.Grow.syncHeaderErrorsDev {d e : Dev} (p : Port) (n : Nat) (h : Dev.Grow d e) :
    Dev.Grow d (syncHeaderErrorsDev p n e) := by
  unfold Sys2Proof.Machine.syncHeaderErrorsDev
  try dsimp only
  repeat' first
    | with_reducible first
      | assumption
      | exact Dev.Grow.refl _
      | apply Dev.Grow.countSat
      | apply Dev.Grow.put
    | intro _
    | split
    | refine Dev.Grow.part ?_ rfl rfl rfl rfl rfl rfl rfl rfl rfl rfl rfl rfl rfl rfl rfl rfl rfl rfl
    | apply Dev.Grow.ite

theorem Dev.Grow.toneEndDev {d e : Dev} (p : Port) (h : Dev.Grow d e) :
    Dev.Grow d (toneEndDev p e) := by
  unfold Sys2Proof.Machine.toneEndDev
  try dsimp only
  repeat' first
    | with_reducible first
      | assumption
      | exact Dev.Grow.refl _
      | apply Dev.Grow.enterDown
    | intro _
    | split
    | refine Dev.Grow.part ?_ rfl rfl rfl rfl rfl rfl rfl rfl rfl rfl rfl rfl rfl rfl rfl rfl rfl rfl
    | apply Dev.Grow.ite

theorem Dev.Grow.trainingDoneDev {d e : Dev} (p : Port) (preset : Nat) (eyeh : Nat) (eyev : Nat) (rxinv : Bool) (h : Dev.Grow d e) :
    Dev.Grow d (trainingDoneDev p preset eyeh eyev rxinv e) := by
  unfold Sys2Proof.Machine.trainingDoneDev
  try dsimp only
  repeat' first
    | with_reducible first
      | assumption
      | exact Dev.Grow.refl _
      | apply Dev.Grow.countMod
      | apply Dev.Grow.enterHr
      | apply Dev.Grow.put
      | apply Dev.Grow.putB
    | intro _
    | split
    | refine Dev.Grow.part ?_ rfl rfl rfl rfl rfl rfl rfl rfl rfl rfl rfl rfl rfl rfl rfl rfl rfl rfl
    | apply Dev.Grow.ite

theorem Dev.Grow.trainingFailDev {d e : Dev} (p : Port) (eyeh : Nat) (eyev : Nat) (h : Dev.Grow d e) :
    Dev.Grow d (trainingFailDev p eyeh eyev e) := by
  unfold Sys2Proof.Machine.trainingFailDev
  try dsimp only
  repeat' first
    | with_reducible first
      | assumption
      | exact Dev.Grow.refl _
      | apply Dev.Grow.enterLr
      | apply Dev.Grow.put
      | apply Dev.Grow.raise
    | intro _
    | split
    | refine Dev.Grow.part ?_ rfl rfl rfl rfl rfl rfl rfl rfl rfl rfl rfl rfl rfl rfl rfl rfl rfl rfl
    | apply Dev.Grow.ite

end Sys2Proof.Machine
end

