-- ==== Sys2Proof/WellFormed.lean ====
section
/-!
DEFINITION. Which terms of `Instr` spell a command that can reach the part: every operand within the field, the list or the
set that its rule gives it. A command outside these bounds has no sender; the meanings are total on it all the same.
-/

namespace Sys2Proof

/-- Lists of one value per cell. -/
def cellLists (ls : List (List Int)) : Bool := ls.all (fun l => decide (l.length ≤ 36))

/-- At most `n` conversions of the aux SAR with 16-bit codes (R126). -/
def convsOk (n : Nat) (cs : List SarConv) : Bool := decide (cs.length ≤ n) && cs.all (fun c => decide (c.code < 2 ^ 16))

/-- The position of a member (R320). -/
def posOk (pos : Nat) : Bool := decide (1 ≤ pos ∧ pos ≤ 63)

/-- The first cell of a bank (R19). -/
def bankFirst : Afe → Nat | .L => 1 | .U => 19

/-- A window shows at most the 36 cells and a stage at most once. -/
def WinIn.wf (w : WinIn) : Bool :=
  decide (w.cells.length ≤ 36) && w.stages.all (fun s => decide (1 ≤ s.cell ∧ s.cell ≤ 36)) && (w.stages.map (·.cell)).Nodup

/-- The input of a comparator: a local cell, or an AUX input (R245). -/
def CmpId.wf (c : CmpId) : Bool :=
  match c.kind with
  | .ov | .uv => decide (1 ≤ c.idx ∧ c.idx ≤ 18)
  | .ot | .ut => decide (c.idx < 8)

/-- The fields of an extended frame fit their widths, and its payload the largest frame (Table 13-3, R326). -/
def XFrame.wf (x : XFrame) : Bool :=
  decide (x.ftype < 256 ∧ x.tc < 4 ∧ x.pos < 64 ∧ x.seql < 256 ∧ x.tag < 2 ^ 16 ∧ x.seqf < 2 ^ 32 ∧ x.payload.length ≤ 1024)

/-- The fields of a descriptor fit their widths (Table 15-5). -/
def Desc.wf (d : Desc) : Bool :=
  decide (d.cid < 2 ^ 16 ∧ d.pos < 64 ∧ d.count < 256 ∧ d.len < 2 ^ 16 ∧ d.addr < 2 ^ 32 ∧ d.haddr < 2 ^ 64 ∧ d.param < 2 ^ 64)

/-- The operands of a command are ones that its rule allows. -/
def Instr.wf : Instr → Bool
  | .powerOnReset _ => true
  | .brownOut _ => true
  | .dieReset _ _ => true
  | .watchdogExpiry => true
  | .warmResetEnd _ _ _ => true
  | .drstWarm => true
  | .drstPhyn => true
  | .drstPhys => true
  | .drstBpdl => true
  | .drstBpdu => true
  | .drstBurl => true
  | .registerWrite addr _ => decide (addr < 2 ^ 24)
  | .cintlRead addr => decide (addr < 2 ^ 24)
  | .tbNowlRead => true
  | .commitArm addr groups => decide (addr < 2 ^ 24 ∧ groups ≠ 0)
  | .commitDiscard addr groups => decide (addr < 2 ^ 24 ∧ groups ≠ 0)
  | .commitClrrej addr => decide (addr < 2 ^ 24)
  | .blockClockBoundary blockBase => decide (blockBase < 2 ^ 24 ∧ blockBase % 0x1000 = 0)
  | .pwrBudgetWrite _ => true
  | .enterShip => true
  | .enterProvision => true
  | .leaveProvision => true
  | .shipEntryDone _ => true
  | .holdExpiry => true
  | .modeTransitionDone => true
  | .wakeTone _ _ => true
  | .wakePin => true
  | .toneEnd _ => true
  | .patrolCheck o => cellLists [o.band, o.odd, o.even, o.bandR, o.oddR, o.evenR]
  | .clockFail domain => decide (domain < 15)
  | .integrationStart _ => true
  | .fastWindowBoundary w => w.wf
  | .blockFormation => true
  | .mark _ => true
  | .captureForce => true
  | .snapshotCopyDone => true
  | .captureThaw => true
  | .burlError _ _ => true
  | .auxGo _ => true
  | .auxEnable _ _ => true
  | .auxTriggerEvent _ _ => true
  | .auxPassStart _ => true
  | .auxDlyExpiry _ mtick => decide (mtick < 2 ^ 64)
  | .auxEntryComplete _ convs mtick => decide (mtick < 2 ^ 64) && convsOk 256 convs
  | .auxUrgGo _ sel input diag => decide (sel < 32 ∧ input < 32) && diag.all (fun j => decide (j.1 < 32 ∧ j.2 < 32))
  | .urgentResult _ c mtick => decide (mtick < 2 ^ 64) && convsOk 1 [c]
  | .plausibilitySlot _ convs => convsOk 128 convs
  | .calBegin _ => true
  | .calPointLo _ => true
  | .calPointHi _ => true
  | .calApply _ => true
  | .calRefresh _ => true
  | .calFactory _ => true
  | .calAbort _ => true
  | .calStepUnlisted _ code => decide (code < 16) && !([1, 2, 3, 4, 5, 6, 15].contains code)
  | .calPointTimeout _ => true
  | .calSessionTimeout _ => true
  | .calNvmStoreDone _ _ => true
  | .balStart => true
  | .balStop => true
  | .switchingPeriodEnd b meters _ _ => meters.all (fun m => decide (bankFirst b ≤ m.cell ∧ m.cell < bankFirst b + 18)) && (meters.map (·.cell)).Nodup
  | .bpdMeterInterval _ _ _ => true
  | .bpdOvertemp _ _ => true
  | .bpdTempRecovered _ _ => true
  | .impArm => true
  | .impAbort => true
  | .tapProbeEnd _ => true
  | .owdJreq wire => decide (wire < 64)
  | .comparatorsValid => true
  | .comparatorInputCrossing c _ => c.wf
  | .comparatorTrip c => c.wf
  | .comparatorRelease c => c.wf
  | .bezelStartHeld _ => true
  | .bezelRowSup _ => true
  | .bezelRowRef _ => true
  | .bezelRowClk _ => true
  | .xbCrossingLost => true
  | .bezelLatchReset _ => true
  | .bezelTtrip _ => true
  | .bzlSave _ => true
  | .bzlSaveDone _ _ => true
  | .selftestSlot _ => true
  | .selftestSlotEnd _ failedStep => match failedStep with | some k => decide (1 ≤ k ∧ k ≤ 3) | none => true
  | .keepAliveLoss => true
  | .carrierLoss => true
  | .carrierPresent _ => true
  | .sdcEnable _ => true
  | .sdcLatchReset _ => true
  | .processorLatchReset _ => true
  | .darkPulseStart _ => true
  | .darkPulseEnd _ _ => true
  | .darkPulseReturnTimeout _ _ => true
  | .lineTestSpan _ _ _ => true
  | .sdcFaultClear c => decide (c = .sdcP ∨ c = .sdcN)
  | .gapSlot => true
  | .gapCheck pos _ => posOk pos
  | .channelFaultClear _ => true
  | .graceTimerExpiry => true
  | .sdcGraceWrite _ => true
  | .sdcSave => true
  | .sdcSaveDone _ => true
  | .guardFrameSend => true
  | .guardLoss pos => posOk pos
  | .memScrub _ => true
  | .tripRepeat => true
  | .linkWord _ _ _ => true
  | .linkWordSend _ => true
  | .preambleTimeout _ => true
  | .legacyFrameTimeout _ => true
  | .downSilenceEnd _ => true
  | .trainingDone _ preset eyeh eyev _ => decide (preset < 16 ∧ eyeh < 2 ^ 8 ∧ eyev < 2 ^ 8)
  | .trainingFail _ eyeh eyev => decide (eyeh < 2 ^ 8 ∧ eyev < 2 ^ 8)
  | .hrRetryExpiry _ => true
  | .syncHeaderErrors _ n => decide (0 < n)
  | .blockLockRegained _ => true
  | .retrainTimeout _ _ => true
  | .prtRetrn _ _ => true
  | .prtHrdis _ _ => true
  | .lineCheck _ => true
  | .lineCheckDone _ rtx rrx dtx drx => decide (rtx < 8 ∧ rrx < 8 ∧ dtx < 2 ^ 12 ∧ drx < 2 ^ 12)
  | .trip _ _ => true
  | .guard _ _ => true
  | .capreq _ _ => true
  | .capture _ _ => true
  | .credit _ _ => true
  | .creditInit _ _ => true
  | .creditSend _ => true
  | .evack _ _ => true
  | .resetFrame _ _ => true
  | .enumerationFrame _ _ => true
  | .route _ _ => true
  | .sync _ _ => true
  | .noticeLinkdown _ _ => true
  | .noticeLinkup _ _ => true
  | .noticeWarmreset _ _ => true
  | .noticeUnnumbered _ _ => true
  | .noticeSynced _ _ => true
  | .enumans _ _ => true
  | .timingStamp _ _ rx tx => decide (rx < 2 ^ 30 ∧ tx < 2 ^ 30)
  | .timingReq _ _ rx => decide (rx < 2 ^ 30)
  | .timingResp _ _ => true
  | .timingInfo _ _ _ => true
  | .timingExchangeStart _ tx => decide (tx < 2 ^ 30)
  | .commandRd _ x => x.wf
  | .commandWr _ x => x.wf
  | .commandWrl _ x => x.wf
  | .commandRdm _ x => x.wf
  | .commandBadOp _ x => x.wf
  | .bcommand _ x => x.wf
  | .response _ x => x.wf
  | .responseTimeout pos => posOk pos
  | .event _ x => x.wf
  | .eventResend => true
  | .evackSend pos => posOk pos
  | .eventGapTimeout pos => posOk pos
  | .stream _ x => x.wf
  | .spnEnumGo => true
  | .enumStart => true
  | .enumSweepTimeout => true
  | .ringCheckWaitExpiry => true
  | .unnumberedNoticeSend => true
  | .ptmDialogue _ _ => true
  | .ptmLoss => true
  | .ppsEdge _ => true
  | .ppsLoss => true
  | .timeOfDayMessage _ _ => true
  | .tbTodWrite _ _ _ => true
  | .tbSet _ _ => true
  | .tbStep => true
  | .holdoverEnd => true
  | .pcieReset _ => true
  | .hifEnable _ speed width => decide (speed < 16 ∧ width < 16)
  | .ringEnable r v => decide (r < 34) && v.getLsbD 31
  | .ringDisable r => decide (r < 34)
  | .producerDoorbell r _ => decide (r ≤ 8)
  | .consumerDoorbell r _ => decide (9 ≤ r ∧ r < 34)
  | .eventQueueDrain => true
  | .heldCompletionDrain q => decide (q < 8)
  | .nop r d => decide (r ≤ 8) && d.wf
  | .rd r d => decide (r ≤ 8) && d.wf
  | .wr r d => decide (r ≤ 8) && d.wf
  | .wrl r d => decide (r ≤ 8) && d.wf
  | .rdm r d => decide (r ≤ 8) && d.wf
  | .commit r d => decide (r ≤ 8) && d.wf
  | .commitWaitPoll r cid _ => decide (r ≤ 8 ∧ cid < 2 ^ 16)
  | .modereq r d => decide (r ≤ 8) && d.wf
  | .budget r d => decide (r ≤ 8) && d.wf
  | .plan r d => decide (r ≤ 8) && d.wf
  | .sweep r d => decide (r ≤ 8) && d.wf
  | .calstep r d => decide (r ≤ 8) && d.wf
  | .bind r d => decide (r ≤ 8) && d.wf
  | .bindTimeout cid => decide (cid < 2 ^ 16)
  | .unbind r d => decide (r ≤ 8) && d.wf
  | .enum r d => decide (r ≤ 8) && d.wf
  | .interruptCoalesceTimer r => decide (9 ≤ r ∧ r < 34)
  | .dmaError r cid _ => decide (r < 34 ∧ cid < 2 ^ 16)
  | .bdlSearch _ => true
  | .autoSearch l => decide (l < 2)
  | .bdlFrameEnd l _ => decide (l < 2)
  | .bdlWaitEnd l => decide (l < 2)
  | .bdlScheduleFrame l => decide (l < 2)
  | .bdlXctlGo _ => true
  | .bdlSpuFault l => decide (l < 2)
  | .bdlShort l => decide (l < 2)
  | .bdlLineEnable l _ => decide (l < 2)
  | .iicGo => true
  | .iicClrstk _ => true
  | .iicCenWrite _ => true
  | .iicBusIdle => true
  | .iicTransferEnd e => match e with | .ok read => decide (read.length < 256) | .nackAddr => true | .nackData n => decide (n < 256)
  | .arbitrationLost _ read _ => decide (read.length < 256)
  | .iicRetry => true
  | .iicStretchTimeout acked read _ => decide (acked < 256 ∧ read.length < 256)
  | .iicTargetRx bytes => decide (bytes ≠ [])
  | .iicTargetRead n => decide (0 < n)
  | .iicTodaWrite _ _ => true
  | .iicTargetTimeout _ => true
  | .crcData c _ => decide (c < 4)
  | .crcInit c => decide (c < 4)
  | .crcCtxWrite c _ => decide (c < 4)
  | .crcValWrite c _ => decide (c < 4)
  | .rcdProt _ => true
  | .rcdUnprot _ => true
  | .rcdEraseSlot _ => true
  | .rcdEraseHist => true
  | .bistBackground => true
  | .bistBankDone o => decide (o.faddr < 2 ^ 20)
  | .bstGo _ _ => true
  | .bstAbort => true
  | .vcoreOutOfWindow => true
  | .bstRepair => true
  | .bstRetire => true
  | .lcsReq target => decide (target < 8)
  | .lcsResp _ _ => true
  | .authTimeout => true
  | .fuseBurnDone _ => true
  | .fwErase => true
  | .fwProg => true
  | .fwVerify => true
  | .fwOperationDone o => decide (o.result < 16 ∧ o.svn < 32)
  | .fwAct _ => true
  | .fwActResetStart => true
  | .fwConfirm => true
  | .fwTrialExpiry => true
  | .fwLegSave => true
  | .setaddr _ _ => true
  | .legacyWr _ _ => true
  | .legacyRd _ _ => true
  | .ovthUvthWrite _ _ => true
  | .disch _ _ => true
  | .clear _ _ => true
  | .convert _ _ => true
  | .legacyReset _ _ => true
  | .legacyIdleSend => true
  | .legDto v => decide (v < 3)
  | .legChain _ answers => decide (answers ≤ 62)
  | .fwLpxcGo => true
  | .legacyResponse _ => true
  | .lpxTimeout => true
  | .readClear addr => decide (addr < 2 ^ 24)
  | .vstkCrossing _ => true
  | .pmStateChange _ => true
  | .linkL2Entry => true
  | .bezelRowRelease _ row => decide (row < 256)
  | .calReadingEnd _ codes => decide (codes.length = 19)
  | .iicMoveWaitTto => true

end Sys2Proof
end

