-- ==== Sys2Proof/Tests/Slice0.lean ====
section
/-!
SUPPORT. Tests of the model: terms that the well-formedness checks refuse, values the specification works out, and for
every statement with hypotheses a witness: states and operands that meet the hypotheses of its clauses. A witness lists
the instantiated hypotheses clause by clause; one that an earlier clause has already listed is not repeated.
-/

open Sys2Proof Sys2Proof.Machine

namespace Sys2Proof.Tests

-- One theorem at a time: many kernel evaluations at once would need more threads than the memory limit of the check allows.
set_option Elab.async false

/-! ## Well-formedness: one ill-formed term for each check -/

/-- A descriptor of a read of one register at position 2. -/
def ds : Desc :=
  { wait := false, fence := false, rsvd1 := false, rsvd4 := false, cid := 9, bcast := false, pos := 2, count := 1
    len := 4, addr := 0x24000, data := 3#32, haddr := 0x100000, param := 2, buf := List.replicate 64 5#32 }

/-- A frame with a payload. -/
def frame (payload : List Byte) : XFrame := ⟨0xF1, 1, 1, false, false, false, false, false, 0, 1, 0, payload, 0⟩

theorem test_wf_addresses : (Instr.registerWrite (2 ^ 24) 0).wf = false ∧ (Instr.cintlRead (2 ^ 24)).wf = false
    ∧ (Instr.readClear (2 ^ 24)).wf = false ∧ (Instr.commitArm (2 ^ 24) 1).wf = false ∧ (Instr.commitArm 0 0).wf = false
    ∧ (Instr.commitDiscard 0 0).wf = false ∧ (Instr.commitClrrej (2 ^ 24)).wf = false
    ∧ (Instr.blockClockBoundary 0x1800).wf = false := by decide

theorem test_wf_measurements : (Instr.patrolCheck ⟨List.replicate 37 0, [], [], [], [], []⟩).wf = false
    ∧ (Instr.clockFail 15).wf = false ∧ (Instr.fastWindowBoundary ⟨0, List.replicate 37 ⟨0, false, false⟩, ⟨0, false, false⟩,
      ⟨0, false, false⟩, []⟩).wf = false ∧ (Instr.auxEntryComplete .L [⟨2 ^ 16, false, false⟩]).wf = false
    ∧ (Instr.urgentResult .L ⟨2 ^ 16, false, false⟩).wf = false ∧ (Instr.auxUrgGo .L 32 0).wf = false
    ∧ (Instr.auxUrgGo .L 0 0 (some (32, 0))).wf = false ∧ (Instr.auxDlyExpiry .L (2 ^ 64)).wf = false
    ∧ (Instr.plausibilitySlot .L (List.replicate 129 ⟨0, false, false⟩)).wf = false ∧ (Instr.calReadingEnd .L []).wf = false
    ∧ (Instr.calStepUnlisted .L 1).wf = false ∧ (Instr.switchingPeriodEnd .L [⟨19, 0, 0, 0, 0, 0, 0⟩]).wf = false
    ∧ (Instr.owdJreq 64).wf = false := by decide +kernel

theorem test_wf_safety : (Instr.comparatorTrip ⟨.L, .ov, 19⟩).wf = false ∧ (Instr.comparatorRelease ⟨.L, .ot, 8⟩).wf = false
    ∧ (Instr.comparatorInputCrossing ⟨.L, .uv, 0⟩ .trip).wf = false ∧ (Instr.sdcFaultClear .bezelL).wf = false
    ∧ (Instr.gapCheck 64 true).wf = false ∧ (Instr.guardLoss 0).wf = false ∧ (Instr.bezelRowRelease .L 256).wf = false := by
  decide

theorem test_wf_links : (Instr.trainingDone .north 16 0 0 false).wf = false ∧ (Instr.trainingFail .north 256 0).wf = false
    ∧ (Instr.syncHeaderErrors .north 0).wf = false ∧ (Instr.lineCheckDone .north 8 0 0 0).wf = false
    ∧ (Instr.timingStamp .north 0 (2 ^ 30) 0).wf = false ∧ (Instr.timingReq .north 0 (2 ^ 30)).wf = false
    ∧ (Instr.timingExchangeStart .north (2 ^ 30)).wf = false ∧ (Instr.responseTimeout 64).wf = false
    ∧ (Instr.evackSend 0).wf = false ∧ (Instr.eventGapTimeout 0).wf = false := by decide

theorem test_wf_frames : [Instr.commandRd .north, .commandWr .north, .commandWrl .north, .commandRdm .north,
    .commandBadOp .north, .bcommand .north, .response .north, .event .north, .stream .north].all
      (fun c => !(c (frame (List.replicate 1025 0))).wf && !(c { frame [] with tag := 2 ^ 16 }).wf) = true := by
  decide +kernel

theorem test_wf_descriptors : [Instr.nop, .rd, .wr, .wrl, .rdm, .commit, .modereq, .budget, .plan, .sweep, .calstep, .bind,
    .unbind, .enum].all (fun c => !(c 9 ds).wf && !(c 1 { ds with pos := 64 }).wf && (c 1 ds).wf) = true := by decide +kernel

theorem test_wf_host : (Instr.hifEnable true 16 0).wf = false ∧ (Instr.ringEnable 34 0x80000000).wf = false
    ∧ (Instr.ringEnable 0 4).wf = false ∧ (Instr.ringDisable 34).wf = false ∧ (Instr.producerDoorbell 9 0).wf = false
    ∧ (Instr.consumerDoorbell 8 0).wf = false ∧ (Instr.heldCompletionDrain 8).wf = false
    ∧ (Instr.commitWaitPoll 9 0 false).wf = false ∧ (Instr.bindTimeout (2 ^ 16)).wf = false
    ∧ (Instr.interruptCoalesceTimer 8).wf = false ∧ (Instr.dmaError 34 0 0).wf = false := by decide

theorem test_wf_ports : (Instr.autoSearch 2).wf = false ∧ (Instr.bdlFrameEnd 2 ⟨false, false, []⟩).wf = false
    ∧ (Instr.bdlWaitEnd 2).wf = false ∧ (Instr.bdlScheduleFrame 2).wf = false ∧ (Instr.bdlSpuFault 2).wf = false
    ∧ (Instr.bdlShort 2).wf = false ∧ (Instr.bdlLineEnable 2 true).wf = false ∧ (Instr.iicTransferEnd (.nackData 256)).wf = false
    ∧ (Instr.arbitrationLost 0 (List.replicate 256 0) .none).wf = false
    ∧ (Instr.iicStretchTimeout 256 [] ⟨true, false, false⟩).wf = false ∧ (Instr.iicTargetRx []).wf = false
    ∧ (Instr.iicTargetRead 0).wf = false := by decide +kernel

theorem test_wf_services : (Instr.crcData 4 0).wf = false ∧ (Instr.crcInit 4).wf = false ∧ (Instr.crcCtxWrite 4 0).wf = false
    ∧ (Instr.crcValWrite 4 0).wf = false ∧ (Instr.bistBankDone ⟨true, 0, 2 ^ 20, 0, 0⟩).wf = false
    ∧ (Instr.lcsReq 8).wf = false ∧ (Instr.fwOperationDone ⟨16, 0, 0⟩).wf = false ∧ (Instr.legDto 3).wf = false
    ∧ (Instr.legChain .north 63).wf = false := by decide

/-! ## Values that the specification works out -/

/-- The nine ASCII bytes of the check values. -/
def digits : List Byte := (List.range 9).map (fun i => BitVec.ofNat 8 (0x31 + i))

/-- Table 18-1, and the check value of R511. -/
theorem test_crc_check_values : crc8 digits = 0x20#8 ∧ crc16 digits = 0x29B1#16 ∧ crc32c digits = 0xE3069283#32
    ∧ digits.foldl (crcMsbByte 0x07#8) 0 = 0xF4#8 := by decide +kernel

/-- Example 4-1: WSEQ of the last old and of the first new window. -/
theorem test_wseq_of_example_4_1 : wseqAt 100000 0 10512000000100000 = 2040784897
    ∧ boundaryFrom 120000 0 10512000000100000 = 10512000000120000 ∧ wseqAt 120000 0 10512000000120000 = 1700654081 := by
  decide +kernel

/-- Example 5-1: the slots of a plausibility window. -/
theorem test_slots_of_example_5_1 : (List.range 4).map (slotStart 0 0 120000 4) = [15015, 45015, 75015, 105015] := by
  decide +kernel

/-- Example 0-1: global cell 25 is local cell 7 of AFE-U. -/
theorem test_cell_25 : bankOf 25 = .U ∧ localOf 25 = 7 ∧ globalOf .U 7 = 25 := by decide

/-- Example 20-1: what a legacy register holds of a result with CMP set; an invalid result reads 0. -/
theorem test_legacy_cell : legCell 33021475 8 = 0x80FD ∧ legCell 33021475 1 = 0 := by decide +kernel

/-- The command table gives no bits, so no word spells a command. -/
theorem test_no_word_spells_a_command : decodeTableWord 32 0x12345678 = none := by decide

/-! ## States of the witnesses -/

/-- A member in MONITOR after its start, with every register at its reset word. -/
def mem : Dev := { Dev.anew .F .member with pw := { PowerSt.init with starting := false } }

/-- A head in MONITOR after its start. -/
def hed : Dev := { Dev.anew .F .head with pw := { PowerSt.init with starting := false } }

/-- A device in a mode. -/
def inMode (d : Dev) (m : Mode) (base : Nat) : Dev := (d.put PWR_STAT_CUR m.code).put PWR_STAT_BASE base

/-- A device with both ports in LR. -/
def linked (d : Dev) : Dev := (d.put (SPN_PORT_STATE .north) pLr).put (SPN_PORT_STATE .south) pLr

/-- A member at position 1 of a ring, bound to host 5. -/
def ringMem : Dev :=
  let d := (((linked mem).put SPN_POS_VALID 1).put SPN_POS_POS 1).put SPN_POS_BOUND 1
  d.put SPN_POS_HID 5
/-- The register at an address. -/
def locOf (a : Nat) : Loc := (locate a).getD ⟨.core, .sys, 0, 0, ⟨0, 0, 0, []⟩, 0⟩
/-- What a start finds: HEADSEL, and both images good. -/
def boot (h : Bool) : BootObs := ⟨h, false, false, false, false, false, true, true, ⟨true, true, false⟩⟩
/-- A member that has integrated in both banks for the window in progress, which opened at MTICK 0. -/
def win : Dev :=
  let d := (mem.put (CVW_STAT_INTEG .L) 1).put (CVW_STAT_INTEG .U) 1
  { d with win := { d.win with opened := true, ranL := true, ranU := true, earliest := 1 } }
/-- A measured window of length 120000 with the same integral on every channel. -/
def winIn (m : Nat) (delta : Int) : WinIn :=
  ⟨m, List.replicate 36 ⟨delta, false, true⟩, ⟨delta, false, true⟩, ⟨delta, false, true⟩, []⟩
/-- A closed window that waits for its block. -/
def closed1 : Closed :=
  { wseq := 7, ccyc := 120000, tick := 120000, tq := 0, bflags := 0, wlen := 120000, eral := 0, erau := 0, mrk := 0, cgen := 0
    balw := 0, res := List.replicate 38 0, flg := List.replicate 38 0, cint := List.replicate 38 0, srcs := 0, origin := 0 }
/-- The aux sequencer of a bank enabled and in a phase. -/
def auxIn (a : Afe) (ph : AuxPhase) : Dev := (mem.put (AUX_CTRL_EN a) 1).setAux a { mem.aux a with phase := ph, left := none }
/-- A calibration session in a phase, inside CALIBRATE. -/
def sess (ph : CalPhase) : CalSess :=
  { refresh := false, ical := false, stk := 2, stab := 100, devo := 1000, devg := 1000, plo := List.replicate 19 0
    phi := List.replicate 19 40000000, phase := ph, inside := true, mlo := none, mhi := none, discard := false, reads := []
    set := none, ending := none }
/-- A member with a calibration session in AFE-L. -/
def calWith (s : CalSess) : Dev := mem.setCal .L { mem.cal .L with sess := some s }

def memRefs : Dev := mem.each (rangeL 1 19) (fun d k => d.putS (CAL_PHI .L k) 30000000)
def sr : CalSess := { sess .ready with mlo := some (List.replicate 19 0), mhi := some (List.replicate 19 40000000) }
def srB : CalSess := { sess .ready with mlo := some (List.replicate 19 0), mhi := some (List.replicate 19 40100000) }
def memLive : Dev := let d := mem.put BAL_STAT_ACTIVE 1; { d with bal := { d.bal with live := [20], led := d.bal.led.set 19 ⟨5, 6, 7, 8, 0, 0, 0, 0, false, false⟩ } }
def memV (a : Afe) : Dev := mem.setBz a { mem.bz a with valid := true }
def calm (d : Dev) : Dev := d.each [Afe.L, .U] (fun d a => ((((d.put (CMP_OVST a) 0).put (CMP_UVST a) 0).put (CMP_TST_OT a) 0).put (CMP_TST_UT a) 0).setBz a { d.bz a with valid := true })
def calm2 (d : Dev) : Dev := (calm d).each [Afe.L, .U] (fun d a => d.put (BZL_STAT_STATE a) 1)
def trL : Dev := (calm2 mem).put (BZL_STAT_STATE .L) 2
def hedOn : Dev := (((hed.put (BZL_STAT_STATE .L) 1).put (SDC_STAT_GIN .L) 1).put (BZL_STAT_GIN .L) 1).put (SDC_CTRL_EN
  .L) 1 |>.put (SDC_STAT_HWL .L) 0
def dk (b : Bool) : Dev := { hedOn with saf := { hedOn.saf with dark := if b then some .pls else none, back := if b then none else some .pls } }
def dk2 : Dev := { hedOn with saf := { hedOn.saf with back := some .nhs, tests := [0,0,2,0] } }
def mb (p : Nat) : Member := { freshMember p 2 77 with guarded := true, last := false, told := true }
def hedM : Dev := { linked hed with hd := { hed.hd with members := [mb 1, mb 2] } }
def lw (n : Nat) : BitVec 16 := let w := BitVec.ofNat 16 (0xA000 + n); if evenParity w then w else w + 1
def memL (st : Nat) : Dev := (mem.put (SPN_PORT_STATE .north) st).put (SPN_PORT_STATE .south) st
def cw (k pos pay : Nat) : Word64 := cfMake k pos 0 pay
def rm : Dev := linked ringMem
def ev (n : Nat) : EventRec := ⟨0x3001, 0, 1, 0, false, n, 0, 0, []⟩
def rmE : Dev := { rm with spn := { rm.spn with evq := [ev 0, ev 1, ev 2] } }
def hedE (ph : EnumPhase) : Dev := { hedM with hd := { hedM.hd with enum := some ⟨ph, [], [], []⟩ } }
def xf (ft : Nat) (pos : Nat) (dir : Bool) (seql tag : Nat) (pl : List Byte) : XFrame := ⟨ft, 1, pos, dir, false, false,
  false, false, seql, tag, 0, pl, 0⟩
def rdP (op cnt addr : Nat) (data : List Byte) : List Byte := leBytes 1 op ++ leBytes 1 cnt ++ leBytes 2 16 ++ leBytes 4
  addr ++ data
def cx (tag op cnt addr : Nat) (data : List Byte) : XFrame := xSeal (xf 0xF1 1 false 0 tag (rdP op cnt addr data)) 1 0
def rmC : Dev := rm.put ⟨0x8004, 31, 0⟩ 7
def bx (op : Nat) (data : List Byte) : XFrame := xSeal (xf 0xF3 0 false 0 0 (rdP op 1 0x8004 data)) 0x40 0
def rn : Run :=
  { id := 0, tag := 0, ring := 0, cid := 5, opc := 1, fence := false, bcast := false, pos := 2, haddr := 0
    acts := [.rd 0x24000 1 false], started := true, sent := true, retries := 0, data := 0, done := 0, gen := 0
    waitPos := [] }
def hedR : Dev := { hedM with hif := { hedM.hif with runs := [rn] } }
def mA : Member := { mb 2 with exp2 := 4, ahead := [(9, ev 9)] }
def hedA : Dev := { linked hed with hd := { hed.hd with members := [mA] } }
def mf (p : Nat) : Member := { freshMember p 0 77 with guarded := true, last := false }
def hedF : Dev := { linked hed with hd := { hed.hd with members := [mf 1, mf 2] } }
def ringOn (d : Dev) (r l : Nat) : Dev := (d.put (HIF_RCFG_EN r) 1).put (HIF_RCFG_LSIZE r) l
def hosted : Dev := ([0, 1, 9, 10, 16, 17].foldl (fun d r => ringOn d r 4) (ringOn (((((hedF.put HIF_CTRL_EN 1).put
  HIF_LINK_SPEED 1).put HIF_LINK_WIDTH 1).put HIF_WBL_WB 1).put HIF_STAT_READY 1) 18 18)).setRing 0 ⟨1, 0, false, 0, 0⟩
def hosted1 : Dev := (hosted.setRing 0 ⟨0, 0, false, 0, 0⟩).setRing 1 ⟨1, 0, false, 0, 0⟩
def rnB : Run :=
  { id := 0, tag := 0, ring := 0, cid := 5, opc := 0xB, fence := false, bcast := false, pos := 2, haddr := 0
    acts := [.poll 0x24F04 1], started := true, sent := false, retries := 0, data := 0, done := 0, gen := 0
    waitPos := [] }
def hostedR : Dev := { hosted with hif := { hosted.hif with runs := [rnB] } }
def tbW (d : Dev) (f : TbSt → TbSt) : Dev := { d with tb := f d.tb }
def hedT (src act tq : Nat) : Dev := ((hed.put TB_CFG_SRC src).put TB_STAT_ACT act).put TB_STAT_TQ tq
def ml : Dev := linked ringMem
def bl (l : Nat) (a : BdlAct) : Dev := let d := mem.put BDL_CFG_LEN 3; d.setBline l { d.bline l with act := a }
def rep (c a : Nat) (body : List Bool) : BdlReply := ⟨true, false, body ++ (numBits 8 (bdlCrc (numBits 4 c ++ numBits 6
  a ++ body)).toNat).reverse⟩
def rep0 (c p : Nat) (n : Nat) : BdlReply := rep c p (numBits n (p + if c = 3 then 64 else 0))
def sch (l : Nat) (a : BdlAct) : Dev := ((bl l a).put (BDL_LSTAT_VALID l) 1).put (BDL_SCH_EN l) 1
def ic (d : Dev) (f : IicSt → IicSt) : Dev := { d with iic := f d.iic }
def icm : Dev := ic ((mem.put IIC_CFG_CEN 1).put IIC_CFG_TEN 1) (fun s => { s with fresh := false })
def ix (ph : IicPhase) (w r : Nat) : IicXfer := ⟨false, 0x50, w, r, 0, ph⟩
def obs (a : Bool) : IicBusObs := ⟨a, false, false⟩
def crc (en tap dw : Nat) : Dev := (((mem.put (CRC_CTX_EN 3) en).put (CRC_CTX_TAP 3) tap).put (CRC_CTX_DW 3) dw).put
  (CRC_CTX_POLY 3) 2
def sl (k : Nat) : Slot := ⟨3, k % 3 = 0, [1], [2]⟩
def memS : Dev := { mem with burl := { mem.burl with slots := (List.range 12).map sl } }
def bs (d : Dev) (f : BistSt → BistSt) : Dev := { d with bst := f d.bst }
def bo (p : Bool) : BistObs := ⟨p, 3, 0x77, 5#32, 9⟩
def prov : Dev := inMode mem .provision 4
def lc (d : Dev) (f : LcsSt → LcsSt) : Dev := { d with lcs := f d.lcs }
def fwd (d : Dev) (f : FwSt → FwSt) : Dev := { d with fw := f d.fw }
def pg : List FwPage := [⟨0, 1, []⟩, ⟨1, 1, []⟩]
def leg : Dev := let d := inMode mem .legacy 4; { d with leg := { d.leg with vdevs := List.replicate 3 freshVDev } }
def legA : Dev := { leg with leg := { leg.leg with vdevs := leg.leg.vdevs.zipIdx.map (fun (v, i) => { v with addr := i + 5 }) } }
def legB : Dev := ((legA.put BAL_STAT_ACTIVE 1).put (BAL_CSTS_STATE 13) 1).put (BAL_CSET_DIR 13) 1
def lk : Dev := (linked mem).put (SPN_PORT_LEG .north) 1
def icr : Dev := ic icm (fun s => { s with xfer := some ⟨false, 0x50, 2, 3, 0, .running⟩ })
def st1 := { mem with pw := { mem.pw with trans := some ⟨.watch, 3⟩ } }
def st2 := { mem with pw := { mem.pw with shipEntry := some .quiet } }
def st3 := { mem with pw := { mem.pw with off := true } }
def st4 := { (mem.put (SPN_PORT_STATE .north) pParked) with pw := { mem.pw with toneN := some 0 } }
def st5 := { mem with fw := { mem.fw with rstDue := true } }
def st6 := { mem with pw := { mem.pw with warm := true } }
def st7 := ({ win with win := { win.win with brokenU := true } } : Dev).advanceTo 120000
def st8 := { mem with win := { mem.win with closed := some closed1 } }
def st9 := { mem with win := { mem.win with mark := some 3 } }
def st10 := { mem.put FW_CAPST_FROZEN 1 with cap := { mem.cap with snap := some ⟨1,7,0,7,0,0,0,0,some 11⟩ } }
def st11 := { mem with cap := { mem.cap with snap := some ⟨1,7,0,7,0,0,0,0,some 11⟩ } }
def st12 := mem.setAux .U { mem.aux .U with left := some 1 }
def st13 := ((auxIn .L .waitPass).put (AUX_TRIG_SRC .L) 2).put (AUX_TRIG_TDIV .L) 4
def st14 := (auxIn .L (.dly 4)).setAux .L { (auxIn .L (.dly 4)).auxL with urgent := some true }
def st15 := mem.setAux .L { mem.auxL with urgent := some true }
def st16 := win.setAux .L { win.auxL with plaus := some ⟨[1, 2], [(0, 0), (1, 0)], 4, 10, 0, 3, 1, false, [(1, false), (2, false)], false⟩ }
def st17 := calWith { sess .refs with discard := true }
def st18 := { sess .refs with discard := true }
def st19 := calWith {sess .lo with stk := 2, reads := [List.replicate 19 7]}
def st20 := {sess .lo with stk := 2, reads := [List.replicate 19 7]}
def st21 := mem.setCal .L { mem.calL with store := some (mem.factorySet .L, false) }
def st22 := mem.setCal .L { mem.calL with store := some (mem.factorySet .L, true) }
def st23 := {memLive with bal := {memLive.bal with stop := true }}
def st24 := { mem with owd := { mem.owd with probe := some 5 } }
def st25 := mem.setBz .L { mem.bz .L with slot := some 0 }
def st26 := (mem.setBz .L { mem.bz .L with slot := some 0 }).put (CMP_STAT_SLOT .L) 26
def st27 := (mem.setBz .L { mem.bz .L with slot := some 0 }).put (CMP_STAT_SLOT .L) 5
def st28 := (mem.setBz .L { mem.bz .L with slot := some 3 }).put (CMP_STAT_SLOT .L) 0
def st29 := mem.setBz .U { mem.bz .U with sup := true }
def st30 := mem.setBz .U { mem.bz .U with ref := true }
def st31 := mem.setBz .L { mem.bz .L with clk := true }
def st32 := (({ memV .L with saf := { mem.saf with crossLost := true } } : Dev).put (BZL_STAT_STATE .L) 2)
def st33 := mem.setBz .U { mem.bz .U with save := some [] }
def st34 := mem.setBz .U { mem.bz .U with save := some [5#32] }
def st35 := mem.setBz .L { mem.bz .L with save := some [5#32], queued := true }
def st36 := { mem with saf := { mem.saf with crossLost := true } }
def st37 := ((((calm2 mem).setBz .U { mem.bz .U with sup := true }).put (BZL_STAT_STATE .U) 2))
def st38 := {hedOn with now := 60000}
def st39 := ({hedOn with now := 60000}).put FW_PPSTAT_LATCH 1
def st40 := { mem with saf := { mem.saf with save := some [] } }
def st41 := { hed with saf := { mem.saf with save := some [], queued := true } }
def st42 := (mem.put (BZL_STAT_GIN .L) 1).put BAL_PCFG_GSTOP 0
def st43 := ((mem.put (GRD_CFG_GAPEN .L) 1).put (BZL_STAT_GIN .L) 1).put (BZL_STAT_STATE .L) 1
def st44 := { mem with saf := { mem.saf with faults := [⟨0, .processor, .clock⟩] } }
def st45 := { hed with saf := { mem.saf with grace := some 0 } }
def st46 := mem.each [Afe.L,.U] (fun d a => d.put (BZL_STAT_STATE a) 1)
def st47 := (hedM.put (GRD_CFG_GAPEN .L) 1).put (SDC_STAT_GIN .L) 1
def st48 := { inMode hed .safe 3 with saf := { mem.saf with grace := some 0 } , pw := {hed.pw with warm := true}}
def st49 := {linked hed with hd := {hed.hd with enum := none}}
def st50 := mem.setPort .south { mem.port .south with lineCheck := true }
def st51 := rm.setPort .north { rm.port .north with taken1 := 1000, taken2 := 700, taken3 := 4000 }
def st52 := rm.setPort .south { rm.port .south with freed1 := 1025, freed2 := 3, freed3 := 4099}
def st53 := { rmE with spn := { rmE.spn with evBase := 0xFFFFFFFF } }
def st54 := { hedM with hd := { hedM.hd with unnum := [0x55] } }
def st55 := cx 1 3 1 0 (leBytes 4 0x400C ++ leBytes 4 0x110055)
def st56 := { rm with spn := { rm.spn with kept := some ⟨0, leBytes 8 1 ++ leBytes 4 77⟩ } }
def st57 := { cx 1 1 2 0x24000 [] with crc := 0 }
def st58 := xSeal { xf 0xF2 2 true 0 0 [1, 2] with more := true } 2 0
def st59 := xSeal (xf 0xF4 2 true 0 0 (List.replicate 20 3)) 2 0
def st60 := xSeal { xf 0xF5 2 true 0 0 [1, 2] with more := true } 2 0
def st61 := { ds with count := 32 }
def st62 := { ds with count := 31 }
def st63 := { ds with len := 256 }
def st64 := { ds with wait := true }
def st65 := { ds with addr := 0x500000 }
def st66 := { ds with bcast := true }
def st67 := { ds with rsvd1 := true }
def st68 := { ds with count := 0 }
def st69 := { ds with count := 33 }
def st70 := { ds with pos := 5 }
def st71 := { ds with data := 0x1#32, param := 4 }
def st72 := { ds with data := 0x3100#32, param := 4 }
def st73 := { ds with data := 0x3100#32, param := 1 }
def st74 := { ds with data := 0#32, param := 4 }
def st75 := { hosted with hif := { hosted.hif with evq := [ev 3] } }
def st76 := { hosted with hif := { hosted.hif with held := [⟨0, 5, 2, 3, 9⟩] } }
def st77 := { hostedR with hif := { hostedR.hif with rings := hostedR.hif.rings } }
def st78 := { hosted with hif := { hosted.hif with d3hot := true } }
def st79 := tbW (hedT 1 1 1) (fun t => { t with good := 15 })
def st80 := tbW (hedT 2 2 1) (fun t => { t with lastEdge := some 5 })
def st81 := tbW (hedT 2 2 1) (fun t => { t with tod := some 7 })
def st82 := tbW hed (fun t => { t with lastSec := some 5 })
def st83 := tbW hed (fun t => { t with step := some (3, 1700000000, 17) })
def st84 := tbW ml (fun t => { t with good := 63 })
def st85 := (tbW ml (fun t => { t with bad := 15 })).put TB_STAT_RLOCK 1
def st86 := (tbW ml (fun t => { t with bad := 14 })).put TB_STAT_RLOCK 1
def st87 := (tbW ml (fun t => { t with annL := some 5, annH := some 6 })).put TB_STAT_STEPPEND 1
def st88 := (((bl 1 .pull).put (BDL_ROSTER 1) 7).put (BDL_RMASK 1) 2)
def st89 := { bl 0 .hostPull with bdl := { (bl 0 .hostPull).bdl with xfer := some ⟨0, 0, 0, 5⟩ } }
def st90 := (sch 1 .host).setBline 1 { (sch 1 .host).bline 1 with overSaid := true }
def st91 := ic icm (fun s => { s with xfer := some (ix .waiting 2 3) })
def st92 := ic (mem.put IIC_CFG_CEN 0) (fun s => { s with cenDue := false })
def st93 := ic icm (fun s => { s with xfer := some (ix .running 2 0) })
def st94 := ic icm (fun s => { s with xfer := some (ix .running 2 5) })
def st95 := (ic icm (fun s => { s with xfer := some (ix .lost 2 5) })).put IIC_CFG_RETRY 1
def st96 := (ic icm (fun s => { s with xfer := some (ix .lost 2 5) })).put IIC_CFG_RETRY 0
def st97 := { icm with pw := { icm.pw with iicWait := some 2 } }
def st98 := bs mem (fun s => { s with bg := some 4 })
def st99 := bs mem (fun s => { s with host := [5] })
def st100 := bs prov (fun s => { s with host := [5] })
def st101 := bs prov (fun s => { s with host := [5, 2] })
def st102 := (bs prov (fun s => { s with rows := [0, 1, 2, 0, 0, 0] })).put BST_CFG_BANKS 6
def st103 := (bs prov (fun s => { s with rows := [0, 1, 200, 0, 0, 0] })).put BST_CFG_BANKS 4
def st104 := lc mem (fun s => { s with auth := some 2 })
def st105 := lc mem (fun s => { s with burn := some (0, 1) })
def st106 := lc mem (fun s => { s with burn := some (63, 4) })
def st107 := fwd mem (fun s => { s with op := some .verify })
def st108 := fwd mem (fun s => { s with op := some .erase, pages := pg })
def st109 := fwd mem (fun s => { s with op := some (.prog 1 [7]), pages := pg })
def st110 := fwd mem (fun s => { s with op := some .verify, pages := pg })
def st111 := (fwd mem (fun s => { s with op := some .verify, pages := pg })).put FW_SVN_MIN 7
def st112 := fwd mem (fun s => { s with verified := true })
def st113 := { legB with leg := { legB.leg with dto := 5 } }
def st114 := { lk with leg := { lk.leg with lpx := some (3, 9) } }
def st115 := { icr with pw := { icr.pw with iicWait := some 2 } }
def st116 := { prov with lcs := { prov.lcs with auth := some 3 } }
def st117 := { prov with fw := { prov.fw with op := some .verify } }
def st118 := { prov with leg := { lk.leg with lpx := some (3, 9) } }

def st119 := { mem with pw := { mem.pw with off := true, failed := [.afeL] } }
def st120 := { mem with pw := { mem.pw with found := [0xD010] } }
def st121 := { mem with pw := { mem.pw with warm := true, failed := [.core] } }
def st122 := st16.setAux .L { st16.auxL with phase := .conv 3 }
def st123 := { sr with phase := .hi }
def st124 := { mem.put IMP_STAT_STATE 2 with imp := { mem.imp with gap := true } }
def st125 := { hedOn with saf := { hedOn.saf with tests := [0, 0, 3, 0], spans := [0, 0, 1, 0] } }
def st126 := { hed with saf := { hed.saf with tests := [1, 0, 0, 0] } }
def st127 := { rm with spn := { rm.spn with aliveIn := [⟨0, kEnum, cfAlive (cw kEnum 0 (63 * 2 ^ 26 + 7 * 2 ^ 16 + 5))⟩] } }
def st128 := (hedT 1 1 3)
def hostedW : Dev := { hosted with hd := { hosted.hd with rebuild := true } }
def hostedE : Dev := { hosted with hd := { hosted.hd with enum := some ⟨.south, [], [], []⟩ } }

/-! ## Witnesses -/

theorem witness_StagedWritesWait :
    (mem.ready ∧ (CVW_WLEN Afe.L).addr < 2 ^ 24 ∧ (CVW_WLEN Afe.L).addr % 4 = 0 ∧ mem.regAt (CVW_WLEN Afe.L).addr =
      some (locOf (CVW_WLEN Afe.L).addr) ∧ mem.blkReg 3840 (CVW_WLEN Afe.L).addr = none ∧ mem.blkReg 3844 (CVW_WLEN
      Afe.L).addr = none ∧ stagedView (CVW_WLEN Afe.L).addr = false ∧ (locOf (CVW_WLEN Afe.L).addr).acts = false ∧ (∀
      f ∈ (locOf (CVW_WLEN Afe.L).addr).row.fields, mem.fieldLocked (locOf (CVW_WLEN Afe.L).addr) f = false)) := by
  and_intros <;> decide +kernel

theorem witness_RegisterAccessesComplete :
    ((mem.put LCS_STAT_STATE 2).ready ∧ (mem.put LCS_STAT_STATE 2).regAt 4206604 = some (locOf 4206604) ∧ (mem.put
      LCS_STAT_STATE 2).blkReg 3840 4206604 = none ∧ (mem.put LCS_STAT_STATE 2).blkReg 3844 4206604 = none ∧
      stagedView 4206604 = false ∧ (locOf 4206604).acts = false ∧ (mem.put LCS_STAT_STATE 2).offends (locOf 4206604)
      4206604 1#32 = true)
    ∧ (mem.ready ∧ stagedView 4456480 = true ∧ Machine.observing 4456480 = false)
    ∧ ((CVW_WLEN Afe.L).addr < 2 ^ 24 ∧ (CVW_WLEN Afe.L).addr % 4 = 0 ∧ mem.regAt (CVW_WLEN Afe.L).addr = some (locOf
      (CVW_WLEN Afe.L).addr) ∧ mem.blkReg 3840 (CVW_WLEN Afe.L).addr = none ∧ mem.blkReg 3844 (CVW_WLEN Afe.L).addr =
      none ∧ stagedView (CVW_WLEN Afe.L).addr = false ∧ (locOf (CVW_WLEN Afe.L).addr).acts = false ∧ (∀ f ∈ (locOf
      (CVW_WLEN Afe.L).addr).row.fields, mem.fieldLocked (locOf (CVW_WLEN Afe.L).addr) f = false))
    ∧ (mem.regAt 16380 = none ∧ mem.blkReg 3840 16380 = none ∧ mem.blkReg 3844 16380 = none ∧ Machine.observing 16380
      = false)
    ∧ (SYS_SVIOL_CNT.addr < 2 ^ 24 ∧ SYS_SVIOL_CNT.addr % 4 = 0 ∧ mem.regAt SYS_SVIOL_CNT.addr = some (locOf
      SYS_SVIOL_CNT.addr) ∧ stagedView SYS_SVIOL_CNT.addr = false ∧ mem.blkReg 3844 SYS_SVIOL_CNT.addr = none ∧
      SYS_SVIOL_CNT.addr ≠ TB_NOWL.addr ∧ mem.held SYS_SVIOL_CNT.addr = none)
    ∧ (fits mem.build Die.afeU = true ∧ mem.held (CVW_CINTL Afe.U 18).addr = none) := by
  and_intros <;> decide +kernel

theorem witness_CommitCommandsComplete :
    (mem.ready ∧ blockAt (regAddr 4198144) = some (Die.afeL, Blk.cvw, 4194304) ∧ mem.hasBlk Die.afeL Blk.cvw = true)
    ∧ ((mem.stage 4194304 0 (CVW_WLEN Afe.L) 5).ready ∧ (mem.stage 4194304 0 (CVW_WLEN Afe.L) 5).hasBlk Die.afeL
      Blk.cvw = true)
    ∧ (((mem.stage 4194304 0 (CVW_WLEN Afe.L) 5).arm 4194304 0).settled ∧ blockAt 4194304 = some (Die.afeL, Blk.cvw,
      4194304) ∧ Blk.cvw ≠ Blk.bdl ∧ ((mem.stage 4194304 0 (CVW_WLEN Afe.L) 5).arm 4194304 0).hasTrain Die.afeL
      Blk.cvw = false ∧ ((mem.stage 4194304 0 (CVW_WLEN Afe.L) 5).arm 4194304 0).clockRuns Die.afeL Blk.cvw = true ∧
      0 ∈ blkGroups Die.afeL Blk.cvw ∧ (∀ k ∈ blkGroups Die.afeL Blk.cvw, ((mem.stage 4194304 0 (CVW_WLEN Afe.L)
      5).arm 4194304 0).pend 4194304 k = decide (k = 0)) ∧ (Blk.cvw = Blk.cvw → 0 = 0 → (((mem.stage 4194304 0
      (CVW_WLEN Afe.L) 5).arm 4194304 0).noteBoundary 4194304).applyDue = true) ∧ (((mem.stage 4194304 0 (CVW_WLEN
      Afe.L) 5).arm 4194304 0).noteBoundary 4194304).groupFails Die.afeL Blk.cvw 0 = some 1)
    ∧ ((mem.arm 147456 0).settled ∧ blockAt 147456 = some (Die.core, Blk.imp, 147456) ∧ Blk.imp ≠ Blk.bdl ∧ (mem.arm
      147456 0).hasTrain Die.core Blk.imp = false ∧ (mem.arm 147456 0).clockRuns Die.core Blk.imp = true ∧ 0 ∈
      blkGroups Die.core Blk.imp ∧ (∀ k ∈ blkGroups Die.core Blk.imp, (mem.arm 147456 0).pend 147456 k = decide (k =
      0)) ∧ (Blk.imp = Blk.cvw → 0 = 0 → ((mem.arm 147456 0).noteBoundary 147456).applyDue = true) ∧ ((mem.arm
      147456 0).noteBoundary 147456).groupFails Die.core Blk.imp 0 = none ∧ Blk.imp ≠ Blk.bzl ∧ Blk.imp ≠ Blk.cmp)
    ∧ ((mem.arm 4206592 0).settled ∧ blockAt 4206592 = some (Die.afeL, Blk.cmp, 4206592) ∧ Blk.cmp ≠ Blk.bdl ∧
      (mem.arm 4206592 0).hasTrain Die.afeL Blk.cmp = false ∧ (mem.arm 4206592 0).clockRuns Die.afeL Blk.cmp = true
      ∧ 0 ∈ blkGroups Die.afeL Blk.cmp ∧ (∀ k ∈ blkGroups Die.afeL Blk.cmp, (mem.arm 4206592 0).pend 4206592 k =
      decide (k = 0)) ∧ (Blk.cmp = Blk.cvw → 0 = 0 → ((mem.arm 4206592 0).noteBoundary 4206592).applyDue = true) ∧
      ((mem.arm 4206592 0).noteBoundary 4206592).groupFails Die.afeL Blk.cmp 0 = none ∧ (Blk.cmp = Blk.bzl ∨ Blk.cmp
      = Blk.cmp)) := by
  and_intros <;> decide +kernel

theorem witness_PowerRequestsComplete :
    (mem.accepts PWR_REQ_ACT ∧ mem.pw.shipEntry = none ∧ mem.cur.ladder = true ∧ mem.planLive = false ∧
      mem.sweepActive = false ∧ mem.pw.streamBound = false ∧ mem.boundMask = 0)
    ∧ ((inMode mem Mode.safe 4).accepts PWR_REQ_ACT ∧ (inMode mem Mode.safe 4).pw.shipEntry = none ∧ ((inMode mem
      Mode.safe 4).cur.ladder = false ∨ (inMode mem Mode.safe 4).planLive = true ∨ (inMode mem Mode.safe
      4).sweepActive = true ∨ (inMode mem Mode.safe 4).pw.streamBound = true ∨ (inMode mem Mode.safe 4).boundMask ≠
      0))
    ∧ (mem.life ≠ lDeployed ∧ mem.cur ≠ Mode.safe ∧ mem.cur ≠ Mode.degraded ∧ mem.cur ≠ Mode.legacy ∧ mem.cur ≠
      Mode.provision)
    ∧ ((mem.put LCS_STAT_STATE 2).accepts PWR_REQ_ACT ∧ ((mem.put LCS_STAT_STATE 2).life = lDeployed ∨ (mem.put
      LCS_STAT_STATE 2).cur = Mode.safe ∨ (mem.put LCS_STAT_STATE 2).cur = Mode.degraded ∨ (mem.put LCS_STAT_STATE
      2).cur = Mode.legacy))
    ∧ ((inMode mem Mode.provision 4).accepts PWR_REQ_ACT ∧ (inMode mem Mode.provision 4).cur = Mode.provision)
    ∧ mem.accepts PWR_BUDGET_BUDGET := by
  and_intros <;> decide +kernel

theorem witness_ModeChangesComplete :
    mem.runs
    ∧ (st1.runs ∧ st1.pw.starting = false ∧ st1.pw.trans = some (Machine.Trans.mk Mode.watch 3) ∧ (Machine.Trans.mk
      Mode.watch 3).goal ≠ Mode.provision ∧ st1.cur.ladder = true ∧ st1.keepsEvents ∧ (st1.get PWR_STAT_CUR, st1.get
      PWR_STAT_BASE) ≠ ((Machine.Trans.mk Mode.watch 3).goal.code, (Machine.Trans.mk Mode.watch 3).goal.code))
    ∧ ((Dev.anew Build.F Role.member).runs ∧ (Dev.anew Build.F Role.member).pw.starting = true)
    ∧ (st2.settled ∧ st2.pw.shipEntry = some ShipWake.quiet ∧ st2.pw.off = false)
    ∧ (hed.runs ∧ hed.role = Role.head)
    ∧ (mem.settled ∧ mem.role = Role.member)
    ∧ hed.settled := by
  and_intros <;> decide +kernel

theorem witness_WakesComplete :
    (st3.settled ∧ ((st3.pw.off = true ∧ st3.dead Die.afeL = false) ∨ st3.pw.shipEntry.isSome = true))
    ∧ (st4.settled ∧ (st4.lastTone Port.north).isSome = true ∧ st4.pstate Port.north = pParked ∧ (st4.bit
      SPN_RING_OPEN = false ∨ st4.hif.runs = []))
    ∧ (mem.settled ∧ mem.pw.off = false ∧ mem.clkAsked 0 = true)
    ∧ ((inMode mem Mode.patrol 1).runs ∧ (inMode mem Mode.patrol 1).pw.shipEntry = none)
    ∧ (((inMode mem Mode.patrol 1).put PWR_PATROL_OWEN 0).runs ∧ ((inMode mem Mode.patrol 1).put PWR_PATROL_OWEN
      0).cur = Mode.patrol ∧ ((inMode mem Mode.patrol 1).put PWR_PATROL_OWEN 0).role = Role.member ∧ ((inMode mem
      Mode.patrol 1).put PWR_PATROL_OWEN 0).bit PWR_PATROL_OWEN = false ∧ outside (10000 + 50 * ↑(((inMode mem
      Mode.patrol 1).put PWR_PATROL_OWEN 0).get PWR_PBAND_LO)) (10000 + 50 * ↑(((inMode mem Mode.patrol 1).put
      PWR_PATROL_OWEN 0).get PWR_PBAND_HI)) (PatrolObs.mk (List.replicate 36 37000) [] [] [] [] []).band ((inMode
      mem Mode.patrol 1).put PWR_PATROL_OWEN 0).cells = [])
    ∧ (outside (10000 + 50 * ↑(((inMode mem Mode.patrol 1).put PWR_PATROL_OWEN 0).get PWR_PBAND_LO)) (10000 + 50 *
      ↑(((inMode mem Mode.patrol 1).put PWR_PATROL_OWEN 0).get PWR_PBAND_HI)) (PatrolObs.mk (50000 :: List.replicate
      35 37000) [] [] (50000 :: List.replicate 35 37000) [] []).band ((inMode mem Mode.patrol 1).put PWR_PATROL_OWEN
      0).cells ≠ [] ∧ outside (10000 + 50 * ↑(((inMode mem Mode.patrol 1).put PWR_PATROL_OWEN 0).get PWR_PBAND_LO))
      (10000 + 50 * ↑(((inMode mem Mode.patrol 1).put PWR_PATROL_OWEN 0).get PWR_PBAND_HI)) (PatrolObs.mk (50000 ::
      List.replicate 35 37000) [] [] (50000 :: List.replicate 35 37000) [] []).bandR ((inMode mem Mode.patrol 1).put
      PWR_PATROL_OWEN 0).cells = [(1, true)])
    ∧ mem.clkAsked 14 = true
    ∧ (st2.settled ∧ ((st2.pw.off = true ∧ st2.dead Die.afeL = false) ∨ st2.pw.shipEntry.isSome = true))
    ∧ (st119.settled ∧ st119.pw.off = true ∧ st119.dead Die.afeL = true ∧ st119.pw.shipEntry = none)
    ∧ (st120.pw.found = [0xD010] ∧ st120.lathe = true ∧ 2 ≤ st120.level ∧ (st120.monitoring = true ∨ st120.linkUp
      Port.north = true ∨ st120.linkUp Port.south = true)) := by
  and_intros <;> decide +kernel

theorem witness_WarmResetsComplete :
    mem.runs
    ∧ mem.accepts SYS_DRST_WARM
    ∧ (st5.runs ∧ st5.fw.rstDue = true)
    ∧ ((mem.put FW_IMG_TRIAL 1).runs ∧ (mem.put FW_IMG_TRIAL 1).bit FW_IMG_TRIAL = true)
    ∧ (st6.settled ∧ st6.pw.warm = true ∧ st6.pw.off = false ∧ st6.dead Die.core = false)
    ∧ (st121.settled ∧ st121.pw.warm = true ∧ st121.dead Die.core = true) := by
  and_intros <;> decide +kernel

theorem witness_DieResetsComplete :
    (mem.settled ∧ mem.pw.off = false ∧ mem.dead Die.core = false ∧ mem.role = Role.member)
    ∧ (Afe.L ∈ mem.banks ∧ (Afe.L = Afe.L → mem.role = Role.member → false = false))
    ∧ (mem.pstate Port.north < pTrain ∧ fits mem.build (phyDie Port.north) = true ∧ mem.dead (phyDie Port.north) =
      false)
    ∧ (mem.hasBpd Afe.U = true ∧ mem.sweepOn Afe.U = false)
    ∧ mem.burlWorks = true
    ∧ (mem.accepts SYS_DRST_PHYN ∧ fits mem.build Die.phyN = true ∧ mem.dead Die.phyN = false)
    ∧ (mem.pstate Port.south < pTrain ∧ mem.accepts SYS_DRST_PHYS ∧ fits mem.build Die.phyS = true ∧ mem.dead
      Die.phyS = false)
    ∧ (mem.accepts SYS_DRST_BPDL ∧ mem.hasBpd Afe.L = true)
    ∧ mem.accepts SYS_DRST_BPDU
    ∧ (mem.accepts SYS_DRST_BURL ∧ mem.cap.snap = none)
    ∧ (Afe.U ∈ mem.banks ∧ (Afe.U = Afe.L → mem.role = Role.member → true = false))
    ∧ (hed.settled ∧ hed.pw.off = false ∧ Afe.L ∈ hed.banks ∧ (Afe.L = Afe.L → hed.role = Role.member → true =
      false)) := by
  and_intros <;> decide +kernel

theorem witness_IntegrationAndBoundaryComplete :
    (mem.settled ∧ mem.monitoring = true ∧ mem.mtick ≤ 5 ∧ (∃ a ∈ mem.banks, mem.convWanted a = true ∧ mem.integrates
      a = false) ∧ mem.evalTrain = mem ∧ (mem.win.opened = true → ↑5 ≤ mem.nextBoundary))
    ∧ (win.settled ∧ win.monitoring = true ∧ win.win.opened = true ∧ ↑(winIn 120000 0).mtick = win.nextBoundary ∧
      win.mtick ≤ (winIn 120000 0).mtick) := by
  and_intros <;> decide +kernel

theorem witness_WindowResults :
    1 ∈ (win.advanceTo 120000).channels
    ∧ 36 ∈ (win.advanceTo 120000).channels
    ∧ 36 ∈ st7.channels
    ∧ 5 ∈ (win.advanceTo 120000).channels
    ∧ 37 ∈ (win.advanceTo 120000).channels := by
  and_intros <;> decide +kernel

theorem witness_WindowAndRecorderCommandsComplete :
    (st8.settled ∧ st8.monitoring = true ∧ st8.win.closed = some closed1 ∧ closed1.srcs = 0 ∧ st8.bit FW_CAPST_FROZEN
      = false ∧ st8.bit FW_CAPST_POSTING = false ∧ st8.cap.snap = none)
    ∧ (mem.accepts (CVW_MARK_CODE Afe.L) ∧ bitsOf (18#32) 8 8 = 0 ∧ mem.win.mark = none ∧ (∀ m ∈ mem.win.markAt,
      mem.markNow ≠ some m.1))
    ∧ (st9.accepts (CVW_MARK_CODE Afe.L) ∧ (st9.win.mark.isSome = true ∨ (∃ m ∈ st9.win.markAt, st9.markNow = some m.1)))
    ∧ (bitsOf (274#32) 8 8 = 1 ∧ (mem.get (CVW_WSEQ Afe.L) + 2 ^ 32 - mem.get (CVW_MARKW Afe.L)) % 2 ^ 32 < 2 ^ 31)
    ∧ ((mem.put (CVW_MARKW Afe.L) 5).accepts (CVW_MARK_CODE Afe.L) ∧ (∀ m ∈ (mem.put (CVW_MARKW Afe.L) 5).win.markAt,
      m.1 ≠ (mem.put (CVW_MARKW Afe.L) 5).get (CVW_MARKW Afe.L)) ∧ ((mem.put (CVW_MARKW Afe.L) 5).markNow = some
      ((mem.put (CVW_MARKW Afe.L) 5).get (CVW_MARKW Afe.L)) → (mem.put (CVW_MARKW Afe.L) 5).win.mark = none) ∧ 2 ^ 31 ≤ ((mem.put (CVW_MARKW Afe.L) 5).get
      (CVW_WSEQ Afe.L) + 2 ^ 32 - (mem.put (CVW_MARKW Afe.L) 5).get (CVW_MARKW Afe.L)) % 2 ^ 32)
    ∧ mem.accepts (CVW_CAPT_FORCE Afe.L)
    ∧ (st10.settled ∧ st10.bit FW_CAPST_FROZEN = true ∧ st10.cap.snap = some (Snap.mk 1 7 0 7 0 0 0 0 (some 11)) ∧
      (Snap.mk 1 7 0 7 0 0 0 0 (some 11)).slot = some 11 ∧ 11 < st10.burl.slots.length)
    ∧ ((mem.put FW_CAPST_HELD 1).accepts FW_CAPCTL_THAW ∧ (mem.put FW_CAPST_HELD 1).bit FW_CAPST_HELD = true)
    ∧ (mem.accepts FW_CAPCTL_THAW ∧ mem.bit FW_CAPST_HELD = false)
    ∧ (mem.runs ∧ mem.build = Build.F ∧ mem.cap.snap = none)
    ∧ (st11.runs ∧ st11.build = Build.F ∧ st11.cap.snap = some (Snap.mk 1 7 0 7 0 0 0 0 (some 11)) ∧ 11 <
      st11.burl.slots.length) := by
  and_intros <;> decide +kernel

theorem witness_AuxCommandsComplete :
    ((auxIn Afe.L AuxPhase.waitPass).accepts (AUX_CTRL_GO Afe.L) ∧ Afe.L ∈ (auxIn Afe.L AuxPhase.waitPass).banks ∧
      (auxIn Afe.L AuxPhase.waitPass).auxRun Afe.L = true ∧ (auxIn Afe.L AuxPhase.waitPass).bit (AUX_STAT_DONE
      Afe.L) = false ∧ ((auxIn Afe.L AuxPhase.waitPass).aux Afe.L).phase = AuxPhase.waitPass)
    ∧ ((auxIn Afe.U (AuxPhase.waitEntry 31)).accepts (AUX_CTRL_GO Afe.U) ∧ Afe.U ∈ (auxIn Afe.U (AuxPhase.waitEntry
      31)).banks ∧ (auxIn Afe.U (AuxPhase.waitEntry 31)).auxRun Afe.U = true ∧ (auxIn Afe.U (AuxPhase.waitEntry
      31)).bit (AUX_STAT_DONE Afe.U) = false ∧ ((auxIn Afe.U (AuxPhase.waitEntry 31)).aux Afe.U).phase =
      AuxPhase.waitEntry 31)
    ∧ (((auxIn Afe.U (AuxPhase.conv 0)).put (AUX_TMISS Afe.U) 1).accepts (AUX_CTRL_GO Afe.U) ∧ Afe.U ∈ ((auxIn Afe.U
      (AuxPhase.conv 0)).put (AUX_TMISS Afe.U) 1).banks ∧ ((auxIn Afe.U (AuxPhase.conv 0)).put (AUX_TMISS Afe.U)
      1).auxRun Afe.U = true ∧ ((auxIn Afe.U (AuxPhase.conv 0)).put (AUX_TMISS Afe.U) 1).bit (AUX_STAT_DONE Afe.U) =
      false ∧ (((auxIn Afe.U (AuxPhase.conv 0)).put (AUX_TMISS Afe.U) 1).aux Afe.U).phase = AuxPhase.conv 0 ∧
      ((auxIn Afe.U (AuxPhase.conv 0)).put (AUX_TMISS Afe.U) 1).get (AUX_TMISS Afe.U) ≠ 0)
    ∧ (((auxIn Afe.U AuxPhase.stopped).put (AUX_STAT_DONE Afe.U) 1).accepts (AUX_CTRL_GO Afe.U) ∧ ((auxIn Afe.U
      AuxPhase.stopped).put (AUX_STAT_DONE Afe.U) 1).auxUp Afe.U = true ∧ ((auxIn Afe.U AuxPhase.stopped).put
      (AUX_STAT_DONE Afe.U) 1).bit (AUX_CTRL_EN Afe.U) = true ∧ ((auxIn Afe.U AuxPhase.stopped).put (AUX_STAT_DONE
      Afe.U) 1).bit (AUX_STAT_DONE Afe.U) = true ∧ (((auxIn Afe.U AuxPhase.stopped).put (AUX_STAT_DONE Afe.U) 1).aux
      Afe.U).phase = AuxPhase.stopped)
    ∧ (st12.accepts (AUX_CTRL_EN Afe.U) ∧ st12.auxUp Afe.U = true ∧ (st12.aux Afe.U).phase = AuxPhase.stopped ∧
      (st12.aux Afe.U).left ≠ some 0)
    ∧ ((auxIn Afe.U AuxPhase.waitPass).accepts (AUX_CTRL_EN Afe.U) ∧ (auxIn Afe.U AuxPhase.waitPass).auxUp Afe.U =
      true ∧ ((auxIn Afe.U AuxPhase.waitPass).aux Afe.U).phase = AuxPhase.waitPass)
    ∧ ((auxIn Afe.U (AuxPhase.conv 3)).accepts (AUX_CTRL_EN Afe.U) ∧ (auxIn Afe.U (AuxPhase.conv 3)).auxUp Afe.U =
      true ∧ ((auxIn Afe.U (AuxPhase.conv 3)).aux Afe.U).phase = AuxPhase.conv 3)
    ∧ (((auxIn Afe.L AuxPhase.waitPass).put (AUX_TRIG_SRC Afe.L) 1).settled ∧ ((auxIn Afe.L AuxPhase.waitPass).put
      (AUX_TRIG_SRC Afe.L) 1).get (AUX_TRIG_SRC Afe.L) = auxSrcCode AuxSrc.timer ∧ ((auxIn Afe.L
      AuxPhase.waitPass).put (AUX_TRIG_SRC Afe.L) 1).auxRun Afe.L = true ∧ (AuxSrc.timer = AuxSrc.extpwm → Afe.L =
      Afe.L ∧ ((auxIn Afe.L AuxPhase.waitPass).put (AUX_TRIG_SRC Afe.L) 1).get (AUX_TRIG_EDGE Afe.L) ≠ 0) ∧
      (AuxSrc.timer = AuxSrc.bsw → ((auxIn Afe.L AuxPhase.waitPass).put (AUX_TRIG_SRC Afe.L) 1).bit (BPS_STAT_SW
      Afe.L) = true) ∧ (((auxIn Afe.L AuxPhase.waitPass).put (AUX_TRIG_SRC Afe.L) 1).aux Afe.L).phase =
      AuxPhase.waitPass ∧ (AuxSrc.timer = AuxSrc.timer ∨ ((auxIn Afe.L AuxPhase.waitPass).put (AUX_TRIG_SRC Afe.L)
      1).get (AUX_TRIG_TDIV Afe.L) ≤ (((auxIn Afe.L AuxPhase.waitPass).put (AUX_TRIG_SRC Afe.L) 1).aux Afe.L).div))
    ∧ (st13.settled ∧ st13.get (AUX_TRIG_SRC Afe.L) = auxSrcCode AuxSrc.window ∧ st13.auxRun Afe.L = true ∧
      (AuxSrc.window = AuxSrc.extpwm → Afe.L = Afe.L ∧ st13.get (AUX_TRIG_EDGE Afe.L) ≠ 0) ∧ (AuxSrc.window =
      AuxSrc.bsw → st13.bit (BPS_STAT_SW Afe.L) = true) ∧ (st13.aux Afe.L).phase = AuxPhase.waitPass ∧ AuxSrc.window
      ≠ AuxSrc.timer ∧ (st13.aux Afe.L).div < st13.get (AUX_TRIG_TDIV Afe.L))
    ∧ ((auxIn Afe.L AuxPhase.delay).settled ∧ ((auxIn Afe.L AuxPhase.delay).aux Afe.L).phase = AuxPhase.delay ∧
      (auxIn Afe.L AuxPhase.delay).auxRun Afe.L = true ∧ (auxIn Afe.L AuxPhase.delay).inCal Afe.L = false)
    ∧ ((auxIn Afe.L (AuxPhase.dly 4)).settled ∧ ((auxIn Afe.L (AuxPhase.dly 4)).aux Afe.L).phase = AuxPhase.dly 4 ∧
      ((auxIn Afe.L (AuxPhase.dly 4)).aux Afe.L).urgent = none ∧ ((auxIn Afe.L (AuxPhase.dly 4)).aux Afe.L).plaus =
      none)
    ∧ (st14.settled ∧ (st14.aux Afe.L).phase = AuxPhase.dly 4 ∧ (st14.aux Afe.L).urgent.isSome = true)
    ∧ ((auxIn Afe.L (AuxPhase.conv 31)).settled ∧ ((auxIn Afe.L (AuxPhase.conv 31)).aux Afe.L).phase = AuxPhase.conv
      31 ∧ [SarConv.mk 4660 false false].length = (auxIn Afe.L (AuxPhase.conv 31)).get (AUX_ENTA_REPM1 Afe.L 31) +
      1)
    ∧ (mem.accepts (AUX_URG_GO Afe.L) ∧ mem.auxUp Afe.L = true ∧ mem.sarBusy Afe.L = false ∧ mem.inCal Afe.L =
      false)
    ∧ ((auxIn Afe.L (AuxPhase.conv 2)).accepts (AUX_URG_GO Afe.L) ∧ (auxIn Afe.L (AuxPhase.conv 2)).auxUp Afe.L =
      true ∧ ((auxIn Afe.L (AuxPhase.conv 2)).sarBusy Afe.L = true ∨ (auxIn Afe.L (AuxPhase.conv 2)).inCal Afe.L =
      true))
    ∧ (st15.settled ∧ (st15.aux Afe.L).urgent.isSome = true)
    ∧ (st16.settled ∧ (st16.aux Afe.L).plaus = some (PlausWin.mk [1, 2] [(0, 0), (1, 0)] 4 10 0 3 1 false [(1,
      false), (2, false)] false) ∧ (PlausWin.mk [1, 2] [(0, 0), (1, 0)] 4 10 0 3 1 false [(1, false), (2, false)]
      false).next < (PlausWin.mk [1, 2] [(0, 0), (1, 0)] 4 10 0 3 1 false [(1, false), (2, false)] false).samples ∧
      st16.sarBusy Afe.L = false ∧ [SarConv.mk 5 false false, SarConv.mk 9 true false].length = (PlausWin.mk [1, 2]
      [(0, 0), (1, 0)] 4 10 0 3 1 false [(1, false), (2, false)] false).jobs.length ∧ st16.slotAt (PlausWin.mk [1,
      2] [(0, 0), (1, 0)] 4 10 0 3 1 false [(1, false), (2, false)] false) (PlausWin.mk [1, 2] [(0, 0), (1, 0)] 4 10
      0 3 1 false [(1, false), (2, false)] false).next < st16.nextBoundary)
    ∧ (((auxIn Afe.U AuxPhase.waitPass).put (AUX_TRIG_SRC Afe.U) 4).settled ∧ ((auxIn Afe.U AuxPhase.waitPass).put
      (AUX_TRIG_SRC Afe.U) 4).get (AUX_TRIG_SRC Afe.U) = auxSrcCode AuxSrc.bsw ∧ ((auxIn Afe.U
      AuxPhase.waitPass).put (AUX_TRIG_SRC Afe.U) 4).bit (BPS_STAT_SW Afe.U) = false)
    ∧ (st122.settled ∧ (st122.aux Afe.L).plaus = some (PlausWin.mk [1, 2] [(0, 0), (1, 0)] 4 10 0 3 1 false [(1,
      false), (2, false)] false) ∧ (PlausWin.mk [1, 2] [(0, 0), (1, 0)] 4 10 0 3 1 false [(1, false), (2, false)]
      false).next < (PlausWin.mk [1, 2] [(0, 0), (1, 0)] 4 10 0 3 1 false [(1, false), (2, false)] false).samples ∧
      (st122.aux Afe.L).phase.onSar = true) := by
  and_intros <;> decide +kernel

theorem witness_CalibrationStepsComplete :
    ((mem.put IMP_STAT_STATE 2).accepts (CAL_CTRL_STEP Afe.U) ∧ Afe.U ∈ (mem.put IMP_STAT_STATE 2).banks ∧ (mem.put
      IMP_STAT_STATE 2).calIdle Afe.U = true ∧ (mem.put IMP_STAT_STATE 2).calRefusal Afe.U false = some 10)
    ∧ ((mem.put (CAL_PHI Afe.L 3) 4).accepts (CAL_CTRL_STEP Afe.L) ∧ Afe.L ∈ (mem.put (CAL_PHI Afe.L 3) 4).banks ∧
      (mem.put (CAL_PHI Afe.L 3) 4).calIdle Afe.L = true ∧ (mem.put (CAL_PHI Afe.L 3) 4).calRefusal Afe.L false =
      some 11)
    ∧ (hed.accepts (CAL_CTRL_STEP Afe.L) ∧ Afe.L ∈ hed.banks ∧ hed.calIdle Afe.L = true ∧ hed.calRefusal Afe.L false
      = some 9)
    ∧ ((mem.put (CAL_STAT_SRC Afe.L) 1).accepts (CAL_CTRL_STEP Afe.L) ∧ Afe.L ∈ (mem.put (CAL_STAT_SRC Afe.L)
      1).banks ∧ (mem.put (CAL_STAT_SRC Afe.L) 1).calIdle Afe.L = true ∧ (mem.put (CAL_STAT_SRC Afe.L) 1).get
      (CAL_STAT_SRC Afe.L) ≠ 0 ∧ (mem.put (CAL_STAT_SRC Afe.L) 1).calRefusal Afe.L true = none)
    ∧ (mem.accepts (CAL_CTRL_STEP Afe.L) ∧ Afe.L ∈ mem.banks ∧ mem.calIdle Afe.L = true)
    ∧ ((calWith (sess CalPhase.ready)).accepts (CAL_CTRL_STEP Afe.L) ∧ Afe.L ∈ (calWith (sess CalPhase.ready)).banks
      ∧ ((calWith (sess CalPhase.ready)).cal Afe.L).sess = some (sess CalPhase.ready) ∧ (sess
      CalPhase.ready).refresh = false ∧ (sess CalPhase.ready).phase = CalPhase.ready ∧ (sess CalPhase.ready).ending
      = none)
    ∧ (0 = 0 ∨ 7 ≤ 0 ∧ 0 ≤ 14)
    ∧ (mem.accepts (CAL_CTRL_STEP Afe.U) ∧ Afe.U ∈ mem.banks ∧ (7 = 0 ∨ 7 ≤ 7 ∧ 7 ≤ 14))
    ∧ (14 = 0 ∨ 7 ≤ 14 ∧ 14 ≤ 14)
    ∧ (memRefs.accepts (CAL_CTRL_STEP Afe.L) ∧ Afe.L ∈ memRefs.banks ∧ memRefs.calIdle Afe.L = true ∧
      memRefs.calRefusal Afe.L false = none)
    ∧ ((calWith sr).accepts (CAL_CTRL_STEP Afe.L) ∧ Afe.L ∈ (calWith sr).banks ∧ ((calWith sr).cal Afe.L).sess =
      some sr ∧ sr.refresh = false ∧ sr.phase = CalPhase.ready ∧ sr.ending = none ∧ sr.mlo = some (List.replicate 19
      0) ∧ sr.mhi = some (List.replicate 19 40000000) ∧ ((calWith sr).put (CAL_STAT_STATE Afe.L) 7).newSet Afe.L sr
      (List.replicate 19 0) (List.replicate 19 40000000) = ((((calWith sr).put (CAL_STAT_STATE Afe.L) 7).newSet
      Afe.L sr (List.replicate 19 0) (List.replicate 19 40000000)).1, none))
    ∧ ((calWith srB).accepts (CAL_CTRL_STEP Afe.L) ∧ Afe.L ∈ (calWith srB).banks ∧ ((calWith srB).cal Afe.L).sess =
      some srB ∧ srB.refresh = false ∧ srB.phase = CalPhase.ready ∧ srB.ending = none ∧ srB.mlo = some
      (List.replicate 19 0) ∧ srB.mhi = some (List.replicate 19 40100000) ∧ ((calWith srB).put (CAL_STAT_STATE
      Afe.L) 7).newSet Afe.L srB (List.replicate 19 0) (List.replicate 19 40100000) = ((((calWith srB).put
      (CAL_STAT_STATE Afe.L) 7).newSet Afe.L srB (List.replicate 19 0) (List.replicate 19 40100000)).1, some (1,
      8)))
    ∧ ((calWith st123).accepts (CAL_CTRL_STEP Afe.L) ∧ Afe.L ∈ (calWith st123).banks ∧ ((calWith st123).cal
      Afe.L).sess = some st123 ∧ st123.refresh = false ∧ (st123.phase = CalPhase.lo ∨ st123.phase = CalPhase.hi) ∧
      st123.ending = none ∧ st123.mlo = some (List.replicate 19 0) ∧ st123.mhi = some (List.replicate 19 40000000) ∧
      ((calWith st123).put (CAL_STAT_STATE Afe.L) 7).newSet Afe.L st123 (List.replicate 19 0) (List.replicate 19
      40000000) = ((((calWith st123).put (CAL_STAT_STATE Afe.L) 7).newSet Afe.L st123 (List.replicate 19 0)
      (List.replicate 19 40000000)).1, none)) := by
  and_intros <;> decide +kernel

theorem witness_CalibrationProgressCompletes :
    ((calWith (sess CalPhase.lo)).settled ∧ ((calWith (sess CalPhase.lo)).cal Afe.L).sess = some (sess CalPhase.lo) ∧
      (sess CalPhase.lo).ending = none ∧ (sess CalPhase.lo).measuring = true)
    ∧ ((calWith (sess CalPhase.ready)).settled ∧ ((calWith (sess CalPhase.ready)).cal Afe.L).sess = some (sess
      CalPhase.ready) ∧ (sess CalPhase.ready).ending = none ∧ (sess CalPhase.ready).refresh = false ∧ (sess
      CalPhase.ready).phase = CalPhase.ready)
    ∧ (st17.settled ∧ (st17.cal Afe.L).sess = some st18 ∧ st18.ending = none ∧ st18.measuring = true ∧ st18.discard =
      true)
    ∧ ((calWith (sess CalPhase.hi)).settled ∧ ((calWith (sess CalPhase.hi)).cal Afe.L).sess = some (sess CalPhase.hi)
      ∧ (sess CalPhase.hi).ending = none ∧ (sess CalPhase.hi).measuring = true ∧ (sess CalPhase.hi).discard = false ∧
      (sess CalPhase.hi).reads.length + 1 < (sess CalPhase.hi).stk)
    ∧ (st19.settled ∧ (st19.cal Afe.L).sess = some st20 ∧ st20.ending = none ∧ st20.measuring = true ∧ st20.discard =
      false ∧ st20.phase = CalPhase.lo ∧ (List.take st20.stk (List.replicate 19 10 :: st20.reads)).length = st20.stk ∧
      (∀ k ∈ st19.calChannels Afe.L st20.ical, spread (chanReads (List.take st20.stk (List.replicate 19 10 ::
      st20.reads)) k) ≤ ↑st20.stab))
    ∧ (st21.settled ∧ (st21.cal Afe.L).store = some (mem.factorySet Afe.L, false))
    ∧ (st22.settled ∧ (st22.cal Afe.L).store = some (mem.factorySet Afe.L, true)) := by
  and_intros <;> decide +kernel

theorem witness_BalancingCommandsComplete :
    (mem.accepts BAL_CTRL_START ∧ mem.planLive = false)
    ∧ ((mem.put BAL_STAT_ACTIVE 1).accepts BAL_CTRL_START ∧ (mem.put BAL_STAT_ACTIVE 1).planLive = true)
    ∧ ((mem.put BAL_STAT_ACTIVE 1).accepts BAL_CTRL_STOP ∧ (mem.put BAL_STAT_ACTIVE 1).bit BAL_STAT_ACTIVE = true ∧
      (mem.put BAL_STAT_ACTIVE 1).bal.live = [])
    ∧ (memLive.accepts BAL_CTRL_STOP ∧ memLive.bit BAL_STAT_ACTIVE = true ∧ memLive.bal.live ≠ [])
    ∧ ((mem.put BAL_STAT_SPEND 1).accepts BAL_CTRL_STOP ∧ (mem.put BAL_STAT_SPEND 1).bit BAL_STAT_ACTIVE = false ∧
      (mem.put BAL_STAT_SPEND 1).bit BAL_STAT_SPEND = true)
    ∧ (memLive.settled ∧ memLive.hasBpd Afe.U = true ∧ memLive.tbRuns = true ∧ (StageMeter.mk 20 1 2 3 4 70000 5).cell
      ∈ memLive.bal.live ∧ bankOf (StageMeter.mk 20 1 2 3 4 70000 5).cell = Afe.U ∧ 1 ≤ (StageMeter.mk 20 1 2 3 4
      70000 5).cell ∧ (StageMeter.mk 20 1 2 3 4 70000 5).cell ≤ memLive.bal.led.length)
    ∧ (st23.settled ∧ st23.hasBpd Afe.L = true ∧ st23.tbRuns = true ∧ st23.bal.stop = true ∧ st23.bit BAL_STAT_ACTIVE
      = true)
    ∧ (mem.settled ∧ mem.hasBpd Afe.L = true)
    ∧ mem.hasBpd Afe.U = true
    ∧ ((mem.put (BPS_STAT_OTS Afe.U) 1).settled ∧ (mem.put (BPS_STAT_OTS Afe.U) 1).hasBpd Afe.U = true ∧ (mem.put
      (BPS_STAT_OTS Afe.U) 1).bit (BPS_STAT_OTS Afe.U) = true) := by
  and_intros <;> decide +kernel

theorem witness_ImpedanceAndWiringCommandsComplete :
    ((mem.put IMP_STARTL 6000).accepts IMP_CTRL_ARM ∧ (mem.put IMP_STARTL 6000).impQuiet = true ∧ (mem.put
      IMP_STARTL 6000).build ≠ Build.B ∧ (mem.put IMP_STARTL 6000).role = Role.member ∧ (mem.put IMP_STARTL
      6000).mtick + 6000 ≤ (mem.put IMP_STARTL 6000).sweepStart)
    ∧ ((mem.put IMP_STARTL 5999).accepts IMP_CTRL_ARM ∧ (mem.put IMP_STARTL 5999).impQuiet = true ∧ (mem.put
      IMP_STARTL 5999).build ≠ Build.B ∧ (mem.put IMP_STARTL 5999).role = Role.member ∧ (mem.put IMP_STARTL
      5999).sweepStart < (mem.put IMP_STARTL 5999).mtick + 6000)
    ∧ (hed.accepts IMP_CTRL_ARM ∧ hed.impQuiet = true ∧ (hed.build = Build.B ∨ hed.role = Role.head))
    ∧ ((mem.put IMP_STAT_STATE 1).accepts IMP_CTRL_ABORT ∧ (mem.put IMP_STAT_STATE 1).get IMP_STAT_STATE = 1)
    ∧ ((mem.put IMP_STAT_STATE 2).accepts IMP_CTRL_ABORT ∧ (mem.put IMP_STAT_STATE 2).get IMP_STAT_STATE = 2 ∧
      ((mem.put IMP_STAT_STATE 2).imp.gap = true → (mem.put IMP_STAT_STATE 2).impPt + 1 < (mem.put IMP_STAT_STATE
      2).get IMP_NPT))
    ∧ (st24.settled ∧ st24.owd.probe = some 5)
    ∧ st24.owd.fails[5 - 1]?.getD 0 = 0
    ∧ ((mem.put (OWD_CFG_EN Afe.L) 1).accepts (OWD_CTRL_JREQ Afe.L) ∧ (mem.put (OWD_CFG_EN Afe.L) 1).owdUp = true ∧
      (mem.put (OWD_CFG_EN Afe.L) 1).bit (OWD_CFG_EN Afe.L) = true ∧ 36 ≤ (mem.put (OWD_CFG_EN Afe.L) 1).cells ∧ (∀
      r ∈ (mem.put (OWD_CFG_EN Afe.L) 1).owd.reqs, r.wire = 36 → r.named = 0 → r.cls ≠ (mem.put (OWD_CFG_EN Afe.L)
      1).owd.conf[36]?.getD 0))
    ∧ ((mem.put (OWD_CFG_EN Afe.L) 1).owdUp = false ∨ (mem.put (OWD_CFG_EN Afe.L) 1).bit (OWD_CFG_EN Afe.L) = false
      ∨ (mem.put (OWD_CFG_EN Afe.L) 1).cells < 37)
    ∧ (st124.accepts IMP_CTRL_ABORT ∧ st124.get IMP_STAT_STATE = 2 ∧ st124.imp.gap = true ∧ st124.get IMP_NPT ≤
      st124.impPt + 1) := by
  and_intros <;> decide +kernel

theorem witness_ComparatorCommandsComplete :
    (mem.settled ∧ mem.guardUp = true)
    ∧ mem.cmpRuns (CmpId.mk Afe.L CmpKind.ov 18) = true
    ∧ (hed.settled ∧ hed.cmpRuns (CmpId.mk Afe.L CmpKind.ot 7) = true)
    ∧ ((mem.put (CMP_STAT_ROT Afe.U) 1).settled ∧ (mem.put (CMP_STAT_ROT Afe.U) 1).guardUp = true ∧ Afe.U ∈ (mem.put
      (CMP_STAT_ROT Afe.U) 1).banks ∧ (mem.put (CMP_STAT_ROT Afe.U) 1).bit (CMP_STAT_ROT Afe.U) = true ∧ ((mem.put
      (CMP_STAT_ROT Afe.U) 1).bz Afe.U).slot = none ∧ (mem.put (CMP_STAT_ROT Afe.U) 1).slotRuns Afe.U ((mem.put
      (CMP_STAT_ROT Afe.U) 1).bz Afe.U).next = true)
    ∧ (st25.settled ∧ (st25.bz Afe.L).slot = some 0 ∧ st25.get (CMP_STAT_SLOT Afe.L) ≠ 26)
    ∧ (st26.settled ∧ (st26.bz Afe.L).slot = some 0 ∧ st26.get (CMP_STAT_SLOT Afe.L) = 26)
    ∧ (st27.settled ∧ (st27.bz Afe.L).slot = some 0 ∧ 1 ∈ slotChecks (st27.get (CMP_STAT_SLOT Afe.L)))
    ∧ (st28.settled ∧ (st28.bz Afe.L).slot = some 3 ∧ 3 ∈ slotChecks (st28.get (CMP_STAT_SLOT Afe.L)) ∧ st28.get
      (CMP_STAT_SLOT Afe.L) ≤ 26)
    ∧ ((calm mem).settled ∧ (calm mem).cmpRuns (CmpId.mk Afe.U CmpKind.uv 1) = true ∧ (calm mem).tripped (CmpId.mk
      Afe.U CmpKind.uv 1) = false ∧ ((calm mem).sideOf (CmpId.mk Afe.U CmpKind.uv 1)).getD CrossSide.trip =
      CrossSide.trip)
    ∧ ((calm mem).cmpRuns (CmpId.mk Afe.L CmpKind.ut 7) = true ∧ (calm mem).tripped (CmpId.mk Afe.L CmpKind.ut 7) =
      false ∧ ((calm mem).sideOf (CmpId.mk Afe.L CmpKind.ut 7)).getD CrossSide.trip = CrossSide.trip)
    ∧ (((calm mem).put (CMP_OVST Afe.L) 1).settled ∧ ((calm mem).put (CMP_OVST Afe.L) 1).cmpRuns (CmpId.mk Afe.L
      CmpKind.ov 1) = true ∧ ((calm mem).put (CMP_OVST Afe.L) 1).tripped (CmpId.mk Afe.L CmpKind.ov 1) = true ∧
      (((calm mem).put (CMP_OVST Afe.L) 1).bz (CmpId.mk Afe.L CmpKind.ov 1).die).valid = true ∧ (((calm mem).put
      (CMP_OVST Afe.L) 1).sideOf (CmpId.mk Afe.L CmpKind.ov 1)).getD CrossSide.release = CrossSide.release)
    ∧ (((calm mem).put (CMP_TST_OT Afe.U) 128).settled ∧ ((calm mem).put (CMP_TST_OT Afe.U) 128).cmpRuns (CmpId.mk
      Afe.U CmpKind.ot 7) = true ∧ ((calm mem).put (CMP_TST_OT Afe.U) 128).tripped (CmpId.mk Afe.U CmpKind.ot 7) =
      true ∧ (((calm mem).put (CMP_TST_OT Afe.U) 128).bz (CmpId.mk Afe.U CmpKind.ot 7).die).valid = true ∧ (((calm
      mem).put (CMP_TST_OT Afe.U) 128).sideOf (CmpId.mk Afe.U CmpKind.ot 7)).getD CrossSide.release =
      CrossSide.release) := by
  and_intros <;> decide +kernel

theorem witness_BezelCommandsComplete :
    ((memV Afe.L).settled ∧ (memV Afe.L).guardUp = true ∧ Afe.L ∈ (memV Afe.L).banks ∧ (memV Afe.L).bezel Afe.L =
      bStart ∧ ((memV Afe.L).bz Afe.L).valid = true ∧ ((memV Afe.L).bz Afe.L).held = false)
    ∧ ((memV Afe.U).settled ∧ (memV Afe.U).guardUp = true ∧ Afe.U ∈ (memV Afe.U).banks ∧ (memV Afe.U).bezel Afe.U =
      bStart ∧ ((memV Afe.U).bz Afe.U).valid = true ∧ ((memV Afe.U).bz Afe.U).held = false)
    ∧ (mem.settled ∧ Afe.L ∈ mem.banks)
    ∧ Afe.U ∈ mem.banks
    ∧ (st29.settled ∧ Afe.U ∈ st29.banks)
    ∧ (st30.settled ∧ Afe.U ∈ st30.banks)
    ∧ (st31.settled ∧ Afe.L ∈ st31.banks)
    ∧ (st32.accepts (BZL_CTRL_LRST Afe.L) ∧ st32.guardUp = true ∧ Afe.L ∈ st32.banks ∧ st32.bezel Afe.L = bTripped ∧
      (Afe.L = Afe.L → st32.bezel Afe.U ≠ bTripped) ∧ ((∃ r ∈ st32.rows Afe.L, r ≠ 85) ∨ st32.saf.hold ≠ []))
    ∧ (mem.accepts (BZL_CTRL_TTRIP Afe.L) ∧ mem.guardUp = true)
    ∧ (hed.accepts (BZL_CTRL_TTRIP Afe.L) ∧ hed.guardUp = true ∧ Afe.L ∈ hed.banks)
    ∧ (mem.accepts (BZL_NV_SAVE Afe.L) ∧ (mem.bz Afe.L).save = none)
    ∧ (st33.accepts (BZL_NV_SAVE Afe.U) ∧ Afe.U ∈ st33.banks ∧ (st33.bz Afe.U).save.isSome = true)
    ∧ (st34.settled ∧ (st34.bz Afe.U).save = some [5#32])
    ∧ (st35.settled ∧ (st35.bz Afe.L).save = some [5#32])
    ∧ mem.twoBlocks = true
    ∧ (st36.settled ∧ st36.twoBlocks = true)
    ∧ ((trL.put (BZL_STAT_GIN Afe.L) 1).accepts (BZL_CTRL_LRST Afe.L) ∧ (trL.put (BZL_STAT_GIN Afe.L) 1).guardUp =
      true ∧ Afe.L ∈ (trL.put (BZL_STAT_GIN Afe.L) 1).banks ∧ (trL.put (BZL_STAT_GIN Afe.L) 1).bezel Afe.L = bTripped
      ∧ (Afe.L = Afe.L → (trL.put (BZL_STAT_GIN Afe.L) 1).bezel Afe.U ≠ bTripped) ∧ (∀ r ∈ (trL.put (BZL_STAT_GIN
      Afe.L) 1).rows Afe.L, r = 85) ∧ (trL.put (BZL_STAT_GIN Afe.L) 1).saf.hold = [])
    ∧ (((calm2 mem).put (BZL_STAT_STATE Afe.U) 2).accepts (BZL_CTRL_LRST Afe.U) ∧ ((calm2 mem).put (BZL_STAT_STATE
      Afe.U) 2).guardUp = true ∧ Afe.U ∈ ((calm2 mem).put (BZL_STAT_STATE Afe.U) 2).banks ∧ ((calm2 mem).put
      (BZL_STAT_STATE Afe.U) 2).bezel Afe.U = bTripped ∧ (Afe.U = Afe.L → ((calm2 mem).put (BZL_STAT_STATE Afe.U)
      2).bezel Afe.U ≠ bTripped) ∧ (∀ r ∈ ((calm2 mem).put (BZL_STAT_STATE Afe.U) 2).rows Afe.U, r = 85) ∧ ((calm2
      mem).put (BZL_STAT_STATE Afe.U) 2).saf.hold = [])
    ∧ (st37.accepts (BZL_CTRL_LRST Afe.U) ∧ st37.guardUp = true ∧ Afe.U ∈ st37.banks ∧ st37.bezel Afe.U = bTripped ∧
      (Afe.U = Afe.L → st37.bezel Afe.U ≠ bTripped) ∧ ((∃ r ∈ st37.rows Afe.U, r ≠ 85) ∨ st37.saf.hold ≠ [])) := by
  and_intros <;> decide +kernel

theorem witness_DisconnectCommandsComplete :
    (hedOn.settled ∧ hedOn.role = Role.head)
    ∧ (hed.accepts (SDC_CTRL_EN Afe.L) ∧ hed.role = Role.head)
    ∧ (mem.accepts (SDC_CTRL_EN Afe.L) ∧ mem.role = Role.member)
    ∧ (st38.accepts (SDC_CTRL_LRST Afe.L) ∧ st38.role = Role.head ∧ (st38.atTime 0).carrierSteady = true ∧
      st38.bezel Afe.L = bArmed ∧ st38.bit FW_PPSTAT_LATCH = false ∧ (∀ m ∈ st38.hd.members, m.latch = false) ∧
      st38.saf.hold = [])
    ∧ (hedOn.accepts (SDC_CTRL_LRST Afe.L) ∧ ((hedOn.atTime 59999).carrierSteady = false ∨ hedOn.bezel Afe.L ≠
      bArmed ∨ hedOn.bit FW_PPSTAT_LATCH = true ∨ (∃ m ∈ hedOn.hd.members, m.latch = true) ∨ hedOn.saf.hold ≠ []))
    ∧ (st39.accepts (SDC_CTRL_LRST Afe.L) ∧ st39.role = Role.head ∧ ((st39.atTime 70000).carrierSteady = false ∨
      st39.bezel Afe.L ≠ bArmed ∨ st39.bit FW_PPSTAT_LATCH = true ∨ (∃ m ∈ st39.hd.members, m.latch = true) ∨
      st39.saf.hold ≠ []))
    ∧ ((hed.put FW_PPSTAT_LATCH 1).accepts FW_PPCTRL_LRST ∧ (hed.put FW_PPSTAT_LATCH 1).ppCalm = true ∧ (hed.put
      FW_PPSTAT_LATCH 1).saf.hold = [])
    ∧ (mem.accepts FW_PPCTRL_LRST ∧ (mem.ppCalm = false ∨ mem.saf.hold ≠ []))
    ∧ (hed.accepts (SDC_GRACE_TG Afe.L) ∧ hed.get (SDC_GRACE_TG Afe.L) < bitsOf (1001#32) 10 0)
    ∧ (bitsOf (16#32) 10 0 ≤ hed.get (SDC_GRACE_TG Afe.L) ∧ hed.saf.grace = none)
    ∧ (hed.accepts (SDC_NV_SAVE Afe.L) ∧ hed.saf.save = none)
    ∧ (st40.accepts (SDC_NV_SAVE Afe.L) ∧ st40.saf.save.isSome = true)
    ∧ (st40.settled ∧ st40.saf.save = some [])
    ∧ (st41.settled ∧ st41.saf.save = some [])
    ∧ (hedOn.energised = true ∧ hedOn.saf.dark = none ∧ hedOn.saf.back = none)
    ∧ ((dk true).settled ∧ (dk true).saf.dark = some SdcSw.pls ∧ (dk true).energised = true)
    ∧ (dk true).saf.tests[swIndex SdcSw.pls]?.getD 0 ≠ 1
    ∧ ((dk false).settled ∧ (dk false).saf.back = some SdcSw.pls ∧ (dk false).energised = true)
    ∧ (dk false).saf.tests[swIndex SdcSw.pls]?.getD 0 ≠ 2
    ∧ (dk2.settled ∧ dk2.saf.back = some SdcSw.nhs ∧ dk2.energised = true ∧ dk2.saf.tests[swIndex SdcSw.nhs]?.getD 0
      = 2 ∧ dk2.saf.conf[swIndex SdcSw.nhs]?.getD 0 ≠ 2)
    ∧ (hedOn.guardUp = true ∧ (hedOn.kindBefore (swIndex SdcSw.nls) true ≠ if hedOn.energised = true then 3 else 1))
    ∧ (hed.settled ∧ hed.guardUp = true ∧ (hed.kindBefore (swIndex SdcSw.nls) false ≠ if hed.energised = true then 3
      else 1))
    ∧ ((hedOn.put (SDC_STAT_PFLT Afe.L) 1).settled ∧ (hedOn.put (SDC_STAT_PFLT Afe.L) 1).role = Role.head)
    ∧ ((hedOn.put (SDC_STAT_NFLT Afe.L) 1).settled ∧ (hedOn.put (SDC_STAT_NFLT Afe.L) 1).role = Role.head)
    ∧ (st125.settled ∧ st125.role = Role.head ∧ st125.guardUp = true ∧ (st125.kindBefore (swIndex SdcSw.nhs) true =
      if st125.energised = true then 3 else 1) ∧ (st125.saf.conf[swIndex SdcSw.nhs]?.getD 0 ≠ if st125.energised =
      true then 3 else 1))
    ∧ (st125.kindBefore (swIndex SdcSw.nhs) false ≠ if st125.energised = true then 3 else 1)
    ∧ (st126.settled ∧ st126.role = Role.head ∧ st126.guardUp = true ∧ (st126.kindBefore (swIndex SdcSw.phs) false =
      if st126.energised = true then 3 else 1) ∧ (st126.saf.conf[swIndex SdcSw.phs]?.getD 0 ≠ if st126.energised =
      true then 3 else 1))
    ∧ (hedOn.atTime 60000).carrierSteady = true := by
  and_intros <;> decide +kernel

theorem witness_GirdleAndGuardCommandsComplete :
    (mem.settled ∧ mem.guardUp = true ∧ mem.carrierIn = false ∧ mem.role = Role.member)
    ∧ (hed.settled ∧ hed.guardUp = true ∧ hed.carrierIn = false ∧ hed.role = Role.head)
    ∧ (st42.settled ∧ st42.guardUp = true ∧ st42.carrierIn = true ∧ st42.role = Role.member ∧ st42.bit BAL_PCFG_GSTOP
      = false)
    ∧ (hedOn.settled ∧ hedOn.guardUp = true ∧ hedOn.carrierIn = true ∧ hedOn.role = Role.head)
    ∧ ((mem.put (GRD_CFG_GAPEN Afe.L) 1).settled ∧ (mem.put (GRD_CFG_GAPEN Afe.L) 1).monitoring = true ∧ (mem.put
      (GRD_CFG_GAPEN Afe.L) 1).bit (GRD_CFG_GAPEN Afe.L) = true ∧ (mem.put (GRD_CFG_GAPEN Afe.L) 1).cur ≠ Mode.legacy
      ∧ (mem.put (GRD_CFG_GAPEN Afe.L) 1).role = Role.member)
    ∧ (st43.settled ∧ st43.monitoring = true ∧ st43.bit (GRD_CFG_GAPEN Afe.L) = true ∧ st43.cur ≠ Mode.legacy ∧
      st43.role = Role.member)
    ∧ ((hedOn.put (GRD_CFG_GAPEN Afe.L) 1).settled ∧ (hedOn.put (GRD_CFG_GAPEN Afe.L) 1).judgesSlot 0 = true)
    ∧ st44.runs
    ∧ (st45.settled ∧ st45.saf.grace.isSome = true ∧ st45.lathe = true ∧ st45.guardUp = true)
    ∧ ((linked ringMem).settled ∧ (linked ringMem).monitoring = true)
    ∧ ((ringMem.put FW_PPSTAT_LATCH 1).settled ∧ (ringMem.put FW_PPSTAT_LATCH 1).tripStands = true ∧ (ringMem.put
      FW_PPSTAT_LATCH 1).lathe = true ∧ (ringMem.put FW_PPSTAT_LATCH 1).bit SPN_POS_VALID = true ∧ (ringMem.put
      FW_PPSTAT_LATCH 1).inLegacy = false ∧ (ringMem.put FW_PPSTAT_LATCH 1).bit FW_PPSTAT_LATCH = true)
    ∧ (st46.settled ∧ st46.tripStands = false)
    ∧ (hedM.runs ∧ hedM.role = Role.head ∧ hedM.member 2 = some (mb 2) ∧ (mb 2).guarded = true ∧ (mb 2).last = false ∧
      (mb 2).missing = false)
    ∧ (st47.settled ∧ st47.judgesSlot 2 = true)
    ∧ (st48.settled ∧ st48.saf.grace.isSome = true ∧ st48.lathe = false) := by
  and_intros <;> decide +kernel

theorem witness_LinkCommandsComplete :
    (mem.runs ∧ wordValid (lw (portCode Port.north * 2048)) = true ∧ mem.inLegacy = false ∧ mem.bit (SPN_PORT_LEG
      Port.north) = false ∧ (mem.pstate Port.north = pDown ∨ mem.pstate Port.north = pParked) ∧ lwPort (lw (portCode
      Port.north * 2048)) = portCode Port.north ∧ mem.bit (SPN_PORT_MISW Port.north) = false)
    ∧ ((memL pParked).runs ∧ wordValid (lw (portCode Port.south * 2048)) = true ∧ (memL pParked).inLegacy = false ∧
      (memL pParked).bit (SPN_PORT_LEG Port.south) = false ∧ ((memL pParked).pstate Port.south = pDown ∨ (memL
      pParked).pstate Port.south = pParked) ∧ lwPort (lw (portCode Port.south * 2048)) = portCode Port.south ∧ (memL
      pParked).bit (SPN_PORT_MISW Port.south) = false)
    ∧ (wordValid (lw (portCode Port.south * 2048 + 1024)) = true ∧ (memL pParked).bit (SPN_PORT_LEG Port.north) =
      false ∧ (memL pParked).pstate Port.north = pParked ∧ lwPort (lw (portCode Port.south * 2048 + 1024)) ≠
      portCode Port.north ∧ ((memL pParked).port Port.north).silent = false)
    ∧ ((memL pParked).pstate Port.south = pParked ∧ lwPort (lw (portCode Port.north * 2048)) ≠ portCode Port.south ∧
      ((memL pParked).port Port.south).silent = false)
    ∧ ((memL pLr).runs ∧ wordValid (lw (portCode Port.north * 2048 + 32)) = true ∧ (memL pLr).inLegacy = false ∧
      (memL pLr).bit (SPN_PORT_LEG Port.south) = false ∧ (memL pLr).pstate Port.south = pLr ∧ lwPort (lw (portCode
      Port.north * 2048 + 32)) ≠ portCode Port.south ∧ lwPark (lw (portCode Port.north * 2048 + 32)) = true)
    ∧ (wordValid (lw (portCode Port.south * 2048 + 1536)) = true ∧ (memL pLr).bit (SPN_PORT_LEG Port.north) = false
      ∧ (memL pLr).pstate Port.north = pLr ∧ lwPort (lw (portCode Port.south * 2048 + 1536)) ≠ portCode Port.north ∧
      lwPark (lw (portCode Port.south * 2048 + 1536)) = false)
    ∧ ((mem.port Port.north).silent = false ∧ mem.pstate Port.north = pDown)
    ∧ ((inMode (memL pParked) .watch 2).runs ∧ (inMode (memL pParked) .watch 2).inLegacy = false ∧ (inMode (memL
      pParked) .watch 2).bit (SPN_PORT_LEG Port.south) = false ∧ ((inMode (memL pParked) .watch 2).port
      Port.south).silent = false ∧ (inMode (memL pParked) .watch 2).pstate Port.south = pParked ∧ ((inMode (memL
      pParked) .watch 2).level = 2 ∨ (inMode (memL pParked) .watch 2).level = 3))
    ∧ ((memL pLr).port Port.south).silent = false
    ∧ (st49.runs ∧ st49.pstate Port.south = pLr ∧ st49.hif.runs = [] ∧ st49.bit (SPN_PORT_LEG Port.south) = false)
    ∧ (((memL pLr).put (SPN_PORT_LEG Port.north) 1).runs ∧ ((memL pLr).put (SPN_PORT_LEG Port.north) 1).pstate
      Port.north = pLr ∧ ((memL pLr).put (SPN_PORT_LEG Port.north) 1).bit (SPN_PORT_LEG Port.north) = true ∧ ((memL
      pLr).put (SPN_PORT_LEG Port.north) 1).hif.runs = [])
    ∧ (mem.settled ∧ mem.pstate Port.north = pDown)
    ∧ ((memL pTrain).settled ∧ (memL pTrain).pstate Port.north = pTrain)
    ∧ (((memL pTrain).put (PRT_TXCFG_PFIX Port.north) 1).settled ∧ ((memL pTrain).put (PRT_TXCFG_PFIX Port.north)
      1).pstate Port.north = pTrain)
    ∧ (memL pTrain).get (PRT_STAT_ATT Port.north) < 2
    ∧ (((memL pTrain).put (PRT_STAT_ATT Port.south) 2).settled ∧ ((memL pTrain).put (PRT_STAT_ATT Port.south)
      2).pstate Port.south = pTrain ∧ ((memL pTrain).put (PRT_STAT_ATT Port.south) 2).get (PRT_STAT_ATT Port.south)
      = 2)
    ∧ (((memL pLr).put (PRT_STAT_HRFAIL Port.south) 1).settled ∧ ((memL pLr).put (PRT_STAT_HRFAIL Port.south) 1).bit
      (PRT_STAT_HRFAIL Port.south) = true)
    ∧ ((memL pHr).settled ∧ (memL pHr).pstate Port.south = pHr)
    ∧ ((memL pRetrain).settled ∧ (memL pRetrain).pstate Port.south = pRetrain ∧ ((memL pRetrain).bit SPN_RING_OPEN =
      false ∨ (memL pRetrain).hif.runs = []) ∧ (memL pRetrain).hif.runs = [])
    ∧ (memL pRetrain).pstate Port.north = pRetrain
    ∧ ((memL pHr).accepts (PRT_CTRL_RETRN Port.north) ∧ fits (memL pHr).build Die.phyN = true ∧ (memL pHr).dead
      (phyDie Port.north) = false ∧ (memL pHr).pstate Port.north = pHr)
    ∧ (mem.accepts (PRT_CTRL_RETRN Port.north) ∧ fits mem.build Die.phyN = true ∧ mem.dead (phyDie Port.north) =
      false)
    ∧ (memL pHr).accepts (PRT_CTRL_HRDIS Port.north)
    ∧ mem.accepts (PRT_CTRL_HRDIS Port.south)
    ∧ (mem.accepts (PRT_CTRL_LCHK Port.south) ∧ mem.pstate Port.south = pDown ∧ mem.monitoring = true)
    ∧ ((memL pHr).accepts (PRT_CTRL_LCHK Port.south) ∧ ((memL pHr).pstate Port.south ≠ pDown ∨ (memL pHr).monitoring
      = false))
    ∧ (st50.settled ∧ (st50.port Port.south).lineCheck = true)
    ∧ (wordValid (lw (portCode Port.south * 2048)) = true ∧ (memL pLr).pstate Port.south = pLr ∧ lwPort (lw
      (portCode Port.south * 2048)) = portCode Port.south ∧ (memL pLr).bit (SPN_PORT_MISW Port.south) = false)
    ∧ (((memL pLr).put (SPN_PORT_LEG Port.south) 1).accepts (PRT_CTRL_RETRN Port.south) ∧ ((memL pLr).put
      (SPN_PORT_LEG Port.south) 1).dead (phyDie Port.south) = false ∧ ((memL pLr).put (SPN_PORT_LEG Port.south)
      1).pstate Port.south = pLr ∧ ((memL pLr).put (SPN_PORT_LEG Port.south) 1).bit (SPN_PORT_LEG Port.south) =
      true)
    ∧ ((memL pHr).settled ∧ (memL pHr).dead (phyDie Port.south) = false ∧ (memL pHr).pstate Port.south = pHr) := by
  and_intros <;> decide +kernel

theorem witness_CompactFramesRelayedOrDiscarded :
    ((linked ringMem).settled ∧ (linked ringMem).hears Port.north = true ∧ cfOk (cw kTrip 2 5) = true ∧ (linked
      ringMem).role = Role.member ∧ cfKind (cw kTrip 2 5) = kTrip)
    ∧ (cfOk (cw kGuard 2 5) = true ∧ cfKind (cw kGuard 2 5) = kGuard)
    ∧ (cfOk (cw kCapreq 2 5) = true ∧ cfKind (cw kCapreq 2 5) = kCapreq)
    ∧ (cfOk (cw kNotice 2 268435456) = true ∧ cfKind (cw kNotice 2 268435456) = kNotice ∧ bitsNat (cfPay (cw kNotice 2
      268435456)) 31 28 = 1)
    ∧ (cfOk (cw kNotice 2 536870912) = true ∧ cfKind (cw kNotice 2 536870912) = kNotice ∧ bitsNat (cfPay (cw kNotice 2
      536870912)) 31 28 = 2)
    ∧ (cfOk (cw kNotice 2 805306368) = true ∧ cfKind (cw kNotice 2 805306368) = kNotice ∧ bitsNat (cfPay (cw kNotice 2
      805306368)) 31 28 = 3)
    ∧ (cfOk (cw kNotice 2 1073741824) = true ∧ cfKind (cw kNotice 2 1073741824) = kNotice ∧ bitsNat (cfPay (cw kNotice
      2 1073741824)) 31 28 = 4)
    ∧ (cfOk (cw kNotice 2 1342177280) = true ∧ cfKind (cw kNotice 2 1342177280) = kNotice ∧ bitsNat (cfPay (cw kNotice
      2 1342177280)) 31 28 = 5)
    ∧ (cfOk (cw kNotice 2 1610612736) = true ∧ cfKind (cw kNotice 2 1610612736) = kNotice ∧ bitsNat (cfPay (cw kNotice
      2 1610612736)) 31 28 = 6)
    ∧ ((linked ringMem).hears Port.south = true ∧ cfOk (cw kEvack 2 5) = true ∧ cfPos (cw kEvack 2 5) ≠ (linked
      ringMem).get SPN_POS_POS ∧ cfKind (cw kEvack 2 5) = kEvack)
    ∧ (cfOk (cw kSync 2 5) = true ∧ cfPos (cw kSync 2 5) ≠ (linked ringMem).get SPN_POS_POS ∧ cfKind (cw kSync 2 5) =
      kSync)
    ∧ (cfOk (cw kTrip 2 5 ^^^ 1) = false ∧ cfKind (cw kTrip 2 5 ^^^ 1) = kTrip)
    ∧ (cfOk (cw kGuard 2 5 ^^^ 1) = false ∧ cfKind (cw kGuard 2 5 ^^^ 1) = kGuard)
    ∧ (cfOk (cw kCapreq 2 5 ^^^ 1) = false ∧ cfKind (cw kCapreq 2 5 ^^^ 1) = kCapreq)
    ∧ (cfOk (cw kCapture 2 5 ^^^ 1) = false ∧ cfKind (cw kCapture 2 5 ^^^ 1) = kCapture)
    ∧ (cfOk (cw kCredit 2 5 ^^^ 1) = false ∧ cfKind (cw kCredit 2 5 ^^^ 1) = kCredit)
    ∧ (cfOk (cw kCreditInit 2 5 ^^^ 1) = false ∧ cfKind (cw kCreditInit 2 5 ^^^ 1) = kCreditInit)
    ∧ (cfOk (cw kEvack 2 5 ^^^ 1) = false ∧ cfKind (cw kEvack 2 5 ^^^ 1) = kEvack)
    ∧ ((linked hed).settled ∧ (linked hed).hears Port.south = true ∧ cfOk (cw kReset 2 5 ^^^ 1) = false ∧ cfKind (cw
      kReset 2 5 ^^^ 1) = kReset)
    ∧ (cfOk (cw kEnum 2 5 ^^^ 1) = false ∧ cfKind (cw kEnum 2 5 ^^^ 1) = kEnum)
    ∧ (cfOk (cw kSync 2 5 ^^^ 1) = false ∧ cfKind (cw kSync 2 5 ^^^ 1) = kSync)
    ∧ (cfOk (cw kNotice 2 268435456 ^^^ 1) = false ∧ cfKind (cw kNotice 2 268435456 ^^^ 1) = kNotice ∧ bitsNat (cfPay
      (cw kNotice 2 268435456 ^^^ 1)) 31 28 = 1) := by
  and_intros <;> decide +kernel

theorem witness_SafetyAndCaptureFramesComplete :
    (hedM.receives Port.north kTrip (cw kTrip 2 272629760) ∧ hedM.role = Role.head ∧ hedM.inTurn (cw kTrip 2
      272629760) (cfPos (cw kTrip 2 272629760)))
    ∧ (hedM.receives Port.north kGuard (cw kGuard 2 272629760) ∧ hedM.inTurn (cw kGuard 2 272629760) (cfPos (cw
      kGuard 2 272629760)) ∧ hedM.numbered (cfPos (cw kGuard 2 272629760)) = true)
    ∧ (hedM.receives Port.north kGuard (cw kGuard 9 272629760) ∧ hedM.inTurn (cw kGuard 9 272629760) (cfPos (cw
      kGuard 9 272629760)) ∧ hedM.numbered (cfPos (cw kGuard 9 272629760)) = false)
    ∧ (hedM.receives Port.north kCapreq (cw kCapreq 2 260) ∧ hedM.inTurn (cw kCapreq 2 260) (cfPos (cw kCapreq 2
      260)))
    ∧ hedM.receives Port.north kCapture (cw kCapture 2 260)
    ∧ ((linked ringMem).receives Port.south kCapture (cw kCapture 2 260) ∧ (linked ringMem).role = Role.member ∧
      (linked ringMem).bit SPN_POS_VALID = true ∧ (linked ringMem).spn.aliveIn = [])
    ∧ (((linked ringMem).put (CVW_CAPT_CHAIN Afe.L) 1).receives Port.south kCapture (cw kCapture 2 260) ∧ ((linked
      ringMem).put (CVW_CAPT_CHAIN Afe.L) 1).role = Role.member ∧ ((linked ringMem).put (CVW_CAPT_CHAIN Afe.L)
      1).bit SPN_POS_VALID = true ∧ ((linked ringMem).put (CVW_CAPT_CHAIN Afe.L) 1).spn.aliveIn = [])
    ∧ ((linked ringMem).receives Port.south kReset (cw kReset 0 (1 * 2 ^ 30 + 2 ^ 29 + 5)) ∧ (linked ringMem).bit
      SPN_POS_BOUND = true ∧ bitsNat (cfPay (cw kReset 0 (1 * 2 ^ 30 + 2 ^ 29 + 5))) 15 0 = (linked ringMem).get
      SPN_POS_HID ∧ bitsNat (cfPay (cw kReset 0 (1 * 2 ^ 30 + 2 ^ 29 + 5))) 29 29 = 1 ∧ bitsNat (cfPay (cw kReset 0
      (1 * 2 ^ 30 + 2 ^ 29 + 5))) 31 30 = 1)
    ∧ ((linked ringMem).receives Port.south kReset (cw kReset 0 (2 * 2 ^ 30 + 2 ^ 29 + 5)) ∧ bitsNat (cfPay (cw
      kReset 0 (2 * 2 ^ 30 + 2 ^ 29 + 5))) 15 0 = (linked ringMem).get SPN_POS_HID ∧ bitsNat (cfPay (cw kReset 0 (2
      * 2 ^ 30 + 2 ^ 29 + 5))) 29 29 = 1 ∧ bitsNat (cfPay (cw kReset 0 (2 * 2 ^ 30 + 2 ^ 29 + 5))) 31 30 = 2)
    ∧ ((linked mem).receives Port.north kCapture (cw kCapture 2 260) ∧ (linked mem).role = Role.member ∧ (linked
      mem).bit SPN_POS_VALID = false) := by
  and_intros <;> decide +kernel

theorem witness_CreditAndControlFramesComplete :
    (rm.receives Port.north kCredit (cw kCredit 0 305419896) ∧ (rm.port Port.north).txq = [])
    ∧ (st51.receives Port.north kCredit (cw kCredit 0 305419896) ∧ (st51.port Port.north).txq = [])
    ∧ rm.receives Port.north kCreditInit (cw kCreditInit 0 305419896)
    ∧ (st52.settled ∧ st52.hears Port.south = true ∧ (st52.port Port.south).txq = [])
    ∧ (rmE.receives Port.south kEvack (cw kEvack 1 1) ∧ rmE.role = Role.member ∧ rmE.bit SPN_POS_VALID = true ∧ cfPos
      (cw kEvack 1 1) = rmE.get SPN_POS_POS ∧ rmE.inTurn (cw kEvack 1 1) 0 ∧ rmE.spn.evLost = 0 ∧ (cfPay (cw kEvack 1
      1) + 1 + 2 ^ 32 - rmE.spn.evBase) % 2 ^ 32 ≤ rmE.spn.evq.length)
    ∧ (rmE.receives Port.south kEvack (cw kEvack 1 4294967295) ∧ cfPos (cw kEvack 1 4294967295) = rmE.get SPN_POS_POS
      ∧ rmE.inTurn (cw kEvack 1 4294967295) 0 ∧ (cfPay (cw kEvack 1 4294967295) + 1 + 2 ^ 32 - rmE.spn.evBase) % 2 ^
      32 ≤ rmE.spn.evq.length)
    ∧ (st53.receives Port.south kEvack (cw kEvack 1 1) ∧ st53.role = Role.member ∧ st53.bit SPN_POS_VALID = true ∧
      cfPos (cw kEvack 1 1) = st53.get SPN_POS_POS ∧ st53.inTurn (cw kEvack 1 1) 0 ∧ st53.spn.evLost = 0 ∧ (cfPay (cw
      kEvack 1 1) + 1 + 2 ^ 32 - st53.spn.evBase) % 2 ^ 32 ≤ st53.spn.evq.length)
    ∧ (rm.receives Port.south kRoute (cw kRoute 1 2684354560) ∧ rm.role = Role.member ∧ rm.bit SPN_POS_VALID = true ∧
      cfPos (cw kRoute 1 2684354560) = rm.get SPN_POS_POS ∧ rm.inTurn (cw kRoute 1 2684354560) 0)
    ∧ (rm.receives Port.south kSync (cw kSync 1 305397765) ∧ cfPos (cw kSync 1 305397765) = rm.get SPN_POS_POS ∧
      rm.inTurn (cw kSync 1 305397765) 0 ∧ bitsNat (cfPay (cw kSync 1 305397765)) 15 0 = rm.get SPN_POS_HID) := by
  and_intros <;> decide +kernel

theorem witness_EnumerationFramesAndNoticesComplete :
    ((linked mem).receives Port.south kEnum (cw kEnum 0 (3 * 2 ^ 26 + 7 * 2 ^ 16 + 9)) ∧ (linked mem).role =
      Role.member ∧ ((linked mem).bit SPN_POS_BOUND = false ∨ (linked mem).get SPN_POS_HID = bitsNat (cfPay (cw
      kEnum 0 (3 * 2 ^ 26 + 7 * 2 ^ 16 + 9))) 15 0) ∧ bitsNat (cfPay (cw kEnum 0 (3 * 2 ^ 26 + 7 * 2 ^ 16 + 9))) 24
      24 = 0 ∧ bitsNat (cfPay (cw kEnum 0 (3 * 2 ^ 26 + 7 * 2 ^ 16 + 9))) 25 25 = 0 ∧ ((linked mem).bit
      SPN_POS_VALID = false ∨ (linked mem).get SPN_POS_EID ≠ bitsNat (cfPay (cw kEnum 0 (3 * 2 ^ 26 + 7 * 2 ^ 16 +
      9))) 23 16) ∧ (linked mem).pw.heldDoze = false ∧ ((linked mem).aliveMissed 0 kEnum (cfAlive (cw kEnum 0 (3 * 2
      ^ 26 + 7 * 2 ^ 16 + 9)))).isSome = true)
    ∧ ((rm.put SPN_POS_EID 4).receives Port.south kEnum (cw kEnum 0 (63 * 2 ^ 26 + 7 * 2 ^ 16 + 5)) ∧ (rm.put
      SPN_POS_EID 4).role = Role.member ∧ ((rm.put SPN_POS_EID 4).bit SPN_POS_BOUND = false ∨ (rm.put SPN_POS_EID
      4).get SPN_POS_HID = bitsNat (cfPay (cw kEnum 0 (63 * 2 ^ 26 + 7 * 2 ^ 16 + 5))) 15 0) ∧ bitsNat (cfPay (cw
      kEnum 0 (63 * 2 ^ 26 + 7 * 2 ^ 16 + 5))) 24 24 = 0 ∧ bitsNat (cfPay (cw kEnum 0 (63 * 2 ^ 26 + 7 * 2 ^ 16 +
      5))) 25 25 = 0 ∧ ((rm.put SPN_POS_EID 4).bit SPN_POS_VALID = false ∨ (rm.put SPN_POS_EID 4).get SPN_POS_EID ≠
      bitsNat (cfPay (cw kEnum 0 (63 * 2 ^ 26 + 7 * 2 ^ 16 + 5))) 23 16) ∧ (rm.put SPN_POS_EID 4).pw.heldDoze =
      false ∧ ((rm.put SPN_POS_EID 4).aliveMissed 0 kEnum (cfAlive (cw kEnum 0 (63 * 2 ^ 26 + 7 * 2 ^ 16 +
      5)))).isSome = true)
    ∧ (rm.receives Port.north kEnum (cw kEnum 0 (63 * 2 ^ 26 + 7 * 2 ^ 16 + 6)) ∧ rm.role = Role.member ∧ rm.bit
      SPN_POS_BOUND = true ∧ rm.get SPN_POS_HID ≠ bitsNat (cfPay (cw kEnum 0 (63 * 2 ^ 26 + 7 * 2 ^ 16 + 6))) 15 0)
    ∧ ((hedE EnumPhase.north).receives Port.north kNotice (cw kNotice 2 (6 * 2 ^ 28 + 2 * 2 ^ 26 + 77)) ∧ (hedE
      EnumPhase.north).role = Role.head ∧ ((hedE EnumPhase.north).newSender (cw kNotice 2 (6 * 2 ^ 28 + 2 * 2 ^ 26 +
      77))).inTurn (cw kNotice 2 (6 * 2 ^ 28 + 2 * 2 ^ 26 + 77)) (cfPos (cw kNotice 2 (6 * 2 ^ 28 + 2 * 2 ^ 26 +
      77))) ∧ bitsNat (cfPay (cw kNotice 2 (6 * 2 ^ 28 + 2 * 2 ^ 26 + 77))) 31 28 = 6 ∧ (hedE
      EnumPhase.north).hd.enum = some (EnumRun.mk EnumPhase.north [] [] []) ∧ bitsNat (cfPay (cw kNotice 2 (6 * 2 ^
      28 + 2 * 2 ^ 26 + 77))) 23 16 = (hedE EnumPhase.north).get SPN_ENUM_EID ∧ (EnumRun.mk EnumPhase.north [] []
      []).phase = EnumPhase.north ∧ bitsNat (cfPay (cw kNotice 2 (6 * 2 ^ 28 + 2 * 2 ^ 26 + 77))) 25 25 = 0)
    ∧ ((hedE EnumPhase.south).receives Port.south kNotice (cw kNotice 2 (6 * 2 ^ 28 + 2 * 2 ^ 26 + 77)) ∧ (hedE
      EnumPhase.south).role = Role.head ∧ ((hedE EnumPhase.south).newSender (cw kNotice 2 (6 * 2 ^ 28 + 2 * 2 ^ 26 +
      77))).inTurn (cw kNotice 2 (6 * 2 ^ 28 + 2 * 2 ^ 26 + 77)) (cfPos (cw kNotice 2 (6 * 2 ^ 28 + 2 * 2 ^ 26 +
      77))) ∧ (hedE EnumPhase.south).hd.enum = some (EnumRun.mk EnumPhase.south [] [] []) ∧ bitsNat (cfPay (cw
      kNotice 2 (6 * 2 ^ 28 + 2 * 2 ^ 26 + 77))) 23 16 = (hedE EnumPhase.south).get SPN_ENUM_EID ∧ (EnumRun.mk
      EnumPhase.south [] [] []).phase = EnumPhase.south ∧ bitsNat (cfPay (cw kNotice 2 (6 * 2 ^ 28 + 2 * 2 ^ 26 +
      77))) 24 24 = 0)
    ∧ ((hedE EnumPhase.check).receives Port.north kNotice (cw kNotice 2 (6 * 2 ^ 28 + 2 * 2 ^ 26 + 77 + 2 ^ 15)) ∧
      (hedE EnumPhase.check).role = Role.head ∧ ((hedE EnumPhase.check).newSender (cw kNotice 2 (6 * 2 ^ 28 + 2 * 2
      ^ 26 + 77 + 2 ^ 15))).inTurn (cw kNotice 2 (6 * 2 ^ 28 + 2 * 2 ^ 26 + 77 + 2 ^ 15)) (cfPos (cw kNotice 2 (6 *
      2 ^ 28 + 2 * 2 ^ 26 + 77 + 2 ^ 15))) ∧ bitsNat (cfPay (cw kNotice 2 (6 * 2 ^ 28 + 2 * 2 ^ 26 + 77 + 2 ^ 15)))
      31 28 = 6 ∧ (hedE EnumPhase.check).hd.enum = some (EnumRun.mk EnumPhase.check [] [] []) ∧ bitsNat (cfPay (cw
      kNotice 2 (6 * 2 ^ 28 + 2 * 2 ^ 26 + 77 + 2 ^ 15))) 23 16 = (hedE EnumPhase.check).get SPN_ENUM_EID ∧
      (EnumRun.mk EnumPhase.check [] [] []).phase = EnumPhase.check)
    ∧ (hedM.receives Port.north kNotice (cw kNotice 2 (1 * 2 ^ 28)) ∧ hedM.role = Role.head ∧ bitsNat (cfPay (cw
      kNotice 2 (1 * 2 ^ 28))) 31 28 = 1 ∧ hedM.inTurn (cw kNotice 2 (1 * 2 ^ 28)) (cfPos (cw kNotice 2 (1 * 2 ^
      28))) ∧ hedM.hif.runs = [])
    ∧ (hedM.receives Port.north kNotice (cw kNotice 2 (2 * 2 ^ 28 + 2 ^ 27)) ∧ bitsNat (cfPay (cw kNotice 2 (2 * 2 ^
      28 + 2 ^ 27))) 31 28 = 2 ∧ hedM.inTurn (cw kNotice 2 (2 * 2 ^ 28 + 2 ^ 27)) (cfPos (cw kNotice 2 (2 * 2 ^ 28 +
      2 ^ 27))))
    ∧ (hedM.receives Port.north kNotice (cw kNotice 2 (3 * 2 ^ 28 + 2 ^ 27)) ∧ bitsNat (cfPay (cw kNotice 2 (3 * 2 ^
      28 + 2 ^ 27))) 31 28 = 3 ∧ hedM.inTurn (cw kNotice 2 (3 * 2 ^ 28 + 2 ^ 27)) (cfPos (cw kNotice 2 (3 * 2 ^ 28 +
      2 ^ 27))) ∧ hedM.hif.runs = [])
    ∧ (st54.receives Port.north kNotice (cw kNotice 0 (4 * 2 ^ 28 + 85)) ∧ st54.role = Role.head ∧ bitsNat (cfPay
      (cw kNotice 0 (4 * 2 ^ 28 + 85))) 31 28 = 4 ∧ bitsNat (cfPay (cw kNotice 0 (4 * 2 ^ 28 + 85))) 15 0 ∈
      st54.hd.unnum)
    ∧ (hedM.receives Port.north kNotice (cw kNotice 0 (4 * 2 ^ 28 + 85)) ∧ bitsNat (cfPay (cw kNotice 0 (4 * 2 ^ 28
      + 85))) 15 0 ∉ hedM.hd.unnum)
    ∧ (hedM.receives Port.north kNotice (cw kNotice 2 (5 * 2 ^ 28 + 85)) ∧ bitsNat (cfPay (cw kNotice 2 (5 * 2 ^ 28
      + 85))) 31 28 = 5 ∧ hedM.inTurn (cw kNotice 2 (5 * 2 ^ 28 + 85)) (cfPos (cw kNotice 2 (5 * 2 ^ 28 + 85))) ∧
      hedM.outstanding (cfPos (cw kNotice 2 (5 * 2 ^ 28 + 85))) = none)
    ∧ (hedR.receives Port.north kNotice (cw kNotice 2 (5 * 2 ^ 28 + 85)) ∧ hedR.role = Role.head ∧ bitsNat (cfPay
      (cw kNotice 2 (5 * 2 ^ 28 + 85))) 31 28 = 5 ∧ hedR.inTurn (cw kNotice 2 (5 * 2 ^ 28 + 85)) (cfPos (cw kNotice
      2 (5 * 2 ^ 28 + 85))) ∧ (hedR.outstanding (cfPos (cw kNotice 2 (5 * 2 ^ 28 + 85)))).isSome = true)
    ∧ (st127.receives Port.south kEnum (cw kEnum 0 (63 * 2 ^ 26 + 7 * 2 ^ 16 + 5)) ∧ st127.role = Role.member ∧
      (st127.bit SPN_POS_BOUND = false ∨ st127.get SPN_POS_HID = bitsNat (cfPay (cw kEnum 0 (63 * 2 ^ 26 + 7 * 2 ^
      16 + 5))) 15 0) ∧ bitsNat (cfPay (cw kEnum 0 (63 * 2 ^ 26 + 7 * 2 ^ 16 + 5))) 24 24 = 0 ∧ st127.aliveMissed 0
      kEnum (cfAlive (cw kEnum 0 (63 * 2 ^ 26 + 7 * 2 ^ 16 + 5))) = none) := by
  and_intros <;> decide +kernel

theorem witness_MemberCommandsComplete :
    (rm.receivesCommand Port.south (cx 1 1 2 147456 []) ∧ rm.bit SPN_CMD_SYNCWAIT = false ∧ (cx 1 1 2 147456 []).tag %
      65536 = (rm.get SPN_CMD_LAST + 1) % 65536 ∧ payNat (cx 1 1 2 147456 []) 0 1 = 1)
    ∧ (rm.receivesCommand Port.south (cx 1 4 2 16777216 []) ∧ (cx 1 4 2 16777216 []).tag % 65536 = (rm.get
      SPN_CMD_LAST + 1) % 65536 ∧ payNat (cx 1 4 2 16777216 []) 0 1 = 4)
    ∧ (rm.receivesCommand Port.south (cx 1 7 2 147456 []) ∧ (cx 1 7 2 147456 []).tag % 65536 = (rm.get SPN_CMD_LAST +
      1) % 65536 ∧ ¬(1 ≤ payNat (cx 1 7 2 147456 []) 0 1 ∧ payNat (cx 1 7 2 147456 []) 0 1 ≤ 4))
    ∧ (rm.receivesCommand Port.south (cx 1 2 1 32772 (leBytes 4 5)) ∧ (cx 1 2 1 32772 (leBytes 4 5)).tag % 65536 =
      (rm.get SPN_CMD_LAST + 1) % 65536 ∧ payNat (cx 1 2 1 32772 (leBytes 4 5)) 0 1 = 2 ∧ payNat (cx 1 2 1 32772
      (leBytes 4 5)) 1 1 = 1 ∧ payNat (cx 1 2 1 32772 (leBytes 4 5)) 4 4 = 32772 ∧ wordsOf 1 (List.drop 8 (cx 1 2 1
      32772 (leBytes 4 5)).payload) = [5#32] ∧ (rm.tookTag Port.south (cx 1 2 1 32772 (leBytes 4 5))).regAt 32772 =
      some (locOf 32772) ∧ (rm.tookTag Port.south (cx 1 2 1 32772 (leBytes 4 5))).blkReg 3840 32772 = none ∧
      (rm.tookTag Port.south (cx 1 2 1 32772 (leBytes 4 5))).blkReg 3844 32772 = none ∧ stagedView 32772 = false ∧
      (locOf 32772).acts = false ∧ (∀ f ∈ (locOf 32772).row.fields, (rm.tookTag Port.south (cx 1 2 1 32772 (leBytes 4
      5))).fieldLocked (locOf 32772) f = false))
    ∧ (rmC.receivesCommand Port.south (cx 1 2 1 32772 (leBytes 4 5)) ∧ rmC.bit SPN_CMD_SYNCWAIT = false ∧ (cx 1 2 1
      32772 (leBytes 4 5)).tag % 65536 = (rmC.get SPN_CMD_LAST + 1) % 65536 ∧ (rmC.tookTag Port.south (cx 1 2 1 32772
      (leBytes 4 5))).regAt 32772 = some (locOf 32772) ∧ (rmC.tookTag Port.south (cx 1 2 1 32772 (leBytes 4
      5))).blkReg 3840 32772 = none ∧ (rmC.tookTag Port.south (cx 1 2 1 32772 (leBytes 4 5))).blkReg 3844 32772 = none
      ∧ (∀ f ∈ (locOf 32772).row.fields, (rmC.tookTag Port.south (cx 1 2 1 32772 (leBytes 4 5))).fieldLocked (locOf
      32772) f = false))
    ∧ (rm.receivesCommand Port.south st55 ∧ st55.tag % 65536 = (rm.get SPN_CMD_LAST + 1) % 65536 ∧ payNat st55 0 1 = 3
      ∧ payNat st55 1 1 = 1 ∧ pairsOf 1 (List.drop 8 st55.payload) = [(16396, 1114197#32)] ∧ (rm.tookTag Port.south
      st55).regAt 16396 = some (locOf 16396) ∧ (rm.tookTag Port.south st55).blkReg 3840 16396 = none ∧ (rm.tookTag
      Port.south st55).blkReg 3844 16396 = none ∧ stagedView 16396 = false ∧ (locOf 16396).acts = false ∧ (∀ f ∈
      (locOf 16396).row.fields, (rm.tookTag Port.south st55).fieldLocked (locOf 16396) f = false)) := by
  and_intros <;> decide +kernel

theorem witness_CommandCounterRule :
    ((rm.put SPN_CMD_SYNCWAIT 1).receivesCommand Port.south (cx 1 1 2 147456 []) ∧ payNat (cx 1 1 2 147456 []) 0 1 = 1
      ∧ (rm.put SPN_CMD_SYNCWAIT 1).bit SPN_CMD_SYNCWAIT = true)
    ∧ (rm.receivesCommand Port.south (cx 2 1 2 147456 []) ∧ payNat (cx 2 1 2 147456 []) 0 1 = 1 ∧ rm.bit
      SPN_CMD_SYNCWAIT = false ∧ (cx 2 1 2 147456 []).tag % 65536 ≠ (rm.get SPN_CMD_LAST + 1) % 65536 ∧ (cx 2 1 2
      147456 []).tag % 65536 ≠ rm.get SPN_CMD_LAST)
    ∧ (st56.receivesCommand Port.south (cx 0 1 2 147456 []) ∧ payNat (cx 0 1 2 147456 []) 0 1 = 1 ∧ st56.bit
      SPN_CMD_SYNCWAIT = false ∧ (cx 0 1 2 147456 []).tag % 65536 = st56.get SPN_CMD_LAST ∧ st56.spn.kept = some
      (KeptResp.mk 0 (leBytes 8 1 ++ leBytes 4 77)) ∧ (KeptResp.mk 0 (leBytes 8 1 ++ leBytes 4 77)).tag = (cx 0 1 2
      147456 []).tag % 65536)
    ∧ (rm.settled ∧ rm.hears Port.south = true ∧ rm.role = Role.member ∧ st57.ftype = 241 ∧ st57.dir = false ∧ payNat
      st57 0 1 = 1 ∧ rm.bit SPN_POS_VALID = true ∧ st57.pos = rm.get SPN_POS_POS ∧ st57.crc ≠ xCrc st57 st57.pos
      (rm.cmdSeq st57)) := by
  and_intros <;> decide +kernel

theorem witness_ExtendedFramesComplete :
    (rm.settled ∧ rm.hears Port.south = true ∧ rm.role = Role.member ∧ rm.awake ∧ (bx 9 []).ftype = 243 ∧ (bx 9
      []).dir = false ∧ rm.pstate (otherPort Port.south) ≠ pDown ∧ rm.bit SPN_POS_VALID = true ∧ (bx 9 []).crc =
      xCrc (bx 9 []) 64 (xSeqOf (bx 9 []) rm.spn.expB) ∧ seqBefore (xSeqOf (bx 9 []) rm.spn.expB) rm.spn.expB =
      false ∧ payNat (bx 9 []) 0 1 ≠ 2 ∧ payNat (bx 9 []) 0 1 ≠ 3)
    ∧ (rmC.settled ∧ rmC.hears Port.south = true ∧ rmC.role = Role.member ∧ rmC.awake ∧ (bx 2 (leBytes 4 5)).ftype =
      243 ∧ (bx 2 (leBytes 4 5)).dir = false ∧ rmC.pstate (otherPort Port.south) ≠ pDown ∧ rmC.bit SPN_POS_VALID =
      true ∧ (bx 2 (leBytes 4 5)).crc = xCrc (bx 2 (leBytes 4 5)) 64 (xSeqOf (bx 2 (leBytes 4 5)) rmC.spn.expB) ∧
      seqBefore (xSeqOf (bx 2 (leBytes 4 5)) rmC.spn.expB) rmC.spn.expB = false ∧ payNat (bx 2 (leBytes 4 5)) 0 1 =
      2 ∧ payNat (bx 2 (leBytes 4 5)) 1 1 = 1 ∧ payNat (bx 2 (leBytes 4 5)) 4 4 = 32772 ∧ wordsOf 1 (List.drop 8 (bx
      2 (leBytes 4 5)).payload) = [5#32] ∧ rmC.regAt 32772 = some (locOf 32772) ∧ rmC.blkReg 3840 32772 = none ∧
      rmC.blkReg 3844 32772 = none ∧ stagedView 32772 = false ∧ (locOf 32772).acts = false ∧ (∀ f ∈ (locOf
      32772).row.fields, rmC.fieldLocked (locOf 32772) f = false))
    ∧ (rm.hears Port.north = true ∧ (xf 242 2 true 0 0 [1, 2]).dir = true ∧ rm.pstate (otherPort Port.north) ≠ pDown
      ∧ (xf 242 2 true 0 0 [1, 2]).ftype = 242)
    ∧ ((xf 244 2 true 0 0 [1, 2]).dir = true ∧ (xf 244 2 true 0 0 [1, 2]).ftype = 244)
    ∧ ((xf 245 2 true 0 0 [1, 2]).dir = true ∧ (xf 245 2 true 0 0 [1, 2]).ftype = 245)
    ∧ (hedR.settled ∧ hedR.hears Port.north = true ∧ hedR.role = Role.head ∧ st58.dir = true ∧ hedR.member st58.pos
      = some (mb 2) ∧ st58.ftype = 242 ∧ st58.crc = xCrc st58 st58.pos (xSeqOf st58 (mb 2).exp1) ∧ seqBefore (xSeqOf
      st58 (mb 2).exp1) (mb 2).exp1 = false ∧ st58.more = true ∧ hedR.outstanding st58.pos = some rn ∧ rn.tag =
      st58.tag % 65536)
    ∧ (st59.dir = true ∧ hedR.member st59.pos = some (mb 2) ∧ st59.ftype = 244 ∧ st59.crc = xCrc st59 st59.pos (mb
      2).exp2 ∧ xSeqOf st59 (mb 2).exp2 = (mb 2).exp2 ∧ (mb 2).exp2 < 2 ^ 32 ∧ (mb 2).ahead = [] ∧
      hedR.hif.evq.length < 4096)
    ∧ (st60.dir = true ∧ hedR.member st60.pos = some (mb 2) ∧ st60.ftype = 245 ∧ st60.crc = xCrc st60 st60.pos
      (xSeqOf st60 (mb 2).exp3) ∧ seqBefore (xSeqOf st60 (mb 2).exp3) (mb 2).exp3 = false ∧ st60.more = true ∧
      st60.tag = 0)
    ∧ ((linked mem).settled ∧ (linked mem).hears Port.south = true ∧ (linked mem).role = Role.member ∧ (bx 9
      []).ftype = 243 ∧ (bx 9 []).dir = false ∧ (linked mem).pstate (otherPort Port.south) ≠ pDown ∧ (linked
      mem).bit SPN_POS_VALID = false) := by
  and_intros <;> decide +kernel

theorem witness_SpindleTimersComplete :
    (hedR.runs ∧ hedR.role = Role.head ∧ hedR.outstanding 2 = some rn ∧ hedR.member 2 = some (mb 2) ∧ rn.retries <
      hedR.get SPN_RCFG_RETRY ∧ rn.acts = [Act.rd 147456 1 false])
    ∧ ((hedR.put SPN_RCFG_RETRY 0).runs ∧ (hedR.put SPN_RCFG_RETRY 0).role = Role.head ∧ (hedR.put SPN_RCFG_RETRY
      0).outstanding 2 = some rn ∧ (hedR.put SPN_RCFG_RETRY 0).member 2 = some (mb 2) ∧ (hedR.put SPN_RCFG_RETRY
      0).get SPN_RCFG_RETRY ≤ rn.retries ∧ (hedR.put SPN_RCFG_RETRY 0).hif.runs = [rn])
    ∧ (rmE.settled ∧ rmE.spn.evq ≠ [])
    ∧ (rm.settled ∧ rm.spn.evq = [])
    ∧ (hedA.runs ∧ hedA.role = Role.head ∧ hedA.member 2 = some mA ∧ mA.exp2 ≠ 0 ∧ hedA.hif.evq.length < 4096)
    ∧ (hedM.accepts SPN_ENUM_GO ∧ hedM.role = Role.head ∧ hedM.enumerates = false)
    ∧ ((hedE EnumPhase.wait).settled ∧ (hedE EnumPhase.wait).hd.enum = some (EnumRun.mk EnumPhase.wait [] [] []) ∧
      (EnumRun.mk EnumPhase.wait [] [] []).phase = EnumPhase.wait ∧ (hedE EnumPhase.wait).linkUp Port.north = true ∧
      (hedE EnumPhase.wait).bit (SPN_PORT_LEG Port.north) = false)
    ∧ ((hedE EnumPhase.check).settled ∧ (hedE EnumPhase.check).hd.enum = some (EnumRun.mk EnumPhase.check [] [] [])
      ∧ (EnumRun.mk EnumPhase.check [] [] []).phase = EnumPhase.check ∧ (hedE EnumPhase.check).hd.rebuild = false ∧
      (EnumRun.mk EnumPhase.check [] [] []).notices = [] ∧ (hedE EnumPhase.check).hif.runs = [])
    ∧ ((hedE EnumPhase.north).settled ∧ (hedE EnumPhase.north).hd.enum = some (EnumRun.mk EnumPhase.north [] [] [])
      ∧ (EnumRun.mk EnumPhase.north [] [] []).phase = EnumPhase.north ∧ (hedE EnumPhase.north).linkUp Port.south =
      true ∧ (hedE EnumPhase.north).bit (SPN_PORT_LEG Port.south) = false)
    ∧ ((hedM.put SPN_RING_RWAIT 1).runs ∧ (hedM.put SPN_RING_RWAIT 1).role = Role.head ∧ (hedM.put SPN_RING_RWAIT
      1).bit SPN_RING_RWAIT = true ∧ (hedM.put SPN_RING_RWAIT 1).hd.enum = none ∧ (hedM.put SPN_RING_RWAIT
      1).hd.rebuild = false)
    ∧ ((linked mem).runs ∧ (linked mem).role = Role.member ∧ (linked mem).bit SPN_POS_VALID = false ∧ (linked
      mem).inLegacy = false)
    ∧ ((hedE EnumPhase.check).accepts SPN_ENUM_GO ∧ (hedE EnumPhase.check).enumerates = false) := by
  and_intros <;> decide +kernel

theorem witness_DescriptorsToMembersComplete :
    (hosted.settled ∧ hosted.role = Role.head ∧ hosted.takes 0 = true ∧ hosted.hif.runs = [] ∧ hosted.hd.enum = none
      ∧ hosted.hd.rebuild = false ∧ ds.rsvd1 = false ∧ ds.rsvd4 = false ∧ ds.bcast = false ∧ ds.pos % 64 ≠ 0 ∧
      hosted.member (ds.pos % 64) = some (mf 2) ∧ hosted.lost (ds.pos % 64) = false)
    ∧ (hosted1.settled ∧ hosted1.role = Role.head ∧ hosted1.takes 1 = true ∧ hosted1.hif.runs = [] ∧ hosted1.hd.enum
      = none ∧ hosted1.hd.rebuild = false ∧ hosted1.member (ds.pos % 64) = some (mf 2) ∧ hosted1.lost (ds.pos % 64)
      = false)
    ∧ (1 ≤ ds.count ∧ ds.count ≤ 32)
    ∧ (st61.rsvd1 = false ∧ st61.rsvd4 = false ∧ st61.bcast = false ∧ st61.pos % 64 ≠ 0 ∧ hosted.member (st61.pos %
      64) = some (mf 2) ∧ hosted.lost (st61.pos % 64) = false ∧ 1 ≤ st61.count ∧ st61.count ≤ 32)
    ∧ ds.count = 1
    ∧ 1 < st61.count
    ∧ (st62.rsvd1 = false ∧ st62.rsvd4 = false ∧ st62.bcast = false ∧ st62.pos % 64 ≠ 0 ∧ hosted.member (st62.pos %
      64) = some (mf 2) ∧ hosted.lost (st62.pos % 64) = false ∧ 1 ≤ st62.count ∧ st62.count ≤ 32 ∧ st62.count ≤ 31)
    ∧ (st63.rsvd1 = false ∧ st63.rsvd4 = false ∧ st63.bcast = false ∧ st63.pos % 64 ≠ 0 ∧ hosted.member (st63.pos %
      64) = some (mf 2) ∧ hosted.lost (st63.pos % 64) = false ∧ 1 ≤ st63.len ∧ st63.len ≤ 256)
    ∧ ds.wait = false
    ∧ (st64.rsvd1 = false ∧ st64.rsvd4 = false ∧ st64.bcast = false ∧ st64.pos % 64 ≠ 0 ∧ hosted.member (st64.pos %
      64) = some (mf 2) ∧ hosted.lost (st64.pos % 64) = false ∧ st64.wait = true)
    ∧ (st65.rsvd1 = false ∧ st65.rsvd4 = false ∧ st65.bcast = false ∧ st65.pos % 64 ≠ 0 ∧ hosted.member (st65.pos %
      64) = some (mf 2) ∧ hosted.lost (st65.pos % 64) = false ∧ (st65.addr = 4194304 ∨ st65.addr = 5242880))
    ∧ (hostedW.settled ∧ hostedW.role = Role.head ∧ hostedW.takes 0 = true ∧ hostedW.hif.runs = [] ∧
      (hostedW.enumerates = true ∨ hostedW.hd.rebuild = true))
    ∧ (hostedE.settled ∧ hostedE.role = Role.head ∧ hostedE.takes 0 = true ∧ hostedE.hif.runs = [] ∧
      (hostedE.enumerates = true ∨ hostedE.hd.rebuild = true)) := by
  and_intros <;> decide +kernel

theorem witness_DescriptorErrorsComplete :
    (hosted.settled ∧ hosted.role = Role.head ∧ hosted.takes 0 = true ∧ hosted.hif.runs = [] ∧ hosted.hd.enum = none
      ∧ hosted.hd.rebuild = false ∧ st66.bcast = true)
    ∧ (st67.bcast = false ∧ st67.rsvd1 = true)
    ∧ (st68.bcast = false ∧ st68.rsvd1 = false ∧ st68.rsvd4 = false ∧ (st68.count = 0 ∨ 32 < st68.count))
    ∧ (st69.bcast = false ∧ st69.rsvd1 = false ∧ st69.rsvd4 = false ∧ (st69.count = 0 ∨ 32 < st69.count))
    ∧ (st70.bcast = false ∧ st70.rsvd1 = false ∧ st70.rsvd4 = false ∧ 1 ≤ st70.count ∧ st70.count ≤ 32 ∧ st70.pos %
      64 ≠ 0 ∧ hosted.member (st70.pos % 64) = none)
    ∧ ((hosted.put SPN_LOSTL 4).settled ∧ (hosted.put SPN_LOSTL 4).role = Role.head ∧ (hosted.put SPN_LOSTL 4).takes
      0 = true ∧ (hosted.put SPN_LOSTL 4).hif.runs = [] ∧ (hosted.put SPN_LOSTL 4).hd.enum = none ∧ (hosted.put
      SPN_LOSTL 4).hd.rebuild = false ∧ ds.bcast = false ∧ ds.rsvd1 = false ∧ ds.rsvd4 = false ∧ 1 ≤ ds.count ∧
      ds.count ≤ 32 ∧ ds.pos % 64 ≠ 0 ∧ ((hosted.put SPN_LOSTL 4).member (ds.pos % 64)).isSome = true ∧ (hosted.put
      SPN_LOSTL 4).lost (ds.pos % 64) = true)
    ∧ (hosted1.settled ∧ hosted1.role = Role.head ∧ hosted1.takes 1 = true ∧ hosted1.hif.runs = [] ∧ hosted1.hd.enum
      = none ∧ hosted1.hd.rebuild = false) := by
  and_intros <;> decide +kernel

theorem witness_StreamBindingDescriptorsComplete :
    (hosted.settled ∧ hosted.role = Role.head ∧ hosted.takes 0 = true ∧ hosted.hif.runs = [] ∧ hosted.hd.enum = none
      ∧ ds.rsvd1 = false ∧ ds.rsvd4 = false ∧ ds.bcast = false ∧ (hosted.consume 0).bindRefusal (bitsOf ds.data 3 0)
      (ds.param % 2 ^ 64) (decide (bitsOf ds.data 8 8 = 1)) (bitsOf ds.data 15 12) = some 4)
    ∧ (st71.rsvd1 = false ∧ st71.rsvd4 = false ∧ st71.bcast = false ∧ (hosted.consume 0).bindRefusal (bitsOf
      st71.data 3 0) (st71.param % 2 ^ 64) (decide (bitsOf st71.data 8 8 = 1)) (bitsOf st71.data 15 12) = some 4)
    ∧ (st72.rsvd1 = false ∧ st72.rsvd4 = false ∧ st72.bcast = false ∧ (hosted.consume 0).bindRefusal (bitsOf
      st72.data 3 0) (st72.param % 2 ^ 64) (decide (bitsOf st72.data 8 8 = 1)) (bitsOf st72.data 15 12) = none)
    ∧ (st73.rsvd1 = false ∧ st73.rsvd4 = false ∧ st73.bcast = false ∧ (hosted.consume 0).bindRefusal (bitsOf
      st73.data 3 0) (st73.param % 2 ^ 64) (decide (bitsOf st73.data 8 8 = 1)) (bitsOf st73.data 15 12) = some 3)
    ∧ (st74.rsvd1 = false ∧ st74.rsvd4 = false ∧ st74.bcast = false)
    ∧ hosted.lathe = true
    ∧ (hostedR.settled ∧ hostedR.hif.runs = [rnB] ∧ rnB.opc = 11 ∧ rnB.started = true)
    ∧ (rnB.sent = false ∧ rnB.acts = [Act.poll 151300 1] ∧ rnB.pos ≠ 0)
    ∧ (hostedR.member rnB.pos = some (mf 2) ∧ hostedR.lost rnB.pos = false)
    ∧ ((hostedR.put SPN_LOSTL 4).settled ∧ (hostedR.put SPN_LOSTL 4).hif.runs = [rnB] ∧ (hostedR.put SPN_LOSTL
      4).member rnB.pos = some (mf 2) ∧ (hostedR.put SPN_LOSTL 4).lost rnB.pos = true) := by
  and_intros <;> decide +kernel

theorem witness_RingCommandsComplete :
    (hed.accepts HIF_CTRL_EN ∧ hed.role = Role.head)
    ∧ (hosted.accepts HIF_CTRL_EN ∧ hosted.role = Role.head)
    ∧ (hosted.ready ∧ hosted.ringEn 2 = false ∧ lsizeOk 2 (bitsOf (4#32) 4 0) = true ∧ ¬(hosted.get HIF_WBL_WB = 0 ∧
      hosted.get HIF_WBH = 0) ∧ hosted.ringEn (compRing 2) = true ∧ (hosted.put (HIF_RCFG_LSIZE 2) (bitsOf (4#32) 4
      0)).hostBytes 2 ≤ 2 ^ 30)
    ∧ (hosted.ringEn 8 = false ∧ lsizeOk 8 (bitsOf (21#32) 4 0) = true ∧ hosted.ringEn (compRing 8) = true ∧
      (hosted.put (HIF_RCFG_LSIZE 8) (bitsOf (21#32) 4 0)).hostBytes 8 ≤ 2 ^ 30)
    ∧ lsizeOk 8 (bitsOf (22#32) 4 0) = false
    ∧ lsizeOk 2 (bitsOf (3#32) 4 0) = false
    ∧ hosted.ringEn 0 = true
    ∧ (hosted.runs ∧ hosted.ringEn 1 = true ∧ (hosted.ring 1).stopped = false ∧ ((16#32).toNat + 2 ^ 32 - (hosted.ring
      1).cidx) % 2 ^ 32 ≤ hosted.ringSize 1 ∧ ((hosted.ring 1).pidx + 2 ^ 32 - (hosted.ring 1).cidx) % 2 ^ 32 ≤
      ((16#32).toNat + 2 ^ 32 - (hosted.ring 1).cidx) % 2 ^ 32)
    ∧ (hosted.ringSize 1 < ((17#32).toNat + 2 ^ 32 - (hosted.ring 1).cidx) % 2 ^ 32 ∨ ((17#32).toNat + 2 ^ 32 -
      (hosted.ring 1).cidx) % 2 ^ 32 < ((hosted.ring 1).pidx + 2 ^ 32 - (hosted.ring 1).cidx) % 2 ^ 32)
    ∧ ((hosted.ring 0).stopped = false ∧ (hosted.ringSize 0 < ((0#32).toNat + 2 ^ 32 - (hosted.ring 0).cidx) % 2 ^ 32
      ∨ ((0#32).toNat + 2 ^ 32 - (hosted.ring 0).cidx) % 2 ^ 32 < ((hosted.ring 0).pidx + 2 ^ 32 - (hosted.ring
      0).cidx) % 2 ^ 32))
    ∧ ((hosted.setRing 9 (RingSt.mk 5 2 false 0 0)).runs ∧ (hosted.setRing 9 (RingSt.mk 5 2 false 0 0)).role =
      Role.head ∧ (hosted.setRing 9 (RingSt.mk 5 2 false 0 0)).ringEn 9 = true ∧ ((hosted.setRing 9 (RingSt.mk 5 2
      false 0 0)).ring 9).stopped = false ∧ ((5#32).toNat + 2 ^ 32 - ((hosted.setRing 9 (RingSt.mk 5 2 false 0
      0)).ring 9).cidx) % 2 ^ 32 ≤ (((hosted.setRing 9 (RingSt.mk 5 2 false 0 0)).ring 9).pidx + 2 ^ 32 -
      ((hosted.setRing 9 (RingSt.mk 5 2 false 0 0)).ring 9).cidx) % 2 ^ 32)
    ∧ ((hosted.setRing 17 (RingSt.mk 5 2 false 0 0)).runs ∧ (hosted.setRing 17 (RingSt.mk 5 2 false 0 0)).role =
      Role.head ∧ (hosted.setRing 17 (RingSt.mk 5 2 false 0 0)).ringEn 17 = true ∧ ((hosted.setRing 17 (RingSt.mk 5 2
      false 0 0)).ring 17).stopped = false ∧ (((hosted.setRing 17 (RingSt.mk 5 2 false 0 0)).ring 17).pidx + 2 ^ 32 -
      ((hosted.setRing 17 (RingSt.mk 5 2 false 0 0)).ring 17).cidx) % 2 ^ 32 < ((6#32).toNat + 2 ^ 32 -
      ((hosted.setRing 17 (RingSt.mk 5 2 false 0 0)).ring 17).cidx) % 2 ^ 32)
    ∧ ((hosted.setRing 17 (RingSt.mk 5 2 false 1 0)).settled ∧ (hosted.setRing 17 (RingSt.mk 5 2 false 1 0)).ringEn 17
      = true ∧ 0 < ((hosted.setRing 17 (RingSt.mk 5 2 false 1 0)).ring 17).unsig)
    ∧ (((ringOn hosted 33 18).put HIF_STAT_DMAERR 1).settled ∧ ((ringOn hosted 33 18).put HIF_STAT_DMAERR 1).role =
      Role.head ∧ ((ringOn hosted 33 18).put HIF_STAT_DMAERR 1).ringEn 33 = true ∧ ((ringOn hosted 33 18).put
      HIF_STAT_DMAERR 1).hif.runs = [] ∧ ((ringOn hosted 33 18).put HIF_STAT_DMAERR 1).bit HIF_STAT_DMAERR = true)
    ∧ ((hosted.put HIF_STAT_DMAERR 1).settled ∧ (hosted.put HIF_STAT_DMAERR 1).role = Role.head ∧ (hosted.put
      HIF_STAT_DMAERR 1).ringEn 0 = true ∧ (hosted.put HIF_STAT_DMAERR 1).hif.runs = [] ∧ (hosted.put HIF_STAT_DMAERR
      1).bit HIF_STAT_DMAERR = true) := by
  and_intros <;> decide +kernel

theorem witness_HostQueuesComplete :
    (st75.settled ∧ st75.hif.evq = [ev 3] ∧ st75.hif.evFullDue = false ∧ st75.eventRoom = true)
    ∧ (st76.settled ∧ st76.hif.held = [HeldComp.mk 0 5 2 3 9] ∧ compRing (HeldComp.mk 0 5 2 3 9).ring = 9 + 0 ∧
      st76.ringLive (9 + 0) = true ∧ 0 < st76.ringFree (9 + 0))
    ∧ (st77.settled ∧ st77.role = Role.head)
    ∧ ((hostedR.put (HIF_SBST_FMT 2) 1).settled ∧ (hostedR.put (HIF_SBST_FMT 2) 1).role = Role.head)
    ∧ (hosted.settled ∧ hosted.role = Role.head)
    ∧ (st78.settled ∧ st78.role = Role.head ∧ st78.hif.compq = [] ∧ st78.hif.evq = [] ∧ st78.hif.evFullDue = false) := by
  and_intros <;> decide +kernel

theorem witness_HeadTimeSourcesComplete :
    ((hedT 1 1 1).settled ∧ (hedT 1 1 1).headTb = true ∧ (hedT 1 1 1).get TB_CFG_SRC = 1 ∧ (hedT 1 1 1).get
      TB_STAT_ACT = 1 ∧ (hedT 1 1 1).tb.step = none ∧ (hedT 1 1 1).tq ≠ tqUnset ∧ |(256100 : ℤ) - (256 : ℤ) * ((1000
      : ℤ) + toSigned 64 ((hedT 1 1 1).get64 TB_PTMOFSL TB_PTMOFSH))| ≤ ↑((hedT 1 1 1).get TB_CFG_STEPLIM * 10000 *
      256) ∧ |(256100 : ℤ) - (256 : ℤ) * ((1000 : ℤ) + toSigned 64 ((hedT 1 1 1).get64 TB_PTMOFSL TB_PTMOFSH))| ≤
      (51200 : ℤ) ∧ (hedT 1 1 1).tb.good < 15)
    ∧ (st79.settled ∧ st79.headTb = true ∧ st79.get TB_CFG_SRC = 1 ∧ st79.get TB_STAT_ACT = 1 ∧ st79.tb.step = none
      ∧ st79.tq ≠ tqUnset ∧ |(256100 : ℤ) - (256 : ℤ) * ((1000 : ℤ) + toSigned 64 (st79.get64 TB_PTMOFSL
      TB_PTMOFSH))| ≤ ↑(st79.get TB_CFG_STEPLIM * 10000 * 256) ∧ |(256100 : ℤ) - (256 : ℤ) * ((1000 : ℤ) + toSigned
      64 (st79.get64 TB_PTMOFSL TB_PTMOFSH))| ≤ (51200 : ℤ) ∧ 15 ≤ st79.tb.good)
    ∧ (|(256000 : ℤ) + (51201 : ℤ) - (256 : ℤ) * ((1000 : ℤ) + toSigned 64 ((hedT 1 1 1).get64 TB_PTMOFSL
      TB_PTMOFSH))| ≤ ↑((hedT 1 1 1).get TB_CFG_STEPLIM * 10000 * 256) ∧ (51200 : ℤ) < |(256000 : ℤ) + (51201 : ℤ) -
      (256 : ℤ) * ((1000 : ℤ) + toSigned 64 ((hedT 1 1 1).get64 TB_PTMOFSL TB_PTMOFSH))| ∧ (hedT 1 1 1).tq ≠
      tqLocked)
    ∧ ((hedT 1 1 3).settled ∧ (hedT 1 1 3).role = Role.head ∧ (hedT 1 1 3).get TB_CFG_SRC = 1 ∧ (hedT 1 1 3).get
      TB_STAT_ACT = 1 ∧ (hedT 1 1 3).tq = tqLocked)
    ∧ ((hedT 1 1 1).role = Role.head ∧ (hedT 1 1 1).tq = tqFree)
    ∧ (st80.settled ∧ st80.headTb = true ∧ st80.get TB_CFG_SRC = 2 ∧ st80.get TB_STAT_ACT = 2 ∧ st80.tb.lastEdge =
      some (5 : ℤ) ∧ (256000000 : ℤ) < |(512000000000 : ℤ) - ((5 : ℤ) + (256000000000 : ℤ))|)
    ∧ (|(256256000005 : ℤ) - ((5 : ℤ) + (256000000000 : ℤ))| ≤ (256000000 : ℤ) ∧ st80.tb.tod = none)
    ∧ (st81.settled ∧ st81.headTb = true ∧ st81.get TB_CFG_SRC = 2 ∧ st81.get TB_STAT_ACT = 2 ∧ st81.tb.lastEdge =
      none ∧ st81.tb.tod = some 7 ∧ st81.tb.step = none ∧ st81.tq ≠ tqUnset ∧ |(7 : ℤ) * (256000000000 : ℤ) + (51200
      : ℤ) - ↑(7 * 1000000000 * 256)| ≤ ↑(st81.get TB_CFG_STEPLIM * 10000 * 256) ∧ |(7 : ℤ) * (256000000000 : ℤ) +
      (51200 : ℤ) - ↑(7 * 1000000000 * 256)| ≤ (51200 : ℤ) ∧ st81.tb.good < 15)
    ∧ ((hedT 2 2 3).settled ∧ (hedT 2 2 3).role = Role.head ∧ (hedT 2 2 3).get TB_CFG_SRC = 2 ∧ (hedT 2 2 3).get
      TB_STAT_ACT = 2)
    ∧ ((hedT 2 2 1).settled ∧ (hedT 2 2 1).role = Role.head ∧ (hedT 2 2 1).get TB_CFG_SRC = 2 ∧ (hedT 2 2 1).get
      TB_STAT_ACT = 2)
    ∧ (st128.settled ∧ st128.headTb = true ∧ st128.get TB_CFG_SRC = 1 ∧ st128.get TB_STAT_ACT = 1 ∧ st128.tq =
      tqLocked ∧ 51200 < |(256000 : ℤ) + (51201 : ℤ) - (256 : ℤ) * ((1000 : ℤ) + toSigned 64 (st128.get64 TB_PTMOFSL
      TB_PTMOFSH))|) := by
  and_intros <;> decide +kernel

theorem witness_TimeSettingCompletes :
    (hed.settled ∧ hed.role = Role.head ∧ 1700000000 < 2 ^ 64 ∧ 100 ≤ 100 ∧ 100 ≤
      900 ∧ (hed.tb.lastSec = none ∨ ∃ l, hed.tb.lastSec = some l ∧ 1700000000 = l + 1))
    ∧ 900 ≤ 900
    ∧ (99 < 100 ∨ 900 < 99)
    ∧ (901 < 100 ∨ 900 < 901)
    ∧ (st82.settled ∧ st82.role = Role.head ∧ 7 < 2 ^ 64 ∧ st82.tb.lastSec = some 5 ∧ 7
      ≠ 5 + 1)
    ∧ (255 : BitVec 8) ≠ crc8 ([(84 : BitVec 8), (1 : BitVec 8)] ++ List.map (fun i => BitVec.ofNat
      8 (7 / 256 ^ i)) (List.range 8) ++ [(1 : BitVec 8)])
    ∧ (hed.accepts TB_TODH ∧ 100 ≤ 500 ∧ 500 ≤ 900 ∧ (hed.tb.lastSec = none ∨ ∃ l,
      hed.tb.lastSec = some l ∧ BitVec.toNat (7 : Word) + 2 ^ 32 * BitVec.toNat (1 : Word) = l + 1))
    ∧ ((hedT 0 0 1).accepts TB_SETH ∧ (hedT 0 0 1).headTb = true ∧ ((hedT 0
      0 1).get TB_CFG_SRC = 0 ∨ (hedT 0 0 1).tq = tqUnset))
    ∧ ((hedT 1 0 0).accepts TB_SETH ∧ (hedT 1 0 0).headTb = true ∧ ((hedT 1
      0 0).get TB_CFG_SRC = 0 ∨ (hedT 1 0 0).tq = tqUnset))
    ∧ ((hedT 1 1 1).accepts TB_SETH ∧ (hedT 1 1 1).get TB_CFG_SRC ≠ 0 ∧
      (hedT 1 1 1).tq ≠ tqUnset)
    ∧ ((mem.put TB_STAT_TQ 2).settled ∧ (mem.put TB_STAT_TQ 2).tq = tqHoldover ∧ (mem.put TB_STAT_TQ 2).role = Role.member ∧ (mem.put TB_STAT_TQ 2).bit TB_STAT_RLOCK = false)
    ∧ ((hed.put TB_STAT_TQ 2).settled ∧ (hed.put TB_STAT_TQ 2).tq = tqHoldover ∧ (hed.put TB_STAT_TQ 2).role = Role.head)
    ∧ (st83.settled ∧ st83.tbRuns = true ∧ st83.tb.step = some (3, 1700000000, 17) ∧ st83.mtick ≤ 3 * 6000000 ∧ (st83.win.opened = false ∨ ↑(3 * 6000000) ≤ st83.nextBoundary)) := by
  and_intros <;> decide +kernel

theorem witness_TimingFramesComplete :
    ((linked hed).settled ∧ (linked hed).upstream Port.north = true)
    ∧ (ml.settled ∧ ml.upstream Port.north = true)
    ∧ (ml.hearsTiming Port.south 0 (cw kTiming 0 77) ∧ ml.timePort = some Port.south)
    ∧ ml.hearsTiming Port.north 1 (cw kTiming 0 (2 ^ 30 + 77))
    ∧ (ml.hearsTiming Port.south 2 (cw kTiming 0 (2 * 2 ^ 30 + 100)) ∧ ml.role =
      Role.member ∧ (|(exchange ml.tb.t1 ml.tb.t2 ml.tb.t3 (cfPay (cw kTiming 0 (2 * 2 ^ 30 +
      100)) % 2 ^ 30) (ml.asym Port.south)).2| ≤ if ml.pstate Port.south = pHr then (256 : ℤ) else
      (5120 : ℤ)) ∧ (ml.tb.good < 63 ∨ ml.bit TB_STAT_RLOCK = true))
    ∧ (st84.hearsTiming Port.south 2 (cw kTiming 0 (2 * 2 ^ 30 + 100)) ∧
      st84.timePort = some Port.south ∧ st84.role = Role.member ∧ (|(exchange st84.tb.t1 st84.tb.t2 st84.tb.t3 (cfPay
      (cw kTiming 0 (2 * 2 ^ 30 + 100)) % 2 ^ 30) (st84.asym Port.south)).2|
      ≤ if st84.pstate Port.south = pHr then (256 : ℤ) else (5120 : ℤ)) ∧ 63 ≤ st84.tb.good ∧ st84.bit
      TB_STAT_RLOCK = false)
    ∧ (st85.hearsTiming Port.south 2 (cw kTiming 0 (2 * 2 ^ 30 + 100000)) ∧
      st85.timePort = some Port.south ∧ st85.role = Role.member ∧ (if st85.pstate Port.south = pHr then (256 : ℤ) else
      (5120 : ℤ)) < |(exchange st85.tb.t1 st85.tb.t2 st85.tb.t3 (cfPay (cw kTiming 0 (2 * 2 ^ 30 + 100000)) % 2 ^ 30) (st85.asym Port.south)).2| ∧ st85.bit TB_STAT_RLOCK = true ∧ 15
      ≤ st85.tb.bad)
    ∧ (st86.hearsTiming Port.south 2 (cw kTiming 0 (2 * 2 ^ 30 + 100000)) ∧
      st86.timePort = some Port.south ∧ st86.role = Role.member ∧ (if st86.pstate Port.south = pHr then (256 : ℤ) else
      (5120 : ℤ)) < |(exchange st86.tb.t1 st86.tb.t2 st86.tb.t3 (cfPay (cw kTiming 0 (2 * 2 ^ 30 + 100000)) % 2 ^ 30) (st86.asym Port.south)).2| ∧ st86.bit TB_STAT_RLOCK = true ∧
      st86.tb.bad < 15)
    ∧ (ml.hearsTiming Port.south 3 (cw kTiming 0 (3 * 2 ^ 30 + 1234)) ∧ cfPay (cw
      kTiming 0 (3 * 2 ^ 30 + 1234)) % 2 ^ 30 / 2 ^ 28 = 0
      ∧ ml.bit TB_STAT_STEPPEND = false ∧ ml.tb.annH = none)
    ∧ ((ml.put TB_STAT_RLOCK 1).hearsTiming Port.south 3 (cw kTiming 0 (3 * 2 ^ 30
      + 2 * 2 ^ 28 + 3 * 2 ^ 26 + 5 * 2 ^ 20)) ∧ (ml.put
      TB_STAT_RLOCK 1).timePort = some Port.south ∧ cfPay (cw kTiming 0 (3 * 2 ^ 30 + 2 * 2 ^ 28 + 3 * 2 ^ 26 + 5 * 2 ^ 20)) % 2 ^ 30 /
      2 ^ 28 = 2 ∧ (ml.put TB_STAT_RLOCK 1).bit TB_STAT_RLOCK = true ∧ cfPay (cw kTiming 0 (3 * 2 ^ 30 + 2 * 2 ^ 28 + 3 * 2 ^ 26 + 5 * 2 ^ 20)) % 2 ^ 28 / 2 ^ 19 % 2 = 0 ∧ (ml.put TB_STAT_RLOCK 1).tb.step = none)
    ∧ (st87.hearsTiming Port.south 3 (cw kTiming 0 (3 * 2 ^ 30 + 3 * 2 ^ 28 + 1234)) ∧ st87.timePort = some Port.south ∧ cfPay (cw kTiming 0 (3 * 2 ^ 30
      + 3 * 2 ^ 28 + 1234)) % 2 ^ 30 / 2 ^ 28 = 3 ∧ st87.bit
      TB_STAT_STEPPEND = true ∧ st87.tb.annL = some 5 ∧ st87.tb.annH = some 6 ∧ st87.mtick ≤ 9 *
      6000000) := by
  and_intros <;> decide +kernel

theorem witness_BeadlineSearchCompletes :
    ((bl 0 BdlAct.idle).accepts BDL_CTRL_SRCH ∧ (bl 0 BdlAct.idle).bdlUp 0 = true ∧ (bl 0 BdlAct.idle).bit
      (BDL_LSTAT_SRCH 0) = false ∧ (bl 0 BdlAct.idle).bdl.l0.act = BdlAct.idle)
    ∧ ((bl 0 BdlAct.pull).accepts BDL_CTRL_SRCH ∧ (bl 0 BdlAct.pull).bdlUp 0 = true ∧ (bl 0 BdlAct.pull).bit
      (BDL_LSTAT_SRCH 0) = false ∧ (bl 0 BdlAct.pull).bdl.l0.act ≠ BdlAct.idle)
    ∧ (((bl 1 BdlAct.idle).put BDL_CFG_AUTOS 3).settled ∧ ((bl 1 BdlAct.idle).put BDL_CFG_AUTOS 3).bdlUp 1 = true ∧
      ((bl 1 BdlAct.idle).put BDL_CFG_AUTOS 3).bit (BDL_LSTAT_SRCH 1) = false ∧ ((bl 1 BdlAct.idle).put BDL_CFG_AUTOS
      3).bit (BDL_LSTAT_VALID 1) = false ∧ (((bl 1 BdlAct.idle).put BDL_CFG_AUTOS 3).bline 1).act = BdlAct.idle ∧ ((bl
      1 BdlAct.idle).put BDL_CFG_AUTOS 3).bitAt BDL_CFG_AUTOS 1 = true)
    ∧ (((bl 1 BdlAct.idle).put BDL_CFG_AUTOS 1).settled ∧ ((bl 1 BdlAct.idle).put BDL_CFG_AUTOS 1).bdlUp 1 = true ∧
      ((bl 1 BdlAct.idle).put BDL_CFG_AUTOS 1).bit (BDL_LSTAT_SRCH 1) = false ∧ ((bl 1 BdlAct.idle).put BDL_CFG_AUTOS
      1).bit (BDL_LSTAT_VALID 1) = false ∧ (((bl 1 BdlAct.idle).put BDL_CFG_AUTOS 1).bline 1).act = BdlAct.idle ∧ ((bl
      1 BdlAct.idle).put BDL_CFG_AUTOS 1).bitAt BDL_CFG_AUTOS 1 = false)
    ∧ ((bl 1 BdlAct.restart).settled ∧ ((bl 1 BdlAct.restart).bline 1).act = BdlAct.restart)
    ∧ ((bl 1 (BdlAct.powerUp 31)).settled ∧ ((bl 1 (BdlAct.powerUp 31)).bline 1).act = BdlAct.powerUp 31)
    ∧ (st88.settled ∧ (st88.bline 1).act = BdlAct.pull ∧ st88.schedReads 1 ≠ [])
    ∧ (st89.settled ∧ (st89.bline 0).act = BdlAct.hostPull)
    ∧ ((bl 0 BdlAct.frontier).settled ∧ (bl 0 BdlAct.frontier).frameOf 0 = some (5, 63) ∧ judge 5 63 (BdlReply.mk true
      false []) = 0 ∧ ((bl 0 BdlAct.frontier).bline 0).act = BdlAct.frontier)
    ∧ ((bl 0 (BdlAct.assign 1)).settled ∧ (bl 0 (BdlAct.assign 1)).frameOf 0 = some (2, 1) ∧ judge 2 1 (rep0 2 1 14) =
      0 ∧ ((bl 0 (BdlAct.assign 1)).bline 0).act = BdlAct.assign 1)
    ∧ ((bl 0 (BdlAct.assign 3)).settled ∧ (bl 0 (BdlAct.assign 3)).frameOf 0 = some (2, 3) ∧ judge 2 3 (rep0 2 3 14) =
      0 ∧ ((bl 0 (BdlAct.assign 3)).bline 0).act = BdlAct.assign 3)
    ∧ ((bl 0 (BdlAct.checkPrev 3)).settled ∧ (bl 0 (BdlAct.checkPrev 3)).frameOf 0 = some (4, 2) ∧ judge 4 2 (rep0 4 2
      8) = 0 ∧ ((bl 0 (BdlAct.checkPrev 3)).bline 0).act = BdlAct.checkPrev 3)
    ∧ ((bl 0 (BdlAct.pass 3)).settled ∧ (bl 0 (BdlAct.pass 3)).frameOf 0 = some (3, 3) ∧ judge 3 3 (rep 3 3 (numBits 8
      (64 + 3))) = 0 ∧ ((bl 0 (BdlAct.pass 3)).bline 0).act = BdlAct.pass 3)
    ∧ ((bl 0 (BdlAct.checkLast 32)).settled ∧ (bl 0 (BdlAct.checkLast 32)).frameOf 0 = some (4, 31) ∧ judge 4 31 (rep0
      4 31 8) = 0 ∧ ((bl 0 (BdlAct.checkLast 32)).bline 0).act = BdlAct.checkLast 32)
    ∧ ((bl 0 (BdlAct.checkLast 2)).settled ∧ (bl 0 (BdlAct.checkLast 2)).frameOf 0 = some (4, 1) ∧ judge 4 1 (rep0 4 1
      8) = 0 ∧ ((bl 0 (BdlAct.checkLast 2)).bline 0).act = BdlAct.checkLast 2)
    ∧ ((bl 1 (BdlAct.pass 3)).settled ∧ (bl 1 (BdlAct.pass 3)).frameOf 1 = some (3, 3) ∧ judge 3 3 (BdlReply.mk false
      false []) ≠ 0 ∧ ((bl 1 (BdlAct.pass 3)).bline 1).again = false ∧ ((bl 1 (BdlAct.pass 3)).bline 1).act ≠
      BdlAct.host) := by
  and_intros <;> decide +kernel

theorem witness_BeadlineFramesComplete :
    ((sch 1 BdlAct.idle).settled ∧ (sch 1 BdlAct.idle).schedRuns 1 = true ∧ (sch 1 BdlAct.idle).bit (BDL_SCH_EN 1) =
      true ∧ (sch 1 BdlAct.idle).pend bdlBase 1 = false ∧ ((sch 1 BdlAct.idle).bline 1).act = BdlAct.idle)
    ∧ (st90.settled ∧ st90.schedRuns 1 = true ∧ st90.bit (BDL_SCH_EN 1) = true ∧ st90.pend bdlBase 1 = false ∧
      (st90.bline 1).act ≠ BdlAct.idle ∧ (st90.bline 1).overSaid = true)
    ∧ (((bl 1 BdlAct.idle).put (BDL_LSTAT_SRCH 1) 1).accepts BDL_XCTL_GO ∧ bitsOf (2164260864#32) 31 31 = 1 ∧ ((((bl 1
      BdlAct.idle).put (BDL_LSTAT_SRCH 1) 1).setWord BDL_XCTL_CODE.addr (2164260864#32 &&& 18825215#32)).bit
      (BDL_LSTAT_SRCH (bitsOf (2164260864#32) 24 24)) = true ∨ ((bl 1 BdlAct.idle).put (BDL_LSTAT_SRCH 1) 1).bdl.xfer
      ≠ none))
    ∧ ((bl 1 BdlAct.idle).accepts BDL_XCTL_GO ∧ bitsOf (2164276997#32) 31 31 = 1 ∧ ((bl 1 BdlAct.idle).setWord
      BDL_XCTL_CODE.addr (2164276997#32 &&& 18825215#32)).bit (BDL_LSTAT_SRCH (bitsOf (2164276997#32) 24 24)) = false
      ∧ (bl 1 BdlAct.idle).bdl.xfer = none ∧ bitsOf (2164276997#32) 20 16 = 0 ∧ ((bl 1 BdlAct.idle).setWord
      BDL_XCTL_CODE.addr (2164276997#32 &&& 18825215#32)).bdlUp (bitsOf (2164276997#32) 24 24) = true ∧ ((bl 1
      BdlAct.idle).bline (bitsOf (2164276997#32) 24 24)).act = BdlAct.idle)
    ∧ ((bl 1 BdlAct.pull).settled ∧ ((bl 1 BdlAct.pull).bline 1).act = BdlAct.pull ∧ (bl 1 BdlAct.pull).bdl.xfer =
      none ∧ ((bl 1 BdlAct.pull).bline 1).wanted = false)
    ∧ (st89.settled ∧ (st89.bline 0).act = BdlAct.hostPull)
    ∧ ((bl 0 BdlAct.restart).settled ∧ (bl 0 BdlAct.restart).bdlUp 0 = true)
    ∧ ((mem.put BDL_CFG_LEN 0).accepts BDL_CFG_LEN ∧ (mem.put BDL_CFG_LEN 0).bitAt BDL_CFG_LEN 1 = false)
    ∧ ((bl 1 BdlAct.restart).accepts BDL_CFG_LEN ∧ (bl 1 BdlAct.restart).bitAt BDL_CFG_LEN 1 = true) := by
  and_intros <;> decide +kernel

theorem witness_IicControllerCompletes :
    ((icm.put IIC_STAT_STUCK 1).accepts IIC_CTRL_GO ∧ (icm.put IIC_STAT_STUCK 1).pw.iicWait = none ∧ (icm.put
      IIC_STAT_STUCK 1).bit IIC_CFG_CEN = true ∧ (icm.put IIC_STAT_STUCK 1).bit IIC_STAT_STUCK = true)
    ∧ (st91.accepts IIC_CTRL_GO ∧ st91.pw.iicWait = none ∧ st91.bit IIC_CFG_CEN = true ∧ st91.bit IIC_STAT_STUCK =
      false ∧ st91.iic.xfer ≠ none)
    ∧ (icm.pw.iicWait = none ∧ icm.accepts IIC_CTRL_CLRSTK ∧ (obs true).sdaHigh = true)
    ∧ ((obs false).sdaHigh = false ∧ (obs false).sclHeld = false ∧ (obs false).freed = false)
    ∧ (st92.pw.iicWait = none ∧ st92.accepts IIC_CFG_CEN ∧ st92.iic.cenDue = false ∧ st92.bit IIC_CFG_CEN = false)
    ∧ (mem.pw.iicWait = none ∧ mem.accepts IIC_CFG_CEN ∧ mem.iic.cenDue = true)
    ∧ (mem.settled ∧ mem.iicUp = true ∧ mem.iic.xfer = none)
    ∧ (st93.settled ∧ st93.pw.iicWait = none ∧ st93.iic.xfer = some (ix IicPhase.running 2 0) ∧ (ix IicPhase.running 2
      0).phase = IicPhase.running ∧ (ix IicPhase.running 2 0).rlen = 0)
    ∧ 2 ≤ (ix IicPhase.running 2 0).wlen
    ∧ (st94.settled ∧ st94.pw.iicWait = none ∧ st94.iic.xfer = some (ix IicPhase.running 2 5) ∧ (ix IicPhase.running 2
      5).phase = IicPhase.running)
    ∧ st94.bit IIC_CFG_TEN = true
    ∧ 2 ≤ (ix IicPhase.running 2 5).wlen
    ∧ (st95.settled ∧ st95.pw.iicWait = none ∧ st95.iic.xfer = some (ix IicPhase.lost 2 5) ∧ (ix IicPhase.lost 2
      5).phase = IicPhase.lost ∧ (ix IicPhase.lost 2 5).tries < st95.get IIC_CFG_RETRY)
    ∧ (st96.settled ∧ st96.pw.iicWait = none ∧ st96.iic.xfer = some (ix IicPhase.lost 2 5) ∧ st96.get IIC_CFG_RETRY ≤
      (ix IicPhase.lost 2 5).tries) := by
  and_intros <;> decide +kernel

theorem witness_IicTargetCompletes :
    (icm.settled ∧ icm.pw.iicWait = none ∧ icm.iicUp = true ∧ icm.bit IIC_CFG_TEN = true ∧ [1, 2, 3].length ≤ 64 ∧
      icm.bit IIC_TSTAT_RXNEW = false)
    ∧ ((icm.put IIC_TSTAT_RXNEW 1).settled ∧ (icm.put IIC_TSTAT_RXNEW 1).pw.iicWait = none ∧ (icm.put IIC_TSTAT_RXNEW
      1).iicUp = true ∧ (icm.put IIC_TSTAT_RXNEW 1).bit IIC_CFG_TEN = true ∧ (icm.put IIC_TSTAT_RXNEW 1).bit
      IIC_TSTAT_RXNEW = true)
    ∧ ((icm.put IIC_TTXL_TXLEN 3).settled ∧ (icm.put IIC_TTXL_TXLEN 3).pw.iicWait = none ∧ (icm.put IIC_TTXL_TXLEN
      3).iicUp = true ∧ (icm.put IIC_TTXL_TXLEN 3).bit IIC_CFG_TEN = true)
    ∧ (((hed.put IIC_CFG_TEN 1).put TB_CFG_SRC 2).settled ∧ ((hed.put IIC_CFG_TEN 1).put TB_CFG_SRC 2).pw.iicWait =
      none ∧ ((hed.put IIC_CFG_TEN 1).put TB_CFG_SRC 2).iicUp = true ∧ ((hed.put IIC_CFG_TEN 1).put TB_CFG_SRC 2).bit
      IIC_CFG_TEN = true ∧ ((hed.put IIC_CFG_TEN 1).put TB_CFG_SRC 2).todaUp = true ∧ [1].length ≠ 12)
    ∧ (List.replicate 12 1).length = 12
    ∧ (st97.settled ∧ st97.pw.iicWait = some 2) := by
  and_intros <;> decide +kernel

theorem witness_CrcAndRecorderCommandsComplete :
    ((crc 1 0 0).accepts (CRC_DATA 3) ∧ ((crc 1 0 0).get (CRC_CTX_EN 3) = 1 ∧ ((crc 1 0 0).get (CRC_CTX_TAP 3) = 0 ∨
      (crc 1 0 0).get (CRC_CTX_TAP 3) = 3)) ∧ ((crc 1 0 0).get (CRC_CTX_DW 3) = 0 ∧ 1 = 1 ∨ (crc 1 0 0).get
      (CRC_CTX_DW 3) = 1 ∧ 1 = 2 ∨ 2 ≤ (crc 1 0 0).get (CRC_CTX_DW 3) ∧ 1 = 4))
    ∧ ((crc 1 3 1).accepts (CRC_DATA 3) ∧ ((crc 1 3 1).get (CRC_CTX_EN 3) = 1 ∧ ((crc 1 3 1).get (CRC_CTX_TAP 3) = 0 ∨
      (crc 1 3 1).get (CRC_CTX_TAP 3) = 3)) ∧ ((crc 1 3 1).get (CRC_CTX_DW 3) = 0 ∧ 2 = 1 ∨ (crc 1 3 1).get
      (CRC_CTX_DW 3) = 1 ∧ 2 = 2 ∨ 2 ≤ (crc 1 3 1).get (CRC_CTX_DW 3) ∧ 2 = 4))
    ∧ ((crc 1 0 2).accepts (CRC_DATA 3) ∧ ((crc 1 0 2).get (CRC_CTX_EN 3) = 1 ∧ ((crc 1 0 2).get (CRC_CTX_TAP 3) = 0 ∨
      (crc 1 0 2).get (CRC_CTX_TAP 3) = 3)) ∧ ((crc 1 0 2).get (CRC_CTX_DW 3) = 0 ∧ 4 = 1 ∨ (crc 1 0 2).get
      (CRC_CTX_DW 3) = 1 ∧ 4 = 2 ∨ 2 ≤ (crc 1 0 2).get (CRC_CTX_DW 3) ∧ 4 = 4))
    ∧ ((crc 1 0 3).accepts (CRC_DATA 3) ∧ ((crc 1 0 3).get (CRC_CTX_EN 3) = 1 ∧ ((crc 1 0 3).get (CRC_CTX_TAP 3) = 0 ∨
      (crc 1 0 3).get (CRC_CTX_TAP 3) = 3)) ∧ ((crc 1 0 3).get (CRC_CTX_DW 3) = 0 ∧ 4 = 1 ∨ (crc 1 0 3).get
      (CRC_CTX_DW 3) = 1 ∧ 4 = 2 ∨ 2 ≤ (crc 1 0 3).get (CRC_CTX_DW 3) ∧ 4 = 4))
    ∧ ((crc 0 0 2).accepts (CRC_DATA 3) ∧ ((crc 0 0 2).get (CRC_CTX_EN 3) = 0 ∨ (crc 0 0 2).get (CRC_CTX_TAP 3) ≠ 0 ∧
      (crc 0 0 2).get (CRC_CTX_TAP 3) ≠ 3))
    ∧ ((crc 1 1 2).accepts (CRC_DATA 3) ∧ ((crc 1 1 2).get (CRC_CTX_EN 3) = 0 ∨ (crc 1 1 2).get (CRC_CTX_TAP 3) ≠ 0 ∧
      (crc 1 1 2).get (CRC_CTX_TAP 3) ≠ 3))
    ∧ (crc 1 1 2).accepts (CRC_CTX_INIT 3)
    ∧ ((crc 1 1 2).accepts (CRC_CTX_POLY 3) ∧ bitsOf (274#32) 9 9 = 0 ∧ bitsOf (274#32) 1 0 = (crc 1 1 2).get
      (CRC_CTX_POLY 3))
    ∧ (bitsOf (4294965618#32) 9 9 = 0 ∧ bitsOf (4294965618#32) 1 0 = (crc 1 1 2).get (CRC_CTX_POLY 3))
    ∧ bitsOf (273#32) 1 0 ≠ (crc 1 1 2).get (CRC_CTX_POLY 3)
    ∧ bitsOf (531#32) 1 0 ≠ (crc 1 1 2).get (CRC_CTX_POLY 3)
    ∧ (crc 1 1 2).accepts (CRC_VAL 3)
    ∧ ((crc 1 1 2).put (CRC_CTX_POLY 3) 0).accepts (CRC_VAL 3)
    ∧ (mem.hasBurl = true ∧ mem.burl.slots.length = 12 ∧ mem.accepts RCD_PROT_PROT)
    ∧ mem.accepts RCD_PROT_UNPROT
    ∧ (memS.hasBurl = true ∧ memS.burl.slots.length = 12 ∧ memS.accepts RCD_PROT_PROT)
    ∧ memS.accepts RCD_PROT_UNPROT
    ∧ memS.accepts RCD_ERASE_SLOT
    ∧ memS.accepts RCD_ERASE_HIST := by
  and_intros <;> decide +kernel

theorem witness_BankTestsComplete :
    (mem.settled ∧ mem.monitoring = true ∧ mem.snapBusy = false ∧ mem.bankTesting = false ∧ (∃ b < 6, mem.bankRetired
      b = false))
    ∧ (st98.runs ∧ st98.bst.bg = some 4 ∧ (bo true).pass = true)
    ∧ ((bo false).pass = false ∧ st98.retiredCount < 2)
    ∧ (st99.runs ∧ st99.bst.bg = none ∧ st99.bst.host = [5] ∧ st99.bst.bad = false)
    ∧ ((prov.put BST_CFG_BANKS 63).accepts BST_CTRL_GO ∧ (prov.put BST_CFG_BANKS 63).bst.host = [] ∧ (prov.put
      BST_CFG_BANKS 63).bistRefusal true true (prov.put BST_CFG_BANKS 63).cfgBanks = none)
    ∧ (prov.put BST_CFG_BANKS 63).bistRefusal true false (prov.put BST_CFG_BANKS 63).cfgBanks = some 3
    ∧ (mem.accepts BST_CTRL_GO ∧ mem.bst.host = [] ∧ mem.bistRefusal true false mem.cfgBanks = some 1)
    ∧ ((prov.put BST_CFG_BANKS 0).accepts BST_CTRL_GO ∧ (prov.put BST_CFG_BANKS 0).bst.host = [] ∧ (prov.put
      BST_CFG_BANKS 0).bistRefusal true true (prov.put BST_CFG_BANKS 0).cfgBanks = some 5)
    ∧ (st100.bst.host ≠ [] ∧ st100.accepts BST_CTRL_ABORT)
    ∧ (st101.bst.host ≠ [] ∧ st101.runs)
    ∧ (st102.accepts BST_CTRL_REPAIR ∧ st102.bankFuseOk = true ∧ st102.fz.spares.length = 6 ∧ st102.bst.rows.length =
      6 ∧ (∀ b ∈ st102.cfgBanks, st102.bst.rows[b]?.getD 0 ≤ st102.sparesLeft b))
    ∧ (st103.accepts BST_CTRL_REPAIR ∧ st103.bankFuseOk = true ∧ st103.cfgBanks = [2] ∧ st103.sparesLeft 2 <
      st103.bst.rows[2]?.getD 0)
    ∧ ((prov.put BST_CFG_BANKS 7).accepts BST_CTRL_RETIRE ∧ (prov.put BST_CFG_BANKS 7).bankFuseOk = true ∧ (prov.put
      BST_CFG_BANKS 7).fz.banks.length = 6 ∧ 2 < (List.filter (fun b => (prov.put BST_CFG_BANKS 7).bankRetired b ||
      (prov.put BST_CFG_BANKS 7).cfgBanks.contains b) (List.range 6)).length)
    ∧ ((prov.put BST_CFG_BANKS 5).accepts BST_CTRL_RETIRE ∧ (prov.put BST_CFG_BANKS 5).bankFuseOk = true ∧ (prov.put
      BST_CFG_BANKS 5).fz.banks.length = 6 ∧ (List.filter (fun b => (prov.put BST_CFG_BANKS 5).bankRetired b ||
      (prov.put BST_CFG_BANKS 5).cfgBanks.contains b) (List.range 6)).length ≤ 2) := by
  and_intros <;> decide +kernel

theorem witness_LifecycleCommandsComplete :
    (mem.accepts LCS_REQ_TARGET ∧ mem.life ≠ lRetired ∧ mem.cur ≠ Mode.safe ∧ mem.cur ≠ Mode.legacy ∧ mem.lcs.burn =
      none)
    ∧ (prov.accepts LCS_REQ_TARGET ∧ prov.life = lBlank ∧ prov.cur = Mode.provision ∧ prov.lcs.burn = none)
    ∧ (st104.runs ∧ st104.lcs.auth = some 2)
    ∧ st104.accepts (LCS_RESP 15)
    ∧ (st105.runs ∧ st105.lcs.burn = some (0, 1) ∧ 0 < st105.fz.chain.length)
    ∧ (st106.runs ∧ st106.lcs.burn = some (63, 4) ∧ 63 < st106.fz.chain.length) := by
  and_intros <;> decide +kernel

theorem witness_FirmwareCommandsComplete :
    (mem.accepts FW_UPDCTL_ERASE ∧ mem.fw.op = none ∧ mem.life ≠ lRetired ∧ mem.bit FW_IMG_TRIAL = false)
    ∧ ((mem.put FW_UPDCTL_PAGE 223).accepts FW_UPDCTL_PROG ∧ (mem.put FW_UPDCTL_PAGE 223).fw.op = none ∧ (mem.put
      FW_UPDCTL_PAGE 223).life ≠ lRetired ∧ (mem.put FW_UPDCTL_PAGE 223).bit FW_IMG_TRIAL = false ∧ (mem.put
      FW_UPDCTL_PAGE 223).get FW_UPDCTL_PAGE ≤ 223)
    ∧ mem.accepts FW_UPDCTL_VERIFY
    ∧ ((st107.fw.op.isSome = true ∨ st107.life = lRetired) ∧ st107.accepts FW_UPDCTL_ERASE)
    ∧ st107.accepts FW_UPDCTL_PROG
    ∧ st107.accepts FW_UPDCTL_VERIFY
    ∧ ((mem.put FW_IMG_TRIAL 1).bit FW_IMG_TRIAL = true ∧ (mem.put FW_IMG_TRIAL 1).accepts FW_UPDCTL_ERASE)
    ∧ (mem.put FW_IMG_TRIAL 1).accepts FW_UPDCTL_PROG
    ∧ (st108.runs ∧ (FwObs.mk 1 5 6).result = 1 ∧ st108.fw.op = some FwOp.erase)
    ∧ (st109.runs ∧ st109.fw.op = some (FwOp.prog 1 [7]))
    ∧ (st110.runs ∧ st110.fw.op = some FwOp.verify ∧ st110.get FW_SVN_MIN ≤ (FwObs.mk 1 5 6).svn)
    ∧ (st111.runs ∧ st111.fw.op = some FwOp.verify ∧ (FwObs.mk 1 5 6).svn < st111.get FW_SVN_MIN)
    ∧ (st112.accepts FW_UPDCTL_ACT ∧ st112.life ≠ lRetired ∧ st112.fw.op = none ∧ st112.fw.verified = true)
    ∧ (mem.accepts FW_UPDCTL_ACT ∧ mem.fw.verified = false)
    ∧ (((mem.put FW_IMG_TRIAL 1).put FW_SVN_RUN 64).accepts FW_UPDCTL_CONFIRM ∧ ((mem.put FW_IMG_TRIAL 1).put
      FW_SVN_RUN 64).bit FW_IMG_TRIAL = true)
    ∧ (((mem.put FW_IMG_TRIAL 1).put FW_SVN_RUN 3).accepts FW_UPDCTL_CONFIRM ∧ ((mem.put FW_IMG_TRIAL 1).put
      FW_SVN_RUN 3).bit FW_IMG_TRIAL = true)
    ∧ mem.accepts FW_LEG_SAVE := by
  and_intros <;> decide +kernel

theorem witness_LegacyCommandsComplete :
    (leg.legacyHears (lfMake 1 9 0 4660) 1 ∧ lfAddr (lfMake 1 9 0 4660) ≠ 0 ∧ lfAddr (lfMake 1 9 0 4660) ≠ 63 ∧
      List.find? (fun i => decide ((leg.vdev i).addr = 0)) leg.vdevIds = some 0)
    ∧ (legA.legacyHears (lfMake 3 6 16 0) 3 ∧ legA.named (lfAddr (lfMake 3 6 16 0)) = [1] ∧ lfAddr (lfMake 3 6 16 0) ≠
      63)
    ∧ (legA.legacyHears (lfMake 2 6 17 5) 2 ∧ legA.named (lfAddr (lfMake 2 6 17 5)) = [1] ∧ lfAddr (lfMake 2 6 17 5) ≠
      63 ∧ lfReg (lfMake 2 6 17 5) ∉ [32, 33, 48, 62])
    ∧ (legA.legacyHears (lfMake 2 6 32 5) 2 ∧ legA.named (lfAddr (lfMake 2 6 32 5)) = [1] ∧ lfAddr (lfMake 2 6 32 5) ≠
      63 ∧ lfReg (lfMake 2 6 32 5) = 32)
    ∧ (legA.legacyHears (lfMake 2 7 33 5) 2 ∧ legA.named (lfAddr (lfMake 2 7 33 5)) = [2] ∧ lfAddr (lfMake 2 7 33 5) ≠
      63 ∧ lfReg (lfMake 2 7 33 5) = 33)
    ∧ ((legA.put BAL_STAT_ACTIVE 1).legacyHears (lfMake 2 6 48 1445) 2 ∧ (legA.put BAL_STAT_ACTIVE 1).named (lfAddr
      (lfMake 2 6 48 1445)) = [1] ∧ lfAddr (lfMake 2 6 48 1445) ≠ 63 ∧ lfReg (lfMake 2 6 48 1445) = 48 ∧ (legA.put
      BAL_STAT_ACTIVE 1).planLive = true)
    ∧ (legA.legacyHears (lfMake 2 6 62 5) 2 ∧ legA.named (lfAddr (lfMake 2 6 62 5)) = [1] ∧ lfAddr (lfMake 2 6 62 5) ≠
      63 ∧ lfReg (lfMake 2 6 62 5) = 62 ∧ lfData (lfMake 2 6 62 5) ≠ 23294)
    ∧ (legA.legacyHears (lfMake 2 6 62 23294) 2 ∧ legA.named (lfAddr (lfMake 2 6 62 23294)) = [1] ∧ lfAddr (lfMake 2 6
      62 23294) ≠ 63 ∧ lfReg (lfMake 2 6 62 23294) = 62 ∧ lfData (lfMake 2 6 62 23294) = 23294)
    ∧ (legA.legacyHears (lfMake 4 6 0 0) 4 ∧ legA.named (lfAddr (lfMake 4 6 0 0)) = [1] ∧ lfAddr (lfMake 4 6 0 0) ≠ 63
      ∧ 1 < legA.leg.vdevs.length)
    ∧ (legA.legacyHears (lfMake 6 63 0 0) 6 ∧ lfAddr (lfMake 6 63 0 0) = 63 ∧ (∀ v ∈ legA.vdevIds, legA.dischBits v =
      0))
    ∧ (legA.settled ∧ legA.lathe = true ∧ legA.inLegacy = true)
    ∧ (st113.settled ∧ st113.lathe = true ∧ st113.inLegacy = true ∧ st113.leg.dto ≠ 0 ∧ st113.dischBits 1 ≠ 0) := by
  and_intros <;> decide +kernel

theorem witness_LegacyBridgeCompletes :
    (lk.settled ∧ lk.role = Role.member ∧ lk.inLegacy = false ∧ lk.monitoring = true ∧ lk.pstate Port.north = pLr ∧
      lk.bit (SPN_PORT_LEG Port.north) = true)
    ∧ (lk.accepts FW_LPXC_GO ∧ (lk.leg.lpx ≠ none ∨ lk.bit FW_LSTAT_BRIDGE = false))
    ∧ ((lk.put FW_LSTAT_BRIDGE 1).accepts FW_LPXC_GO ∧ (lk.put FW_LSTAT_BRIDGE 1).leg.lpx = none ∧ (lk.put
      FW_LSTAT_BRIDGE 1).bit FW_LSTAT_BRIDGE = true ∧ (lk.put FW_LSTAT_BRIDGE 1).get FW_LSTAT_PORT = 0)
    ∧ (st114.runs ∧ st114.leg.lpx = some (3, 9) ∧ lfOk (lfMake 3 9 5 4660) = true ∧ lfCmd (lfMake 3 9 5 4660) = 3 ∧
      lfAddr (lfMake 3 9 5 4660) = 9) := by
  and_intros <;> decide +kernel

theorem witness_IicPortKeepsTheRest :
    icm.accepts IIC_CTRL_GO
    ∧ icm.accepts IIC_CTRL_CLRSTK
    ∧ icm.accepts IIC_CFG_CEN
    ∧ icr.settled
    ∧ ((hed.put IIC_CFG_TEN 1).put TB_CFG_SRC 2).settled
    ∧ st115.settled := by
  and_intros <;> decide +kernel

theorem witness_BeadlineKeepsTheRest :
    mem.accepts BDL_CTRL_SRCH
    ∧ mem.accepts BDL_XCTL_GO
    ∧ mem.accepts BDL_CFG_LEN
    ∧ (bl 0 (BdlAct.assign 1)).settled
    ∧ (bl 0 (BdlAct.checkLast 2)).settled
    ∧ (bl 0 BdlAct.restart).settled
    ∧ (bl 0 BdlAct.pull).settled
    ∧ (bl 0 BdlAct.pull).pend bdlBase 0 = false := by
  and_intros <;> decide +kernel

theorem witness_LifecycleAndFirmwareKeepTheRest :
    prov.accepts LCS_REQ_TARGET
    ∧ prov.accepts (LCS_RESP 15)
    ∧ prov.accepts FW_UPDCTL_ERASE
    ∧ prov.accepts FW_UPDCTL_PROG
    ∧ prov.accepts FW_UPDCTL_VERIFY
    ∧ prov.accepts FW_UPDCTL_ACT
    ∧ prov.accepts FW_LPXC_GO
    ∧ st116.settled
    ∧ st117.settled
    ∧ st118.settled := by
  and_intros <;> decide +kernel

/-- AuxCommandsComplete: nothing is pending in a block at its reset state, and no entry waits for the converter. -/
theorem witness_AuxCommandsComplete_rest : (∀ g, (auxIn .L .delay).pend (auxBase .L) g = false)
    ∧ ∀ e, (st16.aux .L).phase ≠ .ready e := by
  refine ⟨?_, ?_⟩
  · intro g
    have h : (auxIn .L .delay).word (auxBase .L + 0xF04) = 0#32 := by decide +kernel
    simp [Dev.pend, Dev.bit, Dev.get, csPend, h, bitsOf, bitsNat]
  · intro e h
    have h' : (st16.aux .L).phase = .stopped := by decide +kernel
    rw [h'] at h
    cases h

theorem witness_EnumerationFramesAndNoticesComplete_head : ∃ w, hedM.receives .north kEnum w
    ∧ hedM.role = .head ∧ bitsNat (cfPay w) 15 0 ≠ Config.uid.toNat % 2 ^ 16 := by
  by_cases h : Config.uid.toNat % 2 ^ 16 = 1
  · refine ⟨cw kEnum 0 2, by decide +kernel, by decide +kernel, ?_⟩
    rw [h]; decide +kernel
  · refine ⟨cw kEnum 0 1, by decide +kernel, by decide +kernel, ?_⟩
    intro e; exact h (e.symm.trans (by decide +kernel))

theorem witness_EveryCommandAnswersANextState : startsPart .holdExpiry = false := by decide

theorem witness_RoleIsSampledAtPowerOn : startsPart .holdExpiry = false
    ∧ (∃ t, exec .holdExpiry ⟨mem, []⟩ = .next t) ∧ ∃ t, exec (.shipEntryDone (boot true)) ⟨st2, []⟩ = .next t :=
  ⟨by decide, ⟨_, rfl⟩, ⟨_, rfl⟩⟩

theorem witness_StepsKeepTheMachineSound : mem.sound ∧ (∃ t, step ⟨mem, [.holdExpiry]⟩ = .next t)
    ∧ ∀ c ∈ ([.holdExpiry] : List Instr).head?, startsPart c = false :=
  ⟨by decide +kernel, ⟨_, rfl⟩, by decide⟩

theorem witness_LifeCycleNeverGoesBack : (∃ t, step ⟨st105, [.fuseBurnDone true]⟩ = .next t)
    ∧ State.life ⟨st105, []⟩ ≠ lRetired ∧ burnt (mem.fz.chain.set 0 7) 0 = true := ⟨⟨_, rfl⟩, by decide +kernel, by decide +kernel⟩

theorem witness_ResetState : ∀ p ∈ shownRegs, p.1 ≠ PWR_BUDGET_BUDGET.addr := by decide +kernel

theorem witness_EndOfACommandChangesOnlyTheMode : mem.keepsEvents := by decide +kernel

theorem witness_TbtimeOfAnEdge : 1000 * 6000000 < 6 * 2 ^ 64 := by decide

/-- The CRC context of Example 18-1 before its bytes, and with a running value restored. -/
def crcEx (v : Nat) : Dev := (((crc 1 0 2).put (CRC_CTX_POLY 3) 2).put (CRC_VAL 3) v).put (CRC_CNT 3) 0

theorem witness_WorkedExamples : let d := crcEx 0xFFFFFFFF
    let f := crcEx ((crcDataDev 3 0x34333231#32 d).get (CRC_VAL 3))
    d.get (CRC_CTX_POLY 3) = 2 ∧ d.get (CRC_CTX_TAP 3) = 0 ∧ d.get (CRC_CTX_DW 3) = 2 ∧ d.bit (CRC_CTX_EN 3) = true
    ∧ d.get (CRC_CNT 3) = 0 ∧ d.word (CRC_VAL 3).addr = 0xFFFFFFFF#32 ∧ f.get (CRC_CTX_POLY 3) = 2
    ∧ f.get (CRC_CTX_TAP 3) = 0 ∧ f.get (CRC_CTX_DW 3) = 2 ∧ f.bit (CRC_CTX_EN 3) = true ∧ f.get (CRC_CNT 3) = 0
    ∧ f.word (CRC_VAL 3).addr = (crcDataDev 3 0x34333231#32 d).word (CRC_VAL 3).addr := by
  decide +kernel

end Sys2Proof.Tests
end

section
/-!
SUPPORT. Register accesses (02, R23 to R44): what the rows of the register tables have in common, what a write of plain
fields leaves as it was, and what a register command at a device that is awake comes to.
-/

namespace Sys2Proof.Machine

/-! ## Folds -/

/-- What one element of a list brings about, and every element keeps, holds after a fold over the list. -/
theorem foldl_sets {α β : Type} {P : β → Prop} {step : β → α → β} {xs : List α} {x : α} (b : β) (hx : x ∈ xs)
    (hset : ∀ c, P (step c x)) (hkeep : ∀ c, P c → ∀ y ∈ xs, P (step c y)) : P (xs.foldl step b) := by
  obtain ⟨l, r, rfl⟩ := List.append_of_mem hx
  rw [List.foldl_append, List.foldl_cons]
  exact List.foldlRecOn r step (hset _) (fun c hc y hy => hkeep c hc y (by simp [hy]))

/-! ## Rows of the register tables -/

/-- The bits of a field of a row lie in a word. -/
theorem rowsOf_field_bits (b : Blk) : ∀ r ∈ rowsOf b, ∀ f ∈ r.fields, f.lo ≤ f.hi ∧ f.hi < 32 := by
  cases b <;> decide +kernel

/-- Two fields of a row share no bit. -/
theorem rowsOf_fields_apart (b : Blk) :
    ∀ r ∈ rowsOf b, ∀ f ∈ r.fields, ∀ g ∈ r.fields, f = g ∨ f.hi < g.lo ∨ g.hi < f.lo := by
  cases b <;> decide +kernel

/-- The fields that a read or a write of ones clears lie apart from what Table 19-10 locks. -/
theorem rowsOf_clearing (b : Blk) : ∀ r ∈ rowsOf b, ∀ f ∈ r.fields, f.acc = .rc ∨ f.acc = .w1c →
    b ≠ .cmp ∧ b ≠ .bst ∧ (b = .bzl ∨ b = .sdc ∨ b = .rcd → f.hi ≠ 0 ∧ f.hi ≠ 27 ∧ f.hi ≠ 31) := by
  cases b <;> decide +kernel

theorem findRow_mem {o : Nat} {rs : List RegRow} {r : RegRow} {i : Nat} (h : findRow o rs = some (r, i)) : r ∈ rs := by
  induction rs with
  | nil => cases h
  | cons x xs ih =>
    unfold findRow at h
    split_ifs at h <;> simp_all

/-- A located register has a row of its block, and its block is the one at the address. -/
theorem locate_some {a : Nat} {l : Loc} (h : locate a = some l) :
    l.row ∈ rowsOf l.blk ∧ blockAt a = some (l.die, l.blk, l.base) := by
  unfold locate at h
  unfold blockAt
  cases hd : dieOf a with
  | none => simp [hd] at h
  | some p =>
    cases hb : blkOf p.1 (a - p.2) with
    | none => simp [hd, hb] at h
    | some b =>
      cases hr : findRow (a - p.2 - b.2) (rowsOf b.1) with
      | none => simp [hd, hb, hr] at h
      | some r =>
        simp only [hd, hb, hr, Option.some.injEq] at h
        subst h
        exact ⟨findRow_mem hr, by simp only [hb]⟩

/-- A field of a register after another field, or itself, is replaced. -/
theorem Dev.get_put_row (d : Dev) {a : Nat} {l : Loc} {f g : FieldSpec} (hl : locate a = some l)
    (hf : f ∈ l.row.fields) (hg : g ∈ l.row.fields) (x : Nat) :
    (d.put ⟨a, g.hi, g.lo⟩ x).get ⟨a, f.hi, f.lo⟩
      = if g = f then x % 2 ^ (f.hi + 1 - f.lo) else d.get ⟨a, f.hi, f.lo⟩ := by
  have hrow := (locate_some hl).1
  have wf (k : FieldSpec) (hk : k ∈ l.row.fields) : Fld.wf ⟨a, k.hi, k.lo⟩ = true := by
    simpa [Fld.wf] using rowsOf_field_bits l.blk l.row hrow k hk
  by_cases h : g = f
  · rw [if_pos h, h]
    exact Dev.get_put_same d _ x (wf f hf)
  · have hap := (rowsOf_fields_apart l.blk l.row hrow g hg f hf).resolve_left h
    rw [if_neg h]
    exact Dev.get_put_apart d _ _ x (wf g hg) (wf f hf) (by simpa [Fld.apart, or_comm] using hap)

theorem Dev.regAt_some {d : Dev} {a : Nat} {l : Loc} (h : d.regAt a = some l) :
    locate a = some l ∧ d.hasBlk l.die l.blk = true := by
  unfold Dev.regAt at h
  split at h
  · split at h
    · rename_i hl hc
      cases h
      exact ⟨hl, hc.1⟩
    · cases h
  · cases h

/-- A register of the device that is not the block's register at an offset lies elsewhere. -/
theorem Dev.regAt_ne {d : Dev} {a o : Nat} {l : Loc} (h : d.regAt a = some l) (ho : d.blkReg o a = none) :
    a ≠ l.base + o := by
  obtain ⟨hl, hb⟩ := Dev.regAt_some h
  intro e
  rw [Dev.blkReg, (locate_some hl).2] at ho
  simp [hb, e] at ho

/-! ## Locks -/

/-- No lock holds a field that a read or a write of ones clears (R42, Table 19-10). -/
theorem Dev.fieldLocked_clearing (d : Dev) {a : Nat} {l : Loc} {f : FieldSpec} (hl : locate a = some l)
    (hf : f ∈ l.row.fields) (hc : f.acc = .rc ∨ f.acc = .w1c) : d.fieldLocked l f = false := by
  obtain ⟨hcmp, hbst, hhi⟩ := rowsOf_clearing l.blk l.row (locate_some hl).1 f hf hc
  have hlife : d.lifeLocked l f = false := by
    unfold Dev.lifeLocked
    rcases hc with hc | hc <;> cases hb : l.blk <;> simp_all
  rcases hc with hc | hc <;> simp [Dev.fieldLocked, hlife, hc]

/-! ## Writes of fields -/

/-- Staging a field changes no word in force but BLOCK_CSTAT (R31). -/
theorem Dev.word_stage_other (d : Dev) (base g : Nat) (f : Fld) (v b : Nat) (h : b ≠ base + 0xF04) :
    (d.stage base g f v).word b = d.word b := by
  unfold Dev.stage
  rw [Dev.word_put_other _ _ _ _ h, Dev.word_setStaged]

/-- What a field's class makes of a written word (R5, R31): nothing, a staged copy, or a new value in force. -/
theorem Dev.putField_cases (d : Dev) (l : Loc) (a : Nat) (v : Word) (f : FieldSpec) :
    d.putField l a v f = d
    ∨ (∃ g, d.putField l a v f = d.stage l.base g ⟨a, f.hi, f.lo⟩ (bitsOf v f.hi f.lo))
    ∨ (f.acc ≠ .w1c ∧ d.putField l a v f = d.put ⟨a, f.hi, f.lo⟩ (bitsOf v f.hi f.lo))
    ∨ (f.acc = .w1c ∧ ∃ x, d.putField l a v f = d.put ⟨a, f.hi, f.lo⟩ x) := by
  unfold Dev.putField
  cases hc : f.acc with
  | ro | rc | w1s | wo => exact .inl rfl
  | rwL | rwK =>
    dsimp only
    split
    · exact .inl rfl
    · exact .inr (.inr (.inl ⟨by simp, rfl⟩))
  | rwS g =>
    dsimp only
    split
    · exact .inl rfl
    · exact .inr (.inl ⟨_, rfl⟩)
  | w1c => exact .inr (.inr (.inr ⟨rfl, _, rfl⟩))

/-- Writing fields changes register words and staged copies alone. -/
theorem Dev.Grow.putFields {d e : Dev} (l : Loc) (a : Nat) (v : Word) (h : Dev.Grow d e) :
    Dev.Grow d (e.putFields l a v) := by
  refine Dev.Grow.each _ _ h (fun x f hx => ?_)
  rcases Dev.putField_cases x l a v f with hp | ⟨g, hp⟩ | ⟨-, hp⟩ | ⟨-, y, hp⟩ <;> rw [hp]
  · exact hx
  · exact Dev.Grow.put _ _ (Dev.Grow.setStaged _ _ hx)
  · exact Dev.Grow.put _ _ hx
  · exact Dev.Grow.put _ _ hx

theorem Dev.Grow.violation {d e : Dev} (a : Nat) (h : Dev.Grow d e) : Dev.Grow d (e.violation a) :=
  Dev.Grow.put _ _ (Dev.Grow.countSat _ _ h)

/-- Writing a field of a register changes no word in force but that of the register and BLOCK_CSTAT. -/
theorem Dev.word_putField_other (d : Dev) (l : Loc) (a : Nat) (v : Word) (f : FieldSpec) (b : Nat) (ha : b ≠ a)
    (hb : b ≠ l.base + 0xF04) : (d.putField l a v f).word b = d.word b := by
  rcases Dev.putField_cases d l a v f with h | ⟨g, h⟩ | ⟨-, h⟩ | ⟨-, x, h⟩ <;> rw [h]
  · exact Dev.word_stage_other _ _ _ _ _ _ hb
  · exact Dev.word_put_other _ _ _ _ ha
  · exact Dev.word_put_other _ _ _ _ ha

theorem Dev.word_putFields_other (d : Dev) (l : Loc) (a : Nat) (v : Word) (b : Nat) (ha : b ≠ a)
    (hb : b ≠ l.base + 0xF04) : (d.putFields l a v).word b = d.word b :=
  List.foldlRecOn (motive := fun e : Dev => e.word b = d.word b) l.row.fields _ rfl
    (fun e he f _ => (Dev.word_putField_other e l a v f b ha hb).trans he)

/-- A field of a register, into which a write puts the value that it has, stays, whatever the other fields take. -/
theorem Dev.get_putFields_kept (d : Dev) (l : Loc) (a : Nat) (v : Word) (f : FieldSpec) (hl : locate a = some l)
    (ha : a ≠ l.base + 0xF04) (hf : f ∈ l.row.fields) (hw : f.acc ≠ .w1c)
    (hv : bitsOf v f.hi f.lo = d.get ⟨a, f.hi, f.lo⟩) :
    (d.putFields l a v).get ⟨a, f.hi, f.lo⟩ = d.get ⟨a, f.hi, f.lo⟩ := by
  have stays (e : Dev) (g : FieldSpec) (hg : g ∈ l.row.fields) (x : Nat) (hx : g = f → x = bitsOf v f.hi f.lo)
      (he : e.get ⟨a, f.hi, f.lo⟩ = d.get ⟨a, f.hi, f.lo⟩) :
      (e.put ⟨a, g.hi, g.lo⟩ x).get ⟨a, f.hi, f.lo⟩ = d.get ⟨a, f.hi, f.lo⟩ := by
    rw [Dev.get_put_row e hl hf hg]
    split
    · rename_i h
      rw [hx h, hv]
      exact Nat.mod_eq_of_lt (Dev.get_lt d _)
    · exact he
  refine List.foldlRecOn (motive := fun e : Dev => e.get ⟨a, f.hi, f.lo⟩ = d.get ⟨a, f.hi, f.lo⟩) l.row.fields _ rfl ?_
  intro e he g hg
  rcases Dev.putField_cases e l a v g with h | ⟨k, h⟩ | ⟨-, h⟩ | ⟨hgw, x, h⟩ <;> rw [h]
  · exact he
  · rw [← he]
    exact congrArg (bitsOf · f.hi f.lo) (Dev.word_stage_other _ _ _ _ _ _ ha)
  · exact stays e g hg _ (fun e => by rw [e]) he
  · exact stays e g hg _ (fun e => absurd (e ▸ hgw) hw) he

/-! ## A write and its violations -/

/-- The word of a write that meets no lock is the one written, outside the sweep mask (R225). -/
theorem Dev.allowed_free (d : Dev) (l : Loc) (a : Nat) (v : Word) (h : ∀ f ∈ l.row.fields, d.fieldLocked l f = false)
    (hL : a ≠ IMP_CMASKL.addr) (hH : a ≠ IMP_CMASKH.addr) : d.allowed l a v = v := by
  have hv := List.foldlRecOn (motive := fun w : Word => w = v) l.row.fields
    (fun w f => if d.fieldLocked l f then setBits w f.hi f.lo (bitsOf (d.word a) f.hi f.lo) else w) rfl
    (fun w hw f hf => by simp [h f hf, hw])
  simp only [Dev.allowed, if_neg hL, if_neg hH]
  exact hv

/-- In the word that a write may put, a locked field has its value in force. -/
theorem Dev.allowed_locked (d : Dev) (l : Loc) (a : Nat) (v : Word) (f : FieldSpec) (hrow : l.row ∈ rowsOf l.blk)
    (hL : a ≠ IMP_CMASKL.addr) (hH : a ≠ IMP_CMASKH.addr) (hf : f ∈ l.row.fields) (h : d.fieldLocked l f = true) :
    bitsOf (d.allowed l a v) f.hi f.lo = d.get ⟨a, f.hi, f.lo⟩ := by
  have bits := rowsOf_field_bits l.blk l.row hrow
  have same (w : Word) : bitsOf (setBits w f.hi f.lo (bitsOf (d.word a) f.hi f.lo)) f.hi f.lo = d.get ⟨a, f.hi, f.lo⟩ := by
    rw [bitsOf_setBits _ _ _ _ (bits f hf).1 (bits f hf).2]
    exact Nat.mod_eq_of_lt (Dev.get_lt d ⟨a, f.hi, f.lo⟩)
  simp only [Dev.allowed, if_neg hL, if_neg hH]
  refine foldl_sets (P := fun w : Word => bitsOf w f.hi f.lo = d.get ⟨a, f.hi, f.lo⟩) v hf ?_ ?_
  · intro w
    rw [if_pos h]
    exact same w
  · intro w hw g hg
    split
    · rcases rowsOf_fields_apart l.blk l.row hrow f hf g hg with rfl | hfg
      · exact same w
      · rw [bitsOf_setBits_apart _ _ _ _ _ _ (bits g hg).1 hfg (bits f hf).2, hw]
    · exact hw

/-- A write to a register without an action puts its fields, on whichever die it lies: every case of the three write
functions but the last is a register that acts. -/
theorem Dev.writes_plain (d : Dev) (o : WrObs) (l : Loc) (a : Nat) (v : Word) (h : l.acts = false) :
    d.writeCore o l a v = d.putFields l a v ∧ d.writeAfe o l a v = d.putFields l a v
    ∧ d.writePhy l a v = d.putFields l a v := by
  refine ⟨?_, ?_, ?_⟩
  · unfold Dev.writeCore
    split <;> simp_all [Loc.acts]
  · unfold Dev.writeAfe
    split <;> simp_all [Loc.acts]
  · unfold Dev.writePhy
    extract_lets p plain
    split <;> simp_all [Loc.acts, plain]

/-- The registers whose write is treated by its address: where the part finds something, and the sweep mask. -/
def specialWrites : List Nat :=
  [0xC03C, 0x10000, 0x1C000, 0x1C018, 0x2C05C, 0x30000, 0x34120, 0x406000] ++ [IMP_CMASKL.addr, IMP_CMASKH.addr]

/-- Each of them has an action. -/
theorem acts_of_special : ∀ a ∈ specialWrites, (locate a).all Loc.acts = true := by
  decide +kernel

/-- The address is that of a live register of the device that has no action of its own. -/
structure Dev.Plain (d : Dev) (a : Nat) (l : Loc) : Prop where
  addr : regAddr a = a
  lt : a < 2 ^ 24
  reg : d.regAt a = some l
  commit : d.blkReg 0xF00 a = none
  cstat : d.blkReg 0xF04 a = none
  live : stagedView a = false
  quiet : l.acts = false

theorem regAddr_self {a : Nat} (h : a < 2 ^ 24) (h4 : a % 4 = 0) : regAddr a = a := by
  unfold regAddr
  omega

section
variable {d : Dev} {a : Nat} {l : Loc}

theorem Dev.Plain.loc (h : d.Plain a l) : locate a = some l := (Dev.regAt_some h.reg).1

theorem Dev.Plain.not_special (h : d.Plain a l) : a ∉ specialWrites := by
  intro hm
  have hs := acts_of_special a hm
  rw [h.loc, Option.all_some, h.quiet] at hs
  cases hs

theorem Dev.Plain.not_mask (h : d.Plain a l) : a ≠ IMP_CMASKL.addr ∧ a ≠ IMP_CMASKH.addr :=
  ⟨fun e => h.not_special (e ▸ by simp [specialWrites]), fun e => h.not_special (e ▸ by simp [specialWrites])⟩

theorem Dev.Plain.not_observing (h : d.Plain a l) : observing a = false := by
  have hs := h.not_special
  simp only [observing, h.addr, ← Bool.not_eq_true, List.contains_iff_mem]
  exact fun hm => hs (List.mem_append_left _ hm)

/-- A write to a register without an action: the violation, if it is one, and the fields by their classes (R41, R44). -/
theorem Dev.Plain.regWrite (h : d.Plain a l) (v : Word) :
    d.regWrite a v = (if d.offends l a v then d.violation a else d).putFields l a (d.allowed l a v) := by
  simp only [Dev.regWrite, h.not_observing, Dev.regWriteObs, h.addr, h.live, h.commit, h.cstat, h.reg,
    Bool.false_eq_true, if_false]
  have hw (e : Dev) (w : Word) := Dev.writes_plain e (obsAt 0) l a w h.quiet
  cases l.die <;> simp only [hw]

/-- SYS_SVIOL holds no field that a lock can hold: a write there offends against nothing. -/
theorem Dev.Plain.offends_ne_sviol (h : d.Plain a l) (v : Word) (ho : d.offends l a v = true) : a ≠ SYS_SVIOL_CNT.addr := by
  rintro rfl
  have hl : l = ⟨.core, .sys, 0, 0x40, ⟨0x40, 0, 1, [⟨31, 24, .rc, 0⟩, ⟨23, 0, .ro, 0⟩]⟩, 0⟩ :=
    Option.some.inj (h.loc.symm.trans rfl)
  subst hl
  simp [Dev.offends, Dev.fieldLocked, Dev.lifeLocked] at ho

end

theorem Dev.violation_addr (d : Dev) (a : Nat) (h : a < 2 ^ 24) : (d.violation a).get SYS_SVIOL_ADDR = a := by
  unfold Dev.violation
  rw [Dev.get_put_same _ _ _ (by decide)]
  exact Nat.mod_eq_of_lt h

theorem Dev.violation_cnt (d : Dev) (a : Nat) :
    (d.violation a).get SYS_SVIOL_CNT = min 255 (d.get SYS_SVIOL_CNT + 1) := by
  unfold Dev.violation Dev.countSat
  rw [Dev.get_put_apart _ _ _ _ (by decide) (by decide) (by decide), Dev.get_put_same _ _ _ (by decide)]
  exact Nat.mod_eq_of_lt (lt_of_le_of_lt (min_le_left _ _) (by decide))

theorem Dev.word_violation_other (d : Dev) (a b : Nat) (h : b ≠ SYS_SVIOL_CNT.addr) :
    (d.violation a).word b = d.word b := by
  unfold Dev.violation Dev.countSat
  rw [Dev.word_put_other _ _ _ _ (show b ≠ SYS_SVIOL_ADDR.addr from h), Dev.word_put_other _ _ _ _ h]

/-! ## Register commands at a device that is ready -/

/-- A register command whose action asks for nothing and leaves build, role and fuses alone: the action, and then HOLD
counts anew. -/
theorem State.lift_command (d : Dev) (q : List Instr) (act : Dev → Dev) (e : Dev) (h : d.ready) (he : act d = e)
    (ha : e.asks = d.asks) (hb : e.build = d.build) (hr : e.role = d.role) (hz : e.fz = d.fz) :
    (⟨d, q⟩ : State).lift (Dev.command act) = .next ⟨e.commandDone, q⟩ :=
  State.lift_runs d q _ _ (by rw [Dev.command_awake act d h.2, he])
    (by rw [Dev.commandDone_asks, ha, h.1]) (by rw [Dev.commandDone_build, hb])
    (by rw [Dev.commandDone_role, hr]) (by rw [Dev.commandDone_fz, hz])

/-- The same for an action known to keep what `Dev.Grow` names, the open requests, build, role and fuses among it. -/
theorem State.lift_command_grow (d : Dev) (q : List Instr) (act : Dev → Dev) (e : Dev) (h : d.ready) (he : act d = e)
    (hg : Dev.Grow d e) : (⟨d, q⟩ : State).lift (Dev.command act) = .next ⟨e.commandDone, q⟩ :=
  State.lift_command d q act e h he hg.asks hg.build hg.role hg.fz

/-! ## Reads -/

theorem Dev.Grow.latchHigh {d e : Dev} (a : Nat) (h : Dev.Grow d e) : Dev.Grow d (e.latchHigh a) :=
  h.upd rfl rfl rfl rfl rfl rfl rfl rfl rfl rfl rfl rfl rfl rfl rfl rfl rfl rfl

@[simp] theorem Dev.get_setBline (d : Dev) (n : Nat) (x : BdlLine) (f : Fld) : (d.setBline n x).get f = d.get f := by
  unfold Dev.setBline
  split <;> rfl

/-- The RC fields of a register that its read clears. -/
def Dev.rcFields (d : Dev) (l : Loc) : List FieldSpec := l.row.fields.filter (fun f => f.acc = .rc && !d.fieldLocked l f)

/-- The device with these fields zero. -/
def Dev.rcCleared (d : Dev) (l : Loc) (a : Nat) : Dev := d.each (d.rcFields l) (fun e f => e.put ⟨a, f.hi, f.lo⟩ 0)

/-- After a read the RC fields are zero, and a Beadline line may take its events again (R5, R441). -/
theorem Dev.clearRc_cases (d : Dev) (l : Loc) (a : Nat) :
    d.clearRc l a = d.rcCleared l a ∨ ∃ x, d.clearRc l a = (d.rcCleared l a).setBline l.idx x := by
  unfold Dev.clearRc
  dsimp only
  split
  · exact .inr ⟨_, rfl⟩
  · exact .inl rfl

theorem Dev.Grow.clearRc {d e : Dev} (l : Loc) (a : Nat) (h : Dev.Grow d e) : Dev.Grow d (e.clearRc l a) := by
  have hp : Dev.Grow d (e.rcCleared l a) := Dev.Grow.each _ _ h (fun _ _ hx => Dev.Grow.put _ _ hx)
  rcases e.clearRc_cases l a with hc | ⟨x, hc⟩ <;> rw [hc]
  · exact hp
  · exact Dev.Grow.setBline _ _ hp

/-- A read of a register that no latch holds: what its fields show, and after it the pair latched and the RC fields
cleared (R5, R113). -/
theorem Dev.regRead_shown (d : Dev) {a : Nat} {l : Loc} (ha : regAddr a = a) (hl : d.regAt a = some l)
    (hs : stagedView a = false) (hc : d.blkReg 0xF04 a = none) (hn : a ≠ TB_NOWL.addr) (hh : d.held a = none) :
    d.regRead a = (d.readable l (d.shown l a), (if latchesHigh l then d.latchHigh (a + 4) else d).clearRc l a) := by
  simp [Dev.regRead, ha, hs, hc, hl, hn, hh]

/-- A read clears every RC field of its register: no lock holds one (R5). -/
theorem Dev.get_clearRc (d : Dev) {l : Loc} {a : Nat} {f : FieldSpec} (hl : locate a = some l) (hf : f ∈ l.row.fields)
    (hc : f.acc = .rc) : (d.clearRc l a).get ⟨a, f.hi, f.lo⟩ = 0 := by
  have hmem : f ∈ d.rcFields l := by
    simp [Dev.rcFields, hf, hc, Dev.fieldLocked_clearing d hl hf (.inl hc)]
  have zero : (d.rcCleared l a).get ⟨a, f.hi, f.lo⟩ = 0 := by
    refine foldl_sets (P := fun e : Dev => e.get ⟨a, f.hi, f.lo⟩ = 0) d hmem ?_ ?_
    · intro e
      rw [Dev.get_put_row e hl hf hf, if_pos rfl, Nat.zero_mod]
    · intro e he g hg
      rw [Dev.get_put_row e hl hf (List.mem_of_mem_filter hg), Nat.zero_mod, he, ite_self]
  rcases d.clearRc_cases l a with h | ⟨x, h⟩ <;> rw [h]
  · exact zero
  · rw [Dev.get_setBline, zero]

/-- READ_CLEAR and CINTL_READ at a register that no latch holds. -/
theorem State.lift_readDev (d : Dev) (q : List Instr) {a : Nat} {l : Loc} (h : d.ready) (ha : regAddr a = a)
    (hl : d.regAt a = some l) (hs : stagedView a = false) (hc : d.blkReg 0xF04 a = none) (hn : a ≠ TB_NOWL.addr)
    (hh : d.held a = none) :
    (⟨d, q⟩ : State).lift (readDev a) = .next ⟨({ (if latchesHigh l then d.latchHigh (a + 4) else d).clearRc l a with
      readData := d.readable l (d.shown l a) }).commandDone, q⟩ := by
  have hg : Dev.Grow d ((if latchesHigh l then d.latchHigh (a + 4) else d).clearRc l a) :=
    Dev.Grow.clearRc _ _ (Dev.Grow.ite (Dev.Grow.latchHigh _ (Dev.Grow.refl d)) (Dev.Grow.refl d))
  unfold readDev
  exact State.lift_command d q _ _ h (by rw [Dev.regRead_shown d ha hl hs hc hn hh]) hg.asks hg.build hg.role hg.fz

/-- Where the low halves of the cell integrals lie (Table 4-1). -/
def cintlLoc (x : Afe) (k : Nat) : Loc :=
  ⟨afeDie x, .cvw, afeBase x, 0x400 + 8 * (k - 1), ⟨0x400, 8, 19, [⟨31, 0, .ro, 0⟩]⟩, k - 1⟩

theorem locate_CVW_CINTL (x : Afe) (k : Nat) (h1 : 1 ≤ k) (h18 : k ≤ 18) :
    locate (CVW_CINTL x k).addr = some (cintlLoc x k) := by
  cases x <;> interval_cases k <;> rfl

theorem setBits_bitsOf_word (w : Word) : setBits 0 31 0 (bitsOf w 31 0) = w := by
  apply BitVec.eq_of_toNat_eq
  have := w.isLt
  simp only [setBits, setNat, bitsOf, bitsNat, BitVec.toNat_ofNat]
  norm_num
  omega

theorem Dev.regAt_CVW_CINTL (d : Dev) (x : Afe) (k : Nat) (hf : fits d.build (afeDie x) = true) (h1 : 1 ≤ k)
    (h18 : k ≤ 18) : d.regAt (CVW_CINTL x k).addr = some (cintlLoc x k) := by
  have hb : d.hasBlk (afeDie x) .cvw = true := by simp [Dev.hasBlk, hf]
  have hoff : ¬ (cintlLoc x k).off < 0x40 := by
    simp only [cintlLoc]
    omega
  have hr : d.reservedRow (cintlLoc x k) = false := by
    simp only [Dev.reservedRow, show (cintlLoc x k).blk = .cvw from rfl, hoff, decide_false, Bool.and_false]
  simp [Dev.regAt, locate_CVW_CINTL x k h1 h18, hr, show d.hasBlk (cintlLoc x k).die (cintlLoc x k).blk = true from hb]

/-- The addresses of the low halves are aligned, live, and no BLOCK_CSTAT. -/
theorem CVW_CINTL_addr (x : Afe) (k : Nat) (h1 : 1 ≤ k) (h18 : k ≤ 18) :
    regAddr (CVW_CINTL x k).addr = (CVW_CINTL x k).addr ∧ stagedView (CVW_CINTL x k).addr = false
    ∧ (CVW_CINTL x k).addr ≠ afeBase x + 0xF04 ∧ (CVW_CINTL x k).addr ≠ TB_NOWL.addr := by
  cases x <;> interval_cases k <;> decide

/-- A read of the low half of a cell integral answers it whole and clears nothing. -/
theorem Dev.cintl_read (d : Dev) (x : Afe) (k : Nat) (h18 : k ≤ 18) :
    d.readable (cintlLoc x k) (d.shown (cintlLoc x k) (CVW_CINTL x k).addr) = d.word (CVW_CINTL x k).addr
    ∧ (if latchesHigh (cintlLoc x k) then d.latchHigh ((CVW_CINTL x k).addr + 4) else d).clearRc (cintlLoc x k)
      (CVW_CINTL x k).addr = d.latchHigh ((CVW_CINTL x k).addr + 4) := by
  have hf : d.fieldLocked (cintlLoc x k) ⟨31, 0, .ro, 0⟩ = false := by
    simp [Dev.fieldLocked, Dev.lifeLocked, cintlLoc]
  have hl : latchesHigh (cintlLoc x k) = true := by
    have hoff : (cintlLoc x k).off < 0x4A0 := by
      simp only [cintlLoc]
      omega
    simp [latchesHigh, show (cintlLoc x k).blk = .cvw from rfl, show (cintlLoc x k).row.off = 0x400 from rfl, hoff]
  constructor
  · simp only [Dev.readable, show (cintlLoc x k).row.fields = [⟨31, 0, .ro, 0⟩] from rfl, List.foldl_cons,
      List.foldl_nil, hf]
    exact setBits_bitsOf_word _
  · rw [if_pos hl]
    rfl

/-! ## The clauses of RegisterAccessesComplete -/

/-- A write to a register without an action, no field of which is locked, puts each field by its class (R5, R31). -/
theorem exec_registerWrite_free {d : Dev} {a : Nat} {l : Loc} (q : List Instr) (v : Word) (h : d.ready)
    (hp : d.Plain a l) (hf : ∀ f ∈ l.row.fields, d.fieldLocked l f = false) :
    exec (.registerWrite a v) ⟨d, q⟩ = .next ⟨(d.putFields l a v).commandDone, q⟩ := by
  have ho : d.offends l a v = false := by
    rw [Dev.offends, List.any_eq_false]
    intro f hm
    simp [hf f hm]
  have hw : d.regWrite a v = d.putFields l a v := by
    rw [hp.regWrite, ho, Dev.allowed_free d l a v hf hp.not_mask.1 hp.not_mask.2]
    rfl
  exact State.lift_command_grow d q _ _ h hw (Dev.Grow.putFields _ _ _ (Dev.Grow.refl d))

/-- A write that would change a locked field counts as a violation with its address, and locked fields stay (R41, R44). -/
theorem exec_registerWrite_offends {d : Dev} {a : Nat} {l : Loc} (q : List Instr) (v : Word) (h : d.ready)
    (hp : d.Plain a l) (ho : d.offends l a v = true) :
    ∃ t, exec (.registerWrite a v) ⟨d, q⟩ = .next t ∧ t.dev.get SYS_SVIOL_ADDR = a
      ∧ t.dev.get SYS_SVIOL_CNT = min 255 (d.get SYS_SVIOL_CNT + 1)
      ∧ ∀ f ∈ l.row.fields, d.fieldLocked l f = true → t.dev.get ⟨a, f.hi, f.lo⟩ = d.get ⟨a, f.hi, f.lo⟩ := by
  have hw : d.regWrite a v = (d.violation a).putFields l a (d.allowed l a v) := by
    rw [hp.regWrite, if_pos ho]
  have hv : a ≠ SYS_SVIOL_CNT.addr := hp.offends_ne_sviol v ho
  have hs : ((d.violation a).putFields l a (d.allowed l a v)).word SYS_SVIOL_CNT.addr
      = (d.violation a).word SYS_SVIOL_CNT.addr :=
    Dev.word_putFields_other _ _ _ _ _ hv.symm (by simp only [SYS_SVIOL_CNT]; omega)
  have keep (b : Nat) (hb : b ≠ SYS_SVIOL_CNT.addr) (hi lo : Nat) :
      (d.violation a).get ⟨b, hi, lo⟩ = d.get ⟨b, hi, lo⟩ :=
    congrArg (bitsOf · hi lo) (Dev.word_violation_other d a b hb)
  refine ⟨_, State.lift_command_grow d q _ _ h hw (Dev.Grow.putFields _ _ _ (Dev.Grow.violation _ (Dev.Grow.refl d))),
    ?_, ?_, ?_⟩
  · exact (congrArg (bitsOf · 23 0) hs).trans (Dev.violation_addr d a hp.lt)
  · exact (congrArg (bitsOf · 31 24) hs).trans (Dev.violation_cnt d a)
  · intro f hf hlock
    have hw1c : f.acc ≠ .w1c := fun hc => by
      rw [Dev.fieldLocked_clearing d hp.loc hf (.inr hc)] at hlock
      cases hlock
    have hval := Dev.allowed_locked d l a v f (locate_some hp.loc).1 hp.not_mask.1 hp.not_mask.2 hf hlock
    exact (Dev.get_putFields_kept _ l a _ f hp.loc (Dev.regAt_ne hp.reg hp.cstat) hf hw1c
      (hval.trans (keep a hv _ _).symm)).trans (keep a hv _ _)

/-- A write whose whole access is a violation changes SYS_SVIOL alone (R44). -/
theorem exec_registerWrite_violation {d : Dev} {a : Nat} (q : List Instr) (v : Word) (h : d.ready)
    (hw : d.regWrite a v = d.violation a) :
    exec (.registerWrite a v) ⟨d, q⟩
      = .next ⟨((d.countSat SYS_SVIOL_CNT 1).put SYS_SVIOL_ADDR a).commandDone, q⟩ :=
  State.lift_command_grow d q _ _ h hw (Dev.Grow.violation _ (Dev.Grow.refl d))

theorem Dev.regWrite_absent (d : Dev) {a : Nat} (v : Word) (ha : regAddr a = a) (hr : d.regAt a = none)
    (h0 : d.blkReg 0xF00 a = none) (h4 : d.blkReg 0xF04 a = none) (hob : observing a = false) :
    d.regWrite a v = d.violation a := by
  simp [Dev.regWrite, hob, Dev.regWriteObs, ha, hr, h0, h4]

theorem Dev.regWrite_stagedView (d : Dev) {a : Nat} (v : Word) (ha : regAddr a = a) (hs : stagedView a = true)
    (hob : observing a = false) : d.regWrite a v = d.violation a := by
  simp [Dev.regWrite, hob, Dev.regWriteObs, ha, hs]

/-- READ_CLEAR answers the value shown, and the RC fields read zero after it (R5). -/
theorem exec_readClear {d : Dev} {a : Nat} {l : Loc} (q : List Instr) (h : d.ready) (ha : regAddr a = a)
    (hl : d.regAt a = some l) (hs : stagedView a = false) (hc : d.blkReg 0xF04 a = none) (hn : a ≠ TB_NOWL.addr)
    (hh : d.held a = none) :
    ∃ t, exec (.readClear a) ⟨d, q⟩ = .next t ∧ t.dev.readData = d.readable l (d.shown l a)
      ∧ ∀ f ∈ l.row.fields, f.acc = .rc → t.dev.get ⟨a, f.hi, f.lo⟩ = 0 :=
  ⟨_, State.lift_readDev d q h ha hl hs hc hn hh, rfl,
    fun _ hf hrc => Dev.get_clearRc _ (Dev.regAt_some hl).1 hf hrc⟩

/-- CINTL_READ answers the low half and latches the high half of its pair (R113). -/
theorem exec_cintlRead {d : Dev} {x : Afe} {k : Nat} (q : List Instr) (h : d.ready) (hf : fits d.build (afeDie x) = true)
    (h1 : 1 ≤ k) (h18 : k ≤ 18) (hh : d.held (CVW_CINTL x k).addr = none) :
    exec (.cintlRead (CVW_CINTL x k).addr) ⟨d, q⟩ = .next ⟨({ d.latchHigh ((CVW_CINTL x k).addr + 4) with
      readData := d.word (CVW_CINTL x k).addr }).commandDone, q⟩ := by
  obtain ⟨ha, hs, hne, hn⟩ := CVW_CINTL_addr x k h1 h18
  obtain ⟨hread, hlatch⟩ := Dev.cintl_read d x k h18
  have hc : d.blkReg 0xF04 (CVW_CINTL x k).addr = none := by
    simp [Dev.blkReg, (locate_some (locate_CVW_CINTL x k h1 h18)).2, cintlLoc, hne]
  have hrun := State.lift_readDev d q h ha (Dev.regAt_CVW_CINTL d x k hf h1 h18) hs hc hn hh
  rw [hread, hlatch] at hrun
  exact hrun

/-- TB_NOWL_READ answers TBTIME and holds its high half and the fraction (R371, R387). -/
theorem exec_tbNowlRead {d : Dev} (q : List Instr) (h : d.ready) :
    exec .tbNowlRead ⟨d, q⟩ = .next ⟨(tbNowlReadDev d).commandDone, q⟩ :=
  State.lift_command d q _ _ h rfl rfl rfl rfl rfl

/-- Settles O9: a write is taken apart by the locks of its register, a read by what its register shows and latches. -/
theorem registerAccessesComplete : Obligations.RegisterAccessesComplete := by
  unfold Obligations.RegisterAccessesComplete
  refine ⟨?_, ?_, ?_, ?_, ?_, ?_⟩
  · intro d q a v l h hlt h4 hl hcom hcs hs hq
    have hp : d.Plain a l := ⟨regAddr_self hlt h4, hlt, hl, hcom, hcs, hs, hq⟩
    exact ⟨exec_registerWrite_free q v h hp, exec_registerWrite_offends q v h hp⟩
  · intro d q a v h hlt h4 hl hcom hcs hob
    exact exec_registerWrite_violation q v h (d.regWrite_absent v (regAddr_self hlt h4) hl hcom hcs hob)
  · intro d q a v h hlt h4 hs hob
    exact exec_registerWrite_violation q v h (d.regWrite_stagedView v (regAddr_self hlt h4) hs hob)
  · intro d q a l h hlt h4 hl hs hcs hn hh
    exact exec_readClear q h (regAddr_self hlt h4) hl hs hcs hn hh
  · intro d q x k h hf h1 h18 hh
    exact exec_cintlRead q h (by cases x <;> exact hf) h1 h18 hh
  · intro d q h
    exact exec_tbNowlRead q h

/-! ## Reset -/

/-- A store lists nothing at an address that none of its entries has. -/
theorem Store.find_none {a : Nat} {s : Store} (h : ∀ p ∈ s, p.1 ≠ a) : Store.find a s = none := by
  induction s with
  | nil => rfl
  | cons p rest ih =>
    obtain ⟨b, w⟩ := p
    simp only [List.forall_mem_cons] at h
    rw [Store.find, if_neg h.1, ih h.2]

/-- The words that NVM and fuses show differ from the reset words, and stand in rising order of their addresses. -/
theorem shownRegs_wf : Store.wf (resetWord .F .member) shownRegs = true := by decide +kernel

/-- A register that NVM and fuses do not show holds its reset word after reset (R7). -/
theorem reset_word {a : Nat} (h : ∀ p ∈ shownRegs, p.1 ≠ a) : State.reset.dev.word a = resetWord .F .member a := by
  simp only [Dev.word, State.reset, Store.find_none h]
  rfl

/-- The fields that the statement names, read from the reset column and from what the fuses show. -/
theorem reset_named_fields : let d := State.reset.dev
    d.get PWR_BUDGET_BUDGET = 0 ∧ d.get PWR_BUDGET_HOLD = 10 ∧ d.get PWR_BUDGET_FLOOR = 2 ∧ d.get (CVW_WLEN .L) = 120000
    ∧ d.get LCS_STAT_STATE = 0 ∧ d.get SPN_POS_VALID = 0 ∧ d.get IIC_TIM1_TLOW = 240 := by
  decide +kernel

/-- Settles O6: the register store of reset is the list of shown words, and nothing is staged. -/
theorem resetState : Obligations.ResetState := by
  have hsound : State.reset.dev.sound := ⟨rfl, rfl, rfl, rfl⟩
  exact ⟨rfl, hsound, shownRegs_wf, by decide, rfl, fun _ => reset_word, fun _ => rfl, reset_named_fields⟩

end Sys2Proof.Machine
end

section
/-!
SUPPORT. What a step can do, whatever the command (02, R12, R41): its effect on the device is lifted, so that the queue,
the build, the role and the burned fuses are kept, and the invariant of the machine with them.
-/

namespace Sys2Proof.Machine

/-! ## Every command is a lifted effect -/

/-- A command is an effect on the device, lifted, and the role is the one before or, at a start from power-on, the one
that the effect leaves (R12). -/
theorem exec_eq_after (c : Instr) (s : State) : ∃ f r,
    exec c s = .next ⟨{ s.dev.after f with role := r }, s.pending⟩ ∧ (startsPart c = false → r = s.dev.role) := by
  cases c with
  | powerOnReset | brownOut | shipEntryDone => exact ⟨_, _, rfl, nofun⟩
  | _ => exact ⟨_, _, rfl, fun _ => rfl⟩

/-- The same of a next state that a command has answered. -/
theorem exec_next {c : Instr} {s t : State} (h : exec c s = .next t) : ∃ f r,
    t = ⟨{ s.dev.after f with role := r }, s.pending⟩ ∧ (startsPart c = false → r = s.dev.role) := by
  obtain ⟨f, r, he, hr⟩ := exec_eq_after c s
  cases he.symm.trans h
  exact ⟨f, r, rfl, hr⟩

/-- Settles O2: a command is a lifted effect, and the lift answers a next state whatever the effect. -/
theorem everyCommandAnswersANextState : Obligations.EveryCommandAnswersANextState := by
  intro c s
  obtain ⟨f, r, he, hr⟩ := exec_eq_after c s
  exact ⟨_, he, rfl, rfl, Dev.after_asks f s.dev, hr⟩

/-! ## The invariant of the machine -/

theorem Fuses.le_refl (f : Fuses) : f.le f := ⟨fun _ => le_rfl, le_rfl, fun _ => le_rfl, fun _ => le_rfl⟩

/-- A lifted effect leaves no request over and keeps how many fuses of each kind the part has (R494, R496, R498). -/
theorem Dev.after_sound {d : Dev} (f : Dev → Dev) (h : d.sound) : (d.after f).sound := by
  obtain ⟨-, hchain, hbanks, hspares⟩ := h
  exact ⟨Dev.after_asks f d, (keepCounts_length ..).trans hchain, (keepCounts_length ..).trans hbanks,
    (keepCounts_length ..).trans hspares⟩

/-- Settles O4: a step idles, or it is the lifted effect of the command in front of the queue. -/
theorem stepsKeepTheMachineSound : Obligations.StepsKeepTheMachineSound := by
  rintro ⟨d, q⟩ t hs h
  cases q with
  | nil =>
    cases h
    exact ⟨hs, rfl, d.fz.le_refl, fun _ => rfl⟩
  | cons c q =>
    obtain ⟨f, r, rfl, hr⟩ := exec_next h
    exact ⟨Dev.after_sound f hs, rfl, Dev.after_fuses f d, fun hc => hr (hc c rfl)⟩

end Sys2Proof.Machine
end

section
/-!
SUPPORT. The start of a part from power-on (02, 03, R12, R45, R533): what loading the stored settings, booting an image
and clearing the bus leave as the start set it.
-/

namespace Sys2Proof.Machine

/-! ## Addresses of an AFE die -/

/-- No register of an AFE die stands at the first address, where SYS_STAT stands. -/
theorem afe_addr_pos (a : Afe) (n : Nat) : 0 < afeBase a + n := by cases a <;> exact Nat.add_pos_left (by decide) n

/-- The same of an item of an array of registers. -/
theorem afe_item_pos (a : Afe) (n i : Nat) : 0 < afeBase a + n + i := Nat.add_pos_left (afe_addr_pos a n) i

/-! ## What filling in a part that starts leaves alone -/

/-- What loading, booting and reporting leave as the start set it: what the part is, its time, its supply and SYS_STAT;
and they ask for nothing. -/
structure Dev.Filled (d e : Dev) : Prop where
  build : e.build = d.build
  role  : e.role = d.role
  mtick : e.mtick = d.mtick
  asks  : e.asks = d.asks
  off   : e.pw.off = d.pw.off
  vstk  : e.pw.vstkOk = d.pw.vstkOk
  stat  : e.word SYS_STAT_ROLE.addr = d.word SYS_STAT_ROLE.addr

namespace Dev.Filled

variable {d e : Dev}

theorem refl (d : Dev) : Dev.Filled d d := ⟨rfl, rfl, rfl, rfl, rfl, rfl, rfl⟩

theorem trans {f : Dev} (h : Dev.Filled d e) (g : Dev.Filled e f) : Dev.Filled d f where
  build := g.build.trans h.build
  role := g.role.trans h.role
  mtick := g.mtick.trans h.mtick
  asks := g.asks.trans h.asks
  off := g.off.trans h.off
  vstk := g.vstk.trans h.vstk
  stat := g.stat.trans h.stat

/-- A device that differs in none of the registers and in nothing that is named here. -/
theorem upd {f : Dev} (h : Dev.Filled d e) (hregs : f.regs = e.regs) (hb : f.build = e.build) (hr : f.role = e.role)
    (hm : f.mtick = e.mtick) (ha : f.asks = e.asks) (ho : f.pw.off = e.pw.off) (hv : f.pw.vstkOk = e.pw.vstkOk) :
    Dev.Filled d f :=
  h.trans ⟨hb, hr, hm, ha, ho, hv, by unfold Dev.word; rw [hregs, hb, hr]⟩

/-- SYS_STAT stands at the first address, so that a write anywhere else keeps it. -/
theorem setWord (h : Dev.Filled d e) {a : Nat} (ha : 0 < a) (v : Word) : Dev.Filled d (e.setWord a v) :=
  h.trans ⟨rfl, rfl, rfl, rfl, rfl, rfl, (e.word_setWord a v 0).trans (if_neg (Nat.ne_of_lt ha))⟩

theorem put (h : Dev.Filled d e) {f : Fld} (hf : 0 < f.addr) (v : Nat) : Dev.Filled d (e.put f v) := h.setWord hf _

theorem raise (h : Dev.Filled d e) (code src : Nat) (items : List Nat) : Dev.Filled d (e.raise code src items) :=
  h.trans ⟨by simp, by simp, by simp, by simp, by simp, by simp, Dev.raise_word _ _ _ _ _ (by decide)⟩

theorem each {α : Type} (h : Dev.Filled d e) (xs : List α) {f : Dev → α → Dev}
    (hf : ∀ x ∈ xs, ∀ c, Dev.Filled d c → Dev.Filled d (f c x)) : Dev.Filled d (e.each xs f) :=
  List.foldlRecOn xs f h (fun c hc x hx => hf x hx c hc)

theorem emit (h : Dev.Filled d e) (o : Output) : Dev.Filled d (e.emit o) := h.upd rfl rfl rfl rfl rfl rfl rfl

theorem setBz (h : Dev.Filled d e) (a : Afe) (b : BzlSt) : Dev.Filled d (e.setBz a b) := by
  cases a <;> exact h.upd rfl rfl rfl rfl rfl rfl rfl

theorem withNvm (h : Dev.Filled d e) (x : NvmSt) : Dev.Filled d { e with nvm := x } := h.upd rfl rfl rfl rfl rfl rfl rfl

theorem withCap (h : Dev.Filled d e) (x : CapSt) : Dev.Filled d { e with cap := x } := h.upd rfl rfl rfl rfl rfl rfl rfl

theorem withBurl (h : Dev.Filled d e) (x : BurlSt) : Dev.Filled d { e with burl := x } := h.upd rfl rfl rfl rfl rfl rfl rfl

theorem withFw (h : Dev.Filled d e) (x : FwSt) : Dev.Filled d { e with fw := x } := h.upd rfl rfl rfl rfl rfl rfl rfl

/-! ### The registers that NVM, fuses and Burl show -/

theorem showLife (h : Dev.Filled d e) : Dev.Filled d e.showLife :=
  ((h.put (by decide) _).put (by decide) _).put (by decide) _

theorem showBankFuses (h : Dev.Filled d e) : Dev.Filled d e.showBankFuses :=
  (h.put (by decide) _).each _ fun b _ _ hc => hc.put (Nat.add_pos_left (by decide) (16 * b)) _

theorem showSlots (h : Dev.Filled d e) : Dev.Filled d e.showSlots := (h.put (by decide) _).put (by decide) _

theorem showKept (h : Dev.Filled d e) (old : Dev) : Dev.Filled d (e.showKept old) := by
  unfold Dev.showKept
  extract_lets words _ _ shown
  have hwords : Dev.Filled d words := h.each _ fun a ha c hc => hc.setWord (by revert a; decide) _
  have hshown : Dev.Filled d shown :=
    (((hwords.put (by decide) _).put (by decide) _).setWord (by decide) _).showLife.showBankFuses
  split
  · exact (((hshown.put (by decide) _).setWord (by decide) _).setWord (by decide) _).showSlots
  · exact hshown

/-! ### The settings that an AFE die loads -/

theorem showSet (h : Dev.Filled d e) (a : Afe) (s : TrimSet) : Dev.Filled d (e.showSet a s) := by
  unfold Dev.showSet
  extract_lets shown
  have trims : Dev.Filled d shown := h.each _ fun k _ _ hc =>
    ((hc.put (f := CAL_OFS a k) (afe_item_pos ..) _).put (f := CAL_GAIN a k) (afe_item_pos ..) _).put
      (f := CAL_VCALM a k) (afe_item_pos ..) _
  exact (((trims.put (f := CAL_CNT a) (afe_addr_pos ..) _).put (f := CAL_TL a) (afe_addr_pos ..) _).put (f := CAL_TH a)
    (afe_addr_pos ..) _).put (f := CAL_STAT_SRC a) (afe_addr_pos ..) _

theorem calLoad (h : Dev.Filled d e) (bad : Bool) (a : Afe) : Dev.Filled d (e.calLoad bad a) := by
  unfold Dev.calLoad
  split
  · exact (h.showSet a _).raise ..
  · exact h.showSet a _

theorem bzlLoad (h : Dev.Filled d e) (bad : Bool) (a : Afe) : Dev.Filled d (e.bzlLoad bad a) := by
  unfold Dev.bzlLoad
  split
  · exact h
  · split
    · exact ((h.withNvm _).setBz a _).raise ..
    · refine h.each _ fun p hp c hc => hc.setWord ?_ _
      obtain ⟨o, -, ho⟩ := List.mem_map.mp (List.of_mem_zip hp).1
      exact ho ▸ afe_addr_pos a o

theorem clampThresholds (h : Dev.Filled d e) (a : Afe) : Dev.Filled d (e.clampThresholds a) :=
  h.each _ fun k _ _ hc =>
    (hc.put (f := CMP_THR_OV a k) (afe_item_pos ..) _).put (f := CMP_THR_UV a k) (afe_item_pos ..) _

theorem sdcLoad (h : Dev.Filled d e) (bad : Bool) : Dev.Filled d (e.sdcLoad bad) := by
  unfold Dev.sdcLoad
  extract_lets _ loaded
  suffices hl : Dev.Filled d loaded from hl.put (by decide) _
  unfold loaded
  split
  · split
    · exact (h.withNvm _).raise ..
    · exact ((h.put (by decide) _).setWord (by decide) _).setWord (by decide) _
  · exact h

theorem loadDie (h : Dev.Filled d e) (a : Afe) (badCal badBzl badSdc : Bool) :
    Dev.Filled d (e.loadDie a badCal badBzl badSdc) := by
  have loaded := ((h.calLoad badCal a).bzlLoad badBzl a).clampThresholds a
  cases a with
  | L => exact loaded.sdcLoad badSdc
  | U => exact loaded

theorem bezelPowerUp (h : Dev.Filled d e) (a : Afe) : Dev.Filled d (e.bezelPowerUp a) :=
  (((((h.put (afe_addr_pos ..) _).put (afe_addr_pos ..) _).put (afe_addr_pos ..) _).put (afe_addr_pos ..) _).put
    (afe_addr_pos ..) _).setBz a _

/-! ### Capture, image and bus -/

theorem fitCap (h : Dev.Filled d e) : Dev.Filled d e.fitCap :=
  (((h.withCap _).put (by decide) _).put (by decide) _).put (by decide) _

theorem setSlot (h : Dev.Filled d e) (i : Nat) (f : Slot → Slot) : Dev.Filled d (e.setSlot i f) :=
  (h.withBurl _).showSlots

theorem findIncomplete (h : Dev.Filled d e) : Dev.Filled d e.findIncomplete := by
  unfold Dev.findIncomplete
  split
  · exact h
  · exact h.each _ fun i _ c hc => (hc.setSlot i _).raise ..

theorem bootImage (h : Dev.Filled d e) (aOk bOk : Bool) : Dev.Filled d (e.bootImage aOk bOk) := by
  unfold Dev.bootImage
  extract_lets next good run core named _ other _ _ booted
  have hrun (c : Dev) (s : Nat) (hc : Dev.Filled d c) : Dev.Filled d (run c s) :=
    ((hc.withFw _).put (by decide) _).put (by decide) _
  have hcore : Dev.Filled d core := h.put (by decide) _
  have hnamed : Dev.Filled d named := (hrun _ _ hcore).put (by decide) _
  have hother : Dev.Filled d other := (hrun _ _ hcore).put (by decide) _
  have hbooted : Dev.Filled d booted := by
    unfold booted
    split_ifs
    · exact ((hnamed.withFw _).put (by decide) _).raise ..
    · exact hnamed
    · exact (hother.withFw _).raise ..
    · exact hcore.withFw _
  split
  · exact (hbooted.withFw _).raise ..
  · exact hbooted

theorem busClear (h : Dev.Filled d e) (o : IicBusObs) : Dev.Filled d (e.busClear o) := by
  have he : Dev.Filled d (e.emit .iicPulses) := h.emit _
  unfold Dev.busClear
  split_ifs
  · exact h
  · exact ((he.put (by decide) _).put (by decide) _).raise ..
  · exact he
  · exact (he.put (by decide) _).raise ..

theorem sendTone (h : Dev.Filled d e) (p : Port) : Dev.Filled d (e.sendTone p) := by
  have sent : Dev.Filled d ((e.emit (.tone p (decide (pTrain ≤ e.pstate p)))).countMod SPN_TONE_TX 1) :=
    (h.emit _).put (by decide) _
  cases p <;> exact sent.upd rfl rfl rfl rfl rfl rfl rfl

end Dev.Filled

/-! ## The power-on reset -/

/-- What a loss of power breaks off leaves the build and the supplies alone. -/
theorem Dev.breakOff_keeps (d : Dev) : d.breakOff.build = d.build ∧ d.breakOff.pw = d.pw := by
  unfold Dev.breakOff
  extract_lets burnt
  have h : burnt.build = d.build ∧ burnt.pw = d.pw := by
    unfold burnt
    split <;> exact ⟨rfl, rfl⟩
  split
  · split
    · exact h
    · exact h
  · exact h

/-- The device that a start from power-on begins with: HEADSEL gives its role (R12), nothing is loaded yet, and its buck
is supplied as before. -/
def Dev.blankStart (d : Dev) (headsel : Bool) : Dev :=
  { Dev.anew d.build (if headsel then .head else .member) with pw := { PowerSt.init with vstkOk := d.pw.vstkOk } }

/-- SYS_STAT of the device that a start begins with reports the role (R12). -/
theorem Dev.blankStart_stat (d : Dev) (headsel : Bool) :
    (d.blankStart headsel).word SYS_STAT_ROLE.addr = if headsel then 1 else 0 := by
  cases headsel <;> rfl

/-- A power-on reset fills in a blank device and reports its cause. -/
theorem Dev.powerOn_eq (d : Dev) (cause : Nat) (b : BootObs) :
    ∃ e, Dev.Filled (d.blankStart b.headsel) e ∧ d.powerOn cause b = e.put SYS_RSTCAUSE_CAUSE cause := by
  obtain ⟨hbuild, hpw⟩ := d.breakOff_keeps
  unfold Dev.powerOn
  extract_lets broken _ _ blank kept loaded powered booted _ supplied cleared relayed
  refine ⟨relayed, ?_, rfl⟩
  have hloaded : Dev.Filled blank loaded := ((Dev.Filled.refl blank).showKept broken).each _ fun a _ c hc => by
    cases a <;> exact hc.loadDie ..
  have hpowered : Dev.Filled blank powered := ((hloaded.each _ fun a _ c hc => hc.bezelPowerUp a).fitCap).findIncomplete
  have hbooted : Dev.Filled blank booted := hpowered.bootImage ..
  have hvstk : broken.pw.vstkOk = d.pw.vstkOk := by rw [← hpw]
  have hsupplied : Dev.Filled (d.blankStart b.headsel) supplied :=
    ⟨hbooted.build.trans hbuild, hbooted.role, hbooted.mtick, hbooted.asks, hbooted.off, hvstk, hbooted.stat⟩
  have hcleared : Dev.Filled (d.blankStart b.headsel) cleared := by
    unfold cleared
    split
    · exact hsupplied
    · exact hsupplied.busClear b.iic
  unfold relayed
  split
  · split
    · exact (hcleared.put (f := SPN_TONE_RX) (by decide) _).sendTone _
    · exact hcleared
  · exact hcleared

/-- What a start from power-on leaves, whatever its cause. -/
structure Dev.Started (d : Dev) (cause : Nat) (headsel : Bool) (e : Dev) : Prop where
  build : e.build = d.build
  role  : e.role = if headsel then .head else .member
  mtick : e.mtick = 0
  asks  : e.asks = []
  off   : e.pw.off = false
  vstk  : e.pw.vstkOk = d.pw.vstkOk
  stat  : e.get SYS_STAT_ROLE = if headsel then 1 else 0
  cause : e.get SYS_RSTCAUSE_CAUSE = cause % 256

theorem Dev.powerOn_started (d : Dev) (cause : Nat) (b : BootObs) : Dev.Started d cause b.headsel (d.powerOn cause b) := by
  obtain ⟨e, he, heq⟩ := d.powerOn_eq cause b
  have hstat : (e.put SYS_RSTCAUSE_CAUSE cause).get SYS_STAT_ROLE = (d.blankStart b.headsel).get SYS_STAT_ROLE := by
    rw [Dev.get_put_apart _ _ _ _ (by decide) (by decide) (by decide), Dev.get, he.stat, Dev.get]
  rw [heq]
  refine ⟨he.build, he.role, he.mtick, he.asks, he.off, he.vstk, hstat.trans ?_, Dev.get_put_same _ _ _ (by decide)⟩
  rw [Dev.get, Dev.blankStart_stat]
  cases b.headsel <;> decide

/-- An effect that asks for nothing and keeps the build is the effect of its command, but that no fuse heals. -/
theorem Dev.after_of_settled {d : Dev} {f : Dev → Dev} (ha : (f d).settled) (hb : (f d).build = d.build) :
    d.after f = { f d with fz := d.fz.kept (f d).fz } := by
  unfold Dev.after
  dsimp only
  rw [Dev.takeAsks_nil _ _ ha, ← hb]

/-- A command that starts the part from power-on leaves it started. -/
theorem Dev.after_started {d : Dev} {f : Dev → Dev} {cause : Nat} {headsel : Bool}
    (h : Dev.Started d cause headsel (f d)) : Dev.Started d cause headsel (d.after f) := by
  rw [Dev.after_of_settled h.asks h.build]
  exact ⟨h.build, h.role, h.mtick, h.asks, h.off, h.vstk, h.stat, h.cause⟩

/-- POWER_ON_RESET and BROWN_OUT are the start with its cause (R45, R533). -/
theorem powerOnReset_started (b : BootObs) (d : Dev) : Dev.Started d 0x01 b.headsel (d.after (powerOnResetDev b)) :=
  Dev.after_started (d.powerOn_started 1 b)

theorem brownOut_started (b : BootObs) (d : Dev) : Dev.Started d 0x02 b.headsel (d.after (brownOutDev b)) :=
  Dev.after_started (d.powerOn_started 2 b)

/-- Settles O14: both commands are the start from power-on, lifted. -/
theorem powerOnResetsComplete : Obligations.PowerOnResetsComplete := by
  intro d q b
  have h1 := powerOnReset_started b d
  have h2 := brownOut_started b d
  exact ⟨⟨_, rfl, rfl, h1.cause, h1.role, h1.build, h1.mtick, h1.off, h1.vstk, Dev.after_fuses _ d⟩,
    ⟨_, rfl, rfl, h2.cause, h2.role, h2.build, h2.mtick, h2.off, h2.vstk, Dev.after_fuses _ d⟩⟩

end Sys2Proof.Machine
end

section
/-!
SUPPORT. What register accesses ask of the device (02, R48): the resets of dies, the host's rings and an enumeration that
the host orders leave alone what the work of the blocks leaves alone.
-/

namespace Sys2Proof.Machine

namespace Dev.Grow

variable {d e : Dev}

/-! ## Parts of the device that are not named -/

theorem withHif (x : HifSt) (h : Dev.Grow d e) : Dev.Grow d { e with hif := x } := by apply h.upd <;> rfl
theorem withHd (x : HeadSt) (h : Dev.Grow d e) : Dev.Grow d { e with hd := x } := by apply h.upd <;> rfl
theorem withCap (x : CapSt) (h : Dev.Grow d e) : Dev.Grow d { e with cap := x } := by apply h.upd <;> rfl
theorem withBurl (x : BurlSt) (h : Dev.Grow d e) : Dev.Grow d { e with burl := x } := by apply h.upd <;> rfl
theorem withBal (x : BalSt) (h : Dev.Grow d e) : Dev.Grow d { e with bal := x } := by apply h.upd <;> rfl
theorem withDraws (x : Nat) (h : Dev.Grow d e) : Dev.Grow d { e with draws := x } := by apply h.upd <;> rfl

theorem wipe (lo hi : Nat) (h : Dev.Grow d e) : Dev.Grow d (e.wipe lo hi) := by apply h.upd <;> rfl
theorem dropLatches (lo hi : Nat) (h : Dev.Grow d e) : Dev.Grow d (e.dropLatches lo hi) := by apply h.upd <;> rfl
theorem dieFails (x : Die) (h : Dev.Grow d e) : Dev.Grow d (e.dieFails x) := by apply h.upd <;> rfl

/-! ## The host's rings -/

theorem flushComps (n : Nat) (h : Dev.Grow d e) : Dev.Grow d (Machine.flushComps n e) := by
  induction n generalizing e with
  | zero => exact h
  | succ n ih =>
    unfold Machine.flushComps
    split
    · split
      · exact ih ((h.withHif _).ringWrite ..)
      · exact h
    · exact h

theorem flush (h : Dev.Grow d e) : Dev.Grow d e.flush := h.flushComps _

theorem endRun (x : Run) (status data : Nat) (h : Dev.Grow d e) : Dev.Grow d (e.endRun x status data) := by
  unfold Dev.endRun Dev.complete
  split
  · exact h.withHif _
  · exact ((h.withHif _).withHif _).flush

theorem holdRuns (cause : Nat) (h : Dev.Grow d e) : Dev.Grow d (e.holdRuns cause) := (h.withHif _).put ..

theorem holdComps (h : Dev.Grow d e) : Dev.Grow d e.holdComps := h.withHif _

theorem writeHeld (n q : Nat) (h : Dev.Grow d e) : Dev.Grow d (Machine.writeHeld n e q) := by
  induction n generalizing e with
  | zero => exact h
  | succ n ih =>
    unfold Machine.writeHeld
    extract_lets c
    split
    · exact h
    · split
      · extract_lets taken shown written
        have hw : Dev.Grow d written := ((h.withHif _).put ..).ringWrite ..
        split
        · exact ih hw
        · exact hw.raise ..
      · exact h

theorem drainEvents (n : Nat) (h : Dev.Grow d e) : Dev.Grow d (Machine.drainEvents n e) :=
  h.trans (Dev.Kin.drainEvents ..).grow

theorem eventQueueDrainDev (h : Dev.Grow d e) : Dev.Grow d (Machine.eventQueueDrainDev e) := by
  unfold Machine.eventQueueDrainDev
  extract_lets drained
  have hd : Dev.Grow d drained := h.drainEvents _
  split
  · exact (hd.withHif _).raise ..
  · exact hd

theorem hifEnableDev (en : Bool) (speed width : Nat) (h : Dev.Grow d e) :
    Dev.Grow d (Machine.hifEnableDev en speed width e) := by
  unfold Machine.hifEnableDev
  split
  · exact h
  · exact (((h.putB ..).put ..).put ..).flush

theorem ringEnableDev (r : Nat) (h : Dev.Grow d e) : Dev.Grow d (Machine.ringEnableDev r e) := by
  unfold Machine.ringEnableDev
  split
  · exact h
  · split
    · exact (h.put ..).raise ..
    · extract_lets enabled fresh written held _ counted
      have hw : Dev.Grow d written := ((((h.put ..).put ..).setRing ..).put ..).writeBack ..
      split
      · refine flush ?_
        unfold heldCompletionDrainDev
        split
        · exact (hw.withHif _).writeHeld ..
        · exact hw.withHif _
      · split
        · exact hw.eventQueueDrainDev
        · exact hw

theorem ringDisableDev (r : Nat) (h : Dev.Grow d e) : Dev.Grow d (Machine.ringDisableDev r e) := by
  unfold Machine.ringDisableDev
  split
  · exact h
  · extract_lets served busy off
    split
    · exact h
    · exact ((h.put ..).put ..).setRing ..

/-! ## An enumeration that the host orders -/

theorem unbindRing (s : Nat) (h : Dev.Grow d e) : Dev.Grow d (e.unbindRing s) := by
  unfold Dev.unbindRing
  extract_lets unbound cleared
  have hu : Dev.Grow d unbound := by
    unfold unbound
    split
    · exact h
    · exact ((h.put64 ..).putB ..).raise ..
  have hc : Dev.Grow d cleared := (hu.put ..).put ..
  apply hc.upd <;> rfl

theorem sendTone (p : Port) (h : Dev.Grow d e) : Dev.Grow d (e.sendTone p) := by
  have sent : Dev.Grow d ((e.emit (.tone p (decide (pTrain ≤ e.pstate p)))).countMod SPN_TONE_TX 1) :=
    (h.emit _).countMod ..
  cases p <;> (apply sent.upd <;> rfl)

theorem spnEnumGoDev (h : Dev.Grow d e) : Dev.Grow d (Machine.spnEnumGoDev e) := by
  unfold Machine.spnEnumGoDev
  split
  · exact h
  · extract_lets _ begun shown counted named aborted unbound _ cleared
    have hbegun : Dev.Grow d begun := h.withHd _
    have hshown : Dev.Grow d shown := (hbegun.put ..).put ..
    have hcounted : Dev.Grow d counted := (hshown.put ..).countMod ..
    have haborted : Dev.Grow d aborted := (hcounted.put ..).each _ _ fun c x hc => hc.endRun ..
    have hunbound : Dev.Grow d unbound := ((haborted.each _ _ fun c s hc => hc.unbindRing s).sendRoutes.budgetEval 3).hrSettle
    have hcleared : Dev.Grow d cleared := by apply hunbound.upd <;> rfl
    exact (hcleared.sendTone .north).sendTone .south

/-! ## Resets of dies -/

/-- A PHY die that comes back (R48). -/
theorem phyReset (p : Port) (h : Dev.Grow d e) : Dev.Grow d (e.phyReset p false) := by
  unfold Dev.phyReset
  split
  · exact h
  · extract_lets _ wiped
    have hw : Dev.Grow d wiped := (h.wipe ..).setPort ..
    split
    · exact hw
    · exact ((hw.flushPort p).enterLr p false).tryTrain p

theorem ledgerReset (a : Afe) (h : Dev.Grow d e) : Dev.Grow d (e.ledgerReset a) := h.withBal _

theorem stagesLost (a : Afe) (h : Dev.Grow d e) : Dev.Grow d (e.stagesLost a) := by
  unfold Dev.stagesLost
  exact (h.withBal _).seeStages

theorem balDieLost (a : Afe) (h : Dev.Grow d e) : Dev.Grow d (e.balDieLost a) := by
  have hcells := h.each ((e.bankCells a).filter e.inPlan) _ fun _ n hc => hc.put (BAL_CSTS_STATE n) csFault
  exact hcells.stagesLost a

theorem sweepBankAbort (a : Afe) (result : Nat) (h : Dev.Grow d e) : Dev.Grow d (e.sweepBankAbort a result) := by
  unfold Dev.sweepBankAbort
  split
  · exact h.sweepAbort result
  · exact h

theorem bpdReset (a : Afe) (lasting : Bool) (h : Dev.Grow d e) : Dev.Grow d (e.bpdReset a lasting) := by
  unfold Dev.bpdReset
  split
  · exact h
  · extract_lets wiped dropped
    have hwiped : Dev.Grow d wiped := (h.sweepBankAbort a 6).wipe ..
    have hlatches := hwiped.dropLatches (bpsBase a) (bpsBase a + 0x80000)
    have hdropped : Dev.Grow d dropped := hlatches.when _ _ (hlatches.dieFails _)
    exact (hdropped.ledgerReset a).balDieLost a

theorem showSlots (h : Dev.Grow d e) : Dev.Grow d e.showSlots := (h.put ..).put ..

theorem copyBroken (s : Snap) (i state : Nat) (h : Dev.Grow d e) : Dev.Grow d (e.copyBroken s i state) :=
  ((((h.withDraws _).withCap _).withBurl _).showSlots).put ..

theorem burlErrorDev (addr : Nat) (writing : Bool) (h : Dev.Grow d e) : Dev.Grow d (Machine.burlErrorDev addr writing e) := by
  unfold Machine.burlErrorDev
  split
  · exact h
  · extract_lets said
    have hs : Dev.Grow d said := (h.put ..).raise ..
    split
    · split
      · split
        · exact (((hs.copyBroken ..).put ..).put ..).raise ..
        · exact hs
      · exact hs
    · exact hs

theorem burlReset (lasting : Bool) (h : Dev.Grow d e) : Dev.Grow d (e.burlReset lasting) := by
  unfold Dev.burlReset
  split
  · exact h
  · extract_lets copying broken
    have hb : Dev.Grow d broken := by
      unfold broken
      split
      · exact h.burlErrorDev ..
      · exact h
    have hshown := ((((hb.wipe 0x800000 0x900000).put RCD_STAT_NEXT (broken.get RCD_STAT_NEXT)).setWord RCD_HWP.addr
      (broken.word RCD_HWP.addr)).setWord RCD_SNO.addr (broken.word RCD_SNO.addr)).showSlots
    exact hshown.when _ _ (hshown.dieFails _)

end Dev.Grow

end Sys2Proof.Machine
end

section
/-!
SUPPORT. The role between two starts from power-on (R12): a warm reset, what register accesses have asked for, and the
entry to SHIP keep it.
-/

namespace Sys2Proof.Machine

/-! ## The CORE warm reset -/

theorem Dev.Grow.opBroken {d e : Dev} (h : Dev.Grow d e) : Dev.Grow d e.opBroken := by
  unfold Dev.opBroken
  split
  · exact h.put ..
  · exact h.put ..
  · exact h

/-- The loss of its registers leaves CORE in its role, if what goes on showing does. -/
theorem Dev.coreLoses_role (d : Dev) (keep : Nat → Bool) {on : Dev → Dev} (hon : ∀ c, (on c).role = c.role) :
    (d.coreLoses keep on).role = d.role := by
  unfold Dev.coreLoses
  -- the lets between `ports` and `anew` are the parts of the state that start anew
  extract_lets kept shown ports _ _ _ _ _ _ _ _ _ _ _ anew fitted lost
  have hshown : Dev.Filled kept shown := (((Dev.Filled.refl kept).setWord (by decide) _).showLife).showBankFuses
  have hports : Dev.Grow shown ports := (Dev.Grow.refl shown).each _ _ fun _ _ hc => (hc.put ..).put ..
  clear_value shown ports
  have hfitted : Dev.Filled anew.balWarm fitted := ((Dev.Filled.refl anew.balWarm).put (by decide) _).fitCap
  have hlost : Dev.Grow fitted lost := ((Dev.Grow.refl fitted).each _ _ fun _ a hc => hc.setAux a _).owdLose
  calc lost.seeStages.role
    _ = lost.role := Dev.seeStages_role lost
    _ = fitted.role := hlost.role
    _ = anew.balWarm.role := hfitted.role
    _ = ports.role := rfl
    _ = shown.role := hports.role
    _ = kept.role := hshown.role
    _ = d.role := by unfold kept; rw [hon]

theorem Dev.showOn_role (d old : Dev) : (d.showOn old).role = d.role := by
  simp only [Dev.showOn, Dev.setWord_role, Dev.put_role]

theorem Dev.warmReset_role (d : Dev) (cause : Nat) : (d.warmReset cause).role = d.role := by
  unfold Dev.warmReset
  split
  · rfl
  · extract_lets held broken
    have hheld : Dev.Grow d held := (((Dev.Grow.refl d).opBroken).holdRuns 2).holdComps
    have hbroken : Dev.Grow d broken := by
      unfold broken
      split
      · split
        · exact hheld.copyBroken ..
        · exact hheld
      · exact hheld
    rw [Dev.put_role, Dev.coreLoses_role _ _ fun c => c.showOn_role _]
    exact hbroken.iicStop.role

/-- A reset that a frame orders finds the HEADSEL strap as it was (R12). -/
theorem Dev.orderedReset_role (d : Dev) (level : Nat) : (d.orderedReset level).role = d.role := by
  unfold Dev.orderedReset
  split
  · refine (Dev.powerOn_started ..).role.trans ?_
    cases d.role <;> simp [Dev.bootFound]
  · exact d.warmReset_role _

theorem Dev.drst_role (d : Dev) (bits : Nat) : (d.drst bits).role = d.role := by
  unfold Dev.drst
  extract_lets on phys bpds
  have hn : Dev.Grow d (d.when (on 0) (·.phyReset .north false)) :=
    (Dev.Grow.refl d).when _ _ ((Dev.Grow.refl d).phyReset .north)
  have hs : Dev.Grow d phys := hn.when _ _ (hn.phyReset .south)
  have hl : Dev.Grow d (phys.when (on 2) (·.bpdReset .L false)) := hs.when _ _ (hs.bpdReset .L false)
  have hu : Dev.Grow d bpds := hl.when _ _ (hl.bpdReset .U false)
  have hb : Dev.Grow d (bpds.when (on 4) (·.burlReset false)) := hu.when _ _ (hu.burlReset false)
  unfold Dev.when
  split
  · exact (Dev.warmReset_role _ 0x11).trans hb.role
  · exact hb.role

/-! ## Requests -/

theorem Dev.takeAsk_role (d : Dev) (q : Ask) : (d.takeAsk q).role = d.role := by
  have h := Dev.Grow.refl d
  cases q with
  | drst bits => exact d.drst_role bits
  | spindle level => exact d.orderedReset_role level
  | enumGo => exact h.spnEnumGoDev.role
  | hif en speed width => exact (h.hifEnableDev ..).role
  | ring r on =>
    cases on with
    | true => exact (h.ringEnableDev r).role
    | false => exact (h.ringDisableDev r).role
  | binding => exact h.seeBinding.role

theorem Dev.takeAsks_role (n : Nat) (d : Dev) : (Dev.takeAsks n d).role = d.role := by
  induction n generalizing d with
  | zero => rfl
  | succ n ih =>
    unfold Dev.takeAsks
    split
    · rfl
    · exact (ih _).trans (Dev.takeAsk_role ..)

/-- The role after a command's effect, lifted, is the one that the effect leaves. -/
theorem Dev.after_role (f : Dev → Dev) (d : Dev) : (d.after f).role = (f d).role := Dev.takeAsks_role ..

/-! ## The role at a start from power-on -/

/-- The end of the entry to SHIP leaves the role, or starts the part (R12, R64). -/
theorem shipEntryDoneDev_role (b : BootObs) (d : Dev) : (shipEntryDoneDev b d).role = d.role
    ∨ (shipEntryDoneDev b d).role = if b.headsel then .head else .member := by
  unfold shipEntryDoneDev
  split
  · exact .inl rfl
  · split
    · exact .inl rfl
    · extract_lets moved _ off
      split
      · exact .inl ((Dev.Grow.refl d).moveTo 0 0 0xF).role
      · exact .inr (Dev.powerOn_started ..).role

/-- Settles O3: the two resets start the part, the entry to SHIP may, and every other command is lifted with its role. -/
theorem roleIsSampledAtPowerOn : Obligations.RoleIsSampledAtPowerOn := by
  refine ⟨fun b s => ?_, fun b s t h => ?_, fun c s t hc h => ?_⟩
  · have h1 := powerOnReset_started b s.dev
    have h2 := brownOut_started b s.dev
    exact ⟨_, _, rfl, rfl, h1.role, h2.role, h1.stat, h2.stat⟩
  · cases h
    rw [Dev.after_role]
    exact shipEntryDoneDev_role b s.dev
  · obtain ⟨f, r, rfl, hr⟩ := exec_next h
    exact hr hc

end Sys2Proof.Machine
end
section
/-!
SUPPORT. Staged copies (02, R31): what a write to a staged field puts into its staged copy and into BLOCK_CSTAT.DIRTY, and
what it leaves in force.
-/

namespace Sys2Proof.Machine

/-! ## Staged copies -/

/-- A staged word that was written reads back, and every other staged word reads as before. -/
theorem Dev.stagedWord_setStaged (d : Dev) (a : Nat) (w : Word) (b : Nat) :
    (d.setStaged a w).stagedWord b = if b = a then w else d.stagedWord b := by
  unfold Dev.stagedWord Dev.setStaged Store.set
  by_cases h : b = a
  · subst h
    by_cases hw : w = d.word b <;> simp [hw]
  · by_cases hw : w = d.word a <;>
      simp [hw, h, Store.find_drop_other _ _ _ h, Store.find_insert_other _ _ _ _ h]

/-- The staged value of a field is that of its bits in the staged word. -/
theorem Dev.stg_eq (d : Dev) (f : Fld) : d.stg f = bitsOf (d.stagedWord f.addr) f.hi f.lo := by
  unfold Dev.stg Dev.stagedWord
  cases Store.find f.addr d.staged <;> rfl

/-- A register word in force that is written changes no staged word of another register. -/
theorem Dev.stagedWord_put_other (d : Dev) (f : Fld) (v b : Nat) (h : b ≠ f.addr) :
    (d.put f v).stagedWord b = d.stagedWord b := by
  unfold Dev.stagedWord
  rw [Dev.put_staged, Dev.word_put_other _ _ _ _ h]

/-- What is staged of a field stays when another field of its register takes a value in force. -/
theorem Dev.stg_put_apart (d : Dev) (f g : Fld) (v : Nat) (hf : f.wf = true) (hg : g.wf = true)
    (h : f.apart g = true) : (d.put f v).stg g = d.stg g := by
  unfold Dev.stg
  rw [Dev.put_staged, Dev.get_put_apart _ _ _ _ hf hg h]

/-- Staging a field sets the staged word of its register, and none other (R31). -/
theorem Dev.stagedWord_stage (d : Dev) (base g : Nat) (f : Fld) (v b : Nat) (h : b ≠ base + 0xF04) :
    (d.stage base g f v).stagedWord b
      = if b = f.addr then setBits (d.stagedWord f.addr) f.hi f.lo v else d.stagedWord b := by
  unfold Dev.stage
  rw [Dev.stagedWord_put_other _ _ _ _ h, Dev.stagedWord_setStaged]

/-! ## The groups of staged fields -/

theorem findRow_idx {o : Nat} {rs : List RegRow} {r : RegRow} {i : Nat} (h : findRow o rs = some (r, i)) :
    i = 0 ∨ i < r.count := by
  induction rs with
  | nil => cases h
  | cons x xs ih =>
    unfold findRow at h
    by_cases hit : x.off ≤ o ∧ (if x.stride = 0 then o = x.off else (o - x.off) % x.stride = 0 ∧ (o - x.off) / x.stride < x.count)
    · rw [if_pos hit] at h
      cases h
      by_cases flat : r.stride = 0
      · exact .inl (if_pos flat)
      · rw [if_neg flat] at hit ⊢
        exact .inr hit.2.2
    · rw [if_neg hit] at h
      exact ih h

/-- The staged fields of the register tables lie in groups 0 to 3, and those of BDL in a register of each line. -/
theorem rowsOf_groups (b : Blk) : ∀ r ∈ rowsOf b, ∀ f ∈ r.fields,
    (match f.acc with | .rwS h => decide (h < 4) && (decide (b ≠ .bdl) || decide (r.count ≤ 2)) | _ => true) = true := by
  cases b <;> decide +kernel

theorem locate_idx {a : Nat} {l : Loc} (h : locate a = some l) : l.idx = 0 ∨ l.idx < l.row.count := by
  unfold locate at h
  split at h
  · cases h
  · split at h
    · cases h
    · split at h
      · cases h
      · rename_i hr
        cases h
        exact findRow_idx hr

/-- The group of a staged field is one that BLOCK_CSTAT shows (Table 2-5). -/
theorem Loc.group_lt {a : Nat} {l : Loc} {f : FieldSpec} {h : Nat} (hl : locate a = some l) (hf : f ∈ l.row.fields)
    (hs : f.acc = .rwS h) : l.group h < 4 := by
  have hg := rowsOf_groups l.blk l.row (locate_some hl).1 f hf
  have hi := locate_idx hl
  simp only [hs, Bool.and_eq_true, Bool.or_eq_true, decide_eq_true_eq] at hg
  unfold Loc.group
  split
  · rename_i hb
    have hc : l.row.count ≤ 2 := hg.2.resolve_left (fun hn => hn hb)
    omega
  · exact hg.1

theorem csDirty_wf {base g : Nat} (h : g < 4) : (csDirty base g).wf = true := by
  show (decide (4 + g ≤ 4 + g) && decide (4 + g < 32)) = true
  simp
  omega

/-- DIRTY of a group, once set, stays when it is set for another group (R31). -/
theorem Dev.get_csDirty_stage (d : Dev) {base g k : Nat} (f : Fld) (v : Nat) (hg : g < 4) (hk : k < 4)
    (h : k = g ∨ d.get (csDirty base g) = 1) : (d.stage base k f v).get (csDirty base g) = 1 := by
  unfold Dev.stage
  by_cases hkg : k = g
  · subst hkg
    rw [Dev.get_put_same _ _ _ (csDirty_wf hg)]
    simp [csDirty]
  · have hap : (csDirty base k).apart (csDirty base g) = true := by
      simp [csDirty, Fld.apart]
      omega
    rw [Dev.get_put_apart _ _ _ _ (csDirty_wf hk) (csDirty_wf hg) hap, Dev.get_setStaged]
    exact h.resolve_left hkg

/-! ## A write to a register with staged fields -/

section
variable {d : Dev} {a : Nat} {l : Loc} {f : FieldSpec} {h : Nat} {v : Word}

/-- A field has been staged: its staged copy holds the written value and DIRTY of its group is set. -/
def Dev.Staged (d : Dev) (l : Loc) (a : Nat) (v : Word) (f : FieldSpec) (h : Nat) : Prop :=
  d.stg ⟨a, f.hi, f.lo⟩ = bitsOf v f.hi f.lo ∧ d.get (csDirty l.base (l.group h)) = 1

/-- The life-cycle alone can lock a staged field (R42, Table 19-10). -/
theorem Dev.fieldLocked_staged {e : Dev} (hs : f.acc = .rwS h) (he : e.life = d.life) :
    e.fieldLocked l f = d.fieldLocked l f := by
  simp [Dev.fieldLocked, Dev.lifeLocked, hs, he]

/-- A staged field that nothing locks is staged (R31). -/
theorem Dev.putField_staged (e : Dev) (hs : f.acc = .rwS h) (hlock : e.fieldLocked l f = false) :
    e.putField l a v f = e.stage l.base (l.group h) ⟨a, f.hi, f.lo⟩ (bitsOf v f.hi f.lo) := by
  simp [Dev.putField, hs, hlock]

/-- Staging a field of a register brings about what `Dev.Staged` says of it. -/
theorem Dev.staged_stage (e : Dev) (hl : locate a = some l) (ha : a ≠ l.base + 0xF04) (hf : f ∈ l.row.fields)
    (hs : f.acc = .rwS h) :
    (e.stage l.base (l.group h) ⟨a, f.hi, f.lo⟩ (bitsOf v f.hi f.lo)).Staged l a v f h := by
  obtain ⟨hlo, hhi⟩ := rowsOf_field_bits l.blk l.row (locate_some hl).1 f hf
  have hg := Loc.group_lt hl hf hs
  refine ⟨?_, Dev.get_csDirty_stage _ _ _ hg hg (.inl rfl)⟩
  rw [Dev.stg_eq, Dev.stagedWord_stage _ _ _ _ _ _ ha, if_pos rfl, bitsOf_setBits _ _ _ _ hlo hhi]
  exact Nat.mod_eq_of_lt (bitsNat_lt ..)

/-- What is staged of a field stays staged while the fields of its register take the values of the same write. -/
theorem Dev.Staged.putField {e : Dev} {g : FieldSpec} (he : e.Staged l a v f h) (hl : locate a = some l)
    (ha : a ≠ l.base + 0xF04) (hf : f ∈ l.row.fields) (hs : f.acc = .rwS h) (hg : g ∈ l.row.fields) :
    (e.putField l a v g).Staged l a v f h := by
  have hrow := (locate_some hl).1
  have bits (k : FieldSpec) (hk : k ∈ l.row.fields) := rowsOf_field_bits l.blk l.row hrow k hk
  by_cases hgf : g = f
  · subst hgf
    unfold Dev.putField
    rw [hs]
    dsimp only
    split
    · exact he
    · exact Dev.staged_stage e hl ha hf hs
  have hap : g.hi < f.lo ∨ f.hi < g.lo := (rowsOf_fields_apart l.blk l.row hrow g hg f hf).resolve_left hgf
  -- a field in force that is written is apart from the staged one, and from BLOCK_CSTAT
  have live (x : Nat) : (e.put ⟨a, g.hi, g.lo⟩ x).Staged l a v f h := by
    constructor
    · rw [Dev.stg_put_apart _ _ _ _ (by simpa [Fld.wf] using bits g hg) (by simpa [Fld.wf] using bits f hf)
        (by simpa [Fld.apart, or_comm] using hap)]
      exact he.1
    · exact (congrArg (bitsOf · _ _) (Dev.word_put_other _ _ _ _ (Ne.symm ha))).trans he.2
  have other (k : Nat) (hk : k < 4) : (e.stage l.base k ⟨a, g.hi, g.lo⟩ (bitsOf v g.hi g.lo)).Staged l a v f h := by
    refine ⟨?_, Dev.get_csDirty_stage _ _ _ (Loc.group_lt hl hf hs) hk (.inr he.2)⟩
    have hval := he.1
    rw [Dev.stg_eq] at hval ⊢
    rw [Dev.stagedWord_stage _ _ _ _ _ _ ha, if_pos rfl,
      bitsOf_setBits_apart _ _ _ _ _ _ (bits g hg).1 hap.symm (bits f hf).2, hval]
  unfold Dev.putField
  cases hc : g.acc with
  | ro | rc | w1s | wo => exact he
  | rwL | rwK =>
    dsimp only
    split
    · exact he
    · exact live _
  | rwS k =>
    dsimp only
    split
    · exact he
    · exact other _ (Loc.group_lt hl hg hc)
  | w1c => exact live _

/-- Writing the fields of a register stages each staged field that nothing locks (R31). The life-cycle, on which its lock
depends, is shown by another register. -/
theorem Dev.putFields_staged (v : Word) (hl : locate a = some l) (ha : a ≠ l.base + 0xF04)
    (hlife : LCS_STAT_STATE.addr ≠ a) (hcs : LCS_STAT_STATE.addr ≠ l.base + 0xF04) (hf : f ∈ l.row.fields)
    (hs : f.acc = .rwS h) (hlock : d.fieldLocked l f = false) : (d.putFields l a v).Staged l a v f h := by
  have life (e : Dev) (g : FieldSpec) : (e.putField l a v g).life = e.life :=
    congrArg (bitsOf · _ _) (Dev.word_putField_other e l a v g _ hlife hcs)
  have hall : (d.putFields l a v).life = d.life → (d.putFields l a v).Staged l a v f h := by
    refine foldl_sets (P := fun e : Dev => e.life = d.life → e.Staged l a v f h) d hf ?_ ?_
    · intro e he
      rw [Dev.putField_staged e hs ((Dev.fieldLocked_staged hs ((life e f).symm.trans he)).trans hlock)]
      exact Dev.staged_stage e hl ha hf hs
    · intro e he g hg hlg
      exact (he ((life e g).symm.trans hlg)).putField hl ha hf hs hg
  exact hall (congrArg (bitsOf · _ _) (Dev.word_putFields_other d l a v _ hlife hcs))

/-- A staged field keeps its value in force through a write of its register (R31). -/
theorem Dev.get_putFields_staged (d : Dev) (v : Word) (hl : locate a = some l) (ha : a ≠ l.base + 0xF04)
    (hf : f ∈ l.row.fields) (hs : f.acc = .rwS h) :
    (d.putFields l a v).get ⟨a, f.hi, f.lo⟩ = d.get ⟨a, f.hi, f.lo⟩ := by
  refine List.foldlRecOn (motive := fun e : Dev => e.get ⟨a, f.hi, f.lo⟩ = d.get ⟨a, f.hi, f.lo⟩) l.row.fields _ rfl ?_
  intro e he g hg
  have apart (hgf : g.acc ≠ .rwS h) (x : Nat) : (e.put ⟨a, g.hi, g.lo⟩ x).get ⟨a, f.hi, f.lo⟩ = d.get ⟨a, f.hi, f.lo⟩ := by
    rw [Dev.get_put_row e hl hf hg, if_neg (fun (hgf' : g = f) => hgf (hgf' ▸ hs)), he]
  unfold Dev.putField
  cases hc : g.acc with
  | ro | rc | w1s | wo => exact he
  | rwL | rwK =>
    dsimp only
    split
    · exact he
    · exact apart (by simp [hc]) _
  | rwS k =>
    dsimp only
    split
    · exact he
    · rw [← he]
      exact congrArg (bitsOf · f.hi f.lo) (Dev.word_stage_other _ _ _ _ _ _ ha)
  | w1c => exact apart (by simp [hc]) _

end

/-- No register without an action shows the life-cycle, and no block's BLOCK_CSTAT does. -/
theorem Dev.Plain.ne_life {d : Dev} {a : Nat} {l : Loc} (h : d.Plain a l) : LCS_STAT_STATE.addr ≠ a := by
  rintro rfl
  have hq := h.quiet
  have hl := h.loc
  rw [show locate LCS_STAT_STATE.addr = some ⟨.core, .lcs, 0x2C000, 0, _, 0⟩ from rfl] at hl
  cases hl
  cases hq

theorem dieOf_aligned {a wb : Nat} {x : Die} (h : dieOf a = some (x, wb)) : wb % 0x1000 = 0 := by
  unfold dieOf at h
  split_ifs at h <;> cases h <;> rfl

theorem blkOf_aligned {x : Die} {o bo : Nat} {b : Blk} (h : blkOf x o = some (b, bo)) : bo % 0x1000 = 0 := by
  cases x <;> simp only [blkOf] at h <;> split at h <;> cases h <;> rfl

/-- The blocks begin at multiples of 4 KiB (Table 2-2). -/
theorem blockAt_aligned {a base : Nat} {x : Die} {b : Blk} (h : blockAt a = some (x, b, base)) : base % 0x1000 = 0 := by
  unfold blockAt at h
  split at h
  · cases h
  · rename_i hd
    split at h
    · cases h
    · rename_i hb
      cases h
      have h1 := dieOf_aligned hd
      have h2 := blkOf_aligned hb
      omega

/-- Settles O7: a write to a register without an action puts its fields one by one, and each staged field is staged. -/
theorem stagedWritesWait : Obligations.StagedWritesWait := by
  intro d q a v l h hlt h4 hl hcom hcs hs hq hf
  have hp : d.Plain a l := ⟨regAddr_self hlt h4, hlt, hl, hcom, hcs, hs, hq⟩
  have hne : a ≠ l.base + 0xF04 := Dev.regAt_ne hl hcs
  have hlcs : LCS_STAT_STATE.addr ≠ l.base + 0xF04 := by
    have := blockAt_aligned (locate_some hp.loc).2
    simp only [LCS_STAT_STATE]
    omega
  refine ⟨_, exec_registerWrite_free q v h hp hf, fun f hm k hk => ?_, fun hall b hb hsh => ?_⟩
  · obtain ⟨hstg, hdirty⟩ := Dev.putFields_staged v hp.loc hne hp.ne_life hlcs hm hk (hf f hm)
    exact ⟨Dev.get_putFields_staged d v hp.loc hne hm hk, hstg, hdirty⟩
  · refine List.foldlRecOn (motive := fun e : Dev => e.word b = d.word b) l.row.fields _ rfl fun e he f hm => ?_
    obtain ⟨k, hk⟩ := hall f hm
    unfold Dev.putField
    rw [hk]
    dsimp only
    split
    · exact he
    · exact (Dev.word_stage_other _ _ _ _ _ _ hb).trans he

end Sys2Proof.Machine
end

section
/-!
SUPPORT. The step, and commits of staged groups (02, R28, R33 to R40): a discard where the list of staged copies is out of
its canonical form.
-/

namespace Sys2Proof.Machine

/-- Settles O1: both clauses are the two cases of the queue in `step`. -/
theorem stepRunsTheFrontCommand : Obligations.StepRunsTheFrontCommand :=
  ⟨fun _ _ _ => rfl, fun _ => rfl⟩

/-! ## DISCARD of a list of staged copies that names a register twice -/

/-- A device out of reset whose list of staged copies holds PWR_PBAND twice, each copy with a reserved bit set. The
statement ranges over every `Dev`, this one among them; no command makes such a list, for `Store.insert` keeps one entry
for each address. -/
def stagedTwice : Dev := { State.reset.dev with staged := [(0x4010, 0x80000000#32), (0x4010, 0x80000000#32)] }

/-- The discard of group 0 of PWR reloads the first copy alone: the second is left with its zero in PWR_PBAND.LO. -/
theorem commitDiscard_stagedTwice : ∃ t, exec (.commitDiscard 0x4000 1#4) ⟨stagedTwice, []⟩ = .next t
    ∧ (0x4010, 0x80000000#32) ∈ t.dev.staged ∧ t.dev.get PWR_PBAND_LO = 300 :=
  ⟨_, rfl, by decide +kernel, by decide +kernel⟩

/-- Refutes O10: its second clause says of every list of staged copies that after DISCARD each entry reads the value in
force. A list that names a register twice is reloaded at its first entry only, and the other keeps its staged value. -/
theorem not_commitCommandsComplete : ¬ Obligations.CommitCommandsComplete := by
  rintro ⟨-, hdiscard, -⟩
  have hready : stagedTwice.ready := ⟨rfl, by decide +kernel, by decide +kernel⟩
  obtain ⟨t, ht, hgroups⟩ := hdiscard stagedTwice [] 0x4000 1#4 .core .pwr 0x4000 hready rfl rfl
  obtain ⟨u, hu, hmem, hlo⟩ := commitDiscard_stagedTwice
  cases ht.symm.trans hu
  have hread := (hgroups 0 (by decide) rfl).2.2 _ hmem (by decide) (by decide) ⟨9, 0, .rwS 0, 300⟩ (by decide +kernel)
  rw [show t.dev.get ⟨0x4010, 9, 0⟩ = 300 from hlo] at hread
  exact absurd hread (by decide)

end Sys2Proof.Machine
end

section
/-!
SUPPORT. Die resets (02, R45, R47, R487): the reset of Burl while a snapshot is copied.
-/

namespace Sys2Proof.Machine

/-- A ZM3680-F member out of reset, with the history enabled as it is at reset, that copies a snapshot into slot 0. -/
def copyingSnapshot : Dev :=
  { State.reset.dev with
    cap := { CapSt.init with
      snap := some { srcs := 0, twseq := 0, tick := 0, wseq := 0, pre := 0, pos := 0, npost := 0, left := 0, slot := some 0 } } }

/-- The reset breaks the copy off (R487), and the events that report it go to the history, whose position moves on from 0
by the two units they fill (R486). -/
theorem dieReset_burl_copying : ∃ t, exec (.dieReset .burl false) ⟨copyingSnapshot, []⟩ = .next t
    ∧ t.dev.word RCD_HWP.addr = 2 ∧ copyingSnapshot.word RCD_HWP.addr = 0 :=
  ⟨_, rfl, by decide +kernel, by decide +kernel⟩

/-- Refutes O16: its clause on Burl says of every state that RCD_HWP stays. Where a snapshot is being copied the reset
records BURL_ERROR and SNAPSHOT_HELD in the history before the die loses its registers, and RCD_HWP counts them. -/
theorem not_dieResetsComplete : ¬ Obligations.DieResetsComplete := by
  rintro ⟨-, -, -, -, -, hburl, -⟩
  obtain ⟨t, ht, -, -, -, -, hkept, -⟩ := hburl copyingSnapshot [] false rfl rfl (by decide +kernel)
  obtain ⟨u, hu, hmoved, hwas⟩ := dieReset_burl_copying
  cases ht.symm.trans hu
  rw [hmoved, hwas] at hkept
  exact absurd hkept (by decide)

end Sys2Proof.Machine
end

section
/-!
SUPPORT. FW_IMG (03, 19, R504): the register that says which image runs and which one is next. A change of mode, what it
starts and stops, and the work that follows a warm reset leave it alone.
-/

namespace Sys2Proof.Machine

/-- FW_IMG holds a word. -/
def Dev.ImgIs (w : Word) (d : Dev) : Prop := d.word FW_IMG_RUN.addr = w

namespace Dev.ImgIs

variable {w : Word} {d e : Dev}

/-! ## Steps that every block shares -/

/-- A device whose registers, build and role are the same. -/
theorem upd (h : d.ImgIs w) (hregs : e.regs = d.regs) (hb : e.build = d.build) (hr : e.role = d.role) : e.ImgIs w := by
  unfold Dev.ImgIs Dev.word at h ⊢
  rw [hregs, hb, hr]
  exact h

theorem setWord (h : d.ImgIs w) {a : Nat} (ha : a ≠ FW_IMG_RUN.addr) (v : Word) : (d.setWord a v).ImgIs w :=
  ((d.word_setWord a v _).trans (if_neg ha.symm)).trans h

theorem put (h : d.ImgIs w) {f : Fld} (hf : f.addr ≠ FW_IMG_RUN.addr) (v : Nat) : (d.put f v).ImgIs w := h.setWord hf _

theorem kin (h : d.ImgIs w) (hk : Dev.Kin d e) : e.ImgIs w := (hk.word _ (by decide)).trans h

theorem sent (h : d.ImgIs w) (hs : Dev.Sent d e) : e.ImgIs w := (hs.word _ (by decide)).trans h

theorem each {α : Type} (h : d.ImgIs w) (xs : List α) {f : Dev → α → Dev}
    (hf : ∀ x ∈ xs, ∀ c : Dev, c.ImgIs w → (f c x).ImgIs w) : (d.each xs f).ImgIs w :=
  List.foldlRecOn xs f h (fun c hc x hx => hf x hx c hc)

theorem ite (hd : d.ImgIs w) (he : e.ImgIs w) {c : Prop} [Decidable c] : (if c then d else e).ImgIs w := by
  split <;> assumption

theorem setPort (h : d.ImgIs w) (p : Port) (s : PortSt) : (d.setPort p s).ImgIs w := h.sent (Dev.Sent.setPort ..)

theorem setBz (h : d.ImgIs w) (a : Afe) (b : BzlSt) : (d.setBz a b).ImgIs w := by
  cases a <;> exact h

theorem setAux (h : d.ImgIs w) (a : Afe) (x : AuxSt) : (d.setAux a x).ImgIs w := h.kin (Dev.Kin.setAux ..)

theorem raise (h : d.ImgIs w) (code src : Nat) (items : List Nat) : (d.raise code src items).ImgIs w :=
  h.sent (Dev.Sent.raise ..)

theorem portSend (h : d.ImgIs w) (p : Port) (src : Option Port) (b : Body) : (d.portSend p src b).ImgIs w :=
  h.sent (Dev.Sent.portSend ..)

theorem sendCompact (h : d.ImgIs w) (ps : List Port) (k pos pay : Nat) : (d.sendCompact ps k pos pay).ImgIs w :=
  h.kin (Dev.Kin.sendCompact ..)

theorem afe (h : d.ImgIs w) {a : Afe} {n : Nat} {f : Fld} (hf : f.addr = afeBase a + n) (v : Nat) :
    (d.put f v).ImgIs w :=
  h.put (by rw [hf]; cases a <;> simp only [afeBase, FW_IMG_RUN] <;> omega) v

/-! ## Groups of staged fields -/

/-- FW_IMG has no staged field, so that no group changes it. -/
theorem stagedFields_img (g : Nat) : stagedFields g FW_IMG_RUN.addr = [] := rfl

theorem applyGroup (h : d.ImgIs w) (base g : Nat) : (d.applyGroup base g).ImgIs w := by
  refine h.each _ fun p _ c hc => ?_
  show ((c.setWord p.1 _).setStaged p.1 p.2).word _ = w
  rw [Dev.word_setStaged, Dev.word_setWord]
  split
  · rename_i hp
    rw [← hp, stagedFields_img]
    exact hc
  · exact hc

theorem putCstat (h : d.ImgIs w) {base : Nat} (hb : base + 0xF04 ≠ FW_IMG_RUN.addr) (hi lo v : Nat) :
    (d.put ⟨base + 0xF04, hi, lo⟩ v).ImgIs w := h.put hb v

theorem acceptGroup (h : d.ImgIs w) {base : Nat} (hb : base + 0xF04 ≠ FW_IMG_RUN.addr) (g : Nat) :
    (d.acceptGroup base g).ImgIs w :=
  (((h.applyGroup base g).putCstat hb ..).putCstat hb ..).putCstat hb ..

theorem reloadGroup (h : d.ImgIs w) (base g : Nat) : (d.reloadGroup base g).ImgIs w :=
  h.each _ fun _ _ _ hc => hc

theorem rejectGroup (h : d.ImgIs w) {base : Nat} (hb : base + 0xF04 ≠ FW_IMG_RUN.addr) (g check : Nat) :
    (d.rejectGroup base g check).ImgIs w :=
  ((((h.reloadGroup base g).putCstat hb ..).putCstat hb ..).putCstat hb ..).putCstat hb ..

theorem setTq (h : d.ImgIs w) (q : Nat) : (d.setTq q).ImgIs w := by
  unfold Dev.setTq
  split
  · exact h
  · extract_lets shown
    have hs : shown.ImgIs w := h.put (by decide) q
    split_ifs
    · exact hs.raise ..
    · exact hs.raise ..
    · exact hs.raise ..
    · exact hs
    · exact hs

theorem setAct (h : d.ImgIs w) (a : Nat) : (d.setAct a).ImgIs w := by
  unfold Dev.setAct
  split
  · exact h
  · extract_lets shown _ anew
    have hs : shown.ImgIs w := h.put (by decide) a
    split
    · exact raise (d := anew) hs ..
    · exact hs

theorem tbConfigured (h : d.ImgIs w) : d.tbConfigured.ImgIs w := by
  have hs : d.sourceLost.ImgIs w := by
    unfold Dev.sourceLost
    extract_lets a moved
    have hm : moved.ImgIs w := h.setAct a
    exact h.ite ((hm.setTq _).ite hm)
  unfold Dev.tbConfigured
  exact h.ite ((hs.setTq _).ite hs)

theorem auxConfigured (h : d.ImgIs w) (a : Afe) (oldLoop : Nat) : (d.auxConfigured a oldLoop).ImgIs w := by
  unfold Dev.auxConfigured
  extract_lets cleared _ done _
  have hc : cleared.ImgIs w := h.each _ fun i _ c hc => hc.afe (a := a) (n := 0x1280 + 4 * i) (Nat.add_assoc ..) 0
  have hd : done.ImgIs w := (hc.afe (f := AUX_BOUT a) rfl 0).setAux ..
  split
  · exact (hd.setAux ..).kin (Dev.Kin.auxSettle ..)
  · exact hd

theorem cellStart (h : d.ImgIs w) {n : Nat} (hn : n ≤ 36) : (d.cellStart n).ImgIs w := by
  have addr (k : Nat) (hk : k ≤ 0x100) : 0x28400 + k + 4 * (n - 1) ≠ FW_IMG_RUN.addr := by
    simp only [FW_IMG_RUN]
    omega
  unfold Dev.cellStart
  extract_lets _ fresh shown
  have hs : shown.ImgIs w := (put (d := fresh) h (f := BAL_CPROG n) (addr 0x100 le_rfl) 0).put (f := BAL_CSTS_IEFF n)
    (addr 0 (Nat.zero_le _)) 0
  exact hs.put (f := BAL_CSTS_STATE n) (addr 0 (Nat.zero_le _)) _

theorem balPlanChanged (h : d.ImgIs w) (old : List (Word × Word)) : (d.balPlanChanged old).ImgIs w := by
  have cells : ∀ n ∈ d.allCells, n ≤ 36 := by
    intro n hn
    have : d.cells ≤ 36 := by
      unfold Dev.cells cellCount
      split
      · decide
      · cases d.build <;> decide
    simp only [Dev.allCells, rangeL, List.mem_map, List.mem_range] at hn
    omega
  unfold Dev.balPlanChanged
  split
  · exact h
  · exact h.each _ fun n hn c hc => hc.ite (hc.cellStart (cells n hn))

theorem owdAdjust (h : d.ImgIs w) : d.owdAdjust.ImgIs w := h.put (by decide) _

theorem guardSettle (h : d.ImgIs w) : d.guardSettle.ImgIs w := h.kin (Dev.Kin.guardSettle d)

theorem onAccept (h : d.ImgIs w) (old : Dev) (die : Die) (blk : Blk) (g : Nat) : (Dev.onAccept old die blk g d).ImgIs w := by
  unfold Dev.onAccept
  extract_lets a adjusted
  have ha : adjusted.ImgIs w := h.owdAdjust
  split
  · exact h.tbConfigured
  · exact h.auxConfigured ..
  · exact h.balPlanChanged _
  · exact h.owdAdjust
  · split
    · exact ha
    · exact ha
  · split
    · exact h
    · exact h
  · exact h.guardSettle
  · exact h.guardSettle
  · exact h.guardSettle
  · exact h.guardSettle
  · exact h.guardSettle
  · exact h

theorem evalGroup (h : d.ImgIs w) {base : Nat} (hb : base + 0xF04 ≠ FW_IMG_RUN.addr) (g : Nat) :
    (d.evalGroup base g).ImgIs w := by
  unfold Dev.evalGroup
  split
  · split
    · exact h
    · split
      · exact h.rejectGroup hb ..
      · have ha := h.acceptGroup hb g
        refine onAccept ?_ ..
        split
        · exact ha.kin (Dev.Kin.guardChange (·.acceptGroup base g) d)
        · exact ha.kin (Dev.Kin.guardChange (·.acceptGroup base g) d)
        · exact ha
  · exact h

theorem evalBlock (h : d.ImgIs w) {base : Nat} (hb : base + 0xF04 ≠ FW_IMG_RUN.addr) : (d.evalBlock base).ImgIs w := by
  have hn : (d.noteBoundary base).ImgIs w := by
    unfold Dev.noteBoundary
    split
    · exact h
    · exact h
  unfold Dev.evalBlock
  split
  · exact hn.each _ fun g _ c hc => hc.ite (hc.evalGroup hb g)
  · exact h

theorem evalStart (h : d.ImgIs w) : d.evalStart.ImgIs w := by
  unfold Dev.evalStart
  refine (h.each _ fun b hb c hc => hc.evalBlock (by revert b; decide)).each _ fun a _ c hc => ?_
  cases a <;> exact ((hc.evalBlock (by decide)).evalBlock (by decide)).evalBlock (by decide)

/-! ## The ring of a head -/

theorem putB (h : d.ImgIs w) {f : Fld} (hf : f.addr ≠ FW_IMG_RUN.addr) (b : Bool) : (d.putB f b).ImgIs w := h.put hf _

theorem raiseAbout (h : d.ImgIs w) (pos code src : Nat) (items : List Nat) : (d.raiseAbout pos code src items).ImgIs w :=
  h.sent (Dev.Sent.raiseAbout ..)

theorem sendRoutes (h : d.ImgIs w) : d.sendRoutes.ImgIs w := by
  unfold Dev.sendRoutes Dev.headRoutes
  extract_lets due
  refine ((h.each _ fun p _ c hc => ?_).putB (by decide) _).putB (by decide) _
  unfold Dev.sendRoute
  split
  · exact hc
  · rename_i m _
    exact sendCompact (d := c.setMember p _) hc ..

theorem setWays (h : d.ImgIs w) : d.setWays.ImgIs w := by
  refine sendRoutes (h.each _ fun p _ c hc => ?_)
  split
  · split
    · exact hc
    · exact hc
  · exact hc

theorem writeMaps (h : d.ImgIs w) (lost : List Nat) : (d.writeMaps lost).ImgIs w := by
  unfold Dev.writeMaps
  extract_lets ordered mapped
  have ho : ordered.ImgIs w := h.each _ fun i hi c hc => hc.put (f := SPN_RORD i)
    (by have := List.mem_range.mp hi; simp only [SPN_RORD, FW_IMG_RUN]; omega) _
  exact (((ho.put (f := SPN_MAPL) (by decide) _).put (f := SPN_MAPH) (by decide) _).put (f := SPN_LOSTL) (by decide) _).put
    (f := SPN_LOSTH) (by decide) _

theorem ringBreak (h : d.ImgIs w) (l : Nat) : (d.ringBreak l).ImgIs w := by
  unfold Dev.ringBreak
  split
  · exact h
  · split
    · exact h
    · extract_lets _ cut opened gone fresh mapped told routed _ tried bn bs
      have hopened : opened.ImgIs w := (put (d := cut) h (f := SPN_RING_OPEN) (by decide) _).put (by decide) _
      have htold : told.ImgIs w := (hopened.writeMaps gone).each _ fun p _ c hc => hc.raiseAbout ..
      have hforgot : (told.forgetRoutes gone).ImgIs w := htold.each _ fun _ _ _ hc => hc
      have hrouted : routed.ImgIs w := hforgot.setWays
      have htried : tried.ImgIs w := ite (put (d := { routed with hd := { routed.hd with tried := false } }) hrouted
        (by decide) 1) hrouted
      exact ((htried.put (f := SPN_RING_BRKN) (by decide) _).put (f := SPN_RING_BRKS) (by decide) _).raise ..

theorem ringMend (h : d.ImgIs w) (l : Nat) (hr : Bool) : (d.ringMend l hr).ImgIs w := by
  unfold Dev.ringMend
  split
  · exact h
  · split
    · exact h
    · exact ite (put (d := { d with hd := { d.hd with tried := false } }) h (by decide) 1) h

theorem linkChange (h : d.ImgIs w) (pos : Nat) (p : Port) (up hr : Bool) : (d.linkChange pos p up hr).ImgIs w := by
  unfold Dev.linkChange
  split
  · exact h
  · exact h.ite ((h.ringMend ..).ite (h.ringBreak _))

/-! ## Ports -/

/-- The fields of a port that entering, leaving and flushing it write. -/
def portFields (p : Port) : List Fld :=
  [SPN_PORT_STATE p, SPN_PORT_ONEWAY p, SPN_PORT_MISW p, SPN_PORT_LEG p, SPN_PORT_DOWNCNT p, SPN_CRED_FROZEN p
    , PRT_STAT_HRFAIL p, PRT_STAT_ATT p]

theorem putPort (h : d.ImgIs w) {p : Port} {f : Fld} (hf : f ∈ portFields p) (v : Nat) : (d.put f v).ImgIs w :=
  h.put (by revert f; cases p <;> decide) v

theorem putCred (h : d.ImgIs w) (p : Port) (tc v : Nat) : (d.put (SPN_CRED p tc) v).ImgIs w :=
  h.sent (Dev.Sent.put _ _ _ (SPN_CRED_mem p tc))

theorem flushPort (h : d.ImgIs w) (p : Port) : (d.flushPort p).ImgIs w := by
  unfold Dev.flushPort
  extract_lets q lost back counted _ cut freed _ fresh creds frozen
  have hcounted : counted.ImgIs w := h.put (f := SPN_DISC_DISC) (by decide) _
  have hcut : cut.ImgIs w := hcounted.setPort ..
  have hfreed : freed.ImgIs w := hcut.each _ fun i _ c hc => hc.sent (Dev.Sent.freeUnits ..)
  have hfresh : fresh.ImgIs w := hfreed.setPort ..
  have hcreds : creds.ImgIs w := ((hfresh.putCred p 1 _).putCred p 2 _).putCred p 3 _
  have hfrozen : frozen.ImgIs w := (hcreds.putPort (p := p) (by simp [portFields]) _).putPort (p := p) (by simp [portFields]) _
  exact (hfrozen.putPort (p := p) (by simp [portFields]) _).putPort (p := p) (by simp [portFields]) _

theorem portsOff (h : d.ImgIs w) : d.portsOff.ImgIs w :=
  h.each _ fun p _ c hc => (hc.flushPort p).putPort (p := p) (by simp [portFields]) _

theorem intoDown (h : d.ImgIs w) (p : Port) : (d.intoDown p).ImgIs w := by
  unfold Dev.intoDown
  extract_lets flushed
  have hf : flushed.ImgIs w := h.flushPort p
  exact ((hf.setPort ..).putPort (p := p) (by simp [portFields]) _).putPort (p := p) (f := SPN_PORT_DOWNCNT p)
    (by simp [portFields]) _

theorem portsOn (h : d.ImgIs w) : d.portsOn.ImgIs w := h.each _ fun p _ _ hc => (hc.intoDown p).ite hc

theorem compactToHead (h : d.ImgIs w) (kind pay : Nat) : (d.compactToHead kind pay).ImgIs w := h.sendCompact ..

theorem linkNotice (h : d.ImgIs w) (p : Port) (up : Bool) (low : Nat) : (d.linkNotice p up low).ImgIs w :=
  (h.compactToHead ..).ite h

theorem warmNotice (h : d.ImgIs w) : d.warmNotice.ImgIs w :=
  ite (compactToHead (d := { d with spn := { d.spn with warmDue := false } }) h ..) h

theorem reportFound (h : d.ImgIs w) : d.reportFound.ImgIs w :=
  ite (each (d := { d with pw := { d.pw with found := [] } }) h _ fun _ _ _ hc => hc.raise ..) h

theorem creditInit (h : d.ImgIs w) (p : Port) (hr : Bool) : (d.creditInit p hr).ImgIs w :=
  (h.setPort ..).each _ fun _ _ _ hc => hc.portSend ..

theorem enterLr (h : d.ImgIs w) (p : Port) (raises : Bool) : (d.enterLr p raises).ImgIs w := by
  unfold Dev.enterLr
  extract_lets inLr marked credits raised told
  have hlr : inLr.ImgIs w := h.putPort (p := p) (by simp [portFields]) _
  have hmarked : marked.ImgIs w :=
    (hlr.putPort (p := p) (by simp [portFields]) _).putPort (p := p) (by simp [portFields]) _
  have hcredits : credits.ImgIs w := (hmarked.putPort (p := p) (by simp [portFields]) _).creditInit ..
  have hraised : raised.ImgIs w := hcredits.raise ..
  have htold : told.ImgIs w :=
    ((hraised.linkChange ..).ite (hraised.warmNotice.linkNotice ..).reportFound).ite hcredits
  exact htold.sent (Dev.Sent.drainPort ..)

theorem parkWords (h : d.ImgIs w) : d.parkWords.ImgIs w := by
  refine h.each _ fun p _ c hc => ite ?_ hc
  unfold Dev.sendWord
  extract_lets s heard emitted sent
  have hsent : sent.ImgIs w := setPort (d := emitted) hc ..
  exact (hsent.enterLr p true).ite hsent

theorem hrSettle (h : d.ImgIs w) : d.hrSettle.ImgIs w :=
  h.each _ fun p _ _ hc => ((hc.flushPort p).enterLr p false).ite hc

theorem seeTimePort (h : d.ImgIs w) : d.seeTimePort.ImgIs w := by
  unfold Dev.seeTimePort
  split
  · exact h
  · split
    · exact h.kin (Dev.Kin.ringUnlock d)
    · exact h.ite (put (d := { d with tb := { d.tb with good := 0, bad := 0 } }) h (by decide) _)

/-! ## A change of mode -/

theorem guardFall (h : d.ImgIs w) : d.guardFall.ImgIs w := by
  unfold Dev.guardFall
  extract_lets girdle lines fallen
  have hg : girdle.ImgIs w := ((h.put (f := SDC_STAT_HWL .L) (by decide) _).put (by decide) _).ite h
  have hl : lines.ImgIs w := (hg.put (f := BZL_STAT_GIN .L) (by decide) _).put (by decide) _
  have hf : fallen.ImgIs w := hl.each _ fun a _ c hc => hc.setBz ..
  exact (hf.kin (Dev.Kin.seeGirdle _)).kin (Dev.Kin.seeSdc _)

theorem bezelPowerUp (h : d.ImgIs w) (a : Afe) : (d.bezelPowerUp a).ImgIs w :=
  (((((h.afe (f := CMP_OVST a) rfl _).afe (f := CMP_UVST a) rfl _).afe (f := CMP_TST_UT a) rfl _).afe (f := CMP_TST_OT a)
    rfl _).afe (f := BZL_STAT_STATE a) rfl _).setBz ..

theorem guardRise (h : d.ImgIs w) : d.guardRise.ImgIs w :=
  ((h.each _ fun a _ _ hc => hc.bezelPowerUp a).kin (Dev.Kin.seeGirdle _)).kin (Dev.Kin.seeSdc _)

theorem bdlRise (h : d.ImgIs w) : d.bdlRise.ImgIs w :=
  (h.put (f := BDL_LSTAT_VALID 0) (by decide) _).put (f := BDL_LSTAT_VALID 1) (by decide) _

/-- A change of mode, with all that it starts and stops, leaves FW_IMG alone (R66). -/
theorem moveTo (h : d.ImgIs w) (cur base trig : Nat) : (d.moveTo cur base trig).ImgIs w := by
  unfold Dev.moveTo
  extract_lets was up parked shown fallen started served ports risen
  have hparked : parked.ImgIs w := h.parkWords.ite h
  have hshown : shown.ImgIs w := hparked.kin (Dev.Kin.showMode ..)
  have hfallen : fallen.ImgIs w := hshown.guardFall.ite hshown
  have hstarted : started.ImgIs w := hfallen.evalStart.ite hfallen
  have hserved : served.ImgIs w := hstarted.kin (Dev.Kin.services ..)
  have hports : ports.ImgIs w := hserved.portsOff.ite hserved.portsOn
  have hrisen : risen.ImgIs w := hports.guardRise.bdlRise.ite hports
  have hsettled : risen.hrSettle.seeTimePort.clkSettle.ImgIs w := hrisen.hrSettle.seeTimePort
  exact hsettled.guardSettle.reportFound

end Dev.ImgIs

end Sys2Proof.Machine
end

section
/-!
SUPPORT. The CORE warm reset (02, R45, R47, R48, R65, R502, R504): what its start leaves behind, which image runs after it,
and what the work that follows its end leaves alone.
-/

namespace Sys2Proof.Machine

/-! ## What the start keeps of FW_IMG -/

/-- A store without the addresses that are not kept lists the others as before. -/
theorem Store.find_filter {keep : Nat → Bool} {a : Nat} (s : Store) (h : keep a = true) :
    Store.find a (s.filter (fun p => keep p.1)) = Store.find a s := by
  induction s with
  | nil => rfl
  | cons p rest ih =>
    obtain ⟨b, x⟩ := p
    by_cases hb : b = a
    · subst hb
      simp [h, Store.find]
    · by_cases hk : keep b = true <;> simp [hk, Store.find, hb, ih]

namespace Dev.ImgIs

variable {w : Word} {d : Dev}

theorem opBroken (h : d.ImgIs w) : d.opBroken.ImgIs w := by
  have ver : (fwVer d.otherSlot).addr ≠ FW_IMG_RUN.addr := by
    unfold fwVer
    split <;> decide
  unfold Dev.opBroken
  split
  · exact h.put ver 0
  · exact h.put ver 0
  · exact h

theorem holdRuns (h : d.ImgIs w) (cause : Nat) : (d.holdRuns cause).ImgIs w :=
  put (d := { d with hif := _ }) h (by decide) _

theorem copyBroken (h : d.ImgIs w) (s : Snap) (i state : Nat) : (d.copyBroken s i state).ImgIs w := by
  have slots (c : Dev) (hc : c.ImgIs w) (x : BurlSt) : Dev.ImgIs w ({ c with burl := x } : Dev).showSlots :=
    (put (d := { c with burl := x }) hc (f := RCD_PROT_PROT) (by decide) _).put (by decide) _
  exact (slots { d.draw.2 with cap := _ } h _).put (by decide) 0

theorem showLife (h : d.ImgIs w) : d.showLife.ImgIs w :=
  ((h.put (by decide) _).put (by decide) _).put (by decide) _

theorem showBankFuses (h : d.ImgIs w) : d.showBankFuses.ImgIs w :=
  (h.put (by decide) _).each _ fun b hb c hc =>
    hc.put (by have := List.mem_range.mp hb; simp only [BST_RES_SPARES, FW_IMG_RUN]; omega) _

theorem withCap (h : d.ImgIs w) (x : CapSt) : Dev.ImgIs w { d with cap := x } := h

theorem fitCap (h : d.ImgIs w) : d.fitCap.ImgIs w :=
  (((h.withCap _).put (by decide) _).put (by decide) _).put (by decide) _

theorem restored (h : d.ImgIs w) {keep : Nat → Bool} (hkeep : keep FW_IMG_RUN.addr = true) :
    Dev.ImgIs w { d with regs := d.regs.filter (fun p => keep p.1), staged := d.staged.filter (fun p => keep p.1) } := by
  unfold Dev.ImgIs Dev.word at h ⊢
  rw [Store.find_filter d.regs hkeep]
  exact h

/-- CORE loses its registers, but not FW_IMG, where it is kept and goes on showing what it did. -/
theorem coreLoses (h : d.ImgIs w) {keep : Nat → Bool} {on : Dev → Dev} (hkeep : keep FW_IMG_RUN.addr = true)
    (hon : ∀ c : Dev, c.ImgIs w → (on c).ImgIs w) : (d.coreLoses keep on).ImgIs w := by
  unfold Dev.coreLoses
  -- the lets between `ports` and `anew` are the parts of the state that start anew
  extract_lets kept shown ports _ _ _ _ _ _ _ _ _ _ _ anew fitted lost
  have hkept : kept.ImgIs w := hon _ (h.restored hkeep)
  have hshown : shown.ImgIs w := (hkept.setWord (by decide) _).showLife.showBankFuses
  clear_value shown
  have hports : ports.ImgIs w := hshown.each _ fun p _ c hc =>
    (hc.putPort (p := p) (by simp [portFields]) _).putPort (p := p) (by simp [portFields]) _
  clear_value ports
  have hanew : anew.balWarm.ImgIs w := hports
  clear_value anew
  have hfitted : fitted.ImgIs w := (hanew.put (by decide) _).fitCap
  clear_value fitted
  have hlost : lost.ImgIs w := (hfitted.each _ fun a _ _ hc => hc.setAux a _).kin (Dev.Kin.owdLose _)
  exact hlost.kin (Dev.Kin.seeStages _)

theorem showOn (h : d.ImgIs w) (old : Dev) : (d.showOn old).ImgIs w :=
  (((((h.put (f := PWR_STAT_CUR) (by decide) _).put (f := PWR_STAT_BASE) (by decide) _).put (f := PWR_STAT_CALBANK)
    (by decide) _).put (f := SPN_PORTN_INV) (by decide) _).put (f := SPN_PORTS_INV) (by decide) _).setWord (by decide) _

end Dev.ImgIs

/-! ## The start -/

/-- What the start of a CORE warm reset leaves, whatever its cause (R45, R47). -/
structure Dev.WarmStarted (d : Dev) (cause : Nat) (e : Dev) : Prop where
  build  : e.build = d.build
  role   : e.role = d.role
  mtick  : e.mtick = d.mtick
  asks   : e.asks = d.asks
  warm   : e.pw.warm = true
  rstDue : e.fw.rstDue = false
  cause  : e.get SYS_RSTCAUSE_CAUSE = cause % 256
  img    : e.word FW_IMG_RUN.addr = d.word FW_IMG_RUN.addr

/-- CORE loses its registers: MTICK and what was asked stay, the warm reset runs, and no reset is due any more. -/
theorem Dev.coreLoses_frame (d : Dev) (keep : Nat → Bool) (old : Dev) :
    let e := d.coreLoses keep (·.showOn old)
    e.build = d.build ∧ e.mtick = d.mtick ∧ e.asks = d.asks ∧ e.pw.warm = true ∧ e.fw.rstDue = false := by
  unfold Dev.coreLoses
  -- the lets between `ports` and `anew` are the parts of the state that start anew
  extract_lets kept shown ports _ _ _ _ _ _ _ _ _ _ _ anew fitted lost e
  have hshown : Dev.Filled kept shown := (((Dev.Filled.refl kept).setWord (by decide) _).showLife).showBankFuses
  have hports : Dev.Grow shown ports := (Dev.Grow.refl shown).each _ _ fun _ _ hc => (hc.put ..).put ..
  have hkept : kept.build = d.build ∧ kept.mtick = d.mtick ∧ kept.asks = d.asks := ⟨rfl, rfl, rfl⟩
  clear_value kept shown ports
  have hanew : anew.build = ports.build ∧ anew.mtick = ports.mtick ∧ anew.asks = ports.asks
      ∧ anew.pw.warm = true ∧ anew.fw.rstDue = false := ⟨rfl, rfl, rfl, rfl, rfl⟩
  clear_value anew
  have hfitted : fitted.build = ports.build ∧ fitted.mtick = ports.mtick ∧ fitted.asks = ports.asks
      ∧ fitted.pw.warm = true ∧ fitted.fw.rstDue = false := hanew
  have hlost : Dev.Grow fitted e := ((Dev.Grow.refl fitted).each _ _ fun _ a hc => hc.setAux a _).owdLose.seeStages
  clear_value fitted
  obtain ⟨hb, hm, ha, hw, hf⟩ := hfitted
  refine ⟨?_, ?_, ?_, hlost.warm.trans hw, (congrArg FwSt.rstDue hlost.fw).trans hf⟩
  · rw [hlost.build, hb, hports.build, hshown.build, hkept.1]
  · rw [hlost.mtick, hm, hports.mtick, hshown.mtick, hkept.2.1]
  · rw [hlost.asks, ha, hports.asks, hshown.asks, hkept.2.2]

/-- Operations break off, what ran for the host is held (R411, R484), and then CORE loses its registers. -/
theorem Dev.warmReset_eq {d : Dev} (cause : Nat) (h : d.lathe = true) :
    ∃ b, Dev.Grow d b ∧ b.ImgIs (d.word FW_IMG_RUN.addr)
      ∧ d.warmReset cause = ((b.iicStop).coreLoses keptWarm (·.showOn b)).put SYS_RSTCAUSE_CAUSE cause := by
  have hgrow : Dev.Grow d (d.opBroken.holdRuns 2).holdComps := (((Dev.Grow.refl d).opBroken).holdRuns 2).holdComps
  have himg : (d.opBroken.holdRuns 2).holdComps.ImgIs (d.word FW_IMG_RUN.addr) :=
    (show d.ImgIs _ from rfl).opBroken.holdRuns 2
  unfold Dev.warmReset
  rw [if_neg (by simp [h])]
  extract_lets held broken
  have hbroken : Dev.Grow d broken ∧ broken.ImgIs (d.word FW_IMG_RUN.addr) := by
    unfold broken
    split
    · split
      · exact ⟨hgrow.copyBroken .., himg.copyBroken ..⟩
      · exact ⟨hgrow, himg⟩
    · exact ⟨hgrow, himg⟩
  exact ⟨broken, hbroken.1, hbroken.2, rfl⟩

theorem Dev.warmReset_started {d : Dev} (cause : Nat) (h : d.lathe = true) :
    Dev.WarmStarted d cause (d.warmReset cause) := by
  have hrole := d.warmReset_role cause
  obtain ⟨b, hgrow, himg, heq⟩ := Dev.warmReset_eq cause h
  rw [heq] at hrole ⊢
  have hstop := hgrow.iicStop
  obtain ⟨hbuild, hmtick, hasks, hwarm, hrst⟩ := b.iicStop.coreLoses_frame keptWarm b
  have himg' := (himg.kin (Dev.Kin.iicStop _)).coreLoses (keep := keptWarm) (by decide) fun c hc => hc.showOn b
  generalize b.iicStop.coreLoses keptWarm (·.showOn b) = e at hrole hbuild hmtick hasks hwarm hrst himg' ⊢
  exact ⟨hbuild.trans hstop.build, hrole, hmtick.trans hstop.mtick, hasks.trans hstop.asks, hwarm, hrst,
    Dev.get_put_same _ _ _ (by decide), himg'.put (by decide) _⟩

end Sys2Proof.Machine
end

section
/-!
SUPPORT. The commands of the warm resets (02, R45, R48, R65, R292, R502, R504): what each of them leaves of the device.
-/

namespace Sys2Proof.Machine

/-! ## A lifted effect -/

/-- An effect that asks for nothing and keeps build and role, lifted: it is the command's, but that no fuse heals. -/
theorem State.lift_settled (d : Dev) (q : List Instr) (f : Dev → Dev) (ha : (f d).settled) (hb : (f d).build = d.build)
    (hr : (f d).role = d.role) :
    (⟨d, q⟩ : State).lift f = .next ⟨{ f d with fz := d.fz.kept (f d).fz }, q⟩ := by
  unfold State.lift
  rw [Dev.after_of_settled ha hb]
  dsimp only
  rw [← hr]

/-- What a warm reset leaves does not depend on the fuses. -/
theorem Dev.WarmStarted.withFuses {d e : Dev} {cause : Nat} (h : Dev.WarmStarted d cause e) (x : Fuses) :
    Dev.WarmStarted d cause { e with fz := x } :=
  ⟨h.build, h.role, h.mtick, h.asks, h.warm, h.rstDue, h.cause, h.img⟩

/-- A command whose effect is the start of a warm reset of a device as settled, of the same build and in the same role. -/
theorem State.lift_warmReset (d c : Dev) (q : List Instr) (f : Dev → Dev) (cause : Nat) (hf : f d = c.warmReset cause)
    (hl : c.lathe = true) (ha : c.settled) (hb : c.build = d.build) (hr : c.role = d.role) :
    ∃ e, (⟨d, q⟩ : State).lift f = .next ⟨e, q⟩ ∧ Dev.WarmStarted c cause e := by
  have h := Dev.warmReset_started cause hl
  rw [← hf] at h
  exact ⟨_, State.lift_settled d q f (h.asks.trans ha) (h.build.trans hb) (h.role.trans hr), h.withFuses _⟩

/-! ## The causes -/

/-- A trial that ends without CONFIRM: NEXT names the slot that does not run (R504). -/
theorem Dev.trialLost_img (d : Dev) (cause : Nat) : (d.trialLost cause).get FW_IMG_TRIAL = 0
    ∧ (d.trialLost cause).get FW_IMG_NEXT = 1 - d.get FW_IMG_RUN := by
  unfold Dev.trialLost
  refine ⟨Dev.get_put_same _ _ _ (by decide), ?_⟩
  rw [Dev.get_put_apart _ _ _ _ (by decide) (by decide) (by decide), Dev.get_put_same _ _ _ (by decide)]
  exact Nat.mod_eq_of_lt (lt_of_le_of_lt (Nat.sub_le _ _) (by decide))

/-- WATCHDOG_EXPIRY (R45): in a trial it ends the trial first. -/
theorem exec_watchdogExpiry {d : Dev} (q : List Instr) (h : d.runs) :
    ∃ t, exec .watchdogExpiry ⟨d, q⟩ = .next t ∧ t.dev.get SYS_RSTCAUSE_CAUSE = 0x10 ∧ t.dev.pw.warm = true
      ∧ t.dev.role = d.role ∧ t.dev.mtick = d.mtick := by
  obtain ⟨hs, hl⟩ := h
  have hcause (c : Dev) (hf : watchdogExpiryDev d = c.warmReset 0x10) (hc : c.lathe = d.lathe) (ha : c.asks = d.asks)
      (hb : c.build = d.build) (hr : c.role = d.role) (hm : c.mtick = d.mtick) :
      ∃ t, exec .watchdogExpiry ⟨d, q⟩ = .next t ∧ t.dev.get SYS_RSTCAUSE_CAUSE = 0x10 ∧ t.dev.pw.warm = true
        ∧ t.dev.role = d.role ∧ t.dev.mtick = d.mtick := by
    obtain ⟨e, he, hw⟩ := State.lift_warmReset d c q _ 0x10 hf (hc.trans hl) (ha.trans hs) hb hr
    exact ⟨_, he, hw.cause, hw.warm, hw.role.trans hr, hw.mtick.trans hm⟩
  by_cases ht : d.bit FW_IMG_TRIAL = true
  · exact hcause (d.trialLost 2) (by simp [watchdogExpiryDev, hl, ht]) rfl rfl rfl rfl rfl
  · exact hcause d (by simp [watchdogExpiryDev, hl, ht]) rfl rfl rfl rfl rfl

/-- A command with one request open, which leaves none: what the request does is the command's effect. -/
theorem State.lift_asked (d c : Dev) (q : List Instr) (f : Dev → Dev) (a : Ask) (hf : f d = { c with asks := [a] })
    (ha : ({ c with asks := [] } : Dev).takeAsk a |>.settled)
    (hb : (({ c with asks := [] } : Dev).takeAsk a).build = d.build)
    (hr : (({ c with asks := [] } : Dev).takeAsk a).role = d.role) :
    (⟨d, q⟩ : State).lift f = .next ⟨{ ({ c with asks := [] } : Dev).takeAsk a with
      fz := d.fz.kept (({ c with asks := [] } : Dev).takeAsk a).fz }, q⟩ := by
  have hdo : Dev.takeAsks ((f d).asks.length + 64) (f d) = ({ c with asks := [] } : Dev).takeAsk a := by
    rw [hf]
    exact Dev.takeAsks_nil _ _ ha
  unfold State.lift Dev.after
  dsimp only
  rw [hdo, ← hb, ← hr]

/-- DRST_WARM (R48). -/
theorem exec_drstWarm {d : Dev} (q : List Instr) (h : d.accepts SYS_DRST_WARM) :
    ∃ t, exec .drstWarm ⟨d, q⟩ = .next t ∧ t.dev.get SYS_RSTCAUSE_CAUSE = 0x11 ∧ t.dev.pw.warm = true
      ∧ t.dev.role = d.role ∧ t.dev.mtick = d.mtick := by
  obtain ⟨⟨hs, hawake⟩, hadm⟩ := h
  have hs : d.asks = [] := hs
  have hact := Dev.actWrite_awake SYS_DRST_WARM (·.ask (.drst 128)) d hawake hadm
  have hf : Dev.actWrite SYS_DRST_WARM (·.ask (.drst 128)) d = { d.commandDone with asks := [.drst 128] } := by
    rw [hact]
    unfold Dev.ask Dev.commandDone Dev.setHold
    rw [hs]
    rfl
  -- 128 is the bit WARM of SYS_DRST, and `Dev.drst 128` is a warm reset (Table 2-9)
  have hw : Dev.WarmStarted { d.commandDone with asks := [] } 0x11
      (({ d.commandDone with asks := [] } : Dev).takeAsk (.drst 128)) :=
    Dev.warmReset_started 0x11 hawake.1
  exact ⟨_, State.lift_asked d d.commandDone q _ _ hf hw.asks hw.build hw.role, hw.cause, hw.warm, hw.role, hw.mtick⟩

/-- FW_ACT_RESET_START (R504): the selection stays. -/
theorem exec_fwActResetStart {d : Dev} (q : List Instr) (h : d.runs) (hd : d.fw.rstDue = true) :
    ∃ t, exec .fwActResetStart ⟨d, q⟩ = .next t ∧ t.dev.pw.warm = true ∧ t.dev.fw.rstDue = false
      ∧ t.dev.get FW_IMG_NEXT = d.get FW_IMG_NEXT := by
  have hf : fwActResetStartDev d = d.warmReset (unnamedCause 1) := by simp [fwActResetStartDev, h.2, hd]
  obtain ⟨e, he, hw⟩ := State.lift_warmReset d d q _ _ hf h.2 h.1 rfl rfl
  exact ⟨_, he, hw.warm, hw.rstDue, congrArg (bitsOf · 4 4) hw.img⟩

/-- FW_TRIAL_EXPIRY (R504): NEXT goes back to the image that ran before. -/
theorem exec_fwTrialExpiry {d : Dev} (q : List Instr) (h : d.runs) (ht : d.bit FW_IMG_TRIAL = true) :
    ∃ t, exec .fwTrialExpiry ⟨d, q⟩ = .next t ∧ t.dev.pw.warm = true ∧ t.dev.get FW_IMG_TRIAL = 0
      ∧ t.dev.get FW_IMG_NEXT = 1 - d.get FW_IMG_RUN := by
  have hf : fwTrialExpiryDev d = (d.trialLost 1).warmReset (unnamedCause 2) := by simp [fwTrialExpiryDev, h.2, ht]
  obtain ⟨e, he, hw⟩ := State.lift_warmReset d (d.trialLost 1) q _ _ hf h.2 h.1 rfl rfl
  obtain ⟨htrial, hnext⟩ := d.trialLost_img 1
  exact ⟨_, he, hw.warm, (congrArg (bitsOf · 8 8) hw.img).trans htrial, (congrArg (bitsOf · 4 4) hw.img).trans hnext⟩

/-- MEM_SCRUB (R292): nothing, an event, or a warm reset. -/
theorem exec_memScrub {d : Dev} (q : List Instr) (h : d.runs) :
    exec (.memScrub .clean) ⟨d, q⟩ = .next ⟨d, q⟩
    ∧ exec (.memScrub .corrected) ⟨d, q⟩ = .next ⟨d.raise 0xB00E 0 [], q⟩
    ∧ ∃ t, exec (.memScrub .uncorrectable) ⟨d, q⟩ = .next t ∧ t.dev.pw.warm = true ∧ t.dev.mtick = d.mtick := by
  obtain ⟨hs, hl⟩ := h
  refine ⟨?_, ?_, ?_⟩
  · exact State.lift_runs d q _ d (by simp [memScrubDev, hl]) hs rfl rfl rfl
  · exact State.lift_runs d q _ _ (by simp [memScrubDev, hl]) (by simpa using hs) (by simp) (by simp) (by simp)
  · have hf : memScrubDev .uncorrectable d = d.warmReset (unnamedCause 3) := by simp [memScrubDev, hl]
    obtain ⟨e, he, hw⟩ := State.lift_warmReset d d q _ _ hf hl hs rfl rfl
    exact ⟨_, he, hw.warm, hw.mtick⟩

/-! ## The image that runs -/

/-- The slot that CORE boots where one of the two images verifies (R502): the one NEXT names, or the other. -/
def Dev.bootSlot (d : Dev) (aOk bOk : Bool) : Nat :=
  if (if d.get FW_IMG_NEXT = 0 then aOk else bOk) then d.get FW_IMG_NEXT else 1 - d.get FW_IMG_NEXT

/-- FW_IMG.RUN shows a slot, and CORE runs. -/
def Dev.Boots (s : Nat) (d : Dev) : Prop := d.fw.dead = false ∧ d.get FW_IMG_RUN = s

theorem Dev.Boots.put {d : Dev} {s : Nat} (h : d.Boots s) {f : Fld} (hf : f.wf = true) (ha : f.apart FW_IMG_RUN = true)
    (v : Nat) : (d.put f v).Boots s :=
  ⟨h.1, (Dev.get_put_apart _ _ _ _ hf (by decide) ha).trans h.2⟩

theorem Dev.Boots.raise {d : Dev} {s : Nat} (h : d.Boots s) (code src : Nat) (items : List Nat) :
    (d.raise code src items).Boots s :=
  ⟨by simpa using h.1, ((Dev.Sent.raise ..).get _ (by decide)).trans h.2⟩

theorem Dev.Boots.told {d : Dev} {s : Nat} (h : d.Boots s) :
    Dev.Boots s { d with fw := { d.fw with fresh := false } } := h

theorem Dev.Boots.reverted {d : Dev} {s : Nat} (h : d.Boots s) :
    Dev.Boots s { d with fw := { d.fw with revert := none } } := h

theorem Dev.bootSlot_lt (d : Dev) (aOk bOk : Bool) : d.bootSlot aOk bOk < 2 := by
  have : d.get FW_IMG_NEXT < 2 := d.get_lt FW_IMG_NEXT
  unfold Dev.bootSlot
  split_ifs <;> omega

/-- The image of a slot runs, and FW_IMG shows it. -/
theorem Dev.boots_run (d : Dev) {s : Nat} (hs : s < 2) (x : FwSt) (hx : x.dead = false) (svn fallbk : Nat) :
    Dev.Boots s (((({ d with fw := x } : Dev).put FW_IMG_RUN s).put FW_SVN_RUN svn).put FW_IMG_FALLBK fallbk) := by
  have hrun : Dev.Boots s (({ d with fw := x } : Dev).put FW_IMG_RUN s) :=
    ⟨hx, (Dev.get_put_same _ _ _ (by decide)).trans (Nat.mod_eq_of_lt hs)⟩
  exact (hrun.put (by decide) (by decide) _).put (by decide) (by decide) _

/-- One of two images verifies: CORE runs the one that NEXT names, or the other (R502, R504). -/
theorem Dev.bootImage_boots (d : Dev) {aOk bOk : Bool} (h : (aOk || bOk) = true) :
    (d.bootImage aOk bOk).Boots (d.bootSlot aOk bOk) := by
  have hslot := d.bootSlot_lt aOk bOk
  have hlt : d.get FW_IMG_NEXT < 2 := d.get_lt FW_IMG_NEXT
  unfold Dev.bootImage
  extract_lets next good run core named _ other _ _ booted
  have hs : d.bootSlot aOk bOk = if good next then next else 1 - next := rfl
  have ho : ¬ good next = true → good (1 - next) = true := by
    have h01 : next = 0 ∨ next = 1 := by omega
    unfold good
    rcases h01 with h0 | h0
    · rw [h0]
      intro hn
      exact (Bool.or_eq_true_iff.mp h).resolve_left hn
    · rw [h0]
      intro hn
      exact (Bool.or_eq_true_iff.mp h).resolve_right hn
  have hnamed : next < 2 → named.Boots next := fun hn => core.boots_run hn _ rfl _ _
  have hother : 1 - next < 2 → other.Boots (1 - next) := fun hn => core.boots_run hn _ rfl _ _
  clear_value named other core good
  have hbooted : booted.Boots (d.bootSlot aOk bOk) := by
    rw [hs] at hslot ⊢
    unfold booted
    split
    · split
      · exact ((hnamed hlt).told.put (by decide) (by decide) _).raise ..
      · exact hnamed hlt
    · rename_i hn
      rw [if_pos (ho hn)]
      rw [if_neg hn] at hslot
      exact (hother hslot).told.raise ..
  split
  · exact hbooted.reverted.raise ..
  · exact hbooted

/-- With neither image CORE runs no firmware (R502). -/
theorem Dev.bootImage_dead (d : Dev) : (d.bootImage false false).fw.dead = true := by
  unfold Dev.bootImage
  extract_lets next good run core named _ other _ _ booted
  have hbooted : booted.fw.dead = true := by
    have hn (s : Nat) : ¬ good s = true := by
      show ¬ (if s = 0 then false else false) = true
      simp
    unfold booted
    rw [if_neg (hn _), if_neg (hn _)]
  split
  · simpa using hbooted
  · exact hbooted

/-! ## The end -/

namespace Dev.Grow

variable {d e : Dev}

theorem busClear (o : IicBusObs) (h : Dev.Grow d e) : Dev.Grow d (e.busClear o) := by
  have he : Dev.Grow d (e.emit .iicPulses) := h.emit _
  unfold Dev.busClear
  split_ifs
  · exact h
  · exact ((he.put ..).put ..).raise ..
  · exact he
  · exact (he.put ..).raise ..

theorem modeAfterWarm (h : Dev.Grow d e) : Dev.Grow d e.modeAfterWarm := by
  unfold Dev.modeAfterWarm
  extract_lets t shown
  have hs : Dev.Grow d shown := (h.put ..).put ..
  split
  · exact hs.moveTo ..
  · exact hs.moveTo ..
  · split_ifs
    · exact hs.moveTo ..
    · exact hs.moveTo ..
    · exact hs.moveTo ..

theorem withSaf (x : SafeSt) (h : Dev.Grow d e) : Dev.Grow d { e with saf := x } := by apply h.upd <;> rfl

theorem catchUp (h : Dev.Grow d e) : Dev.Grow d e.catchUp := by
  unfold Dev.catchUp
  extract_lets _ latched _ expired tripped
  have hlatched : Dev.Grow d latched := by
    unfold latched
    split
    · exact (h.withSaf _).enterSafe ..
    · exact h
  have hexpired : Dev.Grow d expired := ((hlatched.withSaf _).graceAct true).ite hlatched
  have htripped : Dev.Grow d tripped := by
    unfold tripped
    split
    · exact (hexpired.enterSafe ..).sendTrip.ite hexpired
    · exact hexpired
  exact htripped.guardSettle

end Dev.Grow

namespace Dev.ImgIs

variable {w : Word} {d : Dev}

theorem emit (h : d.ImgIs w) (o : Output) : (d.emit o).ImgIs w := h

theorem busClear (o : IicBusObs) (h : d.ImgIs w) : (d.busClear o).ImgIs w := by
  have he : (d.emit .iicPulses).ImgIs w := h.emit _
  unfold Dev.busClear
  split_ifs
  · exact h
  · exact ((he.put (by decide) _).put (by decide) _).raise ..
  · exact he
  · exact (he.put (by decide) _).raise ..

theorem modeAfterWarm (h : d.ImgIs w) : d.modeAfterWarm.ImgIs w := by
  unfold Dev.modeAfterWarm
  extract_lets t shown
  have hs : shown.ImgIs w := (h.put (f := PWR_STAT_TARGET) (by decide) _).put (by decide) _
  split
  · exact hs.moveTo ..
  · exact hs.moveTo ..
  · split_ifs
    · exact hs.moveTo ..
    · exact hs.moveTo ..
    · exact hs.moveTo ..

theorem withSaf (h : d.ImgIs w) (x : SafeSt) : Dev.ImgIs w { d with saf := x } := h

theorem catchUp (h : d.ImgIs w) : d.catchUp.ImgIs w := by
  unfold Dev.catchUp
  extract_lets _ latched _ expired tripped
  have hlatched : latched.ImgIs w := by
    unfold latched
    split
    · exact (h.withSaf _).kin (Dev.Kin.enterSafe ..)
    · exact h
  have hexpired : expired.ImgIs w := ((hlatched.withSaf _).kin (Dev.Kin.graceAct _ true)).ite hlatched
  have htripped : tripped.ImgIs w := by
    unfold tripped
    split
    · exact ((hexpired.kin (Dev.Kin.enterSafe ..)).kin (Dev.Kin.sendTrip _)).ite hexpired
    · exact hexpired
  exact htripped.guardSettle

end Dev.ImgIs

/-! ## The restart of CORE -/

/-- What CORE takes up again by its role: a member waits for the phase of its windows (R368), and a head rebuilds its ring
and tells its host (R350, R411). -/
def Dev.resumeRole (d : Dev) : Dev :=
  match d.role with
  | .member => d.put SPN_CMD_SYNCWAIT 1
  | .head =>
    let d := (d.put SPN_ENUM_EID (d.get SPN_POS_EID)).putB SPN_RING_OPEN d.hd.rebuild
    let d := { d with hd := { d.hd with links := if d.hd.rebuild then [⟨false, false⟩] else [] } }
    ((d.put HIF_STAT_READY 1).put HIF_STAT_WARM 1).emit (.msix 0)

/-- The work that follows the boot of an image at the end of a warm reset. -/
def Dev.restart (d : Dev) (iic : IicBusObs) : Dev :=
  (d.busClear iic).resumeRole.modeAfterWarm.setHold.servicesUp.catchUp

/-- The end of a warm reset of a CORE that works: it boots, and restarts where an image runs (R65, R502). -/
theorem warmResetEndDev_boots (aOk bOk : Bool) (iic : IicBusObs) {d : Dev} (hw : d.pw.warm = true)
    (hc : d.dead .core = false) :
    warmResetEndDev aOk bOk iic d
      = (let e := ({ d with pw := { d.pw with warm := false } } : Dev).bootImage aOk bOk
        if e.fw.dead then e else e.restart iic) := by
  unfold warmResetEndDev
  rw [if_neg (by simp [hw, hc])]
  rfl

/-- A CORE that failed does not end its warm reset (R294). -/
theorem warmResetEndDev_failed (aOk bOk : Bool) (iic : IicBusObs) {d : Dev} (hc : d.dead .core = true) :
    warmResetEndDev aOk bOk iic d = d := if_pos (.inr hc)

theorem Dev.Grow.resumeRole {d e : Dev} (h : Dev.Grow d e) : Dev.Grow d e.resumeRole := by
  unfold Dev.resumeRole
  split
  · exact h.put ..
  · extract_lets opened _ linked
    have hopened : Dev.Grow d opened := (h.put ..).putB ..
    have hlinked : Dev.Grow d linked := by apply hopened.upd <;> rfl
    exact ((hlinked.put ..).put ..).emit _

theorem Dev.ImgIs.resumeRole {w : Word} {d : Dev} (h : d.ImgIs w) : d.resumeRole.ImgIs w := by
  unfold Dev.resumeRole
  split
  · exact h.put (by decide) _
  · extract_lets opened _ linked
    have hopened : opened.ImgIs w := (h.put (f := SPN_ENUM_EID) (by decide) _).putB (by decide) _
    have hlinked : linked.ImgIs w := hopened
    exact ((hlinked.put (f := HIF_STAT_READY) (by decide) _).put (f := HIF_STAT_WARM) (by decide) _).emit _

theorem Dev.Grow.restart (d : Dev) (iic : IicBusObs) : Dev.Grow d (d.restart iic) :=
  ((Dev.Grow.refl d).busClear iic).resumeRole.modeAfterWarm.setHold.servicesUp.catchUp

theorem Dev.ImgIs.restart {w : Word} {d : Dev} (h : d.ImgIs w) (iic : IicBusObs) : (d.restart iic).ImgIs w := by
  have hmode : (d.busClear iic).resumeRole.modeAfterWarm.setHold.ImgIs w := (h.busClear iic).resumeRole.modeAfterWarm
  exact (hmode.kin (Dev.Kin.servicesUp _)).catchUp

/-- The boot of an image leaves the mode and its conditions as they were. -/
theorem Dev.bootImage_pw (d : Dev) (aOk bOk : Bool) : (d.bootImage aOk bOk).pw = d.pw := by
  unfold Dev.bootImage
  extract_lets next good run core named _ other _ _ booted
  have hbooted : booted.pw = d.pw := by
    unfold booted
    split_ifs
    · exact Dev.raise_pw ..
    · rfl
    · exact Dev.raise_pw ..
    · rfl
  split
  · exact (Dev.raise_pw ..).trans hbooted
  · exact hbooted

/-- WARM_RESET_END of a CORE that failed (R294). -/
theorem exec_warmResetEnd_failed {d : Dev} (q : List Instr) (a b : Bool) (iic : IicBusObs) (hs : d.settled)
    (hc : d.dead .core = true) : exec (.warmResetEnd a b iic) ⟨d, q⟩ = .next ⟨d, q⟩ :=
  State.lift_runs d q _ d (warmResetEndDev_failed a b iic hc) hs rfl rfl rfl

/-- WARM_RESET_END of a CORE that works: the reset is over, and the part runs what it booted (R65, R502). -/
theorem exec_warmResetEnd {d : Dev} (q : List Instr) (a b : Bool) (iic : IicBusObs) (hs : d.settled)
    (hw : d.pw.warm = true) (hc : d.dead .core = false) :
    ∃ t, exec (.warmResetEnd a b iic) ⟨d, q⟩ = .next t ∧ t.dev.pw.warm = false
      ∧ ((a || b) = true → t.dev.Boots (d.bootSlot a b)) ∧ ((a || b) = false → t.dev.fw.dead = true) := by
  have heq := warmResetEndDev_boots a b iic hw hc
  have hboots := Dev.bootImage_boots ({ d with pw := { d.pw with warm := false } } : Dev) (aOk := a) (bOk := b)
  have hdead : (a || b) = false →
      (({ d with pw := { d.pw with warm := false } } : Dev).bootImage a b).fw.dead = true := by
    intro h
    obtain ⟨rfl, rfl⟩ := Bool.or_eq_false_iff.mp h
    exact Dev.bootImage_dead _
  have hwarm := congrArg PowerSt.warm (Dev.bootImage_pw ({ d with pw := { d.pw with warm := false } } : Dev) a b)
  have hfill := (Dev.Filled.refl ({ d with pw := { d.pw with warm := false } } : Dev)).bootImage a b
  generalize ({ d with pw := { d.pw with warm := false } } : Dev).bootImage a b = e at heq hboots hdead hwarm hfill
  have hgrow : Dev.Grow e (warmResetEndDev a b iic d) := by
    rw [heq]
    exact (Dev.Grow.refl e).ite (Dev.Grow.restart e iic)
  have himg : (warmResetEndDev a b iic d).ImgIs (e.word FW_IMG_RUN.addr) := by
    rw [heq]
    exact Dev.ImgIs.ite rfl (Dev.ImgIs.restart rfl iic)
  refine ⟨_, State.lift_settled d q _ ((hgrow.asks.trans hfill.asks).trans hs) (hgrow.build.trans hfill.build)
    (hgrow.role.trans hfill.role), hgrow.warm.trans hwarm, fun h => ?_, fun h => ?_⟩
  · obtain ⟨hruns, hslot⟩ := hboots h
    exact ⟨(congrArg FwSt.dead hgrow.fw).trans hruns, (congrArg (bitsOf · 0 0) himg).trans hslot⟩
  · exact (congrArg FwSt.dead hgrow.fw).trans (hdead h)

/-- Settles O15: a warm reset starts by its cause, MTICK and the role stay (`Dev.WarmStarted`), and its end boots one of two
images (`Dev.Boots`), which the restart that follows leaves running (`Dev.Grow.restart`, `Dev.ImgIs.restart`). -/
theorem warmResetsComplete : Obligations.WarmResetsComplete :=
  ⟨fun _ q h => exec_watchdogExpiry q h,
    fun _ q h => exec_drstWarm q h,
    fun _ q h hd => exec_fwActResetStart q h hd,
    fun _ q h ht => exec_fwTrialExpiry q h ht,
    fun _ q h => exec_memScrub q h,
    fun _ q a b iic hs _ hc => exec_warmResetEnd_failed q a b iic hs hc,
    fun _ q a b iic hs hw _ hc => exec_warmResetEnd q a b iic hs hw hc⟩

end Sys2Proof.Machine
end

section
/-!
SUPPORT. The budget rule (03, R55 to R57, R62): what an evaluation can do, said once, and that it leaves HOLD as it was
and shows its target.
-/

namespace Sys2Proof.Machine

/-! ## What the budget rule can do -/

/-- A transition starts, waits for the I²C port, or is the step to SPECTRO (Table 3-4, R449). -/
theorem Dev.startTrans_cases (d : Dev) (goal trig : Nat) :
    d.startTrans goal trig = { d with pw := { d.pw with iicWait := some trig } }
    ∨ d.startTrans goal trig = d.showMode 6 6 trig
    ∨ ∃ m, d.startTrans goal trig = ({ d with pw := { d.pw with trans := some ⟨m, trig⟩ } }).put PWR_STAT_TRANS 1 := by
  unfold Dev.startTrans
  extract_lets g
  split
  · exact .inl rfl
  · split
    · exact .inr (.inl rfl)
    · exact .inr (.inr ⟨_, rfl⟩)

/-- An evaluation shows the target and leaves it at that, moves BASE under an override mode, notes a trigger for the end
of the transition in progress (R62), or starts a transition. -/
theorem Dev.budgetEval_cases (d : Dev) (trig : Nat) :
    let e := d.put PWR_STAT_TARGET d.targetLevel
    d.budgetEval trig = e
    ∨ d.budgetEval trig = e.showMode (e.get PWR_STAT_CUR) d.targetLevel trig
    ∨ d.budgetEval trig = { e with pw := { e.pw with later := some (0, trig) } }
    ∨ d.budgetEval trig = e.startTrans d.targetLevel trig := by
  unfold Dev.budgetEval
  extract_lets t was e
  split
  case h_1 | h_2 => exact .inl rfl
  case h_3 | h_4 | h_5 | h_6 =>
    split
    · exact .inr (.inl rfl)
    · exact .inl rfl
  case h_7 =>
    split_ifs
    · exact .inl rfl
    · exact .inr (.inr (.inl rfl))
    · exact .inr (.inr (.inr rfl))
    · exact .inr (.inr (.inr rfl))
    · exact .inl rfl

/-- A trigger that asks for a level is noted for the end of the transition in progress, starts the rise, or evaluates
the budget rule (R62). -/
theorem Dev.riseTo_cases (d : Dev) (goal trig : Nat) :
    d.riseTo goal trig = { d with pw := { d.pw with later := some (goal, trig) } }
    ∨ d.riseTo goal trig = d.startTrans goal trig
    ∨ d.riseTo goal trig = d.budgetEval trig := by
  unfold Dev.riseTo
  split_ifs
  · exact .inl rfl
  · exact .inr (.inl rfl)
  · exact .inr (.inr rfl)
  · exact .inr (.inr rfl)

theorem Dev.Moved.riseTo (d : Dev) (goal trig : Nat) : Dev.Moved d (d.riseTo goal trig) := by
  rcases d.riseTo_cases goal trig with h | h | h <;> rw [h]
  · exact Dev.Moved.later' ..
  · exact Dev.Moved.startTrans ..
  · exact Dev.Moved.budgetEval ..

/-! ## HOLD and the target -/

/-- HOLD counts on as it did, and PWR_STAT shows the same target. -/
structure Dev.SameAim (d e : Dev) : Prop where
  hold   : e.pw.hold = d.pw.hold
  target : e.get PWR_STAT_TARGET = d.get PWR_STAT_TARGET

namespace Dev.SameAim

variable {d e f : Dev}

theorem refl (d : Dev) : Dev.SameAim d d := ⟨rfl, rfl⟩

theorem trans (h : Dev.SameAim d e) (g : Dev.SameAim e f) : Dev.SameAim d f :=
  ⟨g.hold.trans h.hold, g.target.trans h.target⟩

theorem put (d : Dev) {f : Fld} (hf : f.wf = true) (ha : f.apart PWR_STAT_TARGET = true) (v : Nat) :
    Dev.SameAim d (d.put f v) :=
  ⟨rfl, Dev.get_put_apart _ _ _ _ hf (by decide) ha⟩

theorem raise (d : Dev) (code src : Nat) (items : List Nat) : Dev.SameAim d (d.raise code src items) :=
  ⟨by rw [Dev.raise_pw], (Dev.Sent.raise ..).get _ (by decide)⟩

theorem showMode (d : Dev) (cur base trig : Nat) : Dev.SameAim d (d.showMode cur base trig) := by
  have hshown : Dev.SameAim d ((d.put PWR_STAT_CUR cur).put PWR_STAT_BASE base) :=
    (put d (by decide) (by decide) _).trans (put _ (by decide) (by decide) _)
  unfold Dev.showMode
  extract_lets was shown
  split
  · exact hshown
  · exact hshown.trans (raise ..)

theorem startTrans (d : Dev) (goal trig : Nat) : Dev.SameAim d (d.startTrans goal trig) := by
  rcases d.startTrans_cases goal trig with h | h | ⟨m, h⟩ <;> rw [h]
  · exact ⟨rfl, rfl⟩
  · exact showMode ..
  · exact trans (e := { d with pw := { d.pw with trans := some ⟨m, trig⟩ } }) ⟨rfl, rfl⟩ (put _ (by decide) (by decide) _)

theorem budgetEval (d : Dev) (trig : Nat) :
    Dev.SameAim (d.put PWR_STAT_TARGET d.targetLevel) (d.budgetEval trig) := by
  rcases d.budgetEval_cases trig with h | h | h | h <;> rw [h]
  · exact refl _
  · exact showMode ..
  · exact ⟨rfl, rfl⟩
  · exact startTrans ..

end Dev.SameAim

/-- An evaluation of the budget rule shows its target (R55). -/
theorem Dev.budgetEval_target (d : Dev) (trig : Nat) :
    (d.budgetEval trig).get PWR_STAT_TARGET = d.targetLevel % 16 :=
  (Dev.SameAim.budgetEval d trig).target.trans (Dev.get_put_same _ _ _ (by decide))

/-- HOLD is for the budget rule to read, not to write (R57). -/
@[simp] theorem Dev.budgetEval_hold (d : Dev) (trig : Nat) : (d.budgetEval trig).pw.hold = d.pw.hold :=
  (Dev.SameAim.budgetEval d trig).hold

@[simp] theorem Dev.riseTo_hold (d : Dev) (goal trig : Nat) : (d.riseTo goal trig).pw.hold = d.pw.hold := by
  rcases d.riseTo_cases goal trig with h | h | h <;> rw [h]
  · exact (Dev.SameAim.startTrans ..).hold
  · exact Dev.budgetEval_hold ..

/-! ## What stays -/

theorem not_mem_moveRegs {a : Nat} (h : sharedReg a = false) : a ∉ moveRegs := by
  intro hm
  simp only [moveRegs, sendRegs, List.mem_cons, List.not_mem_nil, or_false] at hm
  rcases hm with rfl | rfl | rfl | rfl | rfl <;> exact absurd h (by decide)

/-- What moves the mode or records an event changes nothing outside the shared registers. -/
theorem Dev.Moved.keeps {d e : Dev} (h : Dev.Moved d e) : Dev.Keeps (fun _ => false) d e where
  build := by rw [h.rest]
  role := by rw [h.rest]
  word := fun a _ ha => h.word a (not_mem_moveRegs ha)
  staged := by rw [h.rest]
  nvm := by rw [h.rest]
  fuses := by rw [h.rest]
  slots := by rw [h.burl]
  mtick := by rw [h.rest]
  read := by rw [h.rest]

/-- Settles O8: an event is `Dev.Sent` and is kept by `Dev.newEvent_raise`, and an evaluation of the budget rule is
`Dev.Moved`, with HOLD and the target by `Dev.SameAim.budgetEval`. -/
theorem endOfACommandChangesOnlyTheMode : Obligations.EndOfACommandChangesOnlyTheMode := by
  refine ⟨fun d code src items => ?_, fun _ => rfl, fun d trig => ?_⟩
  · have hs := Dev.Sent.raise d code src items
    exact ⟨hs.moved.keeps, hs.get _ (by decide), fun hk => Dev.newEvent_raise d d _ code src items hk rfl rfl rfl rfl
      List.prefix_rfl⟩
  · have hm := Dev.Moved.budgetEval d trig
    exact ⟨hm.keeps, Dev.budgetEval_hold d trig, hm.refused, hm.calbank, by rw [hm.spn], Dev.budgetEval_win d trig,
      Dev.budgetEval_bal d trig, Dev.budgetEval_saf d trig, Dev.budgetEval_target d trig⟩

end Sys2Proof.Machine
end

section
/-!
SUPPORT. The requests of PWR_BUDGET and PWR_REQ (03, R54, R55, R61, R64): which of its branches each of them takes.
-/

namespace Sys2Proof.Machine

section
variable {d : Dev}

/-! ## The budget -/

/-- A write of PWR_BUDGET: its three fields, and an evaluation of the budget rule (R55). -/
theorem exec_pwrBudgetWrite (q : List Instr) (v : Word) (h : d.accepts PWR_BUDGET_BUDGET) :
    exec (.pwrBudgetWrite v) ⟨d, q⟩ = .next ⟨((((d.put PWR_BUDGET_HOLD (bitsOf v 31 24)).put PWR_BUDGET_FLOOR
      (bitsOf v 17 16)).put PWR_BUDGET_BUDGET (bitsOf v 15 0)).budgetEval 3).commandDone, q⟩ := by
  obtain ⟨⟨hs, hl, -⟩, -⟩ := id h
  refine State.lift_takes d q _ _ _ h ?_ ?_ ?_ ?_ ?_
  · unfold pwrBudgetWriteDev
    rw [if_neg (by simp [hl])]
  all_goals simp [show d.asks = [] from hs]

/-! ## Requests for a mode -/

/-- A request that the device refuses: REFUSED and its event (R61). -/
theorem State.lift_refused (q : List Instr) (act : Dev → Dev) (h : d.accepts PWR_REQ_ACT) (hact : act d = d.modeRefused) :
    (⟨d, q⟩ : State).lift (Dev.actWrite PWR_REQ_ACT act)
      = .next ⟨((d.put PWR_STAT_REFUSED 1).raise 0xD002 0 []).commandDone, q⟩ := by
  refine State.lift_takes d q _ _ _ h hact ?_ ?_ ?_ ?_ <;> simp [show d.asks = [] from h.1.1]

/-- A request for SHIP in a ladder mode with no service: the transition in progress is given up, and the entry starts
(R61, R64). -/
theorem exec_enterShip (q : List Instr) (h : d.accepts PWR_REQ_ACT) (hship : d.pw.shipEntry = none)
    (hlad : d.cur.ladder = true) (hplan : d.planLive = false) (hsweep : d.sweepActive = false)
    (hstream : d.pw.streamBound = false) (hbound : d.boundMask = 0) :
    exec .enterShip ⟨d, q⟩ = .next ⟨((({ d with pw := { d.pw with trans := none, later := none, shipEntry := some .quiet } }).put
      PWR_STAT_TRANS 0).put PWR_STAT_TRANS 1).commandDone, q⟩ := by
  refine State.lift_takes d q _ _ _ h ?_ h.1.1 rfl rfl rfl
  unfold enterShipDev
  rw [if_neg (by simp [h.1.2.1, hship]), if_neg (by simp [hlad, hplan, hsweep, hstream, hbound])]
  rfl

theorem exec_enterShip_refused (q : List Instr) (h : d.accepts PWR_REQ_ACT) (hship : d.pw.shipEntry = none)
    (hbusy : d.cur.ladder = false ∨ d.planLive = true ∨ d.sweepActive = true ∨ d.pw.streamBound = true ∨ d.boundMask ≠ 0) :
    exec .enterShip ⟨d, q⟩ = .next ⟨((d.put PWR_STAT_REFUSED 1).raise 0xD002 0 []).commandDone, q⟩ := by
  refine State.lift_refused q enterShipDev h ?_
  unfold enterShipDev
  rw [if_neg (by simp [h.1.2.1, hship]), if_pos (by simpa using hbusy)]

/-- A request for PROVISION starts the transition; a transition in progress is replaced, and its end is left to the
budget rule (R61, R62). -/
theorem exec_enterProvision (q : List Instr) (h : d.accepts PWR_REQ_ACT) (hship : d.pw.shipEntry = none)
    (hlife : d.life ≠ lDeployed) (hsafe : d.cur ≠ .safe) (hdegr : d.cur ≠ .degraded) (hleg : d.cur ≠ .legacy)
    (hprov : d.cur ≠ .provision) :
    exec .enterProvision ⟨d, q⟩ = .next ⟨(({ d with pw := { d.pw with
      trans := some ⟨.provision, 0x10⟩, later := if d.pw.trans.isSome then some (0, 3) else d.pw.later } }).put
      PWR_STAT_TRANS 1).commandDone, q⟩ := by
  refine State.lift_takes d q _ _ _ h ?_ h.1.1 rfl rfl rfl
  unfold enterProvisionDev
  rw [if_neg (by simp [h.1.2.1]), if_neg (by simp [hlife, hsafe, hdegr, hleg]), if_neg (by simp [hprov, hship])]

theorem exec_enterProvision_refused (q : List Instr) (h : d.accepts PWR_REQ_ACT)
    (hbar : d.life = lDeployed ∨ d.cur = .safe ∨ d.cur = .degraded ∨ d.cur = .legacy) :
    exec .enterProvision ⟨d, q⟩ = .next ⟨((d.put PWR_STAT_REFUSED 1).raise 0xD002 0 []).commandDone, q⟩ := by
  refine State.lift_refused q enterProvisionDev h ?_
  unfold enterProvisionDev
  rw [if_neg (by simp [h.1.2.1]), if_pos hbar]

/-- PROVISION is left for WATCH (R61). -/
theorem exec_leaveProvision (q : List Instr) (h : d.accepts PWR_REQ_ACT) (hprov : d.cur = .provision) :
    exec .leaveProvision ⟨d, q⟩ = .next ⟨(({ d with pw := { d.pw with trans := some ⟨.watch, 0x10⟩ } }).put
      PWR_STAT_TRANS 1).commandDone, q⟩ := by
  refine State.lift_takes d q _ _ _ h ?_ h.1.1 rfl rfl rfl
  unfold leaveProvisionDev
  rw [if_neg (by simp [h.1.2.1]), if_pos hprov]
  rfl

theorem exec_leaveProvision_refused (q : List Instr) (h : d.accepts PWR_REQ_ACT) (hprov : d.cur ≠ .provision) :
    exec .leaveProvision ⟨d, q⟩ = .next ⟨((d.put PWR_STAT_REFUSED 1).raise 0xD002 0 []).commandDone, q⟩ := by
  refine State.lift_refused q leaveProvisionDev h ?_
  unfold leaveProvisionDev
  rw [if_neg (by simp [h.1.2.1]), if_neg hprov]

end

/-- Settles O11: each request takes its branch, and a refused one ends in `Dev.modeRefused` (`State.lift_refused`). -/
theorem powerRequestsComplete : Obligations.PowerRequestsComplete :=
  ⟨fun _ q v h => exec_pwrBudgetWrite q v h,
    fun _ q h hship hlad hplan hsweep hstream hbound => exec_enterShip q h hship hlad hplan hsweep hstream hbound,
    fun _ q h hship hbusy => exec_enterShip_refused q h hship hbusy,
    fun _ q h hship hlife hsafe hdegr hleg hprov => exec_enterProvision q h hship hlife hsafe hdegr hleg hprov,
    fun _ q h hbar => exec_enterProvision_refused q h hbar,
    fun _ q h => ⟨exec_leaveProvision q h, exec_leaveProvision_refused q h⟩⟩

end Sys2Proof.Machine
end

section
/-!
SUPPORT. The end of a transition (03, R60, R66): one whose goal is LEGACY, in which a member keeps no events (R507).
-/

namespace Sys2Proof.Machine

/-- A ZM3680-F member in MONITOR, with no event kept, and a transition in progress whose goal is LEGACY. The statement
ranges over every `Dev`, this one among them, and sets PROVISION alone aside among the goals; no command starts such a
transition, for LEGACY is entered at the end of a start (R506). -/
def towardLegacy : Dev :=
  { State.reset.dev with pw := { State.reset.dev.pw with starting := false, trans := some ⟨.legacy, 0⟩ } }

/-- At the end of that transition CUR shows LEGACY when MODE_CHANGED is raised, and the event goes to the history alone. -/
theorem modeTransitionDone_towardLegacy : ∃ u, exec .modeTransitionDone ⟨towardLegacy, []⟩ = .next u
    ∧ u.dev.spn.evq = [] :=
  ⟨_, rfl, by decide +kernel⟩

/-- Refutes O12: its second clause says of a transition to any goal but PROVISION that the member keeps MODE_CHANGED.
Where the goal is LEGACY the member keeps none. -/
theorem not_modeChangesComplete : ¬ Obligations.ModeChangesComplete := by
  rintro ⟨-, hdone, -⟩
  have hruns : towardLegacy.runs := ⟨rfl, by decide +kernel⟩
  have hkeeps : towardLegacy.keepsEvents := ⟨rfl, by decide +kernel, by decide +kernel⟩
  obtain ⟨t, ht, more, hmore, r, hr, -⟩ := hdone towardLegacy [] ⟨.legacy, 0⟩ hruns rfl rfl (by decide)
    (by decide +kernel) hkeeps (by decide +kernel)
  obtain ⟨u, hu, hnone⟩ := modeTransitionDone_towardLegacy
  cases ht.symm.trans hu
  obtain ⟨-, rfl⟩ := List.append_eq_nil_iff.mp (hmore.symm.trans hnone)
  exact absurd hr List.not_mem_nil

end Sys2Proof.Machine
end

section
/-!
SUPPORT. The wakes and the PATROL check (03, 12: R64, R67 to R74, R309): what a tone changes, what a wake does to a device
in PATROL, and what a finding shows.
-/

namespace Sys2Proof.Machine

/-! ## The time of a command -/

/-- A command's time moves the clock, the count and the open window on, and nothing else. -/
theorem Dev.atTime_eq (d : Dev) (time : Nat) :
    ∃ m n w, d.atTime time = { d with mtick := m, now := n, win := w } := by
  unfold Dev.atTime
  extract_lets m
  split_ifs
  · exact ⟨_, _, _, rfl⟩
  · exact ⟨_, _, _, rfl⟩
  · exact ⟨_, _, _, rfl⟩

@[simp] theorem Dev.atTime_pw (d : Dev) (time : Nat) : (d.atTime time).pw = d.pw := by
  obtain ⟨m, n, w, h⟩ := d.atTime_eq time
  rw [h]

@[simp] theorem Dev.atTime_asks (d : Dev) (time : Nat) : (d.atTime time).asks = d.asks := by
  obtain ⟨m, n, w, h⟩ := d.atTime_eq time
  rw [h]

@[simp] theorem Dev.atTime_build (d : Dev) (time : Nat) : (d.atTime time).build = d.build := by
  obtain ⟨m, n, w, h⟩ := d.atTime_eq time
  rw [h]

@[simp] theorem Dev.atTime_role (d : Dev) (time : Nat) : (d.atTime time).role = d.role := by
  obtain ⟨m, n, w, h⟩ := d.atTime_eq time
  rw [h]

@[simp] theorem Dev.atTime_fz (d : Dev) (time : Nat) : (d.atTime time).fz = d.fz := by
  obtain ⟨m, n, w, h⟩ := d.atTime_eq time
  rw [h]

@[simp] theorem Dev.atTime_get (d : Dev) (time : Nat) (f : Fld) : (d.atTime time).get f = d.get f := by
  obtain ⟨m, n, w, h⟩ := d.atTime_eq time
  rw [h]
  rfl

@[simp] theorem Dev.atTime_dead (d : Dev) (time : Nat) (x : Die) : (d.atTime time).dead x = d.dead x := by
  unfold Dev.dead
  rw [Dev.atTime_pw]

@[simp] theorem Dev.atTime_lathe (d : Dev) (time : Nat) : (d.atTime time).lathe = d.lathe := by
  obtain ⟨m, n, w, h⟩ := d.atTime_eq time
  rw [h]
  rfl

/-! ## Tones -/

/-- What the sending of tones can change: SPN_TONE.TX, the times of the last tones and what was sent. -/
structure Dev.Toned (d e : Dev) : Prop where
  grow : Dev.Grow d e
  pw   : e.pw = { d.pw with toneN := e.pw.toneN, toneS := e.pw.toneS }
  get  : ∀ f : Fld, f.wf = true → SPN_TONE_TX.apart f = true → e.get f = d.get f

namespace Dev.Toned

variable {d e f : Dev}

theorem refl (d : Dev) : Dev.Toned d d := ⟨Dev.Grow.refl d, rfl, fun _ _ _ => rfl⟩

theorem trans (h : Dev.Toned d e) (g : Dev.Toned e f) : Dev.Toned d f :=
  ⟨h.grow.trans g.grow, by rw [g.pw, h.pw], fun x hx ha => (g.get x hx ha).trans (h.get x hx ha)⟩

theorem sendTone (d : Dev) (p : Port) : Dev.Toned d (d.sendTone p) := by
  have hget (x : Fld) (hx : x.wf = true) (ha : SPN_TONE_TX.apart x = true) (o : Output) :
      ((d.emit o).countMod SPN_TONE_TX 1).get x = d.get x := Dev.get_put_apart _ _ _ _ (by decide) hx ha
  cases p <;> exact ⟨(Dev.Grow.refl d).sendTone _, rfl, fun x hx ha => hget x hx ha _⟩

theorem each (d : Dev) (ps : List Port) : Dev.Toned d (d.each ps Dev.sendTone) := by
  induction ps generalizing d with
  | nil => exact refl d
  | cons p ps ih => exact (sendTone d p).trans (ih (d.sendTone p))

end Dev.Toned

/-- The relay of a tone that arrived at a port: the other port sends it on, unless it has sent one in the last 10 ms (R73). -/
def Dev.relayTone (d : Dev) (p : Port) : Dev :=
  if d.toneRecent (otherPort p) then d else d.sendTone (otherPort p)

theorem Dev.Toned.relayTone (d : Dev) (p : Port) : Dev.Toned d (d.relayTone p) := by
  unfold Dev.relayTone
  split
  · exact Dev.Toned.refl d
  · exact Dev.Toned.sendTone d _

/-- A port that has sent no tone of late sends the one that is relayed. -/
theorem Dev.relayTone_out (d : Dev) (p : Port) (h : d.toneRecent (otherPort p) = false) :
    ∃ b, (d.relayTone p).out = .tone (otherPort p) b :: d.out := by
  unfold Dev.relayTone
  rw [if_neg (by simp [h])]
  cases p <;> exact ⟨_, rfl⟩

/-! ## A wake -/

theorem Dev.hostWake_eq (d : Dev) : ∃ x l, d.hostWake = { d with hif := x, out := l ++ d.out } := by
  unfold Dev.hostWake
  split_ifs
  · exact ⟨_, [], rfl⟩
  · exact ⟨_, [], rfl⟩
  · exact ⟨_, [_], rfl⟩
  · exact ⟨_, [_], rfl⟩
  · exact ⟨_, [], rfl⟩

theorem Dev.Grow.hostWake {d e : Dev} (h : Dev.Grow d e) : Dev.Grow d e.hostWake := by
  obtain ⟨x, l, hw⟩ := e.hostWake_eq
  rw [hw]
  exact h.trans ⟨rfl, rfl, rfl, rfl, rfl, rfl, rfl, rfl, rfl, rfl, rfl, rfl, rfl, rfl, rfl, rfl, ⟨l, rfl⟩, List.prefix_rfl⟩

/-- A device that a wake reaches: it rises to DOZE at least, and tells its host (R73, R426). -/
def Dev.woken (d : Dev) (trig : Nat) : Dev := (d.wakeToDoze trig).hostWake

/-- Telling the host changes neither the mode nor a register. -/
theorem Dev.woken_pw (d : Dev) (trig : Nat) : (d.woken trig).pw = (d.wakeToDoze trig).pw := by
  obtain ⟨x, l, hw⟩ := (d.wakeToDoze trig).hostWake_eq
  unfold Dev.woken
  rw [hw]

theorem Dev.woken_get (d : Dev) (trig : Nat) (f : Fld) : (d.woken trig).get f = (d.wakeToDoze trig).get f := by
  obtain ⟨x, l, hw⟩ := (d.wakeToDoze trig).hostWake_eq
  unfold Dev.woken
  rw [hw]
  rfl

theorem Dev.Grow.woken {d e : Dev} (trig : Nat) (h : Dev.Grow d e) : Dev.Grow d (e.woken trig) :=
  (h.setHold.trans (Dev.Moved.riseTo ..).kin.grow).hostWake

/-- A wake counts HOLD anew (R57). -/
theorem Dev.woken_hold (d : Dev) (trig : Nat) : (d.woken trig).pw.hold = true := by
  rw [Dev.woken_pw]
  exact d.setHold.riseTo_hold 2 trig

theorem Dev.woken_get_other (d : Dev) (trig : Nat) (f : Fld) (hf : f.addr ∉ moveRegs) :
    (d.woken trig).get f = d.get f := by
  rw [Dev.woken_get]
  exact (Dev.Moved.riseTo d.setHold 2 trig).get f hf

/-- A device that rests in PATROL: nothing moves its mode. -/
structure Dev.Patrols (d : Dev) : Prop where
  cur   : d.cur = .patrol
  base  : d.get PWR_STAT_BASE < 4
  start : d.pw.starting = false
  trans : d.pw.trans = none
  ship  : d.pw.shipEntry = none

theorem Dev.get_cur_of_patrol {d : Dev} (h : d.cur = .patrol) : d.get PWR_STAT_CUR = 1 := by
  unfold Dev.cur Mode.ofCode at h
  split at h
  case h_2 hcode => exact hcode
  all_goals cases h

/-- From PATROL a wake starts the transition to DOZE (R73, Table 3-4). -/
theorem Dev.Patrols.wakeToDoze {d : Dev} (h : d.Patrols) (trig : Nat) :
    d.wakeToDoze trig
      = ({ d with pw := { d.pw with hold := true, trans := some ⟨.doze, trig⟩ } }).put PWR_STAT_TRANS 1 := by
  have hladder : d.setHold.cur.ladder ∧ d.setHold.cur ≠ .ship ∧ !d.setHold.pw.starting := by
    have hcur : d.setHold.cur = .patrol := h.cur
    have hstart : d.setHold.pw.starting = false := h.start
    simp [hcur, hstart, Mode.ladder, Mode.code]
  have hidle : ¬ (d.setHold.pw.trans.isSome ∨ d.setHold.pw.shipEntry.isSome) := by
    have htrans : d.setHold.pw.trans = none := h.trans
    have hship : d.setHold.pw.shipEntry = none := h.ship
    simp [htrans, hship]
  have hbelow : d.setHold.get PWR_STAT_CUR < 2 := by
    have hcode : d.setHold.get PWR_STAT_CUR = 1 := Dev.get_cur_of_patrol h.cur
    omega
  have hbase : ¬ 4 ≤ d.setHold.get PWR_STAT_BASE := Nat.not_le.mpr h.base
  unfold Dev.wakeToDoze Dev.riseTo
  rw [if_pos hladder, if_neg hidle, if_pos hbelow]
  unfold Dev.startTrans
  have hgoal : stepToward (d.setHold.get PWR_STAT_BASE) 2 = 2 := by simp [stepToward]
  rw [hgoal]
  extract_lets g
  rw [if_neg (fun hc => hbase hc.2.1), if_neg (by decide)]
  rfl

/-- What a wake leaves of a device that rested in PATROL. -/
theorem Dev.Patrols.woken {d : Dev} (h : d.Patrols) (trig : Nat) :
    (d.woken trig).pw.trans = some ⟨.doze, trig⟩ ∧ (d.woken trig).get PWR_STAT_TRANS = 1 := by
  rw [Dev.woken_pw, Dev.woken_get, h.wakeToDoze trig]
  exact ⟨rfl, Dev.get_put_same _ _ _ (by decide)⟩

theorem Dev.Patrols.toned {d e : Dev} (h : d.Patrols) (ht : Dev.Toned d e) : e.Patrols where
  cur := by
    unfold Dev.cur
    rw [ht.get _ (by decide) (by decide)]
    exact h.cur
  base := by
    rw [ht.get _ (by decide) (by decide)]
    exact h.base
  start := by rw [ht.pw]; exact h.start
  trans := by rw [ht.pw]; exact h.trans
  ship := by rw [ht.pw]; exact h.ship

/-! ## WAKE_TONE and WAKE_PIN -/

/-- In SHIP with a supply that may start, or during the entry, a wake is recorded for the start (R64, R72). -/
theorem exec_wake_recorded {d : Dev} (q : List Instr) (p : Port) (time : Nat) (hs : d.settled)
    (h : (d.pw.off = true ∧ d.dead .afeL = false) ∨ d.pw.shipEntry.isSome = true) :
    let e := d.atTime time
    exec (.wakeTone p time) ⟨d, q⟩ = .next ⟨{ e with pw := { e.pw with shipEntry := some (.tone p) } }, q⟩
    ∧ exec .wakePin ⟨d, q⟩ = .next ⟨{ d with pw := { d.pw with shipEntry := some .pin } }, q⟩ := by
  have hs : d.asks = [] := hs
  constructor
  · refine State.lift_runs d q _ _ ?_ (by simp [hs]) (by simp) (by simp) (by simp)
    unfold wakeToneDev
    rw [if_pos (by simpa using h)]
  · refine State.lift_runs d q _ _ ?_ hs rfl rfl rfl
    unfold wakePinDev
    rw [if_pos (by simpa using h)]

/-- A device whose supply has collapsed with AFE-L takes no wake (R294). -/
theorem exec_wake_collapsed {d : Dev} (q : List Instr) (p : Port) (time : Nat) (hs : d.settled) (hoff : d.pw.off = true)
    (hdead : d.dead .afeL = true) (hship : d.pw.shipEntry = none) :
    exec (.wakeTone p time) ⟨d, q⟩ = .next ⟨d.atTime time, q⟩ ∧ exec .wakePin ⟨d, q⟩ = .next ⟨d, q⟩ := by
  have hs : d.asks = [] := hs
  have hl : d.lathe = false := by simp [Dev.lathe, hoff]
  constructor
  · refine State.lift_runs d q _ _ ?_ (by simp [hs]) (by simp) (by simp) (by simp)
    unfold wakeToneDev
    rw [if_neg (by simp [hdead, hship]), if_pos (by simp [hl])]
  · refine State.lift_runs d q _ _ ?_ hs rfl rfl rfl
    unfold wakePinDev
    rw [if_neg (by simp [hdead, hship]), if_pos (by simp [hl])]

theorem Dev.not_off_of_lathe {d : Dev} (h : d.lathe = true) : d.pw.off = false := by
  unfold Dev.lathe at h
  simp only [Bool.and_eq_true, Bool.not_eq_true'] at h
  exact h.1.1

/-- A tone at a running part is counted and relayed, and wakes it. -/
theorem wakeToneDev_runs {d : Dev} (p : Port) (time : Nat) (hl : d.lathe = true) (hship : d.pw.shipEntry = none) :
    wakeToneDev p time d = (((d.atTime time).countMod SPN_TONE_RX 1).relayTone p).woken 5 := by
  unfold wakeToneDev
  rw [if_neg (by simp [hship, Dev.not_off_of_lathe hl]), if_neg (by simp [hl])]
  rfl

theorem wakePinDev_runs {d : Dev} (hl : d.lathe = true) (hship : d.pw.shipEntry = none) : wakePinDev d = d.woken 6 := by
  unfold wakePinDev
  rw [if_neg (by simp [hship, Dev.not_off_of_lathe hl]), if_neg (by simp [hl])]
  rfl

/-- WAKE_TONE in a running part (R73, R74). -/
theorem exec_wakeTone {d : Dev} (q : List Instr) (p : Port) (time : Nat) (h : d.runs) (hship : d.pw.shipEntry = none) :
    ∃ t, exec (.wakeTone p time) ⟨d, q⟩ = .next t ∧ t.dev.get SPN_TONE_RX = (d.get SPN_TONE_RX + 1) % 2 ^ 16
      ∧ ((d.atTime time).toneRecent (otherPort p) = false → ∃ b l k, t.dev.out = l ++ .tone (otherPort p) b :: k)
      ∧ (d.cur = .patrol → d.get PWR_STAT_BASE < 4 → d.pw.starting = false → d.pw.trans = none →
        t.dev.pw.trans = some ⟨.doze, 5⟩ ∧ t.dev.get PWR_STAT_TRANS = 1) := by
  obtain ⟨hs, hl⟩ := h
  have hs : d.asks = [] := hs
  have hf := wakeToneDev_runs p time hl hship
  have hcounted (f : Fld) (hw : f.wf = true) (ha : SPN_TONE_RX.apart f = true) :
      ((d.atTime time).countMod SPN_TONE_RX 1).get f = d.get f :=
    (Dev.get_put_apart _ _ _ _ (by decide) hw ha).trans (Dev.atTime_get ..)
  have hrx : ((d.atTime time).countMod SPN_TONE_RX 1).get SPN_TONE_RX = (d.get SPN_TONE_RX + 1) % 2 ^ 16 := by
    unfold Dev.countMod
    rw [Dev.get_put_same _ _ _ (by decide), Dev.atTime_get]
    rfl
  have ht := Dev.Toned.relayTone ((d.atTime time).countMod SPN_TONE_RX 1) p
  have hg := ht.grow.woken 5
  rw [← hf] at hg
  refine ⟨_, State.lift_settled d q _ (hg.asks.trans ?_) (hg.build.trans ?_) (hg.role.trans ?_), ?_, fun hlate => ?_,
    fun hcur hbase hstart htrans => ?_⟩
  · simpa [Dev.countMod] using hs
  · simp [Dev.countMod]
  · simp [Dev.countMod]
  · show (wakeToneDev p time d).get SPN_TONE_RX = _
    rw [hf, Dev.woken_get_other _ _ _ (by decide), ht.get _ (by decide) (by decide), hrx]
  · obtain ⟨b, hb⟩ := Dev.relayTone_out ((d.atTime time).countMod SPN_TONE_RX 1) p hlate
    obtain ⟨l, hout⟩ := ((Dev.Grow.refl (((d.atTime time).countMod SPN_TONE_RX 1).relayTone p)).woken 5).out
    rw [← hf, hb] at hout
    exact ⟨b, l, _, hout⟩
  · have hp : ((d.atTime time).countMod SPN_TONE_RX 1).Patrols := by
      refine ⟨?_, ?_, ?_, ?_, ?_⟩
      · unfold Dev.cur
        rw [hcounted _ (by decide) (by decide)]
        exact hcur
      · rw [hcounted _ (by decide) (by decide)]
        exact hbase
      · simpa [Dev.countMod] using hstart
      · simpa [Dev.countMod] using htrans
      · simpa [Dev.countMod] using hship
    have hw := (hp.toned ht).woken 5
    rw [← hf] at hw
    exact hw

/-- WAKE_PIN in a running part (R72, R73). -/
theorem exec_wakePin {d : Dev} (q : List Instr) (h : d.runs) (hship : d.pw.shipEntry = none) :
    ∃ t, exec .wakePin ⟨d, q⟩ = .next t ∧ t.dev.pw.hold = true
      ∧ (d.cur = .patrol → d.get PWR_STAT_BASE < 4 → d.pw.starting = false → d.pw.trans = none →
        t.dev.pw.trans = some ⟨.doze, 6⟩ ∧ t.dev.get PWR_STAT_TRANS = 1) := by
  obtain ⟨hs, hl⟩ := h
  have hf := wakePinDev_runs hl hship
  have hg := (Dev.Grow.refl d).woken 6
  have hhold := d.woken_hold 6
  have hpatrol (hp : d.Patrols) := hp.woken 6
  rw [← hf] at hg hhold hpatrol
  exact ⟨_, State.lift_settled d q _ (hg.asks.trans hs) hg.build hg.role, hhold,
    fun hcur hbase hstart htrans => hpatrol ⟨hcur, hbase, hstart, htrans, hship⟩⟩

end Sys2Proof.Machine
end

section
/-!
SUPPORT. The end of a tone, the PATROL check, its report and a clock failure (03, 12: R67 to R69, R80, R309).
-/

namespace Sys2Proof.Machine

/-! ## The end of a tone -/

/-- The state of the ring and the runs of the host are as they were. -/
structure Dev.SameRing (d e : Dev) : Prop where
  ring : e.word SPN_RING_OPEN.addr = d.word SPN_RING_OPEN.addr
  runs : e.hif.runs = d.hif.runs

namespace Dev.SameRing

variable {d e : Dev}

theorem put (h : Dev.SameRing d e) {f : Fld} (hf : SPN_RING_OPEN.addr ≠ f.addr) (v : Nat) : Dev.SameRing d (e.put f v) :=
  ⟨(Dev.word_put_other _ _ _ _ hf).trans h.ring, h.runs⟩

theorem sent {f : Dev} (h : Dev.SameRing d e) (hs : Dev.Sent e f) : Dev.SameRing d f :=
  ⟨(hs.word _ (by decide)).trans h.ring, by rw [hs.hif, h.runs]⟩

/-- The fields of a port lie beside the state of the ring. -/
theorem putPort (h : Dev.SameRing d e) {p : Port} {f : Fld} (hf : f ∈ Dev.ImgIs.portFields p) (v : Nat) :
    Dev.SameRing d (e.put f v) :=
  h.put (by revert f; cases p <;> decide) v

theorem putCred (h : Dev.SameRing d e) (p : Port) (tc v : Nat) : Dev.SameRing d (e.put (SPN_CRED p tc) v) :=
  h.sent (Dev.Sent.put _ _ _ (SPN_CRED_mem p tc))

theorem flushPort (d : Dev) (p : Port) : Dev.SameRing d (d.flushPort p) := by
  unfold Dev.flushPort
  extract_lets q lost back counted _ cut freed _ fresh creds frozen
  have hcounted : Dev.SameRing d counted := put ⟨rfl, rfl⟩ (f := SPN_DISC_DISC) (by decide) _
  have hfresh : Dev.SameRing d fresh :=
    ((hcounted.sent (Dev.Sent.setPort ..)).sent (Dev.Sent.each _ _ _ fun _ _ => Dev.Sent.freeUnits ..)).sent
      (Dev.Sent.setPort ..)
  have hcreds : Dev.SameRing d creds := ((hfresh.putCred p 1 _).putCred p 2 _).putCred p 3 _
  have hfrozen : Dev.SameRing d frozen :=
    (hcreds.putPort (p := p) (by simp [ImgIs.portFields]) _).putPort (p := p) (by simp [ImgIs.portFields]) _
  exact (hfrozen.putPort (p := p) (by simp [ImgIs.portFields]) _).putPort (p := p) (by simp [ImgIs.portFields]) _

theorem intoDown (d : Dev) (p : Port) : Dev.SameRing d (d.intoDown p) := by
  unfold Dev.intoDown
  extract_lets flushed
  have hf : Dev.SameRing d flushed := flushPort d p
  exact ((hf.sent (Dev.Sent.setPort ..)).putPort (p := p) (by simp [ImgIs.portFields]) _).putPort (p := p)
    (f := SPN_PORT_DOWNCNT p) (by simp [ImgIs.portFields]) _

end Dev.SameRing

/-- A port that enters DOWN shows it, and is silent (R313). -/
theorem Dev.intoDown_port (d : Dev) (p : Port) : (d.intoDown p).pstate p = pDown ∧ ((d.intoDown p).port p).silent = true := by
  unfold Dev.intoDown Dev.pstate Dev.countMod
  extract_lets flushed
  constructor
  · cases p
    · rw [Dev.get_put_apart _ _ _ _ (by decide) (by decide) (by decide), Dev.get_put_same _ _ _ (by decide)]
      decide
    · rw [Dev.get_put_apart _ _ _ _ (by decide) (by decide) (by decide), Dev.get_put_same _ _ _ (by decide)]
      decide
  · cases p <;> rfl

/-- A PARKED port has no link to lose: it goes DOWN, and nothing is reported (R309). -/
theorem Dev.enterDown_parked {d : Dev} {p : Port} (cause : Nat) (h : d.pstate p = pParked) :
    d.enterDown p cause = d.intoDown p := by
  unfold Dev.enterDown
  extract_lets was down
  exact if_neg (by unfold was; rw [h]; decide)

/-- With the ring closed, or with no run of the host, no copy is lost. -/
theorem Dev.copiesLost_none {d : Dev} (h : d.bit SPN_RING_OPEN = false ∨ d.hif.runs = []) : d.copiesLost = d := by
  unfold Dev.copiesLost
  extract_lets xs
  refine if_neg ?_
  rcases h with h | h
  · simp [h]
  · simp [xs, h]

/-- TONE_END at a PARKED port (R309). -/
theorem exec_toneEnd {d : Dev} (q : List Instr) (p : Port) (hs : d.settled) (htone : (d.lastTone p).isSome = true)
    (hpark : d.pstate p = pParked) (hring : d.bit SPN_RING_OPEN = false ∨ d.hif.runs = []) :
    exec (.toneEnd p) ⟨d, q⟩ = .next ⟨(d.enterDown p 0).seeTimePort, q⟩
    ∧ (d.enterDown p 0).pstate p = pDown ∧ ((d.enterDown p 0).port p).silent = true := by
  have hf : (toneEndDev p d).copiesLost.seeTimePort = (d.enterDown p 0).seeTimePort := by
    have hsame := Dev.SameRing.intoDown d p
    unfold toneEndDev
    rw [if_pos ⟨htone, hpark⟩, Dev.enterDown_parked 0 hpark, Dev.copiesLost_none]
    unfold Dev.bit Dev.get
    rw [hsame.ring, hsame.runs]
    exact hring
  have hg : Dev.Grow d (d.enterDown p 0).seeTimePort := ((Dev.Grow.refl d).enterDown p 0).seeTimePort
  refine ⟨State.lift_runs d q _ _ hf (hg.asks.trans hs) hg.build hg.role hg.fz, ?_⟩
  rw [Dev.enterDown_parked 0 hpark]
  exact d.intoDown_port p

/-! ## The PATROL check -/

/-- A finding of the PATROL check: PWR_PSTAT shows it, its event waits, HOLD counts anew, the device goes to WATCH, and it
wakes the others where WAKEH says so (R69, log 58). -/
def Dev.patrolFinding (d : Dev) (kind cell code : Nat) : Dev :=
  let d := (d.put PWR_PSTAT_KIND kind).put PWR_PSTAT_CELL cell
  let d := { d with pw := { d.pw with found := d.pw.found ++ [code] } }
  let d := d.setHold.riseTo 3 7
  if d.bit PWR_PATROL_WAKEH then d.each [Port.north, Port.south] Dev.sendTone else d

/-- What a finding leaves. -/
structure Dev.PatrolFound (d : Dev) (kind cell code : Nat) (e : Dev) : Prop where
  grow  : Dev.Grow d e
  kind  : e.get PWR_PSTAT_KIND = kind % 4
  cell  : e.get PWR_PSTAT_CELL = cell % 64
  hold  : e.pw.hold = true
  found : e.pw.found = d.pw.found ++ [code]

theorem Dev.PatrolFound.toned {d e f : Dev} {kind cell code : Nat} (h : Dev.PatrolFound d kind cell code e)
    (ht : Dev.Toned e f) : Dev.PatrolFound d kind cell code f where
  grow := h.grow.trans ht.grow
  kind := (ht.get _ (by decide) (by decide)).trans h.kind
  cell := (ht.get _ (by decide) (by decide)).trans h.cell
  hold := by rw [ht.pw]; exact h.hold
  found := by rw [ht.pw]; exact h.found

theorem Dev.patrolFinding_found (d : Dev) (kind cell code : Nat) :
    Dev.PatrolFound d kind cell code (d.patrolFinding kind cell code) := by
  unfold Dev.patrolFinding
  extract_lets shown _ waits risen
  have hshown : shown.get PWR_PSTAT_KIND = kind % 4 ∧ shown.get PWR_PSTAT_CELL = cell % 64 := by
    refine ⟨?_, Dev.get_put_same _ _ _ (by decide)⟩
    unfold shown
    rw [Dev.get_put_apart _ _ _ _ (by decide) (by decide) (by decide), Dev.get_put_same _ _ _ (by decide)]
    rfl
  have hwaits : Dev.Grow d waits := by
    apply (((Dev.Grow.refl d).put PWR_PSTAT_KIND kind).put PWR_PSTAT_CELL cell).upd <;> rfl
  have hmoved : Dev.Moved waits.setHold risen := Dev.Moved.riseTo ..
  have hrisen : Dev.PatrolFound d kind cell code risen :=
    { grow := hwaits.setHold.trans hmoved.kin.grow
      kind := (hmoved.get _ (by decide)).trans hshown.1
      cell := (hmoved.get _ (by decide)).trans hshown.2
      hold := Dev.riseTo_hold ..
      found := by rw [hmoved.pw]; rfl }
  split
  · exact hrisen.toned (Dev.Toned.each ..)
  · exact hrisen

/-- The limits of the band, in 0.1 mV (R67). -/
def Dev.bandLo (d : Dev) : Int := 10000 + 50 * d.get PWR_PBAND_LO
def Dev.bandHi (d : Dev) : Int := 10000 + 50 * d.get PWR_PBAND_HI

/-- A check in PATROL without the open-wire part: the cells outside the band count where the repeat confirms them. -/
theorem patrolCheckDev_band {d : Dev} (o : PatrolObs) (hl : d.lathe = true) (hcur : d.cur = .patrol) (hr : d.role = .member)
    (how : d.bit PWR_PATROL_OWEN = false) :
    patrolCheckDev o d = match if (outside d.bandLo d.bandHi o.band d.cells).isEmpty then []
        else outside d.bandLo d.bandHi o.bandR d.cells with
      | (n, above) :: _ => (d.countMod PWR_PSTAT_CNT 1).patrolFinding (if above then 1 else 2) n 0xD010
      | [] => d.countMod PWR_PSTAT_CNT 1 := by
  unfold patrolCheckDev
  rw [if_neg (by simp [hcur, hr, hl])]
  extract_lets lo hi m ow twice band wires counted finding
  have hwires : wires = [] := if_neg (by unfold ow; simp [how])
  rw [hwires]
  rfl

theorem exec_patrolCheck_quiet {d : Dev} (q : List Instr) (o : PatrolObs) (h : d.runs) (hcur : d.cur = .patrol)
    (hr : d.role = .member) (how : d.bit PWR_PATROL_OWEN = false)
    (hin : outside d.bandLo d.bandHi o.band d.cells = []) :
    exec (.patrolCheck o) ⟨d, q⟩ = .next ⟨d.countMod PWR_PSTAT_CNT 1, q⟩ := by
  refine State.lift_runs d q _ _ ?_ h.1 rfl rfl rfl
  rw [patrolCheckDev_band o h.2 hcur hr how, hin]
  rfl

theorem exec_patrolCheck_found {d : Dev} (q : List Instr) (o : PatrolObs) (h : d.runs) (hcur : d.cur = .patrol)
    (hr : d.role = .member) (how : d.bit PWR_PATROL_OWEN = false) {n : Nat} {above : Bool} {more : List (Nat × Bool)}
    (hout : outside d.bandLo d.bandHi o.band d.cells ≠ [])
    (hrep : outside d.bandLo d.bandHi o.bandR d.cells = (n, above) :: more) (hn : n ≤ 36) :
    ∃ t, exec (.patrolCheck o) ⟨d, q⟩ = .next t ∧ t.dev.get PWR_PSTAT_KIND = (if above then 1 else 2)
      ∧ t.dev.get PWR_PSTAT_CELL = n ∧ t.dev.pw.hold = true ∧ t.dev.pw.found = d.pw.found ++ [0xD010] := by
  have hf : patrolCheckDev o d = (d.countMod PWR_PSTAT_CNT 1).patrolFinding (if above then 1 else 2) n 0xD010 := by
    rw [patrolCheckDev_band o h.2 hcur hr how, if_neg (by simpa using hout), hrep]
  have hfound := (d.countMod PWR_PSTAT_CNT 1).patrolFinding_found (if above then 1 else 2) n 0xD010
  rw [← hf] at hfound
  refine ⟨_, State.lift_settled d q _ (hfound.grow.asks.trans h.1) hfound.grow.build hfound.grow.role,
    hfound.kind.trans ?_, hfound.cell.trans (Nat.mod_eq_of_lt (by omega)), hfound.hold, hfound.found⟩
  cases above <;> rfl

/-! ## The report of a finding -/

/-- A finding is reported once the chain runs: its event is raised, and none waits any more (R69). -/
theorem Dev.reportFound_one {d : Dev} {c : Nat} (hc : d.pw.found = [c]) (hl : d.lathe = true) (hlev : 2 ≤ d.level)
    (hup : d.monitoring = true ∨ d.linkUp .north = true ∨ d.linkUp .south = true) :
    d.reportFound = ({ d with pw := { d.pw with found := [] } }).raise c 0 []
      ∧ (d.keepsEvents → d.newEvent d.reportFound c []) := by
  have h : d.reportFound = ({ d with pw := { d.pw with found := [] } }).raise c 0 [] := by
    unfold Dev.reportFound
    rw [if_pos ⟨by simp [hc], hl, hlev, hup⟩, hc]
    rfl
  refine ⟨h, fun hk => ?_⟩
  rw [h]
  exact Dev.newEvent_raise d { d with pw := { d.pw with found := [] } } _ c 0 [] hk rfl rfl rfl rfl List.prefix_rfl

/-! ## Clock failures -/

theorem Dev.bitAt_or (d : Dev) {f : Fld} (hf : f.wf = true) {i : Nat} (hi : i < f.hi + 1 - f.lo) :
    (d.put f (d.get f ||| 2 ^ i)).bitAt f i = true := by
  unfold Dev.bitAt
  rw [Dev.get_put_same _ _ _ hf, ← Nat.testBit_eq_decide_div_mod_eq, Nat.testBit_mod_two_pow, Nat.testBit_or,
    Nat.testBit_two_pow_self]
  simp [hi]

/-- The failure of a clock domain is noted: its bit of CLK_FAIL is set, and it counts as failed until it starts anew (R80). -/
def Dev.clkFailed (d : Dev) (i : Nat) : Dev :=
  ({ d with pw := { d.pw with clkBad := d.pw.clkBad ||| BitVec.ofNat 15 (2 ^ i) } }).put CLK_FAIL (d.get CLK_FAIL ||| 2 ^ i)

theorem Dev.clkFailed_bitAt (d : Dev) {i : Nat} (hi : i < 15) : (d.clkFailed i).bitAt CLK_FAIL i = true :=
  Dev.bitAt_or { d with pw := { d.pw with clkBad := d.pw.clkBad ||| BitVec.ofNat 15 (2 ^ i) } } (f := CLK_FAIL) (by decide) hi

theorem Dev.clkFailed_cur (d : Dev) (i : Nat) : (d.clkFailed i).get PWR_STAT_CUR = d.get PWR_STAT_CUR :=
  Dev.get_put_apart { d with pw := { d.pw with clkBad := d.pw.clkBad ||| BitVec.ofNat 15 (2 ^ i) } } _ _ _ (by decide)
    (by decide) (by decide)

theorem Dev.Grow.clkFailed (d : Dev) (i : Nat) : Dev.Grow d (d.clkFailed i) := by
  refine Dev.Grow.put _ _ ?_
  apply (Dev.Grow.refl d).upd <;> rfl

/-- A domain that was requested fails: it is noted, its event is raised, and the guard logic sees it (R80). -/
theorem clockFailDev_asked {d : Dev} {i : Nat} (hi : i < 15) (hask : d.clkAsked i = true) (hoff : d.pw.off = false) :
    clockFailDev i d = ((d.clkFailed i).raise 0xD030 0 [i]).guardSettle := by
  unfold clockFailDev
  rw [if_neg (by simp [hask, hoff]; omega)]
  rfl

theorem exec_clockFail {d : Dev} (q : List Instr) {i : Nat} (hs : d.settled) (hoff : d.pw.off = false) (hi : i < 15)
    (hask : d.clkAsked i = true) :
    ∃ t, exec (.clockFail i) ⟨d, q⟩ = .next t ∧ t.dev.bitAt CLK_FAIL i = true
      ∧ (d.keepsEvents → d.newEvent t.dev 0xD030 [i]) := by
  have hf := clockFailDev_asked hi hask hoff
  have hgrow : Dev.Grow d (clockFailDev i d) := by
    rw [hf]
    exact ((Dev.Grow.clkFailed d i).trans (Dev.Kin.raise ..).grow).guardSettle
  refine ⟨_, State.lift_settled d q _ (hgrow.asks.trans hs) hgrow.build hgrow.role, ?_, fun hk => ?_⟩
  · show (clockFailDev i d).bitAt CLK_FAIL i = true
    have hbit := d.clkFailed_bitAt hi
    unfold Dev.bitAt at hbit ⊢
    rw [hf, Dev.guardSettle_get _ _ (by decide), (Dev.Sent.raise ..).get _ (by decide)]
    exact hbit
  · show d.newEvent (clockFailDev i d) 0xD030 [i]
    rw [hf]
    exact Dev.newEvent_raise d (d.clkFailed i) _ 0xD030 0 [i] hk rfl rfl rfl (d.clkFailed_cur i)
      (Dev.Kin.guardSettle _).evq

/-- Settles O13: a wake is recorded, not taken, or starts the rise (`Dev.woken`); a PARKED port goes DOWN; a finding is
`Dev.PatrolFound` and is reported later; a clock failure reaches the guard logic. -/
theorem wakesComplete : Obligations.WakesComplete :=
  ⟨fun _ q p time hs h => exec_wake_recorded q p time hs h,
    fun _ q p time hs hoff hdead hship => exec_wake_collapsed q p time hs hoff hdead hship,
    fun _ q p time h hship => ⟨exec_wakeTone q p time h hship, exec_wakePin q h hship⟩,
    fun _ q p hs htone hpark hring => exec_toneEnd q p hs htone hpark hring,
    fun _ q o h hcur hr how => ⟨exec_patrolCheck_quiet q o h hcur hr how,
      fun _ _ _ hout hrep hn => exec_patrolCheck_found q o h hcur hr how hout hrep hn⟩,
    fun _ _ hc hl hlev hup => Dev.reportFound_one hc hl hlev hup,
    fun _ q _ hs hoff hi hask => exec_clockFail q hs hoff hi hask⟩

end Sys2Proof.Machine
end

section
/-!
SUPPORT. Two statements that a failed die and a waiting descriptor break: the close of a window (04, R85 to R113) on a
device whose AFE-U has failed (R294), and a guard frame (11, 13: R354) that completes a BIND with an access of the head
itself behind it (R405, R418).
-/

namespace Sys2Proof.Machine

/-! ## The close of a window -/

/-- A ZM3680-F member whose AFE-U has failed for good, at the boundary of its first window. -/
def upperFailed : Dev :=
  { State.reset.dev with
    mtick := 120000, pw := { State.reset.dev.pw with starting := false, failed := [.afeU] } }

/-- A window in which no converter measured anything. -/
def emptyWindow : WinIn := ⟨120000, [], ⟨0, false, false⟩, ⟨0, false, false⟩, []⟩

/-- Cell 19 lies on the failed die: it is a channel still, and its die does not take WSEQ of the boundary, which is 1. -/
theorem upperFailed_wseq : 19 ∈ upperFailed.channels
    ∧ (upperFailed.closeWindow emptyWindow (fun _ => none) (fun _ => false) id).get (CVW_WSEQ (chanAt 19).1) = 0
    ∧ wseqAt upperFailed.wlen upperFailed.epoch upperFailed.mtick = 1 := by
  and_intros <;> decide +kernel

/-- Refutes O18: its last clause says that CVW_WSEQ of the die of every channel is that of the boundary. The close of a
window writes the dies that work, and the channels of a failed one are still counted. -/
theorem not_windowResults : ¬ Obligations.WindowResults := by
  intro h
  obtain ⟨hchan, hkept, hdue⟩ := upperFailed_wseq
  obtain ⟨-, -, -, hwseq⟩ := h upperFailed emptyWindow (fun _ => none) (fun _ => false) 19 hchan
  exact absurd (hkept.symm.trans (hwseq.trans hdue)) (by decide)

/-! ## A guard frame at the head -/

/-- A BIND that has been accepted and waits until position 2 reports STREAM. -/
def waitingBind : Run :=
  { id := 0, ring := 1, cid := 1, opc := 0x0B, fence := false, bcast := false, pos := 0, haddr := 0, acts := []
    started := true, sent := false, retries := 0, tag := 0, data := 0, done := 0, gen := 0, waitPos := [2] }

/-- The descriptor behind it on its ring: a write of the head's own SYS_DRST that resets BURL. -/
def resetBehind : Run :=
  { waitingBind with id := 1, cid := 2, opc := 2, acts := [.wr SYS_DRST_BURL.addr [16#32]], started := false, waitPos := [] }

/-- A head in MONITOR with a member at position 2, and both descriptors consumed. -/
def bindingHead : Dev :=
  let d := Dev.anew .F .head
  { d.put (SPN_PORT_STATE .north) pLr with
    pw := { d.pw with starting := false }
    hd := { d.hd with members := [freshMember 2 0 77] }
    hif := { d.hif with runs := [waitingBind, resetBehind] } }

/-- The guard frame of position 2 in STREAM. -/
def streamGuard : Word64 := cfMake kGuard 2 0 (5 * 2 ^ 28 + 5 * 2 ^ 24)

theorem bindingHead_receives : bindingHead.receives .north kGuard streamGuard ∧ bindingHead.role = .head
    ∧ bindingHead.inTurn streamGuard (cfPos streamGuard) ∧ bindingHead.numbered (cfPos streamGuard) = true := by
  and_intros <;> decide +kernel

/-- No command leaves a request open. -/
theorem exec_settled {c : Instr} {s t : State} (h : exec c s = .next t) : t.dev.settled := by
  obtain ⟨u, hu, -, -, hs, -⟩ := everyCommandAnswersANextState c s
  cases hu.symm.trans h
  exact hs

/-- The guard frame completes the BIND, the write behind it starts, and its reset is asked for. -/
theorem bindingHead_asks : ((((bindingHead.accepted .north streamGuard (cfPos streamGuard)).takeGuard (cfPos streamGuard)
    (cfPay streamGuard)).guardEffects (cfPos streamGuard)).headRule).checkBinds.asks = [.drst 16] := by
  decide +kernel

/-- Refutes O31: its second clause says that a guard frame ends with the check of the BINDs. Where a BIND completes, the
descriptor behind it starts; what that asks of the part is done before the command ends, and is open after the check. -/
theorem not_safetyAndCaptureFramesComplete : ¬ Obligations.SafetyAndCaptureFramesComplete := by
  rintro ⟨-, hguard, -⟩
  obtain ⟨hrec, hrole, hturn, hnum⟩ := bindingHead_receives
  have hexec := (hguard bindingHead [] .north streamGuard hrec hrole hturn).1 hnum
  exact absurd ((exec_settled hexec).symm.trans bindingHead_asks) (by decide)

end Sys2Proof.Machine
end

section
/-!
SUPPORT. Marks, the capture buffer and the Burl recorder (04, 19: R100, R114 to R116, R478 to R487): what a mark, the
formation of a block, the end of a copy, a thaw and a Burl error come to.
-/

namespace Sys2Proof.Machine

/-! ## Lifted effects that keep what `Dev.Grow` names -/

/-- An effect that keeps the open requests, build, role and fuses, lifted: it is the command's. -/
theorem State.lift_grow {d : Dev} (q : List Instr) {f : Dev → Dev} {e : Dev} (hs : d.settled) (he : f d = e)
    (hg : Dev.Grow d e) : (⟨d, q⟩ : State).lift f = .next ⟨e, q⟩ :=
  State.lift_runs d q f e he (hg.asks.trans hs) hg.build hg.role hg.fz

/-- The same for an action that starts with the write of a field. -/
theorem State.lift_takes_grow {d : Dev} (q : List Instr) {f : Fld} {act : Dev → Dev} {e : Dev} (h : d.accepts f)
    (he : act d = e) (hg : Dev.Grow d e) : (⟨d, q⟩ : State).lift (Dev.actWrite f act) = .next ⟨e.commandDone, q⟩ :=
  State.lift_takes d q f act e h he (hg.asks.trans h.1.1) hg.build hg.role hg.fz

theorem Dev.Grow.withWin {d e : Dev} (x : WinSt) (h : Dev.Grow d e) : Dev.Grow d { e with win := x } := by
  apply h.upd <;> rfl

/-! ## Marks (R114) -/

/-- A marker for a window that has none takes its place. -/
theorem Dev.markHere_free {d : Dev} (code : Nat) (hm : d.win.mark = none) (hat : ∀ m ∈ d.win.markAt, d.markNow ≠ some m.1) :
    d.markHere code = { d with win := { d.win with mark := some code } } := by
  have hnot : ¬ (d.win.mark.isSome ∨ d.win.markAt.any (fun m => d.markNow = some m.1) = true) := by simpa [hm] using hat
  have hkeep : d.win.markAt.filter (fun m => d.markNow ≠ some m.1) = d.win.markAt := by simpa using hat
  unfold Dev.markHere
  dsimp only
  rw [if_neg hnot, hkeep]

/-- A marker for a window that has one replaces it, and MRKOVW is set. -/
theorem Dev.markHere_over {d : Dev} (code : Nat)
    (h : d.win.mark.isSome = true ∨ ∃ m ∈ d.win.markAt, d.markNow = some m.1) :
    d.markHere code = { d.put (CVW_STAT_MRKOVW .L) 1 with win := { d.win with
      mark := some code, markAt := d.win.markAt.filter (fun m => d.markNow ≠ some m.1) } } := by
  have hany : d.win.mark.isSome ∨ d.win.markAt.any (fun m => d.markNow = some m.1) = true := by simpa using h
  unfold Dev.markHere
  dsimp only
  rw [if_pos hany]
  rfl

/-- A mark without a number is for the window in progress. -/
theorem markDev_now {v : Word} (d : Dev) (h : bitsOf v 8 8 = 0) : markDev v d = d.markHere (bitsOf v 7 0) := by
  unfold markDev
  rw [if_pos h]

/-- A mark for a window that is over joins the one in progress, and its event is raised. -/
theorem markDev_late {v : Word} {d : Dev} (h : bitsOf v 8 8 = 1)
    (hpast : (d.get (CVW_WSEQ .L) + 2 ^ 32 - d.get (CVW_MARKW .L)) % 2 ^ 32 < 2 ^ 31) :
    markDev v d = ((d.markHere (bitsOf v 7 0)).put (CVW_STAT_LATE .L) 1).raise 0x1005 1 [] := by
  unfold markDev
  rw [if_neg (by rw [h]; decide)]
  dsimp only
  rw [if_pos (decide_eq_true hpast)]

/-- A mark for a window to come that has none waits for it. -/
theorem markDev_waits {v : Word} {d : Dev} (h : bitsOf v 8 8 = 1) (hat : ∀ m ∈ d.win.markAt, m.1 ≠ d.get (CVW_MARKW .L))
    (hnow : d.markNow = some (d.get (CVW_MARKW .L)) → d.win.mark = none)
    (hahead : 2 ^ 31 ≤ (d.get (CVW_WSEQ .L) + 2 ^ 32 - d.get (CVW_MARKW .L)) % 2 ^ 32) :
    markDev v d = { d with win := { d.win with
      markAt := (d.get (CVW_MARKW .L), bitsOf v 7 0) :: d.win.markAt } } := by
  have hkeep : d.win.markAt.filter (fun m => m.1 ≠ d.get (CVW_MARKW .L)) = d.win.markAt := by simpa using hat
  have hnot : ¬ (d.win.markAt.any (fun m => m.1 = d.get (CVW_MARKW .L)) = true
      ∨ d.markNow = some (d.get (CVW_MARKW .L)) ∧ d.win.mark.isSome = true) := by
    rintro (hany | ⟨hsame, hsome⟩)
    · obtain ⟨m, hm, hwin⟩ := List.any_eq_true.mp hany
      exact hat m hm (of_decide_eq_true hwin)
    · simp [hnow hsame] at hsome
  have hmark : (if d.markNow = some (d.get (CVW_MARKW .L)) then none else d.win.mark) = d.win.mark := by
    split
    · rename_i hsame
      exact (hnow hsame).symm
    · rfl
  unfold markDev
  rw [if_neg (by rw [h]; decide)]
  dsimp only
  rw [if_neg (by simpa using hahead)]
  simp only [decide_eq_true_eq]
  rw [if_neg hnot, hmark, hkeep]

theorem Dev.Grow.markHere {d e : Dev} (code : Nat) (h : Dev.Grow d e) : Dev.Grow d (e.markHere code) := by
  unfold Dev.markHere
  exact ((h.put ..).ite h).withWin _

theorem Dev.Grow.markDev (v : Word) (d : Dev) : Dev.Grow d (Machine.markDev v d) := by
  unfold Machine.markDev
  extract_lets code target past same flagged
  have hflagged : Dev.Grow d flagged := ((Dev.Grow.refl d).put ..).ite (Dev.Grow.refl d)
  split
  · exact (Dev.Grow.refl d).markHere code
  · split
    · exact (((Dev.Grow.refl d).markHere code).put ..).raise ..
    · exact hflagged.withWin _

theorem exec_mark {d e : Dev} (q : List Instr) {v : Word} (h : d.accepts (CVW_MARK_CODE .L)) (he : markDev v d = e) :
    exec (.mark v) ⟨d, q⟩ = .next ⟨e.commandDone, q⟩ :=
  State.lift_takes_grow q h he (he ▸ Dev.Grow.markDev v d)

/-- MARK: at once, over an earlier one, late, and for a window to come. -/
theorem exec_mark_cases {d : Dev} (q : List Instr) (v : Word) (h : d.accepts (CVW_MARK_CODE .L)) :
    (bitsOf v 8 8 = 0 → d.win.mark = none → (∀ m ∈ d.win.markAt, d.markNow ≠ some m.1) →
      exec (.mark v) ⟨d, q⟩ = .next ⟨({ d with win := { d.win with mark := some (bitsOf v 7 0) } }).commandDone, q⟩)
    ∧ (bitsOf v 8 8 = 0 → d.win.mark.isSome = true ∨ (∃ m ∈ d.win.markAt, d.markNow = some m.1) →
      exec (.mark v) ⟨d, q⟩
        = .next ⟨({ d.put (CVW_STAT_MRKOVW .L) 1 with win := { d.win with
          mark := some (bitsOf v 7 0), markAt := d.win.markAt.filter (fun m => d.markNow ≠ some m.1) } }).commandDone, q⟩)
    ∧ (bitsOf v 8 8 = 1 → d.win.mark = none → (∀ m ∈ d.win.markAt, d.markNow ≠ some m.1) →
      (d.get (CVW_WSEQ .L) + 2 ^ 32 - d.get (CVW_MARKW .L)) % 2 ^ 32 < 2 ^ 31 →
      exec (.mark v) ⟨d, q⟩ = .next ⟨((({ d with win := { d.win with mark := some (bitsOf v 7 0) } }).put
        (CVW_STAT_LATE .L) 1).raise 0x1005 1 []).commandDone, q⟩)
    ∧ (bitsOf v 8 8 = 1 → (∀ m ∈ d.win.markAt, m.1 ≠ d.get (CVW_MARKW .L)) →
      (d.markNow = some (d.get (CVW_MARKW .L)) → d.win.mark = none) →
      2 ^ 31 ≤ (d.get (CVW_WSEQ .L) + 2 ^ 32 - d.get (CVW_MARKW .L)) % 2 ^ 32 →
      exec (.mark v) ⟨d, q⟩ = .next ⟨({ d with win := { d.win with
        markAt := (d.get (CVW_MARKW .L), bitsOf v 7 0) :: d.win.markAt } }).commandDone, q⟩) := by
  refine ⟨fun hv hm hat => ?_, fun hv hover => ?_, fun hv hm hat hpast => ?_, fun hv hat hnow hahead => ?_⟩
  · exact exec_mark q h ((markDev_now d hv).trans (Dev.markHere_free _ hm hat))
  · exact exec_mark q h ((markDev_now d hv).trans (Dev.markHere_over _ hover))
  · exact exec_mark q h (by rw [markDev_late hv hpast, Dev.markHere_free _ hm hat])
  · exact exec_mark q h (markDev_waits hv hat hnow hahead)

theorem exec_captureForce {d : Dev} (q : List Instr) (h : d.accepts (CVW_CAPT_FORCE .L)) :
    exec .captureForce ⟨d, q⟩ = .next ⟨({ d with win := { d.win with capSrc := d.win.capSrc ||| 32 } }).commandDone, q⟩ :=
  State.lift_takes_grow q h rfl ((Dev.Grow.refl d).withWin _)

/-! ## The block of a closed window (R100, R478) -/

theorem Dev.Grow.capStore {d e : Dev} (b : CapBlock) (h : Dev.Grow d e) : Dev.Grow d (e.capStore b) :=
  ((h.withCap _).put ..).put ..

theorem Dev.Grow.withSpn {d e : Dev} {x : SpnSt} (h : Dev.Grow d e) (hx : x.evq = e.spn.evq) :
    Dev.Grow d { e with spn := x } :=
  h.upd rfl rfl rfl rfl rfl rfl rfl rfl rfl rfl rfl rfl rfl rfl rfl rfl rfl hx

theorem Dev.Grow.sendToHead {d e : Dev} (ftype tc tag : Nat) (more : Bool) (payload : List Byte) (h : Dev.Grow d e) :
    Dev.Grow d (e.sendToHead ftype tc tag more payload) := by
  unfold Dev.sendToHead
  split
  · rename_i hsrc
    dsimp only
    refine Dev.Grow.portSend _ _ _ ?_
    split at hsrc <;> cases hsrc
    · exact h.withSpn rfl
    · exact h.withSpn rfl
    · exact h

theorem Dev.Grow.sendFragments {d : Dev} (max n : Nat) : ∀ (i : Nat) {e : Dev} (bs : List Byte), Dev.Grow d e →
    Dev.Grow d (Dev.sendFragments max n i e bs) := by
  induction n with
  | zero => exact fun _ _ _ h => h
  | succ n ih =>
    intro i e bs h
    unfold Dev.sendFragments
    dsimp only
    split
    · exact ih _ _ (h.sendToHead ..)
    · exact h.sendToHead ..

theorem Dev.Grow.streamOut {d e : Dev} (c : Closed) (h : Dev.Grow d e) : Dev.Grow d (e.streamOut c) := by
  unfold Dev.streamOut
  split
  · split
    · refine Dev.Grow.countSat _ _ (h.withSpn ?_)
      rfl
    · exact h.sendFragments ..
  · exact h

/-- While nothing is frozen and no snapshot is under way, a block is stored and no more. -/
theorem Dev.capTake_free {d : Dev} (b : CapBlock) (hf : d.bit FW_CAPST_FROZEN = false) (hs : d.cap.snap = none) :
    d.capTake b = d.capStore b := by
  have hsnap : (d.capStore b).cap.snap = none := by simpa [Dev.capStore, Dev.showCap] using hs
  unfold Dev.capTake
  rw [if_neg (by simp [hf])]
  simp only [hsnap]

theorem Dev.fireTrigger_quiet (d : Dev) {c : Closed} (h : c.srcs = 0) : d.fireTrigger c = d := if_pos h

/-- BLOCK_FORMATION of a window without a trigger, in which the buffer takes blocks. -/
theorem exec_blockFormation {d : Dev} (q : List Instr) {c : Closed} (hs : d.settled) (hm : d.monitoring = true)
    (hc : d.win.closed = some c) (hsrcs : c.srcs = 0) (hf : d.bit FW_CAPST_FROZEN = false)
    (hp : d.bit FW_CAPST_POSTING = false) (hsnap : d.cap.snap = none) :
    let c' := { c with bflags := (c.bflags + flagBit (c.eral ≠ d.win.prevEraL) 2 + flagBit (c.erau ≠ d.win.prevEraU) 3
      + flagBit d.win.miss 4) }
    let e := { d with win := { d.win with closed := none, miss := false, prevEraL := c.eral, prevEraU := c.erau } }
    exec .blockFormation ⟨d, q⟩ = .next ⟨(e.capStore ⟨c.wseq, c.tick, e.blockOf c' false⟩).streamOut c', q⟩ := by
  intro c' e
  have htake : e.capTake ⟨c.wseq, c.tick, e.blockOf c' false⟩ = e.capStore ⟨c.wseq, c.tick, e.blockOf c' false⟩ :=
    Dev.capTake_free _ ((Dev.bit_with_win ..).trans hf) hsnap
  have hposting : e.bit FW_CAPST_POSTING = false := (Dev.bit_with_win ..).trans hp
  have hflag : flagBit (decide (c.srcs ≠ 0)) 10 = 0 := by simp [flagBit, hsrcs]
  refine State.lift_grow q hs ?_ ((((Dev.Grow.refl d).withWin _).capStore _).streamOut _)
  unfold blockFormationDev
  rw [hc]
  dsimp only
  rw [if_neg (by simp [hm]), hflag, Nat.add_zero]
  change (if e.bit FW_CAPST_POSTING = true then e.capTake ⟨c.wseq, c.tick, e.blockOf c' false⟩
    else (e.capTake ⟨c.wseq, c.tick, e.blockOf c' false⟩).fireTrigger c').streamOut c' = _
  rw [if_neg (by simp [hposting]), htake, Dev.fireTrigger_quiet _ (show c'.srcs = 0 from hsrcs)]

/-! ## Burl slots (R483 to R485) -/

/-- A slot that is replaced reads as the new one. -/
theorem Dev.setSlot_slots (d : Dev) {i : Nat} (f : Slot → Slot) (hi : i < d.burl.slots.length) :
    (d.setSlot i f).burl.slots[i]? = some (f (d.burlSlot i)) := by
  simp [Dev.setSlot, Dev.showSlots, hi]

/-- Replacing a slot writes RCD_PROT.PROT and RCD_STAT.FREE and no other field. -/
theorem Dev.setSlot_get (d : Dev) (i : Nat) (f : Slot → Slot) {g : Fld} (hg : g.wf = true)
    (hp : RCD_PROT_PROT.apart g = true) (hr : RCD_STAT_FREE.apart g = true) : (d.setSlot i f).get g = d.get g := by
  unfold Dev.setSlot Dev.showSlots
  dsimp only
  rw [Dev.get_put_apart _ _ _ _ (by decide) hg hr, Dev.get_put_apart _ _ _ _ (by decide) hg hp, Dev.get_with_burl]

@[simp] theorem Dev.setSlot_role (d : Dev) (i : Nat) (f : Slot → Slot) : (d.setSlot i f).role = d.role := by
  simp [Dev.setSlot, Dev.showSlots]
@[simp] theorem Dev.setSlot_spn (d : Dev) (i : Nat) (f : Slot → Slot) : (d.setSlot i f).spn = d.spn := by
  simp [Dev.setSlot, Dev.showSlots]
@[simp] theorem Dev.setSlot_saf (d : Dev) (i : Nat) (f : Slot → Slot) : (d.setSlot i f).saf = d.saf := by
  simp [Dev.setSlot, Dev.showSlots]
@[simp] theorem Dev.setSlot_cap (d : Dev) (i : Nat) (f : Slot → Slot) : (d.setSlot i f).cap = d.cap := by
  simp [Dev.setSlot, Dev.showSlots]

theorem Dev.Grow.setSlot {d e : Dev} (i : Nat) (f : Slot → Slot) (h : Dev.Grow d e) : Dev.Grow d (e.setSlot i f) :=
  (h.withBurl _).showSlots

theorem Dev.Grow.capThaw {d e : Dev} (h : Dev.Grow d e) : Dev.Grow d e.capThaw := ((h.withCap _).put ..).put ..

/-! ## The end of a copy (R484, R485) -/

/-- A slot with a snapshot complete: its directory entry, and the blocks over what it held. -/
def Dev.copiedSlot (d : Dev) (s : Snap) (o : Slot) : Slot :=
  { o with
    state := 2
    entry := d.dirEntry s (leNat (bytesAt o.entry 2 4)) d.capBytes.length (crc32c d.capBytes).toNat (d.snapGaps s)
    data := overlay d.capBytes o.data }

/-- The device with a snapshot in its slot, and the slot after it next in turn. -/
def Dev.copied (d : Dev) (s : Snap) (i : Nat) : Dev :=
  ((d.setSlot i (d.copiedSlot s)).put RCD_STAT_NEXT ((i + 1) % 12)).put RCD_STAT_BUSY 0

theorem snapshotCopyDoneDev_frozen {d : Dev} {s : Snap} {i : Nat} (hf : d.bit FW_CAPST_FROZEN = true)
    (hs : d.cap.snap = some s) (hi : s.slot = some i) :
    snapshotCopyDoneDev d = ((d.copied s i).raise 0xC001 0
      [i, leNat (bytesAt (d.burlSlot i).entry 2 4), s.twseq, s.srcs]).capThaw := by
  unfold snapshotCopyDoneDev
  simp only [hs, hi, hf, if_true]
  rfl

@[simp] theorem Dev.copied_role (d : Dev) (s : Snap) (i : Nat) : (d.copied s i).role = d.role := by simp [Dev.copied]
@[simp] theorem Dev.copied_spn (d : Dev) (s : Snap) (i : Nat) : (d.copied s i).spn = d.spn := by simp [Dev.copied]
@[simp] theorem Dev.copied_saf (d : Dev) (s : Snap) (i : Nat) : (d.copied s i).saf = d.saf := by simp [Dev.copied]
@[simp] theorem Dev.copied_cap (d : Dev) (s : Snap) (i : Nat) : (d.copied s i).cap = d.cap := by simp [Dev.copied]
@[simp] theorem Dev.copied_burl (d : Dev) (s : Snap) (i : Nat) :
    (d.copied s i).burl = (d.setSlot i (d.copiedSlot s)).burl := by simp [Dev.copied]

theorem Dev.copied_next (d : Dev) (s : Snap) (i : Nat) : (d.copied s i).get RCD_STAT_NEXT = (i + 1) % 12 := by
  unfold Dev.copied
  rw [Dev.get_put_apart _ _ _ _ (by decide) (by decide) (by decide), Dev.get_put_same _ _ _ (by decide)]
  exact Nat.mod_eq_of_lt (lt_of_lt_of_le (Nat.mod_lt _ (by decide)) (by decide))

theorem Dev.copied_cur (d : Dev) (s : Snap) (i : Nat) : (d.copied s i).get PWR_STAT_CUR = d.get PWR_STAT_CUR := by
  unfold Dev.copied
  rw [Dev.get_put_apart _ _ _ _ (by decide) (by decide) (by decide),
    Dev.get_put_apart _ _ _ _ (by decide) (by decide) (by decide),
    Dev.setSlot_get _ _ _ (by decide) (by decide) (by decide)]

theorem Dev.Grow.copied (d : Dev) (s : Snap) (i : Nat) : Dev.Grow d (d.copied s i) :=
  (((Dev.Grow.refl d).setSlot i _).put ..).put ..

@[simp] theorem Dev.capThaw_spn (d : Dev) : d.capThaw.spn = d.spn := by simp [Dev.capThaw]
@[simp] theorem Dev.capThaw_burl (d : Dev) : d.capThaw.burl = d.burl := by simp [Dev.capThaw]
@[simp] theorem Dev.capThaw_cap (d : Dev) : d.capThaw.cap = { d.cap with snap := none } := by simp [Dev.capThaw]

theorem Dev.capThaw_open (d : Dev) : d.capThaw.get FW_CAPST_FROZEN = 0 ∧ d.capThaw.get FW_CAPST_HELD = 0 := by
  unfold Dev.capThaw
  refine ⟨?_, Dev.get_put_same _ _ _ (by decide)⟩
  rw [Dev.get_put_apart _ _ _ _ (by decide) (by decide) (by decide)]
  exact Dev.get_put_same _ _ _ (by decide)

theorem Dev.capThaw_get (d : Dev) {g : Fld} (hg : g.wf = true) (hfro : FW_CAPST_FROZEN.apart g = true)
    (hheld : FW_CAPST_HELD.apart g = true) : d.capThaw.get g = d.get g := by
  unfold Dev.capThaw
  rw [Dev.get_put_apart _ _ _ _ (by decide) hg hheld, Dev.get_put_apart _ _ _ _ (by decide) hg hfro, Dev.get_with_cap]

theorem Dev.raise_slots (d : Dev) (code src : Nat) (items : List Nat) :
    (d.raise code src items).burl.slots = d.burl.slots := by
  rw [(Dev.Sent.raise d code src items).burl]

/-- SNAPSHOT_COPY_DONE of a snapshot under copy. -/
theorem exec_snapshotCopyDone {d : Dev} (q : List Instr) {s : Snap} {i : Nat} (hset : d.settled)
    (hf : d.bit FW_CAPST_FROZEN = true) (hs : d.cap.snap = some s) (hi : s.slot = some i) (hlen : i < d.burl.slots.length) :
    ∃ t, exec .snapshotCopyDone ⟨d, q⟩ = .next t ∧ t.dev.get RCD_STAT_NEXT = (i + 1) % 12 ∧ t.dev.get RCD_STAT_BUSY = 0
      ∧ t.dev.get FW_CAPST_FROZEN = 0 ∧ t.dev.get FW_CAPST_HELD = 0 ∧ t.dev.cap = { d.cap with snap := none }
      ∧ (∃ o, t.dev.burl.slots[i]? = some o ∧ o.state = 2 ∧ o.prot = (d.burlSlot i).prot
        ∧ o.data = overlay d.capBytes (d.burlSlot i).data)
      ∧ (d.keepsEvents → d.newEvent t.dev 0xC001 [i, leNat (bytesAt (d.burlSlot i).entry 2 4), s.twseq, s.srcs]) := by
  generalize hitems : [i, leNat (bytesAt (d.burlSlot i).entry 2 4), s.twseq, s.srcs] = items
  have hdone := snapshotCopyDoneDev_frozen hf hs hi
  rw [hitems] at hdone
  have hopen := Dev.capThaw_open ((d.copied s i).raise 0xC001 0 items)
  refine ⟨_, State.lift_grow q hset hdone (((Dev.Grow.copied d s i).raise ..).capThaw), ?_, ?_, hopen.1, hopen.2, ?_,
    ⟨d.copiedSlot s (d.burlSlot i), ?_, rfl, rfl, rfl⟩, fun hk => ?_⟩
  · exact ((Dev.capThaw_get _ (by decide) (by decide) (by decide)).trans (Dev.raise_get _ _ _ _ _ (by decide))).trans
      (d.copied_next s i)
  · exact ((Dev.capThaw_get _ (by decide) (by decide) (by decide)).trans (Dev.raise_get _ _ _ _ _ (by decide))).trans
      (Dev.get_put_same _ _ _ (by decide))
  · simp
  · rw [Dev.capThaw_burl, Dev.raise_slots, Dev.copied_burl, Dev.setSlot_slots d _ hlen]
  · exact Dev.newEvent_raise d (d.copied s i) _ 0xC001 0 items hk (by simp) (by simp) (by simp) (d.copied_cur s i)
      (by rw [Dev.capThaw_spn])

/-! ## Thaw and Burl errors (R482, R487) -/

theorem exec_captureThaw {d : Dev} (q : List Instr) (h : d.accepts FW_CAPCTL_THAW) :
    (d.bit FW_CAPST_HELD = true → exec .captureThaw ⟨d, q⟩
      = .next ⟨((({ d with cap := { d.cap with snap := none } }).put FW_CAPST_FROZEN 0).put FW_CAPST_HELD 0).commandDone, q⟩)
    ∧ (d.bit FW_CAPST_HELD = false → exec .captureThaw ⟨d, q⟩ = .next ⟨d.commandDone, q⟩) :=
  ⟨fun hh => State.lift_takes_grow q h (if_pos hh) (Dev.Grow.refl d).capThaw,
    fun hh => State.lift_takes_grow q h (if_neg (by simp [hh])) (Dev.Grow.refl d)⟩

/-- A Burl error where Lathe runs: it is noted with its address, and a copy that was writing breaks off, its slot ending
incomplete and the buffer held. -/
theorem burlErrorDev_noted {d : Dev} (addr : Nat) (hl : d.lathe = true) (hb : d.build = .F) :
    (d.cap.snap = none → ∀ w, burlErrorDev addr w d = (d.put RCD_STAT_ERR 1).raise 0xC004 0 [addr])
    ∧ (∀ s i, d.cap.snap = some s → s.slot = some i → burlErrorDev addr true d
      = (((((d.put RCD_STAT_ERR 1).raise 0xC004 0 [addr]).copyBroken s i 3).put RCD_STAT_NEXT ((i + 1) % 12)).capHold s)) := by
  have hcap : ((d.put RCD_STAT_ERR 1).raise 0xC004 0 [addr]).cap = d.cap := by simp
  constructor
  · intro hs w
    unfold burlErrorDev
    rw [if_neg (by simp [hb, hl])]
    simp only [hcap, hs]
  · intro s i hs hi
    unfold burlErrorDev
    rw [if_neg (by simp [hb, hl])]
    simp only [hcap, hs, hi, if_true]

/-- A copy that breaks off: the snapshot has no slot any more, its slot takes a state, and BUSY is cleared. -/
theorem Dev.copyBroken_eq (d : Dev) (s : Snap) (i state : Nat) : ∃ f : Slot → Slot, (∀ o, (f o).state = state)
    ∧ d.copyBroken s i state = (({ d with
      draws := d.draws + 1, cap := { d.cap with snap := some { s with slot := none } } } : Dev).setSlot i f).put RCD_STAT_BUSY 0 :=
  ⟨_, fun _ => rfl, rfl⟩

/-- BURL_ERROR while a snapshot is written. -/
theorem exec_burlError_writing {d : Dev} (q : List Instr) (addr : Nat) (h : d.runs) (hb : d.build = .F) {s : Snap} {i : Nat}
    (hs : d.cap.snap = some s) (hi : s.slot = some i) (hlen : i < d.burl.slots.length) :
    ∃ t, exec (.burlError addr true) ⟨d, q⟩ = .next t ∧ t.dev.get RCD_STAT_ERR = 1 ∧ t.dev.get RCD_STAT_BUSY = 0
      ∧ t.dev.get FW_CAPST_HELD = 1 ∧ t.dev.cap.snap = some { s with slot := none }
      ∧ (∃ o, t.dev.burl.slots[i]? = some o ∧ o.state = 3)
      ∧ (d.keepsEvents → d.newEvent t.dev 0xC004 [addr]) := by
  have hdo := (burlErrorDev_noted addr h.2 hb).2 s i hs hi
  have hgrow := Dev.Grow.burlErrorDev addr true (Dev.Grow.refl d)
  rw [hdo] at hgrow
  refine ⟨_, State.lift_grow q h.1 hdo hgrow, ?_⟩
  have herr : ((d.put RCD_STAT_ERR 1).raise 0xC004 0 [addr]).get RCD_STAT_ERR = 1 :=
    (Dev.raise_get _ _ _ _ _ (by decide)).trans (Dev.get_put_same _ _ _ (by decide))
  have hslots : ((d.put RCD_STAT_ERR 1).raise 0xC004 0 [addr]).burl.slots = d.burl.slots := by
    rw [Dev.raise_slots, Dev.put_burl]
  have hsaid : d.keepsEvents → ∀ e : Dev, ((d.put RCD_STAT_ERR 1).raise 0xC004 0 [addr]).spn.evq <+: e.spn.evq →
      d.newEvent e 0xC004 [addr] := fun hk e =>
    Dev.newEvent_raise d (d.put RCD_STAT_ERR 1) e 0xC004 0 [addr] hk (by simp) (by simp) (by simp)
      (Dev.get_put_apart _ _ _ _ (by decide) (by decide) (by decide))
  generalize (d.put RCD_STAT_ERR 1).raise 0xC004 0 [addr] = noted at *
  obtain ⟨f, hf, hbroken⟩ := Dev.copyBroken_eq noted s i 3
  rw [hbroken]
  unfold Dev.capHold
  refine ⟨?_, ?_, ?_, by simp, ⟨f (d.burlSlot i), ?_, hf _⟩, fun hk => hsaid hk _ ?_⟩
  · rw [Dev.raise_get _ _ _ _ _ (by decide), Dev.get_put_apart _ _ _ _ (by decide) (by decide) (by decide),
      Dev.get_put_apart _ _ _ _ (by decide) (by decide) (by decide),
      Dev.get_put_apart _ _ _ _ (by decide) (by decide) (by decide),
      Dev.setSlot_get _ _ _ (by decide) (by decide) (by decide)]
    exact herr
  · rw [Dev.raise_get _ _ _ _ _ (by decide), Dev.get_put_apart _ _ _ _ (by decide) (by decide) (by decide),
      Dev.get_put_apart _ _ _ _ (by decide) (by decide) (by decide)]
    exact Dev.get_put_same _ _ _ (by decide)
  · rw [Dev.raise_get _ _ _ _ _ (by decide)]
    exact Dev.get_put_same _ _ _ (by decide)
  · rw [Dev.raise_slots, Dev.put_burl, Dev.put_burl, Dev.put_burl, Dev.setSlot_slots _ _ (hslots ▸ hlen)]
    unfold Dev.burlSlot
    rw [hslots]
  · exact List.IsPrefix.trans (by simp) (Dev.Sent.raise ..).evq

/-- Settles O19: the clauses are the commands' own lemmas. -/
theorem windowAndRecorderCommandsComplete : Obligations.WindowAndRecorderCommandsComplete :=
  ⟨fun _ q _ hs hm hc hsrcs hf hp hsnap => exec_blockFormation q hs hm hc hsrcs hf hp hsnap,
    fun _ q v h => exec_mark_cases q v h, fun _ q h => exec_captureForce q h,
    fun _ q _ _ hset hf hs hi hlen => exec_snapshotCopyDone q hset hf hs hi hlen,
    fun _ q h => exec_captureThaw q h,
    fun d q addr h hb => ⟨fun hs w => State.lift_grow q h.1 ((burlErrorDev_noted addr h.2 hb).1 hs w)
      (((Dev.Grow.refl d).put ..).raise ..),
      fun _ _ hs hi hlen => exec_burlError_writing q addr h hb hs hi hlen⟩⟩

end Sys2Proof.Machine
end

section
/-!
SUPPORT. The start of integration and the boundary of a window (04, R89, R93, R107): what the work of a window that opens
leaves of the start itself.
-/

namespace Sys2Proof.Machine

/-! ## What the work in a window leaves of its start -/

/-- The same converters integrate, the window in progress opened at the same edge, and bank L is in the same era. -/
structure Dev.SameWindow (d e : Dev) : Prop where
  integ  : ∀ a, e.get (CVW_STAT_INTEG a) = d.get (CVW_STAT_INTEG a)
  opened : e.win.opened = d.win.opened
  tick   : e.win.openTick = d.win.openTick
  eraL   : e.win.eraL = d.win.eraL

namespace Dev.SameWindow

variable {d e f : Dev}

theorem refl (d : Dev) : Dev.SameWindow d d := ⟨fun _ => rfl, rfl, rfl, rfl⟩

theorem trans (h : Dev.SameWindow d e) (g : Dev.SameWindow e f) : Dev.SameWindow d f :=
  ⟨fun a => (g.integ a).trans (h.integ a), g.opened.trans h.opened, g.tick.trans h.tick, g.eraL.trans h.eraL⟩

/-- A field that lies apart from INTEG of both dies is written. -/
theorem put (h : Dev.SameWindow d e) {g : Fld} (hg : g.wf = true) (ha : ∀ a, g.apart (CVW_STAT_INTEG a) = true) (v : Nat) :
    Dev.SameWindow d (e.put g v) :=
  ⟨fun a => (Dev.get_put_apart _ _ _ _ hg rfl (ha a)).trans (h.integ a), h.opened, h.tick, h.eraL⟩

/-- A field of high bits is written, wherever its register lies: INTEG is bit 1. -/
theorem putHigh (h : Dev.SameWindow d e) {g : Fld} (hg : g.wf = true) (hlo : 1 < g.lo) (v : Nat) :
    Dev.SameWindow d (e.put g v) :=
  h.put hg (fun a => by simp [Fld.apart, CVW_STAT_INTEG, hlo]) v

theorem each {α : Type} (h : Dev.SameWindow d e) (xs : List α) {step : Dev → α → Dev}
    (hstep : ∀ c, ∀ x ∈ xs, Dev.SameWindow d c → Dev.SameWindow d (step c x)) : Dev.SameWindow d (e.each xs step) :=
  List.foldlRecOn xs step h (fun c hc x hx => hstep c x hx hc)

theorem raise (h : Dev.SameWindow d e) (code src : Nat) (items : List Nat) : Dev.SameWindow d (e.raise code src items) :=
  h.trans ⟨fun a => Dev.raise_get _ _ _ _ _ (by cases a <;> decide), by simp, by simp, by simp⟩

theorem withOwd (h : Dev.SameWindow d e) (x : OwdSt) : Dev.SameWindow d { e with owd := x } :=
  ⟨h.integ, h.opened, h.tick, h.eraL⟩

theorem withBal (h : Dev.SameWindow d e) (x : BalSt) : Dev.SameWindow d { e with bal := x } :=
  ⟨h.integ, h.opened, h.tick, h.eraL⟩

theorem withWin (h : Dev.SameWindow d e) {x : WinSt} (ho : x.opened = e.win.opened) (ht : x.openTick = e.win.openTick)
    (he : x.eraL = e.win.eraL) : Dev.SameWindow d { e with win := x } :=
  ⟨h.integ, ho.trans h.opened, ht.trans h.tick, he.trans h.eraL⟩

theorem setAux (h : Dev.SameWindow d e) (a : Afe) (x : AuxSt) : Dev.SameWindow d (e.setAux a x) := by
  cases a <;> exact ⟨h.integ, h.opened, h.tick, h.eraL⟩

/-! The aux sequencer -/

/-- A field of AUX_STAT or AUX_PSTAT lies in a register of its own. -/
theorem putAux (h : Dev.SameWindow d e) {a : Afe} {g : Fld} (hg : g ∈ [AUX_STAT_WAIT a, AUX_STAT_BUSY a, AUX_STAT_ENTRY a,
    AUX_PSTAT_SUSP a]) (v : Nat) : Dev.SameWindow d (e.put g v) :=
  h.put (by revert g; cases a <;> decide) (fun b => by revert g; cases a <;> cases b <;> decide) v

theorem auxTo (h : Dev.SameWindow d e) (a : Afe) (ph : AuxPhase) : Dev.SameWindow d (e.auxTo a ph) := by
  unfold Dev.auxTo
  extract_lets _ set wait conv shown
  have hshown : Dev.SameWindow d shown :=
    ((h.setAux a _).putAux (a := a) (g := AUX_STAT_WAIT a) (by simp) _).putAux (a := a) (g := AUX_STAT_BUSY a) (by simp) _
  split
  iterate 3 exact hshown.putAux (a := a) (g := AUX_STAT_ENTRY a) (by simp) _
  exact hshown

theorem auxStart (h : Dev.SameWindow d e) (a : Afe) (k : Nat) : Dev.SameWindow d (e.auxStart a k) := by
  unfold Dev.auxStart
  extract_lets x go
  have hgo (c : Dev) (hc : Dev.SameWindow d c) : Dev.SameWindow d (go c) := (hc.setAux a _).auxTo a _
  split
  · exact h.auxTo a _
  · split
    · exact hgo _ h
    · extract_lets s
      split
      · exact hgo _ h
      · split
        · exact h.auxTo a _
        · split
          · exact hgo _ (h.setAux a _)
          · exact hgo _ (h.setAux a _)

theorem plausOpen (h : Dev.SameWindow d e) (views : List (Nat × Nat)) (a : Afe) : Dev.SameWindow d (e.plausOpen views a) := by
  unfold Dev.plausOpen
  extract_lets x runs susp shown cells jobs p
  have hshown : Dev.SameWindow d shown := h.putAux (a := a) (g := AUX_PSTAT_SUSP a) (by simp) _
  split <;> exact hshown.setAux a _

theorem auxWindow (h : Dev.SameWindow d e) (views : List (Nat × Nat)) (a : Afe) : Dev.SameWindow d (e.auxWindow views a) := by
  unfold Dev.auxWindow
  extract_lets taken
  have ht : Dev.SameWindow d taken := h.plausOpen views a
  split
  · exact ht.auxStart a _
  · exact ht

/-! The wiring diagnostics -/

theorem showClass (h : Dev.SameWindow d e) (j c : Nat) : Dev.SameWindow d (e.showClass j c) := by
  unfold Dev.showClass
  split
  · exact h.putHigh (g := OWD_JSTAT_CLASS .L j) rfl (by show 1 < 28; decide) _
  · exact h

theorem owdRun (h : Dev.SameWindow d e) (ref : Option Closed) : Dev.SameWindow d (e.owdRun ref) := by
  unfold Dev.owdRun
  extract_lets ph ws skip go skipped next refx
  have hskipped : Dev.SameWindow d skipped := h.each _ fun c j _ hc =>
    (hc.showClass j 5).put (g := OWD_SKIP .L) rfl (by rintro (_ | _) <;> decide) _
  exact (hskipped.put (g := OWD_STAT_PHASE .L) rfl (by rintro (_ | _) <;> decide) _).withOwd _

theorem owdOpenRun (h : Dev.SameWindow d e) (ref : Option Closed) : Dev.SameWindow d (e.owdOpenRun ref) := by
  unfold Dev.owdOpenRun
  extract_lets _ begun
  have hbegun : Dev.SameWindow d begun := by
    unfold begun
    split
    · exact h
    · split
      · exact h.withOwd _
      · split
        · exact h
        · split
          · exact h.withOwd _
          · exact h.owdRun ref
  split
  · exact hbegun.withWin rfl rfl rfl
  · exact hbegun

theorem verdict (h : Dev.SameWindow d e) (r : JReq) (v : Nat) : Dev.SameWindow d (e.verdict r v) := by
  unfold Dev.verdict
  extract_lets j cells shown _ found low high
  have hshown : Dev.SameWindow d shown := h.putHigh (g := OWD_JSTAT_VERD .L j) rfl (by show 1 < 24; decide) _
  have hfound : Dev.SameWindow d found := by
    unfold found
    split
    · exact hshown.withOwd _
    · exact hshown
  have hlow : Dev.SameWindow d low := by
    unfold low
    split
    · exact hfound.putHigh (g := OWD_STAT_REFBADL .L) rfl (by decide) _
    · exact hfound
  have hhigh : Dev.SameWindow d high := by
    unfold high
    split
    · exact hlow.putHigh (g := OWD_STAT_REFBADU .L) rfl (by decide) _
    · exact hlow
  exact hhigh.raise ..

theorem owdOpenCheck (h : Dev.SameWindow d e) : Dev.SameWindow d e.owdOpenCheck := by
  unfold Dev.owdOpenCheck
  exact (h.withOwd _).each _ fun c q _ hc => hc.verdict q 9

theorem owdOpenProbe (h : Dev.SameWindow d e) (busy : Nat → Bool) : Dev.SameWindow d (e.owdOpenProbe busy) := by
  unfold Dev.owdOpenProbe
  split
  · exact h
  · extract_lets k _ n turned
    have hturned : Dev.SameWindow d turned := h.withOwd _
    split
    · exact h.withOwd _
    · split
      · exact hturned
      · exact hturned.withOwd _

/-! The stages -/

theorem showSw (h : Dev.SameWindow d e) : Dev.SameWindow d e.showSw := by
  unfold Dev.showSw
  refine h.each _ fun c a _ hc => ?_
  split
  · exact hc.put (g := BPS_STAT_SW a) (by cases a <;> rfl) (fun b => by cases a <;> cases b <;> decide) _
  · exact hc

theorem seeStages (h : Dev.SameWindow d e) : Dev.SameWindow d e.seeStages := by
  unfold Dev.seeStages
  extract_lets live fresh swept was gone
  have hset : Dev.SameWindow d { e with
      bal := { e.bal with live := live, tail := e.bal.tail ++ gone.map (fun n => (n, !was n)), swept := swept }
      win := { e.win with switched := e.win.switched ++ fresh } } :=
    ⟨h.integ, h.opened, h.tick, h.eraL⟩
  exact hset.showSw

theorem balCells (h : Dev.SameWindow d e) : Dev.SameWindow d e.balCells := by
  unfold Dev.balCells
  split
  · exact (h.each _ fun c n _ hc => hc.putHigh (g := BAL_CSTS_STATE n) rfl (by show 1 < 28; decide) _).seeStages
  · exact h.seeStages

theorem tailOpen (h : Dev.SameWindow d e) (within : Bool) : Dev.SameWindow d (e.tailOpen within) := by
  unfold Dev.tailOpen
  extract_lets on
  split
  · exact h.withWin rfl rfl rfl
  · exact (h.withBal _).showSw

theorem quietOpen (h : Dev.SameWindow d e) : Dev.SameWindow d e.quietOpen := h.withWin rfl rfl rfl

theorem sweepOpen (h : Dev.SameWindow d e) : Dev.SameWindow d e.sweepOpen := by
  unfold Dev.sweepOpen
  split
  · exact h.withWin rfl rfl rfl
  · exact h

/-- All that goes on in a window that has opened. -/
theorem windowOpens (h : Dev.SameWindow d e) (ref : Option Closed) (within : Bool) :
    Dev.SameWindow d (e.windowOpens ref within) := by
  unfold Dev.windowOpens
  extract_lets checked sampled
  have hchecked : Dev.SameWindow d checked := (h.quietOpen.owdOpenRun ref).owdOpenCheck
  have hsampled : Dev.SameWindow d sampled := hchecked.each _ fun c a _ hc => hc.auxWindow _ a
  exact ((hsampled.owdOpenProbe _).sweepOpen.balCells).tailOpen within

end Dev.SameWindow

/-! ## A bank starts (R93) -/

/-- A bank that stands is made to integrate, in its next era where it has run before. -/
def Dev.bankStarted (d : Dev) (a : Afe) (atEdge : Bool) : Dev :=
  let w := d.win
  { d.put (CVW_STAT_INTEG a) 1 with win := match a with
    | .L => { w with
      ranL := true, eraL := if w.ranL then (w.eraL + 1) % 256 else w.eraL, brokenL := w.brokenL || !atEdge }
    | .U => { w with
      ranU := true, eraU := if w.ranU then (w.eraU + 1) % 256 else w.eraU, brokenU := w.brokenU || !atEdge } }

theorem Dev.SameWindow.showEras {d e : Dev} (h : Dev.SameWindow d e) : Dev.SameWindow d e.showEras :=
  h.each _ fun c a _ hc => (hc.putHigh (g := CVW_STAT_ERAL a) rfl (by show 1 < 16; decide) _).putHigh
    (g := CVW_STAT_ERAU a) rfl (by show 1 < 24; decide) _

/-- Beside that, a start shows the eras and may raise its event. -/
theorem Dev.startBank_stopped {d : Dev} {a : Afe} (atEdge : Bool) (h : d.integrates a = false) :
    Dev.SameWindow (d.bankStarted a atEdge) (d.startBank a atEdge) := by
  have hshown := (Dev.SameWindow.refl (d.bankStarted a atEdge)).showEras
  unfold Dev.startBank
  rw [if_neg (by simp [h])]
  cases a
  all_goals
    extract_lets put ran _ w shown era
    have hc : Dev.SameWindow (d.bankStarted _ atEdge) shown := hshown
    split
    · exact hc.raise ..
    · exact hc

theorem Dev.bankStarted_get (d : Dev) (a : Afe) (atEdge : Bool) (f : Fld) :
    (d.bankStarted a atEdge).get f = (d.put (CVW_STAT_INTEG a) 1).get f := by
  unfold Dev.bankStarted
  rw [Dev.get_with_win]

theorem Dev.bankStarted_integ (d : Dev) (a : Afe) (atEdge : Bool) :
    (d.bankStarted a atEdge).get (CVW_STAT_INTEG a) = 1 := by
  rw [d.bankStarted_get, Dev.get_put_same _ _ _ rfl]
  rfl

theorem integ_apart : ∀ {a b : Afe}, a ≠ b → (CVW_STAT_INTEG a).apart (CVW_STAT_INTEG b) = true
  | .L, .U, _ => rfl
  | .U, .L, _ => rfl
  | .L, .L, h | .U, .U, h => absurd rfl h

theorem Dev.bankStarted_keeps_integ {d : Dev} {b : Afe} (a : Afe) (atEdge : Bool) (h : d.get (CVW_STAT_INTEG b) = 1) :
    (d.bankStarted a atEdge).get (CVW_STAT_INTEG b) = 1 := by
  by_cases hab : a = b
  · exact hab ▸ d.bankStarted_integ a atEdge
  · rw [d.bankStarted_get, Dev.get_put_apart _ _ _ _ rfl rfl (integ_apart hab), h]

theorem Dev.integrates_iff (d : Dev) (a : Afe) : d.integrates a = true ↔ d.get (CVW_STAT_INTEG a) = 1 := by
  rw [Dev.get_one_bit _ _ rfl, Dev.integrates]
  cases d.bit (CVW_STAT_INTEG a) <;> simp

theorem Dev.startBank_running {d : Dev} {a : Afe} (atEdge : Bool) (h : d.integrates a = true) : d.startBank a atEdge = d := by
  unfold Dev.startBank
  exact if_pos h

/-- A bank integrates after its start. -/
theorem Dev.startBank_integ (d : Dev) (a : Afe) (atEdge : Bool) : (d.startBank a atEdge).get (CVW_STAT_INTEG a) = 1 := by
  cases h : d.integrates a with
  | true => rw [Dev.startBank_running atEdge h]; exact (d.integrates_iff a).1 h
  | false => exact ((Dev.startBank_stopped atEdge h).integ a).trans (d.bankStarted_integ a atEdge)

/-- The start of a bank stops no other, and leaves the window in progress where it is. -/
theorem Dev.startBank_keeps (d : Dev) (a : Afe) (atEdge : Bool) :
    (∀ b, d.get (CVW_STAT_INTEG b) = 1 → (d.startBank a atEdge).get (CVW_STAT_INTEG b) = 1)
    ∧ (d.startBank a atEdge).win.opened = d.win.opened ∧ (d.startBank a atEdge).win.openTick = d.win.openTick
    ∧ (a = .U → (d.startBank a atEdge).win.eraL = d.win.eraL) := by
  cases h : d.integrates a with
  | true => rw [Dev.startBank_running atEdge h]; exact ⟨fun _ hb => hb, rfl, rfl, fun _ => rfl⟩
  | false =>
    have hs := Dev.startBank_stopped atEdge h
    refine ⟨fun b hb => (hs.integ b).trans (Dev.bankStarted_keeps_integ a atEdge hb), hs.opened.trans ?_, hs.tick.trans ?_, ?_⟩
    · cases a <;> rfl
    · cases a <;> rfl
    · rintro rfl
      exact hs.eraL

/-- A start of bank L that has run before is the next era. -/
theorem Dev.startBank_eraL {d : Dev} (atEdge : Bool) (h : d.integrates .L = false) :
    (d.startBank .L atEdge).win.eraL = if d.win.ranL then (d.win.eraL + 1) % 256 else d.win.eraL :=
  (Dev.startBank_stopped atEdge h).eraL

/-! ## INTEGRATION_START -/

/-- The banks whose converters are wanted and stand. -/
def Dev.toStart (d : Dev) : List Afe := d.banks.filter (fun a => d.convWanted a && !d.integrates a)

/-- The device at the edge of the start, with a window in progress. -/
def Dev.atStart (d : Dev) (m : Nat) : Dev := if d.win.opened then d.advanceTo m else (d.advanceTo m).openWindow

/-- The banks wanted have started. -/
def Dev.banksStarted (d : Dev) (m : Nat) : Dev := (d.atStart m).each d.toStart (fun e a => e.startBank a (!d.win.opened))

/-- The device after an integration start. -/
def Dev.integrationStarted (d : Dev) (m : Nat) : Dev :=
  if d.win.opened then (d.banksStarted m).balCells else (d.banksStarted m).windowOpens none (d.banksStarted m).inPeriod

theorem integrationStartDev_starts {d : Dev} {m : Nat} (hm : d.monitoring = true) (ht : d.mtick ≤ m)
    (hs : ∃ a ∈ d.banks, d.convWanted a = true ∧ d.integrates a = false)
    (hw : d.win.opened = true → (m : Int) ≤ d.nextBoundary) :
    integrationStartDev m d = d.integrationStarted m := by
  have hbad : ¬ (!d.monitoring ∨ m < d.mtick ∨ (d.win.opened ∧ d.nextBoundary < (m : Int))) := by
    rintro (h | h | ⟨ho, h⟩)
    · simp [hm] at h
    · omega
    · have := hw ho
      omega
  have hany : d.toStart.isEmpty = false := by
    obtain ⟨a, ha, hc, hi⟩ := hs
    exact List.isEmpty_eq_false_iff_exists_mem.2 ⟨a, List.mem_filter.2 ⟨ha, by simp [hc, hi]⟩⟩
  unfold integrationStartDev
  rw [if_neg hbad]
  exact if_neg (by simpa [Dev.toStart] using hany)

/-- The work that follows the start leaves what the start has brought about. -/
theorem Dev.banksStarted_same (d : Dev) (m : Nat) : Dev.SameWindow (d.banksStarted m) (d.integrationStarted m) := by
  unfold Dev.integrationStarted
  split
  · exact (Dev.SameWindow.refl _).balCells
  · exact (Dev.SameWindow.refl _).windowOpens none _

theorem Dev.integrationStarted_grow (d : Dev) (m : Nat) : Dev.Grow (d.advanceTo m) (d.integrationStarted m) := by
  have hat : Dev.Grow (d.advanceTo m) (d.atStart m) := by
    unfold Dev.atStart
    split
    · exact Dev.Grow.refl _
    · exact (Dev.Grow.refl _).openWindow
  have hst : Dev.Grow (d.advanceTo m) (d.banksStarted m) := hat.each _ _ fun _ _ hc => hc.startBank _ _
  unfold Dev.integrationStarted
  split
  · exact hst.balCells
  · exact hst.windowOpens none _

theorem Dev.atStart_get (d : Dev) (m : Nat) (f : Fld) : (d.atStart m).get f = d.get f := by
  unfold Dev.atStart
  split <;> rfl

theorem Dev.atStart_opened (d : Dev) (m : Nat) : (d.atStart m).win.opened = true := by
  unfold Dev.atStart
  split
  · assumption
  · rfl

theorem Dev.atStart_openTick {d : Dev} {m : Nat} (h : d.win.opened = false) (ht : d.mtick ≤ m) :
    (d.atStart m).win.openTick = m := by
  unfold Dev.atStart
  rw [if_neg (by simp [h])]
  exact congrArg Nat.cast (max_eq_left ht)

theorem Dev.atStart_eras (d : Dev) (m : Nat) :
    (d.atStart m).win.ranL = d.win.ranL ∧ (d.atStart m).win.eraL = d.win.eraL := by
  unfold Dev.atStart
  split <;> exact ⟨rfl, rfl⟩

/-- What each start of a bank keeps holds after all of them. -/
theorem Dev.banksStarted_of_step {d : Dev} {m : Nat} {P : Dev → Prop} (h : P (d.atStart m))
    (hstep : ∀ c a, P c → P (c.startBank a (!d.win.opened))) : P (d.banksStarted m) :=
  List.foldlRecOn _ _ h fun c hc a _ => hstep c a hc

theorem Dev.banksStarted_opened (d : Dev) (m : Nat) : (d.banksStarted m).win.opened = true :=
  Dev.banksStarted_of_step (P := fun c => c.win.opened = true) (d.atStart_opened m) fun c a hc =>
    (c.startBank_keeps a _).2.1.trans hc

theorem Dev.banksStarted_openTick {d : Dev} {m : Nat} (h : d.win.opened = false) (ht : d.mtick ≤ m) :
    (d.banksStarted m).win.openTick = m :=
  Dev.banksStarted_of_step (P := fun c => c.win.openTick = m) (Dev.atStart_openTick h ht) fun c a hc =>
    (c.startBank_keeps a _).2.2.1.trans hc

/-- Every bank whose converters are wanted integrates. -/
theorem Dev.banksStarted_integ {d : Dev} (m : Nat) {a : Afe} (ha : a ∈ d.banks) (hc : d.convWanted a = true) :
    (d.banksStarted m).get (CVW_STAT_INTEG a) = 1 := by
  have hkeep (c : Dev) (b : Afe) (h : c.get (CVW_STAT_INTEG a) = 1) :
      (c.startBank b (!d.win.opened)).get (CVW_STAT_INTEG a) = 1 := (c.startBank_keeps b _).1 a h
  cases hi : d.integrates a with
  | true =>
    exact Dev.banksStarted_of_step (P := fun c => c.get (CVW_STAT_INTEG a) = 1)
      ((d.atStart_get m _).trans ((d.integrates_iff a).1 hi)) hkeep
  | false =>
    have hmem : a ∈ d.toStart := List.mem_filter.2 ⟨ha, by simp [hc, hi]⟩
    exact foldl_sets (P := fun c : Dev => c.get (CVW_STAT_INTEG a) = 1) _ hmem (fun c => c.startBank_integ a _)
      fun c h b _ => hkeep c b h

/-- Bank L comes first of those that start. -/
theorem Dev.toStart_eq_cons {d : Dev} (ha : Afe.L ∈ d.banks) (hc : d.convWanted .L = true) (hi : d.integrates .L = false) :
    ∃ l, d.toStart = .L :: l ∧ ∀ a ∈ l, a = .U := by
  have hlive : d.dead (afeDie .L) = false := by simpa using (List.mem_filter.1 ha).2
  obtain ⟨l, hl, hu⟩ : ∃ l, d.fitted = .L :: l ∧ ∀ a ∈ l, a = Afe.U := by
    unfold Dev.fitted
    split
    · exact ⟨[.U], rfl, by simp⟩
    · exact ⟨[], rfl, by simp⟩
  refine ⟨(l.filter (fun a => !d.dead (afeDie a))).filter (fun a => d.convWanted a && !d.integrates a), ?_, fun a h =>
    hu a (List.mem_filter.1 (List.mem_filter.1 h).1).1⟩
  simp [Dev.toStart, Dev.banks, hl, hlive, hc, hi]

/-- The start of bank L alone moves its era on. -/
theorem Dev.banksStarted_eraL {d : Dev} (m : Nat) (ha : Afe.L ∈ d.banks) (hc : d.convWanted .L = true)
    (hi : d.integrates .L = false) :
    (d.banksStarted m).win.eraL = if d.win.ranL then (d.win.eraL + 1) % 256 else d.win.eraL := by
  obtain ⟨l, hl, hu⟩ := Dev.toStart_eq_cons ha hc hi
  have hstopped : (d.atStart m).integrates .L = false := by
    rw [Dev.integrates, Dev.bit, Dev.atStart_get]
    exact hi
  obtain ⟨hran, hera⟩ := d.atStart_eras m
  unfold Dev.banksStarted
  rw [hl]
  refine List.foldlRecOn l _ (motive := fun c : Dev => c.win.eraL = _) ?_ fun c h a hal =>
    ((c.startBank_keeps a _).2.2.2 (hu a hal)).trans h
  rw [Dev.startBank_eraL _ hstopped, hran, hera]

/-- Settles O17: the banks start one by one, each keeping what the others have brought about, and the work of the window
that opens leaves all of it. -/
theorem integrationAndBoundaryComplete : Obligations.IntegrationAndBoundaryComplete := by
  unfold Obligations.IntegrationAndBoundaryComplete
  refine ⟨fun d q m hset hmon ht hs htrain hw => ?_, fun d q w hset hmon ho hb ht => ?_⟩
  · have hrun : integrationStartDev m
        (d.when (d.monitoring && !d.win.opened && decide (d.mtick ≤ m) && d.banks.any d.convWanted) Dev.evalTrain)
        = d.integrationStarted m := by
      rw [Dev.when, htrain, ite_self]
      exact integrationStartDev_starts hmon ht hs hw
    have hg := d.integrationStarted_grow m
    have hsame := d.banksStarted_same m
    refine ⟨_, State.lift_runs d q _ _ hrun (hg.asks.trans hset) hg.build hg.role hg.fz, hg.mtick.trans (max_eq_left ht),
      hsame.opened.trans (d.banksStarted_opened m), fun a ha hc => (hsame.integ a).trans (Dev.banksStarted_integ m ha hc),
      fun ho => hsame.tick.trans (Dev.banksStarted_openTick ho ht),
      fun ha hc hi => hsame.eraL.trans (Dev.banksStarted_eraL m ha hc hi)⟩
  · have hg := Dev.Grow.boundary w (Dev.Grow.refl (d.advanceTo w.mtick))
    refine ⟨State.lift_runs d q _ _ ?_ (hg.asks.trans hset) hg.build hg.role hg.fz, hg.mtick.trans (max_eq_left ht)⟩
    rw [fastWindowBoundaryDev, if_pos ⟨ho, hb, ht, .inl hmon⟩, if_pos hmon]

end Sys2Proof.Machine
end

section
/-!
SUPPORT. The aux converter of a die (05, R130 to R145): what a trigger, the steps of an entry, an urgent request and a
plausibility slot come to.
-/

namespace Sys2Proof.Machine

/-! ## The state of the converter -/

@[simp] theorem Dev.aux_setAux (d : Dev) (a : Afe) (x : AuxSt) : (d.setAux a x).aux a = x := by cases a <;> rfl
@[simp] theorem Dev.aux_put (d : Dev) (a : Afe) (f : Fld) (v : Nat) : (d.put f v).aux a = d.aux a := by cases a <;> rfl
@[simp] theorem Dev.aux_putB (d : Dev) (a : Afe) (f : Fld) (b : Bool) : (d.putB f b).aux a = d.aux a := Dev.aux_put ..
@[simp] theorem Dev.aux_countSat (d : Dev) (a : Afe) (f : Fld) (n : Nat) : (d.countSat f n).aux a = d.aux a :=
  Dev.aux_put ..
@[simp] theorem Dev.aux_raise (d : Dev) (a : Afe) (code src : Nat) (items : List Nat) :
    (d.raise code src items).aux a = d.aux a := by cases a <;> simp [Dev.aux]
@[simp] theorem Dev.aux_commandDone (d : Dev) (a : Afe) : d.commandDone.aux a = d.aux a := by cases a <;> simp [Dev.aux]
@[simp] theorem Dev.aux_advanceTo (d : Dev) (a : Afe) (m : Nat) : (d.advanceTo m).aux a = d.aux a := by cases a <;> rfl

@[simp] theorem Dev.get_setAux (d : Dev) (a : Afe) (x : AuxSt) (f : Fld) : (d.setAux a x).get f = d.get f := by
  cases a <;> rfl
@[simp] theorem Dev.bit_setAux (d : Dev) (a : Afe) (x : AuxSt) (f : Fld) : (d.setAux a x).bit f = d.bit f := by
  cases a <;> rfl
@[simp] theorem Dev.mtick_setAux (d : Dev) (a : Afe) (x : AuxSt) : (d.setAux a x).mtick = d.mtick := by cases a <;> rfl

/-! ## Whether the converter runs (R125, R136) -/

/-- Power, image, fitted dies and PWR_STAT tell whether a converter runs. -/
theorem Dev.auxUp_congr {d e : Dev} (a : Afe) (hb : e.build = d.build) (hr : e.role = d.role) (hp : e.pw = d.pw)
    (hf : e.fw = d.fw) (hw : e.word PWR_STAT_CUR.addr = d.word PWR_STAT_CUR.addr) : e.auxUp a = d.auxUp a := by
  have hcur : e.get PWR_STAT_CUR = d.get PWR_STAT_CUR := by rw [Dev.get, hw]; rfl
  have hbase : e.get PWR_STAT_BASE = d.get PWR_STAT_BASE := congrArg (fun w => bitsOf w _ _) hw
  have hlevel : e.level = d.level := by simp only [Dev.level, Dev.cur, hcur, hbase]
  have hbanks : e.banks = d.banks := by simp only [Dev.banks, Dev.fitted, Dev.dead, hb, hr, hp]
  simp only [Dev.auxUp, Dev.mclkOn, hp, hf, hlevel, hbanks]

theorem Dev.inCal_congr {d e : Dev} (a : Afe) (hw : e.word PWR_STAT_CUR.addr = d.word PWR_STAT_CUR.addr) :
    e.inCal a = d.inCal a := by
  have hbank : e.get PWR_STAT_CALBANK = d.get PWR_STAT_CALBANK := congrArg (fun w => bitsOf w _ _) hw
  unfold Dev.inCal
  rw [hbank]

@[simp] theorem Dev.auxUp_setAux (d : Dev) (a b : Afe) (x : AuxSt) : (d.setAux a x).auxUp b = d.auxUp b := by
  cases a <;> exact Dev.auxUp_congr b rfl rfl rfl rfl rfl

theorem Dev.auxUp_put (d : Dev) (a : Afe) {f : Fld} (v : Nat) (hf : PWR_STAT_CUR.addr ≠ f.addr) :
    (d.put f v).auxUp a = d.auxUp a := Dev.auxUp_congr a rfl rfl rfl rfl (Dev.word_put_other _ _ _ _ hf)

theorem Dev.inCal_put (d : Dev) (a : Afe) {f : Fld} (v : Nat) (hf : PWR_STAT_CUR.addr ≠ f.addr) :
    (d.put f v).inCal a = d.inCal a := Dev.inCal_congr a (Dev.word_put_other _ _ _ _ hf)

@[simp] theorem Dev.auxUp_raise (d : Dev) (a : Afe) (code src : Nat) (items : List Nat) :
    (d.raise code src items).auxUp a = d.auxUp a :=
  Dev.auxUp_congr a (by simp) (by simp) (by simp) (by simp) (Dev.raise_word _ _ _ _ _ (by decide))

@[simp] theorem Dev.inCal_raise (d : Dev) (a : Afe) (code src : Nat) (items : List Nat) :
    (d.raise code src items).inCal a = d.inCal a := Dev.inCal_congr a (Dev.raise_word _ _ _ _ _ (by decide))

theorem Dev.auxUp_banks {d : Dev} {a : Afe} (h : d.auxUp a = true) : d.banks.contains a = true :=
  (Bool.and_eq_true_iff.1 h).2

theorem Dev.auxRun_iff (d : Dev) (a : Afe) :
    d.auxRun a = true ↔ d.auxUp a = true ∧ d.bit (AUX_CTRL_EN a) = true ∧ (d.aux a).left ≠ some 0 := by
  simp [Dev.auxRun, and_assoc]

/-! ## The sequencer's phase (R130 to R136) -/

@[simp] theorem Dev.aux_auxTo (d : Dev) (a : Afe) (ph : AuxPhase) :
    (d.auxTo a ph).aux a = { d.aux a with phase := ph } := by
  unfold Dev.auxTo
  extract_lets src moved wait conv shown
  have hshown : shown.aux a = { d.aux a with phase := ph } :=
    ((Dev.aux_putB ..).trans (Dev.aux_putB ..)).trans (Dev.aux_setAux ..)
  split
  iterate 3 exact (Dev.aux_put ..).trans hshown
  exact hshown

theorem Dev.auxTo_done (d : Dev) (a : Afe) (ph : AuxPhase) :
    (d.auxTo a ph).get (AUX_STAT_DONE a) = d.get (AUX_STAT_DONE a) := by
  have hput (e : Dev) {f : Fld} (v : Nat) (hf : f ∈ [AUX_STAT_WAIT a, AUX_STAT_BUSY a, AUX_STAT_ENTRY a]) :
      (e.put f v).get (AUX_STAT_DONE a) = e.get (AUX_STAT_DONE a) :=
    Dev.get_put_apart _ _ _ _ (by revert f; cases a <;> decide) rfl (by revert f; cases a <;> decide)
  unfold Dev.auxTo
  extract_lets src moved wait conv shown
  have hshown : shown.get (AUX_STAT_DONE a) = d.get (AUX_STAT_DONE a) :=
    ((hput _ _ (by simp)).trans (hput _ _ (by simp))).trans (Dev.get_setAux ..)
  split
  iterate 3 exact (hput _ _ (by simp)).trans hshown
  exact hshown

/-- A sequencer that may run leaves its stop and waits for a pass. -/
theorem Dev.auxSettle_stopped {d : Dev} {a : Afe} (hp : (d.aux a).phase = .stopped) (hr : d.auxRun a = true) :
    d.auxSettle a = d.auxTo a .waitPass := by
  unfold Dev.auxSettle
  rw [hp]
  exact if_pos hr

theorem Dev.auxEntry_runs {d : Dev} {a : Afe} (k : Nat) (hr : d.auxRun a = true) (hc : d.inCal a = false) :
    d.auxEntry a k = d.auxTo a (if d.bit (AUX_ENTA_WAITTRG a k) then .waitEntry k else .dly k) := by
  unfold Dev.auxEntry
  rw [if_neg (by simp [hr]), if_neg (by simp [hc])]
  split <;> rfl

/-! ## Triggers (R132 to R134) -/

theorem Dev.auxTrigger_waitPass {d : Dev} {a : Afe} (hp : (d.aux a).phase = .waitPass) :
    d.auxTrigger a = d.auxTo a .delay := by
  unfold Dev.auxTrigger
  rw [hp]

theorem Dev.auxTrigger_waitEntry {d : Dev} {a : Afe} {k : Nat} (hp : (d.aux a).phase = .waitEntry k) :
    d.auxTrigger a = d.auxTo a (.dly k) := by
  unfold Dev.auxTrigger
  rw [hp]

/-- A trigger during an entry's conversions is missed; with misses counted already, it raises nothing. -/
theorem Dev.auxTrigger_missed {d : Dev} {a : Afe} {k : Nat} (hp : (d.aux a).phase = .conv k)
    (hd : d.bit (AUX_STAT_DONE a) = false) (hm : d.get (AUX_TMISS a) ≠ 0) :
    d.auxTrigger a = d.countSat (AUX_TMISS a) 1 := by
  unfold Dev.auxTrigger
  rw [hp]
  dsimp only
  rw [if_neg (by simp [hd]), if_neg (by simp [hm])]

theorem auxGoDev_trigger {d : Dev} {a : Afe} (hb : a ∈ d.banks) (hd : d.bit (AUX_STAT_DONE a) = false) :
    auxGoDev a d = d.auxTrigger a := by
  unfold auxGoDev
  rw [if_neg (by simpa using hb)]
  dsimp only
  rw [if_neg (by simp [hd])]

/-- The device with its LOOP passes to run anew. -/
def Dev.auxReloaded (d : Dev) (a : Afe) : Dev :=
  (d.setAux a { d.aux a with left := d.auxLoop a }).put (AUX_STAT_DONE a) 0

theorem Dev.auxReloaded_aux (d : Dev) (a : Afe) : (d.auxReloaded a).aux a = { d.aux a with left := d.auxLoop a } := by
  simp [Dev.auxReloaded]

/-- LOOP is a count of at least one pass, or endless. -/
theorem Dev.auxLoop_ne_zero (d : Dev) (a : Afe) : d.auxLoop a ≠ some 0 := by
  unfold Dev.auxLoop
  split <;> simp_all

theorem Dev.auxReloaded_run {d : Dev} {a : Afe} (hup : d.auxUp a = true) (hen : d.bit (AUX_CTRL_EN a) = true) :
    (d.auxReloaded a).auxRun a = true := by
  refine (Dev.auxRun_iff _ a).2 ⟨?_, ?_, ?_⟩
  · exact ((Dev.auxUp_put _ a 0 (by cases a <;> decide)).trans (Dev.auxUp_setAux ..)).trans hup
  · exact ((Dev.bit_put_apart _ _ _ _ rfl rfl (by cases a <;> decide)).trans
      (Dev.bit_setAux ..)).trans hen
  · rw [Dev.auxReloaded_aux]
    exact d.auxLoop_ne_zero a

/-- GO after DONE: the passes are loaded, and the write is the trigger of the first of them (R132, R134). -/
theorem auxGoDev_restart {d : Dev} {a : Afe} (hup : d.auxUp a = true) (hen : d.bit (AUX_CTRL_EN a) = true)
    (hd : d.bit (AUX_STAT_DONE a) = true) (hp : (d.aux a).phase = .stopped) :
    auxGoDev a d = ((d.auxReloaded a).auxTo a .waitPass).auxTo a .delay := by
  have hsettle : (d.auxReloaded a).auxSettle a = (d.auxReloaded a).auxTo a .waitPass :=
    Dev.auxSettle_stopped (by rw [Dev.auxReloaded_aux]; exact hp) (Dev.auxReloaded_run hup hen)
  unfold auxGoDev
  rw [if_neg (by rw [Dev.auxUp_banks hup]; decide)]
  dsimp only
  rw [if_pos hd]
  exact (congrArg (Dev.auxTrigger · a) hsettle).trans (Dev.auxTrigger_waitPass (by simp))

/-- AUX_GO of a sequencer that has passes left. -/
theorem exec_auxGo_trigger {d e : Dev} (q : List Instr) {a : Afe} (h : d.accepts (AUX_CTRL_GO a)) (hb : a ∈ d.banks)
    (hd : d.bit (AUX_STAT_DONE a) = false) (he : d.auxTrigger a = e) (hg : Dev.Grow d e) :
    exec (.auxGo a) ⟨d, q⟩ = .next ⟨e.commandDone, q⟩ :=
  State.lift_takes_grow q h ((auxGoDev_trigger hb hd).trans he) hg

/-- AUX_GO of a sequencer whose passes have completed. -/
theorem exec_auxGo_restart {d : Dev} (q : List Instr) {a : Afe} (h : d.accepts (AUX_CTRL_GO a)) (hup : d.auxUp a = true)
    (hen : d.bit (AUX_CTRL_EN a) = true) (hd : d.bit (AUX_STAT_DONE a) = true) (hp : (d.aux a).phase = .stopped) :
    ∃ t, exec (.auxGo a) ⟨d, q⟩ = .next t ∧ (t.dev.aux a).phase = .delay ∧ (t.dev.aux a).left = d.auxLoop a
      ∧ t.dev.get (AUX_STAT_DONE a) = 0 := by
  have hg : Dev.Grow d (((d.auxReloaded a).auxTo a .waitPass).auxTo a .delay) :=
    ((((Dev.Grow.refl d).setAux a _).put ..).auxTo a _).auxTo a _
  refine ⟨_, State.lift_takes_grow q h (auxGoDev_restart hup hen hd hp) hg, by simp, by simp [Dev.auxReloaded_aux], ?_⟩
  rw [Dev.commandDone_get _ _ (by cases a <;> decide), Dev.auxTo_done, Dev.auxTo_done]
  exact (Dev.get_put_same _ _ _ rfl).trans (Nat.zero_mod _)

/-! ## EN (R135) -/

theorem auxEnableDev_up {d : Dev} {a : Afe} (en : Bool) (h : d.auxUp a = true) :
    auxEnableDev a en d = if en then (d.putB (AUX_CTRL_EN a) en).auxSettle a else (d.putB (AUX_CTRL_EN a) en).auxStop a := by
  unfold auxEnableDev
  rw [if_neg (by rw [Dev.auxUp_banks h]; decide)]

theorem auxEnableDev_starts {d : Dev} {a : Afe} (h : d.auxUp a = true) (hp : (d.aux a).phase = .stopped)
    (hl : (d.aux a).left ≠ some 0) : auxEnableDev a true d = (d.put (AUX_CTRL_EN a) 1).auxTo a .waitPass := by
  have hrun : (d.put (AUX_CTRL_EN a) 1).auxRun a = true := (Dev.auxRun_iff _ a).2
    ⟨(Dev.auxUp_put d a 1 (by cases a <;> decide)).trans h, Dev.bit_put_same _ _ _ rfl, by simpa using hl⟩
  rw [auxEnableDev_up _ h]
  exact Dev.auxSettle_stopped (by simpa using hp) hrun

theorem auxEnableDev_stops {d : Dev} {a : Afe} (h : d.auxUp a = true) (hp : (d.aux a).phase.inEntry = false) :
    auxEnableDev a false d = (d.put (AUX_CTRL_EN a) 0).auxTo a .stopped := by
  rw [auxEnableDev_up _ h, if_neg (by decide), Dev.auxStop, if_neg (by simp [hp])]
  rfl

/-- An entry in progress finishes before the sequencer stops. -/
theorem auxEnableDev_halts {d : Dev} {a : Afe} (h : d.auxUp a = true) (hp : (d.aux a).phase.inEntry = true) :
    auxEnableDev a false d = (d.put (AUX_CTRL_EN a) 0).setAux a { d.aux a with halt := true } := by
  rw [auxEnableDev_up _ h, if_neg (by decide), Dev.auxStop, if_pos (by simpa using hp), Dev.aux_putB]
  rfl

/-- AUX_ENABLE: it starts a sequencer with passes left, stops one that waits, and lets an entry finish. -/
theorem exec_auxEnable {d : Dev} (q : List Instr) {a : Afe} (h : d.accepts (AUX_CTRL_EN a)) (hup : d.auxUp a = true) :
    ((d.aux a).phase = .stopped → (d.aux a).left ≠ some 0 →
      exec (.auxEnable a true) ⟨d, q⟩ = .next ⟨((d.put (AUX_CTRL_EN a) 1).auxTo a .waitPass).commandDone, q⟩)
    ∧ ((d.aux a).phase = .waitPass →
      exec (.auxEnable a false) ⟨d, q⟩ = .next ⟨((d.put (AUX_CTRL_EN a) 0).auxTo a .stopped).commandDone, q⟩)
    ∧ (∀ k, (d.aux a).phase = .conv k → exec (.auxEnable a false) ⟨d, q⟩
      = .next ⟨((d.put (AUX_CTRL_EN a) 0).setAux a { d.aux a with halt := true }).commandDone, q⟩) := by
  have hput (v : Nat) : Dev.Grow d (d.put (AUX_CTRL_EN a) v) := (Dev.Grow.refl d).put ..
  refine ⟨fun hp hl => ?_, fun hp => ?_, fun k hp => ?_⟩
  · exact State.lift_takes_grow q h (auxEnableDev_starts hup hp hl) ((hput 1).auxTo a _)
  · exact State.lift_takes_grow q h (auxEnableDev_stops hup (by rw [hp]; rfl)) ((hput 0).auxTo a _)
  · exact State.lift_takes_grow q h (auxEnableDev_halts hup (by rw [hp]; rfl)) ((hput 0).setAux a _)

/-! ## Trigger events of a source (Table 5-3) -/

/-- An event of the source selected, where it can occur: TDIV divides it, but for the timer. -/
theorem auxTriggerEventDev_occurs {d : Dev} {a : Afe} {src : AuxSrc} (hs : d.get (AUX_TRIG_SRC a) = auxSrcCode src)
    (hup : d.auxUp a = true) (hext : src = .extpwm → a = .L ∧ d.get (AUX_TRIG_EDGE a) ≠ 0)
    (hbsw : src = .bsw → d.bit (BPS_STAT_SW a) = true) :
    auxTriggerEventDev a src d = if src = .timer ∨ d.get (AUX_TRIG_TDIV a) ≤ (d.aux a).div
      then (d.setAux a { d.aux a with div := 0 }).auxTrigger a
      else d.setAux a { d.aux a with div := (d.aux a).div + 1 } := by
  unfold auxTriggerEventDev
  refine if_neg ?_
  rintro (h | h | ⟨h, h'⟩ | ⟨h, h'⟩)
  · exact h hs
  · simp [hup] at h
  · obtain ⟨hL, hedge⟩ := hext h
    rcases h' with hU | h0
    · cases hU.symm.trans hL
    · exact hedge h0
  · simp [hbsw h] at h'

/-- AUX_TRIGGER_EVENT at a sequencer that waits for a pass: the pass is scheduled, or the event is divided. -/
theorem exec_auxTriggerEvent {d : Dev} (q : List Instr) {a : Afe} {src : AuxSrc} (hset : d.settled)
    (hs : d.get (AUX_TRIG_SRC a) = auxSrcCode src) (hrun : d.auxRun a = true)
    (hext : src = .extpwm → a = .L ∧ d.get (AUX_TRIG_EDGE a) ≠ 0) (hbsw : src = .bsw → d.bit (BPS_STAT_SW a) = true)
    (hp : (d.aux a).phase = .waitPass) :
    (src = .timer ∨ d.get (AUX_TRIG_TDIV a) ≤ (d.aux a).div →
      exec (.auxTriggerEvent a src) ⟨d, q⟩ = .next ⟨(d.setAux a { d.aux a with div := 0 }).auxTo a .delay, q⟩)
    ∧ (src ≠ .timer → (d.aux a).div < d.get (AUX_TRIG_TDIV a) →
      exec (.auxTriggerEvent a src) ⟨d, q⟩ = .next ⟨d.setAux a { d.aux a with div := (d.aux a).div + 1 }, q⟩) := by
  have hocc := auxTriggerEventDev_occurs hs ((d.auxRun_iff a).1 hrun).1 hext hbsw
  constructor
  · intro hcounts
    refine State.lift_grow q hset (hocc.trans ?_) (((Dev.Grow.refl d).setAux a _).auxTo a _)
    rw [if_pos hcounts, Dev.auxTrigger_waitPass (by simpa using hp)]
  · intro htimer hdiv
    refine State.lift_grow q hset (hocc.trans (if_neg ?_)) ((Dev.Grow.refl d).setAux a _)
    rintro (h | h)
    · exact htimer h
    · omega

/-- The flyback clock of the bank stands still: BSW produces no event. -/
theorem exec_auxTriggerEvent_still {d : Dev} (q : List Instr) {a : Afe} (hset : d.settled)
    (hsw : d.bit (BPS_STAT_SW a) = false) : exec (.auxTriggerEvent a .bsw) ⟨d, q⟩ = .next ⟨d, q⟩ :=
  State.lift_grow q hset (if_pos (.inr (.inr (.inr ⟨rfl, by simp [hsw]⟩)))) (Dev.Grow.refl d)

/-! ## The start of a pass (R130, R132) -/

theorem Dev.evalGroup_idle {d : Dev} {base g : Nat} (h : d.pend base g = false) : d.evalGroup base g = d := by
  unfold Dev.evalGroup
  split
  · exact if_pos (by simp [h])
  · rfl

/-- A block other than CVW of AFE-L with no pending group has nothing to evaluate. -/
theorem Dev.evalBlock_idle {d : Dev} {base : Nat} (hb : base ≠ afeBase .L) (h : ∀ g, d.pend base g = false) :
    d.evalBlock base = d := by
  unfold Dev.evalBlock
  split
  · rw [Dev.noteBoundary, if_neg (fun hc => hb hc.1)]
    refine List.foldlRecOn (motive := (· = d)) _ _ rfl fun e he g _ => ?_
    subst he
    exact (congrArg (ite _ _) (Dev.evalGroup_idle (h g))).trans (ite_self _)
  · rfl

/-- AUX_PASS_START of a die outside calibration with nothing pending. -/
theorem exec_auxPassStart {d : Dev} (q : List Instr) {a : Afe} (hset : d.settled) (hp : (d.aux a).phase = .delay)
    (hrun : d.auxRun a = true) (hcal : d.inCal a = false) (hpend : ∀ g, d.pend (auxBase a) g = false) :
    exec (.auxPassStart a) ⟨d, q⟩
      = .next ⟨d.auxTo a (if d.bit (AUX_ENTA_WAITTRG a 0) then .waitEntry 0 else .dly 0), q⟩ := by
  refine State.lift_grow q hset ?_ ((Dev.Grow.refl d).auxTo a _)
  rw [hp]
  dsimp only
  rw [Dev.evalBlock_idle (by cases a <;> decide) hpend, Dev.auxBeginPass, hp]
  exact Dev.auxEntry_runs 0 hrun hcal

/-! ## Commands that carry their MTICK -/

@[simp] theorem Dev.aux_atTick (d : Dev) (a : Afe) (m : Nat) : (d.atTick m).aux a = d.aux a := by
  unfold Dev.atTick
  split
  · exact Dev.aux_advanceTo ..
  · rfl

@[simp] theorem Dev.get_atTick (d : Dev) (m : Nat) (f : Fld) : (d.atTick m).get f = d.get f := by
  unfold Dev.atTick
  split <;> rfl

/-- Time moves on; the device asks for nothing by it, and stays the part it is. -/
theorem Dev.atTick_keeps (d : Dev) (m : Nat) : (d.atTick m).asks = d.asks ∧ (d.atTick m).build = d.build
    ∧ (d.atTick m).role = d.role ∧ (d.atTick m).fz = d.fz := by
  unfold Dev.atTick
  split <;> exact ⟨rfl, rfl, rfl, rfl⟩

/-- An effect from the MTICK a command carries on that keeps what `Dev.Grow` names, lifted: it is the command's. -/
theorem State.lift_atTick {d : Dev} (q : List Instr) {f : Dev → Dev} {e : Dev} (m : Nat) (hs : d.settled) (he : f d = e)
    (hg : Dev.Grow (d.atTick m) e) : (⟨d, q⟩ : State).lift f = .next ⟨e, q⟩ := by
  obtain ⟨hasks, hbuild, hrole, hfz⟩ := d.atTick_keeps m
  exact State.lift_runs d q f e he ((hg.asks.trans hasks).trans hs) (hg.build.trans hbuild) (hg.role.trans hrole)
    (hg.fz.trans hfz)

/-! ## The start of an entry (R130, R140) -/

/-- With no request in progress and no slots in the window, the SAR takes the entry at once. -/
theorem Dev.auxStart_free {d : Dev} {a : Afe} (k : Nat) (hu : (d.aux a).urgent = none) (hp : (d.aux a).plaus = none) :
    d.auxStart a k = (d.setAux a { d.aux a with
      prev := some (d.get (AUX_ENTA_INPUT a k), d.get (AUX_ENTB_SEL a k)) }).auxTo a (.conv k) := by
  unfold Dev.auxStart
  dsimp only
  rw [if_neg (by simp [hu]), hp]

theorem Dev.auxStart_waits {d : Dev} {a : Afe} (k : Nat) (hu : (d.aux a).urgent.isSome = true) :
    d.auxStart a k = d.auxTo a (.ready k) := if_pos hu

theorem Dev.Kin.auxStart (d : Dev) (a : Afe) (k : Nat) : Dev.Kin d (d.auxStart a k) := by
  unfold Dev.auxStart
  extract_lets x go
  have hgo (c : Dev) (hc : Dev.Kin d c) : Dev.Kin d (go c) :=
    (hc.trans (Dev.Kin.setAux ..)).trans (Dev.Kin.auxTo ..)
  split
  · exact Dev.Kin.auxTo ..
  · split
    · exact hgo _ (Dev.Kin.refl d)
    · refine Dev.Kin.ite (hgo _ (Dev.Kin.refl d)) (Dev.Kin.ite (Dev.Kin.auxTo ..) ?_)
      exact Dev.Kin.ite (hgo _ (Dev.Kin.setAux ..)) (hgo _ (Dev.Kin.setAux ..))

/-- The start of an entry leaves an urgent request as it is. -/
theorem Dev.auxStart_urgent (d : Dev) (a : Afe) (k : Nat) : ((d.auxStart a k).aux a).urgent = (d.aux a).urgent := by
  unfold Dev.auxStart
  extract_lets x go
  have hgo (c : Dev) : ((go c).aux a).urgent = (c.aux a).urgent := by simp [go]
  have hite {c : Prop} [Decidable c] {y z : Dev} (hy : (y.aux a).urgent = (d.aux a).urgent)
      (hz : (z.aux a).urgent = (d.aux a).urgent) : ((if c then y else z).aux a).urgent = (d.aux a).urgent := by
    split <;> assumption
  have hset (y : AuxSt) (hy : y.urgent = (d.aux a).urgent) : ((go (d.setAux a y)).aux a).urgent = (d.aux a).urgent := by
    rw [hgo, Dev.aux_setAux, hy]
  refine hite (by simp) ?_
  split
  · exact hgo d
  · exact hite (hgo d) (hite (by simp) (hite (hset _ rfl) (hset _ rfl)))

/-- AUX_DLY_EXPIRY: the SAR starts the entry, or the entry waits for the request in progress. -/
theorem exec_auxDlyExpiry {d : Dev} (q : List Instr) {a : Afe} {m k : Nat} (hset : d.settled)
    (hp : (d.aux a).phase = .dly k) :
    let e := d.atTick m
    ((d.aux a).urgent = none → (d.aux a).plaus = none →
      exec (.auxDlyExpiry a m) ⟨d, q⟩ = .next ⟨(e.setAux a { d.aux a with
        prev := some (d.get (AUX_ENTA_INPUT a k), d.get (AUX_ENTB_SEL a k)) }).auxTo a (.conv k), q⟩)
    ∧ ((d.aux a).urgent.isSome = true → exec (.auxDlyExpiry a m) ⟨d, q⟩ = .next ⟨e.auxTo a (.ready k), q⟩) := by
  intro e
  have hdev : auxDlyExpiryDev a m d = e.auxStart a k := by
    unfold auxDlyExpiryDev
    dsimp only
    rw [Dev.aux_atTick, hp]
  constructor
  · intro hu hpl
    refine State.lift_atTick q m hset (hdev.trans ?_) (((Dev.Grow.refl _).setAux a _).auxTo a _)
    rw [Dev.auxStart_free k (by simpa [e] using hu) (by simpa [e] using hpl), Dev.aux_atTick, Dev.get_atTick, Dev.get_atTick]
  · intro hu
    exact State.lift_atTick q m hset (hdev.trans (Dev.auxStart_waits k (by simpa [e] using hu)))
      ((Dev.Grow.refl _).auxTo a _)

/-! ## The end of an entry (R129, R130, R137) -/

/-- The fields that the end of an entry writes with its result. -/
def auxResultFields (a : Afe) (k : Nat) : List Fld := [AUX_RES_CODE a k, AUX_RES_OVR a k, AUX_RES_NEW a k, AUX_RES_PASS a k]

/-- Neither the band state nor the work of other blocks lies in these fields. -/
theorem auxResultFields_apart (a : Afe) : ∀ k < 32, ∀ f ∈ auxResultFields a k, f.wf = true ∧ settleReg f.addr = false
    ∧ (AUX_RES_OUT a k).apart f = true ∧ (AUX_BOUT a).apart f = true := by
  cases a <;> decide

/-- The device with the result of an entry. -/
def Dev.entryWritten (d : Dev) (a : Afe) (k : Nat) (convs : List SarConv) : Dev :=
  (((d.put (AUX_RES_CODE a k) (sarResult convs).1).putB (AUX_RES_OVR a k) (sarResult convs).2).put (AUX_RES_NEW a k) 1).put
    (AUX_RES_PASS a k) (d.get (AUX_STAT_PASSCNT a) % 256)

theorem Dev.entryWritten_get (d : Dev) (a : Afe) (k : Nat) (convs : List SarConv) :
    (d.entryWritten a k convs).get (AUX_RES_CODE a k) = (sarResult convs).1 % 2 ^ 16
      ∧ (d.entryWritten a k convs).get (AUX_RES_OVR a k) = (if (sarResult convs).2 then 1 else 0)
      ∧ (d.entryWritten a k convs).get (AUX_RES_NEW a k) = 1
      ∧ (d.entryWritten a k convs).get (AUX_RES_PASS a k) = d.get (AUX_STAT_PASSCNT a) % 256 := by
  have apart (e : Dev) {f g : Fld} (v : Nat) (hf : f.wf = true) (hg : g.wf = true)
      (h : (decide (g.hi < f.lo) || decide (f.hi < g.lo)) = true) : (e.put f v).get g = e.get g :=
    Dev.get_put_apart _ _ _ _ hf hg (by rw [Fld.apart, Bool.or_assoc, h, Bool.or_true])
  unfold Dev.entryWritten
  refine ⟨?_, ?_, ?_, ?_⟩
  · rw [apart _ _ rfl rfl rfl, apart _ _ rfl rfl rfl, Dev.putB, apart _ _ rfl rfl rfl]
    exact Dev.get_put_same _ _ _ rfl
  · rw [apart _ _ rfl rfl rfl, apart _ _ rfl rfl rfl]
    refine (Dev.get_put_same _ _ _ rfl).trans ?_
    split <;> rfl
  · rw [apart _ _ rfl rfl rfl]
    exact Dev.get_put_same _ _ _ rfl
  · exact (Dev.get_put_same _ _ _ rfl).trans (Nat.mod_mod _ _)

/-- PASSCNT lies in another register than the results. -/
theorem Dev.passcnt_put_result (d : Dev) (a : Afe) (k : Nat) {f : Fld} (v : Nat) (hf : f ∈ auxResultFields a k) :
    (d.put f v).get (AUX_STAT_PASSCNT a) = d.get (AUX_STAT_PASSCNT a) := by
  have haddr : f.addr = afeBase a + 0x1280 + 4 * k := by
    simp only [auxResultFields, List.mem_cons, List.not_mem_nil, or_false] at hf
    rcases hf with rfl | rfl | rfl | rfl <;> rfl
  have hother : (AUX_STAT_PASSCNT a).addr ≠ f.addr := by
    change afeBase a + 0x1018 ≠ f.addr
    omega
  rw [Dev.get, Dev.word_put_other _ _ _ _ hother, Dev.get]

theorem auxEntryCompleteDev_conv {d : Dev} {a : Afe} {m k : Nat} {convs : List SarConv} (hp : (d.aux a).phase = .conv k)
    (hlen : convs.length = d.get (AUX_ENTA_REPM1 a k) + 1) :
    auxEntryCompleteDev a m convs d
      = (((d.atTick m).entryWritten a k convs).bandCheck a k (sarResult convs).1 (sarResult convs).2).auxNext a k := by
  have hpass (e : Dev) {f : Fld} (v : Nat) (hf : f ∈ auxResultFields a k) := Dev.passcnt_put_result e a k v hf
  unfold auxEntryCompleteDev
  dsimp only
  rw [Dev.aux_atTick, hp]
  dsimp only
  rw [if_neg (by simpa using hlen), Dev.putB, hpass _ _ (by simp [auxResultFields]), hpass _ _ (by simp [auxResultFields]),
    hpass _ _ (by simp [auxResultFields])]
  rfl

theorem Dev.Grow.bandCheck {d e : Dev} (a : Afe) (k code : Nat) (ovr : Bool) (h : Dev.Grow d e) :
    Dev.Grow d (e.bandCheck a k code ovr) := by
  unfold Dev.bandCheck
  extract_lets noted lo hi hys setOut
  have hn : Dev.Grow d noted := (h.raise ..).ite h
  have hout (b : Bool) : Dev.Grow d (setOut noted b) := (hn.putB ..).put ..
  refine hn.ite (Dev.Grow.ite ((hout false).ite hn) (Dev.Grow.ite ?_ hn))
  exact ((hout true).raise ..).ite (hout true)

/-- The band check writes the band state and leaves the result. -/
theorem Dev.bandCheck_get (d : Dev) (a : Afe) {k : Nat} (code : Nat) (ovr : Bool) (hk : k < 32) {f : Fld}
    (hf : f ∈ auxResultFields a k) : (d.bandCheck a k code ovr).get f = d.get f := by
  obtain ⟨hwf, hsettle, hres, hbout⟩ := auxResultFields_apart a k hk f hf
  have hraise (e : Dev) (c s : Nat) (l : List Nat) : (e.raise c s l).get f = e.get f := (Dev.Kin.raise e c s l).get f hsettle
  unfold Dev.bandCheck
  extract_lets noted lo hi hys setOut
  have hn : noted.get f = d.get f := by
    unfold noted
    split
    · exact hraise ..
    · rfl
  have hout (b : Bool) : (setOut noted b).get f = d.get f := by
    refine (Dev.get_put_apart _ _ _ _ (by cases a <;> decide) hwf hbout).trans ?_
    exact (Dev.get_put_apart _ _ _ _ rfl hwf hres).trans hn
  have hite {c : Prop} [Decidable c] {x y : Dev} (hx : x.get f = d.get f) (hy : y.get f = d.get f) :
      (if c then x else y).get f = d.get f := by split <;> assumption
  exact hite hn (hite (hite (hout false) hn) (hite (hite ((hraise ..).trans (hout true)) (hout true)) hn))

theorem Dev.Kin.auxHalted (d : Dev) (a : Afe) : Dev.Kin d (d.auxHalted a) :=
  ((Dev.Kin.setAux ..).trans (Dev.Kin.auxTo ..)).trans (Dev.Kin.auxSettle ..)

theorem Dev.Kin.auxNext (d : Dev) (a : Afe) (k : Nat) : Dev.Kin d (d.auxNext a k) := by
  unfold Dev.auxNext
  extract_lets counted left src shown
  have hs : Dev.Kin d shown := (Dev.Kin.put _ _ _ (by cases a <;> decide)).trans (Dev.Kin.setAux ..)
  refine Dev.Kin.ite (Dev.Kin.ite (Dev.Kin.auxHalted ..) (Dev.Kin.auxEntry ..)) (Dev.Kin.ite ?_ ?_)
  · exact (((hs.trans (Dev.Kin.put _ _ _ (by cases a <;> decide))).trans (Dev.Kin.setAux ..)).trans
      (Dev.Kin.auxTo ..)).trans (Dev.Kin.raise ..)
  · exact Dev.Kin.ite (hs.trans (Dev.Kin.auxHalted ..))
      (Dev.Kin.ite (hs.trans (Dev.Kin.auxTo ..)) (hs.trans (Dev.Kin.auxTo ..)))

theorem Dev.Kin.ppBand (d : Dev) (a : Afe) (k : Nat) (was : Bool) : Dev.Kin d (d.ppBand a k was) := by
  unfold Dev.ppBand Dev.ppTrip
  refine Dev.Kin.ite (Dev.Kin.ite (Dev.Kin.refl d) ?_) (Dev.Kin.refl d)
  exact ((Dev.Kin.setLatch ..).trans (Dev.Kin.enterSafe ..)).trans (Dev.Kin.openPath ..)

theorem Dev.Grow.xcheckEntry {d e : Dev} (a : Afe) (k : Nat) (h : Dev.Grow d e) : Dev.Grow d (e.xcheckEntry a k) := by
  unfold Dev.xcheckEntry
  refine Dev.Grow.ite ?_ h
  apply h.upd <;> rfl

theorem Dev.xcheckEntry_get (d : Dev) (a : Afe) (k : Nat) (f : Fld) : (d.xcheckEntry a k).get f = d.get f := by
  unfold Dev.xcheckEntry
  split <;> rfl

/-- The device after the end of an entry: its band is checked, the sequencer goes on, and the processor channel and the
guard logic act on the result. -/
def Dev.entryEnded (d : Dev) (a : Afe) (m k : Nat) (convs : List SarConv) : Dev :=
  ((((((d.atTick m).entryWritten a k convs).bandCheck a k (sarResult convs).1 (sarResult convs).2).auxNext a k).ppBand a k
    (d.bit (AUX_RES_OUT a k))).xcheckEntry a k).guardSettle

theorem Dev.entryEnded_get (d : Dev) (a : Afe) (m : Nat) {k : Nat} (convs : List SarConv) (hk : k < 32) {f : Fld}
    (hf : f ∈ auxResultFields a k) : (d.entryEnded a m k convs).get f = ((d.atTick m).entryWritten a k convs).get f := by
  obtain ⟨-, hsettle, -, -⟩ := auxResultFields_apart a k hk f hf
  unfold Dev.entryEnded
  rw [Dev.guardSettle_get _ _ hsettle, Dev.xcheckEntry_get, (Dev.Kin.ppBand ..).get _ hsettle,
    (Dev.Kin.auxNext ..).get _ hsettle, Dev.bandCheck_get _ _ _ _ hk hf]

theorem Dev.entryEnded_grow (d : Dev) (a : Afe) (m k : Nat) (convs : List SarConv) :
    Dev.Grow (d.atTick m) (d.entryEnded a m k convs) := by
  have hw : Dev.Grow (d.atTick m) ((d.atTick m).entryWritten a k convs) :=
    ((((Dev.Grow.refl _).put ..).putB ..).put ..).put ..
  exact ((((hw.bandCheck ..).trans (Dev.Kin.auxNext ..).grow).trans (Dev.Kin.ppBand ..).grow).xcheckEntry ..).guardSettle

/-- AUX_ENTRY_COMPLETE with the REP conversions of the entry in progress. -/
theorem exec_auxEntryComplete {d : Dev} (q : List Instr) {a : Afe} {m k : Nat} {convs : List SarConv} (hset : d.settled)
    (hp : (d.aux a).phase = .conv k) (hk : k < 32) (hlen : convs.length = d.get (AUX_ENTA_REPM1 a k) + 1) :
    ∃ t, exec (.auxEntryComplete a convs m) ⟨d, q⟩ = .next t
      ∧ t.dev.get (AUX_RES_CODE a k) = (sarResult convs).1 % 2 ^ 16 ∧ t.dev.bit (AUX_RES_OVR a k) = (sarResult convs).2
      ∧ t.dev.get (AUX_RES_NEW a k) = 1 ∧ t.dev.get (AUX_RES_PASS a k) = d.get (AUX_STAT_PASSCNT a) % 256 := by
  have hrun : exec (.auxEntryComplete a convs m) ⟨d, q⟩ = .next ⟨d.entryEnded a m k convs, q⟩ := by
    refine State.lift_atTick q m hset ?_ (d.entryEnded_grow a m k convs)
    dsimp only
    rw [hp]
    dsimp only
    rw [auxEntryCompleteDev_conv hp hlen]
    rfl
  obtain ⟨hcode, hovr, hnew, hpass⟩ := (d.atTick m).entryWritten_get a k convs
  have hget {f : Fld} (hf : f ∈ auxResultFields a k) := d.entryEnded_get a m convs hk hf
  refine ⟨_, hrun, ?_, ?_, ?_, ?_⟩
  · exact (hget (by simp [auxResultFields])).trans hcode
  · rw [Dev.bit, hget (by simp [auxResultFields]), hovr]
    cases (sarResult convs).2 <;> rfl
  · exact (hget (by simp [auxResultFields])).trans hnew
  · exact ((hget (by simp [auxResultFields])).trans hpass).trans (by rw [Dev.get_atTick])

/-! ## Urgent requests (R140, R141) -/

theorem Dev.sarBusy_congr {d e : Dev} {a : Afe} (h : e.aux a = d.aux a) : e.sarBusy a = d.sarBusy a := by
  unfold Dev.sarBusy
  rw [h]

/-- The device with a request in progress. -/
def Dev.urgentStarted (d : Dev) (a : Afe) (host : Bool) (sel input : Nat) : Dev :=
  let e := d.setAux a { d.aux a with urgent := some host, prev := some (input, sel) }
  (if host then e.put (AUX_URES_DROP a) 0 else e).put (AUX_STAT_BUSY a) 1

theorem Dev.urgentRequest_starts {d : Dev} {a : Afe} (host : Bool) (sel input : Nat) (hup : d.auxUp a = true)
    (hb : d.sarBusy a = false) (hc : d.inCal a = false) :
    d.urgentRequest a host sel input = d.urgentStarted a host sel input := by
  unfold Dev.urgentRequest
  rw [if_neg (by simp [hup]), if_neg (by simp [hb, hc])]
  rfl

@[simp] theorem Dev.urgentStarted_aux (d : Dev) (a : Afe) (host : Bool) (sel input : Nat) :
    (d.urgentStarted a host sel input).aux a = { d.aux a with urgent := some host, prev := some (input, sel) } := by
  cases host <;> simp [Dev.urgentStarted]

theorem Dev.urgentStarted_up (d : Dev) (a : Afe) (host : Bool) (sel input : Nat) :
    (d.urgentStarted a host sel input).auxUp a = d.auxUp a := by
  refine (Dev.auxUp_put _ _ _ (by cases a <;> decide)).trans ?_
  split
  · exact (Dev.auxUp_put _ _ _ (by cases a <;> decide)).trans (Dev.auxUp_setAux ..)
  · exact Dev.auxUp_setAux ..

theorem Dev.urgentStarted_busy (d : Dev) (a : Afe) (host : Bool) (sel input : Nat) :
    (d.urgentStarted a host sel input).sarBusy a = true := by
  simp [Dev.sarBusy]

theorem Dev.Grow.urgentDrop {d e : Dev} (a : Afe) (host : Bool) (h : Dev.Grow d e) : Dev.Grow d (e.urgentDrop a host) := by
  unfold Dev.urgentDrop
  extract_lets first counted shown
  have hs : Dev.Grow d shown := ((h.countSat ..).put ..).ite (h.countSat ..)
  exact (hs.raise ..).ite hs

theorem Dev.Grow.urgentStarted {d e : Dev} (a : Afe) (host : Bool) (sel input : Nat) (h : Dev.Grow d e) :
    Dev.Grow d (e.urgentStarted a host sel input) :=
  (((h.setAux a _).put ..).ite (h.setAux a _)).put ..

/-- A dropped request is counted, saturating (R141), and shown where the host asked; the converter goes on. -/
structure Dev.Dropped (d : Dev) (a : Afe) (host : Bool) (e : Dev) : Prop where
  aux   : e.aux a = d.aux a
  up    : e.auxUp a = d.auxUp a
  cal   : e.inCal a = d.inCal a
  count : e.get (AUX_DROP a) = min 65535 (d.get (AUX_DROP a) + 1)
  shown : host = true → e.get (AUX_URES_DROP a) = 1

/-- An event about the drop, where it is raised, leaves all of this. -/
theorem Dev.Dropped.raiseIf {d e : Dev} {a : Afe} {host : Bool} (h : Dev.Dropped d a host e) (c : Prop) [Decidable c]
    (code src : Nat) (items : List Nat) : Dev.Dropped d a host (if c then e.raise code src items else e) := by
  have hraise {f : Fld} (hf : f.addr ∉ sendRegs) := Dev.raise_get e code src items f hf
  split
  · exact ⟨(e.aux_raise ..).trans h.aux, (e.auxUp_raise ..).trans h.up, (e.inCal_raise ..).trans h.cal,
      (hraise (by cases a <;> decide)).trans h.count, fun hh => (hraise (by cases a <;> decide)).trans (h.shown hh)⟩
  · exact h

theorem Dev.urgentDrop_dropped (d : Dev) (a : Afe) (host : Bool) : Dev.Dropped d a host (d.urgentDrop a host) := by
  have hcount : (d.countSat (AUX_DROP a) 1).get (AUX_DROP a) = min 65535 (d.get (AUX_DROP a) + 1) :=
    (Dev.get_put_same _ _ _ rfl).trans
      (Nat.mod_eq_of_lt (lt_of_le_of_lt (min_le_left _ _) (by cases a <;> decide)))
  have hbase : Dev.Dropped d a false (d.countSat (AUX_DROP a) 1) :=
    ⟨by simp, Dev.auxUp_put _ _ _ (by cases a <;> decide), Dev.inCal_put _ _ _ (by cases a <;> decide), hcount, by simp⟩
  have hshown : Dev.Dropped d a true ((d.countSat (AUX_DROP a) 1).put (AUX_URES_DROP a) 1) :=
    ⟨(Dev.aux_put ..).trans hbase.aux, (Dev.auxUp_put _ _ _ (by cases a <;> decide)).trans hbase.up,
      (Dev.inCal_put _ _ _ (by cases a <;> decide)).trans hbase.cal,
      (Dev.get_put_apart _ _ _ _ rfl rfl (by cases a <;> decide)).trans hcount,
      fun _ => Dev.get_put_same _ _ _ rfl⟩
  unfold Dev.urgentDrop
  cases host with
  | true => exact hshown.raiseIf ..
  | false => exact hbase.raiseIf ..

/-- Each drop counts at least what was counted before. -/
theorem Dev.Dropped.count_le {d e : Dev} {a : Afe} {host : Bool} (h : Dev.Dropped d a host e) :
    d.get (AUX_DROP a) ≤ e.get (AUX_DROP a) := by
  have hmax : d.get (AUX_DROP a) < 65536 := d.get_lt (AUX_DROP a)
  rw [h.count]
  omega

/-- After a drop the next request finds the converter as this one did. -/
theorem Dev.Dropped.still {d e : Dev} {a : Afe} {host : Bool} (h : Dev.Dropped d a host e)
    (hb : d.sarBusy a = true ∨ d.inCal a = true) : e.sarBusy a = true ∨ e.inCal a = true := by
  rwa [Dev.sarBusy_congr h.aux, h.cal]

theorem Dev.urgentRequest_drops {d : Dev} {a : Afe} (host : Bool) (sel input : Nat) (hup : d.auxUp a = true)
    (h : d.sarBusy a = true ∨ d.inCal a = true) : Dev.Dropped d a host (d.urgentRequest a host sel input) := by
  unfold Dev.urgentRequest
  rw [if_neg (by simp [hup]), if_pos h]
  exact d.urgentDrop_dropped a host

/-- The device with SEL and INPUT of a host request. -/
def Dev.urgentAsked (d : Dev) (a : Afe) (sel input : Nat) : Dev := (d.put (AUX_URG_SEL a) sel).put (AUX_URG_INPUT a) input

theorem Dev.urgentAsked_keeps (d : Dev) (a : Afe) (sel input : Nat) : (d.urgentAsked a sel input).aux a = d.aux a
    ∧ (d.urgentAsked a sel input).auxUp a = d.auxUp a ∧ (d.urgentAsked a sel input).inCal a = d.inCal a
    ∧ (d.urgentAsked a sel input).get (AUX_DROP a) = d.get (AUX_DROP a) := by
  refine ⟨by simp [Dev.urgentAsked], ?_, ?_, ?_⟩
  · exact (Dev.auxUp_put _ _ _ (by cases a <;> decide)).trans (Dev.auxUp_put _ _ _ (by cases a <;> decide))
  · exact (Dev.inCal_put _ _ _ (by cases a <;> decide)).trans (Dev.inCal_put _ _ _ (by cases a <;> decide))
  · exact (Dev.get_put_apart _ _ _ _ rfl rfl (by cases a <;> decide)).trans
      (Dev.get_put_apart _ _ _ _ rfl rfl (by cases a <;> decide))

theorem Dev.Grow.urgentAsked (d : Dev) (a : Afe) (sel input : Nat) : Dev.Grow d (d.urgentAsked a sel input) :=
  ((Dev.Grow.refl d).put ..).put ..

theorem auxUrgGoDev_none {d : Dev} {a : Afe} (sel input : Nat) (hup : d.auxUp a = true) :
    auxUrgGoDev a sel input none d = (d.urgentAsked a sel input).urgentRequest a true sel input := by
  unfold auxUrgGoDev
  rw [if_neg (by rw [Dev.auxUp_banks hup]; decide)]
  rfl

/-- A request of the diagnostics in the same cycle goes first (R141). -/
theorem auxUrgGoDev_some {d : Dev} {a : Afe} (sel input s i : Nat) (hup : d.auxUp a = true) :
    auxUrgGoDev a sel input (some (s, i)) d
      = ((d.urgentAsked a sel input).urgentRequest a false s i).urgentRequest a true sel input := by
  unfold auxUrgGoDev
  rw [if_neg (by rw [Dev.auxUp_banks hup]; decide)]
  rfl

theorem Dev.Grow.urgentRequest {d e : Dev} (a : Afe) (host : Bool) (sel input : Nat) (h : Dev.Grow d e) :
    Dev.Grow d (e.urgentRequest a host sel input) := by
  unfold Dev.urgentRequest
  exact h.ite ((h.urgentDrop ..).ite (h.urgentStarted ..))

/-- AUX_URG_GO at an idle converter, with no other request in the cycle. -/
theorem exec_auxUrgGo_starts {d : Dev} (q : List Instr) {a : Afe} (sel input : Nat) (h : d.accepts (AUX_URG_GO a))
    (hup : d.auxUp a = true) (hb : d.sarBusy a = false) (hc : d.inCal a = false) :
    exec (.auxUrgGo a sel input none) ⟨d, q⟩
      = .next ⟨(((((d.put (AUX_URG_SEL a) sel).put (AUX_URG_INPUT a) input).setAux a { d.aux a with
        urgent := some true, prev := some (input, sel) }).put (AUX_URES_DROP a) 0).put (AUX_STAT_BUSY a) 1).commandDone, q⟩ := by
  obtain ⟨haux, hup', hcal, -⟩ := d.urgentAsked_keeps a sel input
  have hstart := Dev.urgentRequest_starts true sel input (hup'.trans hup) ((Dev.sarBusy_congr haux).trans hb) (hcal.trans hc)
  refine State.lift_takes_grow q h (((auxUrgGoDev_none sel input hup).trans hstart).trans ?_)
    ((((Dev.Grow.urgentAsked d a sel input).setAux a _).put ..).put ..)
  rw [Dev.urgentStarted, haux]
  rfl

/-- AUX_URG_GO at an idle converter, with a request of the diagnostics in the same cycle: theirs starts, and the host's is
dropped. -/
theorem exec_auxUrgGo_behind {d : Dev} (q : List Instr) {a : Afe} (sel input s i : Nat) (h : d.accepts (AUX_URG_GO a))
    (hup : d.auxUp a = true) (hb : d.sarBusy a = false) (hc : d.inCal a = false) :
    ∃ t, exec (.auxUrgGo a sel input (some (s, i))) ⟨d, q⟩ = .next t
      ∧ t.dev.aux a = { d.aux a with urgent := some false, prev := some (i, s) } ∧ t.dev.get (AUX_URES_DROP a) = 1 := by
  obtain ⟨haux, hup', hcal, -⟩ := d.urgentAsked_keeps a sel input
  have hstart := Dev.urgentRequest_starts false s i (hup'.trans hup) ((Dev.sarBusy_congr haux).trans hb) (hcal.trans hc)
  have hdrop := Dev.urgentRequest_drops (d := (d.urgentAsked a sel input).urgentStarted a false s i) true sel input
    ((Dev.urgentStarted_up ..).trans (hup'.trans hup)) (.inl (Dev.urgentStarted_busy ..))
  have hdev := (auxUrgGoDev_some sel input s i hup).trans (congrArg (Dev.urgentRequest · a true sel input) hstart)
  refine ⟨_, State.lift_takes_grow q h hdev (((Dev.Grow.urgentAsked d a sel input).urgentStarted ..).urgentRequest ..), ?_, ?_⟩
  · rw [Dev.aux_commandDone, hdrop.aux, Dev.urgentStarted_aux, haux]
  · exact (Dev.commandDone_get _ _ (by cases a <;> decide)).trans (hdrop.shown rfl)

/-- AUX_URG_GO while the SAR is busy or the bank in calibration: every request of the cycle is dropped. -/
theorem exec_auxUrgGo_drops {d : Dev} (q : List Instr) {a : Afe} (sel input : Nat) (diag : Option (Nat × Nat))
    (h : d.accepts (AUX_URG_GO a)) (hup : d.auxUp a = true) (hbc : d.sarBusy a = true ∨ d.inCal a = true) :
    ∃ t, exec (.auxUrgGo a sel input diag) ⟨d, q⟩ = .next t ∧ t.dev.get (AUX_URES_DROP a) = 1 ∧ t.dev.aux a = d.aux a
      ∧ d.get (AUX_DROP a) ≤ t.dev.get (AUX_DROP a) := by
  obtain ⟨haux, hup', hcal, hcount⟩ := d.urgentAsked_keeps a sel input
  have hgrow := Dev.Grow.urgentAsked d a sel input
  have hbusy : (d.urgentAsked a sel input).sarBusy a = true ∨ (d.urgentAsked a sel input).inCal a = true := by
    rwa [Dev.sarBusy_congr haux, hcal]
  obtain ⟨e, he, hg, hshown, hsame, hle⟩ : ∃ e, auxUrgGoDev a sel input diag d = e ∧ Dev.Grow d e
      ∧ e.get (AUX_URES_DROP a) = 1 ∧ e.aux a = d.aux a ∧ d.get (AUX_DROP a) ≤ e.get (AUX_DROP a) := by
    cases diag with
    | none =>
      have hdrop := Dev.urgentRequest_drops true sel input (hup'.trans hup) hbusy
      exact ⟨_, auxUrgGoDev_none sel input hup, hgrow.urgentRequest .., hdrop.shown rfl, hdrop.aux.trans haux,
        hcount ▸ hdrop.count_le⟩
    | some r =>
      have hfirst := Dev.urgentRequest_drops false r.1 r.2 (hup'.trans hup) hbusy
      have hdrop := Dev.urgentRequest_drops true sel input (hfirst.up.trans (hup'.trans hup)) (hfirst.still hbusy)
      exact ⟨_, auxUrgGoDev_some sel input r.1 r.2 hup, (hgrow.urgentRequest ..).urgentRequest .., hdrop.shown rfl,
        (hdrop.aux.trans hfirst.aux).trans haux, hcount ▸ hfirst.count_le.trans hdrop.count_le⟩
  refine ⟨_, State.lift_takes_grow q h he hg, ?_, ?_, ?_⟩
  · exact (Dev.commandDone_get _ _ (by cases a <;> decide)).trans hshown
  · exact (Dev.aux_commandDone ..).trans hsame
  · exact hle.trans (Dev.commandDone_get _ _ (by cases a <;> decide)).ge

/-- The device with the result of an urgent request. -/
def Dev.urgentWritten (d : Dev) (a : Afe) (c : SarConv) : Dev :=
  ((d.put (AUX_URES_CODE a) (sarResult [c]).1).putB (AUX_URES_OVR a) (sarResult [c]).2).put (AUX_URES_DONE a) 1

theorem Dev.urgentWritten_get (d : Dev) (a : Afe) (c : SarConv) :
    (d.urgentWritten a c).get (AUX_URES_CODE a) = (sarResult [c]).1 % 2 ^ 16
      ∧ (d.urgentWritten a c).bit (AUX_URES_OVR a) = (sarResult [c]).2
      ∧ (d.urgentWritten a c).get (AUX_URES_DONE a) = 1 := by
  unfold Dev.urgentWritten Dev.putB
  refine ⟨?_, ?_, Dev.get_put_same _ _ _ rfl⟩
  · rw [Dev.get_put_apart _ _ _ _ rfl rfl (by cases a <;> decide),
      Dev.get_put_apart _ _ _ _ rfl rfl (by cases a <;> decide)]
    exact Dev.get_put_same _ _ _ rfl
  · rw [Dev.bit_put_apart _ _ _ _ rfl rfl (by cases a <;> decide), Dev.bit_put_same _ _ _ rfl]
    cases (sarResult [c]).2 <;> rfl

/-- The request is over. -/
def Dev.urgentOver (d : Dev) (a : Afe) : Dev := (d.setAux a { d.aux a with urgent := none }).put (AUX_STAT_BUSY a) 0

theorem Dev.Kin.urgentOver (d : Dev) (a : Afe) : Dev.Kin d (d.urgentOver a) :=
  (Dev.Kin.setAux ..).trans (Dev.Kin.put _ _ _ (by cases a <;> decide))

/-- A request ends with its result, and then an entry that waited may start (R140). -/
theorem urgentResultDev_cases {d : Dev} {a : Afe} (m : Nat) (c : SarConv) (hu : (d.aux a).urgent.isSome = true) :
    urgentResultDev a m c d = ((d.atTick m).urgentWritten a c).urgentOver a
      ∨ ∃ k, urgentResultDev a m c d = (((d.atTick m).urgentWritten a c).urgentOver a).auxStart a k := by
  unfold urgentResultDev
  rw [if_neg (by simpa using Option.isSome_iff_ne_none.1 hu)]
  dsimp only
  split
  · exact .inr ⟨_, rfl⟩
  · exact .inl rfl

/-- URGENT_RESULT of a request in progress. -/
theorem exec_urgentResult {d : Dev} (q : List Instr) {a : Afe} (m : Nat) (c : SarConv) (hset : d.settled)
    (hu : (d.aux a).urgent.isSome = true) :
    ∃ t, exec (.urgentResult a c m) ⟨d, q⟩ = .next t ∧ t.dev.get (AUX_URES_CODE a) = (sarResult [c]).1 % 2 ^ 16
      ∧ t.dev.bit (AUX_URES_OVR a) = (sarResult [c]).2 ∧ t.dev.get (AUX_URES_DONE a) = 1
      ∧ (t.dev.aux a).urgent = none := by
  obtain ⟨hcode, hovr, hdone⟩ := (d.atTick m).urgentWritten_get a c
  have hgrow : Dev.Grow (d.atTick m) ((d.atTick m).urgentWritten a c) := (((Dev.Grow.refl _).put ..).putB ..).put ..
  obtain ⟨e, he, hkin, hnone⟩ : ∃ e, urgentResultDev a m c d = e ∧ Dev.Kin ((d.atTick m).urgentWritten a c) e
      ∧ (e.aux a).urgent = none := by
    have hover : ((((d.atTick m).urgentWritten a c).urgentOver a).aux a).urgent = none := by
      rw [Dev.urgentOver, Dev.aux_put, Dev.aux_setAux]
    rcases urgentResultDev_cases m c hu with h | ⟨k, h⟩
    · exact ⟨_, h, Dev.Kin.urgentOver .., hover⟩
    · exact ⟨_, h, (Dev.Kin.urgentOver ..).trans (Dev.Kin.auxStart ..), (Dev.auxStart_urgent ..).trans hover⟩
  have hures : settleReg (AUX_URES_CODE a).addr = false := by cases a <;> decide
  exact ⟨_, State.lift_atTick q m hset he (hgrow.trans hkin.grow), (hkin.get (AUX_URES_CODE a) hures).trans hcode,
    (hkin.bit (AUX_URES_OVR a) hures).trans hovr, (hkin.get (AUX_URES_DONE a) hures).trans hdone, hnone⟩

/-! ## Plausibility slots (R142, R145) -/

/-- What a slot adds to the sums of a window: per job the code, and whether a sample carried OVR. -/
def PlausWin.sampled (p : PlausWin) (convs : List SarConv) : PlausWin :=
  { p with next := p.next + 1, sums := (p.sums.zip convs).map (fun (s, c) =>
      (s.1 + (sarResult [c]).1, s.2 || (sarResult [c]).2)) }

/-- A slot that finds the SAR free takes its samples; with no entry waiting for it, that is all. -/
theorem plausibilitySlotDev_samples {d : Dev} {a : Afe} {p : PlausWin} {convs : List SarConv}
    (hp : (d.aux a).plaus = some p) (hn : p.next < p.samples) (hb : d.sarBusy a = false)
    (hlen : convs.length = p.jobs.length) (hin : d.slotAt p p.next < d.nextBoundary)
    (hready : ∀ k, (d.aux a).phase ≠ .ready k) :
    plausibilitySlotDev a convs d = (d.advanceTo (d.slotAt p p.next).toNat).setAux a { d.aux a with
      prev := p.jobs.getLast?, plaus := some (p.sampled convs) } := by
  have hsar : (d.aux a).phase.onSar = false := (Bool.or_eq_false_iff.1 hb).2
  unfold plausibilitySlotDev
  rw [hp]
  dsimp only
  rw [if_neg (by simp [hsar]), if_neg (by simp only [hb, hlen]; simpa using ⟨hn, hin⟩)]
  split
  · rename_i k hk
    rw [Dev.aux_setAux, Dev.aux_advanceTo] at hk
    exact absurd hk (hready k)
  · rw [Dev.aux_advanceTo]
    rfl

/-- PLAUSIBILITY_SLOT at a free SAR. -/
theorem exec_plausibilitySlot_samples {d : Dev} (q : List Instr) {a : Afe} {p : PlausWin} {convs : List SarConv}
    (hset : d.settled) (hp : (d.aux a).plaus = some p) (hn : p.next < p.samples) (hb : d.sarBusy a = false)
    (hlen : convs.length = p.jobs.length) (hin : d.slotAt p p.next < d.nextBoundary)
    (hready : ∀ k, (d.aux a).phase ≠ .ready k) :
    ∃ t, exec (.plausibilitySlot a convs) ⟨d, q⟩ = .next t ∧ t.dev.mtick = max (d.slotAt p p.next).toNat d.mtick
      ∧ (t.dev.aux a).plaus = some (p.sampled convs) := by
  have hgrow := (Dev.Grow.refl (d.advanceTo (d.slotAt p p.next).toNat)).setAux a { d.aux a with
    prev := p.jobs.getLast?, plaus := some (p.sampled convs) }
  exact ⟨_, State.lift_runs d q _ _ (plausibilitySlotDev_samples hp hn hb hlen hin hready) (hgrow.asks.trans hset)
    hgrow.build hgrow.role hgrow.fz, Dev.mtick_setAux .., by rw [Dev.aux_setAux]⟩

/-- PLAUSIBILITY_SLOT during the conversions of an entry: the slot is lost. -/
theorem exec_plausibilitySlot_lost {d : Dev} (q : List Instr) {a : Afe} {p : PlausWin} (convs : List SarConv)
    (hset : d.settled) (hp : (d.aux a).plaus = some p) (hn : p.next < p.samples) (hs : (d.aux a).phase.onSar = true) :
    exec (.plausibilitySlot a convs) ⟨d, q⟩ = .next ⟨d.setAux a { d.aux a with
      plaus := some { p with next := p.next + 1, skipped := true } }, q⟩ := by
  refine State.lift_grow q hset ?_ ((Dev.Grow.refl d).setAux a _)
  unfold plausibilitySlotDev
  rw [hp]
  exact if_pos ⟨hn, hs⟩

/-- Settles O20: each clause is its command's own lemma; GO at a sequencer with passes left is a trigger, which acts by
the phase. -/
theorem auxCommandsComplete : Obligations.AuxCommandsComplete := by
  unfold Obligations.AuxCommandsComplete
  refine ⟨fun d q a h hb hrun hd => ⟨fun hp => ?_, fun k hp => ?_, fun k hp hm => ?_⟩,
    fun d q a h hup hen hd hp => exec_auxGo_restart q h hup hen hd hp, fun d q a h hup => exec_auxEnable q h hup,
    fun d q a src hset hs hrun hext hbsw hp => exec_auxTriggerEvent q hset hs hrun hext hbsw hp,
    fun d q a hset hp hrun hcal hpend => exec_auxPassStart q hset hp hrun hcal hpend,
    fun d q a hset _ hsw => exec_auxTriggerEvent_still q hset hsw, fun d q a m k hset hp => exec_auxDlyExpiry q hset hp,
    fun d q a m k convs hset hp hk hlen => exec_auxEntryComplete q hset hp hk hlen,
    fun d q a sel input h hup => ⟨exec_auxUrgGo_starts q sel input h hup,
      fun s i => exec_auxUrgGo_behind q sel input s i h hup, fun diag => exec_auxUrgGo_drops q sel input diag h hup⟩,
    fun d q a m c hset hu => exec_urgentResult q m c hset hu,
    fun d q a p convs hset hp hn hb hlen hin hready => exec_plausibilitySlot_samples q hset hp hn hb hlen hin hready,
    fun d q a p convs hset hp hn hs => exec_plausibilitySlot_lost q convs hset hp hn hs⟩
  · exact exec_auxGo_trigger q h hb hd (Dev.auxTrigger_waitPass hp) ((Dev.Grow.refl d).auxTo ..)
  · exact exec_auxGo_trigger q h hb hd (Dev.auxTrigger_waitEntry hp) ((Dev.Grow.refl d).auxTo ..)
  · exact exec_auxGo_trigger q h hb hd (Dev.auxTrigger_missed hp hd hm) ((Dev.Grow.refl d).countSat ..)

end Sys2Proof.Machine
end

section
/-!
SUPPORT. Calibration and trim (06, R153 to R170): what a step written to CAL_CTRL.STEP comes to in each state of the bank,
and what a timeout, a reading and the end of a store do to an open session.
-/

namespace Sys2Proof.Machine

/-! ## The calibration state of a bank -/

@[simp] theorem Dev.cal_setCal (d : Dev) (a : Afe) (c : CalSt) : (d.setCal a c).cal a = c := by cases a <;> rfl
@[simp] theorem Dev.cal_setSess (d : Dev) (a : Afe) (s : Option CalSess) :
    (d.setSess a s).cal a = { d.cal a with sess := s } := Dev.cal_setCal ..
@[simp] theorem Dev.cal_put (d : Dev) (a : Afe) (f : Fld) (v : Nat) : (d.put f v).cal a = d.cal a := by cases a <;> rfl
@[simp] theorem Dev.cal_raise (d : Dev) (a : Afe) (code src : Nat) (items : List Nat) :
    (d.raise code src items).cal a = d.cal a := by cases a <;> simp [Dev.cal]
@[simp] theorem Dev.cal_commandDone (d : Dev) (a : Afe) : d.commandDone.cal a = d.cal a := by cases a <;> simp [Dev.cal]

@[simp] theorem Dev.get_setCal (d : Dev) (a : Afe) (c : CalSt) (f : Fld) : (d.setCal a c).get f = d.get f := by
  cases a <;> rfl
@[simp] theorem Dev.get_setSess (d : Dev) (a : Afe) (s : Option CalSess) (f : Fld) : (d.setSess a s).get f = d.get f :=
  Dev.get_setCal ..
@[simp] theorem Dev.calChannels_setSess (d : Dev) (a : Afe) (s : Option CalSess) (ical : Bool) :
    (d.setSess a s).calChannels a ical = d.calChannels a ical := by cases a <;> rfl

/-- A step is for a bank whose die works. -/
theorem Dev.not_foreign {d : Dev} {a : Afe} (hb : a ∈ d.banks) : ¬ (!d.banks.contains a) = true := by simpa using hb

theorem Dev.calIdle_session {d : Dev} {a : Afe} (h : d.calIdle a = true) : (d.cal a).sess = none := by
  simp only [Dev.calIdle, Bool.and_eq_true, Option.isNone_iff_eq_none] at h
  exact h.1.1

theorem Dev.not_calIdle {d : Dev} {a : Afe} {s : CalSess} (hs : (d.cal a).sess = some s) : d.calIdle a = false := by
  simp [Dev.calIdle, hs]

/-- A session that nothing ends yet takes the RESULT it will end with. -/
theorem Dev.calEnding_open {d : Dev} {a : Afe} {s : CalSess} (r : Nat) (hs : (d.cal a).sess = some s)
    (he : s.ending = none) : d.calEnding a r = d.setSess a (some { s with ending := some r }) := by
  unfold Dev.calEnding
  rw [hs]
  exact if_neg (by simp [he])

/-- Only the local cells and the current channel take part (R156, R158). -/
theorem Dev.calChannels_le {d : Dev} {a : Afe} {ical : Bool} {k : Nat} (hk : k ∈ d.calChannels a ical) : k ≤ 19 := by
  simp only [Dev.calChannels, List.mem_append] at hk
  rcases hk with hk | hk
  · split at hk
    · simp at hk
    · simp only [rangeL, List.mem_map, List.mem_range] at hk
      omega
  · split at hk
    · simp only [List.mem_singleton] at hk
      omega
    · simp at hk

/-! ## Steps that are ignored (R155) -/

/-- A step that the state of the bank does not admit sets SEQERR and does nothing else. -/
theorem State.lift_seqErr {d : Dev} (q : List Instr) {a : Afe} {act : Dev → Dev} (h : d.accepts (CAL_CTRL_STEP a))
    (he : act d = d.seqErr a) : (⟨d, q⟩ : State).lift (Dev.actWrite (CAL_CTRL_STEP a) act)
      = .next ⟨(d.put (CAL_STAT_SEQERR a) 1).commandDone, q⟩ :=
  State.lift_takes_grow q h he ((Dev.Grow.refl d).put ..)

theorem Dev.calOpen_busy {d : Dev} {a : Afe} (refresh : Bool) (hb : a ∈ d.banks) (hi : d.calIdle a = false) :
    d.calOpen a refresh = d.seqErr a := by
  unfold Dev.calOpen
  rw [if_neg (Dev.not_foreign hb), if_pos (.inl (by simp [hi]))]

theorem Dev.calPoint_closed {d : Dev} {a : Afe} (hi : Bool) (hb : a ∈ d.banks) (hs : (d.cal a).sess = none) :
    d.calPoint a hi = d.seqErr a := by
  unfold Dev.calPoint
  rw [if_neg (Dev.not_foreign hb), hs]

theorem calApplyDev_closed {d : Dev} {a : Afe} (hb : a ∈ d.banks) (hs : (d.cal a).sess = none) :
    calApplyDev a d = d.seqErr a := by
  unfold calApplyDev
  rw [if_neg (Dev.not_foreign hb), hs]

theorem calAbortDev_idle {d : Dev} {a : Afe} (hb : a ∈ d.banks) (hi : d.calIdle a = true) :
    calAbortDev a d = d.seqErr a := by
  unfold calAbortDev
  rw [if_neg (Dev.not_foreign hb), if_pos hi]

theorem calFactoryDev_busy {d : Dev} {a : Afe} (hb : a ∈ d.banks) (hi : d.calIdle a = false) :
    calFactoryDev a d = d.seqErr a := by
  unfold calFactoryDev
  rw [if_neg (Dev.not_foreign hb), if_pos (by simp [hi])]

theorem calStepUnlistedDev_ignored {d : Dev} {a : Afe} {code : Nat} (hb : a ∈ d.banks)
    (hc : code = 0 ∨ (7 ≤ code ∧ code ≤ 14)) : calStepUnlistedDev a code d = d.seqErr a :=
  if_pos ⟨by simpa using hb, hc⟩

/-! ## BEGIN, REFRESH and FACTORY from idle (R155, R156, R159, R170) -/

/-- The session that BEGIN or REFRESH opens, with the settings in force (R159). -/
def Dev.newSession (d : Dev) (a : Afe) (refresh : Bool) : CalSess :=
  { refresh := refresh, ical := d.bit (CAL_CFG_ICAL a), stk := d.get (CAL_CFG_STK a), stab := d.get (CAL_CFG_STAB a)
    devo := d.get (CAL_DEV_DEVO a), devg := d.get (CAL_DEV_DEVG a)
    plo := (rangeL 1 19).map (fun k => d.getS (CAL_PLO a k)), phi := (rangeL 1 19).map (fun k => d.getS (CAL_PHI a k))
    phase := .entering, inside := false, mlo := none, mhi := none, discard := false, reads := [], set := none
    ending := none }

/-- BEGIN or REFRESH from idle: it opens its session or is refused with RESULT and its event. REFRESH needs system trims in
force (Table 6-2). -/
theorem Dev.calOpen_idle {d : Dev} {a : Afe} {refresh : Bool} (hb : a ∈ d.banks) (hi : d.calIdle a = true)
    (hsrc : refresh = true → d.get (CAL_STAT_SRC a) ≠ 0) :
    (d.calRefusal a refresh = none →
      d.calOpen a refresh = (d.setSess a (some (d.newSession a refresh))).put (CAL_STAT_STATE a) 1)
    ∧ (∀ r, d.calRefusal a refresh = some r → d.calOpen a refresh
      = (d.put (CAL_STAT_RESULT a) r).raise 0x1011 (afeSrc a) [(d.put (CAL_STAT_RESULT a) r).calStat a]) := by
  have hadmit : ¬ ((!d.calIdle a) = true ∨ (refresh = true ∧ d.get (CAL_STAT_SRC a) = 0)) := by
    rintro (h | ⟨h, h0⟩)
    · simp [hi] at h
    · exact hsrc h h0
  unfold Dev.calOpen
  rw [if_neg (Dev.not_foreign hb), if_neg hadmit]
  refine ⟨fun hr => ?_, fun r hr => ?_⟩
  all_goals rw [hr]
  rfl

/-- A refusal fits RESULT (Table 6-5). -/
theorem Dev.calRefusal_lt {d : Dev} {a : Afe} {refresh : Bool} {r : Nat} (h : d.calRefusal a refresh = some r) : r < 16 := by
  have hr : r = 9 ∨ r = 10 ∨ r = 11 := by
    unfold Dev.calRefusal at h
    dsimp only at h
    split_ifs at h <;> cases h <;> decide
  omega

/-- BEGIN or REFRESH opens its session, and STATE reads entering. -/
theorem State.lift_opens {d : Dev} (q : List Instr) {a : Afe} {refresh : Bool} (h : d.accepts (CAL_CTRL_STEP a))
    (hb : a ∈ d.banks) (hi : d.calIdle a = true) (hsrc : refresh = true → d.get (CAL_STAT_SRC a) ≠ 0)
    (hr : d.calRefusal a refresh = none) :
    ∃ t, (⟨d, q⟩ : State).lift (Dev.actWrite (CAL_CTRL_STEP a) (fun e => e.calOpen a refresh)) = .next t
      ∧ t.dev.get (CAL_STAT_STATE a) = 1 ∧ (t.dev.cal a).sess = some (d.newSession a refresh) := by
  refine ⟨_, State.lift_takes_grow q h ((Dev.calOpen_idle hb hi hsrc).1 hr) (((Dev.Grow.refl d).setSess ..).put ..), ?_,
    by simp⟩
  exact (Dev.commandDone_get _ _ (by cases a <;> decide)).trans (Dev.get_put_same _ _ _ rfl)

/-- A refused BEGIN shows its RESULT and opens nothing. -/
theorem exec_calBegin_refused {d : Dev} (q : List Instr) {a : Afe} {r : Nat} (h : d.accepts (CAL_CTRL_STEP a))
    (hb : a ∈ d.banks) (hi : d.calIdle a = true) (hr : d.calRefusal a false = some r) :
    ∃ t, exec (.calBegin a) ⟨d, q⟩ = .next t ∧ t.dev.get (CAL_STAT_RESULT a) = r ∧ t.dev.cal a = d.cal a := by
  refine ⟨_, State.lift_takes_grow q h ((Dev.calOpen_idle hb hi (by simp)).2 r hr) (((Dev.Grow.refl d).put ..).raise ..),
    ?_, by simp⟩
  rw [Dev.commandDone_get _ _ (by cases a <;> decide), Dev.raise_get _ _ _ _ _ (by cases a <;> decide)]
  exact (Dev.get_put_same _ _ _ rfl).trans (Nat.mod_eq_of_lt (Dev.calRefusal_lt hr))

theorem calFactoryDev_idle {d : Dev} {a : Afe} (hb : a ∈ d.banks) (hi : d.calIdle a = true) :
    calFactoryDev a d = (d.setCal a { d.cal a with factory := true, factoryIcal := d.bit (CAL_CFG_ICAL a) }).put
      (CAL_STAT_STATE a) 7 := by
  unfold calFactoryDev
  rw [if_neg (Dev.not_foreign hb), if_neg (by simp [hi])]

/-! ## Steps of an open session (R155, R161, R165) -/

theorem Dev.calPoint_ready {d : Dev} {a : Afe} {s : CalSess} (hi : Bool) (hb : a ∈ d.banks)
    (hs : (d.cal a).sess = some s) (hr : s.refresh = false) (hp : s.phase = .ready) (he : s.ending = none) :
    d.calPoint a hi = (d.setSess a (some { s with phase := if hi then .hi else .lo, reads := [], discard := false })).put
      (CAL_STAT_STATE a) (if hi then 4 else 3) := by
  unfold Dev.calPoint
  rw [if_neg (Dev.not_foreign hb), hs]
  exact if_neg (by simp [hr, hp, he])

/-- ABORT keeps the session until its boundary, with the RESULT of an abort. -/
theorem calAbortDev_open {d : Dev} {a : Afe} {s : CalSess} (hb : a ∈ d.banks) (hs : (d.cal a).sess = some s)
    (he : s.ending = none) : calAbortDev a d = d.setSess a (some { s with ending := some 2 }) := by
  unfold calAbortDev
  rw [if_neg (Dev.not_foreign hb), if_neg (by simp [Dev.not_calIdle hs]), Dev.calEnding_open 2 hs he]

/-- APPLY with both points measured computes the new set under STATE applying: a set that passes has its references
measured next, and one that fails is rejected. -/
theorem calApplyDev_measured {d : Dev} {a : Afe} {s : CalSess} {lo hi : List Int} (hb : a ∈ d.banks)
    (hs : (d.cal a).sess = some s) (hr : s.refresh = false) (hp : s.phase = .ready ∨ s.phase = .lo ∨ s.phase = .hi)
    (he : s.ending = none) (hlo : s.mlo = some lo) (hhi : s.mhi = some hi) :
    (∀ set, (d.put (CAL_STAT_STATE a) 7).newSet a s lo hi = (set, none) →
      calApplyDev a d = (d.put (CAL_STAT_STATE a) 7).setSess a (some { s with
        phase := .refs, set := some set, reads := [], discard := true }))
    ∧ (∀ set k r, (d.put (CAL_STAT_STATE a) 7).newSet a s lo hi = (set, some (k, r)) →
      calApplyDev a d = (d.put (CAL_STAT_STATE a) 7).calReject a k r) := by
  unfold calApplyDev
  rw [if_neg (Dev.not_foreign hb), hs]
  dsimp only
  rw [hlo, hhi]
  dsimp only
  rw [if_neg (by simp [hr, hp, he])]
  exact ⟨fun set h => by rw [h], fun set k r h => by rw [h]⟩

/-- APPLY of a set that passes its checks. -/
theorem exec_calApply_passes {d : Dev} (q : List Instr) {a : Afe} {s : CalSess} {lo hi : List Int} {set : TrimSet}
    (h : d.accepts (CAL_CTRL_STEP a)) (hb : a ∈ d.banks) (hs : (d.cal a).sess = some s) (hr : s.refresh = false)
    (hp : s.phase = .ready ∨ s.phase = .lo ∨ s.phase = .hi) (he : s.ending = none) (hlo : s.mlo = some lo)
    (hhi : s.mhi = some hi) (hset : (d.put (CAL_STAT_STATE a) 7).newSet a s lo hi = (set, none)) :
    exec (.calApply a) ⟨d, q⟩ = .next ⟨((d.put (CAL_STAT_STATE a) 7).setSess a (some { s with
      phase := .refs, set := some set, reads := [], discard := true })).commandDone, q⟩ :=
  State.lift_takes_grow q h ((calApplyDev_measured hb hs hr hp he hlo hhi).1 set hset)
    (((Dev.Grow.refl d).put ..).setSess ..)

/-- The channel that a new set fails on takes part in the session. -/
theorem Dev.newSet_fails_mem {d : Dev} {a : Afe} {s : CalSess} {lo hi : List Int} {set : TrimSet} {k r : Nat}
    (h : d.newSet a s lo hi = (set, some (k, r))) : k ∈ d.calChannels a s.ical := by
  have hall : ∀ x, (d.newSet a s lo hi).2 = some x → x.1 ∈ d.calChannels a s.ical := by
    unfold Dev.newSet
    refine List.foldlRecOn (motive := fun acc : TrimSet × Option (Nat × Nat) =>
      ∀ x, acc.2 = some x → x.1 ∈ d.calChannels a s.ical) _ _ (by simp) fun acc hacc j hj x hx => ?_
    dsimp only at hx
    split at hx
    · cases hx
      exact hj
    · exact hacc x hx
  exact hall (k, r) (by rw [h])

theorem Dev.Grow.calReject {d e : Dev} (a : Afe) (k r : Nat) (h : Dev.Grow d e) : Dev.Grow d (e.calReject a k r) :=
  ((h.put ..).calEnding ..).raise ..

/-- APPLY of a set that fails: the session ends with the reason, and CH names the channel (R167). -/
theorem exec_calApply_rejects {d : Dev} (q : List Instr) {a : Afe} {s : CalSess} {lo hi : List Int} {set : TrimSet}
    {k r : Nat} (h : d.accepts (CAL_CTRL_STEP a)) (hb : a ∈ d.banks) (hs : (d.cal a).sess = some s)
    (hr : s.refresh = false) (hp : s.phase = .ready ∨ s.phase = .lo ∨ s.phase = .hi) (he : s.ending = none)
    (hlo : s.mlo = some lo) (hhi : s.mhi = some hi)
    (hset : (d.put (CAL_STAT_STATE a) 7).newSet a s lo hi = (set, some (k, r))) :
    ∃ t, exec (.calApply a) ⟨d, q⟩ = .next t ∧ (t.dev.cal a).sess = some { s with ending := some r }
      ∧ t.dev.get (CAL_STAT_CH a) = k := by
  have hk : k ≤ 19 := Dev.calChannels_le (Dev.newSet_fails_mem hset)
  have hend := Dev.calEnding_open (d := (d.put (CAL_STAT_STATE a) 7).put (CAL_STAT_CH a) k) r (by simpa using hs) he
  refine ⟨_, State.lift_takes_grow q h ((calApplyDev_measured hb hs hr hp he hlo hhi).2 set k r hset)
    (((Dev.Grow.refl d).put ..).calReject ..), ?_, ?_⟩
  · simp [Dev.calReject, hend]
  · rw [Dev.commandDone_get _ _ (by cases a <;> decide), Dev.calReject, Dev.raise_get _ _ _ _ _ (by cases a <;> decide),
      hend, Dev.get_setSess]
    exact (Dev.get_put_same _ _ _ rfl).trans (Nat.mod_eq_of_lt (by change k < 32; omega))

/-- Settles O21: the steps are taken by the state of the bank: idle, READY, a point measured anew, any. -/
theorem calibrationStepsComplete : Obligations.CalibrationStepsComplete := by
  unfold Obligations.CalibrationStepsComplete
  refine ⟨fun d q a h hb hi => ?idle, fun d q a s h hb hs hr hp he => ?ready,
    fun d q a s lo hi h hb hs hr hp he hlo hhi set hset => exec_calApply_passes q h hb hs hr (.inr hp) he hlo hhi hset,
    fun d q a code h hb hc => State.lift_seqErr q h (calStepUnlistedDev_ignored hb hc)⟩
  case idle =>
    have hclosed : (d.cal a).sess = none := Dev.calIdle_session hi
    refine ⟨fun hr => ?_, fun r hr => exec_calBegin_refused q h hb hi hr, fun hsrc hr => ?_,
      State.lift_takes_grow q h (calFactoryDev_idle hb hi) (((Dev.Grow.refl d).setCal ..).put ..),
      State.lift_seqErr q h (calAbortDev_idle hb hi), State.lift_seqErr q h (Dev.calPoint_closed false hb hclosed),
      State.lift_seqErr q h (Dev.calPoint_closed true hb hclosed), State.lift_seqErr q h (calApplyDev_closed hb hclosed)⟩
    · obtain ⟨t, ht, hstate, hsess⟩ := State.lift_opens q (refresh := false) h hb hi (by simp) hr
      exact ⟨t, _, ht, hstate, hsess, rfl, rfl, rfl, rfl, rfl, rfl⟩
    · obtain ⟨t, ht, hstate, hsess⟩ := State.lift_opens q (refresh := true) h hb hi (fun _ => hsrc) hr
      exact ⟨t, _, ht, hstate, hsess, rfl, rfl, rfl⟩
  case ready =>
    have hbusy : d.calIdle a = false := Dev.not_calIdle hs
    have hpoint (b : Bool) := Dev.calPoint_ready b hb hs hr hp he
    exact ⟨State.lift_takes_grow q h (hpoint false) (((Dev.Grow.refl d).setSess ..).put ..),
      State.lift_takes_grow q h (hpoint true) (((Dev.Grow.refl d).setSess ..).put ..),
      State.lift_takes_grow q h (calAbortDev_open hb hs he) ((Dev.Grow.refl d).setSess ..),
      State.lift_seqErr q h (Dev.calOpen_busy false hb hbusy), State.lift_seqErr q h (Dev.calOpen_busy true hb hbusy),
      State.lift_seqErr q h (calFactoryDev_busy hb hbusy),
      fun lo hi hlo hhi => ⟨fun set => exec_calApply_passes q h hb hs hr (.inl hp) he hlo hhi,
        fun set k r => exec_calApply_rejects q h hb hs hr (.inl hp) he hlo hhi⟩⟩

/-! ## Timeouts (R162, R163) -/

theorem calPointTimeoutDev_measuring {d : Dev} {a : Afe} {s : CalSess} (hs : (d.cal a).sess = some s)
    (he : s.ending = none) (hm : s.measuring = true) :
    calPointTimeoutDev a d = d.setSess a (some { s with ending := some 3 }) := by
  unfold calPointTimeoutDev
  rw [hs]
  exact (if_pos hm).trans (Dev.calEnding_open 3 hs he)

theorem calSessionTimeoutDev_ready {d : Dev} {a : Afe} {s : CalSess} (hs : (d.cal a).sess = some s)
    (he : s.ending = none) (hr : s.refresh = false) (hp : s.phase = .ready) :
    calSessionTimeoutDev a d = d.setSess a (some { s with ending := some 6 }) := by
  unfold calSessionTimeoutDev
  rw [hs]
  exact (if_pos ⟨by simp [hr], hp⟩).trans (Dev.calEnding_open 6 hs he)

/-! ## Readings (R161) -/

/-- The first reading after a switch of inputs is discarded. -/
theorem calReadingEndDev_discards {d : Dev} {a : Afe} {s : CalSess} (codes : List Int) (hs : (d.cal a).sess = some s)
    (hm : s.measuring = true) (hd : s.discard = true) :
    calReadingEndDev a codes d = d.setSess a (some { s with discard := false }) := by
  unfold calReadingEndDev
  rw [hs]
  exact (if_neg (by simp [hm])).trans (if_pos hd)

/-- The session with one reading more, of which the last STK count. -/
def CalSess.took (s : CalSess) (codes : List Int) : CalSess := { s with reads := (codes :: s.reads).take s.stk }

/-- The last STK readings are there, and each taking-part channel lies within its spread. -/
def Dev.pointIsStable (d : Dev) (a : Afe) (s : CalSess) : Prop :=
  s.reads.length = s.stk ∧ ∀ k ∈ d.calChannels a s.ical, spread (chanReads s.reads k) ≤ (s.stab : Int)

/-- A reading that counts is taken, and the point is over once it is stable. -/
theorem calReadingEndDev_takes {d : Dev} {a : Afe} {s : CalSess} (codes : List Int) (hs : (d.cal a).sess = some s)
    (hm : s.measuring = true) (hd : s.discard = false) :
    (¬ d.pointIsStable a (s.took codes) → calReadingEndDev a codes d = d.setSess a (some (s.took codes)))
    ∧ (d.pointIsStable a (s.took codes) →
      calReadingEndDev a codes d = (d.setSess a (some (s.took codes))).pointStable a (s.took codes)) := by
  have hjudge (e : Dev) (x : CalSess) : (x.reads.length = x.stk ∧ ((e.setSess a (some x)).calChannels a x.ical).all
      (fun k => decide (spread (chanReads x.reads k) ≤ (x.stab : Int))) = true) ↔ e.pointIsStable a x := by
    rw [Dev.pointIsStable, Dev.calChannels_setSess, List.all_eq_true]
    simp only [decide_eq_true_eq]
  unfold calReadingEndDev
  rw [hs]
  dsimp only
  rw [if_neg (by simp [hm]), if_neg (by simp [hd])]
  exact ⟨fun h => if_neg (mt (hjudge d (s.took codes)).1 h), fun h => if_pos ((hjudge d (s.took codes)).2 h)⟩

/-- The mean of a channel's readings, for CAL_MEAS. -/
def CalSess.mean (s : CalSess) (k : Nat) : Int := roundDiv ((chanReads s.reads k).foldl (· + ·) 0) s.stk

/-- The means of a stable point by channel, zero for a channel that takes no part. -/
def Dev.pointMeans (d : Dev) (a : Afe) (s : CalSess) : List Int :=
  (rangeL 1 19).map (fun k => if (d.calChannels a s.ical).contains k then s.mean k else 0)

/-- A stable lower point: CAL_MEAS and the session take the means, and STATE reads READY. -/
theorem Dev.pointStable_lo {d : Dev} {a : Afe} {s : CalSess} (hp : s.phase = .lo) :
    d.pointStable a s = ((d.each (d.calChannels a s.ical) (fun e k => e.putS (CAL_MEAS a k) (s.mean k))).setSess a
      (some { s with reads := [], mlo := some (d.pointMeans a s), phase := .ready })).put (CAL_STAT_STATE a) 2 := by
  unfold Dev.pointStable
  dsimp only
  rw [hp]
  rfl

/-- CAL_READING_END before the last of STK readings. -/
theorem exec_calReadingEnd_keeps {d : Dev} (q : List Instr) {a : Afe} {s : CalSess} (codes : List Int) (hset : d.settled)
    (hs : (d.cal a).sess = some s) (hm : s.measuring = true) (hd : s.discard = false)
    (hfew : s.reads.length + 1 < s.stk) :
    exec (.calReadingEnd a codes) ⟨d, q⟩ = .next ⟨d.setSess a (some { s with reads := codes :: s.reads }), q⟩ := by
  have htook : s.took codes = { s with reads := codes :: s.reads } := by
    rw [CalSess.took, List.take_of_length_le (by rw [List.length_cons]; omega)]
  have hnot : ¬ d.pointIsStable a (s.took codes) := by
    rintro ⟨hlen, -⟩
    simp only [htook, List.length_cons] at hlen
    omega
  rw [← htook]
  exact State.lift_grow q hset ((calReadingEndDev_takes codes hs hm hd).1 hnot) ((Dev.Grow.refl d).setSess ..)

/-- CAL_READING_END that makes the lower point stable. -/
theorem exec_calReadingEnd_stable {d : Dev} (q : List Instr) {a : Afe} {s : CalSess} (codes : List Int) (hset : d.settled)
    (hs : (d.cal a).sess = some s) (hm : s.measuring = true) (hd : s.discard = false) (hp : s.phase = .lo)
    (hst : d.pointIsStable a (s.took codes)) :
    ∃ t, exec (.calReadingEnd a codes) ⟨d, q⟩ = .next t ∧ t.dev.get (CAL_STAT_STATE a) = 2
      ∧ (t.dev.cal a).sess = some { s with reads := [], mlo := some (d.pointMeans a (s.took codes)), phase := .ready } := by
  have hdev := ((calReadingEndDev_takes codes hs hm hd).2 hst).trans (Dev.pointStable_lo (s := s.took codes) hp)
  refine ⟨_, State.lift_grow q hset hdev ?_, Dev.get_put_same _ _ _ rfl, ?_⟩
  · exact ((((Dev.Grow.refl d).setSess ..).each _ _ fun e k he => he.putS ..).setSess ..).put ..
  · simp [Dev.pointMeans, CalSess.took]

/-! ## The end of a store (R168, R170) -/

/-- The device with a bank's stored set. -/
def Dev.setStored (d : Dev) (a : Afe) (t : TrimSet) : Dev :=
  match a with
  | .L => { d with nvm := { d.nvm with calL := t } }
  | .U => { d with nvm := { d.nvm with calU := t } }

@[simp] theorem Dev.cal_setStored (d : Dev) (a : Afe) (t : TrimSet) (b : Afe) : (d.setStored a t).cal b = d.cal b := by
  cases a <;> cases b <;> rfl
@[simp] theorem Dev.storedSet_setStored (d : Dev) (a : Afe) (t : TrimSet) : (d.setStored a t).storedSet a = t := by
  cases a <;> rfl
@[simp] theorem Dev.storedSet_setCal (d : Dev) (a : Afe) (c : CalSt) (b : Afe) :
    (d.setCal a c).storedSet b = d.storedSet b := by cases a <;> cases b <;> rfl
@[simp] theorem Dev.storedSet_put (d : Dev) (f : Fld) (v : Nat) (a : Afe) : (d.put f v).storedSet a = d.storedSet a := by
  cases a <;> rfl
@[simp] theorem Dev.storedSet_raise (d : Dev) (code src : Nat) (items : List Nat) (a : Afe) :
    (d.raise code src items).storedSet a = d.storedSet a := by cases a <;> simp [Dev.storedSet]

theorem Dev.setStored_keeps (d : Dev) (a : Afe) (t : TrimSet) : (d.setStored a t).asks = d.asks
    ∧ (d.setStored a t).build = d.build ∧ (d.setStored a t).role = d.role ∧ (d.setStored a t).fz = d.fz := by
  cases a <;> exact ⟨rfl, rfl, rfl, rfl⟩

/-- The device after a store that ended, before its event. -/
def Dev.storeOver (d : Dev) (a : Afe) (ok : Bool) (t : TrimSet) : Dev :=
  let c := d.setCal a { d.cal a with store := none }
  ((if ok then c.setStored a t else c).put (CAL_STAT_RESULT a) (if ok then 1 else 12)).put (CAL_STAT_STATE a) 0

theorem calNvmStoreDoneDev_stores {d : Dev} {a : Afe} {t : TrimSet} {ical : Bool} (ok : Bool)
    (hs : (d.cal a).store = some (t, ical)) : calNvmStoreDoneDev a ok d = (d.storeOver a ok t).raise 0x1010 (afeSrc a)
      [(d.storeOver a ok t).calStat a, if ical then 1 else 0, (d.storeOver a ok t).get (CAL_STAT_SRC a)] := by
  unfold calNvmStoreDoneDev
  rw [hs]
  cases a <;> rfl

theorem Dev.storeOver_spec (d : Dev) (a : Afe) (ok : Bool) (t : TrimSet) :
    ((d.storeOver a ok t).cal a).store = none ∧ (d.storeOver a ok t).get (CAL_STAT_STATE a) = 0
      ∧ (d.storeOver a ok t).get (CAL_STAT_RESULT a) = (if ok then 1 else 12)
      ∧ (d.storeOver a ok t).storedSet a = (if ok then t else d.storedSet a) := by
  unfold Dev.storeOver
  refine ⟨?_, Dev.get_put_same _ _ _ rfl, ?_, ?_⟩
  · cases ok <;> simp
  · refine (Dev.get_put_apart _ _ _ _ rfl rfl (by cases a <;> decide)).trans ((Dev.get_put_same _ _ _ rfl).trans ?_)
    cases ok <;> rfl
  · cases ok <;> simp

/-- The end of a store asks for nothing and leaves the part, its role and its fuses. -/
theorem Dev.storeOver_keeps (d : Dev) (a : Afe) (ok : Bool) (t : TrimSet) : (d.storeOver a ok t).asks = d.asks
    ∧ (d.storeOver a ok t).build = d.build ∧ (d.storeOver a ok t).role = d.role ∧ (d.storeOver a ok t).fz = d.fz := by
  have hcal := (Dev.Grow.refl d).setCal a { d.cal a with store := none }
  obtain ⟨hasks, hbuild, hrole, hfz⟩ := (d.setCal a { d.cal a with store := none }).setStored_keeps a t
  unfold Dev.storeOver
  simp only [Dev.put_asks, Dev.put_build, Dev.put_role, Dev.put_fz]
  cases ok
  · exact ⟨hcal.asks, hcal.build, hcal.role, hcal.fz⟩
  · exact ⟨hasks.trans hcal.asks, hbuild.trans hcal.build, hrole.trans hcal.role, hfz.trans hcal.fz⟩

/-- CAL_NVM_STORE_DONE of the store in progress. -/
theorem exec_calNvmStoreDone {d : Dev} (q : List Instr) {a : Afe} {set : TrimSet} {ical : Bool} (ok : Bool)
    (hset : d.settled) (hs : (d.cal a).store = some (set, ical)) :
    ∃ t, exec (.calNvmStoreDone a ok) ⟨d, q⟩ = .next t ∧ (t.dev.cal a).store = none ∧ t.dev.get (CAL_STAT_STATE a) = 0
      ∧ t.dev.get (CAL_STAT_RESULT a) = (if ok then 1 else 12)
      ∧ t.dev.storedSet a = (if ok then set else d.storedSet a) := by
  obtain ⟨hasks, hbuild, hrole, hfz⟩ := d.storeOver_keeps a ok set
  obtain ⟨hstore, hstate, hresult, hstored⟩ := d.storeOver_spec a ok set
  refine ⟨_, State.lift_runs d q _ _ (calNvmStoreDoneDev_stores ok hs) ?_ ?_ ?_ ?_, ?_, ?_, ?_, ?_⟩
  · rw [Dev.raise_asks, hasks, hset]
  · rw [Dev.raise_build, hbuild]
  · rw [Dev.raise_role, hrole]
  · rw [Dev.raise_fz, hfz]
  · exact (congrArg CalSt.store (Dev.cal_raise ..)).trans hstore
  · exact (Dev.raise_get _ _ _ _ _ (by cases a <;> decide)).trans hstate
  · exact (Dev.raise_get _ _ _ _ _ (by cases a <;> decide)).trans hresult
  · exact (Dev.storedSet_raise ..).trans hstored

/-- Settles O22: a timeout ends the session, a reading is discarded, kept or the last of its point, and a store ends. -/
theorem calibrationProgressCompletes : Obligations.CalibrationProgressCompletes := by
  unfold Obligations.CalibrationProgressCompletes
  refine ⟨fun d q a s hset hs he => ⟨fun hm => ?_, fun hr hp => ?_, fun codes hm hd => ?_,
    fun codes hm hd hfew => exec_calReadingEnd_keeps q codes hset hs hm hd hfew, fun codes hm hd hp hlen hspread => ?_⟩,
    fun d q a set ical ok hset hs => exec_calNvmStoreDone q ok hset hs⟩
  · exact State.lift_grow q hset (calPointTimeoutDev_measuring hs he hm) ((Dev.Grow.refl d).setSess ..)
  · exact State.lift_grow q hset (calSessionTimeoutDev_ready hs he hr hp) ((Dev.Grow.refl d).setSess ..)
  · exact State.lift_grow q hset (calReadingEndDev_discards codes hs hm hd) ((Dev.Grow.refl d).setSess ..)
  · obtain ⟨t, ht, hstate, hsess⟩ := exec_calReadingEnd_stable q codes hset hs hm hd hp ⟨hlen, hspread⟩
    exact ⟨t, _, ht, hstate, hsess, rfl, rfl, rfl⟩

end Sys2Proof.Machine
end

section
/-!
SUPPORT. Active balancing (07, R176 to R190): what a change of the stages, the end of a plan and the end of a switching
period leave as they were, and what a die's meters show.
-/

namespace Sys2Proof.Machine

/-! ## A change of the stages -/

/-- What every step of a fold leaves as it was, the fold leaves as it was. -/
theorem Dev.each_same {α β : Type} (p : Dev → β) {d : Dev} {xs : List α} {f : Dev → α → Dev}
    (h : ∀ e, ∀ x ∈ xs, p (f e x) = p e) : p (d.each xs f) = p d :=
  List.foldlRecOn xs f (motive := fun e => p e = p d) rfl fun e he x hx => (h e x hx).trans he

/-- A field that BPS_STAT.SW and the budget rule do not reach. -/
structure Fld.OffStages (f : Fld) : Prop where
  wf    : f.wf = true
  sw    : ∀ a, (BPS_STAT_SW a).apart f = true
  moved : f.addr ∉ moveRegs

theorem Dev.showSw_get (d : Dev) {f : Fld} (hf : f.OffStages) : d.showSw.get f = d.get f := by
  unfold Dev.showSw
  refine Dev.each_same (fun e => e.get f) fun e a _ => ?_
  split
  · exact Dev.get_put_apart _ _ _ _ (by cases a <;> rfl) hf.wf (hf.sw a)
  · rfl

@[simp] theorem Dev.showSw_bal (d : Dev) : d.showSw.bal = d.bal := by
  unfold Dev.showSw
  refine Dev.each_same Dev.bal fun e a _ => ?_
  split <;> rfl

theorem Dev.seeStages_keeps (d : Dev) {f : Fld} (hf : f.OffStages) : d.seeStages.get f = d.get f := by
  unfold Dev.seeStages
  exact Dev.showSw_get _ hf

/-- Of the plan, a change of the stages moves only which stages switch, complete their period or belong to a sweep. -/
theorem Dev.seeStages_bal (d : Dev) :
    ∃ l t s, d.seeStages.bal = { d.bal with live := l, tail := t, swept := s } := by
  unfold Dev.seeStages
  exact ⟨_, _, _, Dev.showSw_bal _⟩

@[simp] theorem Dev.seeStages_led (d : Dev) : d.seeStages.bal.led = d.bal.led := by
  obtain ⟨l, t, s, h⟩ := d.seeStages_bal
  rw [h]

@[simp] theorem Dev.seeStages_stop (d : Dev) : d.seeStages.bal.stop = d.bal.stop := by
  obtain ⟨l, t, s, h⟩ := d.seeStages_bal
  rw [h]

/-- A stage that switched goes on, or completes its period (R179). -/
theorem Dev.seeStages_period {d : Dev} {n : Nat} (h : n ∈ d.bal.live) :
    n ∈ d.seeStages.bal.live ∨ ∃ t ∈ d.seeStages.bal.tail, t.1 = n := by
  unfold Dev.seeStages
  extract_lets live fresh swept was gone
  rw [Dev.showSw_bal]
  by_cases hlive : n ∈ live
  · exact .inl hlive
  · have hgone : n ∈ gone := List.mem_filter.2 ⟨h, by simp [hlive]⟩
    exact .inr ⟨(n, !was n), List.mem_append_right _ (List.mem_map.2 ⟨n, hgone, rfl⟩), rfl⟩

/-! ## The end of a plan (R186) -/

/-- The cells that take part in the plan take STOPPED. -/
def Dev.cellsStopped (d : Dev) : Dev :=
  d.each (d.allCells.filter d.inPlan) (fun e n => e.put (BAL_CSTS_STATE n) csStopped)

/-- BAL_STAT shows the end of the plan and its cause. -/
def Dev.endShown (d : Dev) (cause : Nat) : Dev :=
  (((d.put BAL_STAT_ACTIVE 0).put BAL_STAT_ENDC cause).put BAL_STAT_PAUSE 0).put BAL_STAT_PAUSED 0

/-- The plan is over, before the event, the stages and the modes follow. -/
def Dev.planOver (d : Dev) (cause : Nat) : Dev :=
  { d.cellsStopped.endShown cause with bal := { (d.cellsStopped.endShown cause).bal with stop := false, held := false } }

theorem Dev.balEnd_eq (d : Dev) (cause : Nat) : ∃ items,
    d.balEnd cause = ((((d.planOver cause).raise 0x4002 0 items).seeStages).budgetEval 3).seeMclk := ⟨_, rfl⟩

theorem Dev.seeMclk_eq (d : Dev) : ∃ w, d.seeMclk = { d with win := w } := by
  unfold Dev.seeMclk
  split
  · exact ⟨d.win, rfl⟩
  · exact ⟨_, rfl⟩

theorem Dev.balEnd_get (d : Dev) (cause : Nat) {f : Fld} (hf : f.OffStages) :
    (d.balEnd cause).get f = (d.cellsStopped.endShown cause).get f := by
  obtain ⟨items, h⟩ := d.balEnd_eq cause
  obtain ⟨w, hw⟩ := Dev.seeMclk_eq ((((d.planOver cause).raise 0x4002 0 items).seeStages).budgetEval 3)
  rw [h, hw]
  calc (((d.planOver cause).raise 0x4002 0 items).seeStages.budgetEval 3).get f
      = ((d.planOver cause).raise 0x4002 0 items).seeStages.get f := Dev.budgetEval_get _ _ _ hf.moved
    _ = ((d.planOver cause).raise 0x4002 0 items).get f := Dev.seeStages_keeps _ hf
    _ = (d.planOver cause).get f := (Dev.Sent.raise ..).moved.get f hf.moved
    _ = (d.cellsStopped.endShown cause).get f := Dev.get_with_bal ..

@[simp] theorem Dev.cellsStopped_bal (d : Dev) : d.cellsStopped.bal = d.bal :=
  Dev.each_same Dev.bal fun _ _ _ => Dev.put_bal ..

/-- The end of a plan leaves the ledger, and no stop waits after it. -/
theorem Dev.balEnd_bal (d : Dev) (cause : Nat) :
    (d.balEnd cause).bal.led = d.bal.led ∧ (d.balEnd cause).bal.stop = false := by
  obtain ⟨items, h⟩ := d.balEnd_eq cause
  obtain ⟨w, hw⟩ := Dev.seeMclk_eq ((((d.planOver cause).raise 0x4002 0 items).seeStages).budgetEval 3)
  rw [h, hw]
  simp [Dev.planOver, Dev.endShown]

theorem BAL_STAT_offStages : ∀ f ∈ [BAL_STAT_ACTIVE, BAL_STAT_ENDC, BAL_STAT_PAUSE], f.OffStages := by
  intro f hf
  fin_cases hf <;> exact ⟨rfl, fun a => by cases a <;> decide, by decide⟩

theorem Dev.endShown_stat (d : Dev) {cause : Nat} (h : cause < 16) : (d.endShown cause).get BAL_STAT_ACTIVE = 0
    ∧ (d.endShown cause).get BAL_STAT_ENDC = cause ∧ (d.endShown cause).get BAL_STAT_PAUSE = 0 := by
  unfold Dev.endShown
  refine ⟨?_, ?_, ?_⟩
  · rw [Dev.get_put_apart _ _ _ _ rfl rfl rfl, Dev.get_put_apart _ _ _ _ rfl rfl rfl,
      Dev.get_put_apart _ _ _ _ rfl rfl rfl]
    exact Dev.get_put_same _ _ _ rfl
  · rw [Dev.get_put_apart _ _ _ _ rfl rfl rfl, Dev.get_put_apart _ _ _ _ rfl rfl rfl, Dev.get_put_same _ _ _ rfl]
    exact Nat.mod_eq_of_lt h
  · rw [Dev.get_put_apart _ _ _ _ rfl rfl rfl]
    exact Dev.get_put_same _ _ _ rfl

/-- BAL_STAT after the end of a plan. -/
theorem Dev.balEnd_stat (d : Dev) {cause : Nat} (h : cause < 16) : (d.balEnd cause).get BAL_STAT_ACTIVE = 0
    ∧ (d.balEnd cause).get BAL_STAT_ENDC = cause ∧ (d.balEnd cause).get BAL_STAT_PAUSE = 0 := by
  obtain ⟨hactive, hendc, hpause⟩ := d.cellsStopped.endShown_stat h
  have hkeep : ∀ f ∈ [BAL_STAT_ACTIVE, BAL_STAT_ENDC, BAL_STAT_PAUSE],
      (d.balEnd cause).get f = (d.cellsStopped.endShown cause).get f :=
    fun f hf => d.balEnd_get cause (BAL_STAT_offStages f hf)
  exact ⟨(hkeep _ (by simp)).trans hactive, (hkeep _ (by simp)).trans hendc, (hkeep _ (by simp)).trans hpause⟩

theorem BAL_CSTS_STATE_offStages {n : Nat} (h : n ≤ 36) : (BAL_CSTS_STATE n).OffStages := by
  revert n
  have hall : ∀ n < 37, (BAL_CSTS_STATE n).wf = true
      ∧ (∀ a ∈ [Afe.L, .U], (BPS_STAT_SW a).apart (BAL_CSTS_STATE n) = true)
      ∧ (BAL_CSTS_STATE n).addr ∉ moveRegs := by decide
  intro n hn
  obtain ⟨hwf, hsw, hmoved⟩ := hall n (by omega)
  exact ⟨hwf, fun a => hsw a (by cases a <;> simp), hmoved⟩

theorem one_le_of_mem_allCells {d : Dev} {n : Nat} (h : n ∈ d.allCells) : 1 ≤ n := by
  unfold Dev.allCells rangeL at h
  obtain ⟨k, -, rfl⟩ := List.mem_map.1 h
  exact Nat.le_add_left ..

/-- The cells have registers of their own. -/
theorem BAL_CSTS_STATE_apart {m n : Nat} (hm : 1 ≤ m) (hn : 1 ≤ n) (h : m ≠ n) :
    (BAL_CSTS_STATE m).apart (BAL_CSTS_STATE n) = true := by
  have haddr : 0x28400 + 4 * (m - 1) ≠ 0x28400 + 4 * (n - 1) := by omega
  unfold Fld.apart
  rw [decide_eq_true (show (BAL_CSTS_STATE m).addr ≠ (BAL_CSTS_STATE n).addr from haddr)]
  rfl

theorem Dev.cellsStopped_state {d : Dev} {n : Nat} (hn : n ∈ d.allCells) (hp : d.inPlan n = true) :
    d.cellsStopped.cellState n = csStopped := by
  refine foldl_sets (P := fun e : Dev => e.cellState n = csStopped) d (List.mem_filter.2 ⟨hn, hp⟩)
    (fun c => Dev.get_put_same _ _ _ rfl) fun c hc m hm => ?_
  by_cases hmn : m = n
  · rw [hmn]
    exact Dev.get_put_same _ _ _ rfl
  · exact (Dev.get_put_apart _ _ _ _ rfl rfl (BAL_CSTS_STATE_apart (one_le_of_mem_allCells (List.mem_of_mem_filter hm))
      (one_le_of_mem_allCells hn) hmn)).trans hc

/-- The cells of a plan that ends take STOPPED (Table 7-1). -/
theorem Dev.balEnd_cellState {d : Dev} (cause : Nat) {n : Nat} (hn : n ∈ d.allCells) (hp : d.inPlan n = true) :
    (d.balEnd cause).cellState n = csStopped := by
  have hshown : (d.cellsStopped.endShown cause).get (BAL_CSTS_STATE n) = d.cellsStopped.get (BAL_CSTS_STATE n) := by
    have hkeep (e : Dev) {g : Fld} (v : Nat) (hg : g.addr = 0x28018) :
        (e.put g v).get (BAL_CSTS_STATE n) = e.get (BAL_CSTS_STATE n) := by
      unfold Dev.get
      rw [Dev.word_put_other _ _ _ _ (by show 0x28400 + 4 * (n - 1) ≠ g.addr; omega)]
    unfold Dev.endShown
    rw [hkeep _ _ rfl, hkeep _ _ rfl, hkeep _ _ rfl, hkeep _ _ rfl]
  calc (d.balEnd cause).cellState n
      = (d.cellsStopped.endShown cause).get (BAL_CSTS_STATE n) :=
        d.balEnd_get cause (BAL_CSTS_STATE_offStages (mem_allCells hn))
    _ = d.cellsStopped.cellState n := hshown
    _ = csStopped := Dev.cellsStopped_state hn hp

/-! ## Start and stop of a plan (R181, R186) -/

section

variable {d : Dev} (q : List Instr)

theorem balStartDev_idle (h : d.planLive = false) : balStartDev d = (d.put BAL_STAT_SPEND 1).budgetEval 3 := by
  unfold balStartDev
  rw [h]
  rfl

theorem exec_balStart (hacc : d.accepts BAL_CTRL_START) (h : d.planLive = false) :
    exec .balStart ⟨d, q⟩ = .next ⟨((d.put BAL_STAT_SPEND 1).budgetEval 3).commandDone, q⟩ :=
  State.lift_takes_grow q hacc (balStartDev_idle h) (((Dev.Grow.refl d).put ..).budgetEval 3)

theorem exec_balStart_live (hacc : d.accepts BAL_CTRL_START) (h : d.planLive = true) :
    exec .balStart ⟨d, q⟩ = .next ⟨d.commandDone, q⟩ :=
  State.lift_takes_grow q hacc (if_pos h) (Dev.Grow.refl d)

/-- BAL_STOP of an active plan with no stage switching: it ends at once. -/
theorem exec_balStop_ends (hacc : d.accepts BAL_CTRL_STOP) (h : d.bit BAL_STAT_ACTIVE = true) (hlive : d.bal.live = []) :
    exec .balStop ⟨d, q⟩ = .next ⟨(d.balEnd 3).commandDone, q⟩ := by
  refine State.lift_takes_grow q hacc ?_ ((Dev.Grow.refl d).balEnd 3)
  unfold balStopDev
  rw [if_pos h, hlive]
  rfl

/-- BAL_STOP of an active plan with stages switching: it waits for the end of the period in progress. -/
theorem exec_balStop_waits (hacc : d.accepts BAL_CTRL_STOP) (h : d.bit BAL_STAT_ACTIVE = true) (hlive : d.bal.live ≠ []) :
    exec .balStop ⟨d, q⟩ = .next ⟨({ d with bal := { d.bal with stop := true } }).commandDone, q⟩ := by
  refine State.lift_takes_grow q hacc ?_ ((Dev.Grow.refl d).withBal _)
  unfold balStopDev
  rw [if_pos h]
  exact if_neg (by simpa using hlive)

/-- BAL_STOP of a pending plan takes it back. -/
theorem exec_balStop_pending (hacc : d.accepts BAL_CTRL_STOP) (h : d.bit BAL_STAT_ACTIVE = false)
    (hpend : d.bit BAL_STAT_SPEND = true) :
    exec .balStop ⟨d, q⟩ = .next ⟨((d.put BAL_STAT_SPEND 0).budgetEval 3).commandDone, q⟩ := by
  refine State.lift_takes_grow q hacc ?_ (((Dev.Grow.refl d).put ..).budgetEval 3)
  unfold balStopDev
  rw [if_neg (by simp [h]), if_pos hpend]

end

/-! ## The end of a switching period (R184, R186) -/

/-- The device at the MTICK of a period's end, where that is neither past nor beyond the next boundary. -/
def Dev.atPeriodEnd (d : Dev) (m : Nat) : Dev :=
  if d.win.opened ∧ d.nextBoundary < (m : Int) ∨ m < d.mtick then d else d.advanceTo m

/-- The device whose period ends, with the sweep's part of it done. -/
def Dev.periodAt (d : Dev) (a : Afe) (m : Nat) (ms : List StageMeter) : Dev :=
  (d.atPeriodEnd m).tonePeriod a ((d.atPeriodEnd m).periodStages a ms)

theorem Dev.tonePeriod_eq (d : Dev) (a : Afe) (ms : List StageMeter) : ∃ x, d.tonePeriod a ms = { d with imp := x } := by
  have htone (e : Dev) : ∃ x, e.toneBank a = { e with imp := x } := by
    unfold Dev.toneBank
    split
    · exact ⟨e.imp, rfl⟩
    · exact ⟨_, rfl⟩
  unfold Dev.tonePeriod
  dsimp only
  split
  · obtain ⟨x, hx⟩ := htone { d with imp := _ }
    exact ⟨x, hx⟩
  · split
    · exact ⟨_, rfl⟩
    · exact ⟨d.imp, rfl⟩

/-- Time and the sweep's part move what is no part of the plan. -/
theorem Dev.periodAt_eq (d : Dev) (a : Afe) (m : Nat) (ms : List StageMeter) : ∃ now mtick w x,
    d.periodAt a m ms = { d with now := now, mtick := mtick, win := w, imp := x } := by
  obtain ⟨x, hx⟩ := (d.atPeriodEnd m).tonePeriod_eq a ((d.atPeriodEnd m).periodStages a ms)
  unfold Dev.periodAt
  rw [hx]
  unfold Dev.atPeriodEnd
  split
  · exact ⟨d.now, d.mtick, d.win, x, rfl⟩
  · exact ⟨_, _, _, x, rfl⟩

/-- The first period of a new train begins where no stage completes an old one (R178). -/
def Dev.periodBegun (d : Dev) : Dev :=
  if d.bal.idleTo.isSome ∧ d.bal.tail.isEmpty then ({ d with bal := { d.bal with idleTo := none } }).seeStages else d

/-- What the stages of a bank metered enters the ledger and the plan. -/
def Dev.metered (d : Dev) (a : Afe) (mv : Nat) (ms : List StageMeter) : Dev :=
  (if ms.isEmpty then d else d.meterBus a mv).each ms (fun e m => (e.meterStage m).progress m)

/-- A stop that waits takes effect (R186). -/
def Dev.stopTaken (d : Dev) : Dev := if d.bal.stop ∧ d.bit BAL_STAT_ACTIVE then d.balEnd 3 else d

theorem Dev.periodEnd_runs {d : Dev} {a : Afe} (mv : Nat) (ms : List StageMeter) (hb : d.hasBpd a = true)
    (ht : d.tbRuns = true) :
    d.periodEnd a mv ms = ((d.periodBegun.metered a mv (d.periodBegun.periodStages a ms)).stopTaken).periodOver a := by
  unfold Dev.periodEnd
  rw [if_neg (by simp [hb, ht])]
  rfl

/-! What each part grows, and that the ledger moves by metering alone. -/

theorem Dev.Grow.periodBegun {d e : Dev} (h : Dev.Grow d e) : Dev.Grow d e.periodBegun := by
  unfold Dev.periodBegun
  split
  · exact (h.withBal _).seeStages
  · exact h

theorem Dev.Grow.progress {d e : Dev} (m : StageMeter) (h : Dev.Grow d e) : Dev.Grow d (e.progress m) := by
  unfold Dev.progress
  extract_lets n charge sum t plan noted shown
  split
  · exact h
  · have hshown : Dev.Grow d shown := (h.withBal _).put ..
    split
    · exact hshown.cellDone n
    · exact hshown

theorem Dev.Grow.metered {d e : Dev} (a : Afe) (mv : Nat) (ms : List StageMeter) (h : Dev.Grow d e) :
    Dev.Grow d (e.metered a mv ms) := by
  have hbus : Dev.Grow d (if ms.isEmpty then e else e.meterBus a mv) := h.ite (h.withBal _)
  exact hbus.each ms _ fun _ m hc => (hc.withBal _).progress m

theorem Dev.Grow.stopTaken {d e : Dev} (h : Dev.Grow d e) : Dev.Grow d e.stopTaken := (h.balEnd 3).ite h

theorem Dev.Grow.periodOver {d e : Dev} (a : Afe) (h : Dev.Grow d e) : Dev.Grow d (e.periodOver a) :=
  (h.withBal _).seeStages

theorem Dev.periodBegun_led (d : Dev) : d.periodBegun.bal.led = d.bal.led := by
  unfold Dev.periodBegun
  split
  · exact Dev.seeStages_led _
  · rfl

theorem Dev.cellDone_bal (d : Dev) (n : Nat) : (d.cellDone n).bal = d.bal := by
  unfold Dev.cellDone
  extract_lets e
  have he : e.bal = d.bal := Dev.put_bal ..
  split
  · exact (Dev.raise_bal ..).trans he
  · exact he

theorem Dev.progress_led (d : Dev) (m : StageMeter) : (d.progress m).bal.led = d.bal.led := by
  unfold Dev.progress
  extract_lets n charge sum t plan noted shown
  split
  · rfl
  · have hshown : shown.bal = noted.bal := Dev.put_bal ..
    split
    · rw [Dev.cellDone_bal, hshown]
    · rw [hshown]

theorem Dev.stopTaken_led (d : Dev) : d.stopTaken.bal.led = d.bal.led := by
  unfold Dev.stopTaken
  split
  · exact (d.balEnd_bal 3).1
  · rfl

theorem Dev.periodOver_led (d : Dev) (a : Afe) : (d.periodOver a).bal.led = d.bal.led := Dev.seeStages_led _

/-- A stage that switched counts among those of the period that ends, also where a new train begins. -/
theorem Dev.periodStages_begun {d : Dev} {a : Afe} {m : StageMeter} (hlive : m.cell ∈ d.bal.live)
    (hbank : bankOf m.cell = a) :
    d.periodBegun.periodStages a [m] = [m] := by
  have hperiod : m.cell ∈ d.periodBegun.bal.live ∨ ∃ t ∈ d.periodBegun.bal.tail, t.1 = m.cell := by
    unfold Dev.periodBegun
    split
    · exact Dev.seeStages_period (d := { d with bal := { d.bal with idleTo := none } }) hlive
    · exact .inl hlive
  unfold Dev.periodStages
  rw [List.filter_eq_self]
  intro x hx
  rw [List.mem_singleton.1 hx]
  simpa [hbank] using hperiod

/-- The interval of a stage with what a period metered added to it. -/
def StageLed.plus (s : StageLed) (m : StageMeter) : StageLed :=
  { s with
    qc := s.qc + m.qc, ec := s.ec + m.ec, em := s.em + m.em, es := s.es + m.es, ip2 := s.ip2 + m.ip2, is2 := s.is2 + m.is2 }

/-- The ledger of one stage that has metered a period. -/
theorem Dev.metered_led (d : Dev) (a : Afe) (mv : Nat) {m : StageMeter} (h1 : 1 ≤ m.cell)
    (hlen : m.cell ≤ d.bal.led.length) :
    (d.metered a mv [m]).bal.led[m.cell - 1]? = some ((d.stageLed m.cell).plus m) := by
  show (((d.meterBus a mv).meterStage m).progress m).bal.led[m.cell - 1]? = _
  rw [Dev.progress_led]
  exact List.getElem?_set_self (by show m.cell - 1 < d.bal.led.length; omega)

/-- SWITCHING_PERIOD_END of a die whose planner runs. -/
theorem exec_switchingPeriodEnd {d : Dev} (q : List Instr) {a : Afe} (ms : List StageMeter) (mt mv : Nat) (hs : d.settled)
    (hb : d.hasBpd a = true) (ht : d.tbRuns = true) :
    ∃ now mtick w x, let e : Dev := { d with now := now, mtick := mtick, win := w, imp := x }
      exec (.switchingPeriodEnd a ms mt mv) ⟨d, q⟩
        = .next ⟨((e.periodBegun.metered a mv (e.periodBegun.periodStages a ms)).stopTaken).periodOver a, q⟩ := by
  obtain ⟨now, mtick, w, x, he⟩ := d.periodAt_eq a mt ms
  refine ⟨now, mtick, w, x, ?_⟩
  intro e
  have hg : Dev.Grow e (((e.periodBegun.metered a mv (e.periodBegun.periodStages a ms)).stopTaken).periodOver a) :=
    (((Dev.Grow.refl e).periodBegun.metered a mv _).stopTaken).periodOver a
  refine State.lift_runs d q (switchingPeriodEndDev a mt mv ms) _ ?_ (hg.asks.trans hs) hg.build hg.role hg.fz
  show (d.periodAt a mt ms).periodEnd a mv ms = _
  rw [he]
  exact Dev.periodEnd_runs (d := e) mv ms hb ht

/-- The ledger of a stage grows by what it metered. -/
theorem exec_switchingPeriodEnd_led {d : Dev} (q : List Instr) {a : Afe} (mt mv : Nat) {m : StageMeter} (hs : d.settled)
    (hb : d.hasBpd a = true) (ht : d.tbRuns = true) (hlive : m.cell ∈ d.bal.live) (hbank : bankOf m.cell = a)
    (h1 : 1 ≤ m.cell) (hlen : m.cell ≤ d.bal.led.length) :
    ∃ t, exec (.switchingPeriodEnd a [m] mt mv) ⟨d, q⟩ = .next t
      ∧ t.dev.bal.led[m.cell - 1]? = some ((d.stageLed m.cell).plus m) := by
  obtain ⟨now, mtick, w, x, he⟩ := exec_switchingPeriodEnd q [m] mt mv hs hb ht
  refine ⟨_, he, ?_⟩
  generalize hmoved : ({ d with now := now, mtick := mtick, win := w, imp := x } : Dev) = e
  have hbal : e.bal = d.bal := by rw [← hmoved]
  have hled : e.periodBegun.bal.led = d.bal.led := e.periodBegun_led.trans (congrArg BalSt.led hbal)
  have hstage : e.periodBegun.stageLed m.cell = d.stageLed m.cell := by
    unfold Dev.stageLed
    rw [hled]
  rw [Dev.periodStages_begun (by rw [hbal]; exact hlive) hbank, Dev.periodOver_led, Dev.stopTaken_led, ← hstage]
  exact Dev.metered_led _ a mv h1 (by rw [hled]; exact hlen)

/-- A stop that waits ends the plan with the period. -/
theorem Dev.stopTaken_due {d : Dev} (hstop : d.bal.stop = true) (hact : d.bit BAL_STAT_ACTIVE = true) :
    d.stopTaken = d.balEnd 3 := if_pos ⟨hstop, hact⟩

theorem Dev.periodBegun_stop (d : Dev) :
    d.periodBegun.bal.stop = d.bal.stop ∧ d.periodBegun.bit BAL_STAT_ACTIVE = d.bit BAL_STAT_ACTIVE := by
  unfold Dev.periodBegun
  split
  · refine ⟨Dev.seeStages_stop _, ?_⟩
    unfold Dev.bit
    rw [Dev.seeStages_keeps _ (BAL_STAT_offStages _ (by simp))]
    rfl
  · exact ⟨rfl, rfl⟩

theorem exec_switchingPeriodEnd_stop {d : Dev} (q : List Instr) {a : Afe} (mt mv : Nat) (hs : d.settled)
    (hb : d.hasBpd a = true) (ht : d.tbRuns = true) (hstop : d.bal.stop = true) (hact : d.bit BAL_STAT_ACTIVE = true) :
    ∃ t, exec (.switchingPeriodEnd a [] mt mv) ⟨d, q⟩ = .next t
      ∧ t.dev.get BAL_STAT_ACTIVE = 0 ∧ t.dev.get BAL_STAT_ENDC = 3 ∧ t.dev.bal.stop = false := by
  obtain ⟨now, mtick, w, x, he⟩ := exec_switchingPeriodEnd q [] mt mv hs hb ht
  refine ⟨_, he, ?_⟩
  generalize hmoved : ({ d with now := now, mtick := mtick, win := w, imp := x } : Dev) = e
  obtain ⟨hkstop, hkact⟩ := e.periodBegun_stop
  have hends : (e.periodBegun.metered a mv (e.periodBegun.periodStages a [])).stopTaken = e.periodBegun.balEnd 3 :=
    Dev.stopTaken_due (d := e.periodBegun) (hkstop.trans (by rw [← hmoved]; exact hstop))
      (hkact.trans (by rw [← hmoved]; exact hact))
  obtain ⟨hactive, hendc, -⟩ := e.periodBegun.balEnd_stat (cause := 3) (by decide)
  rw [hends]
  exact ⟨(Dev.seeStages_keeps _ (BAL_STAT_offStages _ (by simp))).trans hactive,
    (Dev.seeStages_keeps _ (BAL_STAT_offStages _ (by simp))).trans hendc,
    (Dev.seeStages_stop _).trans (e.periodBegun.balEnd_bal 3).2⟩

end Sys2Proof.Machine
end

section
/-!
SUPPORT. The meters of a balance power die (07, R189, R190): what BPS_STAT and BPS_PDISS show after an interval, an
overtemperature and its end, whatever the sweep that they abort does.
-/

namespace Sys2Proof.Machine

/-! ## Signed fields -/

/-- A number within 16 bits reads back from a signed field of that width. -/
theorem toSigned_ofSigned_16 {v : Int} (hlo : -32768 ≤ v) (hhi : v ≤ 32767) : toSigned 16 (ofSigned 16 v) = v := by
  unfold toSigned ofSigned
  norm_num
  split <;> omega

theorem ofSigned_16_lt (v : Int) : ofSigned 16 v < 2 ^ 16 := by
  unfold ofSigned
  norm_num
  omega

/-- A junction temperature, cut to the range of its field. -/
def tjShown (tj : Int) : Int := max (-32768) (min 32767 tj)

theorem Dev.getS_putS_tj (d : Dev) (a : Afe) (tj : Int) :
    (d.putS (BPS_STAT_TJ a) (tjShown tj)).getS (BPS_STAT_TJ a) = tjShown tj := by
  have hget : (d.putS (BPS_STAT_TJ a) (tjShown tj)).get (BPS_STAT_TJ a) = ofSigned 16 (tjShown tj) :=
    (Dev.get_put_same d (BPS_STAT_TJ a) (ofSigned 16 (tjShown tj)) rfl).trans (Nat.mod_eq_of_lt (ofSigned_16_lt _))
  unfold Dev.getS
  rw [hget]
  exact toSigned_ofSigned_16 (le_max_left ..) (max_le (by decide) (min_le_left ..))

/-! ## What no stage, no setpoint and no sweep writes -/

/-- The fields that show what a die meters. -/
def meterFields (a : Afe) : List Fld := [BPS_STAT_TJ a, BPS_STAT_OTS a, BPS_PDISS a]

/-- Both dies show what they have metered as before. -/
structure Dev.SameMeters (d e : Dev) : Prop where
  get : ∀ a, ∀ f ∈ meterFields a, e.get f = d.get f

theorem meterFields_offStages (a : Afe) : ∀ f ∈ meterFields a, f.OffStages := by
  intro f hf
  simp only [meterFields, List.mem_cons, List.not_mem_nil, or_false] at hf
  rcases hf with rfl | rfl | rfl <;>
    exact ⟨rfl, fun b => by cases a <;> cases b <;> decide, by cases a <;> decide⟩

/-- The windows of the two dies lie beyond the registers of the CORE die. -/
theorem meterFields_addr (a : Afe) : ∀ f ∈ meterFields a, 0x700000 ≤ f.addr := by
  cases a <;> decide

namespace Dev.SameMeters

variable {d e f : Dev}

theorem refl (d : Dev) : Dev.SameMeters d d := ⟨fun _ _ _ => rfl⟩

theorem put (h : Dev.SameMeters d e) {g : Fld} (hg : g.addr < 0x700000) (v : Nat) : Dev.SameMeters d (e.put g v) := by
  refine ⟨fun a x hx => ?_⟩
  have haddr : x.addr ≠ g.addr := (hg.trans_le (meterFields_addr a x hx)).ne'
  rw [← h.get a x hx]
  unfold Dev.get
  rw [Dev.word_put_other _ _ _ _ haddr]

theorem putDer (h : Dev.SameMeters d e) (b : Afe) (v : Bool) : Dev.SameMeters d (e.putB (BPS_STAT_DER b) v) := by
  refine ⟨fun a x hx => ?_⟩
  have hapart : (BPS_STAT_DER b).apart x = true := by
    revert x
    cases a <;> cases b <;> decide
  exact (Dev.get_put_apart _ _ _ _ rfl (meterFields_offStages a x hx).wf hapart).trans (h.get a x hx)

theorem withImp (h : Dev.SameMeters d e) (x : ImpSt) : Dev.SameMeters d { e with imp := x } := ⟨h.get⟩

theorem withDraws (h : Dev.SameMeters d e) (x : Nat) : Dev.SameMeters d { e with draws := x } := ⟨h.get⟩

theorem each {α : Type} (h : Dev.SameMeters d e) (xs : List α) {step : Dev → α → Dev}
    (hstep : ∀ c, ∀ x ∈ xs, Dev.SameMeters d c → Dev.SameMeters d (step c x)) : Dev.SameMeters d (e.each xs step) :=
  List.foldlRecOn xs step h fun c hc x hx => hstep c x hx hc

theorem moved (h : Dev.SameMeters d e) (hm : Dev.Moved e f) : Dev.SameMeters d f :=
  ⟨fun a x hx => (hm.get x (meterFields_offStages a x hx).moved).trans (h.get a x hx)⟩

theorem raise (h : Dev.SameMeters d e) (code src : Nat) (items : List Nat) : Dev.SameMeters d (e.raise code src items) :=
  h.moved (Dev.Sent.raise ..).moved

theorem seeStages (h : Dev.SameMeters d e) : Dev.SameMeters d e.seeStages :=
  ⟨fun a x hx => (Dev.seeStages_keeps e (meterFields_offStages a x hx)).trans (h.get a x hx)⟩

theorem setpoints (h : Dev.SameMeters d e) (b : Afe) : Dev.SameMeters d (e.setpoints b) := by
  unfold Dev.setpoints
  extract_lets tj eff cells der shown
  have hshown : Dev.SameMeters d shown := h.each _ fun c n hn hc => by
    have hle : n ≤ 36 := mem_allCells (d := e) (List.mem_of_mem_filter (List.mem_of_mem_filter hn))
    exact hc.put (by show 0x28400 + 4 * (n - 1) < 0x700000; omega) _
  exact hshown.putDer b _

/-! The end of a sweep -/

theorem sweepModeEnd (h : Dev.SameMeters d e) : Dev.SameMeters d e.sweepModeEnd := by
  unfold Dev.sweepModeEnd
  extract_lets back fallen
  refine Dev.SameMeters.moved (e := fallen) ?_ (Dev.Moved.budgetEval ..)
  unfold fallen
  split
  case h_1 => exact h.moved (Dev.Moved.showMode ..)
  case h_2 | h_3 | h_4 | h_5 =>
    split
    · exact h.moved (Dev.Moved.showMode ..)
    · exact h
  case h_6 => exact h

theorem sweepOver (h : Dev.SameMeters d e) (result : Nat) : Dev.SameMeters d (e.sweepOver result) := by
  have hshown := ((h.put (g := IMP_STAT_STATE) (by decide) 3).put (g := IMP_STAT_RESULT) (by decide) result).put
    (g := IMP_STAT_CORR) (by decide) 0
  unfold Dev.sweepOver
  exact ((hshown.withImp _).seeStages).sweepModeEnd

theorem toneBank (h : Dev.SameMeters d e) (a : Afe) : Dev.SameMeters d (e.toneBank a) := by
  unfold Dev.toneBank
  split
  · exact h
  · exact h.withImp _

theorem pointStart (h : Dev.SameMeters d e) (p : Nat) : Dev.SameMeters d (e.pointStart p) := by
  have hshown := (h.put (g := IMP_STAT_PT) (by decide) p).put (g := IMP_PROG) (by decide) 0
  unfold Dev.pointStart
  exact (((hshown.withImp _).put (g := IMP_STAT_CORR) (by decide) _).toneBank .L).toneBank .U

theorem cellRecord (h : Dev.SameMeters d e) (aborted : Bool) (n : Nat) : Dev.SameMeters d (e.cellRecord aborted n).2 := by
  unfold Dev.cellRecord
  dsimp only
  split
  · exact h
  · split
    · exact h
    · exact h.withDraws _

theorem pointResult (h : Dev.SameMeters d e) (pstate : Nat) : Dev.SameMeters d (e.pointResult pstate).2.2 := by
  unfold Dev.pointResult
  refine Dev.SameMeters.withImp ?_ _
  exact List.foldlRecOn (motive := fun acc : List Word × Dev => Dev.SameMeters d acc.2) _ _ h
    fun acc hacc n _ => hacc.cellRecord _ n

theorem sweepAbort (h : Dev.SameMeters d e) (result : Nat) : Dev.SameMeters d (e.sweepAbort result) := by
  unfold Dev.sweepAbort
  split
  · exact h
  · split
    · exact (h.sweepOver 1).raise ..
    · have hpoint : Dev.SameMeters d (if e.imp.gap then e.pointStart (e.impPt + 1) else e) := by
        split
        · exact h.pointStart _
        · exact h
      exact (((hpoint.pointResult 2).withImp _).sweepOver result).raise ..

theorem sweepBankAbort (h : Dev.SameMeters d e) (a : Afe) (result : Nat) :
    Dev.SameMeters d (e.sweepBankAbort a result) := by
  unfold Dev.sweepBankAbort
  split
  · exact h.sweepAbort result
  · exact h

theorem tj (h : Dev.SameMeters d e) (a : Afe) : e.getS (BPS_STAT_TJ a) = d.getS (BPS_STAT_TJ a) :=
  congrArg (toSigned 16) (h.get a _ (by simp [meterFields]))

theorem ots (h : Dev.SameMeters d e) (a : Afe) : e.get (BPS_STAT_OTS a) = d.get (BPS_STAT_OTS a) :=
  h.get a _ (by simp [meterFields])

theorem pdiss (h : Dev.SameMeters d e) (a : Afe) : e.get (BPS_PDISS a) = d.get (BPS_PDISS a) :=
  h.get a _ (by simp [meterFields])

end Dev.SameMeters

/-! ## The three commands -/

/-- The die shows a junction temperature and its overtemperature flag. -/
def Dev.tempShown (d : Dev) (a : Afe) (tj : Int) (flag : Nat) : Dev :=
  (d.putS (BPS_STAT_TJ a) (tjShown tj)).put (BPS_STAT_OTS a) flag

theorem Dev.tempShown_get (d : Dev) (a : Afe) (tj : Int) {flag : Nat} (h : flag < 2) :
    (d.tempShown a tj flag).get (BPS_STAT_OTS a) = flag ∧ (d.tempShown a tj flag).getS (BPS_STAT_TJ a) = tjShown tj := by
  have htj : (d.tempShown a tj flag).get (BPS_STAT_TJ a) = (d.putS (BPS_STAT_TJ a) (tjShown tj)).get (BPS_STAT_TJ a) :=
    Dev.get_put_apart _ _ _ _ rfl rfl (by cases a <;> decide)
  exact ⟨(Dev.get_put_same _ _ _ rfl).trans (Nat.mod_eq_of_lt h),
    (congrArg (toSigned 16) htj).trans (d.getS_putS_tj a tj)⟩

theorem Dev.Grow.tempShown {d e : Dev} (a : Afe) (tj : Int) (flag : Nat) (h : Dev.Grow d e) :
    Dev.Grow d (e.tempShown a tj flag) := (h.putS ..).put ..

theorem Dev.overtemp_eq (d : Dev) (a : Afe) (tj : Int) : ∃ items,
    d.overtemp a tj = (((d.tempShown a tj 1).setpoints a).seeStages).raise 0x4013 0 items := by
  unfold Dev.overtemp Dev.tempShown tjShown
  exact ⟨_, rfl⟩

/-- The die shows the power and the temperature that it has metered, and keeps the highest power (R189). -/
def Dev.powerShown (d : Dev) (a : Afe) (mw : Nat) (tj : Int) : Dev :=
  let e : Dev := { d with bal := { d.bal with
    peak := d.bal.peak.set (bpdIdx a) (max mw ((d.bal.peak[bpdIdx a]?).getD 0)) } }
  (e.put (BPS_PDISS a) (min 65535 mw)).putS (BPS_STAT_TJ a) (tjShown tj)

theorem Dev.powerShown_get (d : Dev) (a : Afe) (mw : Nat) (tj : Int) :
    (d.powerShown a mw tj).get (BPS_PDISS a) = min 65535 mw
      ∧ (d.powerShown a mw tj).getS (BPS_STAT_TJ a) = tjShown tj := by
  refine ⟨?_, Dev.getS_putS_tj ..⟩
  exact (Dev.get_put_apart _ _ _ _ rfl rfl (by cases a <;> decide)).trans
    ((Dev.get_put_same _ _ _ rfl).trans (Nat.mod_eq_of_lt (by show min 65535 mw < 65536; omega)))

theorem Dev.Grow.powerShown {d e : Dev} (a : Afe) (mw : Nat) (tj : Int) (h : Dev.Grow d e) :
    Dev.Grow d (e.powerShown a mw tj) := ((h.withBal _).put ..).putS ..

section

variable {d : Dev} (q : List Instr) {a : Afe} (tj : Int)

/-- A command of a balance power die, at a die that works. -/
theorem State.lift_bpd {f : Dev → Dev} {e : Dev} (hs : d.settled) (hb : d.hasBpd a = true) (he : f d = e)
    (hg : Dev.Grow d e) : (⟨d, q⟩ : State).lift (fun x => if x.hasBpd a then f x else x) = .next ⟨e, q⟩ :=
  State.lift_grow q hs ((if_pos hb).trans he) hg

/-- BPD_METER_INTERVAL of a die that works. -/
theorem exec_bpdMeterInterval (mw : Nat) (hs : d.settled) (hb : d.hasBpd a = true) :
    ∃ t, exec (.bpdMeterInterval a mw tj) ⟨d, q⟩ = .next t ∧ t.dev.get (BPS_PDISS a) = min 65535 mw
      ∧ t.dev.getS (BPS_STAT_TJ a) = tjShown tj := by
  have hgrow : Dev.Grow d ((d.powerShown a mw tj).setpoints a) := ((Dev.Grow.refl d).powerShown a mw tj).setpoints a
  have hsame : Dev.SameMeters (d.powerShown a mw tj) ((d.powerShown a mw tj).setpoints a) :=
    (Dev.SameMeters.refl _).setpoints a
  obtain ⟨hpdiss, htj⟩ := d.powerShown_get a mw tj
  refine ⟨_, State.lift_bpd q hs hb rfl (hgrow.when _ _ (hgrow.sweepBankAbort a 7)), ?_⟩
  have hend : Dev.SameMeters (d.powerShown a mw tj)
      ((d.meterInterval a mw tj).when (decide (3000 < mw)) (·.sweepBankAbort a 7)) := by
    unfold Dev.when
    split
    · exact hsame.sweepBankAbort a 7
    · exact hsame
  exact ⟨(hend.pdiss a).trans hpdiss, (hend.tj a).trans htj⟩

/-- BPD_OVERTEMP of a die that works. -/
theorem exec_bpdOvertemp (hs : d.settled) (hb : d.hasBpd a = true) :
    ∃ t, exec (.bpdOvertemp a tj) ⟨d, q⟩ = .next t ∧ t.dev.get (BPS_STAT_OTS a) = 1
      ∧ t.dev.getS (BPS_STAT_TJ a) = tjShown tj := by
  obtain ⟨items, heq⟩ := d.overtemp_eq a tj
  have hgrow : Dev.Grow d (d.overtemp a tj) := by
    rw [heq]
    exact ((((Dev.Grow.refl d).tempShown a tj 1).setpoints a).seeStages).raise ..
  have hsame : Dev.SameMeters (d.tempShown a tj 1) (d.overtemp a tj) := by
    rw [heq]
    exact (((Dev.SameMeters.refl _).setpoints a).seeStages).raise ..
  obtain ⟨hots, htj⟩ := d.tempShown_get a tj (flag := 1) (by decide)
  exact ⟨_, State.lift_bpd q hs hb rfl (hgrow.sweepBankAbort a 6),
    ((hsame.sweepBankAbort a 6).ots a).trans hots, ((hsame.sweepBankAbort a 6).tj a).trans htj⟩

theorem bpdTempRecoveredDev_stopped (h : d.bit (BPS_STAT_OTS a) = true) :
    bpdTempRecoveredDev a tj d = ((d.tempShown a tj 0).setpoints a).seeStages := if_pos h

/-- BPD_TEMP_RECOVERED of a die that has stopped. -/
theorem exec_bpdTempRecovered (hs : d.settled) (hb : d.hasBpd a = true) (h : d.bit (BPS_STAT_OTS a) = true) :
    ∃ t, exec (.bpdTempRecovered a tj) ⟨d, q⟩ = .next t ∧ t.dev.get (BPS_STAT_OTS a) = 0
      ∧ t.dev.getS (BPS_STAT_TJ a) = tjShown tj := by
  have hgrow : Dev.Grow d ((d.tempShown a tj 0).setpoints a).seeStages :=
    (((Dev.Grow.refl d).tempShown a tj 0).setpoints a).seeStages
  have hsame : Dev.SameMeters (d.tempShown a tj 0) ((d.tempShown a tj 0).setpoints a).seeStages :=
    ((Dev.SameMeters.refl _).setpoints a).seeStages
  obtain ⟨hots, htj⟩ := d.tempShown_get a tj (flag := 0) (by decide)
  refine ⟨_, State.lift_bpd q hs hb (bpdTempRecoveredDev_stopped tj h) hgrow, ?_⟩
  dsimp only
  exact ⟨(hsame.ots a).trans hots, (hsame.tj a).trans htj⟩

end

/-- Settles O23: a plan starts, ends and is taken back, a period's charge enters the ledger, and the meters show. -/
theorem balancingCommandsComplete : Obligations.BalancingCommandsComplete := by
  unfold Obligations.BalancingCommandsComplete
  refine ⟨fun d q hacc => ⟨exec_balStart q hacc, exec_balStart_live q hacc⟩,
    fun d q hacc => ⟨fun hact hlive => ?_, exec_balStop_waits q hacc, exec_balStop_pending q hacc⟩,
    fun d q a hs hb ht => ⟨fun mt mv m hlive hbank h1 hlen => ?_,
      fun mt mv hstop hact => exec_switchingPeriodEnd_stop q mt mv hs hb ht hstop hact⟩,
    fun d q a mw tj hs hb => ⟨exec_bpdMeterInterval q tj mw hs hb, exec_bpdOvertemp q tj hs hb,
      exec_bpdTempRecovered q tj hs hb⟩⟩
  · obtain ⟨hactive, hendc, hpause⟩ := d.balEnd_stat (cause := 3) (by decide)
    refine ⟨_, exec_balStop_ends q hacc hact hlive, hactive, hendc, hpause, fun n hn hp => ?_⟩
    exact Dev.balEnd_cellState 3 hn hp
  · exact exec_switchingPeriodEnd_led q mt mv hs hb ht hlive hbank h1 hlen

end Sys2Proof.Machine
end

section
/-!
SUPPORT. Impedance sweeps and wiring diagnostics (08, 09: R204, R214 to R221, R235 to R237): what arming and aborting a
sweep, the end of a tap probe and a request for a junction check come to.
-/

namespace Sys2Proof.Machine

/-! ## The end of a sweep (R217, R220) -/

/-- The modes after a sweep change no more than the budget rule does. -/
theorem Dev.Moved.sweepModeEnd (d : Dev) : Dev.Moved d d.sweepModeEnd := by
  unfold Dev.sweepModeEnd
  extract_lets back fallen
  refine Dev.Moved.trans (e := fallen) ?_ (Dev.Moved.budgetEval ..)
  unfold fallen
  split
  case h_1 => exact Dev.Moved.showMode ..
  case h_2 | h_3 | h_4 | h_5 =>
    split
    · exact Dev.Moved.showMode ..
    · exact Dev.Moved.refl d
  case h_6 => exact Dev.Moved.refl d

/-- IMP_STAT shows that the sweep is over, and how it ended. -/
def Dev.sweepEndShown (d : Dev) (result : Nat) : Dev :=
  ((d.put IMP_STAT_STATE 3).put IMP_STAT_RESULT result).put IMP_STAT_CORR 0

theorem Dev.sweepEndShown_stat (d : Dev) {result : Nat} (h : result < 16) :
    (d.sweepEndShown result).get IMP_STAT_STATE = 3 ∧ (d.sweepEndShown result).get IMP_STAT_RESULT = result
      ∧ (d.sweepEndShown result).get IMP_STAT_CORR = 0 := by
  have hstate : ((d.put IMP_STAT_STATE 3).put IMP_STAT_RESULT result).get IMP_STAT_STATE = 3 :=
    (Dev.get_put_apart _ _ _ _ rfl rfl rfl).trans (Dev.get_put_same _ _ _ rfl)
  have hresult : ((d.put IMP_STAT_STATE 3).put IMP_STAT_RESULT result).get IMP_STAT_RESULT = result :=
    (Dev.get_put_same _ _ _ rfl).trans (Nat.mod_eq_of_lt h)
  exact ⟨(Dev.get_put_apart _ _ _ _ rfl rfl rfl).trans hstate, (Dev.get_put_apart _ _ _ _ rfl rfl rfl).trans hresult,
    Dev.get_put_same _ _ _ rfl⟩

/-- The sweep is over, before the stages and the modes follow. -/
def Dev.sweepStopped (d : Dev) (result : Nat) : Dev :=
  { d.sweepEndShown result with imp := { (d.sweepEndShown result).imp with
    rows := [], gap := false, setp := List.replicate 36 0 } }

theorem Dev.sweepOver_eq (d : Dev) (result : Nat) :
    d.sweepOver result = (d.sweepStopped result).seeStages.sweepModeEnd := rfl

/-- What follows the end of a sweep, stages and modes, leaves a field as the writes of IMP_STAT left it. -/
theorem Dev.sweepOver_get (d : Dev) (result : Nat) {f : Fld} (hf : f.OffStages) :
    (d.sweepOver result).get f = (d.sweepEndShown result).get f := by
  rw [Dev.sweepOver_eq]
  calc (d.sweepStopped result).seeStages.sweepModeEnd.get f
      = (d.sweepStopped result).seeStages.get f := (Dev.Moved.sweepModeEnd _).get f hf.moved
    _ = (d.sweepStopped result).get f := Dev.seeStages_keeps _ hf
    _ = (d.sweepEndShown result).get f := Dev.get_with_imp ..

theorem IMP_STAT_offStages : ∀ f ∈ [IMP_STAT_STATE, IMP_STAT_RESULT, IMP_STAT_CORR], f.OffStages := by
  intro f hf
  fin_cases hf <;> exact ⟨rfl, fun a => by cases a <;> decide, by decide⟩

/-- A sweep that has ended, once its event is raised and the command is done. -/
theorem Dev.sweepOver_stat (d : Dev) {result : Nat} (h : result < 16) (code : Nat) (items : List Nat) :
    let e := ((d.sweepOver result).raise code 0 items).commandDone
    e.get IMP_STAT_STATE = 3 ∧ e.get IMP_STAT_RESULT = result ∧ e.get IMP_STAT_CORR = 0 := by
  intro e
  have hkept : ∀ f ∈ [IMP_STAT_STATE, IMP_STAT_RESULT, IMP_STAT_CORR], e.get f = (d.sweepEndShown result).get f :=
    fun f hf => by
      have hoff := IMP_STAT_offStages f hf
      calc e.get f = ((d.sweepOver result).raise code 0 items).get f := Dev.commandDone_get _ f hoff.moved
        _ = (d.sweepOver result).get f := (Dev.Sent.raise ..).moved.get f hoff.moved
        _ = (d.sweepEndShown result).get f := d.sweepOver_get result hoff
  obtain ⟨hstate, hresult, hcorr⟩ := d.sweepEndShown_stat h
  exact ⟨(hkept _ (by simp)).trans hstate, (hkept _ (by simp)).trans hresult, (hkept _ (by simp)).trans hcorr⟩

section

variable {d : Dev} (q : List Instr)

/-- At the boundary that closed the last point, an abort completes the sweep. -/
theorem Dev.sweepAbort_completes (result : Nat) (hlive : d.get IMP_STAT_STATE = 2) (hgap : d.imp.gap = true)
    (hlast : d.get IMP_NPT ≤ d.impPt + 1) : d.sweepAbort result = (d.sweepOver 1).raise 0x5003 0 [] := by
  have hl : d.sweepLive = true := decide_eq_true hlive
  unfold Dev.sweepAbort
  rw [if_neg (by simp [hl]), if_pos ⟨hgap, hlast⟩]
  rfl

/-- With a point in progress or still to come, an abort breaks that point off and ends the sweep. -/
theorem Dev.sweepAbort_breaks (result : Nat) (hlive : d.get IMP_STAT_STATE = 2)
    (hmore : d.imp.gap = true → d.impPt + 1 < d.get IMP_NPT) :
    ∃ e items, d.sweepAbort result = (Dev.sweepOver e result).raise 0x5004 0 items := by
  have hl : d.sweepLive = true := decide_eq_true hlive
  unfold Dev.sweepAbort
  rw [if_neg (by simp [hl]), if_neg fun h => (hmore h.1).not_ge h.2]
  exact ⟨_, _, rfl⟩

/-! ## IMP_ARM (R204, R214) -/

theorem Dev.Grow.withImp {e f : Dev} (x : ImpSt) (h : Dev.Grow e f) : Dev.Grow e { f with imp := x } := by
  apply h.upd <;> rfl

theorem impArmDev_arms (hquiet : d.impQuiet = true) (hb : d.build ≠ .B) (hr : d.role = .member)
    (hahead : d.mtick + 6000 ≤ d.sweepStart) :
    impArmDev d = ((({ d with imp := { d.imp with res := [] } }).put IMP_STAT_RESULT 0).put IMP_STAT_CHK 0).put
      IMP_STAT_STATE 1 := by
  unfold impArmDev
  rw [if_neg (by simp [hquiet]), if_neg (by simp [hb, hr]), if_neg hahead.not_gt]

theorem impArmDev_late (hquiet : d.impQuiet = true) (hb : d.build ≠ .B) (hr : d.role = .member)
    (hlate : d.sweepStart < d.mtick + 6000) : impArmDev d = d.sweepRefuse 8 0 := by
  unfold impArmDev
  rw [if_neg (by simp [hquiet]), if_neg (by simp [hb, hr]), if_pos hlate]

theorem impArmDev_build (hquiet : d.impQuiet = true) (hno : d.build = .B ∨ d.role = .head) :
    impArmDev d = d.sweepRefuse 12 0 := by
  unfold impArmDev
  rw [if_neg (by simp [hquiet]), if_pos hno]

theorem exec_impArm_arms (hacc : d.accepts IMP_CTRL_ARM) (hquiet : d.impQuiet = true) (hb : d.build ≠ .B)
    (hr : d.role = .member) (hahead : d.mtick + 6000 ≤ d.sweepStart) :
    exec .impArm ⟨d, q⟩ = .next ⟨(((({ d with imp := { d.imp with res := [] } }).put IMP_STAT_RESULT 0).put
      IMP_STAT_CHK 0).put IMP_STAT_STATE 1).commandDone, q⟩ :=
  State.lift_takes_grow q hacc (impArmDev_arms hquiet hb hr hahead)
    (((((Dev.Grow.refl d).withImp _).put ..).put ..).put ..)

/-- IMP_ARM of a sweep that is refused, by the result that the refusal gives. -/
theorem exec_impArm_refused {result : Nat} (hacc : d.accepts IMP_CTRL_ARM) (he : impArmDev d = d.sweepRefuse result 0) :
    exec .impArm ⟨d, q⟩ = .next ⟨(((d.put IMP_STAT_RESULT result).put IMP_STAT_CHK 0).raise 0x5005 0
      [result, 0]).commandDone, q⟩ :=
  State.lift_takes_grow q hacc he ((Dev.Grow.refl d).sweepRefuse result 0)

/-! ## IMP_ABORT (R220, R221) -/

/-- IMP_ABORT of an armed sweep. -/
theorem exec_impAbort_armed (hacc : d.accepts IMP_CTRL_ABORT) (harmed : d.get IMP_STAT_STATE = 1) :
    exec .impAbort ⟨d, q⟩
      = .next ⟨(((d.put IMP_STAT_STATE 3).put IMP_STAT_RESULT 2).raise 0x5004 0 [2, 0]).commandDone, q⟩ :=
  State.lift_takes_grow q hacc (if_pos harmed) ((((Dev.Grow.refl d).put ..).put ..).raise ..)

/-- IMP_ABORT of a running sweep. -/
theorem exec_impAbort_running (hacc : d.accepts IMP_CTRL_ABORT) (hlive : d.get IMP_STAT_STATE = 2) :
    exec .impAbort ⟨d, q⟩ = .next ⟨(d.sweepAbort 2).commandDone, q⟩ :=
  State.lift_takes_grow q hacc (if_neg (by rw [hlive]; decide)) ((Dev.Grow.refl d).sweepAbort 2)

theorem exec_impAbort_completes (hacc : d.accepts IMP_CTRL_ABORT) (hlive : d.get IMP_STAT_STATE = 2)
    (hgap : d.imp.gap = true) (hlast : d.get IMP_NPT ≤ d.impPt + 1) : ∃ t, exec .impAbort ⟨d, q⟩ = .next t
      ∧ t.dev.get IMP_STAT_STATE = 3 ∧ t.dev.get IMP_STAT_RESULT = 1 := by
  refine ⟨_, exec_impAbort_running q hacc hlive, ?_⟩
  obtain ⟨hstate, hresult, -⟩ := d.sweepOver_stat (result := 1) (by decide) 0x5003 []
  dsimp only
  rw [Dev.sweepAbort_completes 2 hlive hgap hlast]
  exact ⟨hstate, hresult⟩

theorem exec_impAbort_breaks (hacc : d.accepts IMP_CTRL_ABORT) (hlive : d.get IMP_STAT_STATE = 2)
    (hmore : d.imp.gap = true → d.impPt + 1 < d.get IMP_NPT) : ∃ t, exec .impAbort ⟨d, q⟩ = .next t
      ∧ t.dev.get IMP_STAT_STATE = 3 ∧ t.dev.get IMP_STAT_RESULT = 2 ∧ t.dev.get IMP_STAT_CORR = 0 := by
  refine ⟨_, exec_impAbort_running q hacc hlive, ?_⟩
  obtain ⟨e, items, he⟩ := Dev.sweepAbort_breaks 2 hlive hmore
  dsimp only
  rw [he]
  exact e.sweepOver_stat (by decide) 0x5004 items

/-! ## TAP_PROBE_END (R235, R236) -/

theorem Dev.Grow.withOwd {e f : Dev} (x : OwdSt) (h : Dev.Grow e f) : Dev.Grow e { f with owd := x } := by
  apply h.upd <;> rfl

/-- The probe of a cell is over, and so many of its probes in a row have failed. -/
def Dev.probeCounted (d : Dev) (n count : Nat) : Dev :=
  { d with owd := { d.owd with probe := none, fails := d.owd.fails.set (n - 1) count } }

theorem Dev.probeEnd_passes {n : Nat} {mA : Int} (hp : d.owd.probe = some n) (hmA : 100 ≤ mA) :
    d.probeEnd mA = d.probeCounted n 0 := by
  unfold Dev.probeEnd
  rw [hp]
  exact if_neg hmA.not_gt

theorem Dev.probeEnd_weak {n : Nat} {mA : Int} (hp : d.owd.probe = some n) (hmA : mA < 100)
    (hfirst : (d.owd.fails[n - 1]?).getD 0 = 0) : d.probeEnd mA = d.probeCounted n 1 := by
  unfold Dev.probeEnd Dev.probeFailed
  rw [hp]
  simp [hmA, hfirst, Dev.probeCounted]

/-- TAP_PROBE_END of a probe that calls for no judgement. -/
theorem exec_tapProbeEnd {n count : Nat} {mA : Int} (hs : d.settled) (he : d.probeEnd mA = d.probeCounted n count) :
    exec (.tapProbeEnd mA) ⟨d, q⟩
      = .next ⟨((d.probeCounted n count).seeStages.ppWires d.owd.finds).guardSettle, q⟩ :=
  State.lift_grow q hs (congrArg (fun e : Dev => (e.seeStages.ppWires d.owd.finds).guardSettle) he)
    (((((Dev.Grow.refl d).withOwd _).seeStages).ppWires _).guardSettle)

/-! ## OWD_JREQ (R237) -/

/-- The wire of the request, as JWIRE shows it. -/
theorem Dev.get_put_jwire (d : Dev) {j : Nat} (hj : j < 64) :
    (d.put (OWD_CTRL_JWIRE .L) j).get (OWD_CTRL_JWIRE .L) = j :=
  (Dev.get_put_same _ _ _ rfl).trans (Nat.mod_eq_of_lt hj)

/-- Power, image and PWR_STAT tell whether the services of MONITOR run. -/
theorem Dev.monitoring_congr {d e : Dev} (hp : e.pw = d.pw) (hf : e.fw = d.fw)
    (hw : e.word PWR_STAT_CUR.addr = d.word PWR_STAT_CUR.addr) : e.monitoring = d.monitoring := by
  have hcur : e.get PWR_STAT_CUR = d.get PWR_STAT_CUR := congrArg (fun w => bitsOf w _ _) hw
  have hbase : e.get PWR_STAT_BASE = d.get PWR_STAT_BASE := congrArg (fun w => bitsOf w _ _) hw
  have hlevel : e.level = d.level := by simp only [Dev.level, Dev.cur, hcur, hbase]
  simp only [Dev.monitoring, Dev.lathe, hp, hf, hlevel]

/-- The wiring checks run as before the write of JWIRE. -/
theorem Dev.owdUp_put_jwire (d : Dev) (j : Nat) : (d.put (OWD_CTRL_JWIRE .L) j).owdUp = d.owdUp :=
  congrArg (d.role = .member && ·) (Dev.monitoring_congr rfl rfl (Dev.word_put_other _ _ _ _ (by decide)))

theorem Dev.owdEn_put_jwire (d : Dev) (j : Nat) :
    (d.put (OWD_CTRL_JWIRE .L) j).bit (OWD_CFG_EN .L) = d.bit (OWD_CFG_EN .L) := Dev.bit_put_apart _ _ _ _ rfl rfl rfl

/-- A request for a wire is queued while the checks run and the wire exists, and else only JWIRE is written. -/
theorem owdJreqDev_eq (d : Dev) {j : Nat} (hj : j < 64) :
    owdJreqDev j d = if d.owdUp ∧ d.bit (OWD_CFG_EN .L) ∧ j ≤ d.cells then
        (d.put (OWD_CTRL_JWIRE .L) j).jrequest j ((d.owd.conf[j]?).getD 0) 0 0
      else d.put (OWD_CTRL_JWIRE .L) j := by
  unfold owdJreqDev
  have hcells : (d.put (OWD_CTRL_JWIRE .L) j).cells = d.cells := rfl
  simp only [Dev.get_put_jwire d hj, Dev.owdUp_put_jwire, Dev.owdEn_put_jwire, Dev.put_owd, hcells]

/-- A junction check that does not wait yet is queued. -/
theorem Dev.jrequest_new (d : Dev) {j cls : Nat} (cell : Nat)
    (hnew : ∀ r ∈ d.owd.reqs, r.wire = j → r.named = 0 → r.cls ≠ cls) :
    d.jrequest j cls 0 cell = { d with owd := { d.owd with reqs := d.owd.reqs ++ [⟨j, cls, 0, cell, 0⟩] } } := by
  refine if_neg fun hany => ?_
  obtain ⟨r, hr, hsame⟩ := List.any_eq_true.1 hany
  simp only [Bool.and_eq_true, decide_eq_true_eq] at hsame
  obtain ⟨⟨hwire, hnamed⟩, hcls⟩ := hsame
  exact hnew r hr hwire hnamed hcls

theorem exec_owdJreq_queues {j : Nat} (hacc : d.accepts (OWD_CTRL_JREQ .L)) (hj : j < 64) (hup : d.owdUp = true)
    (hen : d.bit (OWD_CFG_EN .L) = true) (hwire : j ≤ d.cells)
    (hnew : ∀ r ∈ d.owd.reqs, r.wire = j → r.named = 0 → r.cls ≠ (d.owd.conf[j]?).getD 0) :
    exec (.owdJreq j) ⟨d, q⟩ = .next ⟨({ d.put (OWD_CTRL_JWIRE .L) j with owd := { d.owd with
      reqs := d.owd.reqs ++ [(⟨j, (d.owd.conf[j]?).getD 0, 0, 0, 0⟩ : JReq)] } }).commandDone, q⟩ := by
  refine State.lift_takes_grow q hacc ?_ (((Dev.Grow.refl d).put ..).withOwd _)
  rw [owdJreqDev_eq d hj, if_pos ⟨hup, hen, hwire⟩]
  exact Dev.jrequest_new _ 0 hnew

theorem exec_owdJreq_idle {j : Nat} (hacc : d.accepts (OWD_CTRL_JREQ .L)) (hj : j < 64)
    (hno : d.owdUp = false ∨ d.bit (OWD_CFG_EN .L) = false ∨ d.cells < j) :
    exec (.owdJreq j) ⟨d, q⟩ = .next ⟨(d.put (OWD_CTRL_JWIRE .L) j).commandDone, q⟩ := by
  refine State.lift_takes_grow q hacc ?_ ((Dev.Grow.refl d).put ..)
  rw [owdJreqDev_eq d hj, if_neg]
  rintro ⟨hup, hen, hwire⟩
  rcases hno with hdown | hoff | hbeyond
  · exact absurd hup (by simp [hdown])
  · exact absurd hen (by simp [hoff])
  · omega

end

/-- Settles O24: a sweep is armed, refused, aborted or completed, a probe is counted, and a junction check is queued. -/
theorem impedanceAndWiringCommandsComplete : Obligations.ImpedanceAndWiringCommandsComplete := by
  unfold Obligations.ImpedanceAndWiringCommandsComplete
  refine ⟨fun d q hacc hquiet => ⟨exec_impArm_arms q hacc hquiet, fun hb hr hlate => ?_, fun hno => ?_⟩,
    fun d q hacc => ⟨exec_impAbort_armed q hacc, exec_impAbort_completes q hacc, exec_impAbort_breaks q hacc⟩,
    fun d q n mA hs hp => ⟨fun hmA => ?_, fun hmA hfirst => ?_⟩,
    fun d q j hacc hj => ⟨exec_owdJreq_queues q hacc hj, exec_owdJreq_idle q hacc hj⟩⟩
  · exact exec_impArm_refused q hacc (impArmDev_late hquiet hb hr hlate)
  · exact exec_impArm_refused q hacc (impArmDev_build hquiet hno)
  · exact exec_tapProbeEnd q hs (Dev.probeEnd_passes hp hmA)
  · exact exec_tapProbeEnd q hs (Dev.probeEnd_weak hp hmA hfirst)

end Sys2Proof.Machine
end

section
/-!
SUPPORT. The comparators and their self-test (10: R247, R249, R261, R262), and what both they and Bezel rest on: the hidden
state of a block, and a wake by a trip.
-/

namespace Sys2Proof.Machine

/-! ## The hidden state of a block -/

@[simp] theorem Dev.bz_setBz (d : Dev) (a : Afe) (b : BzlSt) : (d.setBz a b).bz a = b := by cases a <;> rfl
@[simp] theorem Dev.bz_put (d : Dev) (a : Afe) (f : Fld) (v : Nat) : (d.put f v).bz a = d.bz a := by cases a <;> rfl
@[simp] theorem Dev.get_setBz (d : Dev) (a : Afe) (b : BzlSt) (f : Fld) : (d.setBz a b).get f = d.get f := by
  cases a <;> rfl
@[simp] theorem Dev.bit_setBz (d : Dev) (a : Afe) (b : BzlSt) (f : Fld) : (d.setBz a b).bit f = d.bit f := by
  cases a <;> rfl
@[simp] theorem Dev.setBz_role (d : Dev) (a : Afe) (b : BzlSt) : (d.setBz a b).role = d.role := by cases a <;> rfl
@[simp] theorem Dev.setBz_spn (d : Dev) (a : Afe) (b : BzlSt) : (d.setBz a b).spn = d.spn := by cases a <;> rfl
@[simp] theorem Dev.setBz_saf (d : Dev) (a : Afe) (b : BzlSt) : (d.setBz a b).saf = d.saf := by cases a <;> rfl
@[simp] theorem Dev.setBz_nvm (d : Dev) (a : Afe) (b : BzlSt) : (d.setBz a b).nvm = d.nvm := by cases a <;> rfl

/-! ## A wake by a trip (R72, R270) -/

theorem Dev.Kin.tripWake (d : Dev) : Dev.Kin d d.tripWake := by
  unfold Dev.tripWake Dev.wakeRise
  exact Dev.Kin.ite (Dev.Kin.ite ((Dev.Kin.hold' d true).trans (Dev.Moved.riseTo ..).kin) (Dev.Kin.refl d)) (Dev.Kin.refl d)

/-- The guard logic settles after a change, and a trip wakes the part: beside the change, no more than `Dev.Kin` names. -/
theorem Dev.Kin.guardTrip (d : Dev) (f : Dev → Dev) : Dev.Kin (f d) (d.guardChange f).guardSettle.tripWake :=
  ((Dev.Kin.guardChange f d).trans (Dev.Kin.guardSettle _)).trans (Dev.Kin.tripWake _)

/-! ## The latch of a comparator (R247) -/

theorem latchBit_wf (c : CmpId) : (latchBit c).1.wf = true := by
  obtain ⟨die, kind, idx⟩ := c
  cases kind <;> rfl

/-- The guard logic writes no latch register of a comparator as it settles. -/
theorem latchBit_unsettled (c : CmpId) : settleReg (latchBit c).1.addr = false := by
  obtain ⟨die, kind, idx⟩ := c
  cases kind <;> simp only [latchBit] <;> cases die <;> decide

theorem latchBit_cur (c : CmpId) : (latchBit c).1.apart PWR_STAT_CUR = true := by
  obtain ⟨die, kind, idx⟩ := c
  cases kind <;> simp only [latchBit] <;> cases die <;> decide

/-- The latch of a comparator that exists lies in its register. -/
theorem latchBit_lt {d : Dev} {c : CmpId} (h : d.cmpRuns c = true) :
    (latchBit c).2 < (latchBit c).1.hi + 1 - (latchBit c).1.lo := by
  obtain ⟨die, kind, idx⟩ := c
  have hidx := (Bool.and_eq_true_iff.1 h).2
  cases kind <;> simp [latchBit, CMP_OVST, CMP_UVST, CMP_TST_OT, CMP_TST_UT] at hidx ⊢ <;> omega

/-- A latch bit, written into its register. -/
theorem Dev.setLatchBit_put (d : Dev) (c : CmpId) (b : Bool) :
    ∃ w, d.setLatchBit c b = ({ d with win := w }).put (latchBit c).1
      (setNat (d.get (latchBit c).1) (latchBit c).2 (latchBit c).2 (if b then 1 else 0)) := ⟨_, rfl⟩

theorem Dev.bitAt_put_setNat (d : Dev) {f : Fld} (hf : f.wf = true) {i : Nat} (hi : i < f.hi + 1 - f.lo) (n v : Nat) :
    (d.put f (setNat n i i v)).bitAt f i = v.testBit 0 := by
  unfold Dev.bitAt
  rw [Dev.get_put_same _ _ _ hf, ← Nat.testBit_eq_decide_div_mod_eq, Nat.testBit_mod_two_pow,
    testBit_setNat _ _ _ _ _ le_rfl]
  simp [hi]

theorem Dev.tripped_setLatchBit {d : Dev} {c : CmpId} (hc : d.cmpRuns c = true) (b : Bool) :
    (d.setLatchBit c b).tripped c = b := by
  obtain ⟨w, hw⟩ := d.setLatchBit_put c b
  rw [hw]
  exact (Dev.bitAt_put_setNat _ (latchBit_wf c) (latchBit_lt hc) _ _).trans (by cases b <;> rfl)

theorem Dev.setLatchBit_cur (d : Dev) (c : CmpId) (b : Bool) :
    (d.setLatchBit c b).get PWR_STAT_CUR = d.get PWR_STAT_CUR := by
  obtain ⟨w, hw⟩ := d.setLatchBit_put c b
  rw [hw]
  exact Dev.get_put_apart _ _ _ _ (latchBit_wf c) rfl (latchBit_cur c)

theorem Dev.Kin.tripped {d e : Dev} (h : Dev.Kin d e) (c : CmpId) : e.tripped c = d.tripped c := by
  unfold Dev.tripped Dev.bitAt
  rw [h.get _ (latchBit_unsettled c)]

/-- A latch turns, and its event is raised. -/
def Dev.latchTurned (c : CmpId) (b : Bool) (code : Nat) (d : Dev) : Dev :=
  (d.setLatchBit c b).raise code (afeSrc c.die) (cmpItems c)

theorem Dev.Grow.latchTurned (c : CmpId) (b : Bool) (code : Nat) (d : Dev) : Dev.Grow d (d.latchTurned c b code) :=
  (Dev.Grow.put (latchBit c).1 _ (Dev.Grow.withWin _ (Dev.Grow.refl d))).raise ..

/-- A command that turns the latch of a comparator, whatever the guard logic then does about it. -/
theorem State.lift_latchTurned {d e : Dev} (q : List Instr) {f : Dev → Dev} {c : CmpId} {b : Bool} {code : Nat}
    (hs : d.settled) (hc : d.cmpRuns c = true) (he : f d = e) (hk : Dev.Kin (d.latchTurned c b code) e) :
    ∃ t, (⟨d, q⟩ : State).lift f = .next t ∧ t.dev.tripped c = b
      ∧ (d.keepsEvents → d.newEvent t.dev code (cmpItems c)) := by
  refine ⟨_, State.lift_grow q hs he ((Dev.Grow.latchTurned c b code d).trans hk.grow), ?_, fun hkeep => ?_⟩
  · exact (((Dev.Kin.raise ..).trans hk).tripped c).trans (Dev.tripped_setLatchBit hc b)
  · exact Dev.newEvent_raise d (d.setLatchBit c b) e code _ _ hkeep rfl rfl rfl (d.setLatchBit_cur c b) hk.evq

section
variable {d : Dev} (q : List Instr) {c : CmpId}

theorem exec_comparatorTrip (hs : d.settled) (hc : d.cmpRuns c = true) (hno : d.tripped c = false)
    (hside : (d.sideOf c).getD .trip = .trip) :
    ∃ t, exec (.comparatorTrip c) ⟨d, q⟩ = .next t ∧ t.dev.tripped c = true
      ∧ (d.keepsEvents → d.newEvent t.dev 0x3001 (cmpItems c)) :=
  State.lift_latchTurned q hs hc (if_neg (by simp [hc, hno, hside])) (Dev.Kin.guardTrip d _)

theorem exec_comparatorRelease (hs : d.settled) (hc : d.cmpRuns c = true) (htrip : d.tripped c = true)
    (hvalid : (d.bz c.die).valid = true) (hside : (d.sideOf c).getD .release = .release) :
    ∃ t, exec (.comparatorRelease c) ⟨d, q⟩ = .next t ∧ t.dev.tripped c = false
      ∧ (d.keepsEvents → d.newEvent t.dev 0x3002 (cmpItems c)) :=
  State.lift_latchTurned q hs hc (if_neg (by simp [hc, htrip, hvalid, hside]))
    ((Dev.Kin.guardChange _ d).trans (Dev.Kin.guardSettle _))

theorem exec_comparatorsValid (hs : d.settled) (hup : d.guardUp = true) :
    exec .comparatorsValid ⟨d, q⟩ = .next ⟨(d.guardChange (fun e => e.each e.banks (fun e a =>
      e.setBz a { e.bz a with valid := true }))).guardSettle, q⟩ :=
  State.lift_grow q hs (if_pos hup)
    ((((Dev.Grow.refl d).each _ _ fun _ _ h => h.setBz ..).guardChange _).guardSettle)

theorem exec_comparatorInputCrossing (side : CrossSide) (hs : d.settled) (hc : d.cmpRuns c = true) :
    exec (.comparatorInputCrossing c side) ⟨d, q⟩ = .next ⟨d.setBz c.die { d.bz c.die with
      sides := (c, side) :: (d.bz c.die).sides.filter (fun s => s.1 ≠ c) }, q⟩ :=
  State.lift_grow q hs (if_pos hc) ((Dev.Grow.refl d).setBz ..)

end

/-! ## Self-test (R261, R262) -/

/-- A slot is under way: SLOT shows it, and the rotation goes on with the one after it. -/
def Dev.slotBegun (d : Dev) (a : Afe) (s : Nat) : Dev :=
  (d.put (CMP_STAT_SLOT a) s).setBz a { d.bz a with next := (s + 1) % 27, slot := some 0 }

theorem Dev.slotBegun_get (d : Dev) (a : Afe) (s : Nat) {f : Fld} (hf : f.wf = true)
    (hapart : (CMP_STAT_SLOT a).apart f = true) : (d.slotBegun a s).get f = d.get f := by
  unfold Dev.slotBegun
  rw [Dev.get_setBz, Dev.get_put_apart _ _ _ _ rfl hf hapart]

/-- Which slots run is settled by the role and the settings of the block (R261), and a slot under way changes neither. -/
theorem Dev.slotRuns_slotBegun (d : Dev) (a : Afe) (s k : Nat) : (d.slotBegun a s).slotRuns a k = d.slotRuns a k := by
  have hrole : (d.slotBegun a s).role = d.role := by cases a <;> rfl
  have hset (f : Fld) (hf : f ∈ [BZL_CMASK a, BZL_TMASK_OTEN a, BZL_TMASK_UTEN a, BZL_MTX_OTACT a, BZL_MTX_UTACT a]) :
      (d.slotBegun a s).get f = d.get f := by
    refine d.slotBegun_get a s ?_ ?_ <;> revert f <;> cases a <;> decide
  simp [Dev.slotRuns, Dev.bitAt, hrole, hset]

theorem selftestSlotDev_runs {d : Dev} {a : Afe} (hup : d.guardUp = true) (ha : a ∈ d.banks)
    (hrot : d.bit (CMP_STAT_ROT a) = true) (hfree : (d.bz a).slot = none) (hruns : d.slotRuns a (d.bz a).next = true) :
    selftestSlotDev a d = d.slotBegun a (d.bz a).next := by
  unfold selftestSlotDev
  rw [if_neg (by simp [hup, ha, hrot, hfree])]
  exact if_pos ((d.slotRuns_slotBegun a _ _).trans hruns)

/-- The slot in progress is left. -/
def Dev.slotLeft (d : Dev) (a : Afe) : Dev := d.setBz a { d.bz a with slot := none }

theorem Dev.slotOver_within {d : Dev} {a : Afe} (h : d.get (CMP_STAT_SLOT a) ≠ 26) : d.slotOver a = d.slotLeft a :=
  if_neg (by rwa [Dev.get_setBz])

theorem Dev.slotOver_last {d : Dev} {a : Afe} (h : d.get (CMP_STAT_SLOT a) = 26) :
    d.slotOver a = (d.slotLeft a).countMod (CMP_STAT_CYC a) 1 := if_pos (by rwa [Dev.get_setBz])

/-- STFAIL shows the slot in progress and the check that failed, and the rotation stops. -/
def Dev.stfailShown (d : Dev) (a : Afe) (check : Nat) : Dev :=
  (((d.put (CMP_STFAIL_VALID a) 1).put (CMP_STFAIL_STEP a) check).put (CMP_STFAIL_SLOT a) (d.get (CMP_STAT_SLOT a))).put
    (CMP_STAT_ROT a) 0

theorem Dev.stfailShown_cur (d : Dev) (a : Afe) (check : Nat) :
    (d.stfailShown a check).get PWR_STAT_CUR = d.get PWR_STAT_CUR := by
  unfold Dev.stfailShown
  iterate 4 rw [Dev.get_put_apart _ _ _ _ rfl rfl (by cases a <;> rfl)]

/-- What STFAIL and ROT read once a check that the registers can hold has been shown. -/
theorem Dev.stfailShown_stat (d : Dev) (a : Afe) {check : Nat} (hcheck : check < 4) :
    (d.stfailShown a check).get (CMP_STFAIL_VALID a) = 1 ∧ (d.stfailShown a check).get (CMP_STFAIL_STEP a) = check
      ∧ (d.stfailShown a check).get (CMP_STFAIL_SLOT a) = d.get (CMP_STAT_SLOT a)
      ∧ (d.stfailShown a check).get (CMP_STAT_ROT a) = 0 := by
  have hslot : d.get (CMP_STAT_SLOT a) < 32 := d.get_lt (CMP_STAT_SLOT a)
  unfold Dev.stfailShown
  refine ⟨?_, ?_, ?_, Dev.get_put_same _ _ _ rfl⟩
  · iterate 3 rw [Dev.get_put_apart _ _ _ _ rfl rfl (by cases a <;> rfl)]
    exact Dev.get_put_same _ _ _ rfl
  · iterate 2 rw [Dev.get_put_apart _ _ _ _ rfl rfl (by cases a <;> rfl)]
    exact (Dev.get_put_same _ _ _ rfl).trans (Nat.mod_eq_of_lt hcheck)
  · rw [Dev.get_put_apart _ _ _ _ rfl rfl (by cases a <;> rfl)]
    exact (Dev.get_put_same _ _ _ rfl).trans (Nat.mod_eq_of_lt hslot)

/-- Row STF of a die asserts, and its event is raised. -/
def Dev.stfSeen (a : Afe) (d : Dev) : Dev := (d.setBz a { d.bz a with stf := true }).raise 0x3006 (afeSrc a) []

theorem Dev.stfSeen_get (d : Dev) (a : Afe) {f : Fld} (hf : f.addr ∉ sendRegs) : (d.stfSeen a).get f = d.get f := by
  unfold Dev.stfSeen
  rw [Dev.raise_get _ _ _ _ _ hf, Dev.get_setBz]

theorem Dev.Grow.stfSeen {d e : Dev} (a : Afe) (h : Dev.Grow d e) : Dev.Grow d (e.stfSeen a) := (h.setBz ..).raise ..

/-- The device that has shown a confirmed failure, left the slot and asserted row STF. -/
def Dev.selftestFailed (d : Dev) (a : Afe) (check : Nat) : Dev := ((d.stfailShown a check).slotLeft a).stfSeen a

theorem Dev.Grow.selftestFailed (d : Dev) (a : Afe) (check : Nat) : Dev.Grow d (d.selftestFailed a check) := by
  refine Dev.Grow.stfSeen a (Dev.Grow.setBz a _ ?_)
  exact ((((Dev.Grow.refl d).put ..).put ..).put ..).put ..

theorem slotChecks_lt {s k : Nat} (hk : k ∈ slotChecks s) : k < 4 := by
  unfold slotChecks at hk
  split at hk <;> simp at hk <;> omega

/-- Whatever the guard logic does about a confirmed failure, STFAIL and ROT show it, and a member keeps its event. -/
theorem Dev.selftestFailed_shows {d e : Dev} {a : Afe} {check : Nat} (hk : Dev.Kin (d.selftestFailed a check) e)
    (hcheck : check < 4) :
    e.get (CMP_STFAIL_VALID a) = 1 ∧ e.get (CMP_STFAIL_STEP a) = check
      ∧ e.get (CMP_STFAIL_SLOT a) = d.get (CMP_STAT_SLOT a) ∧ e.get (CMP_STAT_ROT a) = 0
      ∧ (d.keepsEvents → d.newEvent e 0x3006 []) := by
  have hget (f : Fld) (hf : f ∈ [CMP_STFAIL_VALID a, CMP_STFAIL_STEP a, CMP_STFAIL_SLOT a, CMP_STAT_ROT a]) :
      e.get f = (d.stfailShown a check).get f := by
    have haddr : settleReg f.addr = false ∧ f.addr ∉ sendRegs := by revert f; cases a <;> decide
    rw [hk.get f haddr.1, Dev.selftestFailed, Dev.stfSeen_get _ _ haddr.2, Dev.slotLeft, Dev.get_setBz]
  obtain ⟨hvalid, hstep, hshown, hrot⟩ := d.stfailShown_stat a hcheck
  refine ⟨(hget _ (by simp)).trans hvalid, (hget _ (by simp)).trans hstep, (hget _ (by simp)).trans hshown,
    (hget _ (by simp)).trans hrot, fun hkeep => ?_⟩
  exact Dev.newEvent_raise d (((d.stfailShown a check).slotLeft a).setBz a
    { ((d.stfailShown a check).slotLeft a).bz a with stf := true }) e 0x3006 (afeSrc a) [] hkeep
    (by simp [Dev.stfailShown, Dev.slotLeft]) (by simp [Dev.stfailShown, Dev.slotLeft])
    (by simp [Dev.stfailShown, Dev.slotLeft]) (by simp [Dev.slotLeft, Dev.stfailShown_cur]) hk.evq

section
variable {d : Dev} (q : List Instr) {a : Afe} {first : Nat}

theorem exec_selftestSlot (hs : d.settled) (hup : d.guardUp = true) (ha : a ∈ d.banks)
    (hrot : d.bit (CMP_STAT_ROT a) = true) (hfree : (d.bz a).slot = none) (hruns : d.slotRuns a (d.bz a).next = true) :
    exec (.selftestSlot a) ⟨d, q⟩ = .next ⟨d.slotBegun a (d.bz a).next, q⟩ :=
  State.lift_grow q hs (selftestSlotDev_runs hup ha hrot hfree hruns) (((Dev.Grow.refl d).put ..).setBz ..)

theorem selftestSlotEndDev_passes (hslot : (d.bz a).slot = some first) : selftestSlotEndDev a none d = d.slotOver a := by
  simp [selftestSlotEndDev, hslot]

theorem selftestSlotEndDev_repeats {k : Nat} (hslot : (d.bz a).slot = some first)
    (hk : k ∈ slotChecks (d.get (CMP_STAT_SLOT a))) (hother : first ≠ k) :
    selftestSlotEndDev a (some k) d = d.setBz a { d.bz a with slot := some k } := by
  simp [selftestSlotEndDev, hslot, hk, hother]

theorem selftestSlotEndDev_fails (hslot : (d.bz a).slot = some first)
    (hk : first ∈ slotChecks (d.get (CMP_STAT_SLOT a))) :
    selftestSlotEndDev a (some first) d
      = (((d.stfailShown a first).slotLeft a).guardChange (Dev.stfSeen a)).guardSettle.tripWake := by
  unfold selftestSlotEndDev
  simp only [hslot]
  rw [if_neg (by simp [hk]), if_neg (by simp)]
  unfold Dev.slotLeft Dev.stfailShown
  simp only [Dev.bz_put]
  rfl

theorem exec_selftestSlotEnd_passes (hs : d.settled) (hslot : (d.bz a).slot = some first) :
    exec (.selftestSlotEnd a none) ⟨d, q⟩ = .next ⟨d.slotOver a, q⟩ :=
  State.lift_grow q hs (selftestSlotEndDev_passes hslot) (by
    unfold Dev.slotOver
    exact ((((Dev.Grow.refl d).setBz ..).countMod ..).ite ((Dev.Grow.refl d).setBz ..)))

theorem exec_selftestSlotEnd_fails (hs : d.settled) (hslot : (d.bz a).slot = some first)
    (hk : first ∈ slotChecks (d.get (CMP_STAT_SLOT a))) :
    ∃ t, exec (.selftestSlotEnd a (some first)) ⟨d, q⟩ = .next t ∧ t.dev.get (CMP_STFAIL_VALID a) = 1
      ∧ t.dev.get (CMP_STFAIL_STEP a) = first ∧ t.dev.get (CMP_STFAIL_SLOT a) = d.get (CMP_STAT_SLOT a)
      ∧ t.dev.get (CMP_STAT_ROT a) = 0 ∧ (d.keepsEvents → d.newEvent t.dev 0x3006 []) :=
  have hkin : Dev.Kin (d.selftestFailed a first) _ := Dev.Kin.guardTrip ((d.stfailShown a first).slotLeft a) (Dev.stfSeen a)
  ⟨_, State.lift_grow q hs (selftestSlotEndDev_fails hslot hk) ((Dev.Grow.selftestFailed d a first).trans hkin.grow),
    Dev.selftestFailed_shows hkin (slotChecks_lt hk)⟩

end

/-- Settles O25: a latch turns with its event (`Dev.latchTurned`), and a slot starts, is left, is repeated or fails. -/
theorem comparatorCommandsComplete : Obligations.ComparatorCommandsComplete := by
  unfold Obligations.ComparatorCommandsComplete
  refine ⟨fun d q hs hup => exec_comparatorsValid q hs hup, fun d q c side hs hc => exec_comparatorInputCrossing q side hs hc,
    fun d q c hs hc hno hside => exec_comparatorTrip q hs hc hno hside,
    fun d q c hs hc htrip hvalid hside => exec_comparatorRelease q hs hc htrip hvalid hside,
    fun d q a hs hup ha hrot hfree hruns => exec_selftestSlot q hs hup ha hrot hfree hruns,
    fun d q a first hs hslot => ⟨fun hwithin => ?_, fun hlast => ?_, fun k hk hother => ?_, fun hk _ => ?_⟩⟩
  · exact (exec_selftestSlotEnd_passes q hs hslot).trans (by rw [Dev.slotOver_within hwithin]; rfl)
  · exact (exec_selftestSlotEnd_passes q hs hslot).trans (by rw [Dev.slotOver_last hlast]; rfl)
  · exact State.lift_grow q hs (selftestSlotEndDev_repeats hslot hk hother) ((Dev.Grow.refl d).setBz ..)
  · exact exec_selftestSlotEnd_fails q hs hslot hk

end Sys2Proof.Machine
end

section
/-!
SUPPORT. Bezel (10: R252 to R259, R265, R270, R552): what the inputs of the fixed rows, a latch reset, a test trip and the
save of the settings come to.
-/

namespace Sys2Proof.Machine

/-! ## Rows (R255, R258, R259, R552) -/

theorem Dev.Grow.tripWake {d e : Dev} (h : Dev.Grow d e) : Dev.Grow d e.tripWake := h.trans (Dev.Kin.tripWake e).grow

theorem Dev.Grow.rowWake {d e : Dev} (old : Dev) (h : Dev.Grow d e) : Dev.Grow d (e.rowWake old) := by
  unfold Dev.rowWake
  exact h.tripWake.ite h

section
variable {d : Dev} (q : List Instr) {a : Afe}

theorem exec_bezelStartHeld (hs : d.settled) (hup : d.guardUp = true) (ha : a ∈ d.banks) (hstart : d.bezel a = bStart)
    (hvalid : (d.bz a).valid = true) (hnew : (d.bz a).held = false) :
    exec (.bezelStartHeld a) ⟨d, q⟩
      = .next ⟨(d.setBz a { d.bz a with held := true }).raise 0x3009 (afeSrc a) (rowMask (d.rows a)), q⟩ :=
  State.lift_grow q hs (if_pos (by simp [hup, ha, hstart, hvalid, hnew])) (((Dev.Grow.refl d).setBz ..).raise ..)

/-- A command that changes the input of a fixed row, on a die that works. -/
theorem State.lift_rowInput (hs : d.settled) (ha : a ∈ d.banks) (f : BzlSt → BzlSt) :
    (⟨d, q⟩ : State).lift (fun d => d.rowInput a f)
      = .next ⟨(d.guardChange (fun e => e.setBz a (f (e.bz a)))).guardSettle.rowWake d, q⟩ :=
  State.lift_grow q hs (if_pos (by simpa using ha)) (((((Dev.Grow.refl d).setBz ..).guardChange _).guardSettle).rowWake d)

/-- A command that changes whether the isolation channel of Bezel-U is lost, on a part with two blocks. -/
theorem State.lift_setCross (hs : d.settled) (htwo : d.twoBlocks = true) (lost : Bool) :
    (⟨d, q⟩ : State).lift (fun d => d.setCross lost) = .next ⟨(d.guardChange (fun e =>
      { e with saf := { e.saf with crossLost := lost } })).guardSettle.rowWake d, q⟩ :=
  State.lift_grow q hs (if_pos htwo) (((((Dev.Grow.refl d).withSaf _).guardChange _).guardSettle).rowWake d)

theorem exec_bezelTtrip (hacc : d.accepts (BZL_CTRL_TTRIP a)) (hup : d.guardUp = true) (ha : a ∈ d.banks) :
    exec (.bezelTtrip a) ⟨d, q⟩ = .next ⟨(d.guardChange (fun e =>
      e.setBz a { e.bz a with ttrip := true })).guardSettle.tripWake.commandDone, q⟩ :=
  State.lift_takes_grow q hacc (congrArg (fun e : Dev => e.guardSettle.tripWake) (if_pos ⟨hup, by simpa using ha⟩))
    ((((Dev.Grow.refl d).setBz ..).guardChange _).guardSettle.tripWake)

end

/-! ## Latch resets (R257, R289) -/

section
variable {d : Dev} (q : List Instr) {a : Afe}

/-- A block that has not tripped takes no latch reset. -/
theorem Dev.latchReset_untripped (h : d.bezel a ≠ bTripped) : d.latchReset a = d := if_pos (.inl h)

/-- A latch reset of a tripped block of a die that works: it arms where nothing but TTRIP is asserted and no fault holds it. -/
theorem Dev.latchReset_tripped (hup : d.guardUp = true) (ha : a ∈ d.banks) (htrip : d.bezel a = bTripped) :
    d.latchReset a = if (∀ r ∈ d.rows a, r = 0x55) ∧ d.saf.hold = [] then
        (d.setBz a { d.bz a with ttrip := false }).bezelArm a
      else (d.put (BZL_STAT_LRREF a) 1).raise 0x3005 (afeSrc a) [] := by
  unfold Dev.latchReset
  rw [if_neg (by simp [hup, ha, htrip])]
  simp

/-- A latch reset reaches the block of its die; one written to AFE-L leaves a Bezel-U that has not tripped as it is (R259). -/
theorem bezelLatchResetDev_own (hother : a = .L → d.bezel .U ≠ bTripped) :
    bezelLatchResetDev a d = (d.latchReset a).guardSettle := by
  cases a with
  | L => exact congrArg (fun e : Dev => (e.latchReset .L).guardSettle) (Dev.latchReset_untripped (hother rfl))
  | U => rfl

theorem exec_bezelLatchReset_arms (hacc : d.accepts (BZL_CTRL_LRST a)) (hup : d.guardUp = true) (ha : a ∈ d.banks)
    (htrip : d.bezel a = bTripped) (hother : a = .L → d.bezel .U ≠ bTripped) (hcalm : ∀ r ∈ d.rows a, r = 0x55)
    (hfree : d.saf.hold = []) :
    exec (.bezelLatchReset a) ⟨d, q⟩
      = .next ⟨((d.setBz a { d.bz a with ttrip := false }).bezelArm a).guardSettle.commandDone, q⟩ :=
  State.lift_takes_grow q hacc
    (by rw [bezelLatchResetDev_own hother, Dev.latchReset_tripped hup ha htrip, if_pos ⟨hcalm, hfree⟩])
    ((((Dev.Grow.refl d).setBz ..).trans (Dev.Kin.bezelArm ..).grow).guardSettle)

theorem exec_bezelLatchReset_refused (hacc : d.accepts (BZL_CTRL_LRST a)) (hup : d.guardUp = true) (ha : a ∈ d.banks)
    (htrip : d.bezel a = bTripped) (hother : a = .L → d.bezel .U ≠ bTripped)
    (hwhy : (∃ r ∈ d.rows a, r ≠ 0x55) ∨ d.saf.hold ≠ []) :
    exec (.bezelLatchReset a) ⟨d, q⟩
      = .next ⟨((d.put (BZL_STAT_LRREF a) 1).raise 0x3005 (afeSrc a) []).guardSettle.commandDone, q⟩ := by
  have hheld : ¬ ((∀ r ∈ d.rows a, r = 0x55) ∧ d.saf.hold = []) := by
    rintro ⟨hcalm, hfree⟩
    rcases hwhy with ⟨r, hr, hrow⟩ | hhold
    · exact hrow (hcalm r hr)
    · exact hhold hfree
  exact State.lift_takes_grow q hacc
    (by rw [bezelLatchResetDev_own hother, Dev.latchReset_tripped hup ha htrip, if_neg hheld])
    ((((Dev.Grow.refl d).put ..).raise ..).guardSettle)

end

/-! ## Stored settings (R265) -/

/-- The group that a save stores lies apart from BZL_NV. -/
theorem Dev.wordsAt_put_nv (d : Dev) (a : Afe) {f : Fld} (hf : f.addr = (BZL_NV_ERR a).addr) (v : Nat) :
    (d.put f v).wordsAt (bzlAddrs a) = (bzlAddrs a).map d.word := by
  refine List.map_congr_left fun b hb => Dev.word_put_other _ _ _ _ ?_
  rw [hf]
  revert b
  cases a <;> decide

section
variable {d : Dev} (q : List Instr) {a : Afe}

theorem exec_bzlSave_starts (hacc : d.accepts (BZL_NV_SAVE a)) (ha : a ∈ d.banks) (hidle : (d.bz a).save = none) :
    exec (.bzlSave a) ⟨d, q⟩ = .next ⟨((d.put (BZL_NV_BUSY a) 1).setBz a { d.bz a with
      save := some ((bzlAddrs a).map d.word) }).commandDone, q⟩ :=
  State.lift_takes_grow q hacc ((if_neg (Dev.not_foreign ha)).trans (by simp only [hidle]; rfl))
    (((Dev.Grow.refl d).put ..).setBz ..)

theorem exec_bzlSave_waits (hacc : d.accepts (BZL_NV_SAVE a)) (ha : a ∈ d.banks) (hbusy : (d.bz a).save.isSome = true) :
    exec (.bzlSave a) ⟨d, q⟩ = .next ⟨(d.setBz a { d.bz a with queued := true }).commandDone, q⟩ := by
  obtain ⟨ws, hws⟩ := Option.isSome_iff_exists.1 hbusy
  exact State.lift_takes_grow q hacc ((if_neg (Dev.not_foreign ha)).trans (by simp only [hws]))
    ((Dev.Grow.refl d).setBz ..)

end

/-- NVM holds the words of a save that succeeded, and ERR shows whether it did. -/
def Dev.bzlSaved (d : Dev) (a : Afe) (ws : List Word) (ok : Bool) : Dev :=
  ({ d with nvm := if ok then d.nvm.setBzl a (some ws) false else d.nvm }).putB (BZL_NV_ERR a) (!ok)

theorem Dev.bzlSaved_nvm (d : Dev) (a : Afe) (ws : List Word) (ok : Bool) :
    (d.bzlSaved a ws ok).nvm.bzl a = if ok then some ws else d.nvm.bzl a := by
  cases ok <;> cases a <;> rfl

theorem Dev.bzlSaved_err (d : Dev) (a : Afe) (ws : List Word) (ok : Bool) :
    (d.bzlSaved a ws ok).bit (BZL_NV_ERR a) = !ok :=
  (Dev.bit_put_same _ _ _ rfl).trans (by cases ok <;> rfl)

/-- The end of a save whose words are known: a further save that waited starts with the words of this moment. -/
theorem bzlSaveDoneDev_saved {d : Dev} {a : Afe} {ws : List Word} (ok : Bool) (hsave : (d.bz a).save = some ws) :
    bzlSaveDoneDev a ok d = if (d.bz a).queued
      then (d.bzlSaved a ws ok).setBz a { d.bz a with save := some ((bzlAddrs a).map d.word), queued := false }
      else ((d.bzlSaved a ws ok).put (BZL_NV_BUSY a) 0).setBz a { d.bz a with save := none } := by
  have hwords : (d.bzlSaved a ws ok).wordsAt (bzlAddrs a) = (bzlAddrs a).map d.word := Dev.wordsAt_put_nv _ a rfl _
  unfold bzlSaveDoneDev
  simp only [hsave]
  rw [← hwords]
  rfl

theorem exec_bzlSaveDone {d : Dev} (q : List Instr) {a : Afe} {ws : List Word} (ok : Bool) (hs : d.settled)
    (hsave : (d.bz a).save = some ws) :
    ∃ t, exec (.bzlSaveDone a ok) ⟨d, q⟩ = .next t ∧ t.dev.bit (BZL_NV_ERR a) = !ok
      ∧ t.dev.nvm.bzl a = (if ok then some ws else d.nvm.bzl a)
      ∧ ((d.bz a).queued = false → (t.dev.bz a).save = none ∧ t.dev.get (BZL_NV_BUSY a) = 0)
      ∧ ((d.bz a).queued = true → (t.dev.bz a).save = some ((bzlAddrs a).map d.word) ∧ (t.dev.bz a).queued = false) := by
  have hdone := bzlSaveDoneDev_saved ok hsave
  by_cases hq : (d.bz a).queued = true
  · rw [if_pos hq] at hdone
    refine ⟨_, State.lift_runs d q _ _ hdone (by cases a <;> exact hs) (by cases a <;> rfl) (by cases a <;> rfl)
      (by cases a <;> rfl), ?_, ?_, fun hno => absurd hq (by simp [hno]), fun _ => by simp⟩
    · simpa using d.bzlSaved_err a ws ok
    · simpa using d.bzlSaved_nvm a ws ok
  · rw [if_neg hq] at hdone
    refine ⟨_, State.lift_runs d q _ _ hdone (by cases a <;> exact hs) (by cases a <;> rfl) (by cases a <;> rfl)
      (by cases a <;> rfl), ?_, ?_, fun _ => ⟨by simp, ?_⟩, fun hyes => absurd hyes hq⟩
    · rw [Dev.bit_setBz, Dev.bit_put_apart _ _ _ _ rfl rfl (by cases a <;> rfl), Dev.bzlSaved_err]
    · simpa using d.bzlSaved_nvm a ws ok
    · rw [Dev.get_setBz]
      exact Dev.get_put_same _ _ _ rfl

/-- Settles O26: the rows are `Dev.rowInput` and `Dev.setCross`, a latch reset is that of its own block
(`bezelLatchResetDev_own`), and a save is started, waits or ends. -/
theorem bezelCommandsComplete : Obligations.BezelCommandsComplete := by
  unfold Obligations.BezelCommandsComplete
  refine ⟨fun d q a hs hup ha hstart hvalid hnew => exec_bezelStartHeld q hs hup ha hstart hvalid hnew,
    fun d q a hs ha => ?rows,
    fun d q a hs htwo => ⟨State.lift_setCross q hs htwo true, State.lift_setCross q hs htwo false⟩,
    fun d q a hacc hup ha htrip hother => ⟨exec_bezelLatchReset_arms q hacc hup ha htrip hother,
      exec_bezelLatchReset_refused q hacc hup ha htrip hother⟩,
    fun d q a hacc hup ha => exec_bezelTtrip q hacc hup ha,
    fun d q a hacc ha => ⟨exec_bzlSave_starts q hacc ha, exec_bzlSave_waits q hacc ha⟩,
    fun d q a ws ok hs hsave => ?done⟩
  case rows =>
    have hrow (f : BzlSt → BzlSt) := State.lift_rowInput q hs ha f
    exact ⟨hrow fun b => { b with sup := true }, hrow fun b => { b with ref := true }, hrow fun b => { b with clk := true },
      hrow fun b => { b with sup := false }, hrow fun b => { b with ref := false }, hrow fun b => { b with clk := false }⟩
  case done =>
    cases a <;> exact exec_bzlSaveDone q ok hs hsave

end Sys2Proof.Machine
end

section
/-!
SUPPORT. The fault flags of the SDC channels (11, R278): whatever the guard logic does as it settles after a change, it
leaves PFLT and NFLT as the tests of the switches left them. They share SDC_STAT with fields that it does write.
-/

namespace Sys2Proof.Machine

/-- The fault flags of the two SDC channels. -/
def sdcFlags : List Fld := [SDC_STAT_PFLT .L, SDC_STAT_NFLT .L]

theorem sdcFlags_addr : ∀ f ∈ sdcFlags, f.addr = 0x406004 := by decide

theorem sdcFlags_offStages : ∀ f ∈ sdcFlags, f.OffStages := by
  intro f hf
  fin_cases hf <;> exact ⟨rfl, fun a => by cases a <;> decide, by decide⟩

/-- Both SDC channels show the same fault flag. -/
structure Dev.SameFlags (d e : Dev) : Prop where
  get : ∀ f ∈ sdcFlags, e.get f = d.get f

namespace Dev.SameFlags

variable {d e f : Dev}

/-! ## Steps that every block shares -/

theorem refl (d : Dev) : Dev.SameFlags d d := ⟨fun _ _ => rfl⟩

/-- A field of another register is written. -/
theorem put (h : Dev.SameFlags d e) {g : Fld} (hg : g.addr ≠ 0x406004) (v : Nat) : Dev.SameFlags d (e.put g v) := by
  refine ⟨fun x hx => ?_⟩
  have haddr : x.addr ≠ g.addr := by rw [sdcFlags_addr x hx]; exact hg.symm
  rw [← h.get x hx]
  unfold Dev.get
  rw [Dev.word_put_other _ _ _ _ haddr]

theorem countSat (h : Dev.SameFlags d e) {g : Fld} (hg : g.addr ≠ 0x406004) (n : Nat) :
    Dev.SameFlags d (e.countSat g n) := h.put hg _

/-- A field of SDC_STAT beside the flags is written. -/
theorem putStat (h : Dev.SameFlags d e) {g : Fld} (hg : g.wf = true) (ha : ∀ x ∈ sdcFlags, g.apart x = true) (v : Nat) :
    Dev.SameFlags d (e.put g v) :=
  ⟨fun x hx => (Dev.get_put_apart _ _ _ _ hg (sdcFlags_offStages x hx).wf (ha x hx)).trans (h.get x hx)⟩

theorem ite (h : Dev.SameFlags d e) (g : Dev.SameFlags d f) {c : Prop} [Decidable c] :
    Dev.SameFlags d (if c then e else f) := by
  split <;> assumption

theorem each {α : Type} (h : Dev.SameFlags d e) (xs : List α) {step : Dev → α → Dev}
    (hstep : ∀ c, ∀ x ∈ xs, Dev.SameFlags d c → Dev.SameFlags d (step c x)) : Dev.SameFlags d (e.each xs step) :=
  List.foldlRecOn xs step h fun c hc x hx => hstep c x hx hc

theorem moved (h : Dev.SameFlags d e) (hm : Dev.Moved e f) : Dev.SameFlags d f :=
  ⟨fun x hx => (hm.get x (sdcFlags_offStages x hx).moved).trans (h.get x hx)⟩

theorem sent (h : Dev.SameFlags d e) (hs : Dev.Sent e f) : Dev.SameFlags d f := h.moved hs.moved

theorem raise (h : Dev.SameFlags d e) (code src : Nat) (items : List Nat) : Dev.SameFlags d (e.raise code src items) :=
  h.sent (Dev.Sent.raise ..)

theorem showMode (h : Dev.SameFlags d e) (cur base trig : Nat) : Dev.SameFlags d (e.showMode cur base trig) :=
  h.moved (Dev.Moved.showMode ..)

theorem setAux (h : Dev.SameFlags d e) (a : Afe) (x : AuxSt) : Dev.SameFlags d (e.setAux a x) := by
  cases a <;> exact ⟨h.get⟩

theorem setCal (h : Dev.SameFlags d e) (a : Afe) (x : CalSt) : Dev.SameFlags d (e.setCal a x) := by
  cases a <;> exact ⟨h.get⟩

theorem withPw (h : Dev.SameFlags d e) (x : PowerSt) : Dev.SameFlags d { e with pw := x } := ⟨h.get⟩
theorem withSpn (h : Dev.SameFlags d e) (x : SpnSt) : Dev.SameFlags d { e with spn := x } := ⟨h.get⟩
theorem withHif (h : Dev.SameFlags d e) (x : HifSt) : Dev.SameFlags d { e with hif := x } := ⟨h.get⟩
theorem withWin (h : Dev.SameFlags d e) (x : WinSt) : Dev.SameFlags d { e with win := x } := ⟨h.get⟩
theorem withTb (h : Dev.SameFlags d e) (x : TbSt) : Dev.SameFlags d { e with tb := x } := ⟨h.get⟩
theorem withOwd (h : Dev.SameFlags d e) (x : OwdSt) : Dev.SameFlags d { e with owd := x } := ⟨h.get⟩
theorem withImp (h : Dev.SameFlags d e) (x : ImpSt) : Dev.SameFlags d { e with imp := x } := ⟨h.get⟩
theorem withBdl (h : Dev.SameFlags d e) (x : BdlSt) : Dev.SameFlags d { e with bdl := x } := ⟨h.get⟩
theorem withIic (h : Dev.SameFlags d e) (x : IicSt) : Dev.SameFlags d { e with iic := x } := ⟨h.get⟩
theorem withSaf (h : Dev.SameFlags d e) (x : SafeSt) : Dev.SameFlags d { e with saf := x } := ⟨h.get⟩
theorem withDraws (h : Dev.SameFlags d e) (x : Nat) : Dev.SameFlags d { e with draws := x } := ⟨h.get⟩

theorem setBline (h : Dev.SameFlags d e) (l : Nat) (x : BdlLine) : Dev.SameFlags d (e.setBline l x) :=
  ⟨fun y hy => (Dev.get_setBline ..).trans (h.get y hy)⟩

theorem sendCompact (h : Dev.SameFlags d e) (ps : List Port) (k pos pay : Nat) :
    Dev.SameFlags d (e.sendCompact ps k pos pay) := by
  have halive : Dev.SameFlags d (e.nextAlive k).2 := h.withSpn _
  unfold Dev.sendCompact
  exact halive.each _ fun c p _ hc => hc.sent (Dev.Sent.portSend ..)

/-! ## Plan, sweep and sessions -/

theorem seeStages (h : Dev.SameFlags d e) : Dev.SameFlags d e.seeStages :=
  ⟨fun x hx => (Dev.seeStages_keeps e (sdcFlags_offStages x hx)).trans (h.get x hx)⟩

theorem putCell (h : Dev.SameFlags d e) {n : Nat} (hn : n ∈ f.allCells) (v : Nat) :
    Dev.SameFlags d (e.put (BAL_CSTS_STATE n) v) := by
  have hle : n ≤ 36 := mem_allCells hn
  exact h.put (by show 0x28400 + 4 * (n - 1) ≠ 0x406004; omega) v

theorem balCells (h : Dev.SameFlags d e) : Dev.SameFlags d e.balCells := by
  unfold Dev.balCells
  exact ((h.each _ fun c n hn hc => hc.putCell (List.mem_of_mem_filter hn) _).seeStages).ite h.seeStages

theorem balEnd (h : Dev.SameFlags d e) (cause : Nat) : Dev.SameFlags d (e.balEnd cause) := by
  have hcells : Dev.SameFlags d e.cellsStopped := h.each _ fun c n hn hc => hc.putCell (List.mem_of_mem_filter hn) _
  have hshown : Dev.SameFlags d (e.cellsStopped.endShown cause) :=
    (((hcells.put (g := BAL_STAT_ACTIVE) (by decide) _).put (g := BAL_STAT_ENDC) (by decide) _).put
      (g := BAL_STAT_PAUSE) (by decide) _).put (g := BAL_STAT_PAUSED) (by decide) _
  exact ⟨fun x hx => (Dev.balEnd_get e cause (sdcFlags_offStages x hx)).trans (hshown.get x hx)⟩

theorem balInterrupt (h : Dev.SameFlags d e) (pause : Nat) : Dev.SameFlags d (e.balInterrupt pause) := by
  have hpaused := (h.put (g := BAL_STAT_PAUSE) (by decide) (e.get BAL_STAT_PAUSE + pause)).put
    (g := BAL_STAT_PAUSED) (by decide) 1
  unfold Dev.balInterrupt
  exact h.seeStages.ite ((h.balEnd 4).ite (h.seeStages.ite (hpaused.balCells.raise ..)))

theorem sweepOver (h : Dev.SameFlags d e) (result : Nat) : Dev.SameFlags d (e.sweepOver result) := by
  have hshown : Dev.SameFlags d (e.sweepEndShown result) :=
    ((h.put (g := IMP_STAT_STATE) (by decide) _).put (g := IMP_STAT_RESULT) (by decide) _).put
      (g := IMP_STAT_CORR) (by decide) _
  exact ⟨fun x hx => (e.sweepOver_get result (sdcFlags_offStages x hx)).trans (hshown.get x hx)⟩

theorem toneBank (h : Dev.SameFlags d e) (a : Afe) : Dev.SameFlags d (e.toneBank a) := by
  unfold Dev.toneBank
  exact h.ite (h.withImp _)

theorem pointStart (h : Dev.SameFlags d e) (p : Nat) : Dev.SameFlags d (e.pointStart p) := by
  have hshown := (h.put (g := IMP_STAT_PT) (by decide) p).put (g := IMP_PROG) (by decide) 0
  unfold Dev.pointStart
  exact (((hshown.withImp _).put (g := IMP_STAT_CORR) (by decide) _).toneBank .L).toneBank .U

theorem cellRecord (h : Dev.SameFlags d e) (aborted : Bool) (n : Nat) : Dev.SameFlags d (e.cellRecord aborted n).2 := by
  unfold Dev.cellRecord
  dsimp only
  split
  · exact h
  · split
    · exact h
    · exact h.withDraws _

theorem pointResult (h : Dev.SameFlags d e) (pstate : Nat) : Dev.SameFlags d (e.pointResult pstate).2.2 := by
  unfold Dev.pointResult
  refine withImp ?_ _
  exact List.foldlRecOn (motive := fun acc : List Word × Dev => Dev.SameFlags d acc.2) _ _ h
    fun acc hacc n _ => hacc.cellRecord _ n

theorem sweepAbort (h : Dev.SameFlags d e) (result : Nat) : Dev.SameFlags d (e.sweepAbort result) := by
  unfold Dev.sweepAbort
  refine h.ite (((h.sweepOver 1).raise ..).ite ?_)
  have hbroken := ((h.pointStart (e.impPt + 1)).ite h (c := e.imp.gap = true)).pointResult 2
  exact ((hbroken.withImp _).sweepOver result).raise ..

theorem calEnding (h : Dev.SameFlags d e) (a : Afe) (result : Nat) : Dev.SameFlags d (e.calEnding a result) := by
  unfold Dev.calEnding
  split
  · exact h.ite (h.setCal ..)
  · exact (h.setCal ..).ite h

theorem activitiesStop (h : Dev.SameFlags d e) (result pause : Nat) :
    Dev.SameFlags d (e.activitiesStop result pause) :=
  (((h.sweepAbort result).calEnding .L 4).calEnding .U 4).balInterrupt pause

/-! ## The services of MONITOR -/

theorem auxTo (h : Dev.SameFlags d e) (a : Afe) (ph : AuxPhase) : Dev.SameFlags d (e.auxTo a ph) := by
  unfold Dev.auxTo
  extract_lets _ set wait conv shown
  have hshown : Dev.SameFlags d shown :=
    ((h.setAux a _).put (g := AUX_STAT_WAIT a) (by cases a <;> decide) _).put (g := AUX_STAT_BUSY a)
      (by cases a <;> decide) _
  split
  iterate 3 exact hshown.put (g := AUX_STAT_ENTRY a) (by cases a <;> decide) _
  exact hshown

theorem auxSettle (h : Dev.SameFlags d e) (a : Afe) : Dev.SameFlags d (e.auxSettle a) := by
  have hentry (k : Nat) : Dev.SameFlags d (e.auxEntry a k) :=
    (h.auxTo a _).ite ((h.auxTo a _).ite ((h.auxTo a _).ite (h.auxTo a _)))
  unfold Dev.auxSettle
  split
  case h_1 => exact (h.auxTo a _).ite h
  case h_2 | h_3 | h_4 => exact h.ite (h.auxTo a _)
  case h_5 => exact (h.ite (hentry _)).ite (h.auxTo a _)
  case h_6 => exact h

theorem auxDown (h : Dev.SameFlags d e) (a : Afe) : Dev.SameFlags d (e.auxDown a) := by
  unfold Dev.auxDown Dev.auxStop
  exact ((h.setAux ..).setAux ..).ite ((h.setAux ..).auxTo ..)

theorem stopWindows (h : Dev.SameFlags d e) : Dev.SameFlags d e.stopWindows := by
  have hbank (c : Dev) (a : Afe) (hc : Dev.SameFlags d c) : Dev.SameFlags d (c.stopBank a false) := by
    have hput := hc.put (g := CVW_STAT_INTEG a) (by cases a <;> decide) 0
    unfold Dev.stopBank
    refine hc.ite ?_
    cases a <;> exact ((hput.withWin _).withDraws _).withWin _
  unfold Dev.stopWindows
  exact (h.each _ fun c a _ hc => hbank c a hc).withWin _

theorem owdLose (h : Dev.SameFlags d e) : Dev.SameFlags d e.owdLose := by
  have hclass (c : Dev) (j : Nat) (hc : Dev.SameFlags d c) : Dev.SameFlags d (c.showClass j 5) := by
    unfold Dev.showClass
    split
    · exact hc.put (by show 0x405100 + 4 * j ≠ 0x406004; omega) _
    · exact hc
  unfold Dev.owdLose
  split
  · exact h.withOwd _
  · exact (h.each _ fun c j _ hc => (hclass c j hc).put (g := OWD_SKIP .L) (by decide) _).withOwd _

theorem bdlDrop (h : Dev.SameFlags d e) {l : Nat} (hl : l < 2) (err : Nat) : Dev.SameFlags d (e.bdlDrop l err) := by
  have hsought : Dev.SameFlags d (if e.bit (BDL_LSTAT_SRCH l) then (e.put (BDL_LSTAT_SRCH l) 0).put (BDL_LSTAT_VALID l) 0
      else e) := ((h.put (g := BDL_LSTAT_SRCH l) (by interval_cases l <;> decide) 0).put
    (g := BDL_LSTAT_VALID l) (by interval_cases l <;> decide) 0).ite h
  have hline (x : BdlLine) := hsought.setBline l x
  unfold Dev.bdlDrop
  dsimp only
  split
  · exact ((((hline _).withBdl _).put (g := BDL_XRES_DONE) (by decide) 1).put (g := BDL_XRES_ERR) (by decide) err).ite
      (hline _)
  · exact hline _

theorem iicStop (h : Dev.SameFlags d e) : Dev.SameFlags d e.iicStop :=
  ((h.withIic _).put (g := IIC_STAT_XRUN) (by decide) 0).put (g := IIC_STAT_BUSY) (by decide) 0

theorem seeMclk (h : Dev.SameFlags d e) : Dev.SameFlags d e.seeMclk := by
  obtain ⟨w, hw⟩ := e.seeMclk_eq
  rw [hw]
  exact h.withWin w

theorem stopTb (h : Dev.SameFlags d e) : Dev.SameFlags d e.stopTb := by
  have hunlock : Dev.SameFlags d e.ringUnlock := by
    unfold Dev.ringUnlock
    exact ((((h.withTb _).put (g := TB_STAT_RLOCK) (by decide) 0).put (g := TB_STAT_TQ) (by decide) _).raise ..).ite
      (h.withTb _)
  unfold Dev.stopTb
  exact h.ite (hunlock.ite (hunlock.put (g := TB_STAT_TQ) (by decide) _))

theorem sendTrip (h : Dev.SameFlags d e) : Dev.SameFlags d e.sendTrip := (h.sendCompact ..).ite h

theorem servicesDown (h : Dev.SameFlags d e) : Dev.SameFlags d e.servicesDown := by
  have hguard : Dev.SameFlags d (e.sendGuard true) := (h.sendCompact ..).ite h
  have haux : Dev.SameFlags d ((e.sendGuard true).each (e.sendGuard true).banks Dev.auxDown) :=
    hguard.each _ fun c a _ hc => hc.auxDown a
  have hlines := (haux.stopWindows.owdLose.balCells.bdlDrop (l := 0) (by decide) 1).bdlDrop (l := 1) (by decide) 1
  have hdown := hlines.iicStop.seeMclk
  exact hdown.ite hdown.stopTb

theorem drainEvents (n : Nat) (h : Dev.SameFlags d e) : Dev.SameFlags d (drainEvents n e) := by
  induction n generalizing e with
  | zero => exact h
  | succ n ih =>
    unfold Sys2Proof.Machine.drainEvents
    split
    · exact (ih ((h.withHif _).sent (Dev.Sent.ringWrite ..))).ite h
    · exact h

theorem servicesUp (h : Dev.SameFlags d e) : Dev.SameFlags d e.servicesUp := by
  have haux : Dev.SameFlags d (e.each e.banks Dev.auxSettle) := h.each _ fun c a _ hc => hc.auxSettle a
  exact (haux.sent (Dev.Sent.sendEvents _)).drainEvents _

theorem services (was : Bool) (h : Dev.SameFlags d e) : Dev.SameFlags d (Dev.services was e) :=
  h.servicesDown.ite (h.servicesUp.ite h)

/-! ## SAFE -/

theorem graceStop (h : Dev.SameFlags d e) : Dev.SameFlags d e.graceStop :=
  (h.withSaf _).putStat (g := SDC_STAT_GRUN .L) rfl (by decide) 0

theorem overTrans (h : Dev.SameFlags d e) : Dev.SameFlags d e.overTrans := by
  unfold Dev.overTrans
  split
  · exact ((h.withPw _).put (g := PWR_STAT_TRANS) (by decide) 0).ite h
  · exact h

theorem holdBudget (h : Dev.SameFlags d e) (trig : Nat) : Dev.SameFlags d (e.setHold.budgetEval trig) :=
  (h.withPw _).moved (Dev.Moved.budgetEval ..)

theorem enterSafe (h : Dev.SameFlags d e) (cause detail : Nat) : Dev.SameFlags d (e.enterSafe cause detail) := by
  unfold Dev.enterSafe
  refine h.ite ?_
  exact ((((h.withSaf _).graceStop.overTrans.showMode ..).raise ..).activitiesStop ..).services _

theorem safeExit (h : Dev.SameFlags d e) : Dev.SameFlags d e.safeExit := by
  unfold Dev.safeExit
  exact h.ite (((h.showMode ..).raise ..).ite (((h.showMode ..).raise ..).services _ |>.holdBudget 3))

/-! ## Bezel and the processor latch -/

theorem seeGirdle (h : Dev.SameFlags d e) : Dev.SameFlags d e.seeGirdle := by
  unfold Dev.seeGirdle
  extract_lets was now shown xbok
  have hxbok : Dev.SameFlags d xbok :=
    ((h.put (g := BZL_STAT_CARRO .L) (by decide) _).put (g := GRD_STAT_COUT .L) (by decide) _).put
      (g := BZL_STAT_XBOK .L) (by decide) _
  exact hxbok.ite (hxbok.sent (Dev.Sent.emit ..))

theorem setHwl (h : Dev.SameFlags d e) (energised : Bool) (detail : Nat) : Dev.SameFlags d (e.setHwl energised detail) := by
  have hshown := h.putStat (g := SDC_STAT_HWL .L) rfl (by decide) 1
  unfold Dev.setHwl
  exact (hshown.ite ((hshown.enterSafe ..).ite (hshown.withSaf _))).ite h

theorem bezelTrip (h : Dev.SameFlags d e) (a : Afe) (row : Nat) : Dev.SameFlags d (e.bezelTrip a row) := by
  have hstate := ((h.put (g := BZL_CAUSE_ROW a) (by cases a <;> decide) row).countSat (g := BZL_CAUSE_TRIPCNT a)
    (by cases a <;> decide) 1).put (g := BZL_STAT_STATE a) (by cases a <;> decide) bTripped
  have hraised := hstate.seeGirdle.raise 0x3003 (afeSrc a) [row]
  unfold Dev.bezelTrip
  dsimp only
  split
  · exact (((hraised.withWin _).ite hraised).enterSafe ..).sendTrip
  · exact ((hraised.withWin _).ite hraised).setHwl ..

theorem bezelAct (h : Dev.SameFlags d e) : Dev.SameFlags d e.bezelAct := by
  have hstep (c : Dev) (a : Afe) (hc : Dev.SameFlags d c) : Dev.SameFlags d (c.bezelStep a) := by
    have harm : Dev.SameFlags d (c.bezelArm a) :=
      ((hc.put (g := BZL_STAT_STATE a) (by cases a <;> decide) bArmed).seeGirdle).raise ..
    unfold Dev.bezelStep
    refine hc.ite ((harm.ite hc).ite (ite ?_ hc))
    split
    · exact hc.bezelTrip ..
    · exact hc
  exact (hstep _ .L (hstep _ .U h)).seeGirdle

theorem openPath (h : Dev.SameFlags d e) : Dev.SameFlags d e.openPath := by
  have hwarn (c old : Dev) (a : Afe) (hc : Dev.SameFlags d c) : Dev.SameFlags d (c.warnEvents old a) :=
    hc.each _ fun c r _ hc => hc.raise ..
  have httrip (c : Dev) (hc : Dev.SameFlags d c) : Dev.SameFlags d (c.ttrip .L) := by
    have hset : Dev.SameFlags d (c.setBz .L { c.bz .L with ttrip := true }) :=
      ⟨fun x hx => (Dev.get_setBz ..).trans (hc.get x hx)⟩
    unfold Dev.ttrip Dev.guardChange
    exact (((hwarn _ _ .L (hwarn _ _ .U hset)).bezelAct).ite hset).ite hc
  have hen : Dev.SameFlags d (if e.role = .head then e.put (SDC_CTRL_EN .L) 0 else e) :=
    (h.put (g := SDC_CTRL_EN .L) (by decide) 0).ite h
  exact (httrip _ hen).sendTrip

theorem setLatch (h : Dev.SameFlags d e) (cause cell : Nat) : Dev.SameFlags d (e.setLatch cause cell) := by
  have hshown := (((h.put (g := FW_PPSTAT_LATCH) (by decide) 1).put (g := FW_PPSTAT_CAUSE) (by decide) cause).put
    (g := FW_PPSTAT_CELL) (by decide) cell).countSat (g := FW_PPSTAT_TRIPCNT) (by decide) 1
  unfold Dev.setLatch
  exact h.ite (hshown.raise ..)

/-! ## DEGRADED and the channel faults -/

theorem enterDegraded (h : Dev.SameFlags d e) (pos : Nat) (c : Chan) : Dev.SameFlags d (e.enterDegraded pos c) := by
  have hshown (shownAt : Nat) := ((h.overTrans.showMode 9 (e.get PWR_STAT_BASE) 0xB).put
    (g := SDC_GREM_POS .L) (by decide) shownAt).put (g := SDC_GREM_CH .L) (by decide) (chanCode c)
  unfold Dev.enterDegraded
  exact ((((hshown _).withSaf _).putStat (g := SDC_STAT_GRUN .L) rfl (by decide) 1).raise ..).activitiesStop ..

theorem leaveDegraded (h : Dev.SameFlags d e) : Dev.SameFlags d e.leaveDegraded :=
  ((h.graceStop.showMode ..).raise ..).holdBudget 3

theorem graceAct (h : Dev.SameFlags d e) (expired : Bool) : Dev.SameFlags d (e.graceAct expired) := by
  have hopened (x : SafeSt) (latched cause detail : Nat) :=
    (((h.withSaf x).graceStop.setLatch latched 0).enterSafe cause detail).openPath
  unfold Dev.graceAct
  exact ((hopened ..).raise ..).ite (hopened ..)

theorem seeFaults (h : Dev.SameFlags d e) : Dev.SameFlags d e.seeFaults := by
  have hheld (x y : SafeSt) := (h.withSaf x).withSaf y
  have hjudged (x y z : SafeSt) := (hheld x y).withSaf z
  unfold Dev.seeFaults Dev.judge
  dsimp only
  split
  · exact (hjudged _ _ _).leaveDegraded.ite (hjudged _ _ _)
  · exact ((hheld _ _).ite ((hjudged _ _ _).graceAct false)).ite (((hjudged _ _ _).enterDegraded ..).ite (hjudged _ _ _))

theorem seeSdc (h : Dev.SameFlags d e) : Dev.SameFlags d e.seeSdc :=
  (h.putStat (g := SDC_STAT_SW .L) rfl (by decide) _).ite h

theorem seeSingle (h : Dev.SameFlags d e) : Dev.SameFlags d e.seeSingle := by
  unfold Dev.seeSingle
  exact h.ite ((h.withSaf _).each _ fun c p _ hc => hc.sent (Dev.Sent.raiseAbout ..))

/-- The settling of the guard logic. -/
theorem guardSettle (h : Dev.SameFlags d e) : Dev.SameFlags d e.guardSettle :=
  h.bezelAct.seeFaults.safeExit.seeSdc.seeSingle

end Dev.SameFlags

end Sys2Proof.Machine
end

section
/-!
SUPPORT. The disconnect path (11: R274, R276 to R278, R288, R290, R296): what the low-side enable, the latch resets, the
grace time, the save of the settings and the tests of the switches come to.
-/

namespace Sys2Proof.Machine

/-! ## The low-side enable (R274, R276) -/

section
variable {d : Dev} (q : List Instr)

theorem exec_keepAliveLoss (hs : d.settled) (hr : d.role = .head) :
    exec .keepAliveLoss ⟨d, q⟩ = .next ⟨(d.put (SDC_CTRL_EN .L) 0).seeSdc, q⟩ :=
  State.lift_grow q hs (if_pos hr) (((Dev.Grow.refl d).put ..).seeSdc)

theorem exec_sdcEnable_head (en : Bool) (hacc : d.accepts (SDC_CTRL_EN .L)) (hr : d.role = .head) :
    exec (.sdcEnable en) ⟨d, q⟩ = .next ⟨((d.putB (SDC_CTRL_EN .L) en).seeSdc.seeSingle).commandDone, q⟩ :=
  State.lift_takes_grow q hacc (if_pos hr) (((Dev.Grow.refl d).putB ..).seeSdc.seeSingle)

theorem exec_sdcEnable_member (en : Bool) (hacc : d.accepts (SDC_CTRL_EN .L)) (hr : d.role = .member) :
    exec (.sdcEnable en) ⟨d, q⟩ = .next ⟨d.commandDone, q⟩ :=
  State.lift_takes_grow q hacc (if_neg (by simp [hr])) (Dev.Grow.refl d)

end

/-! ## Latch resets (R290) -/

/-- A command that carries its time acts through the write of a field that the device takes. -/
theorem State.lift_takes_atTime {d : Dev} (q : List Instr) {f : Fld} {act : Dev → Dev} {e : Dev} (time : Nat)
    (h : d.accepts f) (he : act d = e) (hg : Dev.Grow (d.atTime time) e) :
    (⟨d, q⟩ : State).lift (Dev.actWrite f act) = .next ⟨e.commandDone, q⟩ :=
  State.lift_takes d q f act e h he (hg.asks.trans ((d.atTime_asks time).trans h.1.1))
    (hg.build.trans (d.atTime_build time)) (hg.role.trans (d.atTime_role time)) (hg.fz.trans (d.atTime_fz time))

@[simp] theorem Dev.atTime_hd (d : Dev) (time : Nat) : (d.atTime time).hd = d.hd := by
  obtain ⟨m, n, w, h⟩ := d.atTime_eq time
  rw [h]

@[simp] theorem Dev.atTime_saf (d : Dev) (time : Nat) : (d.atTime time).saf = d.saf := by
  obtain ⟨m, n, w, h⟩ := d.atTime_eq time
  rw [h]

@[simp] theorem Dev.atTime_bit (d : Dev) (time : Nat) (f : Fld) : (d.atTime time).bit f = d.bit f :=
  congrArg (fun n => decide (n ≠ 0)) (d.atTime_get time f)

@[simp] theorem Dev.atTime_bezel (d : Dev) (time : Nat) (a : Afe) : (d.atTime time).bezel a = d.bezel a := d.atTime_get ..

/-- The last results, the limits and the bands decide whether the channel is calm, whatever the time. -/
@[simp] theorem Dev.atTime_ppCalm (d : Dev) (time : Nat) : (d.atTime time).ppCalm = d.ppCalm := by
  obtain ⟨m, n, w, h⟩ := d.atTime_eq time
  rw [h]
  rfl

/-- Nothing but the carrier speaks against a reset of HWL. -/
def Dev.hwlFree (d : Dev) : Prop :=
  d.bezel .L = bArmed ∧ d.bit FW_PPSTAT_LATCH = false ∧ (∀ m ∈ d.hd.members, m.latch = false) ∧ d.saf.hold = []

/-- SDC_LATCH_RESET at a head, where the carrier is steady by the time of the write. -/
theorem sdcLatchResetDev_resets {d : Dev} {time : Nat} (hr : d.role = .head)
    (hsteady : (d.atTime time).carrierSteady = true) (hfree : d.hwlFree) :
    sdcLatchResetDev time d = ((d.atTime time).put (SDC_STAT_HWL .L) 0).seeSdc.guardSettle := by
  obtain ⟨hbezel, hlatch, hmembers, hhold⟩ := hfree
  unfold sdcLatchResetDev sdcLatchReset
  rw [if_neg (by simp [hr]), if_pos (by simpa [hsteady, hbezel, hlatch, hhold] using hmembers)]

theorem sdcLatchResetDev_refuses {d : Dev} {time : Nat} (hr : d.role = .head)
    (hwhy : ¬ ((d.atTime time).carrierSteady = true ∧ d.hwlFree)) :
    sdcLatchResetDev time d = ((d.atTime time).put (SDC_STAT_LRREF .L) 1).raise 0xB00B 0 [] := by
  unfold sdcLatchResetDev sdcLatchReset
  rw [if_neg (by simp [hr]), if_neg]
  rintro ⟨hsteady, hbezel, hlatch, hmembers, hhold⟩
  exact hwhy ⟨hsteady, by simpa using hbezel, by simpa using hlatch, by simpa using hmembers, by simpa using hhold⟩

section
variable {d : Dev} (q : List Instr) (time : Nat)

theorem exec_sdcLatchReset_resets (hacc : d.accepts (SDC_CTRL_LRST .L)) (hr : d.role = .head)
    (hsteady : (d.atTime time).carrierSteady = true) (hfree : d.hwlFree) :
    exec (.sdcLatchReset time) ⟨d, q⟩
      = .next ⟨(((d.atTime time).put (SDC_STAT_HWL .L) 0).seeSdc.guardSettle).commandDone, q⟩ :=
  State.lift_takes_atTime q time hacc (sdcLatchResetDev_resets hr hsteady hfree)
    (((Dev.Grow.refl _).put ..).seeSdc.guardSettle)

theorem exec_sdcLatchReset_refused (hacc : d.accepts (SDC_CTRL_LRST .L)) (hr : d.role = .head)
    (hwhy : ¬ ((d.atTime time).carrierSteady = true ∧ d.hwlFree)) :
    exec (.sdcLatchReset time) ⟨d, q⟩
      = .next ⟨(((d.atTime time).put (SDC_STAT_LRREF .L) 1).raise 0xB00B 0 []).commandDone, q⟩ :=
  State.lift_takes_atTime q time hacc (sdcLatchResetDev_refuses hr hwhy) (((Dev.Grow.refl _).put ..).raise ..)

theorem exec_processorLatchReset_resets (hacc : d.accepts FW_PPCTRL_LRST) (hcalm : d.ppCalm = true)
    (hfree : d.saf.hold = []) :
    exec (.processorLatchReset time) ⟨d, q⟩
      = .next ⟨(((d.atTime time).put FW_PPSTAT_LATCH 0).guardSettle).commandDone, q⟩ :=
  State.lift_takes_atTime q time hacc (if_pos (by simp [hcalm, hfree])) (((Dev.Grow.refl _).put ..).guardSettle)

theorem exec_processorLatchReset_refused (hacc : d.accepts FW_PPCTRL_LRST)
    (hwhy : d.ppCalm = false ∨ d.saf.hold ≠ []) :
    exec (.processorLatchReset time) ⟨d, q⟩
      = .next ⟨(((d.atTime time).put FW_PPSTAT_LRREF 1).raise 0xB00B 0 []).commandDone, q⟩ := by
  have hheld : ¬ ((d.atTime time).ppCalm = true ∧ (d.atTime time).saf.hold.isEmpty = true) := by
    rintro ⟨hcalm, hfree⟩
    rcases hwhy with hwild | hhold
    · simp [hwild] at hcalm
    · exact hhold (by simpa using hfree)
  exact State.lift_takes_atTime q time hacc (if_neg hheld) (((Dev.Grow.refl _).put ..).raise ..)

end

/-! ## The grace time (R288) -/

section
variable {d : Dev} (q : List Instr) (v : Word)

theorem exec_sdcGraceWrite_ignored (hacc : d.accepts (SDC_GRACE_TG .L)) (hmore : d.get (SDC_GRACE_TG .L) < bitsOf v 10 0) :
    exec (.sdcGraceWrite v) ⟨d, q⟩ = .next ⟨d.commandDone, q⟩ :=
  State.lift_takes_grow q hacc (if_pos hmore) (Dev.Grow.refl d)

theorem exec_sdcGraceWrite_lowers (hacc : d.accepts (SDC_GRACE_TG .L)) (hless : bitsOf v 10 0 ≤ d.get (SDC_GRACE_TG .L))
    (hidle : d.saf.grace = none) :
    exec (.sdcGraceWrite v) ⟨d, q⟩ = .next ⟨(d.put (SDC_GRACE_TG .L) (bitsOf v 10 0)).commandDone, q⟩ := by
  refine State.lift_takes_grow q hacc ?_ ((Dev.Grow.refl d).put ..)
  unfold sdcGraceWriteDev
  rw [if_neg hless.not_gt]
  simp only [Dev.put_saf, hidle]

end

/-! ## Stored settings (R296) -/

section
variable {d : Dev} (q : List Instr)

theorem exec_sdcSave_starts (hacc : d.accepts (SDC_NV_SAVE .L)) (hidle : d.saf.save = none) :
    exec .sdcSave ⟨d, q⟩ = .next ⟨(({ d with saf := { d.saf with save := some d.sdcWords } }).put
      (SDC_NV_BUSY .L) 1).commandDone, q⟩ :=
  State.lift_takes_grow q hacc (by simp only [sdcSaveDev, hidle]) (((Dev.Grow.refl d).withSaf _).put ..)

theorem exec_sdcSave_waits (hacc : d.accepts (SDC_NV_SAVE .L)) (hbusy : d.saf.save.isSome = true) :
    exec .sdcSave ⟨d, q⟩ = .next ⟨({ d with saf := { d.saf with queued := true } }).commandDone, q⟩ := by
  obtain ⟨ws, hws⟩ := Option.isSome_iff_exists.1 hbusy
  exact State.lift_takes_grow q hacc (by simp only [sdcSaveDev, hws]) ((Dev.Grow.refl d).withSaf _)

end

/-- NVM holds the words of a save that succeeded, and ERR shows whether it did. -/
def Dev.sdcSaved (d : Dev) (ws : List Word) (ok : Bool) : Dev :=
  (if ok then { d with nvm := { d.nvm with sdc := some ws, badSdc := false } } else d).putB (SDC_NV_ERR .L) (!ok)

theorem Dev.sdcSaved_err (d : Dev) (ws : List Word) (ok : Bool) : (d.sdcSaved ws ok).bit (SDC_NV_ERR .L) = !ok :=
  (Dev.bit_put_same _ _ _ rfl).trans (by cases ok <;> rfl)

theorem Dev.sdcSaved_nvm (d : Dev) (ws : List Word) (ok : Bool) :
    (d.sdcSaved ws ok).nvm.sdc = if ok then some ws else d.nvm.sdc := by
  cases ok <;> rfl

/-- The group that a save stores lies apart from SDC_NV. -/
theorem Dev.sdcWords_sdcSaved (d : Dev) (ws : List Word) (ok : Bool) : (d.sdcSaved ws ok).sdcWords = d.sdcWords := by
  have hword (a : Nat) (ha : a ≠ (SDC_NV_ERR .L).addr) : (d.sdcSaved ws ok).word a = d.word a :=
    (Dev.word_put_other _ _ _ _ ha).trans (by cases ok <;> rfl)
  unfold Dev.sdcWords Dev.get
  rw [hword _ (by decide), hword _ (by decide), hword _ (by decide)]

/-- The end of a save whose words are known: a further save that waited starts with the words of this moment. -/
theorem sdcSaveDoneDev_saved {d : Dev} {ws : List Word} (ok : Bool) (hsave : d.saf.save = some ws) :
    sdcSaveDoneDev ok d = if d.saf.queued
      then { d.sdcSaved ws ok with saf := { d.saf with save := some d.sdcWords, queued := false } }
      else ({ d.sdcSaved ws ok with saf := { d.saf with save := none } }).put (SDC_NV_BUSY .L) 0 := by
  have hsaf : (d.sdcSaved ws ok).saf = d.saf := by cases ok <;> rfl
  rw [← d.sdcWords_sdcSaved ws ok, ← hsaf]
  unfold sdcSaveDoneDev
  simp only [hsave]
  rfl

theorem exec_sdcSaveDone {d : Dev} (q : List Instr) {ws : List Word} (ok : Bool) (hs : d.settled)
    (hsave : d.saf.save = some ws) :
    ∃ t, exec (.sdcSaveDone ok) ⟨d, q⟩ = .next t ∧ t.dev.bit (SDC_NV_ERR .L) = !ok
      ∧ t.dev.nvm.sdc = (if ok then some ws else d.nvm.sdc)
      ∧ (d.saf.queued = false → t.dev.saf.save = none ∧ t.dev.get (SDC_NV_BUSY .L) = 0)
      ∧ (d.saf.queued = true → t.dev.saf.save = some d.sdcWords ∧ t.dev.saf.queued = false) := by
  have hdone := sdcSaveDoneDev_saved ok hsave
  by_cases hq : d.saf.queued = true
  · rw [if_pos hq] at hdone
    exact ⟨_, State.lift_runs d q _ _ hdone (by cases ok <;> exact hs) (by cases ok <;> rfl) (by cases ok <;> rfl)
      (by cases ok <;> rfl), d.sdcSaved_err ws ok, d.sdcSaved_nvm ws ok, fun hno => absurd hq (by simp [hno]),
      fun _ => ⟨rfl, rfl⟩⟩
  · rw [if_neg hq] at hdone
    exact ⟨_, State.lift_runs d q _ _ hdone (by cases ok <;> exact hs) (by cases ok <;> rfl) (by cases ok <;> rfl)
      (by cases ok <;> rfl), (Dev.bit_put_apart _ _ _ _ rfl rfl rfl).trans (d.sdcSaved_err ws ok), d.sdcSaved_nvm ws ok,
      fun _ => ⟨rfl, Dev.get_put_same _ _ _ rfl⟩, fun hyes => absurd hyes hq⟩

/-! ## Tests of the switches (R277, R278) -/

theorem swIndex_lt (sw : SdcSw) : swIndex sw < 4 := by cases sw <;> decide

/-- A test of a switch has ended with a KIND; `span` tells a span of a line test from a dark pulse. -/
def Dev.tested (d : Dev) (i kind span : Nat) : Dev :=
  { d with saf := { d.saf with tests := d.saf.tests.set i kind, spans := d.saf.spans.set i span } }

theorem Dev.Grow.tested {d e : Dev} (i kind span : Nat) (h : Dev.Grow d e) : Dev.Grow d (e.tested i kind span) :=
  h.withSaf _

theorem Dev.testEnd_first {d : Dev} {i kind : Nat} (h : kind = 0 ∨ (d.saf.tests[i]?).getD 0 ≠ kind) :
    d.testEnd i kind = (d.tested i kind 0).guardSettle :=
  congrArg Dev.guardSettle (if_neg fun hagain => h.elim hagain.1 fun hother => hother hagain.2)

theorem Dev.testEnd_again {d : Dev} {i kind : Nat} (hk : kind ≠ 0) (h : (d.saf.tests[i]?).getD 0 = kind) :
    d.testEnd i kind = ((d.tested i kind 0).confirm i kind).guardSettle :=
  congrArg Dev.guardSettle (if_pos ⟨hk, h⟩)

/-- The fault of a channel is shown, with the switch and the KIND that its tests found. -/
def Dev.sdcFaultShown (d : Dev) (i kind : Nat) : Dev :=
  (((d.put (if i < 2 then SDC_STAT_PFLT .L else SDC_STAT_NFLT .L) 1).put (SDC_FAIL_SW .L) (2 ^ i)).put (SDC_FAIL_KIND .L)
    kind).countSat (SDC_FAIL_CNT .L) 1

theorem Dev.confirm_new {d : Dev} {i kind : Nat} (h : (d.saf.conf[i]?).getD 0 ≠ kind) :
    d.confirm i kind = (({ d with saf := { d.saf with conf := d.saf.conf.set i kind } }).sdcFaultShown i kind).raise
      0xB006 0 [] := by
  unfold Dev.confirm Dev.sdcFaultShown
  rw [if_neg h]
  split <;> rfl

theorem Dev.Grow.confirm {d e : Dev} (i kind : Nat) (h : Dev.Grow d e) : Dev.Grow d (e.confirm i kind) := by
  unfold Dev.confirm
  exact h.ite ((((((h.withSaf _).put ..).ite ((h.withSaf _).put ..)).put ..).put ..).countSat .. |>.raise ..)

theorem Dev.sdcFaultShown_get (d : Dev) {i kind : Nat} (hi : i < 4) (hk : kind < 4) :
    (d.sdcFaultShown i kind).get (SDC_FAIL_KIND .L) = kind ∧ (d.sdcFaultShown i kind).get (SDC_FAIL_SW .L) = 2 ^ i
      ∧ (d.sdcFaultShown i kind).get (if i < 2 then SDC_STAT_PFLT .L else SDC_STAT_NFLT .L) = 1 := by
  unfold Dev.sdcFaultShown Dev.countSat
  refine ⟨?_, ?_, ?_⟩
  · rw [Dev.get_put_apart _ _ _ _ rfl rfl rfl]
    exact (Dev.get_put_same _ _ _ rfl).trans (Nat.mod_eq_of_lt (by show kind < 16; omega))
  · rw [Dev.get_put_apart _ _ _ _ rfl rfl rfl, Dev.get_put_apart _ _ _ _ rfl rfl rfl]
    exact (Dev.get_put_same _ _ _ rfl).trans (Nat.mod_eq_of_lt (by interval_cases i <;> decide))
  · split <;>
      rw [Dev.get_put_apart _ _ _ _ rfl rfl rfl, Dev.get_put_apart _ _ _ _ rfl rfl rfl,
        Dev.get_put_apart _ _ _ _ rfl rfl rfl] <;>
      exact Dev.get_put_same _ _ _ rfl

/-- Whatever the guard logic does about a fault that is confirmed, SDC_FAIL and the flag of its channel show it. -/
theorem Dev.confirm_shows {d : Dev} {i kind : Nat} (hi : i < 4) (hk : kind < 4) (h : (d.saf.conf[i]?).getD 0 ≠ kind) :
    (d.confirm i kind).guardSettle.get (SDC_FAIL_KIND .L) = kind
      ∧ (d.confirm i kind).guardSettle.get (SDC_FAIL_SW .L) = 2 ^ i
      ∧ (d.confirm i kind).guardSettle.get (if i < 2 then SDC_STAT_PFLT .L else SDC_STAT_NFLT .L) = 1 := by
  rw [Dev.confirm_new h]
  generalize ({ d with saf := { d.saf with conf := d.saf.conf.set i kind } } : Dev) = e
  obtain ⟨hkind, hsw, hflag⟩ := e.sdcFaultShown_get hi hk
  have hsame : Dev.SameFlags (e.sdcFaultShown i kind) ((e.sdcFaultShown i kind).raise 0xB006 0 []).guardSettle :=
    ((Dev.SameFlags.refl _).raise ..).guardSettle
  have hfail (f : Fld) (hf : f.addr = (SDC_FAIL_KIND .L).addr) :
      ((e.sdcFaultShown i kind).raise 0xB006 0 []).guardSettle.get f = (e.sdcFaultShown i kind).get f := by
    rw [Dev.guardSettle_get _ _ (by rw [hf]; decide), Dev.raise_get _ _ _ _ _ (by rw [hf]; decide)]
  refine ⟨(hfail (SDC_FAIL_KIND .L) rfl).trans hkind, (hfail (SDC_FAIL_SW .L) rfl).trans hsw, (hsame.get _ ?_).trans hflag⟩
  split <;> decide

/-- What the tests have found tells nothing of whether the channels are energised. -/
@[simp] theorem Dev.energised_withSaf (d : Dev) (x : SafeSt) : ({ d with saf := x } : Dev).energised = d.energised := rfl

section
variable {d : Dev} (q : List Instr) {sw : SdcSw}

theorem exec_darkPulseStart (hs : d.settled) (hon : d.energised = true) (hdark : d.saf.dark = none)
    (hback : d.saf.back = none) :
    exec (.darkPulseStart sw) ⟨d, q⟩ = .next ⟨({ d with saf := { d.saf with dark := some sw } }).seeSdc, q⟩ :=
  State.lift_grow q hs (if_pos (by simp [hon, hdark, hback])) (((Dev.Grow.refl d).withSaf _).seeSdc)

/-- DARK_PULSE_END of the switch that is off, while the channels are energised. -/
theorem darkPulseEndDev_energised (off : Bool) (hdark : d.saf.dark = some sw) (hon : d.energised = true) :
    darkPulseEndDev sw off d = if off then ({ d with saf := { d.saf with dark := none, back := some sw } }).seeSdc
      else ({ d with saf := { d.saf with dark := none } }).testEnd (swIndex sw) 1 := by
  unfold darkPulseEndDev
  rw [if_neg (by simp [hdark]), if_neg (by simp [hon])]

theorem exec_darkPulseEnd_off (hs : d.settled) (hdark : d.saf.dark = some sw) (hon : d.energised = true) :
    exec (.darkPulseEnd sw true) ⟨d, q⟩
      = .next ⟨({ d with saf := { d.saf with dark := none, back := some sw } }).seeSdc, q⟩ :=
  State.lift_grow q hs (darkPulseEndDev_energised true hdark hon) (((Dev.Grow.refl d).withSaf _).seeSdc)

theorem exec_darkPulseEnd_stuck (hs : d.settled) (hdark : d.saf.dark = some sw) (hon : d.energised = true)
    (hfirst : (d.saf.tests[swIndex sw]?).getD 0 ≠ 1) :
    exec (.darkPulseEnd sw false) ⟨d, q⟩
      = .next ⟨(({ d with saf := { d.saf with dark := none } } : Dev).tested (swIndex sw) 1 0).guardSettle, q⟩ :=
  have hend : darkPulseEndDev sw false d
      = (({ d with saf := { d.saf with dark := none } } : Dev).tested (swIndex sw) 1 0).guardSettle := by
    rw [darkPulseEndDev_energised false hdark hon, if_neg (by decide)]
    exact Dev.testEnd_first (.inr hfirst)
  State.lift_grow q hs hend ((((Dev.Grow.refl d).withSaf _).tested ..).guardSettle)

/-- DARK_PULSE_RETURN_TIMEOUT of the switch that turns on again, while the channels are energised. -/
theorem darkPulseReturnTimeoutDev_energised (on : Bool) (hback : d.saf.back = some sw) (hon : d.energised = true) :
    darkPulseReturnTimeoutDev sw on d
      = ({ d with saf := { d.saf with back := none } }).testEnd (swIndex sw) (if on then 0 else 2) := by
  unfold darkPulseReturnTimeoutDev
  rw [if_neg (by simp [hback]), if_neg (by simp [hon])]

theorem exec_darkPulseReturn_first (on : Bool) (hs : d.settled) (hback : d.saf.back = some sw) (hon : d.energised = true)
    (hfirst : on = true ∨ (d.saf.tests[swIndex sw]?).getD 0 ≠ 2) :
    exec (.darkPulseReturnTimeout sw on) ⟨d, q⟩ = .next ⟨(({ d with saf := { d.saf with back := none } } : Dev).tested
      (swIndex sw) (if on then 0 else 2) 0).guardSettle, q⟩ := by
  have hend : darkPulseReturnTimeoutDev sw on d = (({ d with saf := { d.saf with back := none } } : Dev).tested
      (swIndex sw) (if on then 0 else 2) 0).guardSettle := by
    rw [darkPulseReturnTimeoutDev_energised on hback hon]
    refine Dev.testEnd_first ?_
    rcases hfirst with rfl | hother
    · exact .inl rfl
    · cases on
      · exact .inr hother
      · exact .inl rfl
  exact State.lift_grow q hs hend ((((Dev.Grow.refl d).withSaf _).tested ..).guardSettle)

theorem exec_darkPulseReturn_confirms (hs : d.settled) (hback : d.saf.back = some sw) (hon : d.energised = true)
    (hagain : (d.saf.tests[swIndex sw]?).getD 0 = 2) (hnew : (d.saf.conf[swIndex sw]?).getD 0 ≠ 2) :
    ∃ t, exec (.darkPulseReturnTimeout sw false) ⟨d, q⟩ = .next t ∧ t.dev.get (SDC_FAIL_KIND .L) = 2
      ∧ t.dev.get (SDC_FAIL_SW .L) = 2 ^ swIndex sw
      ∧ t.dev.get (if swIndex sw < 2 then SDC_STAT_PFLT .L else SDC_STAT_NFLT .L) = 1 :=
  have hend : darkPulseReturnTimeoutDev sw false d = ((({ d with saf := { d.saf with back := none } } : Dev).tested
      (swIndex sw) 2 0).confirm (swIndex sw) 2).guardSettle := by
    rw [darkPulseReturnTimeoutDev_energised false hback hon]
    exact Dev.testEnd_again (by decide) hagain
  ⟨_, State.lift_grow q hs hend (((((Dev.Grow.refl d).withSaf _).tested ..).confirm ..).guardSettle),
    Dev.confirm_shows (d := ({ d with saf := { d.saf with back := none } } : Dev).tested (swIndex sw) 2 0)
      (swIndex_lt sw) (by decide) hnew⟩

/-- The KIND of a span of a line test: the line is open while energised, or off its level while not. -/
def Dev.spanKind (d : Dev) : Nat := if d.energised then 3 else 1

/-- LINE_TEST_SPAN of a line that is not as it should be, at a head whose guard logic runs. -/
theorem lineTestSpanDev_judged (joined : Bool) (hr : d.role = .head) (hup : d.guardUp = true) :
    lineTestSpanDev sw d.energised joined d = (if d.kindBefore (swIndex sw) joined = d.spanKind
      then (d.tested (swIndex sw) d.spanKind 1).confirm (swIndex sw) d.spanKind
      else d.tested (swIndex sw) d.spanKind 1).guardSettle :=
  if_neg (by simp [hr, hup])

theorem exec_lineTestSpan_first (joined : Bool) (hs : d.settled) (hr : d.role = .head) (hup : d.guardUp = true)
    (hfirst : d.kindBefore (swIndex sw) joined ≠ d.spanKind) :
    exec (.lineTestSpan sw d.energised joined) ⟨d, q⟩ = .next ⟨({ d with saf := { d.saf with
      tests := d.saf.tests.set (swIndex sw) d.spanKind, spans := d.saf.spans.set (swIndex sw) 1 } }).guardSettle, q⟩ :=
  State.lift_grow q hs ((lineTestSpanDev_judged joined hr hup).trans (congrArg Dev.guardSettle (if_neg hfirst)))
    (((Dev.Grow.refl d).tested ..).guardSettle)

theorem exec_lineTestSpan_confirms (joined : Bool) (hs : d.settled) (hr : d.role = .head) (hup : d.guardUp = true)
    (hagain : d.kindBefore (swIndex sw) joined = d.spanKind) (hnew : (d.saf.conf[swIndex sw]?).getD 0 ≠ d.spanKind) :
    ∃ t, exec (.lineTestSpan sw d.energised joined) ⟨d, q⟩ = .next t ∧ t.dev.get (SDC_FAIL_KIND .L) = d.spanKind
      ∧ t.dev.get (SDC_FAIL_SW .L) = 2 ^ swIndex sw := by
  have hkind : d.spanKind < 4 := by unfold Dev.spanKind; split <;> decide
  obtain ⟨hshown, hsw, -⟩ := Dev.confirm_shows (d := d.tested (swIndex sw) d.spanKind 1) (swIndex_lt sw) hkind hnew
  exact ⟨_, State.lift_grow q hs
    ((lineTestSpanDev_judged joined hr hup).trans (congrArg Dev.guardSettle (if_pos hagain)))
    ((((Dev.Grow.refl d).tested ..).confirm ..).guardSettle), hshown, hsw⟩

/-- What was found of the two switches of a channel is forgotten, the first of them by its index. -/
def Dev.testsForgotten (d : Dev) (i : Nat) : Dev :=
  { d with saf := { d.saf with
    tests := (d.saf.tests.set i 0).set (i + 1) 0, spans := (d.saf.spans.set i 0).set (i + 1) 0
    conf := (d.saf.conf.set i 0).set (i + 1) 0 } }

/-- A fault clear of an SDC channel, by its flag and the first of its switches. -/
theorem State.lift_faultClear {f : Dev → Dev} {flag : Fld} {i : Nat} (hs : d.settled)
    (he : f d = ((d.put flag 0).testsForgotten i).guardSettle) :
    (⟨d, q⟩ : State).lift f = .next ⟨((d.put flag 0).testsForgotten i).guardSettle, q⟩ :=
  State.lift_grow q hs he ((((Dev.Grow.refl d).put ..).withSaf _).guardSettle)

end

/-- Settles O27: the latch resets at the time of their write, a save and its end, and the tests of the switches, whose
flags the guard logic leaves as it settles (`Dev.SameFlags.guardSettle`). -/
theorem disconnectCommandsComplete : Obligations.DisconnectCommandsComplete := by
  unfold Obligations.DisconnectCommandsComplete
  refine ⟨fun d q hs hr => exec_keepAliveLoss q hs hr,
    fun d q en hacc => ⟨exec_sdcEnable_head q en hacc, exec_sdcEnable_member q en hacc⟩,
    fun d q time hacc hr => ⟨fun hsteady hbezel hlatch hmembers hhold => ?_, fun hwhy => ?_⟩,
    fun d q time hacc => ⟨exec_processorLatchReset_resets q time hacc, exec_processorLatchReset_refused q time hacc⟩,
    fun d q v hacc => ⟨exec_sdcGraceWrite_ignored q v hacc, exec_sdcGraceWrite_lowers q v hacc⟩,
    fun d q hacc => ⟨exec_sdcSave_starts q hacc, exec_sdcSave_waits q hacc⟩,
    fun d q ws ok hs hsave => exec_sdcSaveDone q ok hs hsave,
    fun d q sw hs hon hdark hback => exec_darkPulseStart q hs hon hdark hback,
    fun d q sw hs hdark hon => ⟨exec_darkPulseEnd_off q hs hdark hon, exec_darkPulseEnd_stuck q hs hdark hon⟩,
    fun d q sw hs hback hon => ⟨exec_darkPulseReturn_first q true hs hback hon (.inl rfl),
      fun hfirst => exec_darkPulseReturn_first q false hs hback hon (.inr hfirst),
      exec_darkPulseReturn_confirms q hs hback hon⟩,
    fun d q sw joined hs hr hup => ⟨exec_lineTestSpan_first q joined hs hr hup,
      exec_lineTestSpan_confirms q joined hs hr hup⟩,
    fun d q hs hr => ⟨State.lift_faultClear q (i := 0) hs (if_pos hr), State.lift_faultClear q (i := 2) hs (if_pos hr)⟩⟩
  · exact exec_sdcLatchReset_resets q time hacc hr hsteady ⟨hbezel, hlatch, hmembers, hhold⟩
  · refine exec_sdcLatchReset_refused q time hacc hr ?_
    rintro ⟨hsteady, hbezel, hlatch, hmembers, hhold⟩
    rcases hwhy with h | h | h | ⟨m, hm, h⟩ | h
    · exact absurd hsteady (by simp [h])
    · exact h hbezel
    · exact absurd h (by simp [hlatch])
    · exact absurd h (by simp [hmembers m hm])
    · exact h hhold

end Sys2Proof.Machine
end

section
/-!
SUPPORT. A statement that a failed die breaks: the grace timer that expires while CORE does not run (11, R285), on a
device whose AFE-L has failed (R294). The die that would assert row TTRIP is the one that has failed.
-/

namespace Sys2Proof.Machine

/-- Row TTRIP of a die that does not work is not asserted. -/
theorem Dev.ttrip_failed {d : Dev} {a : Afe} (h : a ∉ d.banks) : d.ttrip a = d := if_neg (by simp [h])

/-- The grace timer has stopped, and what Lathe is to do about its expiry waits. -/
def Dev.graceOver (d : Dev) : Dev :=
  ({ d with saf := { d.saf with graceDue := true, grace := none } }).put (SDC_STAT_GRUN .L) 0

theorem graceTimerExpiryDev_down {d : Dev} (hgrace : d.saf.grace.isSome = true) (hdown : d.lathe = false) :
    graceTimerExpiryDev d = d.graceOver.ttrip .L := by
  unfold graceTimerExpiryDev
  rw [if_neg (by simp [Option.isSome_iff_ne_none.1 hgrace]), if_neg (by simp [hdown])]
  rfl

/-- With CORE down and AFE-L failed, the expiry asserts no row. -/
theorem exec_graceTimerExpiry_failed {d : Dev} (q : List Instr) (hs : d.settled) (hgrace : d.saf.grace.isSome = true)
    (hdown : d.lathe = false) (hfailed : .L ∉ d.banks) : exec .graceTimerExpiry ⟨d, q⟩ = .next ⟨d.graceOver, q⟩ :=
  State.lift_grow q hs ((graceTimerExpiryDev_down hgrace hdown).trans (Dev.ttrip_failed (d := d.graceOver) hfailed))
    (((Dev.Grow.refl d).withSaf _).put ..)

/-- A member in DEGRADED over MONITOR whose grace timer runs, in a warm reset of CORE, and whose AFE-L has failed. -/
def graceOnFailedDie : Dev :=
  let d := ((State.reset.dev.put PWR_STAT_CUR Mode.degraded.code).put PWR_STAT_BASE 4).put (SDC_STAT_GRUN .L) 1
  { d with
    pw := { d.pw with starting := false, warm := true, failed := [.afeL] }
    saf := { d.saf with grace := some 0, graceOf := some (0, .processor) } }

theorem graceOnFailedDie_expires : graceOnFailedDie.settled ∧ graceOnFailedDie.saf.grace.isSome = true
    ∧ graceOnFailedDie.lathe = false ∧ graceOnFailedDie.guardUp = true ∧ .L ∉ graceOnFailedDie.banks
    ∧ graceOnFailedDie.graceOver.bzlL.ttrip = false := by
  and_intros <;> decide +kernel

/-- Refutes O28: its fifth clause says that the timer of AFE-L asserts row TTRIP wherever the guard logic runs. It
runs by the mode of the part, and where AFE-L itself has failed the timer ends with no row asserted. -/
theorem not_girdleAndGuardCommandsComplete : ¬ Obligations.GirdleAndGuardCommandsComplete := by
  rintro ⟨-, -, -, -, hexpiry, -⟩
  obtain ⟨hs, hgrace, hdown, hup, hfailed, hno⟩ := graceOnFailedDie_expires
  obtain ⟨t, ht, -, -, -, hrow⟩ := (hexpiry graceOnFailedDie [] hs hgrace).2 hdown
  cases ht.symm.trans (exec_graceTimerExpiry_failed [] hs hgrace hdown hfailed)
  exact absurd (hno.symm.trans (hrow hup)) (by decide)

end Sys2Proof.Machine
end

section
/-!
SUPPORT. The life-cycle never goes back (19, R498, R499): the state is read from counts of burned fuses, and no step
lowers a count.
-/

namespace Sys2Proof.Machine

/-! ## The chain of fuses as its counts rise -/

section
variable {a b : List Nat} (h : ∀ k : Nat, (a[k]?).getD 0 ≤ (b[k]?).getD 0)
include h

/-- A logical fuse that reads burned still does when more of its physical fuses are. -/
theorem burnt_mono (k : Nat) (hb : burnt a k = true) : burnt b k = true :=
  decide_eq_true ((of_decide_eq_true hb).trans (h k))

theorem serviceCount_mono : serviceCount a ≤ serviceCount b :=
  (List.monotone_filter_right _ (fun k hk => burnt_mono h k hk)).length_le

end

theorem lifeOf_eq_retired (c : List Nat) : lifeOf c = lRetired ↔ burnt c 63 = true := by
  unfold lifeOf
  split
  · simp_all
  · split_ifs <;> simp_all <;> decide

/-- The place of a state in the chain, by the three fuses that set it (R498). -/
theorem lifeRank_lifeOf (c : List Nat) :
    lifeRank (lifeOf c) = if burnt c 63 then 3 else if burnt c 1 then 2 else if burnt c 0 then 1 else 0 := by
  unfold lifeOf
  split_ifs <;> rfl

theorem lifeRank_mono {a b : List Nat} (h : ∀ k : Nat, (a[k]?).getD 0 ≤ (b[k]?).getD 0) :
    lifeRank (lifeOf a) ≤ lifeRank (lifeOf b) := by
  have h63 := burnt_mono h 63
  have h1 := burnt_mono h 1
  have h0 := burnt_mono h 0
  rw [lifeRank_lifeOf, lifeRank_lifeOf]
  grind

/-! ## A step -/

/-- A step idles, or it is a lifted effect, which keeps burned fuses burned. -/
theorem step_fuses_le {s t : State} (h : step s = .next t) : s.dev.fz.le t.dev.fz := by
  obtain ⟨d, q⟩ := s
  cases q with
  | nil =>
    cases h
    exact d.fz.le_refl
  | cons c q =>
    obtain ⟨f, r, rfl, -⟩ := exec_next h
    exact Dev.after_fuses f d

/-- Settles O5: no step lowers the count of a fuse, and every state of the chain is read from such counts. -/
theorem lifeCycleNeverGoesBack : Obligations.LifeCycleNeverGoesBack := by
  intro s t hst
  obtain ⟨hchain, -⟩ := step_fuses_le hst
  refine ⟨lifeRank_mono hchain, serviceCount_mono hchain, fun hr => ?_, burnt_mono hchain⟩
  exact (lifeOf_eq_retired _).2 (burnt_mono hchain 63 ((lifeOf_eq_retired _).1 hr))

end Sys2Proof.Machine
end

section
/-!
SUPPORT. The timebase of a head (14, R371 to R381): an update of the loop, the loss of a source, a second that is named,
a step that is decided and one that is reached.
-/

namespace Sys2Proof.Machine

/-- Settles O59: MTICK times 1000 is even, so the rest over 6 is 0, 2 or 4. -/
theorem tbtimeOfAnEdge : Obligations.TbtimeOfAnEdge := by
  intro m
  unfold tbTime tbFrac
  omega

/-! ## Quality and source -/

/-- A quality that comes into force is shown, and at the head its event is raised. -/
theorem Dev.setTq_sent {d : Dev} {q : Nat} (h : d.tq ≠ q) : Dev.Sent (d.put TB_STAT_TQ q) (d.setTq q) := by
  unfold Dev.setTq
  rw [if_neg h]
  dsimp only
  split_ifs
  · exact Dev.Sent.raise ..
  · exact Dev.Sent.raise ..
  · exact Dev.Sent.raise ..
  · exact Dev.Sent.refl _
  · exact Dev.Sent.refl _

theorem Dev.setTq_same {d : Dev} {q : Nat} (h : d.tq = q) : d.setTq q = d := if_pos h

theorem Dev.setTq_tq (d : Dev) {q : Nat} (hq : q < 4) : (d.setTq q).get TB_STAT_TQ = q := by
  by_cases h : d.tq = q
  · rw [Dev.setTq_same h]
    exact h
  · rw [(Dev.setTq_sent h).get _ (by decide), Dev.get_put_same _ _ _ (by decide)]
    exact Nat.mod_eq_of_lt hq

/-- A change of the quality writes no other field of the timebase's status. -/
theorem Dev.setTq_get (d : Dev) (q : Nat) {f : Fld} (hw : f.wf = true) (ha : TB_STAT_TQ.apart f = true)
    (hs : f.addr ∉ sendRegs) : (d.setTq q).get f = d.get f := by
  by_cases h : d.tq = q
  · rw [Dev.setTq_same h]
  · rw [(Dev.setTq_sent h).get _ hs, Dev.get_put_apart _ _ _ _ (by decide) hw ha]

@[simp] theorem Dev.setTq_tb (d : Dev) (q : Nat) : (d.setTq q).tb = d.tb := by
  by_cases h : d.tq = q
  · rw [Dev.setTq_same h]
  · rw [(Dev.setTq_sent h).rest]
    rfl

/-- The device with another hidden state of the timebase. -/
def Dev.withTb (d : Dev) (x : TbSt) : Dev := { d with tb := x }

@[simp] theorem Dev.withTb_tb (d : Dev) (x : TbSt) : (d.withTb x).tb = x := rfl
@[simp] theorem Dev.withTb_get (d : Dev) (x : TbSt) (f : Fld) : (d.withTb x).get f = d.get f := rfl
@[simp] theorem Dev.withTb_bit (d : Dev) (x : TbSt) (f : Fld) : (d.withTb x).bit f = d.bit f := rfl
@[simp] theorem Dev.withTb_tq (d : Dev) (x : TbSt) : (d.withTb x).tq = d.tq := rfl

theorem Dev.setAct_same {d : Dev} {a : Nat} (h : d.get TB_STAT_ACT = a) : d.setAct a = d := if_pos h

/-- Another source is in use: under one that is fixed no event tells of it (R374). -/
theorem Dev.setAct_fixed {d : Dev} {a : Nat} (h : d.get TB_STAT_ACT ≠ a) (hsrc : d.get TB_CFG_SRC ≠ 3) :
    d.setAct a = (d.put TB_STAT_ACT a).withTb { d.tb with good := 0 } := by
  unfold Dev.setAct
  rw [if_neg h]
  dsimp only
  exact if_neg (by rwa [Dev.get_with_tb, Dev.get_put_apart _ _ _ _ (by decide) (by decide) (by decide)])

theorem Dev.Grow.withTb {d e : Dev} (x : TbSt) (h : Dev.Grow d e) : Dev.Grow d (e.withTb x) := by
  apply h.upd <;> rfl

theorem Dev.Grow.decideStep {d e : Dev} (new : Nat → Int) (h : Dev.Grow d e) : Dev.Grow d (e.decideStep new) :=
  (h.withTb _).put ..

/-! ## An update of the loop (R377, R378, R381) -/

/-- The device with the error of an update and the count of good updates. -/
def Dev.updated (d : Dev) (err : Int) : Dev :=
  (d.putS TB_ERR err).withTb { d.tb with good := if |err| ≤ 51200 then d.tb.good + 1 else 0 }

theorem Dev.updated_get (d : Dev) (err : Int) {f : Fld} (hw : f.wf = true) (ha : TB_ERR.apart f = true) :
    (d.updated err).get f = d.get f := by
  unfold Dev.updated Dev.putS
  rw [Dev.withTb_get, Dev.get_put_apart _ _ _ _ (by decide) hw ha]

@[simp] theorem Dev.updated_tq (d : Dev) (err : Int) : (d.updated err).tq = d.tq :=
  d.updated_get err (by decide) (by decide)

@[simp] theorem Dev.updated_step (d : Dev) (err : Int) : (d.updated err).tb.step = d.tb.step := rfl

theorem Dev.updated_good (d : Dev) {err : Int} (h : |err| ≤ 51200) :
    d.updated err = (d.putS TB_ERR err).withTb { d.tb with good := d.tb.good + 1 } := by
  unfold Dev.updated
  rw [if_pos h]

theorem Dev.updated_bad (d : Dev) {err : Int} (h : 51200 < |err|) :
    d.updated err = (d.putS TB_ERR err).withTb { d.tb with good := 0 } := by
  unfold Dev.updated
  rw [if_neg h.not_ge]

/-- The device with the error of an update, and in FREE where it was locked and the update is out. -/
def Dev.judged (d : Dev) (err : Int) : Dev :=
  if 51200 < |err| ∧ d.tq = tqLocked then (d.updated err).setTq tqFree else d.updated err

@[simp] theorem Dev.judged_tb (d : Dev) (err : Int) : (d.judged err).tb = (d.updated err).tb := by
  unfold Dev.judged
  split
  · rw [Dev.setTq_tb]
  · rfl

theorem Dev.judged_get (d : Dev) (err : Int) {f : Fld} (hw : f.wf = true) (ha : TB_STAT_TQ.apart f = true)
    (hs : f.addr ∉ sendRegs) (he : TB_ERR.apart f = true) : (d.judged err).get f = d.get f := by
  unfold Dev.judged
  split
  · exact (Dev.setTq_get _ _ hw ha hs).trans (d.updated_get err hw he)
  · exact d.updated_get err hw he

theorem Dev.loopUpdate_eq (d : Dev) (err : Int) :
    d.loopUpdate err =
      if (d.judged err).tq = tqUnset ∨ ((d.get TB_CFG_STEPLIM * 10000 * 256 : Nat) : Int) < |err| then
        (if d.tb.step.isSome then d.judged err
          else (d.judged err).decideStep (fun s => ((s * ticksPerSecond : Nat) : Int) - roundDiv (err * 6) 256000))
      else if 16 ≤ (d.updated err).tb.good then (d.judged err).setTq tqLocked
      else d.judged err := by
  unfold Dev.loopUpdate
  extract_lets shown ok _ counted settled
  have hcounted : counted = d.updated err := by
    simp only [counted, ok, decide_eq_true_eq]
    rfl
  have hsettled : settled = d.judged err := by
    simp only [settled, hcounted, ok, Dev.updated_tq, Bool.not_eq_true', decide_eq_false_iff_not, not_le]
    rfl
  simp only [hsettled]
  rw [Dev.judged_get _ _ (by decide) (by decide) (by decide) (by decide), Dev.judged_tb, Dev.updated_step]

/-- Within STEPLIM, once the time is set, the error and the count of good updates are all that an update changes, but for
the sixteenth in succession, which locks. -/
theorem Dev.loopUpdate_near {d : Dev} {err : Int} (hq : d.tq ≠ tqUnset)
    (hlim : |err| ≤ ((d.get TB_CFG_STEPLIM * 10000 * 256 : Nat) : Int)) (hfar : 51200 < |err| → d.tq ≠ tqLocked) :
    d.loopUpdate err = if 16 ≤ (d.updated err).tb.good then (d.updated err).setTq tqLocked else d.updated err := by
  have hjudged : d.judged err = d.updated err := if_neg fun h => hfar h.1 h.2
  rw [Dev.loopUpdate_eq, hjudged, Dev.updated_tq, if_neg fun h => h.elim hq hlim.not_gt]

/-- A good update before the sixteenth in succession counts. -/
theorem Dev.loopUpdate_counts {d : Dev} {err : Int} (hq : d.tq ≠ tqUnset)
    (hlim : |err| ≤ ((d.get TB_CFG_STEPLIM * 10000 * 256 : Nat) : Int)) (hok : |err| ≤ 51200) (hg : d.tb.good < 15) :
    d.loopUpdate err = (d.putS TB_ERR err).withTb { d.tb with good := d.tb.good + 1 } := by
  rw [Dev.loopUpdate_near hq hlim fun h => absurd hok h.not_ge, Dev.updated_good d hok]
  exact if_neg (by simpa using hg)

theorem Dev.loopUpdate_locks {d : Dev} {err : Int} (hq : d.tq ≠ tqUnset)
    (hlim : |err| ≤ ((d.get TB_CFG_STEPLIM * 10000 * 256 : Nat) : Int)) (hok : |err| ≤ 51200) (hg : 15 ≤ d.tb.good) :
    (d.loopUpdate err).get TB_STAT_TQ = 3 := by
  have hsixteen : 16 ≤ (d.updated err).tb.good := by simpa [Dev.updated_good d hok] using hg
  rw [Dev.loopUpdate_near hq hlim fun h => absurd hok h.not_ge, if_pos hsixteen]
  exact Dev.setTq_tq _ (by decide)

/-- An update that is out, of a head that is not locked, starts the count anew. -/
theorem Dev.loopUpdate_restarts {d : Dev} {err : Int} (hq : d.tq ≠ tqUnset)
    (hlim : |err| ≤ ((d.get TB_CFG_STEPLIM * 10000 * 256 : Nat) : Int)) (hfar : 51200 < |err|) (hl : d.tq ≠ tqLocked) :
    d.loopUpdate err = (d.putS TB_ERR err).withTb { d.tb with good := 0 } := by
  rw [Dev.loopUpdate_near hq hlim fun _ => hl, Dev.updated_bad d hfar]
  exact if_neg (by simp)

/-- An update that is out takes a locked head to FREE, however far and whether or not a step is decided. -/
theorem Dev.loopUpdate_unlocks {d : Dev} {err : Int} (hq : d.tq = tqLocked) (hfar : 51200 < |err|) :
    (d.loopUpdate err).get TB_STAT_TQ = 1 ∧ (d.loopUpdate err).tb.good = 0 := by
  have htq : (d.judged err).get TB_STAT_TQ = 1 := by
    rw [Dev.judged, if_pos ⟨hfar, hq⟩]
    exact Dev.setTq_tq _ (by decide)
  have hgood : (d.updated err).tb.good = 0 := by simp [Dev.updated_bad d hfar]
  have hgood' : (d.judged err).tb.good = 0 := by rw [Dev.judged_tb, hgood]
  rw [Dev.loopUpdate_eq, hgood]
  rw [if_neg (show ¬ 16 ≤ 0 by decide)]
  split_ifs
  · exact ⟨htq, hgood'⟩
  · refine ⟨?_, rfl⟩
    unfold Dev.decideStep
    dsimp only
    rw [Dev.get_put_apart _ _ _ _ (by decide) (by decide) (by decide)]
    exact htq
  · exact ⟨htq, hgood'⟩

theorem Dev.Grow.updated (d : Dev) (err : Int) : Dev.Grow d (d.updated err) := ((Dev.Grow.refl d).putS ..).withTb _

theorem Dev.Grow.judged (d : Dev) (err : Int) : Dev.Grow d (d.judged err) :=
  ((Dev.Grow.updated d err).setTq _).ite (Dev.Grow.updated d err)

theorem Dev.Grow.loopUpdate {d e : Dev} (err : Int) (h : Dev.Grow d e) : Dev.Grow d (e.loopUpdate err) := by
  have hj := Dev.Grow.judged e err
  refine h.trans ?_
  rw [Dev.loopUpdate_eq]
  exact (hj.ite (hj.decideStep _)).ite ((hj.setTq _).ite hj)

/-! ## PTM -/

/-- The phase error that a PTM dialogue shows (R375). -/
def Dev.ptmErr (d : Dev) (src tb : Int) : Int := tb - 256 * (src + toSigned 64 (d.get64 TB_PTMOFSL TB_PTMOFSH))

/-- The device with PTM present. -/
def Dev.withPtm (d : Dev) (ok : Bool) : Dev := d.withTb { d.tb with ptmOk := ok }

section
variable {d : Dev} (q : List Instr)

theorem exec_ptmDialogue (src tb : Int) (hs : d.settled) (hh : d.headTb = true) (hsrc : d.get TB_CFG_SRC = 1)
    (hact : d.get TB_STAT_ACT = 1) :
    exec (.ptmDialogue src tb) ⟨d, q⟩ = .next ⟨(d.withPtm true).loopUpdate (d.ptmErr src tb), q⟩ := by
  refine State.lift_grow q hs ?_ (((Dev.Grow.refl d).withTb _).loopUpdate _)
  unfold ptmDialogueDev
  rw [if_neg (by simp [hh, hsrc])]
  dsimp only
  rw [Dev.setAct_same (by exact hact)]
  rfl

/-- A good update before the sixteenth counts. -/
theorem exec_ptmDialogue_near (src tb : Int) (hs : d.settled) (hh : d.headTb = true) (hsrc : d.get TB_CFG_SRC = 1)
    (hact : d.get TB_STAT_ACT = 1) (hq : d.tq ≠ tqUnset)
    (hlim : |d.ptmErr src tb| ≤ ((d.get TB_CFG_STEPLIM * 10000 * 256 : Nat) : Int)) :
    (|d.ptmErr src tb| ≤ 51200 → d.tb.good < 15 → exec (.ptmDialogue src tb) ⟨d, q⟩
      = .next ⟨{ d.putS TB_ERR (d.ptmErr src tb) with tb := { d.tb with ptmOk := true, good := d.tb.good + 1 } }, q⟩)
    ∧ (|d.ptmErr src tb| ≤ 51200 → 15 ≤ d.tb.good →
      ∃ t, exec (.ptmDialogue src tb) ⟨d, q⟩ = .next t ∧ t.dev.get TB_STAT_TQ = 3)
    ∧ (51200 < |d.ptmErr src tb| → d.tq ≠ tqLocked → exec (.ptmDialogue src tb) ⟨d, q⟩
      = .next ⟨{ d.putS TB_ERR (d.ptmErr src tb) with tb := { d.tb with ptmOk := true, good := 0 } }, q⟩) := by
  have he := exec_ptmDialogue q src tb hs hh hsrc hact
  refine ⟨fun hok hg => ?_, fun hok hg => ⟨_, he, Dev.loopUpdate_locks (d := d.withPtm true) hq hlim hok hg⟩, fun hfar hl => ?_⟩
  · rw [he, Dev.loopUpdate_counts (d := d.withPtm true) hq hlim hok hg]
    rfl
  · rw [he, Dev.loopUpdate_restarts (d := d.withPtm true) hq hlim hfar hl]
    rfl

/-- PTM is lost, and no other source is configured: a locked head goes to HOLDOVER, a free one stays FREE (R375, R381). -/
theorem Dev.sourceLost_last {d : Dev} (hwant : d.wantedSource = 0) (hact : d.get TB_STAT_ACT ≠ 0)
    (hsrc : d.get TB_CFG_SRC ≠ 3) :
    d.sourceLost.get TB_STAT_ACT = 0 ∧ (d.tq = tqLocked → d.sourceLost.get TB_STAT_TQ = 2)
      ∧ (d.tq = tqFree → d.sourceLost.get TB_STAT_TQ = 1) ∧ d.sourceLost.tb = { d.tb with good := 0 } := by
  have hfixed := Dev.setAct_fixed hact hsrc
  have htq : (d.setAct 0).get TB_STAT_TQ = d.get TB_STAT_TQ := by
    rw [hfixed, Dev.withTb_get, Dev.get_put_apart _ _ _ _ (by decide) (by decide) (by decide)]
  have hact0 : (d.setAct 0).get TB_STAT_ACT = 0 := by rw [hfixed, Dev.withTb_get, Dev.get_put_same _ _ _ (by decide), Nat.zero_mod]
  have htb : (d.setAct 0).tb = { d.tb with good := 0 } := by rw [hfixed]; rfl
  unfold Dev.sourceLost
  rw [hwant, if_neg hact.symm]
  dsimp only
  split_ifs with hl
  · refine ⟨(Dev.setTq_get _ _ (by decide) (by decide) (by decide)).trans hact0, fun _ => Dev.setTq_tq _ (by decide),
      fun hf => ?_, (Dev.setTq_tb ..).trans htb⟩
    exact absurd ((hl.2.symm.trans htq).trans hf) (by decide)
  · exact ⟨hact0, fun h => absurd ⟨rfl, htq.trans h⟩ hl, htq.trans, htb⟩

theorem exec_ptmLoss (hs : d.settled) (hr : d.role = .head) (hsrc : d.get TB_CFG_SRC = 1) (hact : d.get TB_STAT_ACT = 1) :
    ∃ t, exec .ptmLoss ⟨d, q⟩ = .next t ∧ t.dev.get TB_STAT_ACT = 0 ∧ (d.tq = tqLocked → t.dev.get TB_STAT_TQ = 2)
      ∧ (d.tq = tqFree → t.dev.get TB_STAT_TQ = 1) := by
  have hlost := Dev.sourceLost_last (d := d.withPtm false) (by simp [Dev.wantedSource, Dev.withPtm, hsrc])
    (by simp [Dev.withPtm, hact]) (by simp [Dev.withPtm, hsrc])
  obtain ⟨ha, hl, hf, -⟩ := hlost
  exact ⟨⟨(d.withPtm false).sourceLost, q⟩,
    State.lift_grow q hs (if_neg (by simp [hr])) (((Dev.Grow.refl d).withTb _).sourceLost), ha, hl, hf⟩

/-! ## PPS -/

/-- An edge that is not at the instant expected of it (R376). -/
def Dev.ppsOff (d : Dev) (tb : Int) : Bool :=
  d.tb.lastEdge.any (fun e => decide (256000000 < |tb - (e + 256000000000)|))

theorem ppsEdgeDev_off {tb : Int} (hh : d.headTb = true) (hsrc : d.get TB_CFG_SRC = 2) (hoff : d.ppsOff tb = true) :
    ppsEdgeDev tb d = d.raise 0x8007 0 [] := by
  unfold ppsEdgeDev
  rw [if_neg (by simp [hh, hsrc])]
  unfold Dev.ppsOff at hoff
  cases he : d.tb.lastEdge with
  | none => simp [he] at hoff
  | some e => exact if_pos (by simpa [he] using hoff)

/-- The device that has taken a PPS edge (R376). -/
def Dev.edgeTaken (d : Dev) (tb : Int) : Dev :=
  d.withTb { d.tb with
    ppsOk := true, lastEdge := some tb, tod := none
    lastSec := match d.tb.tod with | some s => some s | none => d.tb.lastSec.map (· + 1) }

/-- The device that has taken a PPS edge and, where its second is named, updated the loop by it. -/
def Dev.ppsTaken (d : Dev) (tb : Int) : Dev :=
  match d.tb.tod with
  | some s => (d.edgeTaken tb).loopUpdate (tb - ((s * 1000000000 * 256 : Nat) : Int))
  | none => d.edgeTaken tb

theorem Dev.ppsTaken_named {d : Dev} {s : Nat} (h : d.tb.tod = some s) (tb : Int) :
    d.ppsTaken tb = (d.edgeTaken tb).loopUpdate (tb - ((s * 1000000000 * 256 : Nat) : Int)) := by
  unfold Dev.ppsTaken
  rw [h]

theorem Dev.ppsTaken_unnamed {d : Dev} (h : d.tb.tod = none) (tb : Int) : d.ppsTaken tb = d.edgeTaken tb := by
  unfold Dev.ppsTaken
  rw [h]

theorem ppsEdgeDev_taken {tb : Int} (hh : d.headTb = true) (hsrc : d.get TB_CFG_SRC = 2) (hact : d.get TB_STAT_ACT = 2)
    (hoff : d.ppsOff tb = false) :
    ppsEdgeDev tb d = d.ppsTaken tb := by
  have hwant : (d.edgeTaken tb).wantedSource = 2 := by simp [Dev.wantedSource, Dev.edgeTaken, hsrc]
  have hsame : (d.edgeTaken tb).setAct 2 = d.edgeTaken tb := Dev.setAct_same hact
  unfold ppsEdgeDev
  rw [if_neg (by simp [hh, hsrc])]
  extract_lets off sec _ taken used
  have hon : off = false := by
    rw [← hoff]
    unfold off Dev.ppsOff
    cases d.tb.lastEdge <;> rfl
  have hused : used = d.edgeTaken tb := hsame
  rw [hon, if_neg (by decide), if_neg (by exact not_not.2 hwant), hused]
  rfl

theorem Dev.Grow.ppsTaken (d : Dev) (tb : Int) : Dev.Grow d (d.ppsTaken tb) := by
  unfold Dev.ppsTaken
  have h : Dev.Grow d (d.edgeTaken tb) := (Dev.Grow.refl d).withTb _
  cases d.tb.tod with
  | none => exact h
  | some s => exact h.loopUpdate _

theorem exec_ppsEdge_taken {tb : Int} (hs : d.settled) (hh : d.headTb = true) (hsrc : d.get TB_CFG_SRC = 2)
    (hact : d.get TB_STAT_ACT = 2) (hoff : d.ppsOff tb = false) :
    exec (.ppsEdge tb) ⟨d, q⟩ = .next ⟨d.ppsTaken tb, q⟩ :=
  State.lift_grow q hs (ppsEdgeDev_taken hh hsrc hact hoff) (Dev.Grow.ppsTaken d tb)

theorem exec_ppsEdge (tb : Int) (hs : d.settled) (hh : d.headTb = true) (hsrc : d.get TB_CFG_SRC = 2)
    (hact : d.get TB_STAT_ACT = 2) :
    (∀ e : Int, d.tb.lastEdge = some e → 256000000 < |tb - (e + 256000000000)| →
      exec (.ppsEdge tb) ⟨d, q⟩ = .next ⟨d.raise 0x8007 0 [], q⟩)
    ∧ (∀ e : Int, d.tb.lastEdge = some e → |tb - (e + 256000000000)| ≤ 256000000 → d.tb.tod = none →
      exec (.ppsEdge tb) ⟨d, q⟩ = .next ⟨{ d with tb := { d.tb with
        ppsOk := true, lastEdge := some tb, lastSec := d.tb.lastSec.map (· + 1) } }, q⟩)
    ∧ (∀ sec : Nat, d.tb.lastEdge = none → d.tb.tod = some sec → d.tb.step = none → d.tq ≠ tqUnset →
      let err := tb - ((sec * 1000000000 * 256 : Nat) : Int)
      |err| ≤ ((d.get TB_CFG_STEPLIM * 10000 * 256 : Nat) : Int) → |err| ≤ 51200 → d.tb.good < 15 →
      exec (.ppsEdge tb) ⟨d, q⟩ = .next ⟨{ d.putS TB_ERR err with tb := { d.tb with
        ppsOk := true, lastEdge := some tb, lastSec := some sec, tod := none, good := d.tb.good + 1 } }, q⟩) := by
  refine ⟨fun e he hfar => ?_, fun e he hnear htod => ?_, ?_⟩
  · exact State.lift_grow q hs (ppsEdgeDev_off hh hsrc (by simpa [Dev.ppsOff, he] using hfar)) ((Dev.Grow.refl d).raise ..)
  · rw [exec_ppsEdge_taken q hs hh hsrc hact (by simpa [Dev.ppsOff, he] using hnear), Dev.ppsTaken_unnamed htod]
    simp only [Dev.edgeTaken, Dev.withTb, htod]
  · intro sec he htod _ hq err hlim hok hg
    rw [exec_ppsEdge_taken q hs hh hsrc hact (by simp [Dev.ppsOff, he]), Dev.ppsTaken_named htod,
      Dev.loopUpdate_counts (d := d.edgeTaken tb) hq hlim hok hg]
    simp only [Dev.edgeTaken, htod]
    rfl

theorem exec_ppsLoss (hs : d.settled) (hr : d.role = .head) (hsrc : d.get TB_CFG_SRC = 2) (hact : d.get TB_STAT_ACT = 2) :
    ∃ t, exec .ppsLoss ⟨d, q⟩ = .next t ∧ t.dev.get TB_STAT_ACT = 0 ∧ t.dev.tb.ppsOk = false ∧ t.dev.tb.lastEdge = none
      ∧ (d.tq = tqLocked → t.dev.get TB_STAT_TQ = 2) ∧ (d.tq = tqFree → t.dev.get TB_STAT_TQ = 1) := by
  have hlost := Dev.sourceLost_last
    (d := d.withTb { d.tb with ppsOk := false, lastEdge := none, lastSec := none, tod := none })
    (by simp [Dev.wantedSource, hsrc]) (by simp [hact]) (by simp [hsrc])
  obtain ⟨ha, hl, hf, htb⟩ := hlost
  exact ⟨_, State.lift_grow q hs (if_neg (by simp [hr])) (((Dev.Grow.refl d).withTb _).sourceLost), ha,
    congrArg TbSt.ppsOk htb, congrArg TbSt.lastEdge htb, hl, hf⟩

end

/-- Settles O43: an update sets the error and counts, and the source that is lost is the only one configured. -/
theorem headTimeSourcesComplete : Obligations.HeadTimeSourcesComplete := by
  refine ⟨fun d q src tb hs hh hsrc hact _ hq => exec_ptmDialogue_near q src tb hs hh hsrc hact hq,
    fun d q src tb hs hh hsrc hact hq hfar => ?_, fun d q hs hr hsrc hact => ?_,
    fun d q tb hs hh hsrc hact => exec_ppsEdge q tb hs hh hsrc hact,
    fun d q hs hr hsrc hact => exec_ppsLoss q hs hr hsrc hact⟩
  · exact ⟨_, exec_ptmDialogue q src tb hs hh hsrc hact, Dev.loopUpdate_unlocks (d := d.withPtm true) hq hfar⟩
  · obtain ⟨t, ht, ha, hl, hf⟩ := exec_ptmLoss q hs hr hsrc hact
    exact ⟨fun h => ⟨t, ht, hl h, ha⟩, fun h => ⟨t, ht, hf h, ha⟩⟩

end Sys2Proof.Machine
end

section
/-!
SUPPORT. Setting the time of a head (14, R376 to R381): the message that names a second, the registers that do, the step
that TB_SET decides, the end of HOLDOVER and the step itself.
-/

namespace Sys2Proof.Machine

/-! ## The message (R376) -/

theorem leNat_leBytes (n v : Nat) : leNat (leBytes n v) = v % 256 ^ n := by
  induction n generalizing v with
  | zero => simp [leBytes, leNat, Nat.mod_one]
  | succ n ih =>
    have h256 : 256 ^ (n + 1) = 256 * 256 ^ n := pow_succ' ..
    rw [leBytes, leNat, ih, BitVec.toNat_ofNat, h256]
    exact (Nat.mod_mul (x := v) (a := 256) (b := 256 ^ n)).symm

/-- The bytes of a time-of-day message before its CRC (Table 14-3). -/
def todHead (sec : Nat) : List Byte := [0x54, 1] ++ (List.range 8).map (fun i => BitVec.ofNat 8 (sec / 256 ^ i)) ++ [1]

theorem todHead_bytes (sec : Nat) : (List.range 8).map (fun i => BitVec.ofNat 8 (sec / 256 ^ i)) = leBytes 8 sec := by
  simp [List.range_succ, leBytes, Nat.div_div_eq_div_mul]

/-- A message of the right form is judged by its CRC alone. -/
theorem timeOfDayDev_message (d : Dev) {sec : Nat} (c : Byte) (ms : Nat) (h : sec < 2 ^ 64) :
    timeOfDayDev (todHead sec ++ [c]) ms d = d.nameSecond (decide (crc8 (todHead sec) = c)) sec ms := by
  have hsec : leNat (leBytes 8 sec) = sec := (leNat_leBytes 8 sec).trans (Nat.mod_eq_of_lt (by simpa using h))
  have hcut : ((todHead sec ++ [c]).drop 2).take 8 = leBytes 8 sec := by
    rw [← todHead_bytes]
    rfl
  unfold timeOfDayDev
  rw [hcut, hsec]
  exact congrArg (fun b => d.nameSecond b sec ms) (Bool.true_and _)

section
variable {d : Dev} (q : List Instr) {sec ms : Nat}

/-- A good name for the next second is taken at a time for it and in order. -/
theorem Dev.nameSecond_takes (hr : d.role = .head) (h100 : 100 ≤ ms) (h900 : ms ≤ 900)
    (hnext : d.tb.lastSec = none ∨ ∃ l, d.tb.lastSec = some l ∧ sec = l + 1) :
    d.nameSecond true sec ms = { d with tb := { d.tb with tod := some sec } } := by
  have horder : (match d.tb.lastSec with | some l => decide (sec = l + 1) | none => true) = true := by
    rcases hnext with h | ⟨l, h, hl⟩
    · rw [h]
    · rw [h]
      exact decide_eq_true hl
  unfold Dev.nameSecond
  rw [if_neg (by simp [hr])]
  exact if_pos ⟨rfl, h100, h900, horder⟩

/-- Any other is discarded with its event. -/
theorem Dev.nameSecond_discards {good : Bool} (hr : d.role = .head)
    (hwhy : good = false ∨ ms < 100 ∨ 900 < ms ∨ ∃ l, d.tb.lastSec = some l ∧ sec ≠ l + 1) :
    d.nameSecond good sec ms = d.raise 0x8007 0 [] := by
  unfold Dev.nameSecond
  rw [if_neg (by simp [hr])]
  refine if_neg ?_
  rintro ⟨hgood, h100, h900, horder⟩
  rcases hwhy with h | h | h | ⟨l, hl, hne⟩
  · simp [h] at hgood
  · omega
  · omega
  · rw [hl] at horder
    exact hne (of_decide_eq_true horder)

theorem Dev.Grow.nameSecond {d e : Dev} (good : Bool) (sec ms : Nat) (h : Dev.Grow d e) :
    Dev.Grow d (e.nameSecond good sec ms) := by
  unfold Dev.nameSecond
  exact h.ite (Dev.Grow.ite (h.withTb _) (h.raise ..))

theorem exec_timeOfDayMessage (hs : d.settled) (h : sec < 2 ^ 64) (c : Byte) :
    exec (.timeOfDayMessage (todHead sec ++ [c]) ms) ⟨d, q⟩
      = .next ⟨d.nameSecond (decide (crc8 (todHead sec) = c)) sec ms, q⟩ :=
  State.lift_grow q hs (timeOfDayDev_message d c ms h) ((Dev.Grow.refl d).nameSecond ..)

theorem exec_timeOfDayMessage_cases (hs : d.settled) (hr : d.role = .head) (h : sec < 2 ^ 64) :
    (100 ≤ ms → ms ≤ 900 → d.tb.lastSec = none ∨ (∃ l, d.tb.lastSec = some l ∧ sec = l + 1) →
      exec (.timeOfDayMessage (todHead sec ++ [crc8 (todHead sec)]) ms) ⟨d, q⟩
        = .next ⟨{ d with tb := { d.tb with tod := some sec } }, q⟩)
    ∧ (ms < 100 ∨ 900 < ms → exec (.timeOfDayMessage (todHead sec ++ [crc8 (todHead sec)]) ms) ⟨d, q⟩
      = .next ⟨d.raise 0x8007 0 [], q⟩)
    ∧ (∀ l, d.tb.lastSec = some l → sec ≠ l + 1 →
      exec (.timeOfDayMessage (todHead sec ++ [crc8 (todHead sec)]) ms) ⟨d, q⟩ = .next ⟨d.raise 0x8007 0 [], q⟩)
    ∧ (∀ c, c ≠ crc8 (todHead sec) → exec (.timeOfDayMessage (todHead sec ++ [c]) ms) ⟨d, q⟩
      = .next ⟨d.raise 0x8007 0 [], q⟩) := by
  have hright := exec_timeOfDayMessage (ms := ms) q hs h (crc8 (todHead sec))
  refine ⟨fun h1 h9 hn => ?_, fun hms => ?_, fun l hl hne => ?_, fun c hc => ?_⟩
  · rw [hright, decide_eq_true rfl, Dev.nameSecond_takes hr h1 h9 hn]
  · rw [hright, Dev.nameSecond_discards hr (.inr (hms.imp id .inl))]
  · rw [hright, Dev.nameSecond_discards hr (.inr (.inr (.inr ⟨l, hl, hne⟩)))]
  · rw [exec_timeOfDayMessage q hs h c, Dev.nameSecond_discards hr (.inl (decide_eq_false hc.symm))]

/-! ## TB_TODH and TB_SETH (R376, R379) -/

theorem exec_tbTodWrite (lo hi : Word) (h : d.accepts TB_TODH) (hr : d.role = .head) (h100 : 100 ≤ ms) (h900 : ms ≤ 900)
    (hnext : d.tb.lastSec = none ∨ ∃ l, d.tb.lastSec = some l ∧ lo.toNat + 2 ^ 32 * hi.toNat = l + 1) :
    exec (.tbTodWrite lo hi ms) ⟨d, q⟩ = .next ⟨({ d with tb := { d.tb with
      todLow := lo.toNat, tod := some (lo.toNat + 2 ^ 32 * hi.toNat) } } : Dev).commandDone, q⟩ :=
  State.lift_takes_grow q h
    (Dev.nameSecond_takes (d := d.withTb { d.tb with todLow := lo.toNat }) hr h100 h900 hnext) ((Dev.Grow.refl d).withTb _)

/-- TB_SET decides a step at the first whole second at least 3 s on. -/
theorem Dev.decideStep_whole (d : Dev) (sec : Nat) :
    d.decideStep (fun _ => ((sec * ticksPerSecond : Nat) : Int))
      = (d.withTb { d.tb with step := some (secondFrom (d.mtick + 18000000), sec, 0), good := 0 }).put TB_STAT_STEPPEND 1 := by
  unfold Dev.decideStep
  dsimp only
  rw [Int.toNat_natCast, Nat.mul_div_cancel _ (by decide), Nat.mul_mod_left]
  rfl

theorem exec_tbSet (lo hi : Word) (h : d.accepts TB_SETH) :
    (d.headTb = true → d.get TB_CFG_SRC = 0 ∨ d.tq = tqUnset → exec (.tbSet lo hi) ⟨d, q⟩
      = .next ⟨((d.withTb { d.tb with
        setLow := lo.toNat, good := 0
        step := some (secondFrom (d.mtick + 18000000), lo.toNat + 2 ^ 32 * hi.toNat, 0) }).put TB_STAT_STEPPEND 1).commandDone, q⟩)
    ∧ (d.get TB_CFG_SRC ≠ 0 → d.tq ≠ tqUnset → exec (.tbSet lo hi) ⟨d, q⟩
      = .next ⟨(d.withTb { d.tb with setLow := lo.toNat }).commandDone, q⟩) := by
  refine ⟨fun hh hfree => ?_, fun hsrc htq => ?_⟩
  · refine State.lift_takes_grow q h ?_ (((Dev.Grow.refl d).withTb _).put ..)
    refine (if_pos ⟨hh, hfree⟩).trans ?_
    exact Dev.decideStep_whole (d.withTb { d.tb with setLow := lo.toNat }) _
  · exact State.lift_takes_grow q h (if_neg fun hc => hc.2.elim hsrc htq) ((Dev.Grow.refl d).withTb _)

/-! ## The end of HOLDOVER (R381) -/

theorem exec_holdoverEnd (hs : d.settled) (hq : d.tq = tqHoldover) :
    (d.role = .member → d.bit TB_STAT_RLOCK = false →
      exec .holdoverEnd ⟨d, q⟩ = .next ⟨d.put TB_STAT_TQ 1, q⟩)
    ∧ (d.role = .head → exec .holdoverEnd ⟨d, q⟩ = .next ⟨(d.put TB_STAT_TQ 1).raise 0x8003 0 [], q⟩) := by
  have hends (hmay : ¬ (d.role = .member ∧ d.bit TB_STAT_RLOCK = true)) : holdoverEndDev d = d.setTq tqFree :=
    if_neg fun h => h.elim (fun h => h hq) hmay
  have hchange : d.setTq tqFree = if d.role = .head then (d.put TB_STAT_TQ tqFree).raise 0x8003 0 []
      else d.put TB_STAT_TQ tqFree := if_neg (by rw [hq]; decide)
  refine ⟨fun hr hl => ?_, fun hr => ?_⟩
  · exact State.lift_grow q hs ((hends (by simp [hl])).trans (hchange.trans (if_neg (by simp [hr])))) ((Dev.Grow.refl d).put ..)
  · exact State.lift_grow q hs ((hends (by simp [hr])).trans (hchange.trans (if_pos hr)))
      (((Dev.Grow.refl d).put ..).raise ..)

end

/-! ## The step (R380) -/

/-- What the stages, after a step of the count, leave of the step. -/
structure Dev.SameCount (d e : Dev) : Prop where
  tb    : e.tb = d.tb
  mtick : e.mtick = d.mtick
  tstep : e.win.tstep = d.win.tstep
  stat  : ∀ f ∈ [TB_STAT_TQ, TB_STAT_RLOCK, TB_STAT_STEPPEND, TB_STAT_STEPCNT], e.get f = d.get f

namespace Dev.SameCount
variable {d e f : Dev}

theorem refl (d : Dev) : Dev.SameCount d d := ⟨rfl, rfl, rfl, fun _ _ => rfl⟩

theorem trans (h : Dev.SameCount d e) (g : Dev.SameCount e f) : Dev.SameCount d f :=
  ⟨g.tb.trans h.tb, g.mtick.trans h.mtick, g.tstep.trans h.tstep, fun x hx => (g.stat x hx).trans (h.stat x hx)⟩

theorem raise (d : Dev) (code src : Nat) (items : List Nat) : Dev.SameCount d (d.raise code src items) :=
  ⟨by simp, by simp, by simp, fun x hx => Dev.raise_get _ _ _ _ _ (by revert x; decide)⟩

theorem putSw (d : Dev) (a : Afe) (b : Bool) : Dev.SameCount d (d.putB (BPS_STAT_SW a) b) :=
  ⟨rfl, rfl, rfl, fun x hx => Dev.get_put_apart _ _ _ _ (by cases a <;> decide) (by revert x; decide)
    (by revert x; cases a <;> decide)⟩

theorem showSw (d : Dev) : Dev.SameCount d d.showSw := by
  unfold Dev.showSw
  refine List.foldlRecOn (motive := Dev.SameCount d) _ _ (refl d) fun e he a _ => ?_
  split
  · exact he.trans (putSw ..)
  · exact he

theorem seeStages (d : Dev) : Dev.SameCount d d.seeStages := by
  unfold Dev.seeStages
  refine trans ?_ (showSw _)
  exact ⟨rfl, rfl, rfl, fun _ _ => rfl⟩

theorem stepStages (d : Dev) : Dev.SameCount d d.stepStages := by
  unfold Dev.stepStages
  split
  · refine trans ?_ (seeStages _)
    exact ⟨rfl, rfl, rfl, fun _ _ => rfl⟩
  · exact refl d

end Dev.SameCount

theorem Dev.Grow.stepStages {d e : Dev} (h : Dev.Grow d e) : Dev.Grow d e.stepStages := by
  unfold Dev.stepStages
  refine Dev.Grow.ite (Dev.Grow.trans ?_ (Dev.Kin.seeStages _).grow) h
  exact h.upd rfl rfl rfl rfl rfl rfl rfl rfl rfl rfl rfl rfl rfl rfl rfl rfl rfl rfl

/-- The device whose count has jumped, before the new count has moved anything else. -/
def Dev.jumped (d : Dev) (new : Nat) : Dev :=
  { d with
    mtick := new
    win := { d.win with
      openTick := d.win.openTick + ((new : Int) - (d.mtick : Int)), earliest := (new : Int), tstep := true }
    tb := { d.tb with lastEdge := d.tb.lastEdge.map (fun e => e + roundDiv (((new : Int) - (d.mtick : Int)) * 256000) 6) } }

theorem Dev.jump_eq (d : Dev) (new : Nat) :
    d.jump new = (((d.jumped new).placePeriods new).countMod TB_STAT_STEPCNT 1).raise 0x8004 0
      (item64 (tbTime d.mtick) ++ item64 (tbTime new)) := rfl

/-- The device at the step's edge, with nothing of the step left over. -/
def Dev.atEdge (d : Dev) (edge : Nat) : Dev :=
  let e := d.advanceTo edge
  (e.withTb { e.tb with step := none, late := false, annL := none, annH := none, annT := none }).put TB_STAT_STEPPEND 0

/-- The count jumps, and where the step was announced late that is said. -/
def Dev.stepSaid (d : Dev) (late : Bool) (new : Nat) : Dev :=
  if late then (d.jump new).raise 0x8009 0 [] else d.jump new

/-- The device after a step to a count, as its edge is reached. -/
def Dev.stepped (d : Dev) (edge new : Nat) : Dev :=
  let e := (d.atEdge edge).stepSaid d.tb.late new
  if e.role = .head ∧ e.tq = tqUnset then e.setTq tqFree else e

theorem tbStepDev_reached {d : Dev} {s sec tick : Nat} (hrun : d.tbRuns = true) (hstep : d.tb.step = some (s, sec, tick))
    (hnow : d.mtick ≤ s * 6000000) (hwin : d.win.opened = false ∨ ((s * 6000000 : Nat) : Int) ≤ d.nextBoundary) :
    tbStepDev d = d.stepped (s * 6000000) (sec * 6000000 + tick) := by
  unfold tbStepDev
  rw [hstep]
  refine if_neg ?_
  have ht : ticksPerSecond = 6000000 := rfl
  rw [ht]
  rintro (h | h | ⟨hopen, h⟩)
  · simp [hrun] at h
  · omega
  · rcases hwin with hw | hw
    · simp [hw] at hopen
    · omega

/-- The count has become `new`, nothing of the step is left, and it has been counted. -/
structure Dev.HasStepped (new count : Nat) (e : Dev) : Prop where
  mtick : e.mtick = new
  step  : e.tb.step = none
  pend  : e.get TB_STAT_STEPPEND = 0
  tstep : e.win.tstep = true
  count : e.get TB_STAT_STEPCNT = count

theorem Dev.HasStepped.same {new count : Nat} {e f : Dev} (h : Dev.HasStepped new count e) (hs : Dev.SameCount e f) :
    Dev.HasStepped new count f where
  mtick := hs.mtick.trans h.mtick
  step := (congrArg TbSt.step hs.tb).trans h.step
  pend := (hs.stat _ (by simp)).trans h.pend
  tstep := hs.tstep.trans h.tstep
  count := (hs.stat _ (by simp)).trans h.count

theorem Dev.HasStepped.setTq {new count : Nat} {e : Dev} (h : Dev.HasStepped new count e) (q : Nat) :
    Dev.HasStepped new count (e.setTq q) where
  mtick := ((Dev.Grow.refl e).setTq q).mtick.trans h.mtick
  step := (congrArg TbSt.step (Dev.setTq_tb ..)).trans h.step
  pend := (Dev.setTq_get _ _ (by decide) (by decide) (by decide)).trans h.pend
  tstep := by
    by_cases hq : e.tq = q
    · rw [Dev.setTq_same hq]
      exact h.tstep
    · rw [(Dev.setTq_sent hq).rest]
      exact h.tstep
  count := (Dev.setTq_get _ _ (by decide) (by decide) (by decide)).trans h.count

theorem Dev.jump_hasStepped {d : Dev} (new : Nat) (hstep : d.tb.step = none) (hpend : d.get TB_STAT_STEPPEND = 0) :
    Dev.HasStepped new ((d.get TB_STAT_STEPCNT + 1) % 65536) (d.jump new) := by
  have hbefore : Dev.HasStepped new ((d.get TB_STAT_STEPCNT + 1) % 65536)
      (((d.jumped new).placePeriods new).countMod TB_STAT_STEPCNT 1) :=
    ⟨rfl, hstep, (Dev.get_put_apart _ _ _ _ (by decide) (by decide) (by decide)).trans hpend, rfl,
      Dev.get_put_same _ _ _ (by decide)⟩
  rw [Dev.jump_eq]
  exact hbefore.same (Dev.SameCount.raise ..)

theorem Dev.stepped_hasStepped (d : Dev) (edge new : Nat) :
    Dev.HasStepped new ((d.get TB_STAT_STEPCNT + 1) % 65536) (d.stepped edge new) := by
  have hpend : (d.atEdge edge).get TB_STAT_STEPPEND = 0 := Dev.get_put_same _ _ _ (by decide)
  have hcount : (d.atEdge edge).get TB_STAT_STEPCNT = d.get TB_STAT_STEPCNT :=
    Dev.get_put_apart _ _ _ _ (by decide) (by decide) (by decide)
  have hjump := Dev.jump_hasStepped (d := d.atEdge edge) new rfl hpend
  rw [hcount] at hjump
  have hsaid : Dev.HasStepped new ((d.get TB_STAT_STEPCNT + 1) % 65536) ((d.atEdge edge).stepSaid d.tb.late new) := by
    unfold Dev.stepSaid
    split
    · exact hjump.same (Dev.SameCount.raise ..)
    · exact hjump
  unfold Dev.stepped
  dsimp only
  split
  · exact hsaid.setTq _
  · exact hsaid

theorem Dev.Grow.jump (d : Dev) (new : Nat) : Dev.Grow (d.jumped new) (d.jump new) := by
  have hplaced : Dev.Grow (d.jumped new) ((d.jumped new).placePeriods new) := by
    apply (Dev.Grow.refl (d.jumped new)).upd <;> rfl
  rw [Dev.jump_eq]
  exact (hplaced.countMod ..).raise ..

theorem Dev.Grow.stepped (d : Dev) (edge new : Nat) : Dev.Grow ((d.atEdge edge).jumped new) (d.stepped edge new) := by
  have hjump := Dev.Grow.jump (d.atEdge edge) new
  have hsaid : Dev.Grow ((d.atEdge edge).jumped new) ((d.atEdge edge).stepSaid d.tb.late new) :=
    (hjump.raise 0x8009 0 []).ite hjump
  exact (hsaid.setTq _).ite hsaid

theorem State.lift_stepped {d : Dev} (q : List Instr) {f : Dev → Dev} {edge new : Nat} (hs : d.settled)
    (hf : f d = (d.stepped edge new).stepStages) :
    (⟨d, q⟩ : State).lift f = .next ⟨(d.stepped edge new).stepStages, q⟩ := by
  have hg := (Dev.Grow.stepped d edge new).stepStages
  exact State.lift_runs d q f _ hf (hg.asks.trans hs) hg.build hg.role hg.fz

theorem exec_tbStep {d : Dev} (q : List Instr) {s sec tick : Nat} (hs : d.settled) (hrun : d.tbRuns = true)
    (hstep : d.tb.step = some (s, sec, tick)) (hnow : d.mtick ≤ s * 6000000)
    (hwin : d.win.opened = false ∨ ((s * 6000000 : Nat) : Int) ≤ d.nextBoundary) :
    exec .tbStep ⟨d, q⟩ = .next ⟨(d.stepped (s * 6000000) (sec * 6000000 + tick)).stepStages, q⟩ :=
  State.lift_stepped q hs (congrArg Dev.stepStages (tbStepDev_reached hrun hstep hnow hwin))

/-- Settles O44: a message is judged by its CRC, its time and its second, and a step is decided, waits and is taken. -/
theorem timeSettingCompletes : Obligations.TimeSettingCompletes := by
  refine ⟨fun d q sec ms hs hr h => exec_timeOfDayMessage_cases q hs hr h,
    fun d q lo hi ms h hr h1 h9 => exec_tbTodWrite q lo hi h hr h1 h9, fun d q lo hi h => exec_tbSet q lo hi h,
    fun d q hs hq => exec_holdoverEnd q hs hq, fun d q s sec tick hs hrun hstep hnow hwin => ?_⟩
  have hdone := (d.stepped_hasStepped (s * 6000000) (sec * 6000000 + tick)).same (Dev.SameCount.stepStages _)
  exact ⟨_, exec_tbStep q hs hrun hstep hnow hwin, hdone.mtick, hdone.step, hdone.pend, hdone.tstep, hdone.count⟩

end Sys2Proof.Machine
end

section
/-!
SUPPORT. Time along the ring (14, R380 to R385): the timing payloads that the two ends of a link exchange.
-/

namespace Sys2Proof.Machine

/-- A TIMING frame of its type, at a port that is up and with its CRC right, is acted on. -/
theorem timingIn_heard {d : Dev} {p : Port} {k : Nat} {w : Word64} (h : d.hearsTiming p k w) (act : Dev → Nat → Dev) :
    timingIn p k w d act = act d (cfPay w % 2 ^ 30) := by
  obtain ⟨-, hl, hup, hkind, hok, htype⟩ := h
  unfold timingIn
  rw [if_neg (by simp [hl, hup, hkind]), if_neg (by simp [hok]), if_neg (not_not.2 htype)]

theorem Dev.Sent.sendPlain (d : Dev) (ports : List Port) (kind pos pay : Nat) :
    Dev.Sent d (d.sendPlain ports kind pos pay) :=
  Dev.Sent.each _ _ _ fun _ _ => Dev.Sent.portSend ..

theorem Dev.Sent.sendTiming (d : Dev) (p : Port) (pay : Nat) : Dev.Sent d (d.sendTiming p pay) := by
  unfold Dev.sendTiming
  split
  · exact Dev.Sent.emit ..
  · exact Dev.Sent.sendPlain ..

theorem Dev.sendTiming_tb (d : Dev) (p : Port) (pay : Nat) : (d.sendTiming p pay).tb = d.tb := by
  rw [(Dev.Sent.sendTiming d p pay).rest]

theorem Dev.Grow.sendTiming {d e : Dev} (p : Port) (pay : Nat) (h : Dev.Grow d e) : Dev.Grow d (e.sendTiming p pay) :=
  h.trans (Dev.Sent.sendTiming ..).kin.grow

/-! ## STAMP, REQ and the next INFO (R383, R384) -/

section
variable {d : Dev} (q : List Instr) {p : Port} {w : Word64}

/-- The upstream end's device after STAMP and the INFO of a subtype. -/
def Dev.exchangeBegun (d : Dev) (p : Port) (tx sub : Nat) : Dev :=
  let e := d.sendTiming p (tx % 2 ^ 30)
  e.sendTiming p (e.infoPay sub)

theorem Dev.exchangeBegun_tb (d : Dev) (p : Port) (tx sub : Nat) : (d.exchangeBegun p tx sub).tb = d.tb := by
  unfold Dev.exchangeBegun
  dsimp only
  rw [Dev.sendTiming_tb, Dev.sendTiming_tb]

theorem Dev.Grow.exchangeBegun (d : Dev) (p : Port) (tx sub : Nat) : Dev.Grow d (d.exchangeBegun p tx sub) :=
  ((Dev.Grow.refl d).sendTiming ..).sendTiming ..

/-- The device whose next INFO north, or south, is the one after a subtype. -/
def Dev.nextInfo (d : Dev) (p : Port) (sub : Nat) : Dev :=
  match p with
  | .north => d.withTb { d.tb with infoN := (sub + 1) % 4 }
  | .south => d.withTb { d.tb with infoS := (sub + 1) % 4 }

theorem Dev.Grow.nextInfo {d e : Dev} (p : Port) (sub : Nat) (h : Dev.Grow d e) : Dev.Grow d (e.nextInfo p sub) := by
  cases p <;> exact h.withTb _

theorem timingExchangeStartDev_north (tx : Nat) (h : d.upstream .north = true) :
    timingExchangeStartDev .north tx d = (d.exchangeBegun .north tx d.tb.infoN).nextInfo .north d.tb.infoN := by
  unfold timingExchangeStartDev
  rw [if_neg (by simp [h])]
  dsimp only
  rw [Dev.sendTiming_tb d]
  rfl

theorem timingExchangeStartDev_south (tx : Nat) (h : d.upstream .south = true) :
    timingExchangeStartDev .south tx d = (d.exchangeBegun .south tx d.tb.infoS).nextInfo .south d.tb.infoS := by
  unfold timingExchangeStartDev
  rw [if_neg (by simp [h])]
  dsimp only
  rw [Dev.sendTiming_tb d]
  rfl

theorem exec_timingExchangeStart (tx : Nat) (hs : d.settled) (h : d.upstream p = true) :
    ∃ t, exec (.timingExchangeStart p tx) ⟨d, q⟩ = .next t
      ∧ (p = .north → t.dev.tb = { d.tb with infoN := (d.tb.infoN + 1) % 4 })
      ∧ (p = .south → t.dev.tb = { d.tb with infoS := (d.tb.infoS + 1) % 4 }) := by
  cases p with
  | north =>
    refine ⟨_, State.lift_grow q hs (timingExchangeStartDev_north tx h) ((Dev.Grow.exchangeBegun ..).nextInfo ..),
      fun _ => ?_, nofun⟩
    exact congrArg (fun y : TbSt => { y with infoN := (d.tb.infoN + 1) % 4 }) (Dev.exchangeBegun_tb ..)
  | south =>
    refine ⟨_, State.lift_grow q hs (timingExchangeStartDev_south tx h) ((Dev.Grow.exchangeBegun ..).nextInfo ..), nofun,
      fun _ => ?_⟩
    exact congrArg (fun y : TbSt => { y with infoS := (d.tb.infoS + 1) % 4 }) (Dev.exchangeBegun_tb ..)

/-- A STAMP at the time port is noted and answered by REQ. -/
theorem exec_timingStamp (rx tx : Nat) (h : d.hearsTiming p 0 w) (hp : d.timePort = some p) :
    exec (.timingStamp p w rx tx) ⟨d, q⟩ = .next ⟨(d.withTb { d.tb with
      t1 := cfPay w % 2 ^ 30, t2 := rx % 2 ^ 30, t3 := tx % 2 ^ 30 }).sendTiming p (2 ^ 30 + tx % 2 ^ 30), q⟩ := by
  refine State.lift_grow q h.1 ((timingIn_heard h _).trans ?_) (((Dev.Grow.refl d).withTb _).sendTiming ..)
  exact if_neg (not_not.2 hp)

theorem exec_timingReq (rx : Nat) (h : d.hearsTiming p 1 w) (hup : d.upstream p = true) :
    exec (.timingReq p w rx) ⟨d, q⟩ = .next ⟨d.sendTiming p (2 * 2 ^ 30 + rx % 2 ^ 30), q⟩ :=
  State.lift_grow q h.1 ((timingIn_heard h _).trans (if_pos hup)) ((Dev.Grow.refl d).sendTiming ..)

/-! ## RESP (R383, R385) -/

/-- The device that shows delay and error of an exchange. -/
def Dev.measured (d : Dev) (p : Port) (x : Int × Int) : Dev :=
  (d.putS (match p with | .north => TB_DLYN | .south => TB_DLYS) x.1).putS TB_ERR x.2

theorem Dev.measured_get (d : Dev) (p : Port) (x : Int × Int) {f : Fld} (hw : f.wf = true) (ha : TB_ERR.apart f = true)
    (hn : TB_DLYN.apart f = true) (hs : TB_DLYS.apart f = true) : (d.measured p x).get f = d.get f := by
  unfold Dev.measured Dev.putS
  rw [Dev.get_put_apart _ _ _ _ (by decide) hw ha]
  cases p with
  | north => exact Dev.get_put_apart _ _ _ _ (by decide) hw hn
  | south => exact Dev.get_put_apart _ _ _ _ (by decide) hw hs

@[simp] theorem Dev.measured_tb (d : Dev) (p : Port) (x : Int × Int) : (d.measured p x).tb = d.tb := by cases p <;> rfl

theorem Dev.measured_rlock (d : Dev) (p : Port) (x : Int × Int) :
    (d.measured p x).bit TB_STAT_RLOCK = d.bit TB_STAT_RLOCK :=
  congrArg (decide <| · ≠ 0) (d.measured_get p x (by decide) (by decide) (by decide) (by decide))

theorem Dev.measured_pstate (d : Dev) (p r : Port) (x : Int × Int) : (d.measured p x).pstate r = d.pstate r := by
  cases r <;> exact d.measured_get p x (by decide) (by decide) (by decide) (by decide)

theorem Dev.Grow.measured (d : Dev) (p : Port) (x : Int × Int) : Dev.Grow d (d.measured p x) := by
  cases p <;> exact ((Dev.Grow.refl d).putS ..).putS ..

/-- The largest error of a good exchange: 1 ns at the high rate, 20 ns at the low (R385). -/
def Dev.errLimit (d : Dev) (p : Port) : Int := if d.pstate p = pHr then 256 else 5120

/-- What an exchange does that is done and whose error is shown: a good one counts and may lock, a bad one counts and may
unlock or step. -/
def Dev.exchanged (d : Dev) (lim th : Int) : Dev :=
  if |th| ≤ lim then
    let e := d.withTb { d.tb with good := d.tb.good + 1, bad := 0 }
    if 64 ≤ d.tb.good + 1 ∧ !e.bit TB_STAT_RLOCK then
      ((e.put TB_STAT_RLOCK 1).put TB_STAT_TQ e.tb.headTq).raise 0x8006 0 [e.wseqNow]
    else e
  else
    let e := d.withTb { d.tb with good := 0, bad := d.tb.bad + 1 }
    if e.bit TB_STAT_RLOCK then (if 16 ≤ d.tb.bad + 1 then e.ringUnlock else e)
    else if 1000000 * 256 < |th| then e.localStep ((e.mtick : Int) - roundDiv (th * 6) 256000)
    else e

theorem timingRespDev_eq (h : d.hearsTiming p 2 w) (hp : d.timePort = some p) (x : Int × Int)
    (hx : exchange d.tb.t1 d.tb.t2 d.tb.t3 (cfPay w % 2 ^ 30) (d.asym p) = x) :
    timingRespDev p w d = (d.measured p x).exchanged (d.errLimit p) x.2 := by
  refine (timingIn_heard h _).trans ?_
  rw [if_neg (not_not.2 hp), hx]
  obtain ⟨delay, th⟩ := x
  have hlim : (d.measured p (delay, th)).errLimit p = d.errLimit p := by
    unfold Dev.errLimit
    rw [Dev.measured_pstate]
  rw [← hlim]
  rfl

theorem Dev.exchanged_good {lim th : Int} (hok : |th| ≤ lim) (hg : d.tb.good < 63 ∨ d.bit TB_STAT_RLOCK = true) :
    d.exchanged lim th = d.withTb { d.tb with good := d.tb.good + 1, bad := 0 } := by
  unfold Dev.exchanged
  rw [if_pos hok]
  refine if_neg ?_
  rintro ⟨h64, hl⟩
  rcases hg with hg | hg
  · omega
  · simp [hg] at hl

/-- The sixty-fourth good exchange in succession locks and takes the quality of the head. -/
theorem Dev.exchanged_locks {lim th : Int} (hok : |th| ≤ lim) (hg : 63 ≤ d.tb.good) (hl : d.bit TB_STAT_RLOCK = false) :
    (d.exchanged lim th).get TB_STAT_RLOCK = 1 ∧ (d.exchanged lim th).get TB_STAT_TQ = d.tb.headTq % 4 := by
  unfold Dev.exchanged
  rw [if_pos hok, if_pos ⟨by omega, by simp [hl]⟩, Dev.raise_get _ _ _ _ _ (by decide), Dev.raise_get _ _ _ _ _ (by decide)]
  refine ⟨?_, Dev.get_put_same _ _ _ (by decide)⟩
  rw [Dev.get_put_apart _ _ _ _ (by decide) (by decide) (by decide)]
  exact Dev.get_put_same _ _ _ (by decide)

theorem Dev.ringUnlock_shows (hl : d.bit TB_STAT_RLOCK = true) :
    d.ringUnlock.get TB_STAT_RLOCK = 0 ∧ d.ringUnlock.get TB_STAT_TQ = 2 := by
  unfold Dev.ringUnlock
  dsimp only
  rw [Dev.bit_with_tb, if_pos hl, Dev.raise_get _ _ _ _ _ (by decide), Dev.raise_get _ _ _ _ _ (by decide)]
  refine ⟨?_, Dev.get_put_same _ _ _ (by decide)⟩
  rw [Dev.get_put_apart _ _ _ _ (by decide) (by decide) (by decide)]
  exact Dev.get_put_same _ _ _ (by decide)

/-- The sixteenth bad exchange in succession unlocks. -/
theorem Dev.exchanged_unlocks {lim th : Int} (hfar : lim < |th|) (hl : d.bit TB_STAT_RLOCK = true)
    (hb : 15 ≤ d.tb.bad) : (d.exchanged lim th).get TB_STAT_RLOCK = 0 ∧ (d.exchanged lim th).get TB_STAT_TQ = 2 := by
  unfold Dev.exchanged
  rw [if_neg hfar.not_ge]
  dsimp only
  rw [Dev.withTb_bit, if_pos hl, if_pos (by omega)]
  exact Dev.ringUnlock_shows hl

theorem Dev.exchanged_bad {lim th : Int} (hfar : lim < |th|) (hl : d.bit TB_STAT_RLOCK = true) (hb : d.tb.bad < 15) :
    d.exchanged lim th = d.withTb { d.tb with good := 0, bad := d.tb.bad + 1 } := by
  unfold Dev.exchanged
  rw [if_neg hfar.not_ge]
  dsimp only
  rw [Dev.withTb_bit, if_pos hl, if_neg (by omega)]

/-- Where no step of the member's own is due, what an exchange does lets the device grow. -/
theorem Dev.Grow.exchanged {e : Dev} {lim th : Int} (hnear : |th| ≤ lim ∨ d.bit TB_STAT_RLOCK = true) (h : Dev.Grow e d) :
    Dev.Grow e (d.exchanged lim th) := by
  unfold Dev.exchanged
  dsimp only
  rw [Dev.withTb_bit, Dev.withTb_bit]
  by_cases hok : |th| ≤ lim
  · rw [if_pos hok]
    exact ((((h.withTb _).put ..).put ..).raise ..).ite (h.withTb _)
  · rw [if_neg hok, if_pos (hnear.resolve_left hok)]
    exact (h.withTb _).ringUnlock.ite (h.withTb _)

theorem exec_timingResp_cases (h : d.hearsTiming p 2 w) (hp : d.timePort = some p) (x : Int × Int)
    (hx : exchange d.tb.t1 d.tb.t2 d.tb.t3 (cfPay w % 2 ^ 30) (d.asym p) = x) :
    (|x.2| ≤ d.errLimit p → d.tb.good < 63 ∨ d.bit TB_STAT_RLOCK = true → exec (.timingResp p w) ⟨d, q⟩
      = .next ⟨((d.measured p x).withTb { d.tb with good := d.tb.good + 1, bad := 0 }).stepStages, q⟩)
    ∧ (|x.2| ≤ d.errLimit p → 63 ≤ d.tb.good → d.bit TB_STAT_RLOCK = false → ∃ t, exec (.timingResp p w) ⟨d, q⟩ = .next t
      ∧ t.dev.get TB_STAT_RLOCK = 1 ∧ t.dev.get TB_STAT_TQ = d.tb.headTq % 4)
    ∧ (d.errLimit p < |x.2| → d.bit TB_STAT_RLOCK = true → 15 ≤ d.tb.bad → ∃ t, exec (.timingResp p w) ⟨d, q⟩ = .next t
      ∧ t.dev.get TB_STAT_RLOCK = 0 ∧ t.dev.get TB_STAT_TQ = 2)
    ∧ (d.errLimit p < |x.2| → d.bit TB_STAT_RLOCK = true → d.tb.bad < 15 → exec (.timingResp p w) ⟨d, q⟩
      = .next ⟨((d.measured p x).withTb { d.tb with good := 0, bad := d.tb.bad + 1 }).stepStages, q⟩) := by
  have hdev := timingRespDev_eq h hp x hx
  have hgrow := Dev.Grow.measured d p x
  have htb := Dev.measured_tb d p x
  have hlk := Dev.measured_rlock d p x
  generalize hm : d.measured p x = m at hdev hgrow htb hlk
  rw [← htb, ← hlk]
  have hstep (hnear : |x.2| ≤ d.errLimit p ∨ m.bit TB_STAT_RLOCK = true) :
      exec (.timingResp p w) ⟨d, q⟩ = .next ⟨(m.exchanged (d.errLimit p) x.2).stepStages, q⟩ :=
    State.lift_grow q h.1 (congrArg Dev.stepStages hdev) (hgrow.exchanged hnear).stepStages
  have hsame := Dev.SameCount.stepStages (m.exchanged (d.errLimit p) x.2)
  refine ⟨fun hok hg => ?_, fun hok hg hl => ?_, fun hfar hl hb => ?_, fun hfar hl hb => ?_⟩
  · rw [hstep (.inl hok), Dev.exchanged_good hok hg]
  · obtain ⟨hlock, htq⟩ := Dev.exchanged_locks hok hg hl
    exact ⟨_, hstep (.inl hok), (hsame.stat _ (by simp)).trans hlock, (hsame.stat _ (by simp)).trans htq⟩
  · obtain ⟨hlock, htq⟩ := Dev.exchanged_unlocks hfar hl hb
    exact ⟨_, hstep (.inr hl), (hsame.stat _ (by simp)).trans hlock, (hsame.stat _ (by simp)).trans htq⟩
  · rw [hstep (.inr hl), Dev.exchanged_bad hfar hl hb]

/-! ## INFO (R373, R380) -/

/-- What an INFO payload does: its subtype with its value. -/
def Dev.informed (d : Dev) (edge sub v : Nat) : Dev :=
  let pend := d.bit TB_STAT_STEPPEND
  match sub with
  | 0 =>
    let d := { d with tb := { d.tb with annL := some v } }
    if pend then d.announced edge else d.takeSeconds
  | 1 =>
    let d := { d with tb := { d.tb with annH := some v } }
    if pend then d.announced edge else d.takeSeconds
  | 2 =>
    let q := v / 2 ^ 26
    let d := { d with tb := { d.tb with headTq := q } }
    let d := if d.bit TB_STAT_RLOCK then d.put TB_STAT_TQ q else d
    let d := d.put TB_STAT_HOPS (v / 2 ^ 20 % 64 + 1)
    if v / 2 ^ 19 % 2 = 1 then
      if pend then d
      else ({ d with tb := { d.tb with annL := none, annH := none, annT := none } }).put TB_STAT_STEPPEND 1
    else if d.tb.step.isSome then d
    else d.put TB_STAT_STEPPEND 0
  | _ =>
    if pend then ({ d with tb := { d.tb with annT := some (v % 2 ^ 23) } }).announced edge else d

/-- An INFO payload of a subtype is acted on at the time port. -/
theorem timingInfoDev_heard {edge k v : Nat} (h : d.hearsTiming p 3 w) (hp : d.timePort = some p)
    (hk : cfPay w % 2 ^ 30 / 2 ^ 28 = k) (hv : cfPay w % 2 ^ 28 = v) :
    timingInfoDev p w edge d = d.informed edge k v := by
  have hv' : cfPay w % 2 ^ 30 % 2 ^ 28 = v := (Nat.mod_mod_of_dvd _ (by decide)).trans hv
  refine (timingIn_heard h _).trans ?_
  rw [if_neg (not_not.2 hp), hk, hv']
  rfl

/-- The low part of the seconds, with no step pending and no high part yet. -/
theorem Dev.informed_low (edge v : Nat) (hpend : d.bit TB_STAT_STEPPEND = false) (hh : d.tb.annH = none) :
    d.informed edge 0 v = d.withTb { d.tb with annL := some v } := by
  unfold Dev.informed
  dsimp only
  rw [hpend, if_neg (by decide)]
  unfold Dev.takeSeconds
  dsimp only
  rw [hh]
  rfl

theorem Dev.withTb_put (x : TbSt) (f : Fld) (n : Nat) : (d.withTb x).put f n = (d.put f n).withTb x := rfl

/-- The device that has taken the quality of the head and its hops. -/
def Dev.quality (d : Dev) (v : Nat) : Dev :=
  let e := d.withTb { d.tb with headTq := v / 2 ^ 26 }
  (if e.bit TB_STAT_RLOCK then e.put TB_STAT_TQ (v / 2 ^ 26) else e).put TB_STAT_HOPS (v / 2 ^ 20 % 64 + 1)

/-- The quality of the head and the hops to it, at a locked member with no step announced. -/
theorem Dev.informed_quality (edge : Nat) {v : Nat} (hl : d.bit TB_STAT_RLOCK = true) (hno : v / 2 ^ 19 % 2 = 0)
    (hstep : d.tb.step = none) :
    d.informed edge 2 v = (((d.put TB_STAT_TQ (v / 2 ^ 26)).put TB_STAT_HOPS (v / 2 ^ 20 % 64 + 1)).put
      TB_STAT_STEPPEND 0).withTb { d.tb with headTq := v / 2 ^ 26 } := by
  have hshown : d.informed edge 2 v = (if v / 2 ^ 19 % 2 = 1 then
      if d.bit TB_STAT_STEPPEND then d.quality v
      else ((d.quality v).withTb { (d.quality v).tb with annL := none, annH := none, annT := none }).put TB_STAT_STEPPEND 1
    else if (d.quality v).tb.step.isSome then d.quality v
    else (d.quality v).put TB_STAT_STEPPEND 0) := rfl
  have hq : d.quality v = ((d.put TB_STAT_TQ (v / 2 ^ 26)).put TB_STAT_HOPS (v / 2 ^ 20 % 64 + 1)).withTb
      { d.tb with headTq := v / 2 ^ 26 } := by
    unfold Dev.quality
    dsimp only
    rw [Dev.withTb_bit, if_pos hl, Dev.withTb_put, Dev.withTb_put]
  rw [hshown, hno, if_neg (by decide), hq, if_neg, Dev.withTb_put]
  rw [Dev.withTb_tb, hstep]
  decide

/-- With all its parts here, a step that is not past is pending at its edge. -/
theorem Dev.announced_ahead {edge l h t : Nat} (hl : d.tb.annL = some l) (hh : d.tb.annH = some h)
    (ht : d.tb.annT = some t) (hnow : d.mtick ≤ edge * ticksPerSecond) :
    d.announced edge
      = (d.withTb { d.tb with step := some (edge, l + 2 ^ 28 * h, t), late := false }).put TB_STAT_STEPPEND 1 := by
  unfold Dev.announced
  rw [hl, hh, ht]
  dsimp only
  rw [decide_eq_false hnow.not_gt, if_neg (by decide), Nat.sub_self]
  rfl

/-- The last part of an announcement of a step that is not past. -/
theorem Dev.informed_step {edge : Nat} (v : Nat) {l h : Nat} (hpend : d.bit TB_STAT_STEPPEND = true)
    (hl : d.tb.annL = some l) (hh : d.tb.annH = some h) (hnow : d.mtick ≤ edge * ticksPerSecond) :
    d.informed edge 3 v = (d.put TB_STAT_STEPPEND 1).withTb { d.tb with
      annT := some (v % 2 ^ 23), step := some (edge, l + 2 ^ 28 * h, v % 2 ^ 23), late := false } := by
  have hlast : d.informed edge 3 v = (d.withTb { d.tb with annT := some (v % 2 ^ 23) }).announced edge := if_pos hpend
  rw [hlast]
  exact Dev.announced_ahead (d := d.withTb { d.tb with annT := some (v % 2 ^ 23) }) hl hh rfl hnow

theorem exec_timingInfo {edge k v : Nat} {e : Dev} (h : d.hearsTiming p 3 w) (hp : d.timePort = some p)
    (hk : cfPay w % 2 ^ 30 / 2 ^ 28 = k) (hv : cfPay w % 2 ^ 28 = v) (he : d.informed edge k v = e) (hg : Dev.Grow d e) :
    exec (.timingInfo p w edge) ⟨d, q⟩ = .next ⟨e.stepStages, q⟩ :=
  State.lift_grow q h.1 (congrArg Dev.stepStages ((timingInfoDev_heard h hp hk hv).trans he)) hg.stepStages

end

/-- Settles O45: a payload that is heard is acted on by its type, and the stages follow the count. -/
theorem timingFramesComplete : Obligations.TimingFramesComplete := by
  refine ⟨fun d q p tx hs h => exec_timingExchangeStart q tx hs h, fun d q p w rx tx h hp => exec_timingStamp q rx tx h hp,
    fun d q p w rx h hup => exec_timingReq q rx h hup, ?_, ?_⟩
  · intro d q p w h hp _ x
    exact exec_timingResp_cases q h hp x rfl
  intro d q p w edge h hp v
  have hv : cfPay w % 2 ^ 28 = v := rfl
  clear_value v
  refine ⟨fun hk hpend hh => exec_timingInfo q h hp hk hv (Dev.informed_low edge v hpend hh) ((Dev.Grow.refl d).withTb _),
    fun hk hl hno hstep => exec_timingInfo q h hp hk hv (Dev.informed_quality edge hl hno hstep)
      (((((Dev.Grow.refl d).put ..).put ..).put ..).withTb _), fun l m hk hpend hl hh hnow => ?_⟩
  rw [← show ticksPerSecond = 6000000 from rfl] at hnow
  exact exec_timingInfo q h hp hk hv (Dev.informed_step v hpend hl hh hnow) (((Dev.Grow.refl d).put ..).withTb _)

end Sys2Proof.Machine
end

section
/-!
SUPPORT. The CRC unit and the recorder's slots (18, 19): what a context takes from its data register, and which slots a
mask protects or empties.
-/

namespace Sys2Proof.Machine

/-! ## The commands of the CRC unit -/

/-- A lifted command whose condition on its operand holds is its action. -/
theorem State.lift_when {P : Prop} [Decidable P] (h : P) (s : State) (f : Dev → Dev) :
    s.lift (fun d => if P then f d else d) = s.lift f :=
  congrArg s.lift (funext fun _ => if_pos h)

theorem Dev.Grow.crcFeed {d e : Dev} (c : Nat) (bs : List Byte) (h : Dev.Grow d e) : Dev.Grow d (e.crcFeed c bs) :=
  (Dev.Grow.setWord _ _ h).countMod ..

theorem Dev.Grow.crcInit {d e : Dev} (c : Nat) (h : Dev.Grow d e) : Dev.Grow d (crcInitDev c e) :=
  (h.put ..).put ..

/-- Bytes of a data register that a context takes (R471). -/
def crcBytes (dw : Nat) : Nat := if dw = 0 then 1 else if dw = 1 then 2 else 4

theorem crcDataDev_soft {d : Dev} {c : Nat} (v : Word) (hen : d.bit (CRC_CTX_EN c) = true)
    (htap : d.get (CRC_CTX_TAP c) = 0 ∨ d.get (CRC_CTX_TAP c) = 3) :
    crcDataDev c v d = d.crcFeed c (leBytes (crcBytes (d.get (CRC_CTX_DW c))) v.toNat) := by
  have hn : (match d.get (CRC_CTX_DW c) with | 0 => 1 | 1 => 2 | _ => 4) = crcBytes (d.get (CRC_CTX_DW c)) := by
    unfold crcBytes
    split <;> simp_all
  refine (if_pos ⟨hen, htap⟩).trans ?_
  exact congrArg (fun n => d.crcFeed c (leBytes n v.toNat)) hn

theorem Dev.bit_of_get {d : Dev} {f : Fld} (h : d.get f = 1) : d.bit f = true := by
  unfold Dev.bit
  rw [h]
  rfl

theorem leBytes_length (n v : Nat) : (leBytes n v).length = n := by
  induction n generalizing v with
  | zero => rfl
  | succ n ih => exact congrArg (· + 1) (ih _)

section
variable {d : Dev} (q : List Instr) {c : Nat} (v : Word)

theorem exec_crcData (hc : c < 4) (h : d.accepts (CRC_DATA c)) :
    (d.get (CRC_CTX_EN c) = 1 ∧ (d.get (CRC_CTX_TAP c) = 0 ∨ d.get (CRC_CTX_TAP c) = 3) →
      ∀ n, (d.get (CRC_CTX_DW c) = 0 ∧ n = 1) ∨ (d.get (CRC_CTX_DW c) = 1 ∧ n = 2) ∨ (2 ≤ d.get (CRC_CTX_DW c) ∧ n = 4) →
      exec (.crcData c v) ⟨d, q⟩ = .next ⟨((d.setWord (CRC_VAL c).addr ((leBytes n v.toNat).foldl
        (crcByte (d.get (CRC_CTX_POLY c))) (d.word (CRC_VAL c).addr))).countMod (CRC_CNT c) n).commandDone, q⟩)
    ∧ (d.get (CRC_CTX_EN c) = 0 ∨ (d.get (CRC_CTX_TAP c) ≠ 0 ∧ d.get (CRC_CTX_TAP c) ≠ 3) →
      exec (.crcData c v) ⟨d, q⟩ = .next ⟨(d.put CRC_STAT_DERR (setNat (d.get CRC_STAT_DERR) c c 1)).commandDone, q⟩) := by
  refine ⟨fun ⟨hen, htap⟩ n hn => ?_, fun hoff => ?_⟩
  · have hbytes : crcBytes (d.get (CRC_CTX_DW c)) = n := by
      unfold crcBytes
      split_ifs <;> omega
    have hfeed : crcDataDev c v d = d.crcFeed c (leBytes n v.toNat) := by
      rw [crcDataDev_soft v (Dev.bit_of_get hen) htap, hbytes]
    have hrun := State.lift_takes_grow q h hfeed ((Dev.Grow.refl d).crcFeed ..)
    rw [Dev.crcFeed, leBytes_length] at hrun
    exact (State.lift_when hc ..).trans hrun
  · have hno : ¬ (d.bit (CRC_CTX_EN c) = true ∧ (d.get (CRC_CTX_TAP c) = 0 ∨ d.get (CRC_CTX_TAP c) = 3)) := by
      rintro ⟨hen, htap⟩
      rcases hoff with h0 | ⟨h0, h3⟩
      · simp [Dev.bit, h0] at hen
      · exact htap.elim h0 h3
    exact (State.lift_when hc ..).trans (State.lift_takes_grow q h (if_neg hno) ((Dev.Grow.refl d).put ..))

theorem exec_crcInit (hc : c < 4) (h : d.accepts (CRC_CTX_INIT c)) :
    exec (.crcInit c) ⟨d, q⟩
      = .next ⟨((d.put (CRC_VAL c) (crcInitial (d.get (CRC_CTX_POLY c)))).put (CRC_CNT c) 0).commandDone, q⟩ :=
  (State.lift_when hc ..).trans (State.lift_takes_grow q h rfl ((Dev.Grow.refl d).crcInit c))

/-- A context that is written holds the POLY of the word. -/
theorem Dev.get_poly_written (d : Dev) (c : Nat) (v : Word) :
    (d.setWord (CRC_CTX_POLY c).addr (v &&& 0x13F#32)).get (CRC_CTX_POLY c) = bitsOf v 1 0 := by
  unfold Dev.get
  rw [Dev.word_setWord, if_pos rfl]
  have h : (v &&& 0x13F#32).toNat % 2 ^ 2 = v.toNat % 2 ^ 2 := by
    rw [BitVec.toNat_and, Nat.and_mod_two_pow]
    exact (Nat.and_two_pow_sub_one_eq_mod _ 2).trans (Nat.mod_mod _ _)
  simpa [bitsOf, bitsNat, CRC_CTX_POLY] using h

theorem exec_crcCtxWrite_same (hc : c < 4) (h : d.accepts (CRC_CTX_POLY c)) (hinit : bitsOf v 9 9 = 0)
    (hsame : bitsOf v 1 0 = d.get (CRC_CTX_POLY c)) :
    exec (.crcCtxWrite c v) ⟨d, q⟩ = .next ⟨(d.setWord (CRC_CTX_POLY c).addr (v &&& 0x13F#32)).commandDone, q⟩ :=
  (State.lift_when hc ..).trans (State.lift_takes_grow q h (if_neg (by simp [hinit, hsame]))
    (Dev.Grow.setWord _ _ (Dev.Grow.refl d)))

theorem exec_crcCtxWrite_other (hc : c < 4) (h : d.accepts (CRC_CTX_POLY c))
    (hother : bitsOf v 1 0 ≠ d.get (CRC_CTX_POLY c)) :
    exec (.crcCtxWrite c v) ⟨d, q⟩ = .next ⟨(((d.setWord (CRC_CTX_POLY c).addr (v &&& 0x13F#32)).put (CRC_VAL c)
      (crcInitial (bitsOf v 1 0))).put (CRC_CNT c) 0).commandDone, q⟩ := by
  have hact : crcCtxWriteDev c v d = crcInitDev c (d.setWord (CRC_CTX_POLY c).addr (v &&& 0x13F#32)) :=
    if_pos (.inr hother)
  have hrun := State.lift_takes_grow q h hact (Dev.Grow.crcInit c (Dev.Grow.setWord _ _ (Dev.Grow.refl d)))
  rw [crcInitDev, Dev.get_poly_written] at hrun
  exact (State.lift_when hc ..).trans hrun

theorem exec_crcValWrite (hc : c < 4) (h : d.accepts (CRC_VAL c)) :
    exec (.crcValWrite c v) ⟨d, q⟩
      = .next ⟨(d.put (CRC_VAL c) (v.toNat % 2 ^ crcWidth (d.get (CRC_CTX_POLY c)))).commandDone, q⟩ :=
  (State.lift_when hc ..).trans (State.lift_takes_grow q h rfl ((Dev.Grow.refl d).put ..))

end

/-! ## Slots of the recorder (R485) -/

theorem Dev.setSlot_burl (d : Dev) (i : Nat) (f : Slot → Slot) :
    (d.setSlot i f).burl = { d.burl with slots := d.burl.slots.set i (f (d.burlSlot i)) } := by
  simp [Dev.setSlot, Dev.showSlots]

theorem Dev.setSlot_length (d : Dev) (i : Nat) (f : Slot → Slot) :
    (d.setSlot i f).burl.slots.length = d.burl.slots.length := by
  simp [Dev.setSlot_burl]

theorem Dev.setSlot_burlSlot (d : Dev) (i : Nat) (f : Slot → Slot) {k : Nat} (hk : k < d.burl.slots.length) :
    (d.setSlot i f).burlSlot k = if k = i then f (d.burlSlot k) else d.burlSlot k := by
  unfold Dev.burlSlot
  rw [Dev.setSlot_burl]
  dsimp only
  rw [List.getElem?_set]
  by_cases h : k = i
  · subst h
    simp [hk, Dev.burlSlot]
  · simp [h, Ne.symm h]

/-- A change of every slot of a list that doing it again does not change further. -/
theorem Dev.each_setSlot_burlSlot (xs : List Nat) {f : Slot → Slot} (hf : ∀ o, f (f o) = f o) {k : Nat} (d : Dev)
    (hk : k < d.burl.slots.length) :
    (d.each xs (fun d i => d.setSlot i f)).burlSlot k = if k ∈ xs then f (d.burlSlot k) else d.burlSlot k := by
  induction xs generalizing d with
  | nil => simp [Dev.each]
  | cons i xs ih =>
    have hstep := ih (d.setSlot i f) (by rwa [Dev.setSlot_length])
    have hcons : d.each (i :: xs) (fun d i => d.setSlot i f) = (d.setSlot i f).each xs (fun d i => d.setSlot i f) := rfl
    rw [hcons, hstep, Dev.setSlot_burlSlot d i f hk]
    by_cases hi : k = i
    · subst hi
      by_cases hx : k ∈ xs <;> simp [hx, hf]
    · simp [hi]

theorem Dev.Grow.eachSlot {d : Dev} (xs : List Nat) (f : Slot → Slot) :
    Dev.Grow d (d.each xs (fun d i => d.setSlot i f)) :=
  Dev.Grow.each xs _ (Dev.Grow.refl d) fun _ _ h => h.setSlot ..

theorem Dev.commandDone_burlSlot (d : Dev) (k : Nat) : d.commandDone.burlSlot k = d.burlSlot k := by
  unfold Dev.burlSlot
  rw [(Dev.Moved.commandDone d).burl]

/-- A slot of the mask, among the twelve. -/
theorem mem_maskSlots (p : Nat → Bool) {k : Nat} (hk : k < 12) : k ∈ (List.range 12).filter p ↔ p k = true := by
  simp [hk]

/-- A command that changes the slots of a mask, each by what doing it again does not change further. -/
theorem exec_slots {d : Dev} (q : List Instr) {fld : Fld} {act : Dev → Dev} (p : Nat → Bool) {f : Slot → Slot}
    (hf : ∀ o, f (f o) = f o) (hlen : d.burl.slots.length = 12) (h : d.accepts fld)
    (hact : act d = d.each ((List.range 12).filter p) (fun d i => d.setSlot i f)) :
    ∃ t, (⟨d, q⟩ : State).lift (Dev.actWrite fld act) = .next t
      ∧ ∀ k : Nat, k < 12 → t.dev.burlSlot k = if p k then f (d.burlSlot k) else d.burlSlot k := by
  refine ⟨_, State.lift_takes_grow q h hact (Dev.Grow.eachSlot ..), fun k hk => ?_⟩
  rw [Dev.commandDone_burlSlot, Dev.each_setSlot_burlSlot _ hf d (by omega)]
  simp only [mem_maskSlots p hk]

theorem exec_recorder {d : Dev} (q : List Instr) (mask : BitVec 12) (hb : d.hasBurl = true)
    (hlen : d.burl.slots.length = 12) :
    (d.accepts RCD_PROT_PROT → ∃ t, exec (.rcdProt mask) ⟨d, q⟩ = .next t
      ∧ ∀ k : Nat, k < 12 → t.dev.burlSlot k = { d.burlSlot k with prot := (d.burlSlot k).prot || mask.getLsbD k })
    ∧ (d.accepts RCD_PROT_UNPROT → ∃ t, exec (.rcdUnprot mask) ⟨d, q⟩ = .next t
      ∧ ∀ k : Nat, k < 12 → t.dev.burlSlot k = { d.burlSlot k with prot := (d.burlSlot k).prot && !mask.getLsbD k })
    ∧ (d.accepts RCD_ERASE_SLOT → ∃ t, exec (.rcdEraseSlot mask) ⟨d, q⟩ = .next t
      ∧ ∀ k : Nat, k < 12 → ((d.burlSlot k).prot = true ∨ mask.getLsbD k = false → t.dev.burlSlot k = d.burlSlot k)
        ∧ ((d.burlSlot k).prot = false → mask.getLsbD k = true → (t.dev.burlSlot k).state = 0))
    ∧ (d.accepts RCD_ERASE_HIST → exec .rcdEraseHist ⟨d, q⟩
      = .next ⟨({ d with burl := { d.burl with hist := [] } } : Dev).commandDone, q⟩) := by
  have hprot : rcdProtDev mask d = d.each ((List.range 12).filter (fun i => mask.getLsbD i))
      (fun d i => d.setSlot i (fun o => { o with prot := true })) := if_pos hb
  have hunprot : rcdUnprotDev mask d = d.each ((List.range 12).filter (fun i => mask.getLsbD i))
      (fun d i => d.setSlot i (fun o => { o with prot := false })) := if_pos hb
  have herase : rcdEraseSlotDev mask d
      = d.each ((List.range 12).filter (fun i => mask.getLsbD i && !(d.burlSlot i).prot))
        (fun d i => d.setSlot i (fun o => { o with state := 0 })) := if_pos hb
  refine ⟨fun h => ?_, fun h => ?_, fun h => ?_, fun h => ?_⟩
  · obtain ⟨t, ht, hk⟩ := exec_slots q _ (f := fun o => { o with prot := true }) (fun _ => rfl) hlen h hprot
    refine ⟨t, ht, fun k hk12 => (hk k hk12).trans ?_⟩
    cases mask.getLsbD k <;> simp
  · obtain ⟨t, ht, hk⟩ := exec_slots q _ (f := fun o => { o with prot := false }) (fun _ => rfl) hlen h hunprot
    refine ⟨t, ht, fun k hk12 => (hk k hk12).trans ?_⟩
    cases mask.getLsbD k <;> simp
  · obtain ⟨t, ht, hk⟩ := exec_slots q _ (f := fun o => { o with state := 0 }) (fun _ => rfl) hlen h herase
    refine ⟨t, ht, fun k hk12 => ⟨fun hkeep => (hk k hk12).trans (if_neg ?_), fun hp hm => ?_⟩⟩
    · rcases hkeep with hp | hm
      · simp [hp]
      · simp [hm]
    · rw [hk k hk12, if_pos (by simp [hp, hm])]
  · refine State.lift_takes_grow q h (if_pos hb) ?_
    apply (Dev.Grow.refl d).upd <;> rfl

/-- Settles O50: a context takes the bytes that DW names, and a mask's slots change one by one. -/
theorem crcAndRecorderCommandsComplete : Obligations.CrcAndRecorderCommandsComplete :=
  ⟨fun _ q _ v hc h => exec_crcData q v hc h, fun _ q _ hc h => exec_crcInit q hc h,
    fun _ q _ v hc h hinit hsame => exec_crcCtxWrite_same q v hc h hinit hsame,
    fun _ q _ v hc h hother => exec_crcCtxWrite_other q v hc h hother,
    fun _ q _ v hc h => exec_crcValWrite q v hc h, fun _ q mask hb hlen => exec_recorder q mask hb hlen⟩

/-! ## The worked examples -/

theorem Dev.crcFeed_val (d : Dev) (c : Nat) (bs : List Byte) :
    (d.crcFeed c bs).word (CRC_VAL c).addr = bs.foldl (crcByte (d.get (CRC_CTX_POLY c))) (d.word (CRC_VAL c).addr) := by
  unfold Dev.crcFeed Dev.countMod
  dsimp only
  rw [Dev.word_put_other _ _ _ _ (by simp [CRC_VAL, CRC_CNT]), Dev.word_setWord, if_pos rfl]

theorem Dev.crcFeed_cnt (d : Dev) (c : Nat) (bs : List Byte) :
    (d.crcFeed c bs).get (CRC_CNT c) = (d.get (CRC_CNT c) + bs.length) % 2 ^ 32 := by
  have hval : (d.setWord (CRC_VAL c).addr
      (bs.foldl (crcByte (d.get (CRC_CTX_POLY c))) (d.word (CRC_VAL c).addr))).get (CRC_CNT c) = d.get (CRC_CNT c) := by
    unfold Dev.get
    rw [Dev.word_setWord, if_neg (by simp [CRC_VAL, CRC_CNT])]
  unfold Dev.crcFeed Dev.countMod
  dsimp only
  rw [Dev.get_put_same _ _ _ rfl, hval]
  rfl

/-- What a context takes leaves its settings. -/
theorem Dev.crcFeed_ctx (d : Dev) (c : Nat) (bs : List Byte) {f : Fld} (hf : f.addr = 0x18000 + 32 * c) :
    (d.crcFeed c bs).get f = d.get f := by
  unfold Dev.crcFeed Dev.countMod Dev.get
  dsimp only
  rw [Dev.word_put_other _ _ _ _ (by simp [hf, CRC_CNT]), Dev.word_setWord, if_neg (by simp [hf, CRC_VAL])]

/-- A context set up for CRC-32 from its data register, with its value and its count. -/
structure Dev.Crc32 (c dw : Nat) (value : Word) (count : Nat) (d : Dev) : Prop where
  poly  : d.get (CRC_CTX_POLY c) = 2
  tap   : d.get (CRC_CTX_TAP c) = 0
  dw    : d.get (CRC_CTX_DW c) = dw
  en    : d.bit (CRC_CTX_EN c) = true
  value : d.word (CRC_VAL c).addr = value
  count : d.get (CRC_CNT c) = count

theorem Dev.Crc32.data {d : Dev} {c dw count : Nat} {value : Word} (h : Dev.Crc32 c dw value count d) (v : Word) :
    Dev.Crc32 c dw ((leBytes (crcBytes dw) v.toNat).foldl (crcByte 2) value) ((count + crcBytes dw) % 2 ^ 32)
      (crcDataDev c v d) := by
  rw [crcDataDev_soft v h.en (.inl h.tap), h.dw]
  refine ⟨(Dev.crcFeed_ctx _ _ _ rfl).trans h.poly, (Dev.crcFeed_ctx _ _ _ rfl).trans h.tap,
    (Dev.crcFeed_ctx _ _ _ rfl).trans h.dw, ?_, ?_, ?_⟩
  · exact (congrArg (decide <| · ≠ 0) (Dev.crcFeed_ctx _ _ _ rfl)).trans h.en
  · rw [Dev.crcFeed_val, h.poly, h.value]
  · rw [Dev.crcFeed_cnt, h.count, leBytes_length]

/-- The same context, with another number of bytes to take. -/
theorem Dev.Crc32.putDw {d : Dev} {c dw count : Nat} {value : Word} (h : Dev.Crc32 c dw value count d) (n : Nat) :
    Dev.Crc32 c (n % 4) value count (d.put (CRC_CTX_DW c) n) := by
  have hctx {f : Fld} (hw : f.wf = true) (ha : (CRC_CTX_DW c).apart f = true) :
      (d.put (CRC_CTX_DW c) n).get f = d.get f := Dev.get_put_apart _ _ _ _ rfl hw ha
  refine ⟨(hctx rfl (by simp [Fld.apart, CRC_CTX_DW, CRC_CTX_POLY])).trans h.poly,
    (hctx rfl (by simp [Fld.apart, CRC_CTX_DW, CRC_CTX_TAP])).trans h.tap, Dev.get_put_same _ _ _ rfl, ?_, ?_,
    (hctx rfl (by simp [Fld.apart, CRC_CTX_DW, CRC_CNT])).trans h.count⟩
  · exact (congrArg (decide <| · ≠ 0) (hctx rfl (by simp [Fld.apart, CRC_CTX_DW, CRC_CTX_EN]))).trans h.en
  · exact (Dev.word_put_other _ _ _ _ (by simp [CRC_VAL, CRC_CTX_DW])).trans h.value

theorem Dev.Crc32.res {d : Dev} {c dw count : Nat} {value : Word} (h : Dev.Crc32 c dw value count d) :
    d.crcRes c = ~~~value := by
  unfold Dev.crcRes
  rw [h.poly, h.value]
  rfl

/-- The digits 1 to 4, 5 to 8 and 9 of Example 18-1 (R469, R474). -/
theorem crc32_digits :
    (leBytes 1 0x39).foldl (crcByte 2) ((leBytes 4 0x38373635).foldl (crcByte 2)
      ((leBytes 4 0x34333231).foldl (crcByte 2) 0xFFFFFFFF#32)) = 0x340BC6D9#32 := by
  decide +kernel

theorem Dev.Crc32.digits {d : Dev} {c : Nat} (h : Dev.Crc32 c 2 0xFFFFFFFF#32 0 d) :
    (crcDataDev c 0x34333231#32 d).get (CRC_CNT c) = 4 ∧ ∀ f : Dev,
      Dev.Crc32 c 2 ((crcDataDev c 0x34333231#32 d).word (CRC_VAL c).addr) 0 f →
      Dev.Crc32 c 0 0x340BC6D9#32 5 (crcDataDev c 0x39#32 ((crcDataDev c 0x38373635#32 f).put (CRC_CTX_DW c) 0)) := by
  have hfirst := h.data 0x34333231#32
  refine ⟨hfirst.count, fun f hf => ?_⟩
  rw [hfirst.value] at hf
  have hlast := ((hf.data 0x38373635#32).putDw 0).data 0x39#32
  rw [← crc32_digits]
  exact hlast

/-- Settles O60: the first two are arithmetic, and the parts of the third meet in the value restored between them. -/
theorem workedExamples : Obligations.WorkedExamples := by
  refine ⟨by decide, by decide, ?_⟩
  intro d c _ hpoly htap hdw hen hcnt hval e
  obtain ⟨hfour, hrest⟩ := Dev.Crc32.digits (⟨hpoly, htap, hdw, hen, hval, hcnt⟩ : Dev.Crc32 c 2 _ 0 d)
  refine ⟨hfour, fun f fpoly ftap fdw fen fcnt fval => ?_⟩
  have hend := hrest f ⟨fpoly, ftap, fdw, fen, fval, fcnt⟩
  refine ⟨hend.res, ?_, hend.count⟩
  exact congrArg (bitsOf · 31 0) hend.value

end Sys2Proof.Machine
end

section
/-!
SUPPORT. Compact frames (13, R327 to R357): a frame at its end or on its way, credits, and the control frames that a
member takes.
-/

namespace Sys2Proof.Machine

/-! ## What is kept of a frame -/

theorem Dev.Sent.consumed (d : Dev) (p : Port) (w : Word64) : Dev.Sent d (d.consumed p w) := Dev.Sent.freeUnits ..

theorem Dev.Grow.consumed {d e : Dev} (p : Port) (w : Word64) (h : Dev.Grow d e) : Dev.Grow d (e.consumed p w) :=
  h.freeUnits ..

theorem Dev.Sent.aliveIn {d e : Dev} (h : Dev.Sent d e) : e.spn.aliveIn = d.spn.aliveIn := by rw [h.spn]

theorem Dev.Sent.aliveMissed {d e : Dev} (h : Dev.Sent d e) (pos kind alive : Nat) :
    e.aliveMissed pos kind alive = d.aliveMissed pos kind alive := by
  unfold Dev.aliveMissed
  rw [h.aliveIn]

theorem Dev.Sent.role {d e : Dev} (h : Dev.Sent d e) : e.role = d.role := by rw [h.rest]



theorem Dev.Grow.noteAlive {d e : Dev} (pos kind alive missed : Nat) (h : Dev.Grow d e) :
    Dev.Grow d (e.noteAlive pos kind alive missed) := by
  refine Dev.Grow.countSat _ _ (h.trans ?_)
  apply (Dev.Grow.refl e).upd <;> rfl

theorem Dev.Grow.accepted (d : Dev) (p : Port) (w : Word64) (sender : Nat) : Dev.Grow d (d.accepted p w sender) :=
  ((Dev.Grow.refl d).consumed p w).noteAlive ..

theorem Dev.noteAlive_get (d : Dev) (pos kind alive missed : Nat) {f : Fld} (hw : f.wf = true)
    (ha : SPN_ALIVE_GAP.apart f = true) : (d.noteAlive pos kind alive missed).get f = d.get f := by
  unfold Dev.noteAlive Dev.countSat
  exact (Dev.get_put_apart _ _ _ _ (by decide) hw ha).trans rfl

theorem Dev.accepted_get (d : Dev) (p : Port) (w : Word64) (sender : Nat) {f : Fld} (hw : f.wf = true)
    (ha : SPN_ALIVE_GAP.apart f = true) (hs : f.addr ∉ sendRegs) : (d.accepted p w sender).get f = d.get f :=
  (Dev.noteAlive_get _ _ _ _ _ hw ha).trans ((Dev.Sent.consumed d p w).get f hs)

/-! ## Where a frame ends -/

section
variable {d : Dev} {p : Port} {w : Word64} {kind : Nat} {act : Dev → Dev}

theorem compactIn_right (hh : d.hears p = true) (hk : cfKind w = kind) (hok : cfOk w = true) :
    compactIn p kind w d act = act d := by
  unfold compactIn
  rw [if_neg (by simp [hh, hk]), if_neg (by simp [hok])]

/-- A frame whose CRC fails is counted, and gives back its unit unless it is of a link kind. -/
theorem compactIn_wrong (hh : d.hears p = true) (hk : cfKind w = kind) (hok : cfOk w = false) :
    compactIn p kind w d act = if linkKind kind then d.countSat (SPN_ERR_CRC16 p) 1
      else (d.countSat (SPN_ERR_CRC16 p) 1).consumed p w := by
  unfold compactIn
  rw [if_neg (by simp [hh, hk]), if_pos (by simp [hok])]

/-- A frame that is the next of its kind acts where it ends. -/
theorem endCompact_inTurn {sender : Nat} (ht : d.inTurn w sender) :
    endCompact p w sender d act = act (d.accepted p w sender) := by
  have hnext := ((Dev.Sent.consumed d p w).aliveMissed sender (cfKind w) (cfAlive w)).trans ht
  unfold endCompact
  dsimp only
  rw [hnext]
  exact congrArg act (if_neg fun h => absurd h.1 (by decide))

theorem toHead_relayed (hh : d.hears p = true) (hk : cfKind w = kind) (hok : cfOk w = true) (hr : d.role = .member) :
    toHead p kind w d act = d.relay p w := by
  refine (compactIn_right hh hk hok).trans ?_
  rw [hr]

theorem toHead_accepted (h : d.receives p kind w) (hr : d.role = .head) (ht : d.inTurn w (cfPos w)) :
    toHead p kind w d act = act (d.accepted p w (cfPos w)) := by
  obtain ⟨-, hh, hk, hok⟩ := h
  refine (compactIn_right hh hk hok).trans ?_
  rw [hr]
  exact endCompact_inTurn ht

theorem toMember_relayed (hh : d.hears p = true) (hk : cfKind w = kind) (hok : cfOk w = true) (hr : d.role = .member)
    (hpos : cfPos w ≠ d.get SPN_POS_POS) : toMember p kind w d act = d.relay p w := by
  refine (compactIn_right hh hk hok).trans ?_
  rw [hr]
  exact if_neg fun h => hpos h.2

theorem toMember_accepted (h : d.receives p kind w) (hr : d.role = .member) (hv : d.bit SPN_POS_VALID = true)
    (hpos : cfPos w = d.get SPN_POS_POS) (ht : d.inTurn w 0) : toMember p kind w d act = act (d.accepted p w 0) := by
  obtain ⟨-, hh, hk, hok⟩ := h
  refine (compactIn_right hh hk hok).trans ?_
  rw [hr]
  exact (if_pos ⟨hv, hpos⟩).trans (endCompact_inTurn ht)

theorem toHead_compactIn (p : Port) (kind : Nat) (w : Word64) (d : Dev) (act : Dev → Dev) :
    ∃ inner, toHead p kind w d act = compactIn p kind w d inner := ⟨_, rfl⟩

theorem toMember_compactIn (p : Port) (kind : Nat) (w : Word64) (d : Dev) (act : Dev → Dev) :
    ∃ inner, toMember p kind w d act = compactIn p kind w d inner := ⟨_, rfl⟩

theorem noticeIn_sub {sub : Nat} (h : bitsNat (cfPay w) 31 28 = sub) : noticeIn p sub w d act = toHead p kNotice w d act :=
  if_pos h

end

theorem newSender_member {d : Dev} (w : Word64) (hr : d.role = .member) : d.newSender w = d :=
  if_neg (by simp [hr])

/-! ## Frames of others, and frames whose CRC fails -/

section
variable {d : Dev} (q : List Instr) {p : Port} {w : Word64} {f : Dev → Dev}

theorem State.lift_relayed (hs : d.settled) (hf : f d = d.relay p w) :
    (⟨d, q⟩ : State).lift f = .next ⟨d.portSend (otherPort p) (some p) (.compact w), q⟩ :=
  State.lift_grow q hs hf ((Dev.Grow.refl d).portSend ..)

theorem exec_relayed (hs : d.settled) (hh : d.hears p = true) (hok : cfOk w = true) (hr : d.role = .member) :
    let relayed : Host.Outcome State Fault Refusal := .next ⟨d.portSend (otherPort p) (some p) (.compact w), q⟩
    (cfKind w = kTrip → exec (.trip p w) ⟨d, q⟩ = relayed)
    ∧ (cfKind w = kGuard → exec (.guard p w) ⟨d, q⟩ = relayed)
    ∧ (cfKind w = kCapreq → exec (.capreq p w) ⟨d, q⟩ = relayed)
    ∧ (cfKind w = kNotice → bitsNat (cfPay w) 31 28 = 1 → exec (.noticeLinkdown p w) ⟨d, q⟩ = relayed)
    ∧ (cfKind w = kNotice → bitsNat (cfPay w) 31 28 = 2 → exec (.noticeLinkup p w) ⟨d, q⟩ = relayed)
    ∧ (cfKind w = kNotice → bitsNat (cfPay w) 31 28 = 3 → exec (.noticeWarmreset p w) ⟨d, q⟩ = relayed)
    ∧ (cfKind w = kNotice → bitsNat (cfPay w) 31 28 = 4 → exec (.noticeUnnumbered p w) ⟨d, q⟩ = relayed)
    ∧ (cfKind w = kNotice → bitsNat (cfPay w) 31 28 = 5 → exec (.noticeSynced p w) ⟨d, q⟩ = relayed)
    ∧ (cfKind w = kNotice → bitsNat (cfPay w) 31 28 = 6 → exec (.enumans p w) ⟨d, q⟩ = relayed)
    ∧ (cfPos w ≠ d.get SPN_POS_POS → cfKind w = kEvack → exec (.evack p w) ⟨d, q⟩ = relayed)
    ∧ (cfPos w ≠ d.get SPN_POS_POS → cfKind w = kSync → exec (.sync p w) ⟨d, q⟩ = relayed) := by
  have hhead {kind : Nat} {act : Dev → Dev} (hk : cfKind w = kind) : toHead p kind w d act = d.relay p w :=
    toHead_relayed hh hk hok hr
  have hnotice {sub : Nat} {act : Dev → Dev} (hk : cfKind w = kNotice) (hsub : bitsNat (cfPay w) 31 28 = sub) :
      noticeIn p sub w d act = d.relay p w := (noticeIn_sub hsub).trans (hhead hk)
  have hmember {kind : Nat} {act : Dev → Dev} (hpos : cfPos w ≠ d.get SPN_POS_POS) (hk : cfKind w = kind) :
      toMember p kind w d act = d.relay p w := toMember_relayed hh hk hok hr hpos
  refine ⟨fun hk => State.lift_relayed q hs (hhead hk), fun hk => State.lift_relayed q hs (hhead hk),
    fun hk => State.lift_relayed q hs (hhead hk), fun hk h => State.lift_relayed q hs (hnotice hk h),
    fun hk h => State.lift_relayed q hs (hnotice hk h), fun hk h => State.lift_relayed q hs (hnotice hk h),
    fun hk h => State.lift_relayed q hs ?_, fun hk h => State.lift_relayed q hs (hnotice hk h),
    fun hk h => State.lift_relayed q hs ?_, fun hpos hk => State.lift_relayed q hs (hmember hpos hk),
    fun hpos hk => State.lift_relayed q hs (hmember hpos hk)⟩
  · refine (if_pos h).trans ((compactIn_right hh hk hok).trans ?_)
    rw [hr]
  · unfold enumansDev
    rw [newSender_member w hr]
    exact hnotice hk h

/-- A frame of a kind that is not a link kind, its CRC wrong. -/
theorem State.lift_counted {kind : Nat} {act : Dev → Dev} (hs : d.settled) (hh : d.hears p = true) (hok : cfOk w = false)
    (hk : cfKind w = kind) (hl : linkKind kind = false) (hf : f d = compactIn p kind w d act) :
    (⟨d, q⟩ : State).lift f = .next ⟨(d.countSat (SPN_ERR_CRC16 p) 1).consumed p w, q⟩ := by
  refine State.lift_grow q hs (hf.trans ((compactIn_wrong hh hk hok).trans (if_neg ?_)))
    (((Dev.Grow.refl d).countSat ..).consumed ..)
  simp [hl]

theorem State.lift_plain_counted {kind : Nat} {act : Dev → Dev} (hs : d.settled) (hh : d.hears p = true)
    (hok : cfOk w = false) (hk : cfKind w = kind) (hl : linkKind kind = true) (hf : f d = compactIn p kind w d act) :
    (⟨d, q⟩ : State).lift f = .next ⟨d.countSat (SPN_ERR_CRC16 p) 1, q⟩ :=
  State.lift_grow q hs (hf.trans ((compactIn_wrong hh hk hok).trans (if_pos hl))) ((Dev.Grow.refl d).countSat ..)

end

/-- Settles O30: a member passes on what ends at the head or at another position, and a wrong CRC ends a frame before
it acts. -/
theorem compactFramesRelayedOrDiscarded : Obligations.CompactFramesRelayedOrDiscarded := by
  refine ⟨fun d q p w hs hh hok hr => exec_relayed q hs hh hok hr, ?_⟩
  intro d q p w hs hh hok plain counted
  have hend {kind : Nat} {f act : Dev → Dev} (hk : cfKind w = kind) (hl : linkKind kind = false)
      (hf : f d = compactIn p kind w d act) : (⟨d, q⟩ : State).lift f = counted :=
    State.lift_counted q hs hh hok hk hl hf
  have hlink {kind : Nat} {f act : Dev → Dev} (hk : cfKind w = kind) (hl : linkKind kind = true)
      (hf : f d = compactIn p kind w d act) : (⟨d, q⟩ : State).lift f = plain :=
    State.lift_plain_counted q hs hh hok hk hl hf
  have hmember {kind : Nat} {f act : Dev → Dev} (hk : cfKind w = kind) (hl : linkKind kind = false)
      (hf : f d = toMember p kind w d act) : (⟨d, q⟩ : State).lift f = counted := by
    obtain ⟨inner, hinner⟩ := toMember_compactIn p kind w d act
    exact hend hk hl (hf.trans hinner)
  have hhead {kind : Nat} {f act : Dev → Dev} (hk : cfKind w = kind) (hl : linkKind kind = false)
      (hf : f d = toHead p kind w d act) : (⟨d, q⟩ : State).lift f = counted := by
    obtain ⟨inner, hinner⟩ := toHead_compactIn p kind w d act
    exact hend hk hl (hf.trans hinner)
  exact ⟨fun hk => hhead hk rfl rfl, fun hk => hhead hk rfl rfl, fun hk => hhead hk rfl rfl, fun hk => hend hk rfl rfl,
    fun hk => hlink hk rfl rfl, fun hk => hlink hk rfl rfl, fun hk => hmember hk rfl rfl, fun hk => hend hk rfl rfl,
    fun hk => hend hk rfl rfl, fun hk => hmember hk rfl rfl, fun hk h => hhead hk rfl (noticeIn_sub h)⟩

/-! ## Credits (R338) -/

theorem Dev.port_put (d : Dev) (f : Fld) (v : Nat) (p : Port) : (d.put f v).port p = d.port p := by cases p <;> rfl

theorem Dev.port_setPort (d : Dev) (p : Port) (s : PortSt) : (d.setPort p s).port p = s := by cases p <;> rfl

/-- A port with nothing to send sends nothing. -/
theorem Dev.drain_idle {d : Dev} {p : Port} (h : (d.port p).txq = []) : d.drain p = d := by
  unfold Dev.drain
  rw [h]
  rfl

theorem Dev.get_put_credit (d : Dev) (p : Port) {i k : Nat} (v : Nat) (h : (SPN_CRED p i).apart (SPN_CRED p k) = true)
    (hi : (SPN_CRED p i).wf = true) (hk : (SPN_CRED p k).wf = true) :
    (d.put (SPN_CRED p i) v).get (SPN_CRED p k) = d.get (SPN_CRED p k) :=
  Dev.get_put_apart _ _ _ _ hi hk h

section
variable {d : Dev} (q : List Instr) {p : Port} {w : Word64}

/-- The device that has put its units of the three classes and what its partner has told, with nothing to send. -/
theorem Dev.setPort_drain {s : PortSt} (h : s.txq = []) (e : Dev) : (e.setPort p s).drain p = e.setPort p s :=
  Dev.drain_idle (by rw [Dev.port_setPort, h])

theorem exec_credit (h : d.receives p kCredit w) (hq : (d.port p).txq = []) :
    let s := d.port p
    let e1 := d.put (SPN_CRED p 1) (d.get (SPN_CRED p 1) + (bitsNat (cfPay w) 31 22 + 1024 - s.taken1 % 1024) % 1024)
    let e2 := e1.put (SPN_CRED p 2) (d.get (SPN_CRED p 2) + (bitsNat (cfPay w) 21 12 + 1024 - s.taken2 % 1024) % 1024)
    let e3 := e2.put (SPN_CRED p 3) (d.get (SPN_CRED p 3) + (bitsNat (cfPay w) 11 0 + 4096 - s.taken3 % 4096) % 4096)
    exec (.credit p w) ⟨d, q⟩ = .next ⟨e3.setPort p { s with
      taken1 := bitsNat (cfPay w) 31 22, taken2 := bitsNat (cfPay w) 21 12, taken3 := bitsNat (cfPay w) 11 0 }, q⟩ := by
  intro s e1 e2 e3
  obtain ⟨hs, hh, hk, hok⟩ := h
  have h2 : e1.get (SPN_CRED p 2) = d.get (SPN_CRED p 2) := by cases p <;> exact Dev.get_put_credit _ _ _ rfl rfl rfl
  have h3 : e2.get (SPN_CRED p 3) = d.get (SPN_CRED p 3) := by
    cases p <;> exact (Dev.get_put_credit _ _ _ rfl rfl rfl).trans (Dev.get_put_credit _ _ _ rfl rfl rfl)
  have hport : e3.port p = s := (Dev.port_put ..).trans ((Dev.port_put ..).trans (Dev.port_put ..))
  refine State.lift_grow q hs ?_ (((((Dev.Grow.refl d).put ..).put ..).put ..).setPort ..)
  refine (compactIn_right hh hk hok).trans ?_
  dsimp only
  rw [h2, h3, hport]
  exact Dev.setPort_drain (by exact hq) _

theorem exec_creditInit (h : d.receives p kCreditInit w) (hq : (d.port p).txq = []) :
    exec (.creditInit p w) ⟨d, q⟩ = .next ⟨(((d.put (SPN_CRED p 1) (bitsNat (cfPay w) 31 24)).put (SPN_CRED p 2)
      (bitsNat (cfPay w) 23 16)).put (SPN_CRED p 3) (bitsNat (cfPay w) 15 4)).setPort p { d.port p with
        taken1 := 0, taken2 := 0, taken3 := 0 }, q⟩ := by
  obtain ⟨hs, hh, hk, hok⟩ := h
  refine State.lift_grow q hs ?_ (((((Dev.Grow.refl d).put ..).put ..).put ..).setPort ..)
  refine (compactIn_right hh hk hok).trans ?_
  dsimp only
  rw [Dev.port_put, Dev.port_put, Dev.port_put]
  exact Dev.setPort_drain (by exact hq) _

theorem exec_creditSend (hs : d.settled) (hh : d.hears p = true) :
    exec (.creditSend p) ⟨d, q⟩ = .next ⟨d.sendCredit p, q⟩ :=
  State.lift_grow q hs (if_pos hh) ((Dev.Grow.refl d).sendCredit p)

end

/-! ## What a member's link leaves alone -/

/-- The registers that a port of a member, its events and its mode can change. -/
def linkReg (a : Nat) : Bool := settleReg a || [0x14030, 0x14040, 0x14044, 0x600004, 0x680004].contains a

/-- Between two devices of a member nothing differs outside the registers of the link. -/
structure Dev.Linked (d e : Dev) : Prop where
  role : e.role = d.role
  word : ∀ a, linkReg a = false → e.word a = d.word a

namespace Dev.Linked
variable {d e f : Dev}

theorem refl (d : Dev) : Dev.Linked d d := ⟨rfl, fun _ _ => rfl⟩

theorem trans (h : Dev.Linked d e) (g : Dev.Linked e f) : Dev.Linked d f :=
  ⟨g.role.trans h.role, fun a ha => (g.word a ha).trans (h.word a ha)⟩

theorem get (h : Dev.Linked d e) {f : Fld} (hf : linkReg f.addr = false) : e.get f = d.get f := by
  unfold Dev.get
  rw [h.word _ hf]

theorem kin (h : Dev.Linked d e) (hk : Dev.Kin e f) : Dev.Linked d f :=
  h.trans ⟨by rw [hk.rest], fun a ha => hk.word a (by simp [linkReg] at ha; exact ha.1)⟩

theorem sent (h : Dev.Linked d e) (hs : Dev.Sent e f) : Dev.Linked d f := h.kin hs.kin

theorem put (h : Dev.Linked d e) {f : Fld} (hf : linkReg f.addr = true) (v : Nat) : Dev.Linked d (e.put f v) :=
  h.trans ⟨rfl, fun a ha => Dev.word_put_other _ _ _ _ fun heq => by rw [heq, hf] at ha; exact absurd ha (by decide)⟩

theorem putPort (h : Dev.Linked d e) {p : Port} {f : Fld} (hf : f ∈ Dev.ImgIs.portFields p) (v : Nat) :
    Dev.Linked d (e.put f v) :=
  h.put (by revert f; cases p <;> decide) v

theorem setPort (h : Dev.Linked d e) (p : Port) (s : PortSt) : Dev.Linked d (e.setPort p s) := h.sent (Dev.Sent.setPort ..)

theorem ite {c : Prop} [Decidable c] (h : Dev.Linked d e) (g : Dev.Linked d f) : Dev.Linked d (if c then e else f) := by
  split <;> assumption

theorem spn (h : Dev.Linked d e) (x : SpnSt) : Dev.Linked d { e with spn := x } := h.trans ⟨rfl, fun _ _ => rfl⟩

theorem pw (h : Dev.Linked d e) (x : PowerSt) : Dev.Linked d { e with pw := x } := h.trans ⟨rfl, fun _ _ => rfl⟩

theorem flushPort (h : Dev.Linked d e) (p : Port) : Dev.Linked d (e.flushPort p) := by
  unfold Dev.flushPort
  extract_lets q lost back counted _ cut freed _ fresh creds frozen
  have hcounted : Dev.Linked d counted := h.put (f := SPN_DISC_DISC) rfl _
  have hfresh : Dev.Linked d fresh :=
    ((hcounted.setPort ..).sent (Dev.Sent.each _ _ _ fun _ _ => Dev.Sent.freeUnits ..)).setPort ..
  have hcred {c : Dev} (hc : Dev.Linked d c) (k v : Nat) : Dev.Linked d (c.put (SPN_CRED p k) v) :=
    hc.sent (Dev.Sent.put _ _ _ (SPN_CRED_mem p k))
  have hcreds : Dev.Linked d creds := hcred (hcred (hcred hfresh 1 _) 2 _) 3 _
  have hfrozen : Dev.Linked d frozen :=
    (hcreds.putPort (p := p) (by simp [ImgIs.portFields]) _).putPort (p := p) (by simp [ImgIs.portFields]) _
  exact (hfrozen.putPort (p := p) (by simp [ImgIs.portFields]) _).putPort (p := p) (by simp [ImgIs.portFields]) _

theorem creditInit (h : Dev.Linked d e) (p : Port) (hr : Bool) : Dev.Linked d (e.creditInit p hr) :=
  (h.setPort ..).sent (Dev.Sent.sendPlain ..)

theorem drain (h : Dev.Linked d e) (p : Port) : Dev.Linked d (e.drain p) := h.sent (Dev.Sent.drainPort ..)

theorem compactToHead (h : Dev.Linked d e) (kind pay : Nat) : Dev.Linked d (e.compactToHead kind pay) :=
  h.kin (Dev.Kin.sendCompact ..)

theorem linkNotice (h : Dev.Linked d e) (p : Port) (up : Bool) (low : Nat) : Dev.Linked d (e.linkNotice p up low) :=
  (h.compactToHead ..).ite h

theorem warmNotice (h : Dev.Linked d e) : Dev.Linked d e.warmNotice := ((h.spn _).compactToHead ..).ite h

theorem reportFound (h : Dev.Linked d e) : Dev.Linked d e.reportFound :=
  ((h.pw _).kin (Dev.Kin.each _ _ _ fun _ _ _ => Dev.Kin.raise ..)).ite h

theorem enterLr (h : Dev.Linked d e) (hr : d.role = .member) (p : Port) (raises : Bool) :
    Dev.Linked d (e.enterLr p raises) := by
  unfold Dev.enterLr
  extract_lets up told open' raised said
  have htold : Dev.Linked d told :=
    ((h.putPort (p := p) (by simp [ImgIs.portFields]) _).putPort (p := p) (by simp [ImgIs.portFields]) _).putPort (p := p)
      (by simp [ImgIs.portFields]) _
  have hopen : Dev.Linked d open' := (htold.putPort (p := p) (by simp [ImgIs.portFields]) _).creditInit ..
  have hraised : Dev.Linked d raised := hopen.sent (Dev.Sent.raise ..)
  refine drain (e := said) (ite ?_ hopen) p
  rw [if_neg (by rw [hraised.role, hr]; decide)]
  exact (hraised.warmNotice.linkNotice ..).reportFound

theorem tryLr (h : Dev.Linked d e) (hr : d.role = .member) (p : Port) : Dev.Linked d (e.tryLr p) := (h.enterLr hr ..).ite h

theorem sendWord (h : Dev.Linked d e) (hr : d.role = .member) (p : Port) (park : Bool) :
    Dev.Linked d (e.sendWord p park) :=
  ((h.sent (Dev.Sent.emit ..)).setPort ..).tryLr hr p

theorem tryTrain (h : Dev.Linked d e) (hr : d.role = .member) (p : Port) : Dev.Linked d (e.tryTrain p) :=
  ((h.sendWord hr ..).putPort (p := p) (by simp [ImgIs.portFields]) _).ite h

theorem hrSettle (h : Dev.Linked d e) (hr : d.role = .member) : Dev.Linked d e.hrSettle :=
  List.foldlRecOn (motive := Dev.Linked d) _ _ h fun _ hc p _ => ((hc.flushPort p).enterLr hr p false).ite hc

theorem seeBinding (h : Dev.Linked d e) : Dev.Linked d e.seeBinding := by
  unfold Dev.seeBinding
  extract_lets hr _ seen b
  have hseen : Dev.Linked d seen := h.ite (h.spn _)
  exact hseen.ite ((hseen.pw _).kin (Dev.Kin.budgetEval ..))

theorem seeTimePort (h : Dev.Linked d e) : Dev.Linked d e.seeTimePort := by
  unfold Dev.seeTimePort
  refine h.ite ?_
  split
  · exact h.kin (Dev.Kin.ringUnlock e)
  · exact h.ite ((h.kin (Dev.Kin.tb' ..)).put (f := TB_STAT_TPORT) rfl _)

end Dev.Linked

/-! ## Control frames at their member (R342, R350, R357) -/

theorem Dev.Sent.setPort_spn (d : Dev) (p : Port) (s : PortSt) :
    (d.setPort p s).spn = { d.spn with north := (d.setPort p s).spn.north, south := (d.setPort p s).spn.south } := by
  cases p <;> rfl

/-- Units that are freed change nothing of the link's state but the ports. -/
theorem Dev.freeUnits_spn (d : Dev) (p : Port) (tc n : Nat) :
    (d.freeUnits p tc n).spn
      = { d.spn with north := (d.freeUnits p tc n).spn.north, south := (d.freeUnits p tc n).spn.south } := by
  have hset {e : Dev} (s : PortSt) (he : e.spn = { d.spn with north := e.spn.north, south := e.spn.south }) :
      (e.setPort p s).spn
        = { d.spn with north := (e.setPort p s).spn.north, south := (e.setPort p s).spn.south } := by
    rw [Dev.Sent.setPort_spn, he]
  have hdue {e : Dev} (he : e.spn = { d.spn with north := e.spn.north, south := e.spn.south }) :
      (e.creditDue p).spn = { d.spn with north := (e.creditDue p).spn.north, south := (e.creditDue p).spn.south } := by
    unfold Dev.creditDue
    split
    · exact hset _ he
    · exact he
  unfold Dev.freeUnits
  dsimp only
  split
  · exact hdue (hset _ rfl)
  · exact hdue (hset _ rfl)
  · exact hdue (hset _ rfl)
  · rfl

theorem Dev.accepted_evq (d : Dev) (p : Port) (w : Word64) (sender : Nat) :
    (d.accepted p w sender).spn.evq = d.spn.evq ∧ (d.accepted p w sender).spn.evBase = d.spn.evBase
      ∧ (d.accepted p w sender).spn.evLost = d.spn.evLost := by
  have hspn := Dev.freeUnits_spn d p (cfTc w) 1
  have hevq := congrArg SpnSt.evq hspn
  have hbase := congrArg SpnSt.evBase hspn
  have hlost := congrArg SpnSt.evLost hspn
  exact ⟨hevq, hbase, hlost⟩

section
variable {d : Dev} (q : List Instr) {p : Port} {w : Word64}

/-- The device whose kept events are those after the first `n`. -/
def Dev.acknowledged (d : Dev) (n : Nat) : Dev :=
  { d with spn := { d.spn with
    evq := d.spn.evq.drop n, evBase := (d.spn.evBase + n) % 2 ^ 32, evSent := d.spn.evSent - n } }



theorem exec_evack (h : d.receives p kEvack w) (hr : d.role = .member) (hv : d.bit SPN_POS_VALID = true)
    (hpos : cfPos w = d.get SPN_POS_POS) (ht : d.inTurn w 0) (hlost : d.spn.evLost = 0) {n : Nat}
    (hn : (cfPay w + 1 + 2 ^ 32 - d.spn.evBase) % 2 ^ 32 = n) (hle : n ≤ d.spn.evq.length) :
    ∃ t, exec (.evack p w) ⟨d, q⟩ = .next t ∧ t.dev.spn.evq = d.spn.evq.drop n
      ∧ t.dev.spn.evBase = (d.spn.evBase + n) % 2 ^ 32
      ∧ t.dev.get SPN_EVQ_QUEUED = t.dev.spn.evq.length % 2 ^ (SPN_EVQ_QUEUED.hi - SPN_EVQ_QUEUED.lo + 1) := by
  obtain ⟨hevq, hbase, hev⟩ := Dev.accepted_evq d p w 0
  have hgrow := Dev.Grow.accepted d p w 0
  have hact : evackDev p w d = ((d.accepted p w 0).acknowledged n).put SPN_EVQ_QUEUED
      ((d.accepted p w 0).acknowledged n).spn.evq.length := by
    refine (toMember_accepted h hr hv hpos ht).trans ?_
    dsimp only
    rw [hbase, hn, hevq, if_pos hle, if_neg (by simp [hev, hlost])]
    unfold Dev.acknowledged
    rw [hbase, hevq]
  refine ⟨_, State.lift_runs d q _ _ hact (hgrow.asks.trans h.1) hgrow.build hgrow.role hgrow.fz,
    congrArg (List.drop n) hevq, congrArg (fun b => (b + n) % 2 ^ 32) hbase, Dev.get_put_same _ _ _ (by decide)⟩

/-- The member that has taken way and high-rate bits from the payload of ROUTE. -/
def Dev.routed (d : Dev) (pay : Nat) : Dev :=
  ((d.put SPN_ROUTE_WAY (bitsNat pay 31 31)).put SPN_ROUTE_HRN (bitsNat pay 30 30)).put SPN_ROUTE_HRS (bitsNat pay 29 29)

theorem Dev.routed_shows (d : Dev) (pay : Nat) :
    (d.routed pay).get SPN_ROUTE_WAY = bitsNat pay 31 31 ∧ (d.routed pay).get SPN_ROUTE_HRN = bitsNat pay 30 30
      ∧ (d.routed pay).get SPN_ROUTE_HRS = bitsNat pay 29 29 := by
  unfold Dev.routed
  refine ⟨?_, ?_, ?_⟩
  · rw [Dev.get_put_apart _ _ _ _ (by decide) (by decide) (by decide),
      Dev.get_put_apart _ _ _ _ (by decide) (by decide) (by decide), Dev.get_put_same _ _ _ (by decide)]
    exact Nat.mod_eq_of_lt (bitsNat_lt _ _ _)
  · rw [Dev.get_put_apart _ _ _ _ (by decide) (by decide) (by decide), Dev.get_put_same _ _ _ (by decide)]
    exact Nat.mod_eq_of_lt (bitsNat_lt _ _ _)
  · rw [Dev.get_put_same _ _ _ (by decide)]
    exact Nat.mod_eq_of_lt (bitsNat_lt _ _ _)

/-- What follows the ROUTE that a member takes leaves what it says. -/
theorem routeDev_linked (h : d.receives p kRoute w) (hr : d.role = .member) (hv : d.bit SPN_POS_VALID = true)
    (hpos : cfPos w = d.get SPN_POS_POS) (ht : d.inTurn w 0) :
    ∃ e, routeDev p w d = e ∧ Dev.Linked ((d.accepted p w 0).routed (cfPay w)) e ∧ Dev.Grow d e := by
  have hrole : ((d.accepted p w 0).routed (cfPay w)).role = .member := (Dev.Grow.accepted d p w 0).role.trans hr
  refine ⟨_, toMember_accepted h hr hv hpos ht, ?_, ?_⟩
  · exact ((((((Dev.Linked.refl _).spn _).ite (Dev.Linked.refl _)).spn _).sent (Dev.Sent.sendEvents _)).tryTrain hrole _
      |>.tryTrain hrole _).seeBinding.hrSettle hrole
  · have hput := (((Dev.Grow.accepted d p w 0).put SPN_ROUTE_WAY (bitsNat (cfPay w) 31 31)).put SPN_ROUTE_HRN
      (bitsNat (cfPay w) 30 30)).put SPN_ROUTE_HRS (bitsNat (cfPay w) 29 29)
    refine ((((Dev.Grow.sendEvents ?_).tryTrain _).tryTrain _).seeBinding).hrSettle
    refine Dev.Grow.withSpn (Dev.Grow.ite ?_ hput) rfl
    exact Dev.Grow.withSpn hput rfl

theorem exec_route (h : d.receives p kRoute w) (hr : d.role = .member) (hv : d.bit SPN_POS_VALID = true)
    (hpos : cfPos w = d.get SPN_POS_POS) (ht : d.inTurn w 0) :
    ∃ t, exec (.route p w) ⟨d, q⟩ = .next t ∧ t.dev.get SPN_ROUTE_WAY = bitsNat (cfPay w) 31 31
      ∧ t.dev.get SPN_ROUTE_HRN = bitsNat (cfPay w) 30 30 ∧ t.dev.get SPN_ROUTE_HRS = bitsNat (cfPay w) 29 29 := by
  obtain ⟨e, he, hlink, hgrow⟩ := routeDev_linked h hr hv hpos ht
  have hshown := Dev.routed_shows (d.accepted p w 0) (cfPay w)
  have hend : Dev.Linked ((d.accepted p w 0).routed (cfPay w)) e.hrSettle.seeTimePort :=
    (hlink.hrSettle ((Dev.Grow.accepted d p w 0).role.trans hr)).seeTimePort
  obtain ⟨hway, hnorth, hsouth⟩ := hshown
  exact ⟨_, State.lift_grow q h.1 (congrArg (fun c => c.hrSettle.seeTimePort) he) hgrow.hrSettle.seeTimePort,
    (hend.get rfl).trans hway, (hend.get rfl).trans hnorth, (hend.get rfl).trans hsouth⟩

/-- The member that has adopted a command counter. -/
def Dev.synced (d : Dev) (last : Nat) : Dev := (d.put SPN_CMD_LAST last).put SPN_CMD_SYNCWAIT 0

theorem exec_sync (h : d.receives p kSync w) (hr : d.role = .member) (hv : d.bit SPN_POS_VALID = true)
    (hpos : cfPos w = d.get SPN_POS_POS) (ht : d.inTurn w 0) (hid : bitsNat (cfPay w) 15 0 = d.get SPN_POS_HID) :
    ∃ t, exec (.sync p w) ⟨d, q⟩ = .next t ∧ t.dev.get SPN_CMD_LAST = bitsNat (cfPay w) 31 16
      ∧ t.dev.get SPN_CMD_SYNCWAIT = 0 := by
  have hmine : (d.accepted p w 0).get SPN_POS_HID = d.get SPN_POS_HID :=
    Dev.accepted_get _ _ _ _ (by decide) (by decide) (by decide)
  have hact : syncDev p w d = ((d.accepted p w 0).synced (bitsNat (cfPay w) 31 16)).compactToHead kNotice
      (5 * 2 ^ 28 + ((d.accepted p w 0).synced (bitsNat (cfPay w) 31 16)).get SPN_CMD_LAST) :=
    (toMember_accepted h hr hv hpos ht).trans (if_pos (hid.trans hmine.symm))
  have hgrow := (((Dev.Grow.accepted d p w 0).put SPN_CMD_LAST (bitsNat (cfPay w) 31 16)).put SPN_CMD_SYNCWAIT 0)
  refine ⟨_, State.lift_grow q h.1 hact (hgrow.compactToHead ..), ?_, ?_⟩
  · refine ((Dev.Kin.sendCompact ..).get _ (by decide)).trans ?_
    unfold Dev.synced
    rw [Dev.get_put_apart _ _ _ _ (by decide) (by decide) (by decide), Dev.get_put_same _ _ _ (by decide)]
    exact Nat.mod_eq_of_lt (bitsNat_lt _ _ _)
  · exact ((Dev.Kin.sendCompact ..).get _ (by decide)).trans (Dev.get_put_same _ _ _ (by decide))

end

/-- Settles O32: with nothing waiting at the port the credits are the frame's, and a control frame acts once at the
member it names. -/
theorem creditAndControlFramesComplete : Obligations.CreditAndControlFramesComplete :=
  ⟨fun _ q _ _ h hq => exec_credit q h hq, fun _ q _ _ h hq => exec_creditInit q h hq,
    fun _ q _ hs hh => exec_creditSend q hs hh,
    fun _ q _ _ h hr hv hpos ht hlost hle => exec_evack q h hr hv hpos ht hlost rfl hle,
    fun _ q _ _ h hr hv hpos ht => exec_route q h hr hv hpos ht,
    fun _ q _ _ h hr hv hpos ht hid => exec_sync q h hr hv hpos ht hid⟩

end Sys2Proof.Machine
end

section
/-!
SUPPORT. Commands at a member (13, R332, R334, R346, R348): what becomes of a command frame that names its position, by its
SEQ and its TAG.
-/

namespace Sys2Proof.Machine

/-! ## Bytes of a payload -/

theorem leNat_bytesAt_one (bs : List Byte) (i : Nat) : leNat (bytesAt bs i 1) = leNat ((bs.drop i).take 1) := by
  unfold bytesAt
  cases bs.drop i with
  | nil => rfl
  | cons b rest => rfl

theorem payNat_code (x : XFrame) : leNat (x.payload.take 1) = payNat x 0 1 := (leNat_bytesAt_one x.payload 0).symm

theorem payNat_count (x : XFrame) : leNat ((x.payload.drop 1).take 1) = payNat x 1 1 := (leNat_bytesAt_one x.payload 1).symm

/-! ## Responses -/

theorem Dev.Grow.respFragments {d e : Dev} (n tag : Nat) (bs : List Byte) (h : Dev.Grow d e) :
    Dev.Grow d (respFragments n e tag bs) := by
  induction n generalizing e bs with
  | zero => exact h
  | succ n ih =>
    unfold Sys2Proof.Machine.respFragments
    exact (h.sendToHead ..).ite (ih _ (h.sendToHead ..))

theorem Dev.Grow.respond {d e : Dev} (tag status count : Nat) (data : List Byte) (h : Dev.Grow d e) :
    Dev.Grow d (e.respond tag status count data) := Dev.Grow.respFragments _ _ _ h

theorem Dev.Grow.answer {d e : Dev} (x : XFrame) (status : Nat) (data : List Byte) (h : Dev.Grow d e) :
    Dev.Grow d (e.answer x status data) :=
  Dev.Grow.respond _ _ _ _ (Dev.Grow.withSpn (x := { e.spn with kept := _ }) h rfl)

theorem Dev.Grow.done {d e : Dev} (h : Dev.Grow d e) : Dev.Grow d e.commandDone :=
  h.trans (Dev.Moved.commandDone e).kin.grow

/-! ## A frame that arrives -/

theorem Dev.Sent.consumedX (d : Dev) (p : Port) (x : XFrame) : Dev.Sent d (d.consumedX p x) := Dev.Sent.freeUnits ..

theorem Dev.Grow.consumedX {d e : Dev} (p : Port) (x : XFrame) (h : Dev.Grow d e) : Dev.Grow d (e.consumedX p x) :=
  h.freeUnits ..

theorem Dev.consumedX_exp1 (d : Dev) (p : Port) (x : XFrame) : (d.consumedX p x).spn.exp1 = d.spn.exp1 := by
  have h := congrArg SpnSt.exp1 (Dev.freeUnits_spn d p x.tc (Body.ext x).units)
  exact h

theorem Dev.consumedX_kept (d : Dev) (p : Port) (x : XFrame) : (d.consumedX p x).spn.kept = d.spn.kept := by
  have h := congrArg SpnSt.kept (Dev.freeUnits_spn d p x.tc (Body.ext x).units)
  exact h

theorem Dev.Grow.tookFrame (d : Dev) (p : Port) (x : XFrame) : Dev.Grow d (d.tookFrame p x) :=
  Dev.Grow.withSpn ((Dev.Grow.refl d).consumedX p x) rfl

theorem Dev.tookFrame_get (d : Dev) (p : Port) (x : XFrame) {f : Fld} (hf : f.addr ∉ sendRegs) :
    (d.tookFrame p x).get f = d.get f := (Dev.Sent.consumedX d p x).get f hf

/-- What a member does with a command frame in sequence, by its TAG. -/
def Dev.commandTaken (d : Dev) (x : XFrame) (op : Option Nat) (act : Dev → List Byte × Dev) : Dev :=
  let t := x.tag % 65536
  let last := d.get SPN_CMD_LAST
  let count := leNat ((x.payload.drop 1).take 1)
  if d.bit SPN_CMD_SYNCWAIT then d.respond t 1 count []
  else if t = (last + 1) % 65536 then
    let d := d.riseForCommand
    let d := d.put SPN_CMD_LAST t
    match op with
    | none =>
      let d := { d with spn := { d.spn with kept := some ⟨t, leBytes 1 3 ++ leBytes 1 count ++ leBytes 6 0⟩ } }
      (d.respond t 3 count []).commandDone
    | some _ =>
      let (data, d) := act d
      let d := { d with spn := { d.spn with kept := some ⟨t, leBytes 1 0 ++ leBytes 1 count ++ leBytes 6 0 ++ data⟩ } }
      (d.respond t 0 count data).commandDone
  else if t = last then
    match d.spn.kept with
    | some k => if k.tag = t then respFragments (k.body.length / 256 + 1) d t k.body else d.respond t 2 count []
    | none => d.respond t 2 count []
  else d.respond t 2 count []

/-- The operation code of a frame is that of a row of Table 13-7, or of none of its rows. -/
def fitsRow (x : XFrame) (op : Option Nat) : Bool :=
  let code := leNat (x.payload.take 1)
  match op with
  | some o => decide (code = o)
  | none => !(1 ≤ code && code ≤ 4)

theorem fitsRow_some {x : XFrame} {o : Nat} (h : payNat x 0 1 = o) : fitsRow x (some o) = true :=
  decide_eq_true ((payNat_code x).trans h)

theorem fitsRow_none {x : XFrame} (h : ¬ (1 ≤ payNat x 0 1 ∧ payNat x 0 1 ≤ 4)) : fitsRow x none = true := by
  unfold fitsRow
  rw [payNat_code]
  simp only [Bool.not_eq_true', Bool.and_eq_false_iff, decide_eq_false_iff_not]
  omega

section
variable {d : Dev} {p : Port} {x : XFrame} {op : Option Nat} {act : Dev → List Byte × Dev}

/-- A command frame that names this member's position is checked with its SEQ. -/
theorem commandIn_mine (hh : d.hears p = true) (hr : d.role = .member) (hft : x.ftype = 0xF1) (hdir : x.dir = false)
    (hfit : fitsRow x op = true) (hv : d.bit SPN_POS_VALID = true) (hpos : x.pos = d.get SPN_POS_POS) :
    commandIn p x op act d =
      if x.crc ≠ xCrc x x.pos (d.cmdSeq x) then (d.consumedX p x).countSat (SPN_ERR_CRC32 p) 1
      else if seqBefore (d.cmdSeq x) d.spn.exp1 then d.consumedX p x
      else (d.tookFrame p x).commandTaken x op act := by

  have hmine : (d.consumedX p x).get SPN_POS_POS = x.pos := ((Dev.Sent.consumedX d p x).get _ (by decide)).trans hpos.symm
  unfold commandIn
  extract_lets code row taken seq _ took t last count
  have hrow : row = true := hfit
  rw [if_neg (by simp [hh, hft, hdir, hrow]), if_neg (by simp [hr]), if_neg (by simp [hv, hpos]), hmine]
  have hexp : taken.spn.exp1 = d.spn.exp1 := Dev.consumedX_exp1 d p x
  have hseq : seq = d.cmdSeq x := congrArg (xSeqOf x) hexp
  have htook : took = d.tookFrame p x := by
    simp only [took, hseq]
    rfl
  rw [hseq, hexp, ← htook]
  rfl

end

/-! ## What is done with a TAG (R348, R350) -/

section
variable {d : Dev} {x : XFrame} {op : Option Nat} {act : Dev → List Byte × Dev}

theorem Dev.commandTaken_waiting (h : d.bit SPN_CMD_SYNCWAIT = true) :
    d.commandTaken x op act = d.respond (x.tag % 65536) 1 (payNat x 1 1) [] :=
  (if_pos h).trans (by rw [payNat_count])

theorem Dev.commandTaken_outOfSeq (h : d.bit SPN_CMD_SYNCWAIT = false)
    (hnext : x.tag % 65536 ≠ (d.get SPN_CMD_LAST + 1) % 65536) (hlast : x.tag % 65536 ≠ d.get SPN_CMD_LAST) :
    d.commandTaken x op act = d.respond (x.tag % 65536) 2 (payNat x 1 1) [] := by
  unfold Dev.commandTaken
  dsimp only
  rw [if_neg (by simp [h]), if_neg hnext, if_neg hlast, payNat_count]

/-- The last TAG is not the one after it, so its repeat is answered from what was kept. -/
theorem Dev.commandTaken_repeat {k : KeptResp} (h : d.bit SPN_CMD_SYNCWAIT = false)
    (hlast : x.tag % 65536 = d.get SPN_CMD_LAST) (hk : d.spn.kept = some k) (ht : k.tag = x.tag % 65536) :
    d.commandTaken x op act = respFragments (k.body.length / 256 + 1) d (x.tag % 65536) k.body := by
  have hnext : x.tag % 65536 ≠ (d.get SPN_CMD_LAST + 1) % 65536 := by omega
  unfold Dev.commandTaken
  dsimp only
  rw [if_neg (by simp [h]), if_neg hnext, if_pos hlast, hk]
  exact if_pos ht

theorem Dev.commandTaken_next {o : Nat} (h : d.bit SPN_CMD_SYNCWAIT = false) (hup : d.awake)
    (hnext : x.tag % 65536 = (d.get SPN_CMD_LAST + 1) % 65536) :
    d.commandTaken x (some o) act = ((act (d.put SPN_CMD_LAST (x.tag % 65536))).2.answer x 0
      (act (d.put SPN_CMD_LAST (x.tag % 65536))).1).commandDone := by
  unfold Dev.commandTaken
  dsimp only
  rw [if_neg (by simp [h]), if_pos hnext, Dev.riseForCommand_awake d hup, payNat_count]
  rfl

theorem Dev.commandTaken_unknown (h : d.bit SPN_CMD_SYNCWAIT = false) (hup : d.awake)
    (hnext : x.tag % 65536 = (d.get SPN_CMD_LAST + 1) % 65536) :
    d.commandTaken x none act = ((d.put SPN_CMD_LAST (x.tag % 65536)).answer x 3 []).commandDone := by
  unfold Dev.commandTaken
  dsimp only
  rw [if_neg (by simp [h]), if_pos hnext, Dev.riseForCommand_awake d hup, payNat_count]
  simp only [Dev.answer, List.append_nil]

end

section
variable {d : Dev} (q : List Instr) {p : Port} {x : XFrame} {op : Option Nat} {act : Dev → List Byte × Dev}

/-- A command frame that a member receives is taken. -/
theorem commandIn_taken (h : d.receivesCommand p x) (hfit : fitsRow x op = true) :
    commandIn p x op act d = (d.tookFrame p x).commandTaken x op act := by
  obtain ⟨-, hh, hr, hft, hdir, hv, hpos, hcrc, hseq⟩ := h
  rw [commandIn_mine hh hr hft hdir hfit hv hpos, if_neg (not_not.2 hcrc), if_neg (by simp [hseq])]

theorem Dev.tookFrame_syncwait (d : Dev) (p : Port) (x : XFrame) :
    (d.tookFrame p x).bit SPN_CMD_SYNCWAIT = d.bit SPN_CMD_SYNCWAIT :=
  congrArg (decide <| · ≠ 0) (d.tookFrame_get p x (by decide))

theorem exec_commandRd_notNext (h : d.receivesCommand p x) (hop : payNat x 0 1 = 1) :
    (d.bit SPN_CMD_SYNCWAIT = true → exec (.commandRd p x) ⟨d, q⟩
      = .next ⟨(d.tookFrame p x).respond (x.tag % 65536) 1 (payNat x 1 1) [], q⟩)
    ∧ (d.bit SPN_CMD_SYNCWAIT = false → x.tag % 65536 ≠ (d.get SPN_CMD_LAST + 1) % 65536 →
      x.tag % 65536 ≠ d.get SPN_CMD_LAST → exec (.commandRd p x) ⟨d, q⟩
        = .next ⟨(d.tookFrame p x).respond (x.tag % 65536) 2 (payNat x 1 1) [], q⟩)
    ∧ (∀ k, d.bit SPN_CMD_SYNCWAIT = false → x.tag % 65536 = d.get SPN_CMD_LAST → d.spn.kept = some k →
      k.tag = x.tag % 65536 → exec (.commandRd p x) ⟨d, q⟩
        = .next ⟨respFragments (k.body.length / 256 + 1) (d.tookFrame p x) (x.tag % 65536) k.body, q⟩) := by
  have hs : d.settled := h.1.1
  have hlast : (d.tookFrame p x).get SPN_CMD_LAST = d.get SPN_CMD_LAST := d.tookFrame_get p x (by decide)
  have htaken := commandIn_taken (act := fun d => d.readRegs (payNat x 4 4) (cmdCount x)) h (fitsRow_some hop)
  have hgrow := Dev.Grow.tookFrame d p x
  refine ⟨fun hw => ?_, fun hw hnext hne => ?_, fun k hw he hk ht => ?_⟩
  · rw [← d.tookFrame_syncwait p x] at hw
    exact State.lift_grow q hs (htaken.trans (Dev.commandTaken_waiting hw)) (hgrow.respond ..)
  · rw [← d.tookFrame_syncwait p x] at hw
    rw [← hlast] at hnext hne
    exact State.lift_grow q hs (htaken.trans (Dev.commandTaken_outOfSeq hw hnext hne)) (hgrow.respond ..)
  · rw [← d.tookFrame_syncwait p x] at hw
    have hkept : (d.tookFrame p x).spn.kept = some k := (d.consumedX_kept p x).trans hk
    exact State.lift_grow q hs (htaken.trans (Dev.commandTaken_repeat hw (he.trans hlast.symm) hkept ht))
      (hgrow.respFragments ..)

end

/-! ## Commands that are executed (R346, R470, R488) -/

/-- A member that has taken a command frame is as awake as before. -/
theorem Dev.tookFrame_awake {d : Dev} (h : d.awake) (p : Port) (x : XFrame) : (d.tookFrame p x).awake := by
  refine ⟨?_, h.2.trans_eq (d.tookFrame_get p x (by decide)).symm⟩
  have hgrow := Dev.Grow.tookFrame d p x
  have hlathe := h.1
  unfold Dev.lathe at hlathe ⊢
  rwa [hgrow.off, hgrow.warm, hgrow.fw]

theorem Dev.Grow.regRead {d e : Dev} (a : Nat) (h : Dev.Grow d e) : Dev.Grow d (e.regRead a).2 := by
  unfold Dev.regRead
  dsimp only
  split
  · exact h
  · split
    · exact h
    · split
      · exact h
      · split
        · exact h.withWin _
        · split
          · exact h.withWin _
          · exact Dev.Grow.clearRc _ _ ((Dev.Grow.latchHigh _ h).ite h)

theorem Dev.Grow.readRegs {d e : Dev} (a n : Nat) (h : Dev.Grow d e) : Dev.Grow d (e.readRegs a n).2 :=
  List.foldlRecOn (motive := fun acc : List Byte × Dev => Dev.Grow d acc.2) _ _ h fun _ hacc _ _ => hacc.regRead _

theorem Dev.Grow.crcTap {d e : Dev} (tap : Nat) (bs : List Byte) (h : Dev.Grow d e) : Dev.Grow d (e.crcTap tap bs) :=
  Dev.Grow.each _ _ h fun _ _ hc => (hc.crcFeed ..).ite hc

section
variable {d : Dev} (q : List Instr) {p : Port} {x : XFrame}

/-- A command frame with the next TAG is executed once and answered. -/
theorem State.lift_command_next {f : Dev → Dev} {o : Nat} {act : Dev → List Byte × Dev} {data : List Byte} {e : Dev}
    (h : d.receivesCommand p x) (hw : d.bit SPN_CMD_SYNCWAIT = false)
    (hnext : x.tag % 65536 = (d.get SPN_CMD_LAST + 1) % 65536) (hop : payNat x 0 1 = o)
    (hf : f d = commandIn p x (some o) act d) (hact : act (d.tookTag p x) = (data, e)) (hg : Dev.Grow (d.tookTag p x) e) :
    (⟨d, q⟩ : State).lift f = .next ⟨(e.answer x 0 data).commandDone, q⟩ := by
  have hlast : (d.tookFrame p x).get SPN_CMD_LAST = d.get SPN_CMD_LAST := d.tookFrame_get p x (by decide)
  have hdone := Dev.commandTaken_next (o := o) (act := act) ((d.tookFrame_syncwait p x).trans hw)
    (Dev.tookFrame_awake h.1.2 p x) (hnext.trans (by rw [hlast]))
  have hact' : act ((d.tookFrame p x).put SPN_CMD_LAST (x.tag % 65536)) = (data, e) := hact
  rw [hact'] at hdone
  exact State.lift_grow q h.1.1 (hf.trans ((commandIn_taken h (fitsRow_some hop)).trans hdone))
    ((((Dev.Grow.tookFrame d p x).put ..).trans hg).answer x 0 data).done

/-- A write of one plain register by a command frame: its fields. -/
theorem Dev.regWrite_fields {e : Dev} {a : Nat} {l : Loc} (v : Word) (hlt : a < 2 ^ 24) (h4 : a % 4 = 0)
    (hl : e.regAt a = some l) (hcom : e.blkReg 0xF00 a = none) (hcs : e.blkReg 0xF04 a = none)
    (hs : stagedView a = false) (hq : l.acts = false) (hf : ∀ f ∈ l.row.fields, e.fieldLocked l f = false) :
    e.regWrite a v = e.putFields l a v := by
  have hp : e.Plain a l := ⟨regAddr_self hlt h4, hlt, hl, hcom, hcs, hs, hq⟩
  have ho : e.offends l a v = false := by
    unfold Dev.offends
    rw [List.any_eq_false]
    intro f hm
    simp [hf f hm]
  rw [hp.regWrite, ho, Dev.allowed_free e l a v hf hp.not_mask.1 hp.not_mask.2, if_neg Bool.false_ne_true]

end

/-- Settles O34: the command that is next is executed at the member that has adopted its TAG. -/
theorem memberCommandsComplete : Obligations.MemberCommandsComplete := by
  intro d q p x h hw hnext e
  refine ⟨fun hop => State.lift_command_next q h hw hnext hop rfl rfl ((Dev.Grow.refl _).readRegs ..),
    fun hop => State.lift_command_next q h hw hnext hop rfl rfl ((Dev.Grow.refl _).crcTap ..), fun hop => ?_,
    fun a v l hop hn ha hv hlt h4 hl hcom hcs hs hq hf => ?_, fun a v l hop hn hp hlt h4 hl hcom hcs hs hq hf => ?_⟩
  · have hlast : (d.tookFrame p x).get SPN_CMD_LAST = d.get SPN_CMD_LAST := d.tookFrame_get p x (by decide)
    have hdone := Dev.commandTaken_unknown (act := fun d => ([], d)) ((d.tookFrame_syncwait p x).trans hw)
      (Dev.tookFrame_awake h.1.2 p x) (hnext.trans (by rw [hlast]))
    exact State.lift_grow q h.1.1 ((commandIn_taken h (fitsRow_none hop)).trans hdone)
      (((Dev.Grow.tookFrame d p x).put ..).answer x 3 []).done
  · have hcount : cmdCount x = 1 := by
      unfold cmdCount
      rw [hn]
      rfl
    refine State.lift_command_next q h hw hnext hop rfl ?_ ((Dev.Grow.refl _).putFields l a v)
    have hwrite := Dev.regWrite_fields (e := d.tookTag p x) v hlt h4 hl hcom hcs hs hq hf
    change (d.tookTag p x).localAct (.wr (payNat x 4 4) (wordsOf (cmdCount x) (x.payload.drop 8))) = _
    rw [hcount, hv, ha]
    exact congrArg (Prod.mk []) hwrite
  · have hcount : cmdCount x = 1 := by
      unfold cmdCount
      rw [hn]
      rfl
    refine State.lift_command_next q h hw hnext hop rfl ?_ ((Dev.Grow.refl _).putFields l a v)
    have hwrite := Dev.regWrite_fields (e := d.tookTag p x) v hlt h4 hl hcom hcs hs hq hf
    change (d.tookTag p x).localAct (.wrl (pairsOf (cmdCount x) (x.payload.drop 8))) = _
    rw [hcount, hp]
    exact congrArg (Prod.mk []) hwrite

/-- Settles O35: what a TAG that is not next is answered depends on SYNCWAIT and on what was kept alone. -/
theorem commandCounterRule : Obligations.CommandCounterRule := by
  refine ⟨fun d q p x h hop => exec_commandRd_notNext q h hop, fun d q p x hs hh hr hft hdir hop hv hpos hcrc => ?_⟩
  refine State.lift_grow q hs ?_ (((Dev.Grow.refl d).consumedX p x).countSat ..)
  exact (commandIn_mine hh hr hft hdir (fitsRow_some hop) hv hpos).trans (if_pos hcrc)

end Sys2Proof.Machine
end

section
/-!
SUPPORT. A member table that holds a position twice (13): `Dev.member` finds the first entry, and `Dev.setMember` changes both.
-/

namespace Sys2Proof.Machine

/-- The members of the head after a command. -/
def membersAfter (o : Host.Outcome State Fault Refusal) : List Member :=
  match o with
  | .next s => s.dev.hd.members
  | _ => []

/-! ## The parts of a stream block -/

/-- A head with two entries for position 2, which have seen different frames of its stream. -/
def twinHead : Dev :=
  let d := Dev.anew .F .head
  { d.put (SPN_PORT_STATE .north) pLr with
    hd := { d.hd with members := [freshMember 2 0 77, { freshMember 2 0 78 with exp3 := 1000 }] } }

/-- The first part of a stream block of that position, with the SEQ that the first entry expects. -/
def firstPart : XFrame := xSeal ⟨0xF5, 0, 2, true, false, false, true, false, 0, 0, 0, [], 0⟩ 2 0

theorem twinHead_hears : twinHead.settled ∧ twinHead.hears .north = true ∧ twinHead.role = .head
    ∧ twinHead.member firstPart.pos = some (freshMember 2 0 77)
    ∧ firstPart.crc = xCrc firstPart firstPart.pos (xSeqOf firstPart (freshMember 2 0 77).exp3)
    ∧ seqBefore (xSeqOf firstPart (freshMember 2 0 77).exp3) (freshMember 2 0 77).exp3 = false := by
  and_intros <;> decide +kernel

/-- Both entries expect the frame after the one that the first entry expected. -/
theorem twinHead_stream :
    (membersAfter (exec (.stream .north firstPart) ⟨twinHead, []⟩)).map (·.exp3) = [1, 1] := by
  decide +kernel

/-- Refutes O36: its clause about the parts of a stream block lets every entry of the position count on from the frame that
it expected itself. Where the member table holds a position twice, the model takes both to the frame after the one that the
first entry expected. -/
theorem not_extendedFramesComplete : ¬ Obligations.ExtendedFramesComplete := by
  rintro ⟨-, -, -, -, hhead⟩
  obtain ⟨hs, hh, hr, hm, hcrc, hseq⟩ := twinHead_hears
  obtain ⟨-, -, hstream⟩ := hhead twinHead [] .north firstPart _ hs hh hr rfl hm
  have hmodel := twinHead_stream
  rw [hstream rfl hcrc hseq rfl rfl] at hmodel
  exact absurd hmodel (by decide +kernel)

/-! ## A gap of events -/

/-- What position 2 sent ahead of a gap of five events. -/
def heldAhead : EventRec := EventRec.ofBytes []

/-- A head with two entries for position 2: the first holds an event ahead of a gap, and the second has seen others. -/
def gapHead : Dev :=
  let d := Dev.anew .F .head
  { d with hd := { d.hd with members :=
    [{ freshMember 2 0 77 with ahead := [(5, heldAhead)] }, { freshMember 2 0 78 with exp2 := 1000 }] } }

theorem gapHead_runs : gapHead.runs ∧ gapHead.role = .head
    ∧ gapHead.member 2 = some { freshMember 2 0 77 with ahead := [(5, heldAhead)] } := by
  and_intros <;> decide +kernel

/-- Each entry gives up five events and takes the one behind them. -/
theorem gapHead_givesUp : (membersAfter (exec (.eventGapTimeout 2) ⟨gapHead, []⟩)).map (·.exp2) = [6, 1006] := by
  decide +kernel

/-- Refutes O37: its clause about a gap of events takes every entry of the position to the event behind the gap of the first
entry. Where the member table holds a position twice, the model counts each entry on from its own. -/
theorem not_spindleTimersComplete : ¬ Obligations.SpindleTimersComplete := by
  rintro ⟨-, -, hevents, -⟩
  obtain ⟨hruns, hr, hm⟩ := gapHead_runs
  obtain ⟨-, hgap⟩ := hevents gapHead [] 2 _ hruns hr hm
  have hmodel := gapHead_givesUp
  rw [hgap 5 heldAhead rfl] at hmodel
  exact absurd hmodel (by decide +kernel)

end Sys2Proof.Machine
end

section
/-!
SUPPORT. Descriptors of the host's rings (15, R351, R403, R404, R405, R407): the run of a descriptor that is consumed while no
other run is there, up to its first access or to its completion.
-/

namespace Sys2Proof.Machine

/-! ## A device with at most one run -/

theorem Dev.goOn_none {d : Dev} (h : d.hif.runs = []) : d.goOn = d := by
  unfold Dev.goOn
  rw [h]
  rfl

theorem Dev.goOn_one {d : Dev} {x : Run} (h : d.hif.runs = [x]) : d.goOn = if d.mayStart [] x then d.startRun x else d := by
  have hfirst : d.firstRun [] [x] = if d.mayStart [] x then some x else none := rfl
  unfold Dev.goOn
  simp only [h, List.length_singleton, Dev.startRuns, hfirst]
  by_cases hm : d.mayStart [] x = true
  · rw [if_pos hm, if_pos hm]
  · rw [if_neg hm, if_neg hm]

theorem Dev.Grow.complete {d e : Dev} (r cid status data : Nat) (h : Dev.Grow d e) :
    Dev.Grow d (e.complete r cid status data) :=
  Dev.Grow.ite h (h.withHif _).flush

theorem Dev.Grow.setRun {d e : Dev} (x : Run) (h : Dev.Grow d e) : Dev.Grow d (e.setRun x) := h.withHif _

theorem Dev.Grow.consume (d : Dev) (r : Nat) : Dev.Grow d (d.consume r) := ((Dev.Grow.refl d).setRing ..).writeBack ..

theorem Dev.Grow.runTaken (d : Dev) (r : Nat) (xs : List Run) : Dev.Grow d (d.runTaken r xs) := (Dev.Grow.consume d r).withHif _

theorem Dev.Grow.completed (d : Dev) (r : Nat) (e : Desc) (status data : Nat) : Dev.Grow d (d.completed r e status data) :=
  (Dev.Grow.runTaken ..).complete ..

theorem Dev.Grow.sendCommand {d e : Dev} (pos tag : Nat) (pay : List Byte) (h : Dev.Grow d e) :
    Dev.Grow d (e.sendCommand pos tag pay) := by
  unfold Dev.sendCommand
  split
  · exact h
  · exact (((h.sendTone _).ite h).setMember ..).portSend ..

theorem Dev.Grow.issued (d : Dev) (r opc : Nat) (e : Desc) (acts : List Act) (first : Act) (m : Member) :
    Dev.Grow d (d.issued r opc e acts first m) := (Dev.Grow.runTaken ..).sendCommand ..

/-! ## The run of a consumed descriptor -/

section
variable {d : Dev} {r : Nat} {x y : Run}

theorem Dev.setRun_taken (h : y.id = x.id) : (d.runTaken r [x]).setRun y = d.runTaken r [y] := by
  have hmap : [x].map (fun z => if z.id = y.id then y else z) = [y] := by simp [h]
  unfold Dev.setRun
  rw [show (d.runTaken r [x]).hif.runs = [x] from rfl, hmap]
  rfl

theorem Dev.endRun_taken (h : y.id = x.id) (status data : Nat) :
    (d.runTaken r [x]).endRun y status data = (d.runTaken r []).complete y.ring y.cid status data := by
  have hfilter : [x].filter (fun z => z.id ≠ y.id) = [] := by simp [h]
  unfold Dev.endRun
  rw [show (d.runTaken r [x]).hif.runs = [x] from rfl, hfilter]
  rfl

theorem Dev.addRun_taken (h : d.hif.runs = []) (x : Run) :
    (d.consume r).addRun x = (d.runTaken r [{ x with id := d.hif.nextRun }]).goOn := by
  have hruns : (d.consume r).hif.runs = [] := h
  unfold Dev.addRun
  rw [hruns]
  rfl

/-- A descriptor that ends at once with a status. -/
theorem Dev.endDesc_taken (h : d.hif.runs = []) {e : Desc} (hring : x.ring = r) (hcid : x.cid = e.cid % 65536)
    (status data : Nat) : (d.consume r).endDesc x status data = d.completed r e status data := by
  have hstay : (d.runTaken r [{ x with id := d.hif.nextRun, started := true }]).goOn
      = d.runTaken r [{ x with id := d.hif.nextRun, started := true }] := by
    rw [Dev.goOn_one rfl]
    rfl
  unfold Dev.endDesc
  rw [Dev.addRun_taken h, hstay]
  refine (Dev.endRun_taken rfl status data).trans ?_
  rw [hring, hcid]
  rfl

/-- The run of a descriptor for a member, before it starts. -/
def freshRun (d : Dev) (r opc : Nat) (e : Desc) (acts : List Act) : Run := { mkRun r opc e acts with id := d.hif.nextRun }

/-- A run for a member may start where no other run is there and the head neither enumerates nor rebuilds its ring. -/
theorem Dev.mayStart_alone {e : Dev} (hruns : e.hif.runs = [x]) (hnew : x.started = false) (hpos : x.pos ≠ 0) :
    e.mayStart [] x = (!e.enumerates && !e.hd.rebuild) := by
  unfold Dev.mayStart
  simp [hruns, hnew, hpos]

/-- A run that has started. -/
def Run.begun (x : Run) : Run := { x with started := true }

/-- A run whose access has gone out with a TAG. -/
def Run.out (x : Run) (tag : Nat) : Run := { x with sent := true, tag := tag }

theorem Run.begun_id (x : Run) : x.begun.id = x.id := rfl

theorem Run.out_id (x : Run) (tag : Nat) : (x.out tag).id = x.id := rfl

theorem Dev.startRun_member {e : Dev} (hb : x.bcast = false) (hpos : x.pos ≠ 0) (hopc : x.opc ≤ 10) :
    e.startRun x = if !(e.setRun x.begun).numbered x.pos then (e.setRun x.begun).endRun x.begun stNoSuchPos 0
      else if (e.setRun x.begun).lost x.pos then (e.setRun x.begun).endRun x.begun stUnreachable 0
      else (e.setRun x.begun).memberNext x.begun := by
  have hop : ¬ (x.opc = 0x0B ∨ x.opc = 0x0D) := by omega
  unfold Dev.startRun
  dsimp only
  rw [if_neg hop, if_neg (by simp [hb]), if_neg hpos]
  rfl

/-- The first access of a run goes to its member, unless it is a poll. -/
theorem Dev.memberNext_sent {e : Dev} {m : Member} {a : Act} {as : List Act} (ha : x.acts = a :: as)
    (hpoll : ∀ b k, a ≠ .poll b k) (hm : e.member x.pos = some m) (hl : e.lost x.pos = false) :
    e.memberNext x = (e.setRun (x.out ((m.tag + 1) % 65536))).sendCommand x.pos ((m.tag + 1) % 65536) (cmdPayload a) := by
  unfold Dev.memberNext
  rw [ha]
  split
  · exact absurd ‹_› (List.cons_ne_nil _ _)
  · rename_i b k _ heq
    exact absurd (List.cons.inj heq).1 (hpoll b k)
  · rename_i b _ _ heq
    rw [← (List.cons.inj heq).1, hm]
    dsimp only
    rw [if_neg (by simp [hl]), ← ha]
    rfl

end

/-! ## Descriptors (R403, R404) -/

section
variable {d : Dev} {r opc : Nat} {e : Desc} {acts : Dev → List Act}

theorem descDev_badOpcode (ht : d.takes r = true) (hruns : d.hif.runs = []) (hbad : badOpcode opc r e = true) :
    descDev opc r e acts d = d.completed r e stBadOpcode 0 := by
  unfold descDev
  dsimp only
  rw [if_neg (by simp [ht]), if_pos hbad]
  exact Dev.endDesc_taken hruns rfl rfl _ _

theorem descDev_badField {o : Nat} (ht : d.takes r = true) (hruns : d.hif.runs = []) (hop : badOpcode opc r e = false)
    (hbad : badField opc e = some o) : descDev opc r e acts d = d.completed r e stBadField o := by
  unfold descDev
  dsimp only
  rw [if_neg (by simp [ht]), if_neg (by simp [hop]), hbad]
  exact Dev.endDesc_taken hruns rfl rfl _ _

/-- A well-formed descriptor becomes the one run of the device. -/
theorem descDev_taken (ht : d.takes r = true) (hruns : d.hif.runs = []) (hop : badOpcode opc r e = false)
    (hfield : badField opc e = none) :
    descDev opc r e acts d = (d.runTaken r [freshRun d r opc e (acts (d.consume r))]).goOn := by
  unfold descDev
  dsimp only
  rw [if_neg (by simp [ht]), if_neg (by simp [hop]), hfield]
  exact Dev.addRun_taken hruns _

theorem badOpcode_single (hb : e.bcast = false) (hopc : opc ≤ 10) : badOpcode opc r e = false := by
  unfold badOpcode
  simp [hb, show ¬ 11 ≤ opc by omega]

end

section
variable {d : Dev} {r opc : Nat} {e : Desc} {acts : List Act}

theorem freshRun_pos (hb : e.bcast = false) : (freshRun d r opc e acts).pos = e.pos % 64 := by
  simp [freshRun, mkRun, hb]

/-- The run of a descriptor for a position waits while the head enumerates or rebuilds its ring (R358, log 54). -/
theorem Dev.goOn_taken_waits (hb : e.bcast = false) (hpos : e.pos % 64 ≠ 0)
    (hw : d.enumerates = true ∨ d.hd.rebuild = true) :
    (d.runTaken r [freshRun d r opc e acts]).goOn = d.runTaken r [freshRun d r opc e acts] := by
  have hmay := Dev.mayStart_alone (e := d.runTaken r [freshRun d r opc e acts]) rfl rfl
    ((freshRun_pos (d := d) (r := r) (opc := opc) (acts := acts) hb).trans_ne hpos)
  have hno : (!d.enumerates && !d.hd.rebuild) = false := by rcases hw with h | h <;> simp [h]
  rw [Dev.goOn_one rfl, hmay]
  exact if_neg (by rw [show (!(d.runTaken r [freshRun d r opc e acts]).enumerates
    && !(d.runTaken r [freshRun d r opc e acts]).hd.rebuild) = (!d.enumerates && !d.hd.rebuild) from rfl, hno]; decide)

/-- The run of a descriptor for a position that starts: whether the position is in the ring, and whether it is lost. -/
theorem Dev.goOn_taken_starts (hb : e.bcast = false) (hpos : e.pos % 64 ≠ 0) (hopc : opc ≤ 10) (henum : d.enumerates = false)
    (hrebuild : d.hd.rebuild = false) :
    (d.runTaken r [freshRun d r opc e acts]).goOn = if !d.numbered (e.pos % 64) then d.completed r e stNoSuchPos 0
      else if d.lost (e.pos % 64) then d.completed r e stUnreachable 0
      else (d.runTaken r [(freshRun d r opc e acts).begun]).memberNext (freshRun d r opc e acts).begun := by
  have hp := freshRun_pos (d := d) (r := r) (opc := opc) (acts := acts) hb
  have hmay : (d.runTaken r [freshRun d r opc e acts]).mayStart [] (freshRun d r opc e acts) = true := by
    rw [Dev.mayStart_alone rfl rfl (hp.trans_ne hpos)]
    exact (congrArg₂ (fun a b => !a && !b) henum hrebuild).trans rfl
  rw [Dev.goOn_one rfl, if_pos hmay, Dev.startRun_member hb (hp.trans_ne hpos) hopc, Dev.setRun_taken (Run.begun_id _),
    Dev.endRun_taken rfl, Dev.endRun_taken rfl, hp]
  rfl

theorem Dev.lost_numbered {m : Member} {pos : Nat} (hm : d.member pos = some m) : d.numbered pos = true := by
  unfold Dev.numbered
  rw [hm]
  rfl

/-- A descriptor for a present member sends its first access with the next TAG (R349). -/
theorem Dev.goOn_taken_issued {m : Member} {a : Act} {as : List Act} (hb : e.bcast = false) (hpos : e.pos % 64 ≠ 0)
    (hopc : opc ≤ 10) (henum : d.enumerates = false) (hrebuild : d.hd.rebuild = false)
    (hm : d.member (e.pos % 64) = some m) (hl : d.lost (e.pos % 64) = false) (ha : acts = a :: as)
    (hpoll : ∀ b k, a ≠ .poll b k) :
    (d.runTaken r [freshRun d r opc e acts]).goOn = d.issued r opc e acts a m := by
  have hp := freshRun_pos (d := d) (r := r) (opc := opc) (acts := acts) hb
  rw [Dev.goOn_taken_starts hb hpos hopc henum hrebuild, Dev.lost_numbered hm, hl]
  refine Eq.trans (if_neg (by decide)) ((if_neg (by decide)).trans ?_)
  refine (Dev.memberNext_sent (x := (freshRun d r opc e acts).begun)
    (e := d.runTaken r [(freshRun d r opc e acts).begun]) (m := m) (a := a) (as := as) ha hpoll ((congrArg d.member hp).trans hm)
    ((congrArg d.lost hp).trans hl)).trans ?_
  rw [Dev.setRun_taken (Run.out_id _ _)]
  exact congrArg (fun pos => (d.runTaken r [(freshRun d r opc e acts).begun.out ((m.tag + 1) % 65536)]).sendCommand pos
    ((m.tag + 1) % 65536) (cmdPayload a)) hp

end

/-- Settles O39: a descriptor ends at once where it is malformed, and at its start where its position is not there. -/
theorem descriptorErrorsComplete : Obligations.DescriptorErrorsComplete := by
  intro d q r e hs _ ht hruns henum hrebuild
  have hdone (st data : Nat) {f : Dev → Dev} (hf : f d = d.completed r e st data) :
      (⟨d, q⟩ : State).lift f = .next ⟨d.completed r e st data, q⟩ := State.lift_grow q hs hf (Dev.Grow.completed ..)
  have hidle : d.enumerates = false := by
    unfold Dev.enumerates
    rw [henum]
  have hother (opc : Nat) (hopc : 11 ≤ opc) (hr : r ≠ 0) : badOpcode opc r e = true := by
    unfold badOpcode
    simp [hopc, hr]
  have hfield (h1 : e.rsvd1 = false) (h4 : e.rsvd4 = false) (hlo : 1 ≤ e.count) (hhi : e.count ≤ 32) :
      badField 1 e = none := by
    unfold badField
    rw [if_neg (by simp [h1]), if_neg (by simp [h4]), if_neg (by omega), if_neg (by simp), if_neg (by simp)]
  have hstarts (hb : e.bcast = false) (h1 : e.rsvd1 = false) (h4 : e.rsvd4 = false) (hlo : 1 ≤ e.count) (hhi : e.count ≤ 32)
      (hpos : e.pos % 64 ≠ 0) := (descDev_taken (acts := actsRd e) ht hruns (badOpcode_single hb (by decide))
        (hfield h1 h4 hlo hhi)).trans (Dev.goOn_taken_starts hb hpos (by decide) hidle hrebuild)
  refine ⟨fun hb => hdone 5 0 ?_, fun hb h1 => hdone 6 1 ?_, fun hb h1 h4 hn => hdone 6 5 ?_,
    fun hb h1 h4 hlo hhi hpos hm => hdone 3 0 ?_, fun hb h1 h4 hlo hhi hpos hm hl => hdone 4 0 ?_, fun hr => hdone 5 0 ?_,
    fun hr => hdone 5 0 ?_, fun hr => hdone 5 0 ?_⟩
  · refine descDev_badOpcode ht hruns ?_
    unfold badOpcode
    rw [hb]
    rfl
  · refine descDev_badField ht hruns (badOpcode_single hb (by decide)) ?_
    unfold badField
    rw [if_pos h1]
  · refine descDev_badField ht hruns (badOpcode_single hb (by decide)) ?_
    unfold badField
    rw [if_neg (by simp [h1]), if_neg (by simp [h4]), if_pos ⟨Or.inl rfl, hn⟩]
  · refine (hstarts hb h1 h4 hlo hhi hpos).trans (if_pos ?_)
    unfold Dev.numbered
    rw [hm]
    rfl
  · refine (hstarts hb h1 h4 hlo hhi hpos).trans ((if_neg ?_).trans (if_pos hl))
    unfold Dev.numbered
    rw [hm]
    decide
  · unfold bindDev
    dsimp only
    rw [if_neg (by simp [ht]), if_pos (hother _ (by decide) hr)]
    exact Dev.endDesc_taken hruns rfl rfl _ _
  · unfold unbindDev
    dsimp only
    rw [if_neg (by simp [ht]), if_pos (hother _ (by decide) hr)]
    exact Dev.endDesc_taken hruns rfl rfl _ _
  · unfold enumDescDev
    dsimp only
    rw [if_neg (by simp [ht]), if_pos (hother _ (by decide) hr)]
    exact Dev.endDesc_taken hruns rfl rfl _ _

/-! ## Descriptors for members (R349, R403) -/

/-- The fields of a descriptor that every operation checks, and the ranges that its own checks (Table 15-8). -/
theorem badField_none {opc : Nat} {e : Desc} (h1 : e.rsvd1 = false) (h4 : e.rsvd4 = false)
    (hcount : opc = 1 ∨ opc = 2 ∨ opc = 3 → 1 ≤ e.count ∧ e.count ≤ 32) (hlen : opc = 4 → 1 ≤ e.len ∧ e.len ≤ 65535)
    (haddr : opc = 10 → e.addr = 0x400000 ∨ e.addr = 0x500000) : badField opc e = none := by
  unfold badField
  rw [if_neg (by simp [h1]), if_neg (by simp [h4]), if_neg (by omega), if_neg (by omega), if_neg (by omega)]

section
variable {d : Dev} (q : List Instr) {r opc : Nat} {e : Desc} {m : Member} {acts : Dev → List Act}

/-- A descriptor for a present member sends its first access. -/
theorem State.lift_issued {a : Act} (hs : d.settled) (ht : d.takes r = true) (hruns : d.hif.runs = [])
    (hb : e.bcast = false) (hpos : e.pos % 64 ≠ 0) (henum : d.enumerates = false) (hrebuild : d.hd.rebuild = false)
    (hm : d.member (e.pos % 64) = some m) (hl : d.lost (e.pos % 64) = false) (hopc : opc ≤ 10) (hfield : badField opc e = none)
    (hsame : acts (d.consume r) = acts d) (ha : (acts d).head? = some a) (hpoll : ∀ b k, a ≠ .poll b k) :
    (⟨d, q⟩ : State).lift (descDev opc r e acts) = .next ⟨d.issued r opc e (acts d) a m, q⟩ := by
  obtain ⟨as, has⟩ := List.head?_eq_some_iff.mp ha
  refine State.lift_grow q hs ?_ (Dev.Grow.issued ..)
  rw [descDev_taken ht hruns (badOpcode_single hb hopc) hfield, hsame]
  exact Dev.goOn_taken_issued hb hpos hopc henum hrebuild hm hl has hpoll

/-- NOP has no access: it completes at its start. -/
theorem exec_nop (hs : d.settled) (ht : d.takes r = true) (hruns : d.hif.runs = []) (h1 : e.rsvd1 = false)
    (h4 : e.rsvd4 = false) (hb : e.bcast = false) (hpos : e.pos % 64 ≠ 0) (henum : d.enumerates = false)
    (hrebuild : d.hd.rebuild = false) (hm : d.member (e.pos % 64) = some m) (hl : d.lost (e.pos % 64) = false) :
    exec (.nop r e) ⟨d, q⟩ = .next ⟨d.completed r e 0 0, q⟩ := by
  refine State.lift_grow q hs ?_ (Dev.Grow.completed ..)
  rw [descDev_taken ht hruns (badOpcode_single hb (by decide)) (badField_none h1 h4 (by omega) (by omega) (by omega)),
    Dev.goOn_taken_starts hb hpos (by decide) henum hrebuild, Dev.lost_numbered hm, hl]
  exact (if_neg (by decide)).trans ((if_neg (by decide)).trans (Dev.endRun_taken rfl _ _))

end

theorem rdmChunks_one {m a n : Nat} (k : Nat) (h0 : n ≠ 0) (hm : n ≤ m) : rdmChunks m (k + 1) a n = [.rdm a n] := by
  unfold rdmChunks
  rw [if_neg h0, if_pos hm]

/-- Settles O38: the run of the descriptor is the only one, so it waits for the ring or starts at once. -/
theorem descriptorsToMembersComplete : Obligations.DescriptorsToMembersComplete := by
  intro d q r e m hs _ ht hruns h1 h4 hb hpos
  have hfield {opc : Nat} := badField_none (opc := opc) h1 h4
  refine ⟨fun hw hlo hhi => State.lift_grow q hs ?_ (Dev.Grow.runTaken ..), fun henum hrebuild hm hl => ?_⟩
  · exact (descDev_taken ht hruns (badOpcode_single hb (by decide)) (hfield (fun _ => ⟨hlo, hhi⟩) (by omega) (by omega))).trans
      (Dev.goOn_taken_waits hb hpos hw)
  have hplain {opc : Nat} (h : 5 ≤ opc ∧ opc ≤ 9) : badField opc e = none :=
    hfield (by omega) (by omega) (by omega)
  have hidle : d.enumerates = false := by
    unfold Dev.enumerates
    rw [henum]
  have hissued {opc : Nat} {acts : Dev → List Act} {a : Act} :=
    State.lift_issued (opc := opc) (acts := acts) (a := a) q hs ht hruns hb hpos hidle hrebuild hm hl
  refine ⟨exec_nop q hs ht hruns h1 h4 hb hpos hidle hrebuild hm hl, fun hlo hhi => ⟨?_, fun hone => ?_, fun hmany => ?_,
    fun hfits => ?_⟩, fun hlo hhi => ?_, fun hwait => ?_, fun hwait => ?_, ?_, ?_, ?_, fun hwait => ?_, fun haddr => ?_⟩
  · exact hissued (by decide) (hfield (fun _ => ⟨hlo, hhi⟩) (by omega) (by omega)) rfl rfl (fun _ _ => nofun)
  · exact hissued (by decide) (hfield (fun _ => ⟨hlo, hhi⟩) (by omega) (by omega)) rfl (by simp [actsWr, hone])
      (fun _ _ => nofun)
  · exact hissued (by decide) (hfield (fun _ => ⟨hlo, hhi⟩) (by omega) (by omega)) rfl
      (by simp [actsWr, show e.count ≠ 1 by omega]) (fun _ _ => nofun)
  · exact hissued (by decide) (hfield (fun _ => ⟨hlo, hhi⟩) (by omega) (by omega)) rfl
      (by simp [actsWrl, wrlChunks, bufPairs, hfits]) (fun _ _ => nofun)
  · refine hissued (by decide) (hfield (by omega) (fun _ => by omega) (by omega)) rfl ?_ (fun _ _ => nofun)
    refine congrArg List.head? (rdmChunks_one _ (by omega) ?_)
    split <;> omega
  · exact hissued (by decide) (hplain (by decide)) rfl (by simp [actsCommit, hb, hwait]) (fun _ _ => nofun)
  · exact hissued (by decide) (hplain (by decide)) rfl (by simp [actsCommit, hb, hwait]) (fun _ _ => nofun)
  · exact hissued (by decide) (hplain (by decide)) rfl rfl (fun _ _ => nofun)
  · exact hissued (by decide) (hplain (by decide)) rfl (by simp [actsBudget, hb]) (fun _ _ => nofun)
  · exact hissued (by decide) (hplain (by decide)) rfl rfl (fun _ _ => nofun)
  · exact hissued (by decide) (hplain (by decide)) rfl (by simp [actsSweep, hwait]) (fun _ _ => nofun)
  · exact hissued (by decide) (hfield (by omega) (by omega) fun _ => haddr) rfl rfl (fun _ _ => nofun)

end Sys2Proof.Machine
end

section
/-!
SUPPORT. A Beadline read of a position that no line has (16).
-/

namespace Sys2Proof.Machine

/-- A device whose first line repeats the read of position 4033, where lines have 32: its result lies at 0x24000, which is
IMP_CTRL. -/
def strayReader : Dev :=
  let d := Dev.anew .F .member
  { d with bdl := { d.bdl with l0 := { d.bdl.l0 with act := .reads [(4033, false)], again := true } } }

theorem strayReader_settled : strayReader.settled ∧ strayReader.word 0x24000 = 0 := by
  and_intros <;> decide +kernel

/-- What a register holds after a command. -/
def wordAfter (a : Nat) (o : Host.Outcome State Fault Refusal) : Word :=
  match o with
  | .next s => s.dev.word a
  | _ => 0

/-- The read that has no reply marks its result: bit 30 is set, and a first error is counted. -/
theorem strayReader_frameEnd : wordAfter 0x24000 (exec (.bdlFrameEnd 0 ⟨false, false, []⟩) ⟨strayReader, []⟩) = 0x41000000#32 := by
  decide +kernel

/-- Refutes O57: a register outside the block of Beadline changes where a line reads a position beyond its 32. -/
theorem not_beadlineKeepsTheRest : ¬ Obligations.BeadlineKeepsTheRest := by
  rintro ⟨-, -, -, hrest⟩
  obtain ⟨hs, hzero⟩ := strayReader_settled
  obtain ⟨-, hframe, -⟩ := hrest strayReader 0 hs
  obtain ⟨t, ht, -, hkeeps⟩ := hframe ⟨false, false, []⟩ []
  have hword := strayReader_frameEnd
  rw [ht] at hword
  have hkept : t.dev.word 0x24000 = 0 := (hkeeps.word 0x24000 (by decide) (by decide)).trans hzero
  exact absurd (hword.symm.trans hkept) (by decide)

end Sys2Proof.Machine
end

section
/-!
SUPPORT. Commands that stay within registers of their own: what they write lies among these registers, and what else differs
is what an event and the budget rule account for.
-/

namespace Sys2Proof.Machine

/-- The second device is the first after work within the registers of `own`, events and evaluations of the budget rule; it asks
for nothing new. -/
structure Dev.Within (own : Nat → Bool) (d e : Dev) : Prop where
  keeps : Dev.Keeps own d e
  asks  : e.asks = d.asks

namespace Dev.Within

variable {own : Nat → Bool} {d e f : Dev}

theorem refl (d : Dev) : Dev.Within own d d := ⟨⟨rfl, rfl, fun _ _ _ => rfl, rfl, rfl, rfl, rfl, rfl, rfl⟩, rfl⟩

theorem moved (h : Dev.Within own d e) (hm : Dev.Moved e f) : Dev.Within own d f where
  keeps :=
    { build := hm.keeps.build.trans h.keeps.build
      role := hm.keeps.role.trans h.keeps.role
      word := fun a ho hs => (hm.keeps.word a rfl hs).trans (h.keeps.word a ho hs)
      staged := hm.keeps.staged.trans h.keeps.staged
      nvm := hm.keeps.nvm.trans h.keeps.nvm
      fuses := hm.keeps.fuses.trans h.keeps.fuses
      slots := hm.keeps.slots.trans h.keeps.slots
      mtick := hm.keeps.mtick.trans h.keeps.mtick
      read := hm.keeps.read.trans h.keeps.read }
  asks := (by rw [hm.rest] : f.asks = e.asks).trans h.asks

theorem setWord (h : Dev.Within own d e) {a : Nat} (ha : own a = true) (v : Word) : Dev.Within own d (e.setWord a v) where
  keeps :=
    { h.keeps with
      word := fun b ho hs => by
        rw [Dev.word_setWord, if_neg fun hb => absurd (hb ▸ ho) (by simp [ha])]
        exact h.keeps.word b ho hs }
  asks := h.asks

theorem put (h : Dev.Within own d e) {f : Fld} (hf : own f.addr = true) (v : Nat) : Dev.Within own d (e.put f v) :=
  h.setWord hf _

theorem putB (h : Dev.Within own d e) {f : Fld} (hf : own f.addr = true) (v : Bool) : Dev.Within own d (e.putB f v) :=
  h.put hf _

theorem countSat (h : Dev.Within own d e) {f : Fld} (hf : own f.addr = true) (n : Nat) : Dev.Within own d (e.countSat f n) :=
  h.put hf _

theorem countMod (h : Dev.Within own d e) {f : Fld} (hf : own f.addr = true) (n : Nat) : Dev.Within own d (e.countMod f n) :=
  h.put hf _

theorem raise (h : Dev.Within own d e) (code src : Nat) (items : List Nat) : Dev.Within own d (e.raise code src items) :=
  h.moved (Dev.Sent.raise ..).moved

theorem emit (h : Dev.Within own d e) (o : Output) : Dev.Within own d (e.emit o) := h.moved (Dev.Sent.emit ..).moved

theorem budgetEval (h : Dev.Within own d e) (trig : Nat) : Dev.Within own d (e.budgetEval trig) :=
  h.moved (Dev.Moved.budgetEval ..)

theorem commandDone (h : Dev.Within own d e) : Dev.Within own d e.commandDone := h.moved (Dev.Moved.commandDone e)

theorem ite {c : Prop} [Decidable c] (h : Dev.Within own d e) (g : Dev.Within own d f) :
    Dev.Within own d (if c then e else f) := by
  split <;> assumption

theorem each {α : Type} (h : Dev.Within own d e) (xs : List α) {step : Dev → α → Dev}
    (hstep : ∀ x ∈ xs, ∀ c, Dev.Within own d c → Dev.Within own d (step c x)) : Dev.Within own d (e.each xs step) :=
  List.foldlRecOn (motive := Dev.Within own d) xs step h fun c hc x hx => hstep x hx c hc

/-! Parts of the device that no register shows. -/

theorem withIic (h : Dev.Within own d e) (x : IicSt) : Dev.Within own d { e with iic := x } := ⟨{ h.keeps with }, h.asks⟩
theorem withTb (h : Dev.Within own d e) (x : TbSt) : Dev.Within own d { e with tb := x } := ⟨{ h.keeps with }, h.asks⟩
theorem withPw (h : Dev.Within own d e) (x : PowerSt) : Dev.Within own d { e with pw := x } := ⟨{ h.keeps with }, h.asks⟩
theorem withLcs (h : Dev.Within own d e) (x : LcsSt) : Dev.Within own d { e with lcs := x } := ⟨{ h.keeps with }, h.asks⟩
theorem withFw (h : Dev.Within own d e) (x : FwSt) : Dev.Within own d { e with fw := x } := ⟨{ h.keeps with }, h.asks⟩
theorem withLeg (h : Dev.Within own d e) (x : LegSt) : Dev.Within own d { e with leg := x } := ⟨{ h.keeps with }, h.asks⟩
theorem withDraws (h : Dev.Within own d e) (x : Nat) : Dev.Within own d { e with draws := x } := ⟨{ h.keeps with }, h.asks⟩

end Dev.Within

section
variable {own : Nat → Bool} {d : Dev} (q : List Instr) {f : Dev → Dev}

/-- A command that stays within its own registers completes with its effect. -/
theorem State.lift_within (hs : d.settled) (h : Dev.Within own d (f d)) : (⟨d, q⟩ : State).lift f = .next ⟨f d, q⟩ :=
  State.lift_runs d q f _ rfl (h.asks.trans hs) h.keeps.build h.keeps.role h.keeps.fuses

theorem State.lift_takes_within {g : Fld} (hacc : d.accepts g) (h : Dev.Within own d (f d)) :
    (⟨d, q⟩ : State).lift (Dev.actWrite g f) = .next ⟨(f d).commandDone, q⟩ :=
  State.lift_takes d q g f _ hacc rfl (h.asks.trans hacc.1.1) h.keeps.build h.keeps.role h.keeps.fuses

/-- Such a command keeps the rest. -/
theorem Dev.Within.completes (hs : d.settled) (h : Dev.Within own d (f d)) :
    ∃ t, (⟨d, q⟩ : State).lift f = .next t ∧ t.pending = q ∧ Dev.Keeps own d t.dev :=
  ⟨_, State.lift_within q hs h, rfl, h.keeps⟩

theorem Dev.Within.takes {g : Fld} (hacc : d.accepts g) (h : Dev.Within own d (f d)) :
    ∃ t, (⟨d, q⟩ : State).lift (Dev.actWrite g f) = .next t ∧ t.pending = q ∧ Dev.Keeps own d t.dev :=
  ⟨_, State.lift_takes_within q hacc h, rfl, h.commandDone.keeps⟩

end

/-! ## The I²C port (17) -/

theorem wordsOf_length (n : Nat) (bs : List Byte) : (wordsOf n bs).length = n := by
  induction n generalizing bs with
  | zero => rfl
  | succ n ih => exact congrArg (· + 1) (ih _)

/-- The registers of the I²C port and of the CRC contexts. -/
def iicReg (a : Nat) : Bool := decide (0x1C000 ≤ a ∧ a < 0x1D000) || decide (0x18000 ≤ a ∧ a < 0x18080)

namespace Dev.Within

section
variable {d e : Dev}

theorem feedTap {own : Nat → Bool} (h : Dev.Within own d e)
    (hown : ∀ c < 4, own (CRC_VAL c).addr = true ∧ own (CRC_CNT c).addr = true) (tap : Nat) (bs : List Byte) :
    Dev.Within own d (e.crcTap tap bs) := by
  refine h.each _ fun c hc g hg => ite ?_ hg
  obtain ⟨hval, hcnt⟩ := hown c (List.mem_range.mp hc)
  exact (hg.setWord hval _).countMod hcnt _

theorem crcTap (h : Dev.Within iicReg d e) (tap : Nat) (bs : List Byte) : Dev.Within iicReg d (e.crcTap tap bs) :=
  h.feedTap (by decide) tap bs

theorem putBytes {own : Nat → Bool} (h : Dev.Within own d e) {f : Nat → Fld} (hf : ∀ i < 16, own (f i).addr = true)
    (bs : List Byte) : Dev.Within own d (e.putBytes f bs) := by
  unfold Dev.putBytes
  refine h.each _ fun x hx g hg => hg.setWord (hf _ ?_) _
  exact (List.snd_lt_of_mem_zipIdx hx).trans_eq (wordsOf_length ..)

theorem busClear (h : Dev.Within iicReg d e) (o : IicBusObs) : Dev.Within iicReg d (e.busClear o) := by
  unfold Dev.busClear
  refine ite h (ite ?_ (ite (h.emit _) ?_))
  · exact (((h.emit _).put (by decide) _).put (by decide) _).raise ..
  · exact ((h.emit _).put (by decide) _).raise ..

theorem iicClrstkDev (h : Dev.Within iicReg d e) (o : IicBusObs) : Dev.Within iicReg d (Machine.iicClrstkDev o e) :=
  ((h.put (by decide) _).put (by decide) _).busClear o

theorem iicCenWriteDev (h : Dev.Within iicReg d e) (o : IicBusObs) : Dev.Within iicReg d (Machine.iicCenWriteDev o e) :=
  have hcen : Dev.Within iicReg d { e.put IIC_CFG_CEN 1 with
      iic := { e.iic with cenDue := false, fresh := e.iic.fresh || !e.bit IIC_CFG_CEN } } :=
    (h.put (by decide) _).withIic _
  ite (hcen.busClear o) hcen

theorem iicBegin (h : Dev.Within iicReg d e) (x : IicXfer) : Dev.Within iicReg d (e.iicBegin x) :=
  (((h.withIic _).put (by decide) _).emit _).emit _

theorem iicNext (h : Dev.Within iicReg d e) : Dev.Within iicReg d e.iicNext := by
  unfold Dev.iicNext
  split
  · exact ite (h.iicBegin _) h
  · exact h

theorem iicGoDev (h : Dev.Within iicReg d e) : Dev.Within iicReg d (Machine.iicGoDev e) := by
  unfold Machine.iicGoDev
  refine ite h (ite (h.put (by decide) _) (ite (h.put (by decide) _) ?_))
  exact ((h.withIic _).put (by decide) _).iicNext

theorem iicDone (h : Dev.Within iicReg d e) (st n : Nat) : Dev.Within iicReg d (e.iicDone st n) :=
  (((((h.withIic _).put (by decide) _).put (by decide) _).put (by decide) _).put (by decide) _).put (by decide) _

theorem iicBusIdleDev (h : Dev.Within iicReg d e) : Dev.Within iicReg d (Machine.iicBusIdleDev e) :=
  ite ((h.withIic _).put (by decide) _).iicNext h

theorem putXbuf (h : Dev.Within iicReg d e) (bs : List Byte) : Dev.Within iicReg d (e.putBytes IIC_XBUF bs) :=
  h.putBytes (by decide) bs

theorem iicTransferEndDev (h : Dev.Within iicReg d e) (o : IicEnd) :
    Dev.Within iicReg d (Machine.iicTransferEndDev o e) := by
  unfold Machine.iicTransferEndDev
  split
  · exact h
  · extract_lets wr
    split
    · extract_lets got ended
      have hended : Dev.Within iicReg d ended := (h.crcTap ..).iicDone ..
      exact ite hended (hended.putXbuf _)
    · exact h.iicDone ..
    · exact (h.crcTap ..).iicDone ..

theorem arbitrationLostDev (h : Dev.Within iicReg d e) (b : Nat) (read : List Byte) (a : IicAddressed) :
    Dev.Within iicReg d (Machine.arbitrationLostDev b read a e) := by
  unfold Machine.arbitrationLostDev
  split
  · exact h
  · extract_lets counted sent tapped asTarget _ lost
    have hlost : Dev.Within iicReg d lost :=
      (((h.put (by decide) _).countSat (by decide) _).crcTap ..).withIic _
    exact ite (hlost.put (by decide) _) hlost

theorem iicRetryDev (h : Dev.Within iicReg d e) : Dev.Within iicReg d (Machine.iicRetryDev e) := by
  unfold Machine.iicRetryDev
  split
  · exact h
  · refine ite h (ite ((h.withIic _).iicBegin _) ?_)
    exact ((h.withIic _).iicDone ..).raise ..

theorem iicStretchTimeoutDev (h : Dev.Within iicReg d e) (acked : Nat) (read : List Byte) (o : IicBusObs) :
    Dev.Within iicReg d (Machine.iicStretchTimeoutDev acked read o e) := by
  unfold Machine.iicStretchTimeoutDev
  split
  · exact h
  · extract_lets n tapped kept
    have htapped : Dev.Within iicReg d tapped := h.crcTap ..
    have hkept : Dev.Within iicReg d kept := ite htapped (htapped.putXbuf _)
    exact ((hkept.iicDone ..).raise ..).busClear o

theorem iicReleased (h : Dev.Within iicReg d e) : Dev.Within iicReg d e.iicReleased := h.withIic _

theorem iicTargetRxDev (h : Dev.Within iicReg d e) (bytes : List Byte) :
    Dev.Within iicReg d (Machine.iicTargetRxDev bytes e) := by
  unfold Machine.iicTargetRxDev
  refine ite h ?_
  exact ((((h.putBytes (by decide) _).iicReleased).put (by decide) _).put (by decide) _).raise ..

theorem iicTargetReadDev (h : Dev.Within iicReg d e) (n : Nat) : Dev.Within iicReg d (Machine.iicTargetReadDev n e) :=
  ite h (((h.emit _).put (by decide) _).iicReleased)

theorem timeOfDayDev {own : Nat → Bool} (h : Dev.Within own d e) (bytes : List Byte) (ms : Nat) :
    Dev.Within own d (Machine.timeOfDayDev bytes ms e) :=
  ite h (ite (h.withTb _) (h.raise ..))

theorem iicTodaWriteDev (h : Dev.Within iicReg d e) (bytes : List Byte) (ms : Nat) :
    Dev.Within iicReg d (Machine.iicTodaWriteDev bytes ms e) :=
  ite h (ite (h.iicReleased.timeOfDayDev bytes ms) (h.iicReleased.raise ..))

theorem iicTargetTimeoutDev (h : Dev.Within iicReg d e) (a : Nat) : Dev.Within iicReg d (Machine.iicTargetTimeoutDev a e) :=
  ite h ((h.iicReleased.countSat (by decide) _).raise ..)

theorem iicStop (h : Dev.Within iicReg d e) : Dev.Within iicReg d e.iicStop :=
  ((h.withIic _).put (by decide) _).put (by decide) _

theorem iicMoveDue {own : Nat → Bool} (h : Dev.Within own d e) : Dev.Within own d e.iicMoveDue := by
  unfold Dev.iicMoveDue
  split
  · exact ite h ((h.withPw _).budgetEval _)
  · exact h

end

end Dev.Within

/-- A move below MONITOR that has waited for the port stops it, and goes on. -/
theorem exec_iicMoveWaitTto_keeps {d : Dev} (q : List Instr) (hs : d.settled) :
    ∃ t, exec .iicMoveWaitTto ⟨d, q⟩ = .next t ∧ t.pending = q ∧ Dev.Keeps iicReg d t.dev := by
  refine Dev.Within.completes q hs ?_
  dsimp only
  split
  · exact ((Dev.Within.refl d).iicStop.withPw _).budgetEval _
  · exact Dev.Within.refl d

/-- Settles O56: each command writes registers of the port and of the CRC contexts, raises events, and lets a move that waited
go on by the budget rule. -/
theorem iicPortKeepsTheRest : Obligations.IicPortKeepsTheRest := by
  refine ⟨fun d hacc q => Dev.Within.takes q hacc (Dev.Within.refl d).iicGoDev.iicMoveDue,
    fun d o hacc q => Dev.Within.takes q hacc ((Dev.Within.refl d).iicClrstkDev o).iicMoveDue,
    fun d o hacc q => Dev.Within.takes q hacc ((Dev.Within.refl d).iicCenWriteDev o).iicMoveDue, fun d hs => ?_⟩
  have hd : Dev.Within iicReg d d := Dev.Within.refl d
  exact ⟨fun q => Dev.Within.completes q hs hd.iicBusIdleDev.iicMoveDue,
    fun e q => Dev.Within.completes q hs (hd.iicTransferEndDev e).iicMoveDue,
    fun b read a q => Dev.Within.completes q hs (hd.arbitrationLostDev b read a).iicMoveDue,
    fun q => Dev.Within.completes q hs hd.iicRetryDev.iicMoveDue,
    fun n read o q => Dev.Within.completes q hs (hd.iicStretchTimeoutDev n read o).iicMoveDue,
    fun bytes q => Dev.Within.completes q hs (hd.iicTargetRxDev bytes).iicMoveDue,
    fun n q => Dev.Within.completes q hs (hd.iicTargetReadDev n).iicMoveDue,
    fun bytes ms q => Dev.Within.completes q hs (hd.iicTodaWriteDev bytes ms).iicMoveDue,
    fun a q => Dev.Within.completes q hs (hd.iicTargetTimeoutDev a).iicMoveDue,
    fun q => exec_iicMoveWaitTto_keeps q hs⟩

end Sys2Proof.Machine
end

section
/-!
SUPPORT. The commands of the life-cycle, of firmware update and of the legacy bridge (19, 20): they write registers of LCS and FW.
-/

namespace Sys2Proof.Machine

/-- The registers of LCS and FW. -/
def lifeReg (a : Nat) : Bool := decide (0x2C000 ≤ a ∧ a < 0x2D000) || decide (0x34000 ≤ a ∧ a < 0x36000)

namespace Dev.Within

section
variable {d e : Dev}

theorem closeAuth (h : Dev.Within lifeReg d e) : Dev.Within lifeReg d e.closeAuth := (h.withLcs _).put (by decide) _

theorem lcsRefuse (h : Dev.Within lifeReg d e) (result : Nat) : Dev.Within lifeReg d (e.lcsRefuse result) :=
  (h.put (by decide) _).raise ..

theorem startBurn (h : Dev.Within lifeReg d e) (target : Nat) : Dev.Within lifeReg d (e.startBurn target) :=
  (h.withLcs _).put (by decide) _

/-- The nonce of an authentication window is shown. -/
theorem challenge (h : Dev.Within lifeReg d e) (nonce : Nat → Nat) :
    Dev.Within lifeReg d (e.each (List.range 4) fun d i => d.put (LCS_CHAL i) (nonce i)) :=
  h.each _ fun i hi _ hc => hc.put ((by decide : ∀ i ∈ List.range 4, lifeReg (LCS_CHAL i).addr = true) i hi) _

theorem lcsReqDev (h : Dev.Within lifeReg d e) (target : Nat) : Dev.Within lifeReg d (Machine.lcsReqDev target e) := by
  unfold Machine.lcsReqDev
  refine ite h (ite (h.closeAuth.lcsRefuse _) (ite ?_ (h.closeAuth.startBurn _)))
  exact (((h.closeAuth.withDraws _).challenge _).withLcs _).put (by decide) _

theorem lcsRespDev (h : Dev.Within lifeReg d e) (v : Word) (ok : Bool) : Dev.Within lifeReg d (Machine.lcsRespDev v ok e) := by
  unfold Machine.lcsRespDev
  refine ite h ?_
  have hw : Dev.Within lifeReg d (e.setWord (LCS_RESP 15).addr v) := h.setWord (by decide) _
  dsimp only
  split
  · exact hw
  · exact ite (hw.closeAuth.startBurn _) (hw.closeAuth.lcsRefuse _)

theorem authTimeoutDev (h : Dev.Within lifeReg d e) : Dev.Within lifeReg d (Machine.authTimeoutDev e) :=
  ite (h.closeAuth.lcsRefuse _) h

theorem fwRefuse (h : Dev.Within lifeReg d e) : Dev.Within lifeReg d e.fwRefuse := h.put (by decide) _

theorem fwStart (h : Dev.Within lifeReg d e) (op : FwOp) (state : Nat) (inTrial : Bool) :
    Dev.Within lifeReg d (e.fwStart op state inTrial) :=
  ite h.fwRefuse (((h.withFw _).put (by decide) _).put (by decide) _)

theorem fwEraseDev (h : Dev.Within lifeReg d e) : Dev.Within lifeReg d (Machine.fwEraseDev e) := ite (h.fwStart ..) h

theorem fwProgDev (h : Dev.Within lifeReg d e) : Dev.Within lifeReg d (Machine.fwProgDev e) :=
  ite h (ite h.fwRefuse (h.fwStart ..))

theorem fwVerifyDev (h : Dev.Within lifeReg d e) : Dev.Within lifeReg d (Machine.fwVerifyDev e) := ite (h.fwStart ..) h

theorem fwVer_own (s : Nat) : lifeReg (fwVer s).addr = true := by
  unfold fwVer
  split <;> decide

theorem fwOperationDoneDev (h : Dev.Within lifeReg d e) (o : FwObs) :
    Dev.Within lifeReg d (Machine.fwOperationDoneDev o e) := by
  unfold Machine.fwOperationDoneDev
  refine ite h ?_
  extract_lets s fin
  have hfin {g : Dev} (hg : Dev.Within lifeReg d g) (state result : Nat) : Dev.Within lifeReg d (fin g state result) :=
    ((hg.withFw _).put (by decide) _).put (by decide) _
  have hver (v : Nat) : Dev.Within lifeReg d (e.put (fwVer s) v) := h.put (fwVer_own s) v
  split
  · exact h
  · exact ite (hfin (((hver 0).withFw _).put (by decide) _) _ _) (hfin (hver 0) _ _)
  · exact ite (hfin (((hver 0).withFw _).countSat (by decide) _) _ _) (hfin (hver 0) _ _)
  · refine ite ?_ ?_
    · exact (hfin ((h.withFw _).put (fwVer_own s) _) _ _).raise ..
    · exact (hfin ((h.withFw _).put (fwVer_own s) _) _ _).raise ..

theorem fwActDev (h : Dev.Within lifeReg d e) (rst : Bool) : Dev.Within lifeReg d (Machine.fwActDev rst e) := by
  have hrst : Dev.Within lifeReg d (e.putB FW_UPDCTL_RST rst) := h.putB (by decide) _
  exact ite h (ite hrst.fwRefuse ((hrst.withFw _).put (by decide) _))

theorem fwLpxcGoDev (h : Dev.Within lifeReg d e) : Dev.Within lifeReg d (Machine.fwLpxcGoDev e) :=
  ite h (ite ((h.put (by decide) _).put (by decide) _) ((h.emit _).withLeg _))

theorem lpxResult (h : Dev.Within lifeReg d e) (err cc sts data : Nat) :
    Dev.Within lifeReg d (e.lpxResult err cc sts data) :=
  ((((h.put (by decide) _).put (by decide) _).put (by decide) _).put (by decide) _).put (by decide) _

theorem legacyResponseDev (h : Dev.Within lifeReg d e) (w : BitVec 48) :
    Dev.Within lifeReg d (Machine.legacyResponseDev w e) := by
  unfold Machine.legacyResponseDev
  refine ite h ?_
  split
  · exact h
  · exact ite ((h.withLeg _).lpxResult ..) (ite ((h.withLeg _).lpxResult ..) h)

theorem lpxTimeoutDev (h : Dev.Within lifeReg d e) : Dev.Within lifeReg d (Machine.lpxTimeoutDev e) :=
  ite ((h.withLeg _).lpxResult ..) h

end

end Dev.Within

/-- Settles O58: each command writes registers of LCS and FW and raises events. -/
theorem lifecycleAndFirmwareKeepTheRest : Obligations.LifecycleAndFirmwareKeepTheRest := by
  have hd (d : Dev) : Dev.Within lifeReg d d := Dev.Within.refl d
  exact ⟨fun d target hacc q => Dev.Within.takes q hacc ((hd d).lcsReqDev target),
    fun d v ok hacc q => Dev.Within.takes q hacc ((hd d).lcsRespDev v ok),
    fun d hacc q => Dev.Within.takes q hacc (hd d).fwEraseDev,
    fun d hacc q => Dev.Within.takes q hacc (hd d).fwProgDev,
    fun d hacc q => Dev.Within.takes q hacc (hd d).fwVerifyDev,
    fun d rst hacc q => Dev.Within.takes q hacc ((hd d).fwActDev rst),
    fun d hacc q => Dev.Within.takes q hacc (hd d).fwLpxcGoDev,
    fun d hs => ⟨fun q => Dev.Within.completes q hs (hd d).authTimeoutDev,
      fun o q => Dev.Within.completes q hs ((hd d).fwOperationDoneDev o),
      fun w q => Dev.Within.completes q hs ((hd d).legacyResponseDev w),
      fun q => Dev.Within.completes q hs (hd d).lpxTimeoutDev⟩⟩

end Sys2Proof.Machine
end

section
/-!
SUPPORT. The I²C controller (17, R454 to R459, R464): what its commands leave while no move waits for the port.
-/

namespace Sys2Proof.Machine

/-! ## A port for which no move waits -/

section
variable {d e : Dev} (q : List Instr) {f : Dev → Dev} {g : Fld}

theorem Dev.iicMoveDue_none (h : e.pw.iicWait = none) : e.iicMoveDue = e := by
  unfold Dev.iicMoveDue
  rw [h]

theorem State.lift_port (hs : d.settled) (hw : d.pw.iicWait = none) (hpw : (f d).pw = d.pw) (h : Dev.Within iicReg d (f d)) :
    (⟨d, q⟩ : State).lift (fun d => (f d).iicMoveDue) = .next ⟨f d, q⟩ := by
  have hdue : (f d).iicMoveDue = f d := Dev.iicMoveDue_none (by rw [hpw, hw])
  exact (State.lift_within (f := fun d => (f d).iicMoveDue) q hs h.iicMoveDue).trans (by rw [hdue])

theorem State.lift_takes_port (hacc : d.accepts g) (hw : d.pw.iicWait = none) (hpw : (f d).pw = d.pw)
    (h : Dev.Within iicReg d (f d)) :
    (⟨d, q⟩ : State).lift (Dev.actWrite g fun d => (f d).iicMoveDue) = .next ⟨(f d).commandDone, q⟩ := by
  have hdue : (f d).iicMoveDue = f d := Dev.iicMoveDue_none (by rw [hpw, hw])
  exact (State.lift_takes_within (f := fun d => (f d).iicMoveDue) q hacc h.iicMoveDue).trans (by rw [hdue])

end

/-! ## What the steps of a transfer show -/

section
variable {d : Dev}

theorem Dev.get_withIic (e : Dev) (x : IicSt) (f : Fld) : ({ e with iic := x } : Dev).get f = e.get f := rfl

/-- Two devices that an event sees alike and whose ports do the same. -/
structure Dev.SamePort (d e : Dev) : Prop where
  pw   : e.pw = d.pw
  iic  : e.iic = d.iic
  spn  : e.spn = d.spn
  role : e.role = d.role
  saf  : e.saf = d.saf

namespace Dev.SamePort

variable {e f : Dev}

theorem refl (d : Dev) : Dev.SamePort d d := ⟨rfl, rfl, rfl, rfl, rfl⟩

theorem trans (h : Dev.SamePort d e) (g : Dev.SamePort e f) : Dev.SamePort d f :=
  ⟨g.pw.trans h.pw, g.iic.trans h.iic, g.spn.trans h.spn, g.role.trans h.role, g.saf.trans h.saf⟩

theorem ite {c : Prop} [Decidable c] (h : Dev.SamePort d e) (g : Dev.SamePort d f) :
    Dev.SamePort d (if c then e else f) := by
  split <;> assumption

theorem put (d : Dev) (g : Fld) (v : Nat) : Dev.SamePort d (d.put g v) := ⟨rfl, rfl, rfl, rfl, rfl⟩

theorem setWord (d : Dev) (a : Nat) (v : Word) : Dev.SamePort d (d.setWord a v) := ⟨rfl, rfl, rfl, rfl, rfl⟩

theorem crcFeed (d : Dev) (c : Nat) (bs : List Byte) : Dev.SamePort d (d.crcFeed c bs) := (setWord ..).trans (put ..)

end Dev.SamePort

/-- Bytes that feed a tap change registers alone. -/
theorem Dev.SamePort.crcTap (d : Dev) (tap : Nat) (bs : List Byte) : Dev.SamePort d (d.crcTap tap bs) := by
  unfold Dev.crcTap Dev.each
  refine List.foldlRecOn (motive := Dev.SamePort d) (List.range 4) _ (Dev.SamePort.refl d) fun e he c _ => ?_
  exact (he.trans (Dev.SamePort.crcFeed e c bs)).ite he

/-- A register outside the CRC contexts shows after a tap what it showed. -/
theorem Dev.crcTap_get (d : Dev) (tap : Nat) (bs : List Byte) {f : Fld}
    (hf : ∀ c < 4, f.addr ≠ (CRC_VAL c).addr ∧ f.addr ≠ (CRC_CNT c).addr) : (d.crcTap tap bs).get f = d.get f := by
  unfold Dev.crcTap Dev.each
  refine List.foldlRecOn (motive := fun e : Dev => e.get f = d.get f) (List.range 4) _ rfl fun e he c hc => ?_
  obtain ⟨hval, hcnt⟩ := hf c (List.mem_range.mp hc)
  split
  · rw [← he]
    unfold Dev.get Dev.crcFeed Dev.countMod
    rw [Dev.word_put_other _ _ _ _ hcnt, Dev.word_setWord, if_neg hval]
  · exact he

theorem Dev.iicDone_shows (d : Dev) (st n : Nat) :
    (d.iicDone st n).get IIC_STAT_XST = st % 16 ∧ (d.iicDone st n).get IIC_STAT_XCNT = n % 256
    ∧ (d.iicDone st n).get IIC_STAT_XDONE = 1 ∧ (d.iicDone st n).get IIC_STAT_XRUN = 0
    ∧ (d.iicDone st n).get IIC_STAT_BUSY = 0 ∧ (d.iicDone st n).iic.xfer = none := by
  unfold Dev.iicDone
  refine ⟨?_, ?_, ?_, ?_, ?_, rfl⟩ <;> simp (disch := decide) only [Dev.get_put_apart, Dev.get_put_same] <;> rfl

theorem Dev.iicRunning_some {x : IicXfer} (hx : d.iic.xfer = some x) (hp : x.phase = .running) : d.iicRunning = some x := by
  unfold Dev.iicRunning
  rw [hx, Option.filter_some, if_pos (decide_eq_true hp)]



/-- The transfer that GO asks for. -/
def Dev.iicAsked (d : Dev) : IicXfer :=
  { a10 := d.bit IIC_XCTL_A10, addr := if d.bit IIC_XCTL_A10 then d.get IIC_XCTL_ADDR else d.get IIC_XCTL_ADDR % 128
    wlen := min 64 (d.get IIC_XCTL_WLEN), rlen := min 64 (d.get IIC_XCTL_RLEN), tries := 0, phase := .waiting }

/-- The device whose transfer waits for the bus. -/
def Dev.iicAwaits (d : Dev) : Dev := ({ d with iic := { d.iic with xfer := some d.iicAsked } } : Dev).put IIC_STAT_XRUN 1

theorem Dev.iicAwaits_free (d : Dev) : d.iicAwaits.iicFree = d.iicFree := by
  have hup : d.iicAwaits.iicUp = d.iicUp :=
    Dev.monitoring_congr (Dev.put_pw ..) (Dev.put_fw ..) (Dev.word_put_other _ _ _ _ (by decide))
  have hbusy : d.iicAwaits.bit IIC_STAT_BUSY = d.bit IIC_STAT_BUSY :=
    Dev.bit_put_apart _ _ _ _ (by decide) (by decide) (by decide)
  have hfresh : d.iicAwaits.iic.fresh = d.iic.fresh := by simp only [Dev.iicAwaits, Dev.put_iic]
  unfold Dev.iicFree
  rw [hup, hbusy, hfresh]

theorem iicGoDev_asks (hc : d.bit IIC_CFG_CEN = true) (hst : d.bit IIC_STAT_STUCK = false) (hx : d.iic.xfer = none) :
    iicGoDev d = if d.iicFree then d.iicAwaits.iicBegin d.iicAsked else d.iicAwaits := by
  unfold iicGoDev
  rw [if_neg (by simp [hc]), if_neg (by simp [hst]), if_neg (by simp [hx])]
  change d.iicAwaits.iicNext = _
  unfold Dev.iicNext
  rw [show d.iicAwaits.iic.xfer = some d.iicAsked from rfl]
  dsimp only
  rw [d.iicAwaits_free]
  cases d.iicFree <;> rfl

/-! ## The commands of the controller -/

variable (q : List Instr)

theorem Dev.iicAwaits_shows (d : Dev) : d.iicAwaits.get IIC_STAT_XRUN = 1 ∧ d.iicAwaits.iic.xfer = some d.iicAsked := by
  refine ⟨Dev.get_put_same _ _ _ (by decide), ?_⟩
  simp only [Dev.iicAwaits, Dev.put_iic]

theorem Dev.iicBegin_shows (d : Dev) (x : IicXfer) :
    (d.iicBegin x).get IIC_STAT_BUSY = 1 ∧ (d.iicBegin x).iic.xfer = some { x with phase := .running }
    ∧ (d.iicBegin x).get IIC_STAT_XRUN = d.get IIC_STAT_XRUN := by
  unfold Dev.iicBegin
  refine ⟨?_, ?_, ?_⟩
  · simp (disch := decide) only [Dev.get_emit, Dev.get_put_same]
    rfl
  · simp only [Dev.emit_iic, Dev.put_iic]
  · simp (disch := decide) only [Dev.get_emit, Dev.get_put_apart, Dev.get_withIic]

theorem exec_iicGo (hacc : d.accepts IIC_CTRL_GO) (hw : d.pw.iicWait = none) (hpw : (iicGoDev d).pw = d.pw) :
    exec .iicGo ⟨d, q⟩ = .next ⟨(iicGoDev d).commandDone, q⟩ :=
  State.lift_takes_port q hacc hw hpw (Dev.Within.refl d).iicGoDev

/-- GO is refused while the bus is stuck or a transfer is there (R455). -/
theorem exec_iicGo_refused (hacc : d.accepts IIC_CTRL_GO) (hw : d.pw.iicWait = none) (hc : d.bit IIC_CFG_CEN = true) :
    (d.bit IIC_STAT_STUCK = true → exec .iicGo ⟨d, q⟩ = .next ⟨(d.put IIC_STAT_XST 6).commandDone, q⟩)
    ∧ (d.bit IIC_STAT_STUCK = false → d.iic.xfer ≠ none →
      exec .iicGo ⟨d, q⟩ = .next ⟨(d.put IIC_STAT_XST 7).commandDone, q⟩) := by
  refine ⟨fun hst => ?_, fun hst hx => ?_⟩
  · have hgo : iicGoDev d = d.put IIC_STAT_XST 6 := by
      unfold iicGoDev
      rw [if_neg (by simp [hc]), if_pos hst]
    rw [exec_iicGo q hacc hw (by rw [hgo, Dev.put_pw]), hgo]
  · have hgo : iicGoDev d = d.put IIC_STAT_XST 7 := by
      unfold iicGoDev
      rw [if_neg (by simp [hc]), if_neg (by simp [hst]), if_pos (Option.isSome_iff_ne_none.mpr hx)]
    rw [exec_iicGo q hacc hw (by rw [hgo, Dev.put_pw]), hgo]

/-- GO starts the transfer that is asked for on a free bus, and lets it wait on another (R454, R455). -/
theorem exec_iicGo_asks (hacc : d.accepts IIC_CTRL_GO) (hw : d.pw.iicWait = none) (hc : d.bit IIC_CFG_CEN = true)
    (hst : d.bit IIC_STAT_STUCK = false) (hx : d.iic.xfer = none) :
    (d.iicFree = true → exec .iicGo ⟨d, q⟩ = .next ⟨(d.iicAwaits.iicBegin d.iicAsked).commandDone, q⟩)
    ∧ (d.iicFree = false → exec .iicGo ⟨d, q⟩ = .next ⟨d.iicAwaits.commandDone, q⟩) := by
  have hpw : d.iicAwaits.pw = d.pw := by simp only [Dev.iicAwaits, Dev.put_pw]
  refine ⟨fun hf => ?_, fun hf => ?_⟩
  · have hgo : iicGoDev d = d.iicAwaits.iicBegin d.iicAsked := by rw [iicGoDev_asks hc hst hx, hf, if_pos rfl]
    have hbegin : (d.iicAwaits.iicBegin d.iicAsked).pw = d.pw := by
      simp only [Dev.iicBegin, Dev.emit_pw, Dev.put_pw, hpw]
    rw [exec_iicGo q hacc hw (by rw [hgo, hbegin]), hgo]
  · have hgo : iicGoDev d = d.iicAwaits := by rw [iicGoDev_asks hc hst hx, hf, if_neg (by decide)]
    rw [exec_iicGo q hacc hw (by rw [hgo, hpw]), hgo]

/-- What a bus clear leaves (R464). -/
theorem Dev.busClear_idle {o : IicBusObs} (h : o.sdaHigh = true) (e : Dev) : e.busClear o = e := if_pos h

theorem Dev.busClear_pw (e : Dev) (o : IicBusObs) : (e.busClear o).pw = e.pw := by
  unfold Dev.busClear
  split
  · rfl
  · dsimp only
    split
    · simp only [Dev.raise_pw, Dev.put_pw, Dev.emit_pw]
    · split
      · exact Dev.emit_pw ..
      · simp only [Dev.raise_pw, Dev.put_pw, Dev.emit_pw]

theorem exec_iicClrstk {o : IicBusObs} (hacc : d.accepts IIC_CTRL_CLRSTK) (hw : d.pw.iicWait = none) :
    exec (.iicClrstk o) ⟨d, q⟩ = .next ⟨(iicClrstkDev o d).commandDone, q⟩ := by
  refine State.lift_takes_port q hacc hw ?_ ((Dev.Within.refl d).iicClrstkDev o)
  unfold iicClrstkDev
  rw [Dev.busClear_pw, Dev.put_pw, Dev.put_pw]

theorem exec_iicCenWrite {o : IicBusObs} (hacc : d.accepts IIC_CFG_CEN) (hw : d.pw.iicWait = none) :
    exec (.iicCenWrite o) ⟨d, q⟩ = .next ⟨(iicCenWriteDev o d).commandDone, q⟩ := by
  refine State.lift_takes_port q hacc hw ?_ ((Dev.Within.refl d).iicCenWriteDev o)
  unfold iicCenWriteDev
  dsimp only
  split
  · simp only [Dev.busClear_pw, Dev.put_pw]
  · simp only [Dev.put_pw]

theorem Dev.busClear_idle_clrstk {o : IicBusObs} (h : o.sdaHigh = true) :
    iicClrstkDev o d = (d.put IIC_STAT_STUCK 0).put IIC_STAT_STUCKSCL 0 := Dev.busClear_idle h _

/-- Nine pulses that do not free SDA leave the bus stuck (R464). -/
theorem iicClrstkDev_stuck {o : IicBusObs} (hsda : o.sdaHigh = false) (hscl : o.sclHeld = false) (hfree : o.freed = false) :
    (iicClrstkDev o d).get IIC_STAT_STUCK = 1 ∧ (iicClrstkDev o d).get IIC_STAT_STUCKSCL = 0 := by
  unfold iicClrstkDev Dev.busClear
  rw [if_neg (by simp [hsda])]
  dsimp only
  rw [if_neg (by simp [hscl]), if_neg (by simp [hfree])]
  constructor <;> rw [Dev.raise_get _ _ _ _ _ (by decide)]
  · exact Dev.get_put_same _ _ _ (by decide)
  · simp (disch := decide) only [Dev.get_put_apart, Dev.get_emit, Dev.get_put_same]
    rfl

/-- Enabling the port with no bus clear due waits for an idle bus (R454). -/
theorem iicCenWriteDev_enabled {o : IicBusObs} (hdue : d.iic.cenDue = false) (hc : d.bit IIC_CFG_CEN = false) :
    iicCenWriteDev o d = { d.put IIC_CFG_CEN 1 with iic := { d.iic with fresh := true } } := by
  unfold iicCenWriteDev
  dsimp only
  have hport : ({ d.iic with cenDue := false, fresh := true } : IicSt) = { d.iic with fresh := true } := by rw [← hdue]
  rw [if_neg (by simp [hdue]), Dev.put_iic, hc, Bool.not_false, Bool.or_true, hport]

/-- The first enabling clears the bus, which an idle bus does not need (R464). -/
theorem iicCenWriteDev_due {o : IicBusObs} (hdue : d.iic.cenDue = true) (hsda : o.sdaHigh = true) :
    (iicCenWriteDev o d).get IIC_CFG_CEN = 1 ∧ (iicCenWriteDev o d).iic.cenDue = false
    ∧ (iicCenWriteDev o d).get IIC_STAT_STUCK = d.get IIC_STAT_STUCK := by
  unfold iicCenWriteDev
  dsimp only
  rw [if_pos hdue, Dev.busClear_idle hsda]
  refine ⟨?_, rfl, ?_⟩ <;> rw [Dev.get_withIic]
  · exact Dev.get_put_same _ _ _ (by decide)
  · exact Dev.get_put_apart _ _ _ _ (by decide) (by decide) (by decide)

/-! ## The ends of a transfer -/

theorem exec_iicBusIdle (hs : d.settled) (hw : d.pw.iicWait = none) (hup : d.iicUp = true) (hx : d.iic.xfer = none) :
    exec .iicBusIdle ⟨d, q⟩
      = .next ⟨{ d.put IIC_STAT_BUSY 0 with iic := { d.iic with fresh := false, target := false } }, q⟩ := by
  have hidle : iicBusIdleDev d = { d.put IIC_STAT_BUSY 0 with iic := { d.iic with fresh := false, target := false } } := by
    unfold iicBusIdleDev Dev.iicNext Dev.iicRunning
    rw [if_pos ⟨hup, by rw [hx]; rfl⟩, Dev.put_iic]
    dsimp only
    rw [hx]
    rfl
  rw [← hidle]
  exact State.lift_port q hs hw (by simp only [hidle, Dev.put_pw]) (Dev.Within.refl d).iicBusIdleDev

theorem Dev.iicDone_pw (d : Dev) (st n : Nat) : (d.iicDone st n).pw = d.pw := by
  simp only [Dev.iicDone, Dev.put_pw]

variable {x : IicXfer}

theorem exec_iicTransferEnd {e : IicEnd} (hs : d.settled) (hw : d.pw.iicWait = none)
    (hpw : (iicTransferEndDev e d).pw = d.pw) : exec (.iicTransferEnd e) ⟨d, q⟩ = .next ⟨iicTransferEndDev e d, q⟩ :=
  State.lift_port q hs hw hpw ((Dev.Within.refl d).iicTransferEndDev e)

section
variable (hs : d.settled) (hw : d.pw.iicWait = none) (hx : d.iicRunning = some x)
include hs hw hx

/-- A write that ends well shows OK and its length (R455). -/
theorem exec_iicTransferEnd_written (hr : x.rlen = 0) :
    exec (.iicTransferEnd (.ok [])) ⟨d, q⟩
      = .next ⟨(d.crcTap 1 (d.bufBytes IIC_XBUF (min x.wlen x.wlen) ++ bytesAt [] 0 x.rlen)).iicDone 1 x.wlen, q⟩ := by
  have hend : iicTransferEndDev (.ok []) d
      = (d.crcTap 1 (d.bufBytes IIC_XBUF (min x.wlen x.wlen) ++ bytesAt [] 0 x.rlen)).iicDone 1 x.wlen := by
    unfold iicTransferEndDev
    rw [hx]
    dsimp only
    rw [if_pos hr, if_pos hr]
  rw [← hend]
  exact exec_iicTransferEnd q hs hw (by rw [hend, Dev.iicDone_pw, (Dev.SamePort.crcTap ..).pw])

theorem exec_iicTransferEnd_nackAddr : exec (.iicTransferEnd .nackAddr) ⟨d, q⟩ = .next ⟨d.iicDone 2 0, q⟩ := by
  have hend : iicTransferEndDev .nackAddr d = d.iicDone 2 0 := by
    unfold iicTransferEndDev
    rw [hx]
  rw [← hend]
  exact exec_iicTransferEnd q hs hw (by rw [hend, Dev.iicDone_pw])

theorem exec_iicTransferEnd_nackData (n : Nat) :
    exec (.iicTransferEnd (.nackData n)) ⟨d, q⟩
      = .next ⟨(d.crcTap 1 (d.bufBytes IIC_XBUF (min (n + 1) x.wlen))).iicDone 3 (min n x.wlen), q⟩ := by
  have hend : iicTransferEndDev (.nackData n) d
      = (d.crcTap 1 (d.bufBytes IIC_XBUF (min (n + 1) x.wlen))).iicDone 3 (min n x.wlen) := by
    unfold iicTransferEndDev
    rw [hx]
  rw [← hend]
  exact exec_iicTransferEnd q hs hw (by rw [hend, Dev.iicDone_pw, (Dev.SamePort.crcTap ..).pw])

end

/-! ## Lost arbitration -/

/-- The device that lost arbitration: the loss is shown and counted, and what was on the bus feeds the tap. -/
def Dev.arbCounted (d : Dev) (x : IicXfer) (b : Nat) (read : List Byte) : Dev :=
  ((d.put IIC_STAT_LOSTBIT (min 4095 b)).countSat IIC_CNT_ARBCNT 1).crcTap 1
    (((d.put IIC_STAT_LOSTBIT (min 4095 b)).countSat IIC_CNT_ARBCNT 1).bufBytes IIC_XBUF
      (min x.wlen (b / 9 - (if x.a10 then 2 else 1))) ++ read)

theorem Dev.arbCounted_like (d : Dev) (x : IicXfer) (b : Nat) (read : List Byte) : Dev.SamePort d (d.arbCounted x b read) :=
  ((Dev.SamePort.put ..).trans (Dev.SamePort.put ..)).trans (Dev.SamePort.crcTap ..)

theorem Dev.arbCounted_shows (d : Dev) (x : IicXfer) (b : Nat) (read : List Byte) :
    (d.arbCounted x b read).get IIC_STAT_LOSTBIT = min 4095 b
    ∧ (d.arbCounted x b read).get IIC_CNT_ARBCNT = min 65535 (d.get IIC_CNT_ARBCNT + 1) := by
  unfold Dev.arbCounted Dev.countSat
  have hmax : IIC_CNT_ARBCNT.max = 65535 := by decide
  constructor <;> rw [Dev.crcTap_get _ _ _ (by decide)] <;>
    simp (disch := decide) only [Dev.get_put_apart, Dev.get_put_same]
  · exact Nat.mod_eq_of_lt (by simp only [IIC_STAT_LOSTBIT]; omega)
  · rw [hmax]
    exact Nat.mod_eq_of_lt (by simp only [IIC_CNT_ARBCNT]; omega)

/-- The device that gave up the bus, as a target of the winner or not. -/
def Dev.lostBus (e : Dev) (x : IicXfer) (asTarget : Bool) : Dev :=
  { e with iic := { e.iic with xfer := some { x with phase := .lost }, target := asTarget } }

/-- The winner of an arbitration lost at bit `b` addresses the device. -/
def Dev.addressedIn (e : Dev) (b : Nat) (a : IicAddressed) : Bool :=
  e.bit IIC_CFG_TEN && decide (b < 9) && (a = .ta || (a = .toda && e.todaUp))

theorem arbitrationLostDev_running (hx : d.iicRunning = some x) {b : Nat} {read : List Byte} {a : IicAddressed} :
    arbitrationLostDev b read a d
      = if (d.arbCounted x b read).addressedIn b a then ((d.arbCounted x b read).lostBus x true).put IIC_STAT_XST 8
        else (d.arbCounted x b read).lostBus x false := by
  unfold arbitrationLostDev
  rw [hx]
  dsimp only
  change (if (d.arbCounted x b read).addressedIn b a
    then ((d.arbCounted x b read).lostBus x ((d.arbCounted x b read).addressedIn b a)).put IIC_STAT_XST 8
    else (d.arbCounted x b read).lostBus x ((d.arbCounted x b read).addressedIn b a)) = _
  cases (d.arbCounted x b read).addressedIn b a <;> rfl

section
variable (hs : d.settled) (hw : d.pw.iicWait = none) (hx : d.iicRunning = some x) (b : Nat) (read : List Byte)
include hs hw hx

omit hx in
theorem exec_arbitrationLost {a : IicAddressed} {e : Dev} (h : arbitrationLostDev b read a d = e) (hpw : e.pw = d.pw) :
    exec (.arbitrationLost b read a) ⟨d, q⟩ = .next ⟨e, q⟩ := by
  subst h
  exact State.lift_port q hs hw hpw ((Dev.Within.refl d).arbitrationLostDev b read a)

/-- A device that the winner does not address waits for the end of the foreign transfer (R457). -/
theorem exec_arbitrationLost_none : ∃ t, exec (.arbitrationLost b read .none) ⟨d, q⟩ = .next t
    ∧ t.dev.get IIC_STAT_LOSTBIT = min 4095 b ∧ t.dev.get IIC_CNT_ARBCNT = min 65535 (d.get IIC_CNT_ARBCNT + 1)
    ∧ t.dev.iic.xfer = some { x with phase := .lost } ∧ t.dev.iic.target = false := by
  obtain ⟨hbit, hcount⟩ := d.arbCounted_shows x b read
  have hend : arbitrationLostDev b read .none d = (d.arbCounted x b read).lostBus x false := by
    rw [arbitrationLostDev_running hx]
    exact if_neg (by simp [Dev.addressedIn])
  exact ⟨_, exec_arbitrationLost q hs hw b read hend (d.arbCounted_like x b read).pw, hbit, hcount, rfl, rfl⟩

/-- A device that the winner addresses becomes its target (R459). -/
theorem exec_arbitrationLost_target (hb : b < 9) (hten : d.bit IIC_CFG_TEN = true) :
    ∃ t, exec (.arbitrationLost b read .ta) ⟨d, q⟩ = .next t ∧ t.dev.iic.target = true ∧ t.dev.get IIC_STAT_XST = 8 := by
  have hten' : (d.arbCounted x b read).bit IIC_CFG_TEN = true := by
    rw [← hten]
    unfold Dev.bit Dev.arbCounted Dev.countSat
    rw [Dev.crcTap_get _ _ _ (by decide)]
    simp (disch := decide) only [Dev.get_put_apart]
  have hend : arbitrationLostDev b read .ta d = ((d.arbCounted x b read).lostBus x true).put IIC_STAT_XST 8 := by
    rw [arbitrationLostDev_running hx]
    exact if_pos (by simp [Dev.addressedIn, hten', hb])
  refine ⟨_, exec_arbitrationLost q hs hw b read hend ?_, ?_, Dev.get_put_same _ _ _ (by decide)⟩
  · rw [Dev.put_pw]
    exact (d.arbCounted_like x b read).pw
  · rw [Dev.put_iic]
    rfl

end

/-- What an event needs of a device that ended its transfer. -/
theorem Dev.iicDone_like (e : Dev) (st n : Nat) :
    (e.iicDone st n).spn = e.spn ∧ (e.iicDone st n).role = e.role ∧ (e.iicDone st n).saf = e.saf
    ∧ (e.iicDone st n).get PWR_STAT_CUR = e.get PWR_STAT_CUR := by
  unfold Dev.iicDone
  refine ⟨?_, ?_, ?_, ?_⟩
  · simp only [Dev.put_spn]
  · simp only [Dev.put_role]
  · simp only [Dev.put_saf]
  · simp (disch := decide) only [Dev.get_put_apart, Dev.get_withIic]

theorem Dev.newEvent_iicDone {e : Dev} (h : Dev.SamePort d e) (hc : e.get PWR_STAT_CUR = d.get PWR_STAT_CUR)
    (hk : d.keepsEvents) (st n code : Nat) (items : List Nat) :
    d.newEvent ((e.iicDone st n).raise code 0 items) code items := by
  obtain ⟨hspn, hrole, hsaf, hcur⟩ := e.iicDone_like st n
  exact Dev.newEvent_raise d (e.iicDone st n) _ code 0 items hk (by rw [hspn, h.spn]) (hrole.trans h.role)
    (by rw [hsaf, h.saf]) (hcur.trans hc) (List.prefix_refl _)

/-- A transfer whose clock is held low too long ends, and its idle bus needs no clear (R456). -/
theorem exec_iicStretchTimeout_ends (hs : d.settled) (hw : d.pw.iicWait = none) (hx : d.iicRunning = some x)
    {n : Nat} (hn : n ≤ x.wlen) (hlt : n < 256) {o : IicBusObs} (hsda : o.sdaHigh = true) :
    ∃ t, exec (.iicStretchTimeout n [] o) ⟨d, q⟩ = .next t ∧ t.dev.get IIC_STAT_XST = 5 ∧ t.dev.get IIC_STAT_XCNT = n
      ∧ (d.keepsEvents → d.newEvent t.dev 0xA105 [x.addr, n]) := by
  let e := d.crcTap 1 (d.bufBytes IIC_XBUF n ++ [].take x.rlen)
  have hend : iicStretchTimeoutDev n [] o d = (e.iicDone 5 n).raise 0xA105 0 [x.addr, n] := by
    unfold iicStretchTimeoutDev
    rw [hx]
    dsimp only
    rw [Dev.busClear_idle hsda, Nat.min_eq_left hn, if_pos List.isEmpty_nil, if_pos List.isEmpty_nil]
  have hpw : (iicStretchTimeoutDev n [] o d).pw = d.pw := by
    rw [hend, Dev.raise_pw, Dev.iicDone_pw, (Dev.SamePort.crcTap ..).pw]
  obtain ⟨hst, hcnt, -, -, -, -⟩ := e.iicDone_shows 5 n
  refine ⟨_, State.lift_port q hs hw hpw ((Dev.Within.refl d).iicStretchTimeoutDev n [] o), ?_, ?_, fun hk => ?_⟩ <;>
    simp only [hend]
  · rw [Dev.raise_get _ _ _ _ _ (by decide), hst]
  · rw [Dev.raise_get _ _ _ _ _ (by decide), hcnt, Nat.mod_eq_of_lt hlt]
  · exact Dev.newEvent_iicDone (Dev.SamePort.crcTap ..) (Dev.crcTap_get _ _ _ (by decide)) hk 5 n 0xA105 _

section
variable (hs : d.settled) (hw : d.pw.iicWait = none) (hx : d.iic.xfer = some x) (hp : x.phase = .lost)
include hs hw hx hp

theorem exec_iicRetry_again (hr : x.tries < d.get IIC_CFG_RETRY) : ∃ t, exec .iicRetry ⟨d, q⟩ = .next t
    ∧ t.dev.iic.xfer = some { x with tries := x.tries + 1, phase := .running } ∧ t.dev.get IIC_STAT_BUSY = 1 := by
  let e : Dev := { d with iic := { d.iic with target := false } }
  have hend : iicRetryDev d = e.iicBegin { x with tries := x.tries + 1 } := by
    unfold iicRetryDev
    rw [hx]
    dsimp only
    rw [if_neg (by simp [hp])]
    exact if_pos hr
  have hpw : (iicRetryDev d).pw = d.pw := by simp only [hend, Dev.iicBegin, Dev.emit_pw, Dev.put_pw, e]
  obtain ⟨hbusy, hxfer, -⟩ := e.iicBegin_shows { x with tries := x.tries + 1 }
  refine ⟨_, State.lift_port q hs hw hpw (Dev.Within.refl d).iicRetryDev, ?_, ?_⟩ <;> simp only [hend]
  · exact hxfer
  · exact hbusy

theorem exec_iicRetry_ends (hr : d.get IIC_CFG_RETRY ≤ x.tries) : ∃ t, exec .iicRetry ⟨d, q⟩ = .next t
    ∧ t.dev.iic.xfer = none ∧ t.dev.get IIC_STAT_XST = 4
    ∧ (d.keepsEvents → d.newEvent t.dev 0xA101 [d.get IIC_STAT_LOSTBIT, x.tries + 1]) := by
  let e : Dev := { d with iic := { d.iic with target := false } }
  let n := d.get IIC_STAT_XCNT
  have hend : iicRetryDev d = (e.iicDone 4 n).raise 0xA101 0 [d.get IIC_STAT_LOSTBIT, x.tries + 1] := by
    unfold iicRetryDev
    rw [hx]
    dsimp only
    rw [if_neg (by simp [hp])]
    exact if_neg (Nat.not_lt.mpr hr)
  have hpw : (iicRetryDev d).pw = d.pw := by rw [hend, Dev.raise_pw, Dev.iicDone_pw]
  obtain ⟨hst, -, -, -, -, hxfer⟩ := e.iicDone_shows 4 n
  refine ⟨_, State.lift_port q hs hw hpw (Dev.Within.refl d).iicRetryDev, ?_, ?_, fun hk => ?_⟩ <;> simp only [hend]
  · rw [Dev.raise_iic, hxfer]
  · rw [Dev.raise_get _ _ _ _ _ (by decide), hst]
  · obtain ⟨hspn, hrole, hsaf, hcur⟩ := e.iicDone_like 4 n
    exact Dev.newEvent_raise d (e.iicDone 4 n) _ 0xA101 0 _ hk (by rw [hspn]) hrole (by rw [hsaf]) hcur
      (List.prefix_refl _)

end

end
/-- Settles O48: the steps of the controller, over the port's frame and what a transfer's beginning and end show. -/
theorem iicControllerCompletes : Obligations.IicControllerCompletes := by
  unfold Obligations.IicControllerCompletes
  refine ⟨fun d q hacc hw hc => ?_, fun d q o hw => ?_, fun d q hs hw hup hx => exec_iicBusIdle q hs hw hup hx,
    fun d q x hs hw hx hp => ?_, fun d q x hs hw hx hp => ?_⟩
  · obtain ⟨hstuck, hbusy⟩ := exec_iicGo_refused q hacc hw hc
    refine ⟨hstuck, hbusy, fun hst hx hf => ?_, fun hst hx hf => ?_⟩
    · obtain ⟨hb, hxf, hrun⟩ := d.iicAwaits.iicBegin_shows d.iicAsked
      refine ⟨_, (exec_iicGo_asks q hacc hw hc hst hx).1 hf, ?_, ?_, _, hxf, rfl, rfl, rfl, rfl⟩ <;>
        dsimp only <;> rw [Dev.commandDone_get _ _ (by decide)]
      · exact hrun.trans d.iicAwaits_shows.1
      · exact hb
    · refine ⟨_, (exec_iicGo_asks q hacc hw hc hst hx).2 hf, ?_, _, d.iicAwaits_shows.2, rfl⟩
      dsimp only
      rw [Dev.commandDone_get _ _ (by decide), d.iicAwaits_shows.1]
  · refine ⟨fun hacc hsda => ?_, fun hacc hsda hscl hfree => ?_, fun hacc hdue hc => ?_, fun hacc hdue hsda => ?_⟩
    · rw [exec_iicClrstk q hacc hw, Dev.busClear_idle_clrstk hsda]
    · refine ⟨_, exec_iicClrstk q hacc hw, ?_, ?_⟩ <;> dsimp only <;> rw [Dev.commandDone_get _ _ (by decide)]
      · exact (iicClrstkDev_stuck hsda hscl hfree).1
      · exact (iicClrstkDev_stuck hsda hscl hfree).2
    · rw [exec_iicCenWrite q hacc hw, iicCenWriteDev_enabled hdue hc]
    · obtain ⟨hcen, hdue', hst⟩ := iicCenWriteDev_due (d := d) hdue hsda
      refine ⟨_, exec_iicCenWrite q hacc hw, ?_, hdue', ?_⟩ <;> dsimp only <;> rw [Dev.commandDone_get _ _ (by decide)]
      · exact hcen
      · exact hst
  · have hrun := Dev.iicRunning_some hx hp
    refine ⟨fun hr => ?_, ?_, fun n hn hlt => ?_, fun b read => exec_arbitrationLost_none q hs hw hrun b read,
      fun b read hb hten => exec_arbitrationLost_target q hs hw hrun b read hb hten,
      fun n o hn hlt hsda => exec_iicStretchTimeout_ends q hs hw hrun hn hlt hsda⟩
    · exact ⟨_, exec_iicTransferEnd_written q hs hw hrun hr, Dev.iicDone_shows ..⟩
    · obtain ⟨hst, -, -, -, -, hnone⟩ := d.iicDone_shows 2 0
      exact ⟨_, exec_iicTransferEnd_nackAddr q hs hw hrun, hst, hnone⟩
    · obtain ⟨hst, hcnt, -, -, -, -⟩ := Dev.iicDone_shows (d.crcTap 1 (d.bufBytes IIC_XBUF (min (n + 1) x.wlen))) 3 (min n x.wlen)
      refine ⟨_, exec_iicTransferEnd_nackData q hs hw hrun n, hst, hcnt.trans ?_⟩
      rw [Nat.min_eq_left hn, Nat.mod_eq_of_lt hlt]
  · exact ⟨exec_iicRetry_again q hs hw hx hp, exec_iicRetry_ends q hs hw hx hp⟩

end Sys2Proof.Machine
end

section
/-!
SUPPORT. The I²C target (17, R449, R461 to R463): the bytes that a buffer takes are the bytes it shows, and what the
commands of the target leave.
-/

namespace Sys2Proof.Machine

/-! ## Bytes in words -/

theorem leBytes_leNat : ∀ bs : List Byte, leBytes bs.length (leNat bs) = bs
  | [] => rfl
  | b :: bs => by
    have hlow : BitVec.ofNat 8 (b.toNat + 256 * leNat bs) = b :=
      BitVec.eq_of_toNat_eq (by rw [BitVec.toNat_ofNat]; omega)
    have hhigh : (b.toNat + 256 * leNat bs) / 256 = leNat bs := by omega
    change BitVec.ofNat 8 (b.toNat + 256 * leNat bs) :: leBytes bs.length ((b.toNat + 256 * leNat bs) / 256) = _
    rw [hlow, hhigh, leBytes_leNat bs]

theorem leNat_lt : ∀ bs : List Byte, leNat bs < 256 ^ bs.length
  | [] => Nat.one_pos
  | b :: bs => by
    have ih := leNat_lt bs
    rw [List.length_cons, Nat.pow_succ]
    change b.toNat + 256 * leNat bs < _
    omega

/-- The words of 4n bytes hold those bytes. -/
theorem wordBytes_wordsOf : ∀ (n : Nat) (bs : List Byte), bs.length = 4 * n → wordBytes (wordsOf n bs) = bs
  | 0, bs, h => (List.length_eq_zero_iff.mp h).symm
  | n + 1, bs, h => by
    have hfour : (bs.take 4).length = 4 := by rw [List.length_take]; omega
    have hlt : leNat (bs.take 4) < 2 ^ 32 := (leNat_lt _).trans_eq (by rw [hfour]; rfl)
    have hword : leBytes 4 (BitVec.ofNat 32 (leNat (bs.take 4))).toNat = bs.take 4 := by
      rw [BitVec.toNat_ofNat, Nat.mod_eq_of_lt hlt]
      exact (congrArg (leBytes · (leNat (bs.take 4))) hfour.symm).trans (leBytes_leNat _)
    have ih := wordBytes_wordsOf n (bs.drop 4) (by rw [List.length_drop]; omega)
    change leBytes 4 (BitVec.ofNat 32 (leNat (bs.take 4))).toNat ++ wordBytes (wordsOf n (bs.drop 4)) = bs
    rw [hword, ih, List.take_append_drop]

theorem wordBytes_length (ws : List Word) : (wordBytes ws).length = 4 * ws.length := by
  unfold wordBytes
  induction ws with
  | nil => rfl
  | cons w ws ih => rw [List.flatMap_cons, List.length_append, ih, leBytes_length, List.length_cons]; omega

/-! ## A buffer of words -/

section
variable {f : Nat → Fld} (hf : ∀ i j : Nat, (f i).addr = (f j).addr → i = j)
include hf

/-- Words written from word k on are the words that the buffer shows there. -/
theorem Dev.word_setWords (ws : List Word) (k : Nat) (d : Dev) (j : Nat) :
    (d.each (ws.zipIdx k) fun d (w, i) => d.setWord (f i).addr w).word (f j).addr
      = if k ≤ j then (ws[j - k]?).getD (d.word (f j).addr) else d.word (f j).addr := by
  unfold Dev.each
  induction ws generalizing k d with
  | nil => exact (ite_self _).symm
  | cons w ws ih =>
    rw [List.zipIdx_cons, List.foldl_cons, ih, Dev.word_setWord]
    rcases Nat.lt_trichotomy j k with hlt | rfl | hgt
    · rw [if_neg (show ¬ k + 1 ≤ j by omega), if_neg (show ¬ k ≤ j by omega), if_neg fun h => absurd (hf j k h) (by omega)]
    · rw [if_neg (show ¬ j + 1 ≤ j by omega), if_pos rfl, if_pos (Nat.le_refl j), Nat.sub_self]
      rfl
    · rw [if_pos (show k + 1 ≤ j by omega), if_pos (show k ≤ j by omega), if_neg fun h => absurd (hf j k h) (by omega),
        show j - k = (j - (k + 1)) + 1 by omega, List.getElem?_cons_succ]

/-- The words of a buffer that took 16 words. -/
theorem Dev.words_setWords {ws : List Word} (hl : ws.length = 16) (d : Dev) :
    (List.range 16).map (fun i => (d.each ws.zipIdx fun d (w, i) => d.setWord (f i).addr w).word (f i).addr) = ws := by
  refine List.ext_getElem (by rw [List.length_map, List.length_range, hl]) fun i _ hi => ?_
  rw [List.getElem_map, List.getElem_range, Dev.word_setWords hf, if_pos (Nat.zero_le _), Nat.sub_zero,
    List.getElem?_eq_getElem hi, Option.getD_some]

/-- A buffer shows the bytes it took. -/
theorem Dev.bufBytes_putBytes (d : Dev) {bs : List Byte} (hl : bs.length ≤ 64) {k : Nat} (hk : k < bs.length) :
    ((d.putBytes f bs).bufBytes f 64)[k]? = bs[k]? := by
  have hold : (d.bufBytes f 64).length = 64 := by
    unfold Dev.bufBytes
    rw [List.length_take, wordBytes_length, List.length_map, List.length_range]
    rfl
  have hall : (bs.take 64 ++ (d.bufBytes f 64).drop (min 64 bs.length)).length = 4 * 16 := by
    rw [List.length_append, List.length_take, List.length_drop, hold]
    omega
  have hwords : (List.range 16).map (fun i => (d.putBytes f bs).word (f i).addr)
      = wordsOf 16 (bs.take 64 ++ (d.bufBytes f 64).drop (min 64 bs.length)) :=
    Dev.words_setWords hf (wordsOf_length ..) d
  change ((wordBytes ((List.range 16).map (fun i => (d.putBytes f bs).word (f i).addr))).take 64)[k]? = _
  rw [hwords, wordBytes_wordsOf 16 _ hall, List.getElem?_take_of_lt (by omega), List.take_of_length_le hl,
    List.getElem?_append_left hk]

end

/-! ## The commands of the target -/

section
variable {d : Dev} (q : List Instr)

theorem Dev.SamePort.putBytes (d : Dev) (f : Nat → Fld) (bs : List Byte) : Dev.SamePort d (d.putBytes f bs) := by
  unfold Dev.putBytes
  exact List.foldlRecOn (motive := Dev.SamePort d) _ _ (Dev.SamePort.refl d) fun e he _ _ => he.trans (Dev.SamePort.setWord ..)

/-- A register outside a buffer shows what it showed. -/
theorem Dev.putBytes_get (d : Dev) {f : Nat → Fld} (bs : List Byte) {g : Fld} (hg : ∀ i < 16, g.addr ≠ (f i).addr) :
    (d.putBytes f bs).get g = d.get g := by
  unfold Dev.putBytes Dev.each
  refine List.foldlRecOn (motive := fun e : Dev => e.get g = d.get g) _ _ rfl fun e he x hx => ?_
  have hi : x.2 < 16 := (List.snd_lt_of_mem_zipIdx hx).trans_eq (wordsOf_length ..)
  rw [← he]
  unfold Dev.get
  rw [Dev.word_setWord, if_neg (hg _ hi)]

/-- A buffer shows the bytes of its words. -/
theorem Dev.bufBytes_congr {d e : Dev} {f : Nat → Fld} (h : ∀ i < 16, e.word (f i).addr = d.word (f i).addr) (n : Nat) :
    e.bufBytes f n = d.bufBytes f n := by
  unfold Dev.bufBytes
  rw [List.map_congr_left fun i hi => h i (List.mem_range.mp hi)]

theorem Dev.iicReleased_word (e : Dev) (a : Nat) : e.iicReleased.word a = e.word a := rfl
theorem Dev.iicReleased_get (e : Dev) (g : Fld) : e.iicReleased.get g = e.get g := rfl
theorem Dev.iicReleased_pw (e : Dev) : e.iicReleased.pw = e.pw := rfl
theorem Dev.iicReleased_spn (e : Dev) : e.iicReleased.spn = e.spn := rfl
theorem Dev.iicReleased_role (e : Dev) : e.iicReleased.role = e.role := rfl
theorem Dev.iicReleased_saf (e : Dev) : e.iicReleased.saf = e.saf := rfl

theorem Dev.nameSecond_pw (e : Dev) (good : Bool) (sec ms : Nat) : (e.nameSecond good sec ms).pw = e.pw := by
  unfold Dev.nameSecond
  extract_lets inOrder
  split
  · rfl
  · split
    · rfl
    · rw [Dev.raise_pw]

section
variable (hs : d.settled) (hw : d.pw.iicWait = none) (hup : d.iicUp = true) (hten : d.bit IIC_CFG_TEN = true)
include hs hw hup hten

/-- A message is taken while RXNEW is 0 (R461). -/
theorem exec_iicTargetRx_takes (bytes : List Byte) (hl : bytes.length ≤ 64) (hnew : d.bit IIC_TSTAT_RXNEW = false) :
    ∃ t, exec (.iicTargetRx bytes) ⟨d, q⟩ = .next t
      ∧ t.dev.get IIC_TSTAT_RXLEN = bytes.length ∧ t.dev.get IIC_TSTAT_RXNEW = 1
      ∧ (∀ k : Nat, k < bytes.length → (t.dev.bufBytes IIC_TRX 64)[k]? = bytes[k]?)
      ∧ (d.keepsEvents → d.newEvent t.dev 0xA104 [bytes.length]) := by
  let e := (((d.putBytes IIC_TRX bytes).iicReleased).put IIC_TSTAT_RXLEN bytes.length).put IIC_TSTAT_RXNEW 1
  have hend : iicTargetRxDev bytes d = e.raise 0xA104 0 [bytes.length] := by
    unfold iicTargetRxDev
    rw [if_neg (by simp [hup, hten, hnew]), List.take_of_length_le hl]
  have hlike := Dev.SamePort.putBytes d IIC_TRX bytes
  have hpw : (iicTargetRxDev bytes d).pw = d.pw := by
    rw [hend, Dev.raise_pw]
    simp only [e, Dev.put_pw, Dev.iicReleased_pw, hlike.pw]
  refine ⟨_, State.lift_port q hs hw hpw ((Dev.Within.refl d).iicTargetRxDev bytes), ?_, ?_, fun k hk => ?_, fun hk => ?_⟩ <;>
    simp only [hend]
  · rw [Dev.raise_get _ _ _ _ _ (by decide)]
    simp (disch := decide) only [e, Dev.get_put_apart, Dev.get_put_same]
    exact Nat.mod_eq_of_lt (Nat.lt_of_le_of_lt hl (by decide))
  · rw [Dev.raise_get _ _ _ _ _ (by decide)]
    exact Dev.get_put_same _ _ _ (by decide)
  · have hbuf : (e.raise 0xA104 0 [bytes.length]).bufBytes IIC_TRX 64 = (d.putBytes IIC_TRX bytes).bufBytes IIC_TRX 64 := by
      refine Dev.bufBytes_congr (fun i hi => ?_) 64
      rw [Dev.raise_word _ _ _ _ _ (by revert i; decide), Dev.word_put_other _ _ _ _ (by revert i; decide),
        Dev.word_put_other _ _ _ _ (by revert i; decide), Dev.iicReleased_word]
    rw [hbuf]
    exact Dev.bufBytes_putBytes (fun i j h => by simp only [IIC_TRX] at h; omega) d hl hk
  · have hcur : e.get PWR_STAT_CUR = d.get PWR_STAT_CUR := by
      simp (disch := decide) only [e, Dev.get_put_apart, Dev.iicReleased_get, Dev.putBytes_get]
    refine Dev.newEvent_raise d e _ 0xA104 0 _ hk ?_ ?_ ?_ hcur (List.prefix_refl _)
    · simp only [e, Dev.put_spn, Dev.iicReleased_spn, hlike.spn]
    · simp only [e, Dev.put_role, Dev.iicReleased_role, hlike.role]
    · simp only [e, Dev.put_saf, Dev.iicReleased_saf, hlike.saf]

theorem exec_iicTargetRead (n : Nat) : let bs := d.bufBytes IIC_TTX (min 64 (d.get IIC_TTXL_TXLEN))
    exec (.iicTargetRead n) ⟨d, q⟩ = .next ⟨({ (d.emit (.iicBytes (bs.take n ++ List.replicate (n - bs.length) 0xFF))).put
      IIC_TSTAT_TXRD 1 with iic := { d.iic with target := false } } : Dev), q⟩ := by
  intro bs
  have hend : iicTargetReadDev n d = { (d.emit (.iicBytes (bs.take n ++ List.replicate (n - bs.length) 0xFF))).put
      IIC_TSTAT_TXRD 1 with iic := { d.iic with target := false } } := by
    unfold iicTargetReadDev Dev.iicReleased
    rw [if_neg (by simp [hup, hten])]
    dsimp only
    rw [Dev.put_iic, Dev.emit_iic]
  rw [← hend]
  exact State.lift_port q hs hw (by simp only [hend, Dev.put_pw, Dev.emit_pw]) ((Dev.Within.refl d).iicTargetReadDev n)

theorem exec_iicTodaWrite_length {bytes : List Byte} (ms : Nat) (htoda : d.todaUp = true) (hl : bytes.length ≠ 12) :
    exec (.iicTodaWrite bytes ms) ⟨d, q⟩ = .next ⟨d.iicReleased.raise 0x8007 0 [], q⟩ := by
  have hend : iicTodaWriteDev bytes ms d = d.iicReleased.raise 0x8007 0 [] := by
    unfold iicTodaWriteDev
    rw [if_neg (by simp [hup, hten, htoda])]
    exact if_neg hl
  rw [← hend]
  exact State.lift_port q hs hw (by rw [hend, Dev.raise_pw]; rfl) ((Dev.Within.refl d).iicTodaWriteDev bytes ms)

theorem exec_iicTodaWrite_message {bytes : List Byte} (ms : Nat) (htoda : d.todaUp = true) (hl : bytes.length = 12) :
    exec (.iicTodaWrite bytes ms) ⟨d, q⟩ = exec (.timeOfDayMessage bytes ms) ⟨d.iicReleased, q⟩ := by
  have hend : iicTodaWriteDev bytes ms d = timeOfDayDev bytes ms d.iicReleased := by
    unfold iicTodaWriteDev
    rw [if_neg (by simp [hup, hten, htoda])]
    exact if_pos hl
  have hpw : (iicTodaWriteDev bytes ms d).pw = d.pw := by
    rw [hend]
    exact (Dev.nameSecond_pw ..).trans d.iicReleased_pw
  refine (State.lift_port q hs hw hpw ((Dev.Within.refl d).iicTodaWriteDev bytes ms)).trans ?_
  rw [hend]
  exact (State.lift_within (own := iicReg) (d := d.iicReleased) q hs ((Dev.Within.refl _).timeOfDayDev bytes ms)).symm

theorem exec_iicTargetTimeout (a : Nat) : ∃ t, exec (.iicTargetTimeout a) ⟨d, q⟩ = .next t ∧ t.dev.iic.target = false
    ∧ t.dev.get IIC_CNT_TTOCNT = min 65535 (d.get IIC_CNT_TTOCNT + 1) ∧ (d.keepsEvents → d.newEvent t.dev 0xA103 [a]) := by
  let e := d.iicReleased.countSat IIC_CNT_TTOCNT 1
  have hend : iicTargetTimeoutDev a d = e.raise 0xA103 0 [a] := by
    unfold iicTargetTimeoutDev
    rw [if_neg (by simp [hup, hten])]
  have hmax : IIC_CNT_TTOCNT.max = 65535 := by decide
  have hpw : (iicTargetTimeoutDev a d).pw = d.pw := by
    rw [hend, Dev.raise_pw]
    simp only [e, Dev.countSat, Dev.put_pw, Dev.iicReleased_pw]
  refine ⟨_, State.lift_port q hs hw hpw ((Dev.Within.refl d).iicTargetTimeoutDev a), ?_, ?_, fun hk => ?_⟩ <;>
    simp only [hend]
  · rw [Dev.raise_iic]
    simp only [e, Dev.countSat, Dev.put_iic]
    rfl
  · rw [Dev.raise_get _ _ _ _ _ (by decide)]
    refine (Dev.get_put_same _ _ _ (by decide)).trans ?_
    rw [hmax]
    exact Nat.mod_eq_of_lt (by simp only [IIC_CNT_TTOCNT]; omega)
  · refine Dev.newEvent_raise d e _ 0xA103 0 _ hk ?_ ?_ ?_ (Dev.get_put_apart _ _ _ _ (by decide) (by decide) (by decide))
      (List.prefix_refl _)
    · simp only [e, Dev.countSat, Dev.put_spn, Dev.iicReleased_spn]
    · simp only [e, Dev.countSat, Dev.put_role, Dev.iicReleased_role]
    · simp only [e, Dev.countSat, Dev.put_saf, Dev.iicReleased_saf]

end

/-! ## A move that waits for the port -/

/-- With the port free, an evaluation of the budget rule waits for nothing. -/
theorem Dev.budgetEval_iicWait (h : d.iicBusy = false) (trig : Nat) : (d.budgetEval trig).pw.iicWait = d.pw.iicWait := by
  have hshow : ∀ (e : Dev) (c b : Nat), (e.showMode c b trig).pw = e.pw := fun e c b => by
    unfold Dev.showMode
    dsimp only
    split
    · simp only [Dev.put_pw]
    · simp only [Dev.raise_pw, Dev.put_pw]
  rcases d.budgetEval_cases trig with hb | hb | hb | hb <;> rw [hb]
  · rw [Dev.put_pw]
  · rw [hshow, Dev.put_pw]
  · rw [Dev.put_pw]
  · have hbusy : (d.put PWR_STAT_TARGET d.targetLevel).iicBusy = false := by
      unfold Dev.iicBusy at h ⊢
      rw [Dev.put_iic, h]
    unfold Dev.startTrans
    extract_lets g
    rw [if_neg (by simp [hbusy])]
    split
    · rw [hshow, Dev.put_pw]
    · rw [Dev.put_pw]
      change (d.put PWR_STAT_TARGET d.targetLevel).pw.iicWait = _
      rw [Dev.put_pw]

theorem Dev.iicStop_idle (d : Dev) : d.iicStop.get IIC_STAT_BUSY = 0 := Dev.get_put_same _ _ _ (by decide)

theorem Dev.get_withPw (e : Dev) (x : PowerSt) (f : Fld) : ({ e with pw := x } : Dev).get f = e.get f := rfl

/-- A move that waited TTO for the port stops it and goes on (R449). -/
theorem exec_iicMoveWaitTto_moves (hs : d.settled) {tr : Nat} (hw : d.pw.iicWait = some tr) :
    ∃ t, exec .iicMoveWaitTto ⟨d, q⟩ = .next t ∧ t.dev.iic.xfer = none
      ∧ t.dev.iic.target = false ∧ t.dev.get IIC_STAT_BUSY = 0 ∧ t.dev.pw.iicWait = none := by
  let e : Dev := { d.iicStop with pw := { d.iicStop.pw with iicWait := none } }
  have hiic : e.iic = { d.iic with xfer := none, target := false, fresh := true } := by
    simp only [e, Dev.iicStop, Dev.put_iic]
  have hbusy : e.iicBusy = false := by
    unfold Dev.iicBusy
    rw [hiic]
    rfl
  have hexec : exec .iicMoveWaitTto ⟨d, q⟩ = .next ⟨e.budgetEval tr, q⟩ := by
    refine (State.lift_within (own := iicReg) q hs ?_).trans ?_
    · dsimp only
      rw [hw]
      exact ((Dev.Within.refl d).iicStop.withPw _).budgetEval _
    · rw [hw]
  refine ⟨_, hexec, ?_, ?_, ?_, ?_⟩
  · rw [Dev.budgetEval_iic, hiic]
  · rw [Dev.budgetEval_iic, hiic]
  · rw [Dev.budgetEval_get _ _ _ (by decide)]
    exact (Dev.get_withPw ..).trans d.iicStop_idle
  · rw [Dev.budgetEval_iicWait hbusy]

theorem exec_iicMoveWaitTto_none (hs : d.settled) (hw : d.pw.iicWait = none) : exec .iicMoveWaitTto ⟨d, q⟩ = .next ⟨d, q⟩ := by
  refine (State.lift_within (own := iicReg) q hs ?_).trans ?_
  · dsimp only
    rw [hw]
    exact Dev.Within.refl d
  · rw [hw]

/-- Settles O49: the mailbox, the time-of-day write and the timeout of the target, and the end of a wait for the port. -/
theorem iicTargetCompletes : Obligations.IicTargetCompletes := by
  unfold Obligations.IicTargetCompletes
  refine ⟨fun d q hs hw hup hten => ⟨exec_iicTargetRx_takes q hs hw hup hten, fun bytes hnew => ?_,
    exec_iicTargetRead q hs hw hup hten, fun bytes ms htoda hl => exec_iicTodaWrite_length q hs hw hup hten ms htoda hl,
    fun bytes ms htoda hl => exec_iicTodaWrite_message q hs hw hup hten ms htoda hl,
    exec_iicTargetTimeout q hs hw hup hten⟩, fun d q hs =>
    ⟨fun tr hw => exec_iicMoveWaitTto_moves q hs hw, exec_iicMoveWaitTto_none q hs⟩⟩
  have hend : iicTargetRxDev bytes d = d := if_pos (.inr (.inr hnew))
  have h := State.lift_port q hs hw (congrArg Dev.pw hend) ((Dev.Within.refl d).iicTargetRxDev bytes)
  rw [hend] at h
  exact h

end

end Sys2Proof.Machine
end

section
/-!
SUPPORT. Beadline (16, R430 to R445): what each step of a line shows and leaves, and how the commands of a search, of the
schedule and of a host transaction go on from one step to the next.
-/

namespace Sys2Proof.Machine

section
variable (d : Dev) (l : Nat)

/-! ## The state of a line -/

@[simp] theorem Dev.bline_setBline (x : BdlLine) : (d.setBline l x).bline l = x := by
  unfold Dev.bline Dev.setBline
  split <;> rfl

@[simp] theorem Dev.setBline_xfer (x : BdlLine) : (d.setBline l x).bdl.xfer = d.bdl.xfer := by
  unfold Dev.setBline
  split <;> rfl

theorem Dev.bline_congr {d e : Dev} (h : e.bdl = d.bdl) (l : Nat) : e.bline l = d.bline l := by
  unfold Dev.bline
  rw [h]

theorem Dev.bline_put (f : Fld) (v : Nat) : (d.put f v).bline l = d.bline l := Dev.bline_congr (Dev.put_bdl ..) l
theorem Dev.bline_raise (code src : Nat) (items : List Nat) : (d.raise code src items).bline l = d.bline l :=
  Dev.bline_congr (Dev.raise_bdl ..) l

theorem Dev.get_bdlTo (a : BdlAct) (f : Fld) : (d.bdlTo l a).get f = d.get f := Dev.get_setBline ..

theorem Dev.bline_bdlTo (a : BdlAct) : (d.bdlTo l a).bline l = { d.bline l with act := a, again := false } :=
  Dev.bline_setBline ..

theorem Dev.bdlTo_xfer (a : BdlAct) : (d.bdlTo l a).bdl.xfer = d.bdl.xfer := Dev.setBline_xfer ..

theorem Dev.get_bdlSend (f : Fld) : (d.bdlSend l).get f = d.get f := by
  unfold Dev.bdlSend
  split <;> rfl

theorem Dev.bdlSend_bdl : (d.bdlSend l).bdl = d.bdl := by
  unfold Dev.bdlSend
  split
  · exact Dev.emit_bdl ..
  · rfl

theorem Dev.get_bdlStep (a : BdlAct) (f : Fld) : (d.bdlStep l a).get f = d.get f :=
  (Dev.get_bdlSend ..).trans (Dev.get_bdlTo ..)

theorem Dev.bline_bdlStep (a : BdlAct) : (d.bdlStep l a).bline l = { d.bline l with act := a, again := false } :=
  (Dev.bline_congr (Dev.bdlSend_bdl ..) l).trans (Dev.bline_bdlTo ..)

theorem Dev.bdlStep_xfer (a : BdlAct) : (d.bdlStep l a).bdl.xfer = d.bdl.xfer :=
  (congrArg BdlSt.xfer (Dev.bdlSend_bdl ..)).trans (Dev.bdlTo_xfer ..)

/-- Frames run on a line as before where nothing that lets them run has changed. -/
theorem Dev.bdlUp_congr {d e : Dev} {l : Nat} (hm : e.monitoring = d.monitoring) (hlen : e.get BDL_CFG_LEN = d.get BDL_CFG_LEN)
    (hshort : e.get (BDL_LSTAT_SHORT l) = d.get (BDL_LSTAT_SHORT l)) : e.bdlUp l = d.bdlUp l := by
  unfold Dev.bdlUp Dev.bitAt Dev.bit
  rw [hm, hlen, hshort]

/-! ## What the line's steps leave alone -/

section
variable {d} {e : Dev}

theorem Dev.Grow.searchStart (h : Dev.Grow d e) : Dev.Grow d (e.searchStart l) :=
  ((((((h.put _ _).put _ _).put _ _).put _ _).setBline _ _).emit _)

theorem Dev.Grow.searchAsk (h : Dev.Grow d e) : Dev.Grow d (e.searchAsk l) := by
  unfold Dev.searchAsk
  exact h.ite ((h.searchStart l).ite (h.setBline _ _))

/-- The registers of a line whose search ended: its roster, and no results. -/
def Dev.rosterShown (e : Dev) (n : Nat) (changed full : Bool) : Dev :=
  ((((((((e.put (BDL_LSTAT_VALID l) 1).put (BDL_LSTAT_SRCH l) 0).putB (BDL_LSTAT_RCHG l) changed).putB (BDL_LSTAT_FULL l)
    full).put (BDL_ROSTER l) (2 ^ n - 1)).put (BDL_LSTAT_NPROBE l) n).put (BDL_FAILED l) 0).put
    (if l = 0 then BDL_IDV0 else BDL_IDV1) 0).each (rangeL 1 32) fun e p =>
      (e.put (BDL_RES_VALID (posIx l p)) 0).put (BDL_RES2_VALID (posIx l p)) 0

/-- The line is idle, and no identity is being gathered. -/
def Dev.lineRests (e : Dev) : Dev := e.setBline l { e.bline l with act := .idle, again := false, ids := [] }

/-- The line whose search ended, with its event. -/
def Dev.searchEnded (e : Dev) (n : Nat) (changed full : Bool) : Dev :=
  ((e.rosterShown l n changed full).lineRests l).raise 0xA001 0 [l, n, if changed then 1 else 0, if full then 1 else 0]

theorem Dev.searchEnd_eq (e : Dev) (n : Nat) (changed full : Bool) : e.searchEnd l n changed full
    = if changed then (e.searchEnded l n changed full).raise 0xA002 0 [l] else e.searchEnded l n changed full := rfl

theorem Dev.Grow.rosterShown (n : Nat) (changed full : Bool) (h : Dev.Grow d e) :
    Dev.Grow d (e.rosterShown l n changed full) :=
  Dev.Grow.each _ _ (((((((((h.put _ _).put _ _).putB _ _).putB _ _).put _ _).put _ _).put _ _).put _ _)) fun _ _ hg =>
    (hg.put _ _).put _ _

theorem Dev.Grow.searchEnd (n : Nat) (changed full : Bool) (h : Dev.Grow d e) :
    Dev.Grow d (e.searchEnd l n changed full) := by
  have hr : Dev.Grow d (e.searchEnded l n changed full) := ((h.rosterShown l n changed full).setBline l _).raise ..
  rw [Dev.searchEnd_eq]
  exact (hr.raise _ _ _).ite hr

theorem Dev.Grow.bdlFree (h : Dev.Grow d e) : Dev.Grow d (e.bdlFree l) := by
  have hi := h.bdlTo l .idle
  have hs := (hi.searchStart l).ite (c := ((e.bdlTo l .idle).bline l).wanted = true) hi
  unfold Dev.bdlFree
  dsimp only
  split
  · exact hi
  · split
    · exact Dev.Grow.ite (hi.bdlStep l .host) hs
    · exact hs

theorem Dev.Grow.xferEnd (err : Nat) (h : Dev.Grow d e) : Dev.Grow d (e.xferEnd l err) := by
  unfold Dev.xferEnd
  refine Dev.Grow.bdlFree l (Dev.Grow.put _ _ (Dev.Grow.put _ _ ?_))
  exact h.trans (Dev.Kin.bdl' ..).grow

end

/-! ## What a search shows -/

variable {d l}

/-- The start of a search shows no result of it, and nothing else of the line changes. -/
theorem Dev.searchStart_shows (hl : l < 2) :
    (d.searchStart l).get (BDL_LSTAT_SRCH l) = 1 ∧ (d.searchStart l).get (BDL_LSTAT_RCHG l) = 0
    ∧ (d.searchStart l).get (BDL_LSTAT_FULL l) = 0 ∧ (d.searchStart l).get (BDL_LSTAT_NEWPRB l) = 0 := by
  unfold Dev.searchStart
  obtain rfl | rfl : l = 0 ∨ l = 1 := by omega
  all_goals
    refine ⟨?_, ?_, ?_, ?_⟩ <;>
      simp (disch := decide) only [Dev.get_emit, Dev.get_setBline, Dev.get_put_apart, Dev.get_put_same] <;> rfl

/-- The fields that the start of a search does not write. -/
def searchKeeps (l : Nat) (f : Fld) : Bool :=
  f.wf && (BDL_LSTAT_RCHG l).apart f && (BDL_LSTAT_FULL l).apart f && (BDL_LSTAT_NEWPRB l).apart f
    && (BDL_LSTAT_SRCH l).apart f

theorem Dev.searchStart_get {f : Fld} (h : searchKeeps l f = true) : (d.searchStart l).get f = d.get f := by
  unfold searchKeeps at h
  simp only [Bool.and_eq_true] at h
  obtain ⟨⟨⟨⟨hf, hr⟩, hu⟩, hn⟩, hs⟩ := h
  unfold Dev.searchStart
  rw [Dev.get_emit, Dev.get_setBline, Dev.get_put_apart _ _ _ _ rfl hf hs, Dev.get_put_apart _ _ _ _ rfl hf hn,
    Dev.get_put_apart _ _ _ _ rfl hf hu, Dev.get_put_apart _ _ _ _ rfl hf hr]

/-- A free line starts what waits for it: those fields stay. -/
theorem Dev.bdlFree_get {f : Fld} (h : searchKeeps l f = true) : (d.bdlFree l).get f = d.get f := by
  have hidle := d.get_bdlTo l .idle f
  have hs := (Dev.searchStart_get (d := d.bdlTo l .idle) h).trans hidle
  unfold Dev.bdlFree
  dsimp only
  split
  · exact hidle
  · split
    · split
      · exact (Dev.get_bdlStep ..).trans hidle
      · split
        · exact hs
        · exact hidle
    · split
      · exact hs
      · exact hidle

theorem Dev.searchStart_xfer (d : Dev) (l : Nat) : (d.searchStart l).bdl.xfer = d.bdl.xfer := by
  unfold Dev.searchStart
  dsimp only
  rw [Dev.emit_bdl, Dev.setBline_xfer]
  simp only [Dev.put_bdl]

theorem Dev.searchStart_bline (d : Dev) (l : Nat) :
    (d.searchStart l).bline l = { d.bline l with act := .restart, again := false, wanted := false } := by
  unfold Dev.searchStart
  dsimp only
  rw [Dev.bline_congr (Dev.emit_bdl ..), Dev.bline_setBline]
  simp only [Dev.bline_put]

theorem Dev.searchStart_other (d : Dev) : (d.searchStart 0).bdl.l1 = d.bdl.l1 := by
  unfold Dev.searchStart
  dsimp only
  rw [Dev.emit_bdl]
  unfold Dev.setBline
  rw [if_pos rfl]
  simp only [Dev.put_bdl]

/-- No change is shown on a line that shows none and is free. -/
theorem Dev.bdlFree_unchanged (hl : l < 2) (h : d.get (BDL_LSTAT_RCHG l) = 0) :
    (d.bdlFree l).get (BDL_LSTAT_RCHG l) = 0 := by
  have hidle := (d.get_bdlTo l .idle (BDL_LSTAT_RCHG l)).trans h
  obtain ⟨-, hs, -, -⟩ := Dev.searchStart_shows (d := d.bdlTo l .idle) hl
  unfold Dev.bdlFree
  dsimp only
  split
  · exact hidle
  · split
    · split
      · exact (Dev.get_bdlStep ..).trans hidle
      · split
        · exact hs
        · exact hidle
    · split
      · exact hs
      · exact hidle

/-- With no transaction waiting a free line takes none. -/
theorem Dev.bdlFree_xfer (hx : d.bdl.xfer = none) : (d.bdlFree l).bdl.xfer = none := by
  have hidle : (d.bdlTo l .idle).bdl.xfer = none := (Dev.bdlTo_xfer ..).trans hx
  have hs := ((d.bdlTo l .idle).searchStart_xfer l).trans hidle
  unfold Dev.bdlFree
  dsimp only
  rw [hidle]
  split
  · exact hidle
  · dsimp only
    split
    · exact hs
    · exact hidle

/-- With nothing waiting a line that is given up is idle. -/
theorem Dev.bdlFree_idle (hx : d.bdl.xfer = none) (hw : (d.bline l).wanted = false) : d.bdlFree l = d.bdlTo l .idle := by
  have hidle : (d.bdlTo l .idle).bdl.xfer = none := (Dev.bdlTo_xfer ..).trans hx
  have hwait : ((d.bdlTo l .idle).bline l).wanted = false := by rw [Dev.bline_bdlTo, hw]
  unfold Dev.bdlFree
  dsimp only
  rw [hidle, hwait]
  split <;> rfl

/-- A transaction that ends shows it, and none is left. -/
theorem Dev.xferEnd_shows (d : Dev) (hl : l < 2) (err : Nat) :
    (d.xferEnd l err).get BDL_XRES_DONE = 1 ∧ (d.xferEnd l err).get BDL_XRES_ERR = err % 4
    ∧ (d.xferEnd l err).bdl.xfer = none
    ∧ (d.xferEnd l err).get (BDL_LSTAT_SPUERR l) = d.get (BDL_LSTAT_SPUERR l) := by
  let e : Dev := ((({ d with bdl := { d.bdl with xfer := none } } : Dev).put BDL_XRES_DONE 1).put BDL_XRES_ERR err)
  have hx : e.bdl.xfer = none := by simp only [e, Dev.put_bdl]
  have hdone : e.get BDL_XRES_DONE = 1 := by
    simp (disch := decide) only [e, Dev.get_put_apart, Dev.get_put_same]
    rfl
  have herr : e.get BDL_XRES_ERR = err % 4 := Dev.get_put_same _ _ _ (by decide)
  have hspu : e.get (BDL_LSTAT_SPUERR l) = d.get (BDL_LSTAT_SPUERR l) := by
    obtain rfl | rfl : l = 0 ∨ l = 1 := by omega
    all_goals
      simp (disch := decide) only [e, Dev.get_put_apart]
      rfl
  change (e.bdlFree l).get _ = _ ∧ (e.bdlFree l).get _ = _ ∧ (e.bdlFree l).bdl.xfer = none ∧ (e.bdlFree l).get _ = _
  refine ⟨?_, ?_, Dev.bdlFree_xfer hx, ?_⟩
  all_goals obtain rfl | rfl : l = 0 ∨ l = 1 := by omega
  all_goals rw [Dev.bdlFree_get (by decide)]
  all_goals assumption

/-- A search that ends shows its roster. -/
theorem Dev.searchEnd_shows (hl : l < 2) {n : Nat} (hn : n < 32) (d : Dev) :
    (d.searchEnd l n false false).get (BDL_ROSTER l) = 2 ^ n - 1
    ∧ (d.searchEnd l n false false).get (BDL_LSTAT_VALID l) = 1
    ∧ (d.searchEnd l n false false).get (BDL_LSTAT_NPROBE l) = n
    ∧ (d.searchEnd l n false false).get (BDL_LSTAT_RCHG l) = 0 := by
  have hshown : ∀ f : Fld, f.addr ∉ sendRegs → (d.searchEnd l n false false).get f = (d.rosterShown l n false false).get f :=
    fun f hf => (Dev.raise_get _ _ _ _ _ hf).trans (Dev.get_setBline ..)
  have heach : ∀ (e : Dev) (f : Fld), f.addr < 0x20100 → (e.each (rangeL 1 32) fun e p =>
      (e.put (BDL_RES_VALID (posIx l p)) 0).put (BDL_RES2_VALID (posIx l p)) 0).get f = e.get f := fun e f hf => by
    unfold Dev.each
    refine List.foldlRecOn (motive := fun c : Dev => c.get f = e.get f) _ _ rfl fun c hc p _ => ?_
    rw [← hc]
    unfold Dev.get
    rw [Dev.word_put_other _ _ _ _ (by simp only [BDL_RES2_VALID]; omega),
      Dev.word_put_other _ _ _ _ (by simp only [BDL_RES_VALID]; omega)]
  have hpow : (2 ^ n - 1) % 2 ^ 32 = 2 ^ n - 1 :=
    Nat.mod_eq_of_lt (Nat.lt_of_le_of_lt (Nat.sub_le ..) (Nat.pow_lt_pow_right (by decide) hn))
  obtain rfl | rfl : l = 0 ∨ l = 1 := by omega
  all_goals
    refine ⟨?_, ?_, ?_, ?_⟩ <;> rw [hshown _ (by decide)] <;> unfold Dev.rosterShown <;> rw [heach _ _ (by decide)] <;>
      simp (disch := decide) only [Dev.putB, Dev.get_put_apart, Dev.get_put_same, if_true, if_false, one_ne_zero]
    · exact hpow
    · rfl
    · exact Nat.mod_eq_of_lt (Nat.lt_trans hn (by decide))
    · rfl

/-! ## The commands of a search -/

section
variable (q : List Instr)

theorem exec_bdlSearch (hacc : d.accepts BDL_CTRL_SRCH) :
    exec (.bdlSearch 1) ⟨d, q⟩ = .next ⟨(d.searchAsk 0).commandDone, q⟩ :=
  State.lift_takes_grow q hacc rfl ((Dev.Grow.refl d).searchAsk 0)

theorem Dev.searchAsk_up (hup : d.bdlUp l = true) (hs : d.bit (BDL_LSTAT_SRCH l) = false) : d.searchAsk l
    = if (d.bline l).act = .idle then d.searchStart l else d.setBline l { d.bline l with wanted := true } :=
  if_neg (by simp [hup, hs])

section
variable (hs : d.settled) (hl : l < 2) {e : Dev}
include hs hl

theorem exec_bdlWaitEnd (h : bdlWaitEndDev l d = e) (hg : Dev.Grow d e) : exec (.bdlWaitEnd l) ⟨d, q⟩ = .next ⟨e, q⟩ :=
  State.lift_grow q hs ((if_pos hl).trans h) hg

theorem exec_bdlFrameEnd {r : BdlReply} (h : bdlFrameEndDev l r d = e) (hg : Dev.Grow d e) :
    exec (.bdlFrameEnd l r) ⟨d, q⟩ = .next ⟨e, q⟩ :=
  State.lift_grow q hs ((if_pos hl).trans h) hg

end

/-- The waits of a search and of the strong pull-up (R438, R442). -/
theorem bdlWaitEndDev_of : ((d.bline l).act = .restart → bdlWaitEndDev l d = d.bdlStep l .frontier)
    ∧ (∀ p, (d.bline l).act = .powerUp p → p ≠ 32 → bdlWaitEndDev l d = d.bdlStep l (.assign (p + 1)))
    ∧ ((d.bline l).act = .pull → d.schedReads l ≠ [] → bdlWaitEndDev l d = d.bdlStep l (.reads (d.schedReads l)))
    ∧ ((d.bline l).act = .hostPull → bdlWaitEndDev l d = d.xferEnd l 0) := by
  unfold bdlWaitEndDev
  refine ⟨fun h => ?_, fun p h hp => ?_, fun h hr => ?_, fun h => ?_⟩ <;> rw [h]
  · exact if_neg hp
  · obtain ⟨r, rs, hrs⟩ := List.exists_cons_of_ne_nil hr
    rw [hrs]
    rfl

section
variable {c a : Nat} {r : BdlReply} (hf : d.frameOf l = some (c, a))
include hf

/-- A frame that passes leads to the next of the search (R438). -/
theorem bdlFrameEndDev_passed (hj : judge c a r = 0) :
    ((d.bline l).act = .frontier → bdlFrameEndDev l r d = d.bdlStep l (.assign 1))
    ∧ ((d.bline l).act = .assign 1 → bdlFrameEndDev l r d = d.bdlStep l (.pass 1))
    ∧ (∀ p, (d.bline l).act = .assign p → p ≠ 1 → bdlFrameEndDev l r d = d.bdlStep l (.checkPrev p))
    ∧ (∀ p, (d.bline l).act = .checkPrev p → bdlFrameEndDev l r d = d.bdlStep l (.pass p))
    ∧ (∀ p, (d.bline l).act = .pass p → bdlFrameEndDev l r d = d.bdlTo l (.powerUp p))
    ∧ (∀ p, (d.bline l).act = .checkLast p → bdlFrameEndDev l r d = (d.searchEnd l (p - 1) false false).bdlFree l) := by
  have hok : decide (judge c a r = 0) = true := decide_eq_true hj
  unfold bdlFrameEndDev
  rw [hf]
  dsimp only
  rw [hok, if_neg (by simp)]
  refine ⟨fun h => ?_, fun h => ?_, fun p h hp => ?_, fun p h => ?_, fun p h => ?_, fun p h => ?_⟩ <;> rw [h]
  · exact if_pos rfl
  · exact (if_pos rfl).trans (if_pos rfl)
  · exact (if_pos rfl).trans (if_neg hp)
  · exact if_pos rfl
  · exact if_pos rfl
  · exact if_pos rfl

/-- A frame that fails is sent once more (R437). -/
theorem bdlFrameEndDev_again (hj : judge c a r ≠ 0) (ha : (d.bline l).again = false) (hh : (d.bline l).act ≠ .host) :
    bdlFrameEndDev l r d = (d.setBline l { d.bline l with again := true }).bdlSend l := by
  unfold bdlFrameEndDev
  rw [hf]
  exact if_pos (by simp [hj, ha, hh])

end

/-- Settles O46: the steps of a search, each as its command. -/
theorem beadlineSearchCompletes : Obligations.BeadlineSearchCompletes := by
  unfold Obligations.BeadlineSearchCompletes
  refine ⟨fun d q hacc hup hsrch => ⟨fun hidle => ?_, fun hbusy => ?_⟩, fun d q l hs hl hup hsrch hvalid hidle => ?_,
    fun d q l hs hl => ?_, fun d q l r hs hl => ⟨fun c a hf hj => ?_, fun c a hf hj ha hh => ?_⟩⟩
  · have hask : d.searchAsk 0 = d.searchStart 0 := (Dev.searchAsk_up hup hsrch).trans (if_pos hidle)
    obtain ⟨h1, h2, h3, h4⟩ := Dev.searchStart_shows (d := d) (l := 0) (by decide)
    refine ⟨_, exec_bdlSearch q hacc, ?_⟩
    rw [hask]
    dsimp only
    rw [Dev.commandDone_get _ _ (by decide), Dev.commandDone_get _ _ (by decide), Dev.commandDone_get _ _ (by decide),
      Dev.commandDone_get _ _ (by decide), Dev.commandDone_bdl]
    exact ⟨h1, h2, h3, h4, congrArg BdlLine.act (d.searchStart_bline 0), d.searchStart_other⟩
  · have hask : d.searchAsk 0 = { d with bdl := { d.bdl with l0 := { d.bdl.l0 with wanted := true } } } :=
      (Dev.searchAsk_up hup hsrch).trans (if_neg hbusy)
    rw [exec_bdlSearch q hacc, hask]
  · have hask : d.searchAsk l = d.searchStart l := (Dev.searchAsk_up hup hsrch).trans (if_pos hidle)
    refine ⟨fun hauto => ?_, fun hauto => ?_⟩
    · exact State.lift_grow q hs ((if_pos ⟨hl, hauto, by simp [hvalid]⟩).trans hask) ((Dev.Grow.refl d).searchStart l)
    · exact State.lift_grow q hs (if_neg (by simp [hauto])) (Dev.Grow.refl d)
  · obtain ⟨hrestart, hpower, hpull, hhost⟩ := bdlWaitEndDev_of (d := d) (l := l)
    have hd := Dev.Grow.refl d
    refine ⟨fun h => exec_bdlWaitEnd q hs hl (hrestart h) (hd.bdlStep ..),
      fun p h hp => exec_bdlWaitEnd q hs hl (hpower p h hp) (hd.bdlStep ..),
      fun h hr => exec_bdlWaitEnd q hs hl (hpull h hr) (hd.bdlStep ..), fun h => ?_⟩
    obtain ⟨hdone, herr, hx, -⟩ := d.xferEnd_shows hl 0
    exact ⟨_, exec_bdlWaitEnd q hs hl (hhost h) (hd.xferEnd ..), hdone, herr, hx⟩
  · obtain ⟨hfront, hfirst, hassign, hprev, hpass, hlast⟩ := bdlFrameEndDev_passed hf hj
    have hd := Dev.Grow.refl d
    refine ⟨fun h => exec_bdlFrameEnd q hs hl (hfront h) (hd.bdlStep ..),
      fun h => exec_bdlFrameEnd q hs hl (hfirst h) (hd.bdlStep ..),
      fun p h hp => exec_bdlFrameEnd q hs hl (hassign p h hp) (hd.bdlStep ..),
      fun p h => exec_bdlFrameEnd q hs hl (hprev p h) (hd.bdlStep ..),
      fun p h => exec_bdlFrameEnd q hs hl (hpass p h) (hd.bdlTo ..), fun p h hp => ?_⟩
    obtain ⟨hroster, hvalid, hn, hchg⟩ := d.searchEnd_shows hl (show p - 1 < 32 by omega)
    have hl' : l = 0 ∨ l = 1 := by omega
    refine ⟨_, exec_bdlFrameEnd q hs hl (hlast p h) ((hd.searchEnd ..).bdlFree l), ?_, ?_, ?_, ?_⟩
    · exact (Dev.bdlFree_get (by rcases hl' with rfl | rfl <;> decide)).trans hroster
    · exact (Dev.bdlFree_get (by rcases hl' with rfl | rfl <;> decide)).trans hvalid
    · exact (Dev.bdlFree_get (by rcases hl' with rfl | rfl <;> decide)).trans hn
    · exact Dev.bdlFree_unchanged hl hchg
  · exact exec_bdlFrameEnd q hs hl (bdlFrameEndDev_again hf hj ha hh) (((Dev.Grow.refl d).setBline ..).bdlSend l)

end

end

end Sys2Proof.Machine
end

section
/-!
SUPPORT. The schedule, the host transactions and the faults of a Beadline line (16, R440 to R445).
-/

namespace Sys2Proof.Machine

section
variable {d : Dev} {l : Nat} (q : List Instr)

/-! ## The schedule -/



theorem exec_bdlScheduleFrame_starts (hs : d.settled) (hr : d.schedRuns l = true) (hen : d.bit (BDL_SCH_EN l) = true)
    (hp : d.pend bdlBase l = false) (hidle : (d.bline l).act = .idle) :
    exec (.bdlScheduleFrame l) ⟨d, q⟩ = .next ⟨(d.setBline l { d.bline l with done := [] }).bdlStep l .convert, q⟩ := by
  refine State.lift_grow q hs ?_ (((Dev.Grow.refl d).setBline ..).bdlStep ..)
  rw [if_pos ⟨hr, hen⟩, if_pos hidle, Dev.evalGroup_idle hp]
  exact if_pos hen

/-- A frame start that finds its line busy counts an overrun (R441). -/
theorem exec_bdlScheduleFrame_overruns (hs : d.settled) (hr : d.schedRuns l = true) (hen : d.bit (BDL_SCH_EN l) = true)
    (hbusy : (d.bline l).act ≠ .idle) (hsaid : (d.bline l).overSaid = true) :
    exec (.bdlScheduleFrame l) ⟨d, q⟩
      = .next ⟨d.put (BDL_LSTAT_OVRUN l) (min 255 (d.get (BDL_LSTAT_OVRUN l) + 1)), q⟩ := by
  refine State.lift_grow q hs ?_ ((Dev.Grow.refl d).put ..)
  rw [if_pos ⟨hr, hen⟩, if_neg hbusy]
  unfold Dev.schedSkip
  extract_lets e
  have hline : e.bline l = d.bline l := Dev.bline_put ..
  rw [hline]
  exact if_pos hsaid

/-! ## Host transactions -/

theorem Dev.get_withBdl (e : Dev) (x : BdlSt) (f : Fld) : ({ e with bdl := x } : Dev).get f = e.get f := rfl

section
variable {v : Word} (hacc : d.accepts BDL_XCTL_GO) (hgo : bitsOf v 31 31 = 1)
include hacc hgo

theorem exec_bdlXctlGo_refused
    (h : (d.setWord BDL_XCTL_CODE.addr (v &&& 0x011F3FFF#32)).bit (BDL_LSTAT_SRCH (bitsOf v 24 24)) = true
      ∨ d.bdl.xfer ≠ none) :
    exec (.bdlXctlGo v) ⟨d, q⟩
      = .next ⟨((d.setWord BDL_XCTL_CODE.addr (v &&& 0x011F3FFF#32)).put BDL_XRES_REFUSED 1).commandDone, q⟩ := by
  refine State.lift_takes_grow q hacc ?_ (((Dev.Grow.refl d).setWord ..).put ..)
  unfold bdlXctlGoDev
  dsimp only
  rw [if_neg (by simp [hgo]), Dev.setWord_bdl]
  refine if_pos ?_
  rcases h with h | h
  · exact .inl h
  · exact .inr (.inl (Option.isSome_iff_ne_none.mpr h))

/-- A read of a probe starts on a free line (R441). -/
theorem exec_bdlXctlGo_starts
    (hsrch : (d.setWord BDL_XCTL_CODE.addr (v &&& 0x011F3FFF#32)).bit (BDL_LSTAT_SRCH (bitsOf v 24 24)) = false)
    (hx : d.bdl.xfer = none) (hcode : bitsOf v 20 16 = 0)
    (hup : (d.setWord BDL_XCTL_CODE.addr (v &&& 0x011F3FFF#32)).bdlUp (bitsOf v 24 24) = true)
    (hidle : (d.bline (bitsOf v 24 24)).act = .idle) :
    ∃ t, exec (.bdlXctlGo v) ⟨d, q⟩ = .next t ∧ t.dev.get BDL_XRES_REFUSED = 0
      ∧ t.dev.bdl.xfer = some ⟨bitsOf v 24 24, 0, bitsOf v 13 8, bitsOf v 7 0⟩
      ∧ (t.dev.bline (bitsOf v 24 24)).act = .host := by
  let c := (d.setWord BDL_XCTL_CODE.addr (v &&& 0x011F3FFF#32)).put BDL_XRES_REFUSED 0
  let e : Dev := { c with bdl := { c.bdl with xfer := some ⟨bitsOf v 24 24, 0, bitsOf v 13 8, bitsOf v 7 0⟩ } }
  have hl : bitsOf v 24 24 < 2 := Nat.mod_lt _ (by decide)
  have hcup : c.bdlUp (bitsOf v 24 24) = true := by
    rw [← hup]
    refine Dev.bdlUp_congr (Dev.monitoring_congr (Dev.put_pw ..) (Dev.put_fw ..) (Dev.word_put_other _ _ _ _ (by decide))) ?_ ?_
    · exact Dev.get_put_apart _ _ _ _ (by decide) (by decide) (by decide)
    · generalize bitsOf v 24 24 = l at hl
      obtain rfl | rfl : l = 0 ∨ l = 1 := by omega
      all_goals exact Dev.get_put_apart _ _ _ _ (by decide) (by decide) (by decide)
  have hline : (e.bline (bitsOf v 24 24)).act = .idle := by
    rw [← hidle]
    unfold Dev.bline
    simp only [e, c, Dev.put_bdl, Dev.setWord_bdl]
  have hend : bdlXctlGoDev v d = e.bdlStep (bitsOf v 24 24) .host := by
    unfold bdlXctlGoDev
    dsimp only
    rw [if_neg (by simp [hgo]), if_neg (by simp [hsrch, hx, hcode]), if_neg (by simpa using hcup), hcode]
    exact if_pos hline
  have hg : Dev.Grow d e := (((Dev.Grow.refl d).setWord ..).put ..).trans (Dev.Kin.bdl' ..).grow
  refine ⟨_, State.lift_takes_grow q hacc hend (hg.bdlStep ..), ?_, ?_, ?_⟩ <;> dsimp only
  · rw [Dev.commandDone_get _ _ (by decide), Dev.get_bdlStep, Dev.get_withBdl]
    exact Dev.get_put_same _ _ _ (by decide)
  · rw [Dev.commandDone_bdl, Dev.bdlStep_xfer]
  · rw [Dev.bline_congr (Dev.commandDone_bdl ..), Dev.bline_bdlStep]

end

/-! ## Faults and shorts -/

section
variable (hs : d.settled) (hl : l < 2)
include hs hl

theorem exec_bdlSpuFault {e : Dev} (h : bdlSpuFaultDev l d = e) (hg : Dev.Grow d e) :
    exec (.bdlSpuFault l) ⟨d, q⟩ = .next ⟨e, q⟩ :=
  State.lift_grow q hs ((if_pos hl).trans h) hg

omit hs in
/-- The fault that cuts off a strong pull-up is shown (R442). -/
theorem Dev.spuFault_shown (d : Dev) :
    ((d.put (BDL_LSTAT_SPUERR l) 1).raise 0xA007 0 [l]).get (BDL_LSTAT_SPUERR l) = 1 := by
  obtain rfl | rfl : l = 0 ∨ l = 1 := by omega
  all_goals
    rw [Dev.raise_get _ _ _ _ _ (by decide)]
    exact Dev.get_put_same _ _ _ (by decide)

theorem exec_bdlSpuFault_pull (hact : (d.bline l).act = .pull) (hx : d.bdl.xfer = none) (hw : (d.bline l).wanted = false) :
    ∃ t, exec (.bdlSpuFault l) ⟨d, q⟩ = .next t ∧ t.dev.get (BDL_LSTAT_SPUERR l) = 1 ∧ (t.dev.bline l).act = .idle := by
  let e := (d.put (BDL_LSTAT_SPUERR l) 1).raise 0xA007 0 [l]
  have hbdl : e.bdl = d.bdl := (Dev.raise_bdl ..).trans (Dev.put_bdl ..)
  have hend : bdlSpuFaultDev l d = e.bdlTo l .idle := by
    unfold bdlSpuFaultDev
    rw [hact]
    exact Dev.bdlFree_idle (by rw [hbdl, hx]) (by rw [Dev.bline_congr hbdl, hw])
  refine ⟨_, exec_bdlSpuFault q hs hl hend ((((Dev.Grow.refl d).put ..).raise ..).bdlTo ..), ?_, ?_⟩
  · exact (Dev.get_bdlTo ..).trans (Dev.spuFault_shown hl d)
  · rw [Dev.bline_bdlTo]

theorem exec_bdlSpuFault_hostPull (hact : (d.bline l).act = .hostPull) :
    ∃ t, exec (.bdlSpuFault l) ⟨d, q⟩ = .next t ∧ t.dev.get BDL_XRES_ERR = 3 ∧ t.dev.get (BDL_LSTAT_SPUERR l) = 1 := by
  let e := (d.put (BDL_LSTAT_SPUERR l) 1).raise 0xA007 0 [l]
  have hend : bdlSpuFaultDev l d = e.xferEnd l 3 := by
    unfold bdlSpuFaultDev
    rw [hact]
  obtain ⟨-, herr, -, hspu⟩ := e.xferEnd_shows hl 3
  exact ⟨_, exec_bdlSpuFault q hs hl hend ((((Dev.Grow.refl d).put ..).raise ..).xferEnd ..), herr,
    hspu.trans (Dev.spuFault_shown hl d)⟩

end

end

/-! ## Devices whose events are alike -/

/-- The devices raise events alike: what an event depends on is the same. -/
structure Dev.Alike (d e : Dev) : Prop where
  spn  : e.spn = d.spn
  role : e.role = d.role
  saf  : e.saf = d.saf
  cur  : e.get PWR_STAT_CUR = d.get PWR_STAT_CUR

namespace Dev.Alike

variable {d e f : Dev}

theorem refl (d : Dev) : Dev.Alike d d := ⟨rfl, rfl, rfl, rfl⟩

theorem trans (h : Dev.Alike d e) (g : Dev.Alike e f) : Dev.Alike d f :=
  ⟨g.spn.trans h.spn, g.role.trans h.role, g.saf.trans h.saf, g.cur.trans h.cur⟩

theorem ite {c : Prop} [Decidable c] (h : Dev.Alike d e) (g : Dev.Alike d f) : Dev.Alike d (if c then e else f) := by
  split <;> assumption

theorem setWord (h : Dev.Alike d e) {a : Nat} (ha : a ≠ PWR_STAT_CUR.addr) (v : Word) : Dev.Alike d (e.setWord a v) := by
  refine h.trans ⟨rfl, rfl, rfl, ?_⟩
  unfold Dev.get
  rw [Dev.word_setWord, if_neg ha.symm]

theorem put (h : Dev.Alike d e) {g : Fld} (ha : g.addr ≠ PWR_STAT_CUR.addr) (v : Nat) : Dev.Alike d (e.put g v) :=
  h.setWord ha _

theorem setBline (h : Dev.Alike d e) (l : Nat) (x : BdlLine) : Dev.Alike d (e.setBline l x) := by
  refine h.trans ?_
  unfold Dev.setBline
  split <;> exact ⟨rfl, rfl, rfl, rfl⟩

theorem withBdl (h : Dev.Alike d e) (x : BdlSt) : Dev.Alike d { e with bdl := x } := h.trans ⟨rfl, rfl, rfl, rfl⟩

/-- The event that a device raises is new to the other. -/
theorem newEvent (h : Dev.Alike d e) (hk : d.keepsEvents) {code src : Nat} {items : List Nat}
    (hp : (e.raise code src items).spn.evq <+: f.spn.evq) : d.newEvent f code items :=
  Dev.newEvent_raise d e f code src items hk (by rw [h.spn]) h.role (by rw [h.saf]) h.cur hp

end Dev.Alike

/-! ## A line that is given up -/

section
variable {d : Dev} {l : Nat} (q : List Instr)

/-- The fields that dropping a line does not write. -/
def dropKeeps (l : Nat) (f : Fld) : Bool :=
  f.wf && (BDL_LSTAT_SRCH l).apart f && (BDL_LSTAT_VALID l).apart f && BDL_XRES_DONE.apart f && BDL_XRES_ERR.apart f

/-- The line with its search broken off. -/
def Dev.searchBroken (d : Dev) (l : Nat) : Dev :=
  if d.bit (BDL_LSTAT_SRCH l) then (d.put (BDL_LSTAT_SRCH l) 0).put (BDL_LSTAT_VALID l) 0 else d

/-- The line with nothing running or asked for. -/
def Dev.lineStopped (d : Dev) (l : Nat) : Dev :=
  d.setBline l { d.bline l with act := .idle, again := false, wanted := false }

/-- The transaction in progress ended with a code. -/
def Dev.xferGivenUp (d : Dev) (err : Nat) : Dev :=
  (({ d with bdl := { d.bdl with xfer := none } } : Dev).put BDL_XRES_DONE 1).put BDL_XRES_ERR err

/-- Dropping a line breaks its search off, stops it, and gives up a transaction of that line. -/
theorem Dev.bdlDrop_cases (d : Dev) (l err : Nat) :
    d.bdlDrop l err = (d.searchBroken l).lineStopped l
    ∨ d.bdlDrop l err = ((d.searchBroken l).lineStopped l).xferGivenUp err := by
  unfold Dev.bdlDrop
  extract_lets e1 e2
  split
  · split
    · exact .inr rfl
    · exact .inl rfl
  · exact .inl rfl

theorem Dev.bdlDrop_idle (d : Dev) (l err : Nat) : ((d.bdlDrop l err).bline l).act = .idle := by
  have hidle : (((d.searchBroken l).lineStopped l).bline l).act = .idle := congrArg BdlLine.act (Dev.bline_setBline ..)
  rcases d.bdlDrop_cases l err with h | h <;> rw [h]
  · exact hidle
  · refine Eq.trans (congrArg BdlLine.act ?_) hidle
    unfold Dev.xferGivenUp
    rw [Dev.bline_put, Dev.bline_put]
    rfl

theorem Dev.bdlDrop_get {f : Fld} (h : dropKeeps l f = true) (err : Nat) : (d.bdlDrop l err).get f = d.get f := by
  unfold dropKeeps at h
  simp only [Bool.and_eq_true] at h
  obtain ⟨⟨⟨⟨hf, hs⟩, hv⟩, hdone⟩, herr⟩ := h
  have hbroken : (d.searchBroken l).get f = d.get f := by
    unfold Dev.searchBroken
    split
    · rw [Dev.get_put_apart _ _ _ _ rfl hf hv, Dev.get_put_apart _ _ _ _ rfl hf hs]
    · rfl
  have hstop : ((d.searchBroken l).lineStopped l).get f = d.get f := (Dev.get_setBline ..).trans hbroken
  rcases d.bdlDrop_cases l err with h | h <;> rw [h]
  · exact hstop
  · unfold Dev.xferGivenUp
    rw [Dev.get_put_apart _ _ _ _ rfl hf herr, Dev.get_put_apart _ _ _ _ rfl hf hdone, Dev.get_withBdl, hstop]

theorem Dev.Alike.bdlDrop {e : Dev} (h : Dev.Alike d e) (hl : l < 2) (err : Nat) : Dev.Alike d (e.bdlDrop l err) := by
  have hlstat : ∀ l < 2, (BDL_LSTAT_SRCH l).addr ≠ PWR_STAT_CUR.addr ∧ (BDL_LSTAT_VALID l).addr ≠ PWR_STAT_CUR.addr := by
    decide
  obtain ⟨hs, hv⟩ := hlstat l hl
  have hstop : Dev.Alike d ((e.searchBroken l).lineStopped l) := (((h.put hs _).put hv _).ite h).setBline l _
  rcases e.bdlDrop_cases l err with heq | heq <;> rw [heq]
  · exact hstop
  · exact ((hstop.withBdl _).put (by decide) _).put (by decide) _

/-- A short gives up what runs on its line, with its event (R445). -/
theorem exec_bdlShort_shorts (hs : d.settled) (hl : l < 2) (hup : d.bdlUp l = true) :
    ∃ t, exec (.bdlShort l) ⟨d, q⟩ = .next t ∧ t.dev.get (BDL_LSTAT_SHORT l) = 1
      ∧ (t.dev.bline l).act = .idle ∧ (d.keepsEvents → d.newEvent t.dev 0xA006 [l]) := by
  have hl' : l = 0 ∨ l = 1 := by omega
  have hend : bdlShortDev l d = ((d.put (BDL_LSTAT_SHORT l) 1).bdlDrop l 3).raise 0xA006 0 [l] := if_pos ⟨hl, hup⟩
  refine ⟨_, State.lift_grow q hs ((if_pos hl).trans hend) ((((Dev.Grow.refl d).put ..).bdlDrop ..).raise ..), ?_, ?_,
    fun hk => ?_⟩
  · dsimp only
    rcases hl' with rfl | rfl <;>
      rw [Dev.raise_get _ _ _ _ _ (by decide), Dev.bdlDrop_get (by decide)] <;> exact Dev.get_put_same _ _ _ (by decide)
  · dsimp only
    rw [Dev.bline_raise, Dev.bdlDrop_idle]
  · have hshort : (BDL_LSTAT_SHORT l).addr ≠ PWR_STAT_CUR.addr := by rcases hl' with rfl | rfl <;> decide
    exact (((Dev.Alike.refl d).put hshort 1).bdlDrop hl 3).newEvent hk (List.prefix_refl _)

/-! ## Enabling a line -/

theorem exec_bdlLineEnable {en : Bool} {e : Dev} (hacc : d.accepts BDL_CFG_LEN) (hl : l < 2)
    (h : bdlLineEnableDev l en d = e) (hg : Dev.Grow d e) : exec (.bdlLineEnable l en) ⟨d, q⟩ = .next ⟨e.commandDone, q⟩ := by
  exact (congrArg (State.lift ⟨d, q⟩) (funext fun _ => if_pos hl)).trans (State.lift_takes_grow q hacc h hg)

/-- A line that is enabled anew starts without a roster (R445). -/
theorem exec_bdlLineEnable_on (hacc : d.accepts BDL_CFG_LEN) (hl : l < 2) (hoff : d.bitAt BDL_CFG_LEN l = false) :
    ∃ t, exec (.bdlLineEnable l true) ⟨d, q⟩ = .next t ∧ t.dev.bitAt BDL_CFG_LEN l = true
      ∧ t.dev.get (BDL_LSTAT_SHORT l) = 0 ∧ t.dev.get (BDL_LSTAT_VALID l) = 0 := by
  let e := d.put BDL_CFG_LEN (setNat (d.get BDL_CFG_LEN) l l 1)
  have hlen : e.bitAt BDL_CFG_LEN l = true := Dev.bitAt_put_setNat d (by decide) hl ..
  have hend : bdlLineEnableDev l true d = (e.put (BDL_LSTAT_SHORT l) 0).put (BDL_LSTAT_VALID l) 0 := by
    unfold bdlLineEnableDev
    rw [if_neg (by omega), hoff]
    rfl
  refine ⟨_, exec_bdlLineEnable q hacc hl hend ((((Dev.Grow.refl d).put ..).put ..).put ..), ?_⟩
  unfold Dev.bitAt at hlen ⊢
  obtain rfl | rfl : l = 0 ∨ l = 1 := by omega
  all_goals
    dsimp only
    rw [Dev.commandDone_get _ _ (by decide), Dev.commandDone_get _ _ (by decide), Dev.commandDone_get _ _ (by decide)]
    refine ⟨?_, ?_, Dev.get_put_same _ _ _ (by decide)⟩
    · rw [Dev.get_put_apart _ _ _ _ (by decide) (by decide) (by decide),
        Dev.get_put_apart _ _ _ _ (by decide) (by decide) (by decide), hlen]
    · rw [Dev.get_put_apart _ _ _ _ (by decide) (by decide) (by decide)]
      exact Dev.get_put_same _ _ _ (by decide)

/-- A line that is disabled gives up what runs on it (R445). -/
theorem exec_bdlLineEnable_off (hacc : d.accepts BDL_CFG_LEN) (hl : l < 2) (hon : d.bitAt BDL_CFG_LEN l = true) :
    ∃ t, exec (.bdlLineEnable l false) ⟨d, q⟩ = .next t ∧ t.dev.bitAt BDL_CFG_LEN l = false
      ∧ (t.dev.bline l).act = .idle := by
  let e := d.put BDL_CFG_LEN (setNat (d.get BDL_CFG_LEN) l l 0)
  have hlen : e.bitAt BDL_CFG_LEN l = false := Dev.bitAt_put_setNat d (by decide) hl ..
  have hend : bdlLineEnableDev l false d = e.bdlDrop l 1 := by
    unfold bdlLineEnableDev
    rw [if_neg (by omega), hon]
    rfl
  refine ⟨_, exec_bdlLineEnable q hacc hl hend (((Dev.Grow.refl d).put ..).bdlDrop ..), ?_, ?_⟩ <;> dsimp only
  · unfold Dev.bitAt at hlen ⊢
    obtain rfl | rfl : l = 0 ∨ l = 1 := by omega
    all_goals rw [Dev.commandDone_get _ _ (by decide), Dev.bdlDrop_get (by decide), hlen]
  · rw [Dev.bline_congr (Dev.commandDone_bdl ..), Dev.bdlDrop_idle]

/-- Settles O47: schedule frames, host transactions, faults and the enabling of a line. -/
theorem beadlineFramesComplete : Obligations.BeadlineFramesComplete := by
  unfold Obligations.BeadlineFramesComplete
  refine ⟨fun d q l hs hr hen hp => ⟨exec_bdlScheduleFrame_starts q hs hr hen hp,
      exec_bdlScheduleFrame_overruns q hs hr hen⟩, fun d q v hacc hgo =>
    ⟨exec_bdlXctlGo_refused q hacc hgo, exec_bdlXctlGo_starts q hacc hgo⟩, fun d q l hs hl =>
    ⟨exec_bdlSpuFault_pull q hs hl, exec_bdlSpuFault_hostPull q hs hl, exec_bdlShort_shorts q hs hl⟩,
    fun d q l hacc hl => ⟨exec_bdlLineEnable_on q hacc hl, exec_bdlLineEnable_off q hacc hl⟩⟩

end

end Sys2Proof.Machine
end

section
/-!
SUPPORT. Self-test of the SRAM banks (19, R491 to R496): what a test of a bank shows, and what REPAIR and RETIRE burn.
-/

namespace Sys2Proof.Machine

/-! ## What no command changes, but for the fuses -/

/-- No request is opened, and build and role stay. -/
structure Dev.Framed (d e : Dev) : Prop where
  asks  : e.asks = d.asks
  build : e.build = d.build
  role  : e.role = d.role

namespace Dev.Framed

variable {d e f : Dev}

theorem refl (d : Dev) : Dev.Framed d d := ⟨rfl, rfl, rfl⟩

theorem trans (h : Dev.Framed d e) (g : Dev.Framed e f) : Dev.Framed d f :=
  ⟨g.asks.trans h.asks, g.build.trans h.build, g.role.trans h.role⟩

theorem ite {c : Prop} [Decidable c] (h : Dev.Framed d e) (g : Dev.Framed d f) : Dev.Framed d (if c then e else f) := by
  split <;> assumption

theorem put (h : Dev.Framed d e) (g : Fld) (v : Nat) : Dev.Framed d (e.put g v) := h.trans ⟨rfl, rfl, rfl⟩

theorem raise (h : Dev.Framed d e) (code src : Nat) (items : List Nat) : Dev.Framed d (e.raise code src items) :=
  h.trans ⟨Dev.raise_asks .., Dev.raise_build .., Dev.raise_role ..⟩

theorem each {α : Type} (h : Dev.Framed d e) (xs : List α) {step : Dev → α → Dev}
    (hstep : ∀ c x, Dev.Framed d c → Dev.Framed d (step c x)) : Dev.Framed d (e.each xs step) :=
  List.foldlRecOn (motive := Dev.Framed d) xs step h fun c hc x _ => hstep c x hc

theorem withBst (h : Dev.Framed d e) (x : BistSt) : Dev.Framed d { e with bst := x } := h.trans ⟨rfl, rfl, rfl⟩
theorem withFz (h : Dev.Framed d e) (x : Fuses) : Dev.Framed d { e with fz := x } := h.trans ⟨rfl, rfl, rfl⟩
theorem withCap (h : Dev.Framed d e) (x : CapSt) : Dev.Framed d { e with cap := x } := h.trans ⟨rfl, rfl, rfl⟩

theorem fitCap (h : Dev.Framed d e) : Dev.Framed d e.fitCap := (((h.withCap _).put ..).put ..).put ..
theorem putBit (h : Dev.Framed d e) (g : Fld) (i : Nat) (v : Bool) : Dev.Framed d (e.putBit g i v) := h.put ..

theorem commandDone (h : Dev.Framed d e) : Dev.Framed d e.commandDone :=
  h.trans ⟨Dev.commandDone_asks .., Dev.commandDone_build .., Dev.commandDone_role ..⟩

end Dev.Framed

section
variable {d : Dev} (q : List Instr) {f : Dev → Dev} {g : Fld}

/-- A lifted command keeps the fuses that were burned (R498). -/
theorem State.lift_framed (hs : d.settled) (h : Dev.Framed d (f d)) :
    (⟨d, q⟩ : State).lift f = .next ⟨{ f d with fz := d.fz.kept (f d).fz }, q⟩ := by
  unfold State.lift Dev.after
  simp only [Dev.takeAsks_nil _ _ (h.asks.trans hs), ← h.build, ← h.role]

theorem State.lift_takes_framed (hacc : d.accepts g) (h : Dev.Framed d (f d)) :
    (⟨d, q⟩ : State).lift (Dev.actWrite g f)
      = .next ⟨{ (f d).commandDone with fz := d.fz.kept (f d).fz }, q⟩ := by
  have hact := Dev.actWrite_awake g f d hacc.1.2 hacc.2
  rw [State.lift_framed q hacc.1.1 (by rw [hact]; exact h.commandDone), hact, Dev.commandDone_fz]

/-- Where no fuse is burned the command is its effect. -/
theorem State.lift_unburned (hs : d.settled) (h : Dev.Framed d (f d)) (hz : (f d).fz = d.fz) :
    (⟨d, q⟩ : State).lift f = .next ⟨f d, q⟩ :=
  State.lift_runs d q f _ rfl (h.asks.trans hs) h.build h.role hz

theorem State.lift_takes_unburned (hacc : d.accepts g) (h : Dev.Framed d (f d)) (hz : (f d).fz = d.fz) :
    (⟨d, q⟩ : State).lift (Dev.actWrite g f) = .next ⟨(f d).commandDone, q⟩ :=
  State.lift_takes d q g f _ hacc rfl (h.asks.trans hacc.1.1) h.build h.role hz

theorem Dev.get_withFz (e : Dev) (x : Fuses) (f : Fld) : ({ e with fz := x } : Dev).get f = e.get f := rfl
theorem Dev.get_withBst (e : Dev) (x : BistSt) (f : Fld) : ({ e with bst := x } : Dev).get f = e.get f := rfl

end

/-! ## The capture buffer gives way -/

section
variable (d : Dev)

theorem Dev.fitCap_bst : d.fitCap.bst = d.bst := by
  unfold Dev.fitCap Dev.showCap
  simp only [Dev.put_bst]

theorem Dev.fitCap_fz : d.fitCap.fz = d.fz := by
  unfold Dev.fitCap Dev.showCap
  simp only [Dev.put_fz]

theorem Dev.fitCap_spn : d.fitCap.spn = d.spn := by
  unfold Dev.fitCap Dev.showCap
  simp only [Dev.put_spn]

theorem Dev.word_withCap (e : Dev) (x : CapSt) (a : Nat) : ({ e with cap := x } : Dev).word a = e.word a := rfl

theorem Dev.fitCap_get {f : Fld} (hf : f.addr < FW_CAPST_NCAP.addr) : d.fitCap.get f = d.get f := by
  unfold Dev.fitCap Dev.showCap
  dsimp only
  unfold Dev.get
  rw [Dev.word_put_other _ _ _ _ (by simp only [FW_CAPCNT_HELD, FW_CAPST_NCAP] at *; omega),
    Dev.word_put_other _ _ _ _ (by simp only [FW_CAPOLD, FW_CAPST_NCAP] at *; omega),
    Dev.word_put_other _ _ _ _ (by simp only [FW_CAPST_NCAP] at *; omega), Dev.word_withCap]

theorem Dev.Alike.withCap {d e : Dev} (h : Dev.Alike d e) (x : CapSt) : Dev.Alike d { e with cap := x } :=
  h.trans ⟨rfl, rfl, rfl, rfl⟩

theorem Dev.Alike.withBst {d e : Dev} (h : Dev.Alike d e) (x : BistSt) : Dev.Alike d { e with bst := x } :=
  h.trans ⟨rfl, rfl, rfl, rfl⟩

theorem Dev.Alike.fitCap {d e : Dev} (h : Dev.Alike d e) : Dev.Alike d e.fitCap := by
  unfold Dev.fitCap Dev.showCap
  exact (((h.withCap _).put (by decide) _).put (by decide) _).put (by decide) _

theorem Dev.bankStart_bst (b : Nat) : (d.bankStart b).bst = d.bst := by
  unfold Dev.bankStart
  rw [Dev.fitCap_bst, Dev.put_bst, Dev.put_bst]

theorem Dev.bankStart_shows {b : Nat} (hb : b < 6) :
    (d.bankStart b).get BST_STAT_STATE = 2 ∧ (d.bankStart b).get BST_STAT_BANK = b := by
  unfold Dev.bankStart
  rw [Dev.fitCap_get _ (by decide), Dev.fitCap_get _ (by decide)]
  refine ⟨?_, ?_⟩ <;> simp (disch := decide) only [Dev.get_put_apart, Dev.get_put_same]
  · rfl
  · exact Nat.mod_eq_of_lt (Nat.lt_trans hb (by decide))

theorem Dev.bankStart_result (b : Nat) : (d.bankStart b).get BST_STAT_RESULT = d.get BST_STAT_RESULT := by
  unfold Dev.bankStart
  rw [Dev.fitCap_get _ (by decide)]
  simp (disch := decide) only [Dev.get_put_apart]

theorem Dev.Framed.bankStart {d e : Dev} (h : Dev.Framed d e) (b : Nat) : Dev.Framed d (e.bankStart b) :=
  ((h.put ..).put ..).fitCap

theorem Dev.bankStart_fz (b : Nat) : (d.bankStart b).fz = d.fz := by
  unfold Dev.bankStart
  rw [Dev.fitCap_fz, Dev.put_fz, Dev.put_fz]

/-- A bit of a mask that is set reads 1. -/
theorem Dev.bitAt_putBit {f : Fld} (hf : f.wf = true) {i : Nat} (hi : i < f.hi + 1 - f.lo) :
    (d.putBit f i true).bitAt f i = true := by
  have hclear : ∀ m : Nat, (if m / 2 ^ i % 2 = 1 then m - 2 ^ i else m).testBit i = false := fun m => by
    split
    · next h =>
      have hset : m.testBit i = true := by rw [Nat.testBit_eq_decide_div_mod_eq, decide_eq_true h]
      have hle : 2 ^ i ≤ m := Nat.ge_two_pow_of_testBit hset
      rw [← Nat.add_sub_cancel' hle, Nat.testBit_two_pow_add_eq] at hset
      simpa using hset
    · next h => rw [Nat.testBit_eq_decide_div_mod_eq, decide_eq_false h]
  unfold Dev.bitAt Dev.putBit
  rw [Dev.get_put_same _ _ _ hf, ← Nat.testBit_eq_decide_div_mod_eq, Nat.testBit_mod_two_pow, decide_eq_true hi,
    Bool.true_and, if_pos rfl, Nat.add_comm, Nat.testBit_two_pow_add_eq, hclear, Bool.not_false]

theorem Dev.putBit_bst (f : Fld) (i : Nat) (v : Bool) : (d.putBit f i v).bst = d.bst := Dev.put_bst ..
theorem Dev.putBit_fz (f : Fld) (i : Nat) (v : Bool) : (d.putBit f i v).fz = d.fz := Dev.put_fz ..

/-! ## The end of a host test -/

theorem Dev.bistEnd_bst (r c : Nat) : (d.bistEnd r c).bst = { d.bst with host := [], bad := false } := by
  unfold Dev.bistEnd
  dsimp only
  rw [Dev.raise_bst, Dev.fitCap_bst, Dev.put_bst, Dev.put_bst, Dev.put_bst]

theorem Dev.bistEnd_fz (r c : Nat) : (d.bistEnd r c).fz = d.fz := by
  unfold Dev.bistEnd
  dsimp only
  rw [Dev.raise_fz, Dev.fitCap_fz, Dev.put_fz, Dev.put_fz, Dev.put_fz]

theorem Dev.bistEnd_shows (r c : Nat) :
    (d.bistEnd r c).get BST_STAT_STATE = 0 ∧ (d.bistEnd r c).get BST_STAT_RESULT = r % 16 := by
  unfold Dev.bistEnd
  dsimp only
  refine ⟨?_, ?_⟩ <;> rw [Dev.raise_get _ _ _ _ _ (by decide), Dev.fitCap_get _ (by decide)] <;>
    simp (disch := decide) only [Dev.get_put_apart, Dev.get_put_same] <;> rfl

/-- The end of a test changes no result of a bank. -/
theorem Dev.bistEnd_get (r c : Nat) {f : Fld} (hf : f.addr < FW_CAPST_NCAP.addr) (hs : f.addr ∉ sendRegs)
    (ha : f.addr ≠ BST_STAT_STATE.addr) : (d.bistEnd r c).get f = d.get f := by
  unfold Dev.bistEnd
  dsimp only
  rw [Dev.raise_get _ _ _ _ _ hs, Dev.fitCap_get _ hf]
  unfold Dev.get
  rw [Dev.word_put_other _ BST_STAT_CAUSE _ _ ha, Dev.word_put_other _ BST_STAT_RESULT _ _ ha,
    Dev.word_put_other _ BST_STAT_STATE _ _ ha]
  exact Dev.get_withBst d _ f

theorem Dev.Framed.bistEnd {d e : Dev} (h : Dev.Framed d e) (r c : Nat) : Dev.Framed d (e.bistEnd r c) :=
  (((((h.withBst _).put ..).put ..).put ..).fitCap).raise ..

/-! ## The tests -/

section
variable {d} (q : List Instr)

/-- The background test takes a bank that is not retired (R492). -/
theorem exec_bistBackground_tests (hs : d.settled) (hm : d.monitoring = true) (hsnap : d.snapBusy = false)
    (htest : d.bankTesting = false) (h : ∃ b, b < 6 ∧ d.bankRetired b = false) :
    ∃ t b, exec .bistBackground ⟨d, q⟩ = .next t ∧ t.dev.bst.bg = some b ∧ d.bankRetired b = false
      ∧ t.dev.get BST_STAT_STATE = 2 ∧ t.dev.get BST_STAT_BANK = b ∧ t.dev.bst.next = (b + 1) % 6 := by
  obtain ⟨b, hfind⟩ : ∃ b, ((List.range 6).map (fun k => (d.bst.next + k) % 6)).find? (fun b => !d.bankRetired b) = some b := by
    rw [← Option.isSome_iff_exists, List.find?_isSome]
    obtain ⟨b, hb, hret⟩ := h
    refine ⟨b, List.mem_map.mpr ⟨(b + 6 - d.bst.next % 6) % 6, List.mem_range.mpr (Nat.mod_lt _ (by decide)), ?_⟩, by simp [hret]⟩
    omega
  have hret : d.bankRetired b = false := by simpa using List.find?_some hfind
  have hb : b < 6 := by
    obtain ⟨k, -, rfl⟩ := List.mem_map.mp (List.mem_of_find?_eq_some hfind)
    exact Nat.mod_lt _ (by decide)
  let e : Dev := { d with bst := { d.bst with bg := some b, next := (b + 1) % 6 } }
  have hend : bistBackgroundDev d = e.bankStart b := by
    unfold bistBackgroundDev
    rw [if_neg (by simp [hm, hsnap, htest]), hfind]
  obtain ⟨hst, hbank⟩ := e.bankStart_shows hb
  refine ⟨_, b, State.lift_unburned q hs (by rw [hend]; exact ((Dev.Framed.refl d).withBst _).bankStart b)
    (by rw [hend]; exact e.bankStart_fz b), ?_, hret, ?_, ?_, ?_⟩ <;> simp only [hend]
  · rw [Dev.bankStart_bst]
  · exact hst
  · exact hbank
  · rw [Dev.bankStart_bst]

/-- The device after its background test has ended. -/
def Dev.bgDone (d : Dev) (b : Nat) : Dev :=
  if d.bst.next ≤ b then (({ d with bst := { d.bst with bg := none } } : Dev).put BST_STAT_STATE 0).countMod BST_BG_CYC 1
  else ({ d with bst := { d.bst with bg := none } } : Dev).put BST_STAT_STATE 0

theorem bistBankDoneDev_bg {o : BistObs} {b : Nat} (hl : d.lathe = true) (hbg : d.bst.bg = some b) :
    bistBankDoneDev o d = if o.pass then (d.bgDone b).fitCap else ((d.bgDone b).bgFail b o).fitCap := by
  unfold bistBankDoneDev
  rw [if_neg (by simp [hl]), hbg]
  rfl

theorem Dev.bgDone_bst (d : Dev) (b : Nat) : (d.bgDone b).bst = { d.bst with bg := none } := by
  unfold Dev.bgDone Dev.countMod
  split <;> simp only [Dev.put_bst]

theorem Dev.bgDone_fz (d : Dev) (b : Nat) : (d.bgDone b).fz = d.fz := by
  unfold Dev.bgDone Dev.countMod
  split <;> simp only [Dev.put_fz]

theorem Dev.bgDone_get (d : Dev) (b : Nat) {f : Fld} (hf : f.wf = true) (h : BST_STAT_STATE.apart f = true)
    (hc : BST_BG_CYC.apart f = true) : (d.bgDone b).get f = d.get f := by
  unfold Dev.bgDone Dev.countMod
  split
  · rw [Dev.get_put_apart _ _ _ _ (by decide) hf hc, Dev.get_put_apart _ _ _ _ (by decide) hf h, Dev.get_withBst]
  · rw [Dev.get_put_apart _ _ _ _ (by decide) hf h, Dev.get_withBst]

theorem Dev.bgDone_state (d : Dev) (b : Nat) : (d.bgDone b).get BST_STAT_STATE = 0 := by
  unfold Dev.bgDone Dev.countMod
  split
  · rw [Dev.get_put_apart _ _ _ _ (by decide) (by decide) (by decide)]
    exact Dev.get_put_same _ _ _ (by decide)
  · exact Dev.get_put_same _ _ _ (by decide)

theorem Dev.Framed.bgDone {e : Dev} (h : Dev.Framed d e) (b : Nat) : Dev.Framed d (e.bgDone b) := by
  unfold Dev.bgDone
  exact ((((h.withBst _).put ..).put ..).ite ((h.withBst _).put ..))

theorem Dev.Alike.bgDone {e : Dev} (h : Dev.Alike d e) (b : Nat) : Dev.Alike d (e.bgDone b) := by
  unfold Dev.bgDone
  exact ((((h.withBst _).put (by decide) _).put (by decide) _).ite ((h.withBst _).put (by decide) _))

theorem exec_bistBankDone_bgPass {o : BistObs} {b : Nat} (hr : d.runs) (hbg : d.bst.bg = some b) (hp : o.pass = true) :
    ∃ t, exec (.bistBankDone o) ⟨d, q⟩ = .next t ∧ t.dev.bst.bg = none ∧ t.dev.get BST_STAT_STATE = 0 := by
  have hend : bistBankDoneDev o d = (d.bgDone b).fitCap := by rw [bistBankDoneDev_bg hr.2 hbg, if_pos hp]
  refine ⟨_, State.lift_unburned q hr.1 (by rw [hend]; exact ((Dev.Framed.refl d).bgDone b).fitCap)
    (by rw [hend, Dev.fitCap_fz, Dev.bgDone_fz]), ?_, ?_⟩ <;> simp only [hend]
  · rw [Dev.fitCap_bst, Dev.bgDone_bst]
  · rw [Dev.fitCap_get _ (by decide), Dev.bgDone_state]

/-- The soft retirement of a bank that failed its background test, with its event. -/
def Dev.softRetired (d : Dev) (b : Nat) : Dev :=
  ((d.putBit BST_MAP_SOFTRET b true).fitCap).raise 0xC012 0 [b, 0, ((d.putBit BST_MAP_SOFTRET b true).fitCap).get FW_CAPST_NCAP]

/-- A bank that fails is retired softly while fewer than two are (R493). -/
theorem exec_bistBankDone_bgFail {o : BistObs} {b : Nat} (hr : d.runs) (hbg : d.bst.bg = some b) (hb : b < 6)
    (hp : o.pass = false) (hcount : d.retiredCount < 2) :
    ∃ t, exec (.bistBankDone o) ⟨d, q⟩ = .next t ∧ t.dev.bitAt BST_MAP_SOFTRET b = true ∧ t.dev.bst.bg = none
      ∧ (d.keepsEvents → d.newEvent t.dev 0xC011 [b, o.faddr, o.fbit.toNat]) := by
  let x := (d.bgDone b).raise 0xC011 0 [b, o.faddr, o.fbit.toNat]
  have hcount' : x.retiredCount = d.retiredCount := by
    have hmap : ∀ f : Fld, f.wf = true → f.addr = BST_MAP_SOFTRET.addr → x.get f = d.get f := fun f hf ha => by
      rw [Dev.raise_get _ _ _ _ _ (by rw [ha]; decide), Dev.bgDone_get d b hf] <;> unfold Fld.apart <;> rw [ha] <;> rfl
    unfold Dev.retiredCount
    refine congrArg List.length (List.filter_congr fun k _ => ?_)
    unfold Dev.bankRetired Dev.bitAt
    rw [hmap BST_MAP_FUSERET (by decide) rfl, hmap BST_MAP_SOFTRET (by decide) rfl]
  have hend : bistBankDoneDev o d = (x.softRetired b).fitCap := by
    rw [bistBankDoneDev_bg hr.2 hbg, if_neg (by simp [hp])]
    refine congrArg Dev.fitCap ?_
    exact if_pos (hcount'.trans_lt hcount)
  have hx : Dev.Framed d x := ((Dev.Framed.refl d).bgDone b).raise ..
  refine ⟨_, State.lift_unburned q hr.1 (by rw [hend]; exact (((hx.putBit ..).fitCap).raise ..).fitCap) ?_, ?_, ?_,
    fun hk => ?_⟩ <;> simp only [hend]
  · unfold Dev.softRetired
    rw [Dev.fitCap_fz, Dev.raise_fz, Dev.fitCap_fz, Dev.putBit_fz, Dev.raise_fz, Dev.bgDone_fz]
  · rw [← Dev.bitAt_putBit x (f := BST_MAP_SOFTRET) (by decide) hb]
    unfold Dev.bitAt Dev.softRetired
    rw [Dev.fitCap_get _ (by decide), Dev.raise_get _ _ _ _ _ (by decide), Dev.fitCap_get _ (by decide)]
  · unfold Dev.softRetired
    rw [Dev.fitCap_bst, Dev.raise_bst, Dev.fitCap_bst, Dev.putBit_bst, Dev.raise_bst, Dev.bgDone_bst]
  · refine ((Dev.Alike.refl d).bgDone b).newEvent (src := 0) hk ?_
    have hspn : ((x.putBit BST_MAP_SOFTRET b true).fitCap).spn = x.spn := (Dev.fitCap_spn _).trans (Dev.put_spn ..)
    have hgrow := ((Dev.Grow.refl ((x.putBit BST_MAP_SOFTRET b true).fitCap)).raise 0xC012 0
      [b, 0, ((x.putBit BST_MAP_SOFTRET b true).fitCap).get FW_CAPST_NCAP]).evq
    rw [hspn] at hgrow
    rw [Dev.fitCap_spn]
    exact hgrow

/-! ## Host tests -/

/-- The results of a bank of a host test. -/
def Dev.bankResult (d : Dev) (b : Nat) (o : BistObs) : Dev :=
  ((((d.put (BST_RES_RES b) (if o.pass then 1 else 2)).put (BST_RES_FROWS b) (min 63 o.frows)).put (BST_RES_FADDR b)
    o.faddr).put (BST_FBIT b) o.fbit.toNat).put (BST_FCNT b) (min (2 ^ 32 - 1) o.fcnt)

/-- A softly retired bank that passes is in service again (R493). -/
def Dev.bankRestored (d : Dev) (b : Nat) (o : BistObs) : Dev := if o.pass then d.putBit BST_MAP_SOFTRET b false else d

/-- The test of the last bank ends the host test with its result (R495). -/
theorem bistBankDoneDev_last {o : BistObs} {b : Nat} (hl : d.lathe = true) (hbg : d.bst.bg = none) (hh : d.bst.host = [b]) :
    bistBankDoneDev o d = Dev.bistEnd { (d.bankResult b o).bankRestored b o with
      bst := { ((d.bankResult b o).bankRestored b o).bst with
        host := [], bad := ((d.bankResult b o).bankRestored b o).bst.bad || !o.pass
        rows := ((d.bankResult b o).bankRestored b o).bst.rows.set b o.frows } }
      (if ((d.bankResult b o).bankRestored b o).bst.bad || !o.pass then 2 else 1) 0 := by
  unfold bistBankDoneDev
  rw [if_neg (by simp [hl]), hbg]
  dsimp only
  rw [hh]
  rfl

theorem Dev.bankRestored_bst (d : Dev) (b : Nat) (o : BistObs) : ((d.bankResult b o).bankRestored b o).bst = d.bst := by
  unfold Dev.bankRestored Dev.bankResult Dev.putBit
  split <;> simp only [Dev.put_bst]

theorem Dev.bankRestored_fz (d : Dev) (b : Nat) (o : BistObs) : ((d.bankResult b o).bankRestored b o).fz = d.fz := by
  unfold Dev.bankRestored Dev.bankResult Dev.putBit
  split <;> simp only [Dev.put_fz]

theorem Dev.Framed.bankRestored {e : Dev} (h : Dev.Framed d e) (b : Nat) (o : BistObs) :
    Dev.Framed d ((e.bankResult b o).bankRestored b o) := by
  have hres : Dev.Framed d (e.bankResult b o) := ((((h.put ..).put ..).put ..).put ..).put ..
  unfold Dev.bankRestored
  exact (hres.putBit ..).ite hres

theorem Dev.bankRestored_shows (d : Dev) {b : Nat} (hb : b < 6) (o : BistObs) :
    ((d.bankResult b o).bankRestored b o).get (BST_RES_RES b) = (if o.pass then 1 else 2)
    ∧ ((d.bankResult b o).bankRestored b o).get (BST_FBIT b) = o.fbit.toNat := by
  have hkeep : ∀ f : Fld, f.addr ≠ BST_MAP_SOFTRET.addr →
      ((d.bankResult b o).bankRestored b o).get f = (d.bankResult b o).get f := fun f hf => by
    unfold Dev.bankRestored
    split
    · unfold Dev.get Dev.putBit
      rw [Dev.word_put_other _ BST_MAP_SOFTRET _ _ hf]
    · rfl
  have hfbit : o.fbit.toNat % 2 ^ 32 = o.fbit.toNat := Nat.mod_eq_of_lt o.fbit.isLt
  have hres : (if o.pass = true then 1 else 2) % 4 = if o.pass = true then 1 else 2 := by split <;> rfl
  interval_cases b
  all_goals
    rw [hkeep _ (by decide), hkeep _ (by decide)]
    unfold Dev.bankResult
    simp (disch := decide) only [Dev.get_put_apart, Dev.get_put_same]
    exact ⟨hres, hfbit⟩

/-- The end of a host test of one bank. -/
theorem exec_bistBankDone_last {o : BistObs} {b : Nat} (hr : d.runs) (hbg : d.bst.bg = none) (hh : d.bst.host = [b])
    (hb : b < 6) : ∃ t, exec (.bistBankDone o) ⟨d, q⟩ = .next t
      ∧ t.dev.get BST_STAT_RESULT = (if d.bst.bad || !o.pass then 2 else 1) ∧ t.dev.get BST_STAT_STATE = 0
      ∧ t.dev.get (BST_RES_RES b) = (if o.pass then 1 else 2) ∧ t.dev.get (BST_FBIT b) = o.fbit.toNat
      ∧ t.dev.bst.host = [] := by
  have hend := bistBankDoneDev_last (o := o) hr.2 hbg hh
  rw [Dev.bankRestored_bst] at hend
  let e := (d.bankResult b o).bankRestored b o
  let x : Dev := { e with bst := { d.bst with host := [], bad := d.bst.bad || !o.pass, rows := d.bst.rows.set b o.frows } }
  let r := if d.bst.bad || !o.pass then 2 else 1
  have hframe : Dev.Framed d x := ((Dev.Framed.refl d).bankRestored b o).withBst _
  obtain ⟨hres, hfbit⟩ := d.bankRestored_shows hb o
  obtain ⟨hst, hr'⟩ := x.bistEnd_shows r 0
  have hkeep : ∀ f : Fld, f.addr < FW_CAPST_NCAP.addr → f.addr ∉ sendRegs → f.addr ≠ BST_STAT_STATE.addr →
      (x.bistEnd r 0).get f = e.get f :=
    fun f hf hs ha => (x.bistEnd_get r 0 hf hs ha).trans (Dev.get_withBst ..)
  have haddr : ∀ b < 6, (BST_RES_RES b).addr < FW_CAPST_NCAP.addr ∧ (BST_RES_RES b).addr ∉ sendRegs
      ∧ (BST_RES_RES b).addr ≠ BST_STAT_STATE.addr ∧ (BST_FBIT b).addr < FW_CAPST_NCAP.addr
      ∧ (BST_FBIT b).addr ∉ sendRegs ∧ (BST_FBIT b).addr ≠ BST_STAT_STATE.addr := by decide
  obtain ⟨h1, h2, h3, h4, h5, h6⟩ := haddr b hb
  refine ⟨_, State.lift_unburned q hr.1 (by rw [hend]; exact hframe.bistEnd r 0)
    (by rw [hend, Dev.bistEnd_fz]; exact d.bankRestored_fz b o), ?_, ?_, ?_, ?_, ?_⟩ <;> simp only [hend]
  · refine hr'.trans ?_
    dsimp only [r]
    split <;> rfl
  · exact hst
  · exact (hkeep _ h1 h2 h3).trans hres
  · exact (hkeep _ h4 h5 h6).trans hfbit
  · exact congrArg BistSt.host (Dev.bistEnd_bst ..)

section
variable {pll vcore : Bool} (hacc : d.accepts BST_CTRL_GO) (hh : d.bst.host = [])
include hacc hh

/-- A host test starts with the first of its banks (R495). -/
theorem exec_bstGo_starts (h : d.bistRefusal pll vcore d.cfgBanks = none) : ∃ t, exec (.bstGo pll vcore) ⟨d, q⟩ = .next t
    ∧ t.dev.bst.host = d.cfgBanks ∧ t.dev.get BST_STAT_STATE = 2 ∧ t.dev.get BST_STAT_BANK = d.cfgBanks.headD 0
    ∧ t.dev.get BST_STAT_RESULT = 0 := by
  let e : Dev := (({ d with bst := { d.bst with bg := none, host := d.cfgBanks, bad := false } } : Dev).put BST_STAT_RESULT
    0).put BST_STAT_CAUSE 0
  have hlathe : d.lathe = true := hacc.1.2.1
  have hend : bstGoDev pll vcore d = e.bankStart (d.cfgBanks.headD 0) := by
    unfold bstGoDev
    rw [if_neg (by simp [hlathe, hh])]
    dsimp only
    rw [h]
  have hb : d.cfgBanks.headD 0 < 6 := by
    have hmem : ∀ b ∈ d.cfgBanks, b < 6 := fun b hb => List.mem_range.mp (List.mem_of_mem_filter hb)
    cases hc : d.cfgBanks with
    | nil => decide
    | cons b bs => exact hmem b (by rw [hc]; exact List.mem_cons_self)
  obtain ⟨hst, hbank⟩ := e.bankStart_shows hb
  refine ⟨_, State.lift_takes_unburned q hacc (by rw [hend]; exact ((((Dev.Framed.refl d).withBst _).put ..).put ..).bankStart _)
    (by rw [hend, Dev.bankStart_fz, Dev.put_fz, Dev.put_fz]), ?_, ?_, ?_, ?_⟩ <;> simp only [hend]
  · rw [Dev.commandDone_bst, Dev.bankStart_bst, Dev.put_bst, Dev.put_bst]
  · rw [Dev.commandDone_get _ _ (by decide), hst]
  · rw [Dev.commandDone_get _ _ (by decide), hbank]
  · rw [Dev.commandDone_get _ _ (by decide), Dev.bankStart_result]
    simp (disch := decide) only [e, Dev.get_put_apart, Dev.get_put_same]
    rfl

omit hacc hh in
theorem Dev.bistRefusal_lt {c : Nat} {bs : List Nat} (h : d.bistRefusal pll vcore bs = some c) : c < 16 := by
  unfold Dev.bistRefusal at h
  split_ifs at h <;> simp only [Option.some.injEq] at h <;> omega

/-- A host test is refused with its cause (R495). -/
theorem exec_bstGo_refused {c : Nat} (h : d.bistRefusal pll vcore d.cfgBanks = some c) :
    ∃ t, exec (.bstGo pll vcore) ⟨d, q⟩ = .next t ∧ t.dev.get BST_STAT_RESULT = 3 ∧ t.dev.get BST_STAT_CAUSE = c
      ∧ t.dev.bst = d.bst := by
  have hlathe : d.lathe = true := hacc.1.2.1
  have hend : bstGoDev pll vcore d
      = ((d.put BST_STAT_RESULT 3).put BST_STAT_CAUSE c).raise 0xC010 0 [d.get BST_CFG_BANKS, 3, c] := by
    unfold bstGoDev
    rw [if_neg (by simp [hlathe, hh])]
    dsimp only
    rw [h]
  refine ⟨_, State.lift_takes_unburned q hacc (by rw [hend]; exact (((Dev.Framed.refl d).put ..).put ..).raise ..)
    (by rw [hend, Dev.raise_fz, Dev.put_fz, Dev.put_fz]), ?_, ?_, ?_⟩ <;> simp only [hend]
  · rw [Dev.commandDone_get _ _ (by decide), Dev.raise_get _ _ _ _ _ (by decide)]
    simp (disch := decide) only [Dev.get_put_apart, Dev.get_put_same]
    rfl
  · rw [Dev.commandDone_get _ _ (by decide), Dev.raise_get _ _ _ _ _ (by decide)]
    exact (Dev.get_put_same _ _ _ (by decide)).trans (Nat.mod_eq_of_lt (Dev.bistRefusal_lt h))
  · rw [Dev.commandDone_bst, Dev.raise_bst, Dev.put_bst, Dev.put_bst]

end

theorem exec_bstAbort_ends (hacc : d.accepts BST_CTRL_ABORT) (hh : d.bst.host ≠ []) :
    ∃ t, exec .bstAbort ⟨d, q⟩ = .next t ∧ t.dev.get BST_STAT_RESULT = 5 ∧ t.dev.bst.host = [] := by
  have hlathe : d.lathe = true := hacc.1.2.1
  have hend : bstAbortDev d = d.bistEnd 5 0 := if_pos ⟨hlathe, by simpa using hh⟩
  refine ⟨_, State.lift_takes_unburned q hacc (by rw [hend]; exact (Dev.Framed.refl d).bistEnd 5 0)
    (by rw [hend, Dev.bistEnd_fz]), ?_, ?_⟩ <;> simp only [hend]
  · rw [Dev.commandDone_get _ _ (by decide), (d.bistEnd_shows 5 0).2]
  · rw [Dev.commandDone_bst, Dev.bistEnd_bst]

theorem exec_vcoreOutOfWindow_ends (hr : d.runs) (hh : d.bst.host ≠ []) :
    ∃ t, exec .vcoreOutOfWindow ⟨d, q⟩ = .next t ∧ t.dev.get BST_STAT_RESULT = 4 ∧ t.dev.bst.host = [] := by
  have hend : vcoreOutOfWindowDev d = d.bistEnd 4 0 := if_pos ⟨hr.2, by simpa using hh⟩
  refine ⟨_, State.lift_unburned q hr.1 (by rw [hend]; exact (Dev.Framed.refl d).bistEnd 4 0)
    (by rw [hend, Dev.bistEnd_fz]), ?_, ?_⟩ <;> simp only [hend]
  · rw [(d.bistEnd_shows 4 0).2]
  · rw [Dev.bistEnd_bst]

/-! ## What the bank fuses show -/

/-- The mask of the numbers below n that do not meet a condition. -/
def maskNot (p : Nat → Prop) [DecidablePred p] (n : Nat) : Nat :=
  (List.range n).foldl (fun m b => if p b then m else m + 2 ^ b) 0

theorem maskNot_succ (p : Nat → Prop) [DecidablePred p] (n : Nat) :
    maskNot p (n + 1) = if p n then maskNot p n else maskNot p n + 2 ^ n := by
  unfold maskNot
  rw [List.range_succ, List.foldl_append]
  rfl

theorem maskNot_lt (p : Nat → Prop) [DecidablePred p] (n : Nat) : maskNot p n < 2 ^ n := by
  induction n with
  | zero => exact Nat.one_pos
  | succ n ih =>
    rw [maskNot_succ, Nat.pow_succ]
    split <;> omega

theorem testBit_maskNot (p : Nat → Prop) [DecidablePred p] {n b : Nat} (hb : b < n) (hp : ¬ p b) :
    (maskNot p n).testBit b = true := by
  induction n with
  | zero => exact absurd hb (Nat.not_lt_zero b)
  | succ n ih =>
    rw [maskNot_succ]
    obtain hlt | rfl : b < n ∨ b = n := by omega
    · split
      · exact ih hlt
      · rw [Nat.add_comm, Nat.testBit_two_pow_add_gt hlt, ih hlt]
    · rw [if_neg hp, Nat.add_comm, Nat.testBit_two_pow_add_eq, Nat.testBit_lt_two_pow (maskNot_lt p b), Bool.not_false]

theorem Dev.showBankFuses_bst (d : Dev) : d.showBankFuses.bst = d.bst := by
  unfold Dev.showBankFuses Dev.each
  exact List.foldlRecOn (motive := fun e : Dev => e.bst = d.bst) _ _ (Dev.put_bst ..) fun e he _ _ =>
    (Dev.put_bst ..).trans he

theorem Dev.showBankFuses_fz (d : Dev) : d.showBankFuses.fz = d.fz := by
  unfold Dev.showBankFuses Dev.each
  exact List.foldlRecOn (motive := fun e : Dev => e.fz = d.fz) _ _ (Dev.put_fz ..) fun e he _ _ =>
    (Dev.put_fz ..).trans he

theorem Dev.Framed.showBankFuses {e : Dev} (h : Dev.Framed d e) : Dev.Framed d e.showBankFuses :=
  (h.put ..).each _ fun _ _ hc => hc.put ..

/-- A bank retired by fuse is shown (R494). -/
theorem Dev.showBankFuses_shows (d : Dev) {b : Nat} (hb : b < 6) (h : (d.fz.banks[b]?).getD 0 ≠ 0) :
    d.showBankFuses.bitAt BST_MAP_FUSERET b = true := by
  have hget : d.showBankFuses.get BST_MAP_FUSERET = maskNot (fun b => (d.fz.banks[b]?).getD 0 = 0) 6 % 2 ^ 6 := by
    unfold Dev.showBankFuses Dev.each
    refine List.foldlRecOn (motive := fun e : Dev => e.get BST_MAP_FUSERET = _) _ _ (Dev.get_put_same _ _ _ (by decide))
      fun e he k _ => ?_
    rw [← he]
    unfold Dev.get
    rw [Dev.word_put_other _ (BST_RES_SPARES k) _ _ (by simp only [BST_MAP_FUSERET, BST_RES_SPARES]; omega)]
  unfold Dev.bitAt
  rw [hget, Nat.mod_eq_of_lt (maskNot_lt ..), ← Nat.testBit_eq_decide_div_mod_eq, testBit_maskNot _ hb h]

/-! ## REPAIR -/

/-- The failing rows of a bank are mapped to spare rows. -/
def Dev.rowsMapped (rows : Nat → Nat) (e : Dev) (b : Nat) : Dev :=
  { e with fz := { e.fz with spares := e.fz.spares.set b ((e.fz.spares[b]?).getD 0 + rows b) }
           bst := { e.bst with rows := e.bst.rows.set b 0 } }

theorem Dev.Framed.rowsMapped {e : Dev} (h : Dev.Framed d e) (rows : Nat → Nat) (b : Nat) :
    Dev.Framed d (e.rowsMapped rows b) := h.trans ⟨rfl, rfl, rfl⟩

/-- The failing rows of each bank of a list without repeats are mapped once. -/
theorem Dev.rowsMapped_each (rows : Nat → Nat) (bs : List Nat) (hn : bs.Nodup) (e : Dev) (hs : e.fz.spares.length = 6)
    (hr : e.bst.rows.length = 6) (hlt : ∀ b ∈ bs, b < 6) :
    (∀ b ∈ bs, (e.each bs (Dev.rowsMapped rows)).fz.spares[b]? = some ((e.fz.spares[b]?).getD 0 + rows b)
      ∧ (e.each bs (Dev.rowsMapped rows)).bst.rows[b]? = some 0)
    ∧ ∀ b ∉ bs, (e.each bs (Dev.rowsMapped rows)).fz.spares[b]? = e.fz.spares[b]?
      ∧ (e.each bs (Dev.rowsMapped rows)).bst.rows[b]? = e.bst.rows[b]? := by
  induction bs generalizing e with
  | nil => exact ⟨fun b hb => absurd hb List.not_mem_nil, fun b _ => ⟨rfl, rfl⟩⟩
  | cons k ks ih =>
    obtain ⟨hk, hks⟩ := List.nodup_cons.mp hn
    obtain ⟨hin, hout⟩ := ih hks (e.rowsMapped rows k) ((List.length_set ..).trans hs) ((List.length_set ..).trans hr)
      fun b hb => hlt b (List.mem_cons_of_mem _ hb)
    have hk6 : k < 6 := hlt k List.mem_cons_self
    change (∀ b ∈ k :: ks, ((e.rowsMapped rows k).each ks (Dev.rowsMapped rows)).fz.spares[b]? = _
      ∧ ((e.rowsMapped rows k).each ks (Dev.rowsMapped rows)).bst.rows[b]? = _)
      ∧ ∀ b ∉ k :: ks, ((e.rowsMapped rows k).each ks (Dev.rowsMapped rows)).fz.spares[b]? = _
        ∧ ((e.rowsMapped rows k).each ks (Dev.rowsMapped rows)).bst.rows[b]? = _
    have hother : ∀ b, b ≠ k → (e.rowsMapped rows k).fz.spares[b]? = e.fz.spares[b]?
        ∧ (e.rowsMapped rows k).bst.rows[b]? = e.bst.rows[b]? :=
      fun b hb => ⟨List.getElem?_set_ne hb.symm, List.getElem?_set_ne hb.symm⟩
    refine ⟨fun b hb => ?_, fun b hb => ?_⟩
    · rcases List.mem_cons.mp hb with rfl | hb
      · obtain ⟨hsp, hrow⟩ := hout b hk
        rw [hsp, hrow]
        exact ⟨List.getElem?_set_self (by rw [hs]; exact hk6), List.getElem?_set_self (by rw [hr]; exact hk6)⟩
      · obtain ⟨hsp, hrow⟩ := hin b hb
        have hne : b ≠ k := fun h => hk (h ▸ hb)
        rw [hsp, hrow, (hother b hne).1]
        exact ⟨rfl, rfl⟩
    · obtain ⟨hne, hb⟩ := not_or.mp (fun h => hb (List.mem_cons.mpr h))
      obtain ⟨hsp, hrow⟩ := hout b hb
      rw [hsp, hrow]
      exact hother b hne

theorem Dev.cfgBanks_lt {b : Nat} (hb : b ∈ d.cfgBanks) : b < 6 := List.mem_range.mp (List.mem_of_mem_filter hb)

theorem Dev.cfgBanks_nodup (d : Dev) : d.cfgBanks.Nodup := List.nodup_range.filter _

/-- REPAIR with spare rows enough burns as many as there are failing rows (R496). -/
theorem exec_bstRepair_repairs (hacc : d.accepts BST_CTRL_REPAIR) (hok : d.bankFuseOk = true) (hs : d.fz.spares.length = 6)
    (hr : d.bst.rows.length = 6) (h : ∀ b ∈ d.cfgBanks, (d.bst.rows[b]?).getD 0 ≤ d.sparesLeft b) :
    ∃ t, exec .bstRepair ⟨d, q⟩ = .next t ∧ t.dev.get BST_STAT_RESULT = 8 ∧ ∀ b ∈ d.cfgBanks,
      t.dev.fz.spares[b]? = some ((d.fz.spares[b]?).getD 0 + (d.bst.rows[b]?).getD 0) ∧ t.dev.bst.rows[b]? = some 0 := by
  let rows (b : Nat) : Nat := (d.bst.rows[b]?).getD 0
  let e := d.each d.cfgBanks (Dev.rowsMapped rows)
  have hend : bstRepairDev d = e.showBankFuses.put BST_STAT_RESULT 8 := by
    have hall : d.cfgBanks.filter (fun b => decide (rows b ≤ d.sparesLeft b)) = d.cfgBanks :=
      List.filter_eq_self.mpr fun b hb => decide_eq_true (h b hb)
    have hshort : d.cfgBanks.any (fun b => decide (d.sparesLeft b < rows b)) = false :=
      List.any_eq_false.mpr fun b hb => by simpa using h b hb
    unfold bstRepairDev
    rw [if_neg (by simp [hok])]
    change (Dev.showBankFuses (d.each (d.cfgBanks.filter (fun b => decide (rows b ≤ d.sparesLeft b)))
      (Dev.rowsMapped rows))).put _ (if d.cfgBanks.any (fun b => decide (d.sparesLeft b < rows b)) then 6 else 8) = _
    rw [hall, hshort]
    rfl
  have hframe : Dev.Framed d (bstRepairDev d) := by
    rw [hend]
    exact (((Dev.Framed.refl d).each _ fun _ b hc => hc.rowsMapped rows b).showBankFuses).put ..
  obtain ⟨hmap, -⟩ := Dev.rowsMapped_each rows d.cfgBanks d.cfgBanks_nodup d hs hr fun b hb => Dev.cfgBanks_lt hb
  refine ⟨_, State.lift_takes_framed q hacc hframe, ?_, fun b hb => ?_⟩
  · dsimp only
    rw [Dev.get_withFz, Dev.commandDone_get _ _ (by decide), hend]
    exact Dev.get_put_same _ _ _ (by decide)
  · obtain ⟨hsp, hrow⟩ := hmap b hb
    have hb6 : b < d.fz.spares.length := by rw [hs]; exact Dev.cfgBanks_lt hb
    dsimp only [Fuses.kept]
    rw [Dev.commandDone_bst, hend, Dev.put_fz, Dev.put_bst, Dev.showBankFuses_fz, Dev.showBankFuses_bst, hrow,
      keepCounts_get, hsp, List.getElem?_eq_getElem hb6]
    refine ⟨?_, rfl⟩
    rw [Option.map_some, Option.getD_some, Option.getD_some, Nat.max_eq_right (Nat.le_add_right ..)]

/-- REPAIR of a bank with more failing rows than spare rows burns nothing (R496). -/
theorem exec_bstRepair_short {b : Nat} (hacc : d.accepts BST_CTRL_REPAIR) (hok : d.bankFuseOk = true)
    (hb : d.cfgBanks = [b]) (h : d.sparesLeft b < (d.bst.rows[b]?).getD 0) :
    ∃ t, exec .bstRepair ⟨d, q⟩ = .next t ∧ t.dev.get BST_STAT_RESULT = 6 ∧ t.dev.fz = d.fz := by
  have hend : bstRepairDev d = d.showBankFuses.put BST_STAT_RESULT 6 := by
    unfold bstRepairDev
    rw [if_neg (by simp [hok])]
    dsimp only
    rw [hb, List.any_cons, decide_eq_true h, List.filter_cons_of_neg (by simpa using h)]
    rfl
  have hz : (bstRepairDev d).fz = d.fz := by rw [hend, Dev.put_fz, Dev.showBankFuses_fz]
  refine ⟨_, State.lift_takes_unburned q hacc (by rw [hend]; exact (Dev.Framed.refl d).showBankFuses.put ..) hz, ?_, ?_⟩
  · dsimp only
    rw [Dev.commandDone_get _ _ (by decide), hend]
    exact Dev.get_put_same _ _ _ (by decide)
  · dsimp only
    rw [Dev.commandDone_fz, hz]

/-! ## RETIRE -/

/-- A bank is retired by fuse, and no longer softly. -/
def Dev.bankFused (e : Dev) (b : Nat) : Dev :=
  ({ e with fz := { e.fz with banks := e.fz.banks.set b 1 } } : Dev).putBit BST_MAP_SOFTRET b false

theorem Dev.bankFused_banks (e : Dev) (b : Nat) : (e.bankFused b).fz.banks = e.fz.banks.set b 1 := by
  unfold Dev.bankFused
  rw [Dev.putBit_fz]

theorem Dev.Framed.bankFused {e : Dev} (h : Dev.Framed d e) (b : Nat) : Dev.Framed d (e.bankFused b) := by
  unfold Dev.bankFused
  exact (h.withFz _).putBit ..

/-- The banks of a list are retired, and those that were stay so. -/
theorem Dev.bankFused_each (bs : List Nat) (e : Dev) (h : e.fz.banks.length = 6) (hlt : ∀ b ∈ bs, b < 6) (b : Nat)
    (hb : b ∈ bs ∨ e.fz.banks[b]? = some 1) : (e.each bs Dev.bankFused).fz.banks[b]? = some 1 := by
  induction bs generalizing e with
  | nil => exact hb.resolve_left List.not_mem_nil
  | cons k ks ih =>
    have hlen : (e.bankFused k).fz.banks.length = 6 := by rw [Dev.bankFused_banks, List.length_set, h]
    refine ih (e.bankFused k) hlen (fun b hb => hlt b (List.mem_cons_of_mem _ hb)) ?_
    rw [Dev.bankFused_banks]
    by_cases hk : b = k
    · subst hk
      exact .inr (List.getElem?_set_self (by rw [h]; exact hlt b List.mem_cons_self))
    · rw [List.getElem?_set_ne (Ne.symm hk)]
      rcases hb with hb | hb
      · exact .inl ((List.mem_cons.mp hb).resolve_left hk)
      · exact .inr hb

section
variable (hacc : d.accepts BST_CTRL_RETIRE) (hok : d.bankFuseOk = true)
include hacc hok

theorem exec_bstRetire_limit
    (h : 2 < ((List.range 6).filter (fun b => d.bankRetired b || d.cfgBanks.contains b)).length) :
    exec .bstRetire ⟨d, q⟩ = .next ⟨(d.put BST_STAT_RESULT 7).commandDone, q⟩ := by
  have hend : bstRetireDev d = d.put BST_STAT_RESULT 7 := by
    unfold bstRetireDev
    rw [if_neg (by simp [hok])]
    exact if_pos h
  rw [← hend]
  exact State.lift_takes_unburned q hacc (by rw [hend]; exact (Dev.Framed.refl d).put ..) (by rw [hend, Dev.put_fz])

/-- Banks are retired by fuse up to two (R496). -/
theorem exec_bstRetire_retires (hbanks : d.fz.banks.length = 6)
    (h : ((List.range 6).filter (fun b => d.bankRetired b || d.cfgBanks.contains b)).length ≤ 2) :
    ∃ t, exec .bstRetire ⟨d, q⟩ = .next t
      ∧ ∀ b ∈ d.cfgBanks, (t.dev.fz.banks[b]?).getD 0 ≠ 0 ∧ t.dev.bitAt BST_MAP_FUSERET b = true := by
  let e := d.each d.cfgBanks Dev.bankFused
  let said (d : Dev) (b : Nat) : Dev := d.raise 0xC012 0 [b, 1, d.get FW_CAPST_NCAP]
  let fresh := d.cfgBanks.filter (fun b => !d.bitAt BST_MAP_FUSERET b)
  have hend : bstRetireDev d = (e.showBankFuses.fitCap).each fresh said := by
    unfold bstRetireDev
    rw [if_neg (by simp [hok])]
    exact if_neg (Nat.not_lt.mpr h)
  have hframe : Dev.Framed d (bstRetireDev d) := by
    rw [hend]
    exact ((((Dev.Framed.refl d).each _ fun _ b hc => hc.bankFused b).showBankFuses).fitCap).each _ fun _ _ hc => hc.raise ..
  have hsaid : ((e.showBankFuses.fitCap).each fresh said).get BST_MAP_FUSERET = e.showBankFuses.get BST_MAP_FUSERET
      ∧ ((e.showBankFuses.fitCap).each fresh said).fz = e.fz := by
    unfold Dev.each
    refine List.foldlRecOn (motive := fun c : Dev => c.get BST_MAP_FUSERET = _ ∧ c.fz = e.fz) _ _
      ⟨Dev.fitCap_get _ (by decide), (Dev.fitCap_fz _).trans (Dev.showBankFuses_fz _)⟩ fun c hc b _ => ?_
    exact ⟨(Dev.raise_get _ _ _ _ _ (by decide)).trans hc.1, (Dev.raise_fz ..).trans hc.2⟩
  refine ⟨_, State.lift_takes_framed q hacc hframe, fun b hb => ?_⟩
  have hb6 : b < 6 := Dev.cfgBanks_lt hb
  have hone : e.fz.banks[b]? = some 1 :=
    Dev.bankFused_each d.cfgBanks d hbanks (fun b hb => Dev.cfgBanks_lt hb) b (.inl hb)
  refine ⟨?_, ?_⟩
  · dsimp only [Fuses.kept]
    rw [hend, hsaid.2, keepCounts_get, hone, List.getElem?_eq_getElem (by rw [hbanks]; exact hb6), Option.map_some,
      Option.getD_some, Option.getD_some]
    omega
  · have hshown := e.showBankFuses_shows hb6 (by rw [hone]; decide)
    unfold Dev.bitAt at hshown ⊢
    dsimp only
    rw [Dev.get_withFz, Dev.commandDone_get _ _ (by decide), hend, hsaid.1, hshown]

end

/-- Settles O51: the background test, the host test, and the fuses of repair and retirement. -/
theorem bankTestsComplete : Obligations.BankTestsComplete := by
  unfold Obligations.BankTestsComplete
  refine ⟨fun d q hs hm hsnap ht h => exec_bistBackground_tests q hs hm hsnap ht h, fun d q o hr =>
    ⟨fun b hbg hp => exec_bistBankDone_bgPass q hr hbg hp,
      fun b hbg hb hp hc => exec_bistBankDone_bgFail q hr hbg hb hp hc, fun b hbg hh hb hp hbad => ?_,
      fun b hbg hh hb hp => ?_⟩, fun d q pll vcore hacc hh =>
    ⟨exec_bstGo_starts q hacc hh, fun c h => exec_bstGo_refused q hacc hh h⟩, fun d q hh =>
    ⟨fun hacc => exec_bstAbort_ends q hacc hh, fun hr => exec_vcoreOutOfWindow_ends q hr hh⟩,
    fun d q hacc hok hs hr h => exec_bstRepair_repairs q hacc hok hs hr h,
    fun d q b hacc hok hb h => exec_bstRepair_short q hacc hok hb h, fun d q hacc hok hbanks =>
    ⟨exec_bstRetire_limit q hacc hok, exec_bstRetire_retires q hacc hok hbanks⟩⟩
  · obtain ⟨t, ht, hres, hst, hb', -, hhost⟩ := exec_bistBankDone_last (o := o) q hr hbg hh hb
    rw [hbad, hp] at hres
    rw [hp] at hb'
    exact ⟨t, ht, hres, hst, hb', hhost⟩
  · obtain ⟨t, ht, hres, -, hb', hfbit, -⟩ := exec_bistBankDone_last (o := o) q hr hbg hh hb
    rw [hp, Bool.not_false, Bool.or_true] at hres
    rw [hp] at hb'
    exact ⟨t, ht, hres, hb', hfbit⟩

end

end

end Sys2Proof.Machine
end

section
/-!
SUPPORT. The life-cycle (19, R498 to R500): requests, responses and burns.
-/

namespace Sys2Proof.Machine

section
variable {d : Dev}

/-! ## The authentication window closes -/

theorem Dev.get_withLcs (e : Dev) (x : LcsSt) (f : Fld) : ({ e with lcs := x } : Dev).get f = e.get f := rfl

theorem Dev.closeAuth_lcs (d : Dev) : d.closeAuth.lcs = { d.lcs with auth := none } := by
  unfold Dev.closeAuth
  rw [Dev.put_lcs]

theorem Dev.closeAuth_fz (d : Dev) : d.closeAuth.fz = d.fz := by
  unfold Dev.closeAuth
  rw [Dev.put_fz]

theorem Dev.closeAuth_draws (d : Dev) : d.closeAuth.draws = d.draws := by
  unfold Dev.closeAuth
  rw [Dev.put_draws]

theorem Dev.closeAuth_get {f : Fld} (hf : f.wf = true) (h : LCS_STAT_AUTHW.apart f = true) : d.closeAuth.get f = d.get f := by
  unfold Dev.closeAuth
  rw [Dev.get_put_apart _ _ _ _ (by decide) hf h, Dev.get_withLcs]

theorem Dev.closeAuth_shut (d : Dev) : d.closeAuth.get LCS_STAT_AUTHW = 0 := Dev.get_put_same _ _ _ (by decide)

theorem Dev.closeAuth_life (d : Dev) : d.closeAuth.life = d.life := Dev.closeAuth_get (by decide) (by decide)

theorem Dev.closeAuth_saf (d : Dev) : d.closeAuth.saf = d.saf := by
  unfold Dev.closeAuth
  rw [Dev.put_saf]

theorem Dev.closeAuth_cur (d : Dev) : d.closeAuth.cur = d.cur := by
  unfold Dev.cur
  rw [Dev.closeAuth_get (by decide) (by decide)]

theorem Dev.Alike.withLcs {e : Dev} (h : Dev.Alike d e) (x : LcsSt) : Dev.Alike d { e with lcs := x } :=
  h.trans ⟨rfl, rfl, rfl, rfl⟩

theorem Dev.Alike.closeAuth {e : Dev} (h : Dev.Alike d e) : Dev.Alike d e.closeAuth := (h.withLcs _).put (by decide) _

/-! ## A burn starts -/

theorem Dev.startBurn_lcs (d : Dev) (target : Nat) :
    (d.startBurn target).lcs = { d.lcs with burn := some (fuseFor d.fz.chain target, target) } := by
  unfold Dev.startBurn
  rw [Dev.put_lcs]

theorem Dev.startBurn_busy (d : Dev) (target : Nat) : (d.startBurn target).get LCS_STAT_BUSY = 1 :=
  Dev.get_put_same _ _ _ (by decide)

theorem Dev.startBurn_get (target : Nat) {f : Fld} (hf : f.wf = true) (h : LCS_STAT_BUSY.apart f = true) :
    (d.startBurn target).get f = d.get f := by
  unfold Dev.startBurn
  rw [Dev.get_put_apart _ _ _ _ (by decide) hf h, Dev.get_withLcs]

/-! ## The requests -/

theorem Dev.commandDone_spn (d : Dev) : d.commandDone.spn = d.spn := rfl

variable (q : List Instr)

theorem exec_lcsReq {target : Nat} (hacc : d.accepts LCS_REQ_TARGET) :
    exec (.lcsReq target) ⟨d, q⟩ = .next ⟨(lcsReqDev target d).commandDone, q⟩ :=
  State.lift_takes_within q hacc ((Dev.Within.refl d).lcsReqDev target)

/-- A part is provisioned by request, without a window (R499). -/
theorem lcsReqDev_provisions (hl : d.lathe = true) (hlife : d.life = lBlank) (hcur : d.cur = .provision)
    (hb : d.lcs.burn = none) : lcsReqDev lProvisioned d = d.closeAuth.startBurn lProvisioned := by
  have href : d.closeAuth.lcsRefusal lProvisioned = 0 := by
    unfold Dev.lcsRefusal
    dsimp only
    rw [d.closeAuth_life, d.closeAuth_cur, hlife, hcur]
    rfl
  unfold lcsReqDev
  rw [if_neg (by simp [hl, hb])]
  dsimp only
  rw [href]
  rfl

/-- The device that opens an authentication window with a new nonce. -/
def Dev.challenged (d : Dev) (nonce : Nat) (target : Nat) : Dev :=
  let e := ({ d with draws := d.draws + 1 } : Dev).each (List.range 4) fun d i => d.put (LCS_CHAL i) (nonce / 2 ^ (32 * i))
  ({ e with lcs := { e.lcs with auth := some target } } : Dev).put LCS_STAT_AUTHW 1

theorem lcsReqDev_retires (hl : d.lathe = true) (hlife : d.life ≠ lRetired) (hsafe : d.cur ≠ .safe) (hleg : d.cur ≠ .legacy)
    (hb : d.lcs.burn = none) :
    lcsReqDev lRetired d = d.closeAuth.challenged (Config.lcsNonce d.closeAuth.draws).toNat lRetired := by
  have href : d.closeAuth.lcsRefusal lRetired = 0 := by
    unfold Dev.lcsRefusal
    dsimp only
    rw [d.closeAuth_life, d.closeAuth_cur, if_pos ⟨rfl, hlife⟩, if_neg (by simp [hsafe, hleg])]
  unfold lcsReqDev
  rw [if_neg (by simp [hl, hb])]
  dsimp only
  rw [href]
  rfl

theorem Dev.challenged_lcs (d : Dev) (nonce target : Nat) : (d.challenged nonce target).lcs = { d.lcs with auth := some target } := by
  have heach : (({ d with draws := d.draws + 1 } : Dev).each (List.range 4) fun d i =>
      d.put (LCS_CHAL i) (nonce / 2 ^ (32 * i))).lcs = d.lcs := by
    unfold Dev.each
    exact List.foldlRecOn (motive := fun e : Dev => e.lcs = d.lcs) _ _ rfl fun e he _ _ => (Dev.put_lcs ..).trans he
  unfold Dev.challenged
  dsimp only
  rw [Dev.put_lcs]
  dsimp only
  rw [heach]

/-- The nonce is shown in four words. -/
theorem Dev.challenged_shows (d : Dev) (nonce target : Nat) :
    (d.challenged nonce target).get LCS_STAT_AUTHW = 1 ∧ (d.challenged nonce target).get (LCS_CHAL 0) = nonce % 2 ^ 32
    ∧ (d.challenged nonce target).get (LCS_CHAL 3) = nonce / 2 ^ 96 % 2 ^ 32 := by
  unfold Dev.challenged
  refine ⟨Dev.get_put_same _ _ _ (by decide), ?_, ?_⟩ <;>
    rw [Dev.get_put_apart _ _ _ _ (by decide) (by decide) (by decide), Dev.get_withLcs] <;>
    simp only [Dev.each, show List.range 4 = [0, 1, 2, 3] from rfl, List.foldl_cons, List.foldl_nil]
  · simp (disch := decide) only [Dev.get_put_apart, Dev.get_put_same]
    rw [Nat.mul_zero, Nat.pow_zero, Nat.div_one]
    rfl
  · exact Dev.get_put_same _ _ _ (by decide)

/-! ## The response -/

section
variable {v : Word} {target : Nat} (hacc : d.accepts (LCS_RESP 15)) (ha : d.lcs.auth = some target)
include hacc ha

theorem exec_lcsResp {ok : Bool} : exec (.lcsResp v ok) ⟨d, q⟩ = .next ⟨(if ok
    then (d.setWord (LCS_RESP 15).addr v).closeAuth.startBurn target
    else (d.setWord (LCS_RESP 15).addr v).closeAuth.lcsRefuse 5).commandDone, q⟩ := by
  have hend : lcsRespDev v ok d = if ok then (d.setWord (LCS_RESP 15).addr v).closeAuth.startBurn target
      else (d.setWord (LCS_RESP 15).addr v).closeAuth.lcsRefuse 5 := by
    unfold lcsRespDev
    rw [if_neg (by simp [hacc.1.2.1])]
    dsimp only
    rw [Dev.setWord_lcs, ha]
  rw [← hend]
  exact State.lift_takes_within q hacc ((Dev.Within.refl d).lcsRespDev v ok)

/-- A good signature starts the burn (R500). -/
theorem exec_lcsResp_good : ∃ t, exec (.lcsResp v true) ⟨d, q⟩ = .next t
    ∧ t.dev.lcs = ⟨none, some (fuseFor d.fz.chain target, target)⟩
    ∧ t.dev.get LCS_STAT_BUSY = 1 ∧ t.dev.get LCS_STAT_AUTHW = 0 ∧ t.dev.word (LCS_RESP 15).addr = v := by
  refine ⟨_, exec_lcsResp q hacc ha, ?_, ?_, ?_, ?_⟩ <;> dsimp only <;> rw [if_pos rfl]
  · rw [Dev.commandDone_lcs, Dev.startBurn_lcs, Dev.closeAuth_lcs, Dev.closeAuth_fz, Dev.setWord_lcs, Dev.setWord_fz]
  · rw [Dev.commandDone_get _ _ (by decide), Dev.startBurn_busy]
  · rw [Dev.commandDone_get _ _ (by decide), Dev.startBurn_get _ (by decide) (by decide), Dev.closeAuth_shut]
  · rw [Dev.commandDone_word _ _ (by decide)]
    unfold Dev.startBurn
    rw [Dev.word_put_other _ _ _ _ (by decide)]
    change (Dev.closeAuth _).word _ = _
    unfold Dev.closeAuth
    rw [Dev.word_put_other _ _ _ _ (by decide)]
    change (d.setWord (LCS_RESP 15).addr v).word _ = _
    rw [Dev.word_setWord, if_pos rfl]

/-- A bad signature closes the window and is refused (R500). -/
theorem exec_lcsResp_bad : ∃ t, exec (.lcsResp v false) ⟨d, q⟩ = .next t ∧ t.dev.lcs = { d.lcs with auth := none }
    ∧ t.dev.get LCS_STAT_RESULT = 5 ∧ t.dev.get LCS_STAT_AUTHW = 0 ∧ (d.keepsEvents → d.newEvent t.dev 0xC021 [5]) := by
  refine ⟨_, exec_lcsResp q hacc ha, ?_, ?_, ?_, fun hk => ?_⟩ <;> dsimp only <;> rw [if_neg (by decide)]
  · unfold Dev.lcsRefuse
    rw [Dev.commandDone_lcs, Dev.raise_lcs, Dev.put_lcs, Dev.closeAuth_lcs, Dev.setWord_lcs]
  · rw [Dev.commandDone_get _ _ (by decide)]
    exact (Dev.raise_get _ _ _ _ _ (by decide)).trans (Dev.get_put_same _ _ _ (by decide))
  · rw [Dev.commandDone_get _ _ (by decide)]
    refine (Dev.raise_get _ _ _ _ _ (by decide)).trans ?_
    rw [Dev.get_put_apart _ _ _ _ (by decide) (by decide) (by decide), Dev.closeAuth_shut]
  · have hx := (((Dev.Alike.refl d).setWord (a := (LCS_RESP 15).addr) (by decide) v).closeAuth).put
      (g := LCS_STAT_RESULT) (by decide) 5
    refine hx.newEvent (src := 0) hk ?_
    rw [Dev.commandDone_spn]
    exact List.prefix_refl _

end

theorem exec_authTimeout_refuses {target : Nat} (hr : d.runs) (ha : d.lcs.auth = some target) :
    exec .authTimeout ⟨d, q⟩ = .next ⟨d.closeAuth.lcsRefuse 6, q⟩ := by
  have hend : authTimeoutDev d = d.closeAuth.lcsRefuse 6 := if_pos ⟨hr.2, by rw [ha]; rfl⟩
  rw [← hend]
  exact State.lift_within q hr.1 (Dev.Within.refl d).authTimeoutDev

/-! ## The end of a burn -/

/-- Counts that did not fall are kept as they are. -/
theorem keepCounts_of_le {old new : List Nat} (hl : new.length = old.length)
    (h : ∀ k : Nat, (old[k]?).getD 0 ≤ (new[k]?).getD 0) : keepCounts old new = new := by
  refine List.ext_getElem? fun k => ?_
  rw [keepCounts_get]
  have hk := h k
  by_cases hlt : k < old.length
  · rw [List.getElem?_eq_getElem hlt, List.getElem?_eq_getElem (by rw [hl]; exact hlt)] at hk ⊢
    rw [Option.getD_some, Option.getD_some] at hk
    rw [Option.map_some, Option.getD_some, Nat.max_eq_right hk]
  · rw [List.getElem?_eq_none (by omega), List.getElem?_eq_none (by omega)]
    rfl

/-- The chain with a fuse burned, and split fuses completed. -/
def burnedChain (chain : List Nat) (k : Nat) : List Nat :=
  (chain.set k (max 3 ((chain[k]?).getD 0))).map fun c => if c = 2 then 3 else c

theorem burnedChain_length (chain : List Nat) (k : Nat) : (burnedChain chain k).length = chain.length := by
  rw [burnedChain, List.length_map, List.length_set]

theorem burnedChain_ge (chain : List Nat) (k i : Nat) : (chain[i]?).getD 0 ≤ ((burnedChain chain k)[i]?).getD 0 := by
  unfold burnedChain
  rw [List.getElem?_map]
  by_cases hi : i < chain.length
  · rw [List.getElem?_eq_getElem hi, List.getElem?_eq_getElem (by rw [List.length_set]; exact hi), Option.map_some,
      Option.getD_some, Option.getD_some, List.getElem_set]
    split
    · next h =>
      subst h
      rw [List.getElem?_eq_getElem hi, Option.getD_some]
      split <;> omega
    · split <;> omega
  · rw [List.getElem?_eq_none (by omega)]
    exact Nat.zero_le _

theorem burnt_burnedChain {chain : List Nat} {k : Nat} (hk : k < chain.length) : burnt (burnedChain chain k) k = true := by
  unfold burnt burnedChain
  rw [List.getElem?_map, List.getElem?_set_self hk, Option.map_some, Option.getD_some, decide_eq_true_eq]
  split <;> omega

/-- The device whose burn has ended well, before it is reported. -/
def Dev.burned (d : Dev) (k : Nat) : Dev :=
  let e := (({ d with draws := d.draws + 1, lcs := { d.lcs with burn := none } } : Dev).put LCS_STAT_BUSY 0).burnTo k 3
  (Dev.showLife { e with fz := { e.fz with chain := e.fz.chain.map (fun c => if c = 2 then 3 else c) } }).put
    LCS_STAT_RESULT 1

/-- The burn is reported with the state before it and the state that the fuses hold. -/
def Dev.burnReported (d : Dev) (k : Nat) : Dev :=
  ((d.burned k).raise 0xC020 0 [d.life, (d.burned k).life]).guardSettle

theorem fuseBurnDoneDev_good {k target : Nat} (hl : d.lathe = true) (hb : d.lcs.burn = some (k, target)) :
    fuseBurnDoneDev true d = if (d.burnReported k).cur = .provision ∧ (d.burnReported k).life = lDeployed
      then (d.burnReported k).leaveProvision else d.burnReported k := by
  unfold fuseBurnDoneDev
  rw [hb]
  dsimp only
  rw [if_neg (by simp [hl])]
  simp only [Dev.burnReported, Dev.burned, Dev.draw, if_true]
  rfl

section
variable (d)

theorem Dev.showLife_fz : d.showLife.fz = d.fz := by
  unfold Dev.showLife
  simp only [Dev.put_fz, Dev.putB]

theorem Dev.showLife_lcs : d.showLife.lcs = d.lcs := by
  unfold Dev.showLife
  simp only [Dev.put_lcs, Dev.putB]

theorem lifeOf_lt (chain : List Nat) : lifeOf chain < 8 := by
  unfold lifeOf lRetired lService lDeployed lProvisioned lBlank
  split_ifs <;> omega

theorem Dev.showLife_life : d.showLife.life = lifeOf d.fz.chain := by
  unfold Dev.showLife Dev.life
  simp (disch := decide) only [Dev.putB, Dev.get_put_apart, Dev.get_put_same]
  exact Nat.mod_eq_of_lt (lifeOf_lt _)

theorem Dev.showLife_get {f : Fld} (hf : f.wf = true) (hs : LCS_STAT_STATE.apart f = true)
    (ht : LCS_STAT_TORN.apart f = true) (hl : LCS_STAT_SVCLEFT.apart f = true) : d.showLife.get f = d.get f := by
  unfold Dev.showLife
  rw [Dev.get_put_apart _ _ _ _ (by decide) hf hl]
  exact (Dev.get_put_apart _ _ _ _ (by decide) hf ht).trans (Dev.get_put_apart _ _ _ _ (by decide) hf hs)

variable (k : Nat)

theorem Dev.burned_fz : (d.burned k).fz = { d.fz with chain := burnedChain d.fz.chain k } := by
  unfold Dev.burned
  dsimp only
  rw [Dev.put_fz, Dev.showLife_fz]
  dsimp only [Dev.burnTo]
  rw [Dev.put_fz]
  rfl

theorem Dev.burned_lcs : (d.burned k).lcs = { d.lcs with burn := none } := by
  unfold Dev.burned
  dsimp only
  rw [Dev.put_lcs, Dev.showLife_lcs]
  dsimp only [Dev.burnTo]
  rw [Dev.put_lcs]

theorem Dev.burned_life : (d.burned k).life = lifeOf (burnedChain d.fz.chain k) := by
  unfold Dev.burned
  dsimp only
  unfold Dev.life
  rw [Dev.get_put_apart _ _ _ _ (by decide) (by decide) (by decide)]
  refine (Dev.showLife_life _).trans ?_
  dsimp only [Dev.burnTo]
  rw [Dev.put_fz]
  rfl

theorem Dev.burned_shows : (d.burned k).get LCS_STAT_BUSY = 0 ∧ (d.burned k).get LCS_STAT_RESULT = 1 := by
  unfold Dev.burned
  refine ⟨?_, Dev.get_put_same _ _ _ (by decide)⟩
  rw [Dev.get_put_apart _ _ _ _ (by decide) (by decide) (by decide),
    Dev.showLife_get _ (by decide) (by decide) (by decide) (by decide), Dev.get_withFz]
  unfold Dev.burnTo
  rw [Dev.get_withFz]
  exact Dev.get_put_same _ _ _ (by decide)

theorem Dev.Framed.showLife {e : Dev} (h : Dev.Framed d e) : Dev.Framed d e.showLife := ((h.put ..).put ..).put ..

theorem Dev.Framed.guardSettle {d e : Dev} (h : Dev.Framed d e) : Dev.Framed d e.guardSettle :=
  h.trans ⟨Dev.guardSettle_asks _, Dev.guardSettle_build _, Dev.guardSettle_role _⟩

theorem Dev.Framed.withPw {d e : Dev} (h : Dev.Framed d e) (x : PowerSt) : Dev.Framed d { e with pw := x } :=
  h.trans ⟨rfl, rfl, rfl⟩

theorem Dev.Framed.leaveProvision {d e : Dev} (h : Dev.Framed d e) : Dev.Framed d e.leaveProvision := by
  unfold Dev.leaveProvision
  exact (h.withPw _).put ..

theorem Dev.Framed.burned : Dev.Framed d (d.burned k) := by
  have h0 : Dev.Framed d { d with draws := d.draws + 1, lcs := { d.lcs with burn := none } } := ⟨rfl, rfl, rfl⟩
  unfold Dev.burned
  refine Dev.Framed.put ?_ ..
  refine Dev.Framed.showLife d ?_
  exact ((h0.put LCS_STAT_BUSY 0).withFz _).withFz _

theorem Dev.Alike.showLife {e : Dev} (h : Dev.Alike d e) : Dev.Alike d e.showLife :=
  ((h.put (by decide) _).put (by decide) _).put (by decide) _

theorem Dev.Alike.withFz {d e : Dev} (h : Dev.Alike d e) (x : Fuses) : Dev.Alike d { e with fz := x } :=
  h.trans ⟨rfl, rfl, rfl, rfl⟩

theorem Dev.Alike.burned : Dev.Alike d (d.burned k) := by
  have h0 : Dev.Alike d { d with draws := d.draws + 1, lcs := { d.lcs with burn := none } } := ⟨rfl, rfl, rfl, rfl⟩
  unfold Dev.burned
  refine Dev.Alike.put ?_ (by decide) _
  refine Dev.Alike.showLife d ?_
  exact ((h0.put (g := LCS_STAT_BUSY) (by decide) 0).withFz _).withFz _

/-- A register of LCS shows after the report what it showed before it. -/
theorem Dev.burnReported_get {f : Fld} (hs : settleReg f.addr = false) (hf : f.addr ∉ sendRegs) :
    (d.burnReported k).get f = (d.burned k).get f :=
  (Dev.guardSettle_get _ _ hs).trans (Dev.raise_get _ _ _ _ _ hf)

end

theorem Dev.leaveProvision_get {f : Fld} (hf : f.wf = true) (h : PWR_STAT_TRANS.apart f = true) :
    d.leaveProvision.get f = d.get f := by
  unfold Dev.leaveProvision
  rw [Dev.get_put_apart _ _ _ _ (by decide) hf h, Dev.get_withPw]

/-- A burn that ends shows the state the fuses hold, with its event (R498, R499). -/
theorem exec_fuseBurnDone_good {k target : Nat} (hr : d.runs) (hb : d.lcs.burn = some (k, target))
    (hk : k < d.fz.chain.length) : ∃ t, exec (.fuseBurnDone true) ⟨d, q⟩ = .next t ∧ burnt t.dev.fz.chain k = true
      ∧ t.dev.lcs.burn = none ∧ t.dev.get LCS_STAT_BUSY = 0 ∧ t.dev.get LCS_STAT_RESULT = 1
      ∧ t.dev.life = lifeOf t.dev.fz.chain
      ∧ (d.keepsEvents → d.newEvent t.dev 0xC020 [d.life, lifeOf t.dev.fz.chain]) := by
  let e := fuseBurnDoneDev true d
  have hcases : e = (d.burnReported k).leaveProvision ∨ e = d.burnReported k := by
    rw [show e = _ from fuseBurnDoneDev_good hr.2 hb]
    split
    · exact .inl rfl
    · exact .inr rfl
  have hreported : Dev.Framed d (d.burnReported k) := ((Dev.Framed.burned d k).raise ..).guardSettle
  have hframe : Dev.Framed d e := by
    rcases hcases with h | h <;> rw [h]
    · exact hreported.leaveProvision
    · exact hreported
  have hget : ∀ f : Fld, f.wf = true → PWR_STAT_TRANS.apart f = true → settleReg f.addr = false → f.addr ∉ sendRegs →
      e.get f = (d.burned k).get f := fun f hf ha hs hsend => by
    rcases hcases with h | h <;> rw [h]
    · rw [Dev.leaveProvision_get hf ha, Dev.burnReported_get _ _ hs hsend]
    · rw [Dev.burnReported_get _ _ hs hsend]
  have hfz : e.fz = { d.fz with chain := burnedChain d.fz.chain k } := by
    have h0 : (d.burnReported k).fz = { d.fz with chain := burnedChain d.fz.chain k } := by
      unfold Dev.burnReported
      rw [Dev.guardSettle_fz, Dev.raise_fz, Dev.burned_fz]
    rcases hcases with h | h <;> rw [h]
    · exact (Dev.put_fz ..).trans h0
    · exact h0
  have hlcs : e.lcs = { d.lcs with burn := none } := by
    have h0 : (d.burnReported k).lcs = { d.lcs with burn := none } := by
      unfold Dev.burnReported
      rw [Dev.guardSettle_lcs, Dev.raise_lcs, Dev.burned_lcs]
    rcases hcases with h | h <;> rw [h]
    · exact (Dev.put_lcs ..).trans h0
    · exact h0
  have hchain : (d.fz.kept e.fz).chain = burnedChain d.fz.chain k := by
    rw [hfz]
    exact keepCounts_of_le (burnedChain_length ..) (burnedChain_ge d.fz.chain k)
  refine ⟨_, State.lift_framed q hr.1 hframe, ?_, ?_, ?_, ?_, ?_, fun hkeep => ?_⟩ <;> dsimp only
  · rw [hchain, burnt_burnedChain hk]
  · rw [show (fuseBurnDoneDev true d).lcs = _ from hlcs]
  · rw [Dev.get_withFz]
    exact (hget _ (by decide) (by decide) (by decide) (by decide)).trans (d.burned_shows k).1
  · rw [Dev.get_withFz]
    exact (hget _ (by decide) (by decide) (by decide) (by decide)).trans (d.burned_shows k).2
  · rw [hchain, ← d.burned_life k]
    exact hget _ (by decide) (by decide) (by decide) (by decide)
  · rw [hchain, ← d.burned_life k]
    refine (Dev.Alike.burned d k).newEvent (src := 0) hkeep ?_
    have hgrow := (Dev.Grow.refl ((d.burned k).raise 0xC020 0 [d.life, (d.burned k).life])).guardSettle.evq
    have hspn : e.spn = (d.burnReported k).spn := by
      rcases hcases with h | h <;> rw [h]
      exact Dev.put_spn ..
    change _ <+: e.spn.evq
    rw [hspn]
    exact hgrow

/-- Settles O52: the requests, the response and its timeout, and the end of a burn. -/
theorem lifecycleCommandsComplete : Obligations.LifecycleCommandsComplete := by
  unfold Obligations.LifecycleCommandsComplete
  refine ⟨fun d q hacc hlife hcur hb => ⟨?_, rfl⟩, fun d q hacc hlife hsafe hleg hb => ?_, fun d q v target hacc ha =>
    ⟨exec_lcsResp_good q hacc ha, exec_lcsResp_bad q hacc ha⟩, fun d q target hr ha => exec_authTimeout_refuses q hr ha,
    fun d q k target hr hb hk => exec_fuseBurnDone_good q hr hb hk⟩
  · rw [exec_lcsReq q hacc, lcsReqDev_provisions hacc.1.2.1 hlife hcur hb]
    rfl
  · have hend := lcsReqDev_retires hacc.1.2.1 hlife hsafe hleg hb
    rw [Dev.closeAuth_draws] at hend
    obtain ⟨hw, h0, h3⟩ := d.closeAuth.challenged_shows (Config.lcsNonce d.draws).toNat lRetired
    have hlt : (Config.lcsNonce d.draws).toNat / 2 ^ 96 < 2 ^ 32 :=
      Nat.div_lt_of_lt_mul ((Config.lcsNonce d.draws).isLt.trans_eq (by rw [← Nat.pow_add]))
    refine ⟨_, exec_lcsReq q hacc, ?_, ?_, ?_, ?_⟩ <;> dsimp only <;> rw [hend]
    · rw [Dev.commandDone_lcs, Dev.challenged_lcs, Dev.closeAuth_lcs]
    · rw [Dev.commandDone_get _ _ (by decide), hw]
    · rw [Dev.commandDone_get _ _ (by decide), h0]
    · rw [Dev.commandDone_get _ _ (by decide), h3, Nat.mod_eq_of_lt hlt]

end

end Sys2Proof.Machine
end

section
/-!
SUPPORT. Firmware update (19, R503, R504, R506): how an operation starts and ends, and what ACT and CONFIRM leave.
-/

namespace Sys2Proof.Machine

section
variable {d : Dev}

/-! ## Operations start -/

theorem Dev.get_withFw (e : Dev) (x : FwSt) (f : Fld) : ({ e with fw := x } : Dev).get f = e.get f := rfl
theorem Dev.word_withFw (e : Dev) (x : FwSt) (a : Nat) : ({ e with fw := x } : Dev).word a = e.word a := rfl

theorem Dev.Alike.withFw {d e : Dev} (h : Dev.Alike d e) (x : FwSt) : Dev.Alike d { e with fw := x } :=
  h.trans ⟨rfl, rfl, rfl, rfl⟩

/-- An operation is refused while another runs, in RETIRED, and by a trial that forbids it (R503). -/
theorem Dev.fwStart_refused {op : FwOp} {state : Nat} {inTrial : Bool}
    (h : d.fw.op.isSome ∨ d.life = lRetired ∨ (d.bit FW_IMG_TRIAL = true ∧ inTrial = false)) :
    d.fwStart op state inTrial = d.put FW_UPDSTAT_RESULT 2 :=
  if_pos (by simpa using h)

/-- No operation runs, and nothing forbids one. -/
theorem Dev.fw_free (hop : d.fw.op = none) (hlife : d.life ≠ lRetired) {inTrial : Bool}
    (ht : d.bit FW_IMG_TRIAL = false ∨ inTrial = true) :
    ¬ (d.fw.op.isSome = true ∨ d.life = lRetired ∨ (d.bit FW_IMG_TRIAL = true ∧ (!inTrial) = true)) := by
  rw [hop]
  rcases ht with ht | ht <;> simp [hlife, ht]

section
variable (q : List Instr)

theorem exec_fwErase (hacc : d.accepts FW_UPDCTL_ERASE) :
    exec .fwErase ⟨d, q⟩ = .next ⟨(d.fwStart .erase 1 false).commandDone, q⟩ := by
  have hend : fwEraseDev d = d.fwStart .erase 1 false := if_pos hacc.1.2.1
  rw [← hend]
  exact State.lift_takes_within q hacc (Dev.Within.refl d).fwEraseDev

theorem exec_fwVerify (hacc : d.accepts FW_UPDCTL_VERIFY) :
    exec .fwVerify ⟨d, q⟩ = .next ⟨(d.fwStart .verify 3 true).commandDone, q⟩ := by
  have hend : fwVerifyDev d = d.fwStart .verify 3 true := if_pos hacc.1.2.1
  rw [← hend]
  exact State.lift_takes_within q hacc (Dev.Within.refl d).fwVerifyDev

/-- The page that PROG programs. -/
def Dev.fwPageOp (d : Dev) : FwOp := .prog (d.get FW_UPDCTL_PAGE) ((List.range 1024).map (fun i => d.word (FW_UPDBUF i).addr))

theorem exec_fwProg (hacc : d.accepts FW_UPDCTL_PROG) : exec .fwProg ⟨d, q⟩
    = .next ⟨(if 223 < d.get FW_UPDCTL_PAGE then d.fwRefuse else d.fwStart d.fwPageOp 2 false).commandDone, q⟩ := by
  have hend : fwProgDev d = if 223 < d.get FW_UPDCTL_PAGE then d.fwRefuse else d.fwStart d.fwPageOp 2 false :=
    if_neg (by simp [hacc.1.2.1])
  rw [← hend]
  exact State.lift_takes_within q hacc (Dev.Within.refl d).fwProgDev

theorem exec_fwProg_refused (hacc : d.accepts FW_UPDCTL_PROG)
    (h : d.fw.op.isSome ∨ d.life = lRetired ∨ (d.bit FW_IMG_TRIAL = true ∧ false = false)) :
    exec .fwProg ⟨d, q⟩ = .next ⟨(d.put FW_UPDSTAT_RESULT 2).commandDone, q⟩ := by
  rw [exec_fwProg q hacc, Dev.fwStart_refused h]
  unfold Dev.fwRefuse
  rw [ite_self]

/-! ## Operations end -/

/-- The device whose operation ended. -/
def Dev.fwEnded (d : Dev) (state result : Nat) : Dev :=
  (({ d with fw := { d.fw with op := none } } : Dev).put FW_UPDSTAT_STATE state).put FW_UPDSTAT_RESULT result

theorem Dev.fwEnded_fw (d : Dev) (state result : Nat) : (d.fwEnded state result).fw = { d.fw with op := none } := by
  unfold Dev.fwEnded
  rw [Dev.put_fw, Dev.put_fw]

theorem Dev.fwEnded_shows (d : Dev) (state result : Nat) : (d.fwEnded state result).get FW_UPDSTAT_STATE = state % 16
    ∧ (d.fwEnded state result).get FW_UPDSTAT_RESULT = result % 16
    ∧ (d.fwEnded state result).get FW_UPDSTAT_PAGES = d.get FW_UPDSTAT_PAGES := by
  unfold Dev.fwEnded
  refine ⟨?_, Dev.get_put_same _ _ _ (by decide), ?_⟩ <;>
    simp (disch := decide) only [Dev.get_put_apart, Dev.get_put_same]
  · rfl
  · exact Dev.get_withFw ..

theorem Dev.fwEnded_word (d : Dev) (state result : Nat) {a : Nat} (ha : a ≠ FW_UPDSTAT_STATE.addr) :
    (d.fwEnded state result).word a = d.word a := by
  unfold Dev.fwEnded
  rw [Dev.word_put_other _ FW_UPDSTAT_RESULT _ _ ha, Dev.word_put_other _ FW_UPDSTAT_STATE _ _ ha, Dev.word_withFw]

theorem Dev.Alike.fwEnded {e : Dev} (h : Dev.Alike d e) (state result : Nat) : Dev.Alike d (e.fwEnded state result) := by
  unfold Dev.fwEnded
  exact ((h.withFw _).put (by decide) _).put (by decide) _

theorem fwVer_cases (s : Nat) : fwVer s = FW_VERA_VER ∨ fwVer s = FW_VERB_VER := by
  unfold fwVer
  split
  · exact .inl rfl
  · exact .inr rfl

/-- A word of one field holds what was put there. -/
theorem Dev.word_put_whole (d : Dev) {f : Fld} (hhi : f.hi = 31) (hlo : f.lo = 0) (w : Word) :
    (d.put f w.toNat).word f.addr = w := by
  have hget := Dev.get_put_same d f w.toNat (by unfold Fld.wf; rw [hhi, hlo]; rfl)
  unfold Dev.get bitsOf bitsNat at hget
  rw [hhi, hlo, Nat.pow_zero, Nat.div_one] at hget
  refine BitVec.eq_of_toNat_eq ?_
  have h1 := ((d.put f w.toNat).word f.addr).isLt
  have h2 := w.isLt
  omega

theorem Dev.otherSlot_eq (d : Dev) : d.otherSlot = 1 - d.get FW_IMG_RUN := rfl

section
variable {o : FwObs} (hr : d.runs)
include hr

theorem exec_fwOperationDone {e : Dev} (h : fwOperationDoneDev o d = e) : exec (.fwOperationDone o) ⟨d, q⟩ = .next ⟨e, q⟩ := by
  rw [← h]
  exact State.lift_within q hr.1 ((Dev.Within.refl d).fwOperationDoneDev o)

end

/-- A slot without its pages and its version, before the operation ends. -/
def Dev.slotErased (d : Dev) (s : Nat) : Dev :=
  let e := d.put (fwVer s) 0
  ({ e with fw := { e.fw with pages := e.fw.pages.filter (fun p => p.slot ≠ s) } } : Dev).put FW_UPDSTAT_PAGES 0

/-- A slot with a page programmed, before the operation ends. -/
def Dev.slotProgrammed (d : Dev) (s page : Nat) (ws : List Word) : Dev :=
  let e := d.put (fwVer s) 0
  ({ e with fw := { e.fw with
    pages := e.fw.pages.filter (fun p => !(p.slot = s && p.page = page)) ++ [(⟨s, page, ws⟩ : FwPage)] } } : Dev).countSat
    FW_UPDSTAT_PAGES 1

/-- A slot whose image is verified, before the operation ends. -/
def Dev.slotVerified (d : Dev) (s : Nat) (o : FwObs) : Dev :=
  ({ d with fw := if s = 0 then { d.fw with verified := true, svnA := o.svn }
                  else { d.fw with verified := true, svnB := o.svn } } : Dev).put (fwVer s) o.version.toNat

/-- A slot whose image is not taken, before the operation ends. -/
def Dev.slotRejected (d : Dev) (s : Nat) : Dev :=
  ({ d with fw := { d.fw with verified := false } } : Dev).put (fwVer s) 0

section
variable (s : Nat)

theorem fwVer_addr : (fwVer s).wf = true ∧ (fwVer s).addr ≠ FW_UPDSTAT_PAGES.addr ∧ (fwVer s).addr ≠ PWR_STAT_CUR.addr
    ∧ (fwVer s).addr ∉ sendRegs ∧ (fwVer s).hi = 31 ∧ (fwVer s).lo = 0 := by
  rcases fwVer_cases s with h | h <;> rw [h] <;> decide

theorem Dev.slotErased_shows (d : Dev) : (∀ p ∈ (d.slotErased s).fw.pages, p.slot ≠ s)
    ∧ (d.slotErased s).get (fwVer s) = 0 ∧ (d.slotErased s).get FW_UPDSTAT_PAGES = 0 := by
  obtain ⟨hwf, hpages, -⟩ := fwVer_addr s
  unfold Dev.slotErased
  refine ⟨?_, ?_, Dev.get_put_same _ _ _ (by decide)⟩
  · dsimp only
    rw [Dev.put_fw]
    intro p hp
    simpa using (List.mem_filter.mp hp).2
  · rw [Dev.get_put_apart _ _ _ _ (by decide) hwf (by unfold Fld.apart; simp [hpages.symm]), Dev.get_withFw,
      Dev.get_put_same _ _ _ hwf, Nat.zero_mod]

theorem Dev.slotProgrammed_shows (d : Dev) (page : Nat) (ws : List Word) :
    (⟨s, page, ws⟩ : FwPage) ∈ (d.slotProgrammed s page ws).fw.pages
    ∧ (d.slotProgrammed s page ws).get FW_UPDSTAT_PAGES = min 255 (d.get FW_UPDSTAT_PAGES + 1) := by
  obtain ⟨hwf, hpages, -⟩ := fwVer_addr s
  have hmax : FW_UPDSTAT_PAGES.max = 255 := by decide
  unfold Dev.slotProgrammed Dev.countSat
  refine ⟨?_, ?_⟩
  · dsimp only
    rw [Dev.put_fw]
    exact List.mem_append_right _ List.mem_cons_self
  · rw [Dev.get_put_same _ _ _ (by decide), hmax, Dev.get_withFw,
      Dev.get_put_apart _ _ _ _ hwf (by decide) (by unfold Fld.apart; simp [hpages])]
    exact Nat.mod_eq_of_lt (by simp only [FW_UPDSTAT_PAGES]; omega)

theorem Dev.slotVerified_shows (d : Dev) (o : FwObs) : (d.slotVerified s o).fw.verified = true
    ∧ (d.slotVerified s o).word (fwVer s).addr = o.version := by
  obtain ⟨-, -, -, -, hhi, hlo⟩ := fwVer_addr s
  unfold Dev.slotVerified
  refine ⟨?_, Dev.word_put_whole _ hhi hlo _⟩
  rw [Dev.put_fw]
  dsimp only
  split <;> rfl

theorem Dev.slotRejected_verified (d : Dev) : (d.slotRejected s).fw.verified = false := by
  unfold Dev.slotRejected
  rw [Dev.put_fw]

theorem Dev.Alike.slotVerified {e : Dev} (h : Dev.Alike d e) (o : FwObs) : Dev.Alike d (e.slotVerified s o) := by
  unfold Dev.slotVerified
  exact (h.withFw _).put (fwVer_addr s).2.2.1 _

theorem Dev.Alike.slotRejected {e : Dev} (h : Dev.Alike d e) : Dev.Alike d (e.slotRejected s) := by
  unfold Dev.slotRejected
  exact (h.withFw _).put (fwVer_addr s).2.2.1 _

end

section
variable {o : FwObs} (hr : d.runs) (ho : o.result = 1)
include hr ho

theorem exec_fwOperationDone_erase (hop : d.fw.op = some .erase) :
    ∃ t, exec (.fwOperationDone o) ⟨d, q⟩ = .next t ∧ t.dev.fw.op = none
      ∧ (∀ p ∈ t.dev.fw.pages, p.slot ≠ 1 - d.get FW_IMG_RUN) ∧ t.dev.get (fwVer (1 - d.get FW_IMG_RUN)) = 0
      ∧ t.dev.get FW_UPDSTAT_PAGES = 0 ∧ t.dev.get FW_UPDSTAT_STATE = 0 ∧ t.dev.get FW_UPDSTAT_RESULT = 1 := by
  have hend : fwOperationDoneDev o d = (d.slotErased d.otherSlot).fwEnded 0 1 := by
    unfold fwOperationDoneDev
    rw [if_neg (by simp [hr.2])]
    dsimp only
    rw [hop]
    exact if_pos ho
  rw [← d.otherSlot_eq]
  obtain ⟨hnone, hver, hpages⟩ := d.slotErased_shows d.otherSlot
  obtain ⟨hst, hres, hkeep⟩ := (d.slotErased d.otherSlot).fwEnded_shows 0 1
  refine ⟨_, exec_fwOperationDone q hr hend, ?_, ?_, ?_, hkeep.trans hpages, hst, hres⟩ <;> dsimp only
  · rw [Dev.fwEnded_fw]
  · rw [Dev.fwEnded_fw]
    exact hnone
  · rw [← hver]
    unfold Dev.get
    rw [Dev.fwEnded_word _ _ _ (fwVer_addr _).2.1]

theorem exec_fwOperationDone_prog {page : Nat} {ws : List Word} (hop : d.fw.op = some (.prog page ws)) :
    ∃ t, exec (.fwOperationDone o) ⟨d, q⟩ = .next t ∧ t.dev.fw.op = none
      ∧ ⟨1 - d.get FW_IMG_RUN, page, ws⟩ ∈ t.dev.fw.pages
      ∧ t.dev.get FW_UPDSTAT_PAGES = min 255 (d.get FW_UPDSTAT_PAGES + 1)
      ∧ t.dev.get FW_UPDSTAT_STATE = 0 ∧ t.dev.get FW_UPDSTAT_RESULT = 1 := by
  have hend : fwOperationDoneDev o d = (d.slotProgrammed d.otherSlot page ws).fwEnded 0 1 := by
    unfold fwOperationDoneDev
    rw [if_neg (by simp [hr.2])]
    dsimp only
    rw [hop]
    exact if_pos ho
  rw [← d.otherSlot_eq]
  obtain ⟨hpage, hpages⟩ := d.slotProgrammed_shows d.otherSlot page ws
  obtain ⟨hst, hres, hkeep⟩ := (d.slotProgrammed d.otherSlot page ws).fwEnded_shows 0 1
  refine ⟨_, exec_fwOperationDone q hr hend, ?_, ?_, hkeep.trans hpages, hst, hres⟩ <;> dsimp only
  · rw [Dev.fwEnded_fw]
  · rw [Dev.fwEnded_fw]
    exact hpage

theorem exec_fwOperationDone_verified (hop : d.fw.op = some .verify) (hsvn : d.get FW_SVN_MIN ≤ o.svn) :
    ∃ t, exec (.fwOperationDone o) ⟨d, q⟩ = .next t ∧ t.dev.fw.op = none ∧ t.dev.fw.verified = true
      ∧ t.dev.word (fwVer (1 - d.get FW_IMG_RUN)).addr = o.version ∧ t.dev.get FW_UPDSTAT_STATE = 4
      ∧ t.dev.get FW_UPDSTAT_RESULT = 1 ∧ (d.keepsEvents → d.newEvent t.dev 0xC030 [o.version.toNat]) := by
  have hend : fwOperationDoneDev o d
      = ((d.slotVerified d.otherSlot o).fwEnded 4 1).raise 0xC030 0 [o.version.toNat] := by
    unfold fwOperationDoneDev
    rw [if_neg (by simp [hr.2])]
    dsimp only
    rw [hop]
    dsimp only
    have hresult : (if o.result = 1 ∧ o.svn < d.get FW_SVN_MIN then 5 else o.result) = 1 :=
      (if_neg fun h => absurd h.2 (Nat.not_lt.mpr hsvn)).trans ho
    rw [hresult, if_pos rfl]
    simp only [Dev.fwEnded, Dev.slotVerified, hop]
  rw [← d.otherSlot_eq]
  obtain ⟨hver, hword⟩ := d.slotVerified_shows d.otherSlot o
  obtain ⟨hst, hres, -⟩ := (d.slotVerified d.otherSlot o).fwEnded_shows 4 1
  have hx := ((Dev.Alike.refl d).slotVerified d.otherSlot o).fwEnded 4 1
  refine ⟨_, exec_fwOperationDone q hr hend, ?_, ?_, ?_, ?_, ?_, fun hk => hx.newEvent hk (List.prefix_refl _)⟩ <;>
    dsimp only
  · rw [Dev.raise_fw, Dev.fwEnded_fw]
  · rw [Dev.raise_fw, Dev.fwEnded_fw]
    exact hver
  · rw [Dev.raise_word _ _ _ _ _ (fwVer_addr _).2.2.2.1, Dev.fwEnded_word _ _ _ (fwVer_addr _).2.1, hword]
  · rw [Dev.raise_get _ _ _ _ _ (by decide), hst]
  · rw [Dev.raise_get _ _ _ _ _ (by decide), hres]

/-- An image of a security version below MIN is not taken (R503). -/
theorem exec_fwOperationDone_rejected (hop : d.fw.op = some .verify) (hsvn : o.svn < d.get FW_SVN_MIN) :
    ∃ t, exec (.fwOperationDone o) ⟨d, q⟩ = .next t ∧ t.dev.fw.op = none ∧ t.dev.fw.verified = false
      ∧ t.dev.get FW_UPDSTAT_STATE = 5 ∧ t.dev.get FW_UPDSTAT_RESULT = 5
      ∧ (d.keepsEvents → d.newEvent t.dev 0xC031 [5]) := by
  have hend : fwOperationDoneDev o d = ((d.slotRejected d.otherSlot).fwEnded 5 5).raise 0xC031 0 [5] := by
    unfold fwOperationDoneDev
    rw [if_neg (by simp [hr.2])]
    dsimp only
    rw [hop]
    dsimp only
    have hresult : (if o.result = 1 ∧ o.svn < d.get FW_SVN_MIN then 5 else o.result) = 5 := if_pos ⟨ho, hsvn⟩
    rw [hresult]
    exact if_neg (by decide)
  obtain ⟨hst, hres, -⟩ := (d.slotRejected d.otherSlot).fwEnded_shows 5 5
  have hx := ((Dev.Alike.refl d).slotRejected d.otherSlot).fwEnded 5 5
  refine ⟨_, exec_fwOperationDone q hr hend, ?_, ?_, ?_, ?_, fun hk => hx.newEvent hk (List.prefix_refl _)⟩ <;> dsimp only
  · rw [Dev.raise_fw, Dev.fwEnded_fw]
  · rw [Dev.raise_fw, Dev.fwEnded_fw]
    exact Dev.slotRejected_verified d.otherSlot d
  · rw [Dev.raise_get _ _ _ _ _ (by decide), hst]
  · rw [Dev.raise_get _ _ _ _ _ (by decide), hres]

end

/-! ## ACT, CONFIRM and the legacy settings -/

section
variable {rst : Bool} (hacc : d.accepts FW_UPDCTL_ACT) (hlife : d.life ≠ lRetired) (hop : d.fw.op = none)
include hacc

theorem exec_fwAct : exec (.fwAct rst) ⟨d, q⟩ = .next ⟨(fwActDev rst d).commandDone, q⟩ :=
  State.lift_takes_within q hacc ((Dev.Within.refl d).fwActDev rst)

include hlife hop

theorem fwActDev_takes (hv : d.fw.verified = true) : fwActDev rst d = ({ d.putB FW_UPDCTL_RST rst with
    fw := { d.fw with fresh := true, rstDue := rst } } : Dev).put FW_IMG_NEXT (1 - d.get FW_IMG_RUN) := by
  have hlife' : (d.put FW_UPDCTL_RST (if rst then 1 else 0)).life = d.life :=
    Dev.get_put_apart _ _ _ _ (by decide) (by decide) (by decide)
  have hrun : (d.put FW_UPDCTL_RST (if rst then 1 else 0)).get FW_IMG_RUN = d.get FW_IMG_RUN :=
    Dev.get_put_apart _ _ _ _ (by decide) (by decide) (by decide)
  unfold fwActDev
  rw [if_neg (by simp [hacc.1.2.1])]
  unfold Dev.putB Dev.otherSlot
  dsimp only
  rw [Dev.put_fw, hlife', hrun, if_neg (by simp [hv, hlife, hop])]

omit hlife hop in
theorem fwActDev_refused (hv : d.fw.verified = false) :
    fwActDev rst d = (d.putB FW_UPDCTL_RST rst).put FW_UPDSTAT_RESULT 2 := by
  unfold fwActDev
  rw [if_neg (by simp [hacc.1.2.1])]
  unfold Dev.putB
  dsimp only
  rw [Dev.put_fw, if_pos (by simp [hv])]
  rfl

end

/-- CONFIRM ends the trial, and MIN rises by fuse (R504). -/
theorem exec_fwConfirm_ends (hacc : d.accepts FW_UPDCTL_CONFIRM) (ht : d.bit FW_IMG_TRIAL = true) :
    ∃ t, exec .fwConfirm ⟨d, q⟩ = .next t ∧ t.dev.get FW_IMG_TRIAL = 0
      ∧ t.dev.fz = { d.fz with svn := max d.fz.svn (min 63 (d.get FW_SVN_RUN)) }
      ∧ t.dev.get FW_SVN_MIN = (max d.fz.svn (min 63 (d.get FW_SVN_RUN))) % 256
      ∧ (d.keepsEvents → d.newEvent t.dev 0xC033 []) := by
  let e := (d.put FW_IMG_TRIAL 0).raise 0xC033 0 []
  let svn := max d.fz.svn (min 63 (d.get FW_SVN_RUN))
  have hfz : e.fz = d.fz := (Dev.raise_fz ..).trans (Dev.put_fz ..)
  have hrun : e.get FW_SVN_RUN = d.get FW_SVN_RUN :=
    (Dev.raise_get _ _ _ _ _ (by decide)).trans (Dev.get_put_apart _ _ _ _ (by decide) (by decide) (by decide))
  have hend : fwConfirmDev d = ({ e with fz := { d.fz with svn := svn } } : Dev).put FW_SVN_MIN svn := by
    unfold fwConfirmDev
    rw [if_pos ⟨hacc.1.2.1, ht⟩]
    change ({ e with fz := { e.fz with svn := max e.fz.svn (min 63 (e.get FW_SVN_RUN)) } } : Dev).put FW_SVN_MIN
      (max e.fz.svn (min 63 (e.get FW_SVN_RUN))) = _
    rw [hfz, hrun]
  have hfz' : (fwConfirmDev d).fz = { d.fz with svn := svn } := by rw [hend, Dev.put_fz]
  have hframe : Dev.Framed d (fwConfirmDev d) := by
    rw [hend]
    exact ((((Dev.Framed.refl d).put ..).raise ..).withFz _).put ..
  refine ⟨_, State.lift_takes_framed q hacc hframe, ?_, ?_, ?_, fun hk => ?_⟩ <;> dsimp only
  · rw [Dev.get_withFz, Dev.commandDone_get _ _ (by decide), hend,
      Dev.get_put_apart _ _ _ _ (by decide) (by decide) (by decide), Dev.get_withFz, Dev.raise_get _ _ _ _ _ (by decide)]
    exact Dev.get_put_same _ _ _ (by decide)
  · rw [hfz']
    unfold Fuses.kept
    rw [keepCounts_self, keepCounts_self, keepCounts_self, Nat.max_eq_right (Nat.le_max_left ..)]
  · rw [Dev.get_withFz, Dev.commandDone_get _ _ (by decide), hend]
    exact Dev.get_put_same _ _ _ (by decide)
  · refine ((Dev.Alike.refl d).put (g := FW_IMG_TRIAL) (by decide) 0).newEvent (src := 0) hk ?_
    have hspn : (fwConfirmDev d).spn = e.spn := by rw [hend, Dev.put_spn]
    change _ <+: (fwConfirmDev d).commandDone.spn.evq
    rw [Dev.commandDone_spn, hspn]

theorem exec_fwLegSave_saves (hacc : d.accepts FW_LEG_SAVE) : exec .fwLegSave ⟨d, q⟩
    = .next ⟨({ d with nvm := { d.nvm with leg := d.word FW_LEG_EN.addr } } : Dev).commandDone, q⟩ := by
  have hend : fwLegSaveDev d = { d with nvm := { d.nvm with leg := d.word FW_LEG_EN.addr } } := if_pos hacc.1.2.1
  rw [← hend]
  exact State.lift_takes_unburned q hacc (by rw [hend]; exact ⟨rfl, rfl, rfl⟩) (by rw [hend])

/-- Settles O53: the starts and refusals of an update operation, its end, and ACT, CONFIRM and the legacy settings. -/
theorem firmwareCommandsComplete : Obligations.FirmwareCommandsComplete := by
  unfold Obligations.FirmwareCommandsComplete
  refine ⟨fun d q hacc hop hlife ht => ?_, fun d q hacc hop hlife ht hpage => ?_, fun d q hacc hop hlife => ?_,
    fun d q h => ⟨fun hacc => ?_, fun hacc => exec_fwProg_refused q hacc (h.imp_right .inl), fun hacc => ?_⟩,
    fun d q ht => ⟨fun hacc => ?_, fun hacc => exec_fwProg_refused q hacc (.inr (.inr ⟨ht, rfl⟩))⟩,
    fun d q o hr ho => ⟨exec_fwOperationDone_erase q hr ho, fun page ws => exec_fwOperationDone_prog q hr ho,
      exec_fwOperationDone_verified q hr ho, exec_fwOperationDone_rejected q hr ho⟩,
    fun d q rst hacc hlife hop => ⟨fun hv => ?_, fun hv => ?_⟩, fun d q hacc ht => exec_fwConfirm_ends q hacc ht,
    fun d q hacc => exec_fwLegSave_saves q hacc⟩
  · rw [exec_fwErase q hacc]
    unfold Dev.fwStart
    rw [if_neg (Dev.fw_free hop hlife (.inl ht))]
  · rw [exec_fwProg q hacc, if_neg (by omega)]
    unfold Dev.fwStart
    rw [if_neg (Dev.fw_free hop hlife (.inl ht))]
    rfl
  · rw [exec_fwVerify q hacc]
    unfold Dev.fwStart
    rw [if_neg (Dev.fw_free hop hlife (.inr rfl))]
  · rw [exec_fwErase q hacc, Dev.fwStart_refused (h.imp_right .inl)]
  · rw [exec_fwVerify q hacc, Dev.fwStart_refused (h.imp_right .inl)]
  · rw [exec_fwErase q hacc, Dev.fwStart_refused (.inr (.inr ⟨ht, rfl⟩))]
  · rw [exec_fwAct q hacc, fwActDev_takes hacc hlife hop hv]
  · rw [exec_fwAct q hacc, fwActDev_refused hacc hv]

end

end

end Sys2Proof.Machine
end

section
/-!
SUPPORT. Legacy mode (20, R512 to R519): the first frame at a port, what a frame that names a virtual device does, and
the discharge bits it stages.
-/

namespace Sys2Proof.Machine

section
variable {d : Dev}

/-! ## The first frame of a partner -/

/-- A port takes up a legacy partner, with its event (Table 12-9). -/
def Dev.partnerShown (d : Dev) (p : Port) : Dev :=
  ((((d.put (SPN_PORT_LEG p) 1).put (SPN_PORT_STATE p) pLr).put (SPN_PORT_ONEWAY p) 0).put (SPN_PORT_MISW p) 0).raise 0x7001 0
    [portCode p, (Config.eventCause 0x7001 0).toNat]

theorem portFields_spn (p : Port) : (SPN_PORT_LEG p).addr = (SPN_PORT_STATE p).addr
    ∧ (SPN_PORT_ONEWAY p).addr = (SPN_PORT_STATE p).addr ∧ (SPN_PORT_MISW p).addr = (SPN_PORT_STATE p).addr
    ∧ 0x14000 ≤ (SPN_PORT_STATE p).addr ∧ (SPN_PORT_STATE p).addr < 0x15000 := by
  cases p <;> decide

/-- A register outside the link shows what it showed. -/
theorem Dev.partnerShown_get (p : Port) {f : Fld} (hf : ¬ (0x14000 ≤ f.addr ∧ f.addr < 0x15000)) (hs : f.addr ∉ sendRegs) :
    (d.partnerShown p).get f = d.get f := by
  obtain ⟨hleg, hone, hmisw, hlo, hhi⟩ := portFields_spn p
  have hne : f.addr ≠ (SPN_PORT_STATE p).addr := fun h => hf (h ▸ ⟨hlo, hhi⟩)
  unfold Dev.partnerShown
  rw [Dev.raise_get _ _ _ _ _ hs]
  unfold Dev.get
  rw [Dev.word_put_other _ (SPN_PORT_MISW p) _ _ (by rw [hmisw]; exact hne),
    Dev.word_put_other _ (SPN_PORT_ONEWAY p) _ _ (by rw [hone]; exact hne), Dev.word_put_other _ (SPN_PORT_STATE p) _ _ hne,
    Dev.word_put_other _ (SPN_PORT_LEG p) _ _ (by rw [hleg]; exact hne)]

theorem Dev.partnerShown_rest (d : Dev) (p : Port) : (d.partnerShown p).leg = d.leg ∧ (d.partnerShown p).build = d.build
    ∧ (d.partnerShown p).role = d.role ∧ (d.partnerShown p).saf = d.saf := by
  unfold Dev.partnerShown
  refine ⟨?_, ?_, ?_, ?_⟩
  · simp only [Dev.raise_leg, Dev.put_leg]
  · simp only [Dev.raise_build, Dev.put_build]
  · simp only [Dev.raise_role, Dev.put_role]
  · simp only [Dev.raise_saf, Dev.put_saf]

theorem Dev.inLegacy_congr {d e : Dev} (hc : e.get PWR_STAT_CUR = d.get PWR_STAT_CUR) (hs : e.saf = d.saf) :
    e.inLegacy = d.inLegacy := by
  unfold Dev.inLegacy Dev.cur
  rw [hc, hs]

/-- In LEGACY a port takes up its partner without a notice, or has it already. -/
theorem Dev.legUp_cases (h : d.inLegacy = true) (p : Port) : d.legUp p = d ∨ d.legUp p = d.partnerShown p := by
  unfold Dev.legUp
  split
  · obtain ⟨-, -, -, hsaf⟩ := d.partnerShown_rest p
    have hin : (d.partnerShown p).inLegacy = true :=
      (Dev.inLegacy_congr (Dev.partnerShown_get p (by decide) (by decide)) hsaf).trans h
    have hquiet : (d.partnerShown p).linkNotice p true 0 = d.partnerShown p := if_neg (by simp [hin])
    exact .inr hquiet
  · exact .inl rfl

theorem Dev.Grow.partnerShown {e : Dev} (h : Dev.Grow d e) (p : Port) : Dev.Grow d (e.partnerShown p) :=
  ((((h.put ..).put ..).put ..).put ..).raise ..

/-! ## A frame from the south -/

section
variable {w : BitVec 48} (h : d.inLegacy = true)
include h

/-- What relaying a frame leaves. -/
theorem Dev.legacyRelayed_rest : (d.legacyRelayed w).leg = d.leg ∧ (d.legacyRelayed w).build = d.build
    ∧ (d.legacyRelayed w).role = d.role ∧ Dev.Grow d (d.legacyRelayed w)
    ∧ ∀ f : Fld, ¬ (0x14000 ≤ f.addr ∧ f.addr < 0x15000) → f.addr ∉ sendRegs → (d.legacyRelayed w).get f = d.get f := by
  obtain ⟨hleg, hbuild, hrole, -⟩ := d.partnerShown_rest .south
  have hup : (d.legUp .south).leg = d.leg ∧ (d.legUp .south).build = d.build ∧ (d.legUp .south).role = d.role
      ∧ Dev.Grow d (d.legUp .south)
      ∧ ∀ f : Fld, ¬ (0x14000 ≤ f.addr ∧ f.addr < 0x15000) → f.addr ∉ sendRegs → (d.legUp .south).get f = d.get f := by
    rcases Dev.legUp_cases h .south with hd | hd <;> rw [hd]
    · exact ⟨rfl, rfl, rfl, Dev.Grow.refl d, fun f _ _ => rfl⟩
    · exact ⟨hleg, hbuild, hrole, (Dev.Grow.refl d).partnerShown .south, fun f hf hs => Dev.partnerShown_get _ hf hs⟩
  obtain ⟨h1, h2, h3, h4, h5⟩ := hup
  unfold Dev.legacyRelayed
  split
  · exact ⟨h1, h2, h3, h4.emit _, h5⟩
  · exact ⟨h1, h2, h3, h4, h5⟩

end

theorem Dev.vdev_congr {d e : Dev} (h : e.leg = d.leg) (i : Nat) : e.vdev i = d.vdev i := by
  unfold Dev.vdev
  rw [h]

theorem Dev.named_congr {d e : Dev} (h : e.leg = d.leg) (hb : e.build = d.build) (a : Nat) : e.named a = d.named a := by
  unfold Dev.named Dev.vdevIds
  simp only [Dev.vdev_congr h, hb]

/-- A frame that a device in LEGACY hears from the south is relayed, and acts (R512). -/
theorem legacyIn_south {w : BitVec 48} {cmd : Nat} (h : d.legacyHears w cmd) (act : Dev → Dev) :
    legacyIn .south w cmd d act = act (d.legacyRelayed w) := by
  obtain ⟨-, hl, hin, hok, hcmd⟩ := h
  have hrelays : (d.legUp .south).relaysNorth = d.relaysNorth := by
    obtain ⟨hleg, hbuild, -, -⟩ := d.partnerShown_rest .south
    unfold Dev.relaysNorth Dev.vdevIds
    rcases Dev.legUp_cases hin .south with hd | hd <;> rw [hd]
    simp only [Dev.vdev_congr hleg, hbuild]
  unfold legacyIn
  rw [if_neg (by simp [hl, hin, hok, hcmd])]
  dsimp only
  rw [hrelays]
  rfl

section
variable {e : Dev} (i : Nat)

theorem Dev.Grow.countCc (h : Dev.Grow d e) : Dev.Grow d (e.countCc i) := h.setVdev ..

theorem Dev.Grow.legRespond (h : Dev.Grow d e) (cmd data : Nat) : Dev.Grow d (e.legRespond i cmd data) := h.emit _

theorem Dev.Grow.stage (h : Dev.Grow d e) (base g : Nat) (f : Fld) (v : Nat) : Dev.Grow d (e.stage base g f v) :=
  (h.setStaged ..).put ..

theorem Dev.Grow.arm (h : Dev.Grow d e) (base g : Nat) : Dev.Grow d (e.arm base g) := h.put ..

theorem Dev.Grow.stageTh (h : Dev.Grow d e) (ov : Bool) (mv : Nat) : Dev.Grow d (e.stageTh ov i mv) :=
  (Dev.Grow.each _ _ h fun _ _ hc => hc.stage ..).setVdev ..

theorem Dev.Grow.latchReset (h : Dev.Grow d e) (a : Afe) : Dev.Grow d (e.latchReset a) := by
  unfold Dev.latchReset
  exact h.ite (((h.setBz ..).bezelArm a).ite ((h.put ..).raise ..))

theorem Dev.Grow.legClear (h : Dev.Grow d e) : Dev.Grow d (processorLatchReset (bezelLatchResetDev .L e)) := by
  have hb : Dev.Grow d (bezelLatchResetDev .L e) := ((h.latchReset .U).latchReset .L).guardSettle
  unfold processorLatchReset
  exact (hb.put ..).guardSettle.ite ((hb.put ..).raise ..)

end

/-- A frame that names one virtual device by its address counts there, acts and is answered. -/
theorem Dev.forNamed_one {w : BitVec 48} {v : Nat} (hn : d.named (lfAddr w) = [v]) (ha : lfAddr w ≠ 63)
    (f : Dev → Nat → Nat × Dev) :
    d.forNamed w f = (f (d.countCc v) v).2.legRespond v (lfCmd w) (f (d.countCc v) v).1 := by
  unfold Dev.forNamed
  rw [hn]
  exact if_neg ha

/-! ## Staged fields -/

section
variable {base g : Nat} {f x : Fld} {v : Nat}

/-- A field that is staged holds the value in its staged copy. -/
theorem Dev.stg_stage_same (hf : f.wf = true) (hb : f.addr ≠ base + 0xF04) :
    (d.stage base g f v).stg f = v % 2 ^ (f.hi + 1 - f.lo) := by
  simp only [Fld.wf, Bool.and_eq_true, decide_eq_true_eq] at hf
  rw [Dev.stg_eq, Dev.stagedWord_stage _ _ _ _ _ _ hb, if_pos rfl, bitsOf_setBits _ _ _ _ hf.1 hf.2]

/-- A field apart from the one that is staged keeps its staged copy. -/
theorem Dev.stg_stage_apart (hf : f.wf = true) (hx : x.wf = true) (h : f.apart x = true) (hb : x.addr ≠ base + 0xF04) :
    (d.stage base g f v).stg x = d.stg x := by
  simp only [Fld.wf, Fld.apart, Bool.and_eq_true, Bool.or_eq_true, decide_eq_true_eq] at hf hx h
  rw [Dev.stg_eq, Dev.stg_eq, Dev.stagedWord_stage _ _ _ _ _ _ hb]
  split
  · next ha =>
    rw [bitsOf_setBits_apart _ _ _ _ _ _ hf.1 _ hx.2, ha]
    rcases h with (h | h) | h
    · exact absurd ha.symm h
    · exact .inl h
    · exact .inr h
  · rfl

theorem Dev.stage_get (hx : x.addr ≠ base + 0xF04) : (d.stage base g f v).get x = d.get x := by
  unfold Dev.stage Dev.get
  rw [Dev.word_put_other _ (csDirty base g) _ _ hx]
  rfl

end

/-! ## Discharge bits -/

/-- The discharge bit of one cell is staged. -/
def Dev.dischCell (live : Bool) (i bits : Nat) (d : Dev) (n : Nat) : Dev :=
  let mine := decide (12 * i < n ∧ n ≤ 12 * i + 12)
  if !mine && live then d
  else
    let on := mine && decide (bits / 2 ^ (n - 12 * i - 1) % 2 = 1)
    let d := d.stage 0x28000 1 (BAL_CSET_DIR n) (if on then 1 else 0)
    if on then (d.stage 0x28000 1 (BAL_CSET_ISET n) d.leg.iset).stage 0x28000 1 (BAL_CSET_TTYP n) 0 else d

theorem Dev.stageDisch_eq (d : Dev) (i bits : Nat) :
    d.stageDisch i bits = (d.each d.allCells (Dev.dischCell d.planLive i bits)).arm 0x28000 1 := rfl

section
variable {live : Bool} {i bits n : Nat} {e : Dev}

theorem Dev.Grow.dischCell (h : Dev.Grow d e) (live : Bool) (i bits n : Nat) : Dev.Grow d (Dev.dischCell live i bits e n) := by
  unfold Dev.dischCell
  exact h.ite (((h.stage ..).stage ..).stage .. |>.ite (h.stage ..))

theorem Dev.Grow.stageDisch (h : Dev.Grow d e) (i bits : Nat) : Dev.Grow d (e.stageDisch i bits) :=
  (Dev.Grow.each _ _ h fun _ n hc => hc.dischCell _ i bits n).arm ..

/-- Staging a cell changes no register but BLOCK_CSTAT. -/
theorem Dev.dischCell_get {x : Fld} (hx : x.addr ≠ 0x28F04) : (Dev.dischCell live i bits d n).get x = d.get x := by
  unfold Dev.dischCell
  dsimp only
  split
  · rfl
  · split
    · rw [Dev.stage_get hx, Dev.stage_get hx, Dev.stage_get hx]
    · rw [Dev.stage_get hx]

/-- The bit of a cell of the virtual device is staged. -/
theorem Dev.dischCell_own (hn : 12 * i < n ∧ n ≤ 12 * i + 12) (h36 : n ≤ 36) :
    (Dev.dischCell live i bits d n).stg (BAL_CSET_DIR n) = bits / 2 ^ (n - 12 * i - 1) % 2 := by
  have hb : (BAL_CSET_DIR n).addr ≠ 0x28000 + 0xF04 := by simp only [BAL_CSET_DIR]; omega
  have hiset : (BAL_CSET_ISET n).apart (BAL_CSET_DIR n) = true := by simp [Fld.apart, BAL_CSET_ISET, BAL_CSET_DIR]
  have httyp : (BAL_CSET_TTYP n).apart (BAL_CSET_DIR n) = true := by simp [Fld.apart, BAL_CSET_TTYP, BAL_CSET_DIR]
  unfold Dev.dischCell
  dsimp only
  rw [decide_eq_true hn, if_neg (by simp), Bool.true_and]
  by_cases hbit : bits / 2 ^ (n - 12 * i - 1) % 2 = 1
  · rw [decide_eq_true hbit, if_pos rfl, if_pos rfl, Dev.stg_stage_apart rfl rfl httyp hb,
      Dev.stg_stage_apart rfl rfl hiset hb, Dev.stg_stage_same rfl hb, hbit]
    rfl
  · rw [decide_eq_false hbit, if_neg (by decide), if_neg (by decide), Dev.stg_stage_same rfl hb]
    change 0 % 4 = _
    omega

/-- The bits of other cells stay as they are staged. -/
theorem Dev.dischCell_other {m : Nat} (hm : 1 ≤ m) (hn : 1 ≤ n) (h36 : n ≤ 36) (hne : m ≠ n) :
    (Dev.dischCell live i bits d m).stg (BAL_CSET_DIR n) = d.stg (BAL_CSET_DIR n) := by
  have hb : (BAL_CSET_DIR n).addr ≠ 0x28000 + 0xF04 := by simp only [BAL_CSET_DIR]; omega
  have haddr : 0x28100 + 4 * (m - 1) ≠ 0x28100 + 4 * (n - 1) := by omega
  have hdir : (BAL_CSET_DIR m).apart (BAL_CSET_DIR n) = true := by simp [Fld.apart, BAL_CSET_DIR]; omega
  have hiset : (BAL_CSET_ISET m).apart (BAL_CSET_DIR n) = true := by simp [Fld.apart, BAL_CSET_ISET, BAL_CSET_DIR]
  have httyp : (BAL_CSET_TTYP m).apart (BAL_CSET_DIR n) = true := by simp [Fld.apart, BAL_CSET_TTYP, BAL_CSET_DIR]
  unfold Dev.dischCell
  dsimp only
  split
  · rfl
  · split
    · rw [Dev.stg_stage_apart rfl rfl httyp hb, Dev.stg_stage_apart rfl rfl hiset hb, Dev.stg_stage_apart rfl rfl hdir hb]
    · rw [Dev.stg_stage_apart rfl rfl hdir hb]

/-- Every bit of the virtual device is staged by its own cell. -/
theorem Dev.dischCells_own (hn : 12 * i < n ∧ n ≤ 12 * i + 12) (h36 : n ≤ 36) (ms : List Nat) (hms : ∀ m ∈ ms, 1 ≤ m)
    (h : n ∈ ms ∨ d.stg (BAL_CSET_DIR n) = bits / 2 ^ (n - 12 * i - 1) % 2) :
    (d.each ms (Dev.dischCell live i bits)).stg (BAL_CSET_DIR n) = bits / 2 ^ (n - 12 * i - 1) % 2 := by
  induction ms generalizing d with
  | nil => exact h.resolve_left List.not_mem_nil
  | cons m ms ih =>
    refine ih (fun k hk => hms k (List.mem_cons_of_mem _ hk)) ?_
    by_cases hm : m = n
    · exact .inr (hm ▸ Dev.dischCell_own (hm ▸ hn) (hm ▸ h36))
    · rw [Dev.dischCell_other (hms m List.mem_cons_self) (by omega) h36 hm]
      exact h.imp_left fun h => (List.mem_cons.mp h).resolve_left (Ne.symm hm)

theorem Dev.cells_le (d : Dev) : d.cells ≤ 36 := by
  unfold Dev.cells
  split
  · exact Nat.zero_le _
  · cases d.build <;> decide

/-- Staging discharge bits stages each cell's, and arms the group (R519). -/
theorem Dev.stageDisch_own (hn : 12 * i < n ∧ n ≤ 12 * i + 12) (hc : n ≤ d.cells) :
    (d.stageDisch i bits).stg (BAL_CSET_DIR n) = bits / 2 ^ (n - 12 * i - 1) % 2 := by
  have h36 : n ≤ 36 := hc.trans d.cells_le
  have hmem : ∀ m, m ∈ d.allCells ↔ 1 ≤ m ∧ m ≤ d.cells := fun m => by
    unfold Dev.allCells rangeL
    simp only [List.mem_map, List.mem_range]
    exact ⟨fun ⟨k, hk, he⟩ => by omega, fun hm => ⟨m - 1, by omega, by omega⟩⟩
  rw [Dev.stageDisch_eq]
  unfold Dev.arm
  rw [Dev.stg_put_apart _ _ _ _ rfl rfl (by simp [Fld.apart, csPend, BAL_CSET_DIR])]
  exact Dev.dischCells_own hn h36 _ (fun m hm => ((hmem m).mp hm).1) (.inl ((hmem n).mpr ⟨by omega, hc⟩))

theorem Dev.stageDisch_get {x : Fld} (hx : x.addr ≠ 0x28F04) : (d.stageDisch i bits).get x = d.get x := by
  rw [Dev.stageDisch_eq]
  have heach : (d.each d.allCells (Dev.dischCell d.planLive i bits)).get x = d.get x := by
    unfold Dev.each
    exact List.foldlRecOn (motive := fun e : Dev => e.get x = d.get x) _ _ rfl fun e he m _ => (Dev.dischCell_get hx).trans he
  rw [← heach]
  unfold Dev.arm Dev.get
  rw [Dev.word_put_other _ (csPend 0x28000 1) _ _ hx]

theorem Dev.stageDisch_pend (d : Dev) (i bits : Nat) : (d.stageDisch i bits).pend 0x28000 1 = true := by
  rw [Dev.stageDisch_eq]
  exact (Dev.bit_put_same _ _ _ (by decide)).trans (by decide)

theorem Dev.planLive_congr {d e : Dev} (ha : e.get BAL_STAT_ACTIVE = d.get BAL_STAT_ACTIVE)
    (hs : e.get BAL_STAT_SPEND = d.get BAL_STAT_SPEND) : e.planLive = d.planLive := by
  unfold Dev.planLive Dev.bit
  rw [ha, hs]

theorem Dev.stageDisch_live (d : Dev) (i bits : Nat) : (d.stageDisch i bits).planLive = d.planLive :=
  Dev.planLive_congr (Dev.stageDisch_get (by decide)) (Dev.stageDisch_get (by decide))

end

/-! ## The frames -/

section
variable (q : List Instr) {w : BitVec 48} {v : Nat}

/-- SETADDR gives the first device without an address the one of the frame (R513). -/
theorem exec_setaddr_takes (h : d.legacyHears w 1) (h0 : lfAddr w ≠ 0) (h63 : lfAddr w ≠ 63)
    (hv : d.vdevIds.find? (fun i => (d.vdev i).addr = 0) = some v) : exec (.setaddr .south w) ⟨d, q⟩
      = .next ⟨(((d.legacyRelayed w).setVdev v { d.vdev v with addr := lfAddr w }).countCc v).legRespond v 1 (lfData w), q⟩ := by
  obtain ⟨hleg, hbuild, -, hg, -⟩ := Dev.legacyRelayed_rest (w := w) h.2.2.1
  have hids : (d.legacyRelayed w).vdevIds = d.vdevIds := by unfold Dev.vdevIds; rw [hbuild]
  have hdev : ∀ i, (d.legacyRelayed w).vdev i = d.vdev i := Dev.vdev_congr hleg
  refine State.lift_grow q h.1 ?_ (((hg.setVdev ..).countCc v).legRespond v 1 _)
  refine (legacyIn_south h _).trans ?_
  rw [if_neg (by simp [h0, h63])]
  simp only [hdev, hids, hv]

/-- RD answers with the register (R517). -/
theorem exec_legacyRd_reads (h : d.legacyHears w 3) (hn : d.named (lfAddr w) = [v]) (h63 : lfAddr w ≠ 63) :
    exec (.legacyRd .south w) ⟨d, q⟩
      = .next ⟨((d.legacyRelayed w).countCc v).legRespond v 3 (((d.legacyRelayed w).countCc v).legRead v (lfReg w)), q⟩ := by
  obtain ⟨hleg, hbuild, -, hg, -⟩ := Dev.legacyRelayed_rest (w := w) h.2.2.1
  refine State.lift_grow q h.1 ?_ ((hg.countCc v).legRespond v 3 _)
  refine (legacyIn_south h _).trans ?_
  rw [Dev.forNamed_one ((Dev.named_congr hleg hbuild _).trans hn) h63, h.2.2.2.2]

section
variable (h : d.legacyHears w 2) (hn : d.named (lfAddr w) = [v]) (h63 : lfAddr w ≠ 63)
include h hn h63

/-- A write frame that names one device counts, writes and is answered. -/
theorem legacyWrite_one {sel : Nat → Bool} (hsel : sel (lfReg w) = true) : legacyWrite sel .south w d
    = (((d.legacyRelayed w).countCc v).legWrite v (lfReg w) (lfData w)).legRespond v 2 (lfData w) := by
  obtain ⟨hleg, hbuild, -, -, -⟩ := Dev.legacyRelayed_rest (w := w) h.2.2.1
  unfold legacyWrite
  rw [if_pos hsel]
  refine (legacyIn_south h _).trans ?_
  rw [Dev.forNamed_one ((Dev.named_congr hleg hbuild _).trans hn) h63, h.2.2.2.2]

theorem State.lift_legacyWrite {sel : Nat → Bool} {f e : Dev → Dev} (hf : f d = legacyWrite sel .south w d)
    (hsel : sel (lfReg w) = true) (he : ∀ c : Dev, c.legWrite v (lfReg w) (lfData w) = e c)
    (hg : ∀ c : Dev, Dev.Grow d c → Dev.Grow d (e c)) :
    (⟨d, q⟩ : State).lift f = .next ⟨(e ((d.legacyRelayed w).countCc v)).legRespond v 2 (lfData w), q⟩ := by
  obtain ⟨-, -, -, hgrow, -⟩ := Dev.legacyRelayed_rest (w := w) h.2.2.1
  refine State.lift_grow q h.1 ?_ ((hg _ (hgrow.countCc v)).legRespond v 2 _)
  rw [hf, legacyWrite_one h hn h63 hsel, he]

/-- A register that takes no write is counted and answered all the same (R517). -/
theorem exec_legacyWr_ignores (hreg : lfReg w ∉ [0x20, 0x21, 0x30, 0x3E]) : exec (.legacyWr .south w) ⟨d, q⟩
    = .next ⟨((d.legacyRelayed w).countCc v).legRespond v 2 (lfData w), q⟩ := by
  simp only [List.mem_cons, List.not_mem_nil, or_false, not_or] at hreg
  obtain ⟨h20, h21, h30, h3e⟩ := hreg
  refine State.lift_legacyWrite q h hn h63 (sel := fun _ => true) (e := fun c => c) rfl rfl (fun c => ?_) fun c hc => hc
  unfold Dev.legWrite
  split
  case h_5 => rfl
  all_goals contradiction

/-- A threshold is staged into the cells of the device (R518). -/
theorem exec_ovthUvthWrite_stages {ov : Bool} (hreg : lfReg w = if ov then 0x20 else 0x21) :
    exec (.ovthUvthWrite .south w) ⟨d, q⟩
      = .next ⟨(((d.legacyRelayed w).countCc v).stageTh ov v (lfData w)).legRespond v 2 (lfData w), q⟩ := by
  refine State.lift_legacyWrite q h hn h63 (sel := fun r => r = 0x20 || r = 0x21) (e := fun c => c.stageTh ov v (lfData w))
    rfl ?_ (fun c => ?_) fun c hc => hc.stageTh v ov _
  · rw [hreg]
    cases ov <;> rfl
  · rw [hreg]
    cases ov <;> rfl

theorem exec_clear (hreg : lfReg w = 0x3E) : exec (.clear .south w) ⟨d, q⟩
    = .next ⟨(if lfData w = 0x5AFE then ((d.legacyRelayed w).countCc v).legClear
        else (d.legacyRelayed w).countCc v).legRespond v 2 (lfData w), q⟩ := by
  refine State.lift_legacyWrite q h hn h63 (sel := fun r => r = 0x3E)
    (e := fun c => if lfData w = 0x5AFE then c.legClear else c) rfl (decide_eq_true hreg) (fun c => ?_)
    fun c hc => hc.legClear.ite hc
  rw [hreg]
  rfl

/-- A live plan takes the discharge bits of the device (R519). -/
theorem exec_disch_stages (hreg : lfReg w = 0x30) (hlive : d.planLive = true) : ∃ t, exec (.disch .south w) ⟨d, q⟩ = .next t
    ∧ t.dev.pend 0x28000 1 = true ∧ (∀ n, 12 * v < n → n ≤ 12 * v + 12 → n ≤ d.cells →
      t.dev.stg (BAL_CSET_DIR n) = lfData w / 2 ^ (n - 12 * v - 1) % 2) := by
  obtain ⟨hleg, hbuild, hrole, hgrow, hget⟩ := Dev.legacyRelayed_rest (w := w) h.2.2.1
  let e := (d.legacyRelayed w).countCc v
  have hlive' : e.planLive = true :=
    (Dev.planLive_congr (hget BAL_STAT_ACTIVE (by decide) (by decide)) (hget BAL_STAT_SPEND (by decide) (by decide))).trans
      hlive
  have hend : dischDev .south w d = (e.stageDisch v (lfData w)).legRespond v 2 (lfData w) := by
    refine (legacyWrite_one h hn h63 (decide_eq_true hreg)).trans ?_
    rw [hreg]
    refine congrArg (fun c : Dev => c.legRespond v 2 (lfData w)) ?_
    exact if_pos ((Dev.stageDisch_live ..).trans hlive')
  refine ⟨_, State.lift_grow q h.1 hend (((hgrow.countCc v).stageDisch v _).legRespond v 2 _), ?_, fun n h1 h2 h3 => ?_⟩
  · exact Dev.stageDisch_pend e v (lfData w)
  · have hcells : e.cells = d.cells := by
      change (d.legacyRelayed w).cells = d.cells
      unfold Dev.cells
      rw [hrole, hbuild]
    exact Dev.stageDisch_own (d := e) ⟨h1, h2⟩ (by rw [hcells]; exact h3)

end

/-! ## CONVERT and RESET -/

theorem Dev.vdev_setVdev (d : Dev) {v : Nat} (hv : v < d.leg.vdevs.length) (x : VDev) : (d.setVdev v x).vdev v = x := by
  unfold Dev.vdev Dev.setVdev
  dsimp only
  rw [List.getElem?_set_self hv, Option.getD_some]

/-- The thresholds that were staged for a device are armed. -/
def Dev.thArmed (d : Dev) (v : Nat) : Dev :=
  if (d.vdev v).thr then d.each ((d.vdevCells v).map bankOf).eraseDups (fun d a => d.arm (afeBase a + 0x3000) 0) else d

theorem Dev.thArmed_leg (d : Dev) (v : Nat) : (d.thArmed v).leg = d.leg := by
  unfold Dev.thArmed Dev.each
  split
  · exact List.foldlRecOn (motive := fun e : Dev => e.leg = d.leg) _ _ rfl fun e he _ _ => (Dev.put_leg ..).trans he
  · rfl

theorem Dev.Grow.thArmed {e : Dev} (h : Dev.Grow d e) (v : Nat) : Dev.Grow d (e.thArmed v) := by
  unfold Dev.thArmed
  exact (Dev.Grow.each _ _ h fun _ _ hc => hc.arm ..).ite h

/-- CONVERT latches the next window, and arms what was staged (R516, R518). -/
theorem exec_convert_latches (h : d.legacyHears w 4) (hn : d.named (lfAddr w) = [v]) (h63 : lfAddr w ≠ 63)
    (hv : v < d.leg.vdevs.length) : ∃ t, exec (.convert .south w) ⟨d, q⟩ = .next t
      ∧ t.dev.vdev v = { d.vdev v with cc := ((d.vdev v).cc + 1) % 16, conv := true, thr := false } := by
  obtain ⟨hleg, hbuild, -, hgrow, -⟩ := Dev.legacyRelayed_rest (w := w) h.2.2.1
  let e := ((d.legacyRelayed w).countCc v).thArmed v
  have hend : convertDev .south w d
      = (e.setVdev v { e.vdev v with conv := true, thr := false }).legRespond v 4 (lfData w) := by
    refine (legacyIn_south h _).trans ?_
    rw [Dev.forNamed_one ((Dev.named_congr hleg hbuild _).trans hn) h63, h.2.2.2.2]
    rfl
  refine ⟨_, State.lift_grow q h.1 hend ((((hgrow.countCc v).thArmed v).setVdev ..).legRespond v 4 _), ?_⟩
  have hlen : v < (d.legacyRelayed w).leg.vdevs.length := by rw [hleg]; exact hv
  have hcount : e.vdev v = { d.vdev v with cc := ((d.vdev v).cc + 1) % 16 } := by
    rw [Dev.vdev_congr (Dev.thArmed_leg ..)]
    unfold Dev.countCc
    rw [Dev.vdev_setVdev _ hlen, Dev.vdev_congr hleg]
  have helen : v < e.leg.vdevs.length := by
    rw [Dev.thArmed_leg]
    exact hlen.trans_eq (List.length_set ..).symm
  refine (Dev.vdev_setVdev e helen _).trans ?_
  rw [hcount]

theorem Dev.dischBits_congr {d e : Dev} (hlive : e.planLive = d.planLive) (hc : e.cells = d.cells)
    (hget : ∀ n, n ≤ d.cells → e.get (BAL_CSET_DIR n) = d.get (BAL_CSET_DIR n)) (i : Nat) : e.dischBits i = d.dischBits i := by
  have hcells : e.vdevCells i = d.vdevCells i := by
    unfold Dev.vdevCells
    rw [hc]
  unfold Dev.dischBits
  rw [hlive, hcells]
  split
  · refine List.foldl_ext _ _ _ fun m n hn => ?_
    rw [hget n (of_decide_eq_true (List.mem_filter.mp hn).2)]
  · rfl

/-- RESET takes the addresses back (R514). -/
theorem exec_legacyReset_resets (h : d.legacyHears w 6) (h63 : lfAddr w = 63) (hoff : ∀ v ∈ d.vdevIds, d.dischBits v = 0) :
    exec (.legacyReset .south w) ⟨d, q⟩
      = .next ⟨{ d.legacyRelayed w with leg := { d.leg with vdevs := d.leg.vdevs.map VDev.unaddressed } }, q⟩ := by
  obtain ⟨hleg, hbuild, hrole, hgrow, hget⟩ := Dev.legacyRelayed_rest (w := w) h.2.2.1
  have hids : (d.legacyRelayed w).vdevIds = d.vdevIds := by unfold Dev.vdevIds; rw [hbuild]
  have hcells : (d.legacyRelayed w).cells = d.cells := by unfold Dev.cells; rw [hrole, hbuild]
  have hbits : ∀ v, (d.legacyRelayed w).dischBits v = d.dischBits v := by
    refine Dev.dischBits_congr (Dev.planLive_congr (hget _ (by decide) (by decide)) (hget _ (by decide) (by decide))) hcells
      fun n hn => ?_
    have h36 : n ≤ 36 := hn.trans d.cells_le
    refine hget _ ?_ ?_
    · simp only [BAL_CSET_DIR]; omega
    · simp only [BAL_CSET_DIR, sendRegs, List.mem_cons, List.not_mem_nil, or_false]; omega
  have hnone : d.vdevIds.filter (fun i => decide (d.dischBits i ≠ 0)) = [] :=
    List.filter_eq_nil_iff.mpr fun v hv => by simp [hoff v hv]
  refine State.lift_grow q h.1 ?_ (hgrow.upd rfl rfl rfl rfl rfl rfl rfl rfl rfl rfl rfl rfl rfl rfl rfl rfl rfl rfl)
  refine (legacyIn_south h _).trans ?_
  rw [if_neg (by simp [h63])]
  simp only [hids, hbits, hnone]
  change { d.legacyRelayed w with leg := { (d.legacyRelayed w).leg with
    vdevs := (d.legacyRelayed w).leg.vdevs.map VDev.unaddressed } } = _
  rw [hleg]

/-- Settles O54: each frame of the legacy chain, relayed and acted on, and what the device does by itself. -/
theorem legacyCommandsComplete : Obligations.LegacyCommandsComplete := by
  unfold Obligations.LegacyCommandsComplete
  refine ⟨fun d q w v h h0 h63 hv => exec_setaddr_takes q h h0 h63 hv, fun d q w v h hn h63 => exec_legacyRd_reads q h hn h63,
    fun d q w v h hn h63 => ⟨exec_legacyWr_ignores q h hn h63, fun hreg => exec_ovthUvthWrite_stages q h hn h63 (ov := true) hreg,
      fun hreg => exec_ovthUvthWrite_stages q h hn h63 (ov := false) hreg, exec_disch_stages q h hn h63,
      fun hreg hdata => ?_, fun hreg hdata => ?_⟩, fun d q w v h hn h63 hv => exec_convert_latches q h hn h63 hv,
    fun d q w h h63 hoff => exec_legacyReset_resets q h h63 hoff, fun d q hs hl hin => ⟨?_, fun v hdto hbits => ?_⟩⟩
  · rw [exec_clear q h hn h63 hreg, if_neg hdata]
  · rw [exec_clear q h hn h63 hreg, if_pos hdata, hdata]
    rfl
  · exact State.lift_grow q hs (if_pos ⟨hin, hl⟩) ((Dev.Grow.refl d).emit _)
  · exact State.lift_grow q hs (if_pos ⟨hin, hl, hdto, hbits⟩) (((Dev.Grow.refl d).stageDisch v 0).raise ..)

end

end

end Sys2Proof.Machine
end

section
/-!
SUPPORT. The legacy bridge (20, R521 and R522): the registers that show the chain, and the result of a command that
went out of the bridge port.
-/

namespace Sys2Proof.Machine

section
variable {d : Dev}

/-! ## Numbering the chain -/

theorem Dev.Alike.emit {e : Dev} (h : Dev.Alike d e) (o : Output) : Dev.Alike d (e.emit o) := h.trans ⟨rfl, rfl, rfl, rfl⟩

/-- RESET and the addresses go out of the port. -/
def Dev.chainSetup (d : Dev) (p : Port) (answers : Nat) : Dev :=
  (d.emit (.legacyFrame p (lfMake 6 63 0 0))).each (rangeL 1 (min 62 (min 62 answers + 1)))
    fun d k => d.emit (.legacyFrame p (lfMake 1 k 0 0))

/-- FW_LSTAT shows a bridge at the port, with the devices that answered. -/
def Dev.bridgeShown (d : Dev) (p : Port) (answers : Nat) : Dev :=
  (((d.chainSetup p answers).put FW_LSTAT_BRIDGE 1).put FW_LSTAT_PORT (portCode p)).put FW_LSTAT_NLEG (min 62 answers)

variable (p : Port) (n : Nat)

theorem Dev.Alike.bridgeShown : Dev.Alike d (d.bridgeShown p n) := by
  have hn : Dev.Alike d (d.chainSetup p n) :=
    List.foldlRecOn (motive := Dev.Alike d) _ _ ((Dev.Alike.refl d).emit _) fun _ hc _ _ => hc.emit _
  exact ((hn.put (by decide) 1).put (by decide) (portCode p)).put (by decide) (min 62 n)

theorem Dev.Grow.bridge : Dev.Grow d (d.bridge p n) := by
  have hn : Dev.Grow d (d.chainSetup p n) := ((Dev.Grow.refl d).emit _).each _ _ fun _ _ hc => hc.emit _
  exact (((hn.put ..).put ..).put ..).raise ..

/-- A native member that monitors takes a partner that has a legacy link already as its bridge. -/
theorem legChainDev_bridges (hr : d.role = .member) (hin : d.inLegacy = false) (hm : d.monitoring = true)
    (hs : d.pstate p = pLr) (hleg : d.bit (SPN_PORT_LEG p) = true) :
    (legChainDev p n d).ringLow.seeTimePort = (d.bridge p n).seeTimePort := by
  have hl : d.lathe = true := by
    simp only [Dev.monitoring, Bool.and_eq_true] at hm
    exact hm.1.1
  have hup : d.legUp p = d := if_neg (by rw [hs]; exact fun h => absurd h.1 (by decide))
  have hlow : (d.bridge p n).lowRing = false := by
    unfold Dev.lowRing
    rw [(Dev.Grow.bridge p n).role, hr]
    rfl
  have hchain : legChainDev p n d = d.bridge p n := by
    unfold legChainDev
    rw [if_neg (by simp [hl]), hup]
    exact if_pos ⟨by unfold Dev.legPort; simp [hs, hleg], hr, by simp [hin], hm⟩
  rw [hchain, Dev.ringLow, if_neg (by simp [hlow])]

/-- What FW_LSTAT shows of the chain. -/
theorem Dev.bridge_shows (hn : n ≤ 62) : (d.bridge p n).get FW_LSTAT_BRIDGE = 1 ∧ (d.bridge p n).get FW_LSTAT_NLEG = n
    ∧ (d.bridge p n).get FW_LSTAT_PORT = portCode p := by
  have hraise {f : Fld} (hf : f.addr ∉ sendRegs) : (d.bridge p n).get f = (d.bridgeShown p n).get f :=
    Dev.raise_get _ _ _ _ _ hf
  unfold Dev.bridgeShown at hraise
  refine ⟨?_, ?_, ?_⟩ <;> rw [hraise (by decide)]
  · simp (disch := decide) only [Dev.get_put_apart, Dev.get_put_same]
    rfl
  · rw [Dev.get_put_same _ _ _ (by decide), Nat.min_eq_right hn]
    exact Nat.mod_eq_of_lt (Nat.lt_of_le_of_lt hn (by decide))
  · simp (disch := decide) only [Dev.get_put_apart, Dev.get_put_same]
    cases p <;> rfl

theorem exec_legChain {q : List Instr} (hs : d.settled) (hr : d.role = .member) (hin : d.inLegacy = false)
    (hm : d.monitoring = true) (hlr : d.pstate p = pLr) (hleg : d.bit (SPN_PORT_LEG p) = true) :
    exec (.legChain p n) ⟨d, q⟩ = .next ⟨(d.bridge p n).seeTimePort, q⟩ :=
  State.lift_grow q hs (legChainDev_bridges p n hr hin hm hlr hleg) (Dev.Grow.bridge p n).seeTimePort

/-- The port of time leaves FW_LSTAT. -/
theorem Dev.seeTimePort_get {f : Fld} (hf : linkReg f.addr = false) : d.seeTimePort.get f = d.get f :=
  (Dev.Linked.refl d).seeTimePort.get hf

theorem Dev.bridge_event (hk : d.keepsEvents) (hn : n ≤ 62) :
    d.newEvent (d.bridge p n).seeTimePort 0xE002 [n, portCode p] := by
  have h := (Dev.Alike.bridgeShown (d := d) p n).newEvent (src := 0) hk (code := 0xE002) (items := [min 62 n, portCode p])
    (Dev.Grow.seeTimePort (Dev.Grow.refl (d.bridge p n))).evq
  rwa [Nat.min_eq_right hn] at h

end

/-! ## A command of the bridge -/

section
variable {d : Dev}

theorem fwLpxcGoDev_refused (hl : d.lathe = true) (h : d.leg.lpx ≠ none ∨ d.bit FW_LSTAT_BRIDGE = false) :
    fwLpxcGoDev d = (d.put FW_LPXR_DONE 1).put FW_LPXR_ERR 3 := by
  unfold fwLpxcGoDev
  rw [if_neg (by simp [hl])]
  exact if_pos (by simpa [Option.isSome_iff_ne_none] using h)

theorem fwLpxcGoDev_goes (hl : d.lathe = true) (hx : d.leg.lpx = none) (hb : d.bit FW_LSTAT_BRIDGE = true)
    (hp : d.get FW_LSTAT_PORT = 0) :
    fwLpxcGoDev d = { d.emit (.legacyFrame .north
      (lfMake (d.get FW_LPXC_CMD) (d.get FW_LPXC_ADDR) (d.get FW_LPXC_REG) (d.get FW_LPXD_DATA))) with
      leg := { d.leg with lpx := some (d.get FW_LPXC_CMD, d.get FW_LPXC_ADDR) } } := by
  unfold fwLpxcGoDev
  rw [if_neg (by simp [hl]), if_neg (by simp [hx, hb])]
  dsimp only
  rw [if_pos hp]
  rfl

theorem Dev.lpxResult_leg (err cc sts data : Nat) : (d.lpxResult err cc sts data).leg = d.leg := by
  simp only [Dev.lpxResult, Dev.put_leg]

theorem Dev.lpxResult_done (err cc sts data : Nat) : (d.lpxResult err cc sts data).get FW_LPXR_DONE = 1
    ∧ (d.lpxResult err cc sts data).get FW_LPXR_ERR = err % 4 := by
  unfold Dev.lpxResult
  constructor
  · simp (disch := decide) only [Dev.get_put_apart, Dev.get_put_same]
    rfl
  · simp (disch := decide) only [Dev.get_put_apart, Dev.get_put_same]
    rfl

theorem Dev.lpxResult_answer (err cc sts data : Nat) : (d.lpxResult err cc sts data).get FW_LPXR_CC = cc % 16
    ∧ (d.lpxResult err cc sts data).get FW_LPXR_STS = sts % 64
    ∧ (d.lpxResult err cc sts data).get FW_LPXR_DATA = data % 65536 := by
  unfold Dev.lpxResult
  refine ⟨?_, ?_, Dev.get_put_same _ _ _ (by decide)⟩
  · simp (disch := decide) only [Dev.get_put_apart, Dev.get_put_same]
    rfl
  · simp (disch := decide) only [Dev.get_put_apart, Dev.get_put_same]
    rfl

/-- No command of the bridge is outstanding any more. -/
def Dev.lpxEnded (d : Dev) : Dev := { d with leg := { d.leg with lpx := none } }

variable {cmd addr : Nat}

theorem legacyResponseDev_answers {w : BitVec 48} (hl : d.lathe = true) (hx : d.leg.lpx = some (cmd, addr))
    (hok : lfOk w = true) (hc : lfCmd w = cmd) (ha : lfAddr w = addr) :
    legacyResponseDev w d = d.lpxEnded.lpxResult 0 (bitsOf w 33 30) (bitsOf w 29 24) (lfData w) := by
  unfold legacyResponseDev
  rw [if_neg (by simp [hl])]
  simp only [hx]
  rw [if_neg (by simp [hok]), if_pos ⟨hc, ha⟩]
  rfl

theorem lpxTimeoutDev_ends (hl : d.lathe = true) (hx : d.leg.lpx = some (cmd, addr)) :
    lpxTimeoutDev d = d.lpxEnded.lpxResult 1 0 0 0 := if_pos ⟨hl, by rw [hx]; rfl⟩

end

/-- Settles O55: the chain is numbered and shown; a command goes out or is refused; its end shows in FW_LPXR. -/
theorem legacyBridgeCompletes : Obligations.LegacyBridgeCompletes := by
  unfold Obligations.LegacyBridgeCompletes
  refine ⟨fun d q p n hs hr hin hm hlr hleg hn => ?_, fun d q hacc => ⟨fun h => ?_, fun hx hb hp => ?_⟩,
    fun d q cmd addr hrun hx => ⟨fun w hok hc ha => ?_, ?_⟩⟩
  · obtain ⟨hbridge, hnleg, hport⟩ := d.bridge_shows p n hn
    exact ⟨_, exec_legChain p n hs hr hin hm hlr hleg, (Dev.seeTimePort_get rfl).trans hbridge,
      (Dev.seeTimePort_get rfl).trans hnleg, (Dev.seeTimePort_get rfl).trans hport, fun hk => Dev.bridge_event p n hk hn⟩
  · refine (State.lift_takes_within q hacc (Dev.Within.fwLpxcGoDev (Dev.Within.refl d))).trans ?_
    rw [fwLpxcGoDev_refused hacc.1.2.1 h]
  · refine (State.lift_takes_within q hacc (Dev.Within.fwLpxcGoDev (Dev.Within.refl d))).trans ?_
    rw [fwLpxcGoDev_goes hacc.1.2.1 hx hb hp]
  · have he := legacyResponseDev_answers hrun.2 hx hok hc ha
    refine ⟨_, State.lift_within q hrun.1 (Dev.Within.legacyResponseDev (Dev.Within.refl d) w), ?_⟩
    obtain ⟨hdone, herr⟩ := d.lpxEnded.lpxResult_done 0 (bitsOf w 33 30) (bitsOf w 29 24) (lfData w)
    obtain ⟨hcc, hsts, hdata⟩ := d.lpxEnded.lpxResult_answer 0 (bitsOf w 33 30) (bitsOf w 29 24) (lfData w)
    dsimp only
    rw [he]
    exact ⟨hdone, herr, hcc.trans (Nat.mod_eq_of_lt (bitsNat_lt ..)), hsts.trans (Nat.mod_eq_of_lt (bitsNat_lt ..)),
      hdata.trans (Nat.mod_eq_of_lt (bitsNat_lt ..)), by rw [Dev.lpxResult_leg]; rfl⟩
  · have he := lpxTimeoutDev_ends hrun.2 hx
    refine ⟨_, State.lift_within q hrun.1 (Dev.Within.lpxTimeoutDev (Dev.Within.refl d)), ?_⟩
    obtain ⟨hdone, herr⟩ := d.lpxEnded.lpxResult_done 1 0 0 0
    dsimp only
    rw [he]
    exact ⟨hdone, herr, by rw [Dev.lpxResult_leg]; rfl⟩

end Sys2Proof.Machine
end

section
/-!
SUPPORT. What the link, the events and the budget rule of a head leave alone of its host interface (15): its registers, the
runs of its descriptors, and a running enumeration.
-/

namespace Sys2Proof.Machine

/-- The registers of the host interface, and SPN_ENUM. -/
def hostReg (a : Nat) : Bool := decide (0x10000 ≤ a ∧ a < 0x11000) || decide (a = 0x14008)

theorem hostReg_apart {a : Nat} (h : hostReg a = true) : settleReg a = false := by
  simp only [hostReg, Bool.or_eq_true, decide_eq_true_eq] at h
  simp only [settleReg, Bool.or_eq_false_iff, decide_eq_false_iff_not, List.contains_eq_mem, decide_eq_false_iff_not]
  refine ⟨⟨?_, by omega⟩, by omega⟩
  simp only [List.mem_cons, List.not_mem_nil, or_false]
  omega

/-- Two devices have the same host interface, the same runs and the same enumeration. -/
structure Dev.HostKept (d e : Dev) : Prop where
  role : e.role = d.role
  runs : e.hif.runs = d.hif.runs
  enum : e.hd.enum = d.hd.enum
  word : ∀ a, hostReg a = true → e.word a = d.word a

namespace Dev.HostKept

variable {d e f : Dev}

theorem refl (d : Dev) : Dev.HostKept d d := ⟨rfl, rfl, rfl, fun _ _ => rfl⟩

theorem trans (h : Dev.HostKept d e) (g : Dev.HostKept e f) : Dev.HostKept d f :=
  ⟨g.role.trans h.role, g.runs.trans h.runs, g.enum.trans h.enum, fun a ha => (g.word a ha).trans (h.word a ha)⟩

theorem get (h : Dev.HostKept d e) {x : Fld} (hx : hostReg x.addr = true) : e.get x = d.get x := by
  unfold Dev.get
  rw [h.word _ hx]

theorem kin (h : Dev.HostKept d e) (hk : Dev.Kin e f) : Dev.HostKept d f :=
  h.trans ⟨by rw [hk.rest], by rw [hk.hif], by rw [hk.hd], fun a ha => hk.word a (hostReg_apart ha)⟩

theorem sent (h : Dev.HostKept d e) (hs : Dev.Sent e f) : Dev.HostKept d f := h.kin hs.kin

theorem put (h : Dev.HostKept d e) {x : Fld} (hx : hostReg x.addr = false) (v : Nat) : Dev.HostKept d (e.put x v) :=
  h.trans ⟨rfl, rfl, rfl, fun a ha => Dev.word_put_other _ _ _ _ fun heq => by rw [heq, hx] at ha; exact absurd ha (by decide)⟩

theorem putB (h : Dev.HostKept d e) {x : Fld} (hx : hostReg x.addr = false) (b : Bool) : Dev.HostKept d (e.putB x b) :=
  h.put hx _

theorem putPort (h : Dev.HostKept d e) {p : Port} {x : Fld} (hx : x ∈ Dev.ImgIs.portFields p) (v : Nat) :
    Dev.HostKept d (e.put x v) :=
  h.put (by revert x; cases p <;> decide) v

theorem ite {c : Prop} [Decidable c] (h : Dev.HostKept d e) (g : Dev.HostKept d f) :
    Dev.HostKept d (if c then e else f) := by
  split <;> assumption

theorem each {α : Type} (h : Dev.HostKept d e) (xs : List α) {f : Dev → α → Dev}
    (hf : ∀ c, Dev.HostKept d c → ∀ x ∈ xs, Dev.HostKept d (f c x)) : Dev.HostKept d (e.each xs f) :=
  List.foldlRecOn (motive := Dev.HostKept d) _ _ h fun c hc x hx => hf c hc x hx

theorem setPort (h : Dev.HostKept d e) (p : Port) (s : PortSt) : Dev.HostKept d (e.setPort p s) := h.sent (Dev.Sent.setPort ..)

theorem setMember (h : Dev.HostKept d e) (p : Nat) (g : Member → Member) : Dev.HostKept d (e.setMember p g) :=
  h.trans ⟨rfl, rfl, rfl, fun _ _ => rfl⟩

theorem pw (h : Dev.HostKept d e) (x : PowerSt) : Dev.HostKept d { e with pw := x } := h.trans ⟨rfl, rfl, rfl, fun _ _ => rfl⟩

theorem spn (h : Dev.HostKept d e) (x : SpnSt) : Dev.HostKept d { e with spn := x } := h.trans ⟨rfl, rfl, rfl, fun _ _ => rfl⟩

theorem flushPort (h : Dev.HostKept d e) (p : Port) : Dev.HostKept d (e.flushPort p) := by
  unfold Dev.flushPort
  extract_lets q lost back counted _ cut freed _ fresh creds frozen
  have hcounted : Dev.HostKept d counted := h.put (x := SPN_DISC_DISC) rfl _
  have hfresh : Dev.HostKept d fresh :=
    ((hcounted.setPort ..).sent (Dev.Sent.each _ _ _ fun _ _ => Dev.Sent.freeUnits ..)).setPort ..
  have hcred {c : Dev} (hc : Dev.HostKept d c) (k v : Nat) : Dev.HostKept d (c.put (SPN_CRED p k) v) :=
    hc.sent (Dev.Sent.put _ _ _ (SPN_CRED_mem p k))
  have hcreds : Dev.HostKept d creds := hcred (hcred (hcred hfresh 1 _) 2 _) 3 _
  have hfrozen : Dev.HostKept d frozen :=
    (hcreds.putPort (p := p) (by simp [ImgIs.portFields]) _).putPort (p := p) (by simp [ImgIs.portFields]) _
  exact (hfrozen.putPort (p := p) (by simp [ImgIs.portFields]) _).putPort (p := p) (by simp [ImgIs.portFields]) _

/-- A port that goes back to LR without an event. -/
theorem enterLr (h : Dev.HostKept d e) (p : Port) : Dev.HostKept d (e.enterLr p false) := by
  unfold Dev.enterLr
  extract_lets up told open'
  have htold : Dev.HostKept d told :=
    ((h.putPort (p := p) (by simp [ImgIs.portFields]) _).putPort (p := p) (by simp [ImgIs.portFields]) _).putPort (p := p)
      (by simp [ImgIs.portFields]) _
  have hopen : Dev.HostKept d open' :=
    ((htold.putPort (p := p) (by simp [ImgIs.portFields]) _).setPort ..).sent (Dev.Sent.sendPlain ..)
  exact hopen.sent (Dev.Sent.drainPort ..)

theorem hrSettle (h : Dev.HostKept d e) : Dev.HostKept d e.hrSettle :=
  h.each _ fun _ hc p _ => ((hc.flushPort p).enterLr p).ite hc

theorem sendRoute (h : Dev.HostKept d e) (p : Nat) : Dev.HostKept d (e.sendRoute p) := by
  unfold Dev.sendRoute
  split
  · exact h
  · exact (h.setMember ..).kin (Dev.Kin.sendCompact ..)

theorem headRoutes (h : Dev.HostKept d e) : Dev.HostKept d e.headRoutes :=
  (h.putB (x := SPN_ROUTE_HRN) rfl _).putB (x := SPN_ROUTE_HRS) rfl _

theorem sendRoutes (h : Dev.HostKept d e) : Dev.HostKept d e.sendRoutes := by
  unfold Dev.sendRoutes
  extract_lets due
  exact headRoutes (each h _ fun c hc p _ => hc.sendRoute p)

theorem unbound (h : Dev.HostKept d e) : Dev.HostKept d e.unbound := (h.sendRoutes.kin (Dev.Kin.budgetEval ..)).hrSettle

theorem compq (h : Dev.HostKept d e) (x : List (Nat × List Byte)) :
    Dev.HostKept d { e with hif := { e.hif with compq := x } } := h.trans ⟨rfl, rfl, rfl, fun _ _ => rfl⟩

theorem flushComps (n : Nat) (h : Dev.HostKept d e) : Dev.HostKept d (Machine.flushComps n e) := by
  induction n generalizing e with
  | zero => exact h
  | succ n ih =>
    unfold Machine.flushComps
    split
    · split
      · exact ih ((h.compq _).sent (Dev.Sent.ringWrite ..))
      · exact h
    · exact h

theorem flush (h : Dev.HostKept d e) : Dev.HostKept d e.flush := h.flushComps _

theorem complete (h : Dev.HostKept d e) (r cid status data : Nat) : Dev.HostKept d (e.complete r cid status data) :=
  ite h (h.compq _).flush

theorem consume (d : Dev) (r : Nat) : Dev.HostKept d (d.consume r) :=
  ((Dev.HostKept.refl d).sent (Dev.Sent.setRing ..)).sent (Dev.Sent.emit ..)

end Dev.HostKept

end Sys2Proof.Machine
end

section
/-!
SUPPORT. The descriptors of stream bindings and of an enumeration, and what ends a waiting run (15, R403, R418, R420).
-/

namespace Sys2Proof.Machine

/-! ## A run that ends -/

section
variable {d : Dev} {x : Run}

/-- A descriptor has taken its number, and no run is there. -/
def Dev.numberTaken (d : Dev) : Dev := { d with hif := { d.hif with runs := [], nextRun := d.hif.nextRun + 1 } }

/-- A descriptor that ends at once where no run is there. -/
theorem Dev.endDesc_alone (h : d.hif.runs = []) (x : Run) (status data : Nat) :
    d.endDesc x status data = d.numberTaken.complete x.ring x.cid status data := by
  let y : Run := { x with started := true, id := d.hif.nextRun }
  have hadd : d.addRun { x with started := true }
      = ({ d with hif := { d.hif with runs := [y], nextRun := d.hif.nextRun + 1 } } : Dev).goOn := by
    unfold Dev.addRun
    rw [h]
    rfl
  have hstay : ({ d with hif := { d.hif with runs := [y], nextRun := d.hif.nextRun + 1 } } : Dev).goOn
      = { d with hif := { d.hif with runs := [y], nextRun := d.hif.nextRun + 1 } } := by
    rw [Dev.goOn_one rfl]
    rfl
  have hnone : [y].filter (fun z => z.id ≠ d.hif.nextRun) = [] := by simp [y]
  unfold Dev.endDesc
  rw [hadd, hstay]
  unfold Dev.endRun Dev.numberTaken
  dsimp only
  rw [hnone]

theorem Dev.HostKept.numberTaken {e : Dev} (hk : Dev.HostKept d e) (h : e.hif.runs = []) : Dev.HostKept d e.numberTaken :=
  hk.trans ⟨rfl, h.symm, rfl, fun _ _ => rfl⟩

/-- The one run of a device ends, and no other starts. -/
theorem Dev.endRun_goOn (h : d.hif.runs = [x]) (status data : Nat) : (d.endRun x status data).goOn = d.endRun x status data := by
  have hnone : d.hif.runs.filter (fun y => y.id ≠ x.id) = [] := by rw [h]; simp
  refine Dev.goOn_none ?_
  unfold Dev.endRun
  rw [((Dev.HostKept.refl _).complete ..).runs]
  exact hnone

end

/-! ## The end of a wait (R403, R418) -/

section
variable {d : Dev} (q : List Instr) {x : Run}

theorem State.lift_ended (hs : d.settled) (hruns : d.hif.runs = [x]) {f : Dev → Dev} {status data : Nat}
    (hf : f d = (d.endRun x status data).goOn) : (⟨d, q⟩ : State).lift f = .next ⟨d.endRun x status data, q⟩ :=
  State.lift_grow q hs (hf.trans (Dev.endRun_goOn hruns status data)) ((Dev.Grow.refl d).endRun ..)

theorem bindTimeoutDev_ends (hruns : d.hif.runs = [x]) (hopc : x.opc = 0x0B) (hst : x.started = true) :
    bindTimeoutDev x.cid d = (d.endRun x stNoResponse 0).goOn := by
  have hfind : d.hif.runs.find? (fun y => y.opc = 0x0B && y.cid = x.cid && y.started) = some x := by
    rw [hruns]
    simp [hopc, hst]
  unfold bindTimeoutDev
  rw [hfind]

section
variable {a mask : Nat} {as : List Act} (hruns : d.hif.runs = [x]) (hst : x.started = true) (hsent : x.sent = false)
  (hacts : x.acts = .poll a mask :: as) (hpos : x.pos ≠ 0)
include hruns hst hsent hacts hpos

/-- The poll of a run for a member: its wait is over, or the member is asked again unless it is lost. -/
theorem commitWaitPollDev_member (expired : Bool) : commitWaitPollDev x.ring x.cid expired d
    = if expired then (d.endRun x stTimeout x.data).goOn
      else (d.member x.pos).elim d fun m =>
        if d.lost x.pos then (d.endRun x stUnreachable 0).goOn
        else (d.setRun (x.out ((m.tag + 1) % 65536))).sendCommand x.pos ((m.tag + 1) % 65536) (cmdPayload (.poll a mask)) := by
  have hfind : d.hif.runs.find? (fun y => y.ring = x.ring && y.cid = x.cid && y.started && !y.sent) = some x := by
    rw [hruns]
    simp [hst, hsent]
  unfold commitWaitPollDev
  rw [hfind]
  dsimp only
  split
  · rename_i b k bs hb
    obtain ⟨hact, -⟩ := List.cons.inj (hb.symm.trans hacts)
    rw [if_neg hpos, hact]
    cases d.member x.pos <;> rfl
  · rename_i hno
    exact absurd hacts (hno a mask as)

theorem commitWaitPollDev_again {m : Member} (hm : d.member x.pos = some m) (hl : d.lost x.pos = false) :
    commitWaitPollDev x.ring x.cid false d = (({ d with hif := { d.hif with
      runs := [{ x with sent := true, tag := (m.tag + 1) % 65536 }] } } : Dev).sendCommand x.pos ((m.tag + 1) % 65536)
        (cmdPayload (.poll a mask))) := by
  have hset : d.setRun (x.out ((m.tag + 1) % 65536))
      = { d with hif := { d.hif with runs := [{ x with sent := true, tag := (m.tag + 1) % 65536 }] } } := by
    have hmap : [x].map (fun y => if y.id = (x.out ((m.tag + 1) % 65536)).id then x.out ((m.tag + 1) % 65536) else y)
        = [x.out ((m.tag + 1) % 65536)] := by simp [Run.out]
    unfold Dev.setRun
    rw [hruns, hmap]
    rfl
  rw [commitWaitPollDev_member hruns hst hsent hacts hpos, if_neg (by decide), hm]
  dsimp only [Option.elim]
  rw [if_neg (by simp [hl]), hset]

end

end

/-! ## A stream binding (R417, R418) -/

theorem hostReg_hif {a : Nat} (h : 0x10000 ≤ a ∧ a < 0x11000) : hostReg a = true := by simp [hostReg, h]

theorem Dev.get64_lt (d : Dev) {lo hi : Fld} (hlo : lo.hi + 1 - lo.lo = 32) (hhi : hi.hi + 1 - hi.lo = 32) :
    d.get64 lo hi < 2 ^ 64 := by
  have h1 := Dev.get_lt d lo
  have h2 := Dev.get_lt d hi
  rw [hlo] at h1
  rw [hhi] at h2
  unfold Dev.get64
  omega

/-- The registers of a stream binding show its positions, its format, its anchor and its load. -/
def Dev.bindingShown (d : Dev) (s mask : Nat) (lean : Bool) (anch load : Nat) : Dev :=
  let d := ((d.putB (HIF_SBST_FMT s) lean).put (HIF_SBST_ANCH s) anch).put (HIF_SBST_LOAD s) load
  let d := d.setBinding s (d.sbMask s ||| mask)
  { d with pw := { d.pw with streamBound := true } }

section
variable (d : Dev) {s : Nat}

theorem Dev.sbMask_lt : d.sbMask s < 2 ^ 64 := Dev.get64_lt d rfl rfl

theorem Dev.sbMask_congr {d e : Dev} (h : ∀ a, 0x10000 ≤ a ∧ a < 0x11000 → e.word a = d.word a) (hs : s < 16) :
    e.sbMask s = d.sbMask s := by
  have hget (f : Fld) (hf : 0x10000 ≤ f.addr ∧ f.addr < 0x11000) : e.get f = d.get f := by
    unfold Dev.get
    rw [h _ hf]
  unfold Dev.sbMask Dev.get64
  rw [hget (HIF_SBML_MASKL s) (by simp only [HIF_SBML_MASKL]; omega),
    hget (HIF_SBMH_MASKH s) (by simp only [HIF_SBMH_MASKH]; omega)]

/-- The positions of a binding that was set. -/
theorem Dev.setBinding_sbMask {mask : Nat} (hs : s < 16) (hm : mask < 2 ^ 64) : (d.setBinding s mask).sbMask s = mask := by
  have hraise {f : Fld} (hf : hostReg f.addr = true) : (d.setBinding s mask).get f
      = ((d.put64 (HIF_SBML_MASKL s) (HIF_SBMH_MASKH s) mask).putB (HIF_SBST_BOUND s) (decide (mask ≠ 0))).get f :=
    ((Dev.HostKept.refl _).sent (Dev.Sent.raise ..)).get hf
  have hlo : hostReg (HIF_SBML_MASKL s).addr = true := hostReg_hif (by simp only [HIF_SBML_MASKL]; omega)
  have hhi : hostReg (HIF_SBMH_MASKH s).addr = true := hostReg_hif (by simp only [HIF_SBMH_MASKH]; omega)
  unfold Dev.sbMask Dev.get64
  rw [hraise hlo, hraise hhi, Dev.putB, Dev.get_put_apart _ _ _ _ rfl rfl (by simp [Fld.apart, HIF_SBST_BOUND, HIF_SBML_MASKL]),
    Dev.get_put_apart _ _ _ _ rfl rfl (by simp [Fld.apart, HIF_SBST_BOUND, HIF_SBMH_MASKH]), Dev.put64,
    Dev.get_put_apart _ _ _ _ rfl rfl (by simp [Fld.apart, HIF_SBMH_MASKH, HIF_SBML_MASKL]),
    Dev.get_put_same _ _ _ rfl, Dev.get_put_same _ _ _ rfl]
  simp only [HIF_SBML_MASKL, HIF_SBMH_MASKH]
  omega

/-- The status register of a binding keeps its format, its anchor and its load while positions are bound. -/
theorem Dev.setBinding_get {mask : Nat} {f : Fld} (hf : f.wf = true) (hlo : (HIF_SBML_MASKL s).addr ≠ f.addr)
    (hhi : (HIF_SBMH_MASKH s).addr ≠ f.addr) (hb : (HIF_SBST_BOUND s).apart f = true) (hreg : hostReg f.addr = true) :
    (d.setBinding s mask).get f = d.get f := by
  have hraise : (d.setBinding s mask).get f
      = ((d.put64 (HIF_SBML_MASKL s) (HIF_SBMH_MASKH s) mask).putB (HIF_SBST_BOUND s) (decide (mask ≠ 0))).get f :=
    ((Dev.HostKept.refl _).sent (Dev.Sent.raise ..)).get hreg
  rw [hraise, Dev.putB, Dev.get_put_apart _ _ _ _ rfl hf hb, Dev.put64,
    Dev.get_put_apart _ _ _ _ rfl hf (by simp [Fld.apart, hhi]), Dev.get_put_apart _ _ _ _ rfl hf (by simp [Fld.apart, hlo])]

variable (mask : Nat) (lean : Bool) (anch load : Nat)

theorem Dev.bindingShown_sbMask (hs : s < 16) (hm : mask < 2 ^ 64) :
    (d.bindingShown s mask lean anch load).sbMask s = d.sbMask s ||| mask := by
  have hsame : (((d.putB (HIF_SBST_FMT s) lean).put (HIF_SBST_ANCH s) anch).put (HIF_SBST_LOAD s) load).sbMask s = d.sbMask s := by
    unfold Dev.sbMask Dev.get64 Dev.putB
    iterate 3
      rw [Dev.get_put_apart _ _ (HIF_SBML_MASKL s) _ rfl rfl (by simp [Fld.apart, HIF_SBML_MASKL, HIF_SBST_FMT, HIF_SBST_ANCH, HIF_SBST_LOAD]),
        Dev.get_put_apart _ _ (HIF_SBMH_MASKH s) _ rfl rfl (by simp [Fld.apart, HIF_SBMH_MASKH, HIF_SBST_FMT, HIF_SBST_ANCH, HIF_SBST_LOAD])]
  refine (Dev.setBinding_sbMask _ hs ?_).trans (congrArg (· ||| mask) hsame)
  exact Nat.or_lt_two_pow (Dev.sbMask_lt _) hm

theorem Dev.bindingShown_format (hs : s < 16) : (d.bindingShown s mask lean anch load).get (HIF_SBST_FMT s) = lean.toNat
    ∧ (d.bindingShown s mask lean anch load).get (HIF_SBST_ANCH s) = anch % 16 := by
  have hset {e : Dev} {m : Nat} {f : Fld} (ha : f.addr = (HIF_SBST_BOUND s).addr) (hf : f.wf = true) (hb : f.hi < 31) :
      (e.setBinding s m).get f = e.get f := by
    refine Dev.setBinding_get e hf ?_ ?_ ?_ ?_
    · rw [ha]; simp [HIF_SBML_MASKL, HIF_SBST_BOUND]
    · rw [ha]; simp [HIF_SBMH_MASKH, HIF_SBST_BOUND]
    · simp [Fld.apart, HIF_SBST_BOUND, hb]
    · rw [ha]
      exact hostReg_hif (by simp only [HIF_SBST_BOUND]; omega)
  constructor
  · refine (hset (f := HIF_SBST_FMT s) rfl rfl (show 0 < 31 by decide)).trans ?_
    rw [Dev.get_put_apart _ _ _ _ rfl rfl (by simp [Fld.apart, HIF_SBST_FMT, HIF_SBST_LOAD]),
      Dev.get_put_apart _ _ _ _ rfl rfl (by simp [Fld.apart, HIF_SBST_FMT, HIF_SBST_ANCH]), Dev.putB, Dev.get_put_same _ _ _ rfl]
    cases lean <;> rfl
  · refine (hset (f := HIF_SBST_ANCH s) rfl rfl (show 7 < 31 by decide)).trans ?_
    rw [Dev.get_put_apart _ _ _ _ rfl rfl (by simp [Fld.apart, HIF_SBST_ANCH, HIF_SBST_LOAD]), Dev.get_put_same _ _ _ rfl]
    rfl

theorem Dev.Grow.setBinding {c : Dev} (h : Dev.Grow c d) : Dev.Grow c (d.setBinding s mask) :=
  ((h.put64 ..).putB ..).raise ..

theorem Dev.Grow.bindingShown {c : Dev} (h : Dev.Grow c d) : Dev.Grow c (d.bindingShown s mask lean anch load) := by
  have hset := Dev.Grow.setBinding (((d.putB (HIF_SBST_FMT s) lean).put (HIF_SBST_ANCH s) anch).put (HIF_SBST_LOAD s) load)
    (s := s) ((((d.putB (HIF_SBST_FMT s) lean).put (HIF_SBST_ANCH s) anch).put (HIF_SBST_LOAD s) load).sbMask s ||| mask)
    (((h.putB ..).put ..).put ..)
  exact hset.upd rfl rfl rfl rfl rfl rfl rfl rfl rfl rfl rfl rfl rfl rfl rfl rfl rfl rfl

end

/-! ## The end of a binding (R420) -/

section
variable (d : Dev) (s : Nat)

/-- Setting a binding leaves the runs, the enumeration, and every register but its own three and those that events change. -/
theorem Dev.setBinding_rest (mask : Nat) : (d.setBinding s mask).hif.runs = d.hif.runs ∧ (d.setBinding s mask).hd.enum = d.hd.enum
    ∧ ∀ a, ¬ (0x10400 + 16 * s ≤ a ∧ a < 0x10410 + 16 * s) → a ∉ sendRegs → (d.setBinding s mask).word a = d.word a := by
  have hsent : Dev.Sent ((d.put64 (HIF_SBML_MASKL s) (HIF_SBMH_MASKH s) mask).putB (HIF_SBST_BOUND s) (decide (mask ≠ 0)))
    (d.setBinding s mask) := Dev.Sent.raise ..
  refine ⟨by rw [hsent.hif]; rfl, by rw [hsent.hd]; rfl, fun a ha hs => (hsent.word a hs).trans ?_⟩
  rw [Dev.putB, Dev.word_put_other _ (HIF_SBST_BOUND s) _ _ (by simp only [HIF_SBST_BOUND]; omega), Dev.put64,
    Dev.word_put_other _ (HIF_SBMH_MASKH s) _ _ (by simp only [HIF_SBMH_MASKH]; omega),
    Dev.word_put_other _ (HIF_SBML_MASKL s) _ _ (by simp only [HIF_SBML_MASKL]; omega)]

/-- The positions of a ring are gone. -/
def Dev.unboundRing (d : Dev) (s : Nat) : Dev := if d.sbMask s = 0 then d else d.setBinding s 0

theorem Dev.unbindRing_word (a : Nat) :
    (d.unbindRing s).word a = (((d.unboundRing s).put (HIF_SBST_LOWRATE s) 0).put (HIF_SBST_LOAD s) 0).word a := rfl

theorem Dev.unbindRing_hif : (d.unbindRing s).hif = (d.unboundRing s).hif := rfl

theorem Dev.unbindRing_hd : (d.unbindRing s).hd = (d.unboundRing s).hd := rfl

/-- Unbinding a ring leaves the same. -/
theorem Dev.unbindRing_rest : (d.unbindRing s).hif.runs = d.hif.runs ∧ (d.unbindRing s).hd.enum = d.hd.enum
    ∧ ∀ a, ¬ (0x10400 + 16 * s ≤ a ∧ a < 0x10410 + 16 * s) → a ∉ sendRegs → (d.unbindRing s).word a = d.word a := by
  obtain ⟨hruns, henum, hword⟩ := d.setBinding_rest s 0
  have hrest : (d.unboundRing s).hif.runs = d.hif.runs ∧ (d.unboundRing s).hd.enum = d.hd.enum
      ∧ ∀ a, ¬ (0x10400 + 16 * s ≤ a ∧ a < 0x10410 + 16 * s) → a ∉ sendRegs → (d.unboundRing s).word a = d.word a := by
    unfold Dev.unboundRing
    split
    · exact ⟨rfl, rfl, fun _ _ _ => rfl⟩
    · exact ⟨hruns, henum, hword⟩
  obtain ⟨hr, he, hw⟩ := hrest
  refine ⟨by rw [Dev.unbindRing_hif, hr], by rw [Dev.unbindRing_hd, he], fun a ha hs => ?_⟩
  rw [Dev.unbindRing_word]
  refine (Dev.word_put_other _ (HIF_SBST_LOAD s) _ _ (by simp only [HIF_SBST_LOAD]; omega)).trans ?_
  exact (Dev.word_put_other _ (HIF_SBST_LOWRATE s) _ _ (by simp only [HIF_SBST_LOWRATE]; omega)).trans (hw a ha hs)

/-- A ring that was unbound has no position, and shows no low rate and no load. -/
theorem Dev.unbindRing_shows (hs : s < 16) : (d.unbindRing s).sbMask s = 0 ∧ (d.unbindRing s).get (HIF_SBST_LOWRATE s) = 0
    ∧ (d.unbindRing s).get (HIF_SBST_LOAD s) = 0 := by
  have hmask : (d.unboundRing s).sbMask s = 0 := by
    unfold Dev.unboundRing
    split
    · assumption
    · exact Dev.setBinding_sbMask d hs (by decide)
  have hget (f : Fld) : (d.unbindRing s).get f = (((d.unboundRing s).put (HIF_SBST_LOWRATE s) 0).put (HIF_SBST_LOAD s) 0).get f := by
    unfold Dev.get
    rw [Dev.unbindRing_word]
  have hmaskGet (f : Fld) (ha : f.addr ≠ (HIF_SBST_LOAD s).addr) : (d.unbindRing s).get f = (d.unboundRing s).get f := by
    rw [hget]
    unfold Dev.get
    rw [Dev.word_put_other _ (HIF_SBST_LOAD s) _ _ ha, Dev.word_put_other _ (HIF_SBST_LOWRATE s) _ _ ha]
  refine ⟨Eq.trans ?_ hmask, ?_, (hget _).trans (Dev.get_put_same _ _ _ rfl)⟩
  · unfold Dev.sbMask Dev.get64
    rw [hmaskGet (HIF_SBML_MASKL s) (by simp [HIF_SBML_MASKL, HIF_SBST_LOAD]),
      hmaskGet (HIF_SBMH_MASKH s) (by simp [HIF_SBMH_MASKH, HIF_SBST_LOAD])]
  · rw [hget, Dev.get_put_apart _ _ _ _ rfl rfl (by simp [Fld.apart, HIF_SBST_LOWRATE, HIF_SBST_LOAD])]
    exact Dev.get_put_same _ _ _ rfl

end

/-! ## The commands that tell bound members their format (R418) -/

theorem Dev.HostKept.sendTone {d e : Dev} (h : Dev.HostKept d e) (p : Port) : Dev.HostKept d (e.sendTone p) := by
  have hput : Dev.HostKept d ((e.emit (.tone p (decide (pTrain ≤ e.pstate p)))).countMod SPN_TONE_TX 1) :=
    (h.sent (Dev.Sent.emit ..)).put (x := SPN_TONE_TX) rfl _
  cases p
  · exact hput.pw _
  · exact hput.pw _

/-- A run has started, or is one for a member. -/
def Run.served (x : Run) : Prop := x.started = true ∨ (x.bcast = false ∧ x.pos ≠ 0 ∧ x.opc ≤ 10)

/-- Runs for members went on: the host interface shows what it did, and every run has started or is for a member. -/
structure Dev.Served (d e : Dev) : Prop where
  grow : Dev.Grow d e
  word : ∀ a, hostReg a = true → e.word a = d.word a
  runs : ∀ x ∈ e.hif.runs, x.served

namespace Dev.Served

variable {d e f : Dev}

theorem kept (h : Dev.Served d e) (hg : Dev.Grow e f) (hk : Dev.HostKept e f) : Dev.Served d f :=
  ⟨h.grow.trans hg, fun a ha => (hk.word a ha).trans (h.word a ha), hk.runs ▸ h.runs⟩

theorem withRuns (h : Dev.Served d e) {xs : List Run} (n : Nat) (hxs : ∀ x ∈ xs, x.served) :
    Dev.Served d { e with hif := { e.hif with runs := xs, nextRun := n } } :=
  ⟨h.grow.withHif _, h.word, hxs⟩

theorem each {α : Type} (h : Dev.Served d e) (xs : List α) {g : Dev → α → Dev}
    (hg : ∀ c, Dev.Served d c → ∀ x ∈ xs, Dev.Served d (g c x)) : Dev.Served d (e.each xs g) :=
  List.foldlRecOn (motive := Dev.Served d) _ _ h fun c hc x hx => hg c hc x hx

theorem complete (h : Dev.Served d e) (r cid status data : Nat) : Dev.Served d (e.complete r cid status data) :=
  h.kept ((Dev.Grow.refl e).complete ..) ((Dev.HostKept.refl e).complete ..)

theorem endRun (h : Dev.Served d e) (x : Run) (status data : Nat) : Dev.Served d (e.endRun x status data) :=
  (h.withRuns e.hif.nextRun fun y hy => h.runs y (List.mem_of_mem_filter hy)).complete ..

theorem setRun (h : Dev.Served d e) {x : Run} (hx : x.served) : Dev.Served d (e.setRun x) := by
  refine h.withRuns e.hif.nextRun fun y hy => ?_
  obtain ⟨z, hz, rfl⟩ := List.mem_map.mp hy
  split
  · exact hx
  · exact h.runs z hz

theorem sendCommand (h : Dev.Served d e) (pos tag : Nat) (pay : List Byte) : Dev.Served d (e.sendCommand pos tag pay) := by
  refine h.kept ((Dev.Grow.refl e).sendCommand ..) ?_
  unfold Dev.sendCommand
  split
  · exact Dev.HostKept.refl e
  · exact ((Dev.HostKept.ite ((Dev.HostKept.refl e).sendTone _) (Dev.HostKept.refl e)).setMember ..).sent (Dev.Sent.portSend ..)

theorem memberNext (h : Dev.Served d e) {x : Run} (hx : x.started = true) : Dev.Served d (e.memberNext x) := by
  unfold Dev.memberNext
  split
  · exact h.endRun ..
  · exact h.setRun (.inl hx)
  · split
    · exact h.endRun ..
    · split
      · exact h.endRun ..
      · rename_i m _ _
        exact (h.setRun (x := x.out ((m.tag + 1) % 65536)) (.inl hx)).sendCommand ..

theorem startRun (h : Dev.Served d e) {x : Run} (hb : x.bcast = false) (hpos : x.pos ≠ 0) (hopc : x.opc ≤ 10) :
    Dev.Served d (e.startRun x) := by
  have hset := h.setRun (x := x.begun) (.inl rfl)
  rw [Dev.startRun_member hb hpos hopc]
  split
  · exact hset.endRun ..
  · split
    · exact hset.endRun ..
    · exact hset.memberNext rfl

end Dev.Served

theorem Dev.firstRun_mem {d : Dev} {before xs : List Run} {x : Run} (h : d.firstRun before xs = some x) :
    x ∈ xs ∧ x.started = false := by
  induction xs generalizing before with
  | nil => cases h
  | cons y ys ih =>
    unfold Dev.firstRun at h
    split at h
    · rename_i hm
      cases h
      refine ⟨List.mem_cons_self, ?_⟩
      simp only [Dev.mayStart, Bool.and_eq_true, Bool.not_eq_eq_eq_not, Bool.not_true] at hm
      tauto
    · exact ⟨List.mem_cons_of_mem _ (ih h).1, (ih h).2⟩

namespace Dev.Served

variable {d e : Dev}

theorem startRuns (n : Nat) (h : Dev.Served d e) : Dev.Served d (Dev.startRuns n e) := by
  induction n generalizing e with
  | zero => exact h
  | succ n ih =>
    unfold Dev.startRuns
    split
    · exact h
    · rename_i x hx
      obtain ⟨hmem, hnew⟩ := Dev.firstRun_mem hx
      rcases h.runs x hmem with hst | ⟨hb, hpos, hopc⟩
      · rw [hnew] at hst
        cases hst
      · exact ih (h.startRun hb hpos hopc)

theorem goOn (h : Dev.Served d e) : Dev.Served d e.goOn := h.startRuns _

theorem addRun (h : Dev.Served d e) {x : Run} (hx : x.served) : Dev.Served d (e.addRun x) := by
  refine (h.withRuns _ fun y hy => ?_).goOn
  rcases List.mem_append.mp hy with hy | hy
  · exact h.runs y hy
  · rw [List.mem_singleton.mp hy]
    exact hx

theorem checkBinds (h : Dev.Served d e) : Dev.Served d e.checkBinds := by
  refine h.each _ fun c hc x _ => ?_
  split
  · exact (hc.endRun ..).goOn
  · exact hc

theorem routed (h : Dev.Served d e) : Dev.Served d (e.sendRoutes.budgetEval 3) :=
  h.kept ((Dev.Grow.refl e).sendRoutes.budgetEval 3) ((Dev.HostKept.refl e).sendRoutes.kin (Dev.Kin.budgetEval ..))

end Dev.Served

/-! ## The descriptors (R403, R418, R420) -/

section
variable {d : Dev} {e : Desc} (ht : d.takes 0 = true) (hruns : d.hif.runs = []) (h1 : e.rsvd1 = false) (h4 : e.rsvd4 = false)
  (hb : e.bcast = false)

theorem badOpcode_admin {opc : Nat} (hb : e.bcast = false) : badOpcode opc 0 e = false := by
  unfold badOpcode
  simp [hb]

include ht h1 h4 hb in
/-- What a well-formed BIND does: it is refused, or its devices are bound and told their format. -/
theorem bindDev_taken : (∀ c, (d.consume 0).bindRefusal (bitsOf e.data 3 0) (e.param % 2 ^ 64) (bitsOf e.data 8 8 = 1)
      (bitsOf e.data 15 12) = some c → bindDev 0 e d = (d.consume 0).endDesc { mkRun 0 0x0B e [] with pos := 0 } stRefused c)
    ∧ ((d.consume 0).bindRefusal (bitsOf e.data 3 0) (e.param % 2 ^ 64) (bitsOf e.data 8 8 = 1) (bitsOf e.data 15 12) = none →
      ∃ (load : Nat) (x : Run), x.started = true ∧ bindDev 0 e d = (((((d.consume 0).bindingShown (bitsOf e.data 3 0)
        (e.param % 2 ^ 64) (bitsOf e.data 8 8 = 1) (bitsOf e.data 15 12) load).addRun x).each (maskPos (e.param % 2 ^ 64))
        fun d p => d.addRun (ownRun (x.cid * 64 + p) p (bindActs (bitsOf e.data 8 8 = 1) (bitsOf e.data 15 12)))).sendRoutes.budgetEval
          3).checkBinds) := by
  have hfield : badField 0x0B e = none := badField_none h1 h4 (by omega) (by omega) (by omega)
  unfold bindDev
  dsimp only
  rw [if_neg (by simp [ht]), if_neg (by simp [badOpcode_admin hb]), hfield]
  dsimp only
  refine ⟨fun c hc => ?_, fun hn => ?_⟩
  · rw [hc]
  · rw [hn]
    exact ⟨_, _, rfl, rfl⟩

/-- A BIND that is not refused names no head. -/
theorem bindRefusal_none {s mask anch : Nat} {lean : Bool} (h : d.bindRefusal s mask lean anch = none) {p : Nat}
    (hp : p ∈ maskPos mask) : p ≠ 0 := by
  intro h0
  unfold Dev.bindRefusal at h
  dsimp only at h
  split at h
  · cases h
  · rw [if_pos (List.any_eq_true.mpr ⟨p, hp, by simp [h0]⟩)] at h
    cases h

theorem Dev.bind_served {s mask anch load : Nat} {lean : Bool} {x : Run} {c : Dev} (hc : c.hif.runs = []) (hx : x.started = true)
    (hpos : ∀ p ∈ maskPos mask, p ≠ 0) : Dev.Served (c.bindingShown s mask lean anch load)
    (((((c.bindingShown s mask lean anch load).addRun x).each (maskPos mask)
      fun d p => d.addRun (ownRun (x.cid * 64 + p) p (bindActs lean anch))).sendRoutes.budgetEval 3).checkBinds) := by
  have hshown : (c.bindingShown s mask lean anch load).hif.runs = [] :=
    ((Dev.Sent.raise ..).kin.hif ▸ hc : (c.bindingShown s mask lean anch load).hif.runs = [])
  have hstart : Dev.Served (c.bindingShown s mask lean anch load) (c.bindingShown s mask lean anch load) :=
    ⟨Dev.Grow.refl _, fun _ _ => rfl, by rw [hshown]; exact fun _ h => absurd h List.not_mem_nil⟩
  exact ((hstart.addRun (.inl hx)).each _ fun b hb p hp => hb.addRun (.inr ⟨rfl, hpos p hp, show 2 ≤ 10 by decide⟩)).routed.checkBinds

include ht h1 h4 hb hruns in
theorem unbindDev_taken : unbindDev 0 e d
    = ((d.consume 0).unbindRing (bitsOf e.data 3 0)).unbound.numberTaken.complete 0 (e.cid % 65536) stOk 0 := by
  have hfield : badField 0x0C e = none := badField_none h1 h4 (by omega) (by omega) (by omega)
  have hnone : ((d.consume 0).unbindRing (bitsOf e.data 3 0)).unbound.hif.runs = [] :=
    ((Dev.HostKept.refl _).unbound.runs.trans ((d.consume 0).unbindRing_rest _).1).trans hruns
  unfold unbindDev
  dsimp only
  rw [if_neg (by simp [ht]), if_neg (by simp [badOpcode_admin hb]), hfield]
  exact Dev.endDesc_alone hnone _ _ _

/-- The run of an ENUM that was consumed. -/
def enumRun (d : Dev) (e : Desc) : Run := { mkRun 0 0x0D e [] with pos := 0, started := true, id := d.hif.nextRun }

include ht h1 h4 hb hruns in
theorem enumDescDev_taken : enumDescDev 0 e d = spnEnumGoDev (d.runTaken 0 [enumRun d e]) := by
  have hfield : badField 0x0D e = none := badField_none h1 h4 (by omega) (by omega) (by omega)
  have hstay : (d.runTaken 0 [enumRun d e]).goOn = d.runTaken 0 [enumRun d e] := by
    rw [Dev.goOn_one rfl]
    rfl
  unfold enumDescDev
  dsimp only
  rw [if_neg (by simp [ht]), if_neg (by simp [badOpcode_admin hb]), hfield]
  dsimp only
  rw [Dev.addRun_taken hruns]
  exact congrArg spnEnumGoDev hstay

end

/-! ## An enumeration that starts (R358) -/

section
variable {d : Dev}

/-- An enumeration has begun: BUSY, the next EID, and no device found without a position. -/
def Dev.enumBegun (d : Dev) : Dev :=
  let d := { d with hd := { d.hd with enum := some ⟨.wait, [], [], d.heldNotices⟩, unnum := [], rebuild := false } }
  let d := (d.put SPN_ENUM_BUSY 1).put SPN_RING_RWAIT 0
  let d := (d.put SPN_UNNUM_CNT 0).countMod SPN_ENUM_EID 1
  d.put SPN_POS_EID (d.get SPN_ENUM_EID)

/-- The streams are unbound, and the wake tones go out. -/
def Dev.enumSent (d : Dev) : Dev :=
  let d := d.unbindAll.unbound
  let d := { d with spn := { d.spn with aliveIn := [] } }
  (d.sendTone .north).sendTone .south

theorem Dev.enumBegun_hif : d.enumBegun.hif = d.hif := by
  simp only [Dev.enumBegun, Dev.countMod, Dev.put_hif]

theorem Dev.each_nil {α : Type} (f : Dev → α → Dev) : d.each [] f = d := rfl

theorem spnEnumGoDev_starts {x : Run} (hr : d.role = .head) (he : d.hd.enum = none) (hl : d.lathe = true)
    (hruns : d.hif.runs = [x]) (hx : (x.pos ≠ 0 || x.bcast || x.opc = 0x0B) = false) :
    spnEnumGoDev d = d.enumBegun.enumSent := by
  have hidle : d.enumerates = false := by
    unfold Dev.enumerates
    rw [he]
  have hnone : d.enumBegun.abortRuns (fun x => x.pos ≠ 0 || x.bcast || x.opc = 0x0B) 4 = d.enumBegun := by
    have hfilter : d.enumBegun.hif.runs.filter (fun x => x.pos ≠ 0 || x.bcast || x.opc = 0x0B) = [] := by
      rw [Dev.enumBegun_hif, hruns, List.filter_cons_of_neg (by simpa using hx), List.filter_nil]
    unfold Dev.abortRuns
    rw [hfilter, Dev.each_nil]
  unfold spnEnumGoDev
  rw [if_neg (by simp [hr, hidle, hl])]
  change (d.enumBegun.abortRuns (fun x => x.pos ≠ 0 || x.bcast || x.opc = 0x0B) 4).enumSent = _
  rw [hnone]

theorem Dev.enumBegun_shows (he : d.hd.enum = none) : d.enumBegun.hd.enum = some ⟨.wait, [], [], []⟩
    ∧ d.enumBegun.get SPN_ENUM_BUSY = 1 ∧ d.enumBegun.get SPN_ENUM_EID = (d.get SPN_ENUM_EID + 1) % 256 := by
  have hheld : d.heldNotices = [] := by
    unfold Dev.heldNotices
    rw [he]
  refine ⟨congrArg (fun ns => some (⟨.wait, [], [], ns⟩ : EnumRun)) hheld, ?_, ?_⟩
  · unfold Dev.enumBegun Dev.countMod
    simp (disch := decide) only [Dev.get_put_apart, Dev.get_put_same]
    rfl
  · unfold Dev.enumBegun Dev.countMod
    simp (disch := decide) only [Dev.get_put_apart, Dev.get_put_same]
    rfl

/-- What is sent leaves the enumeration and SPN_ENUM. -/
theorem Dev.enumSent_keeps : d.enumSent.hd.enum = d.hd.enum ∧ ∀ f : Fld, f.addr = 0x14008 → d.enumSent.get f = d.get f := by
  have hall : d.unbindAll.hd.enum = d.hd.enum ∧ d.unbindAll.word 0x14008 = d.word 0x14008 := by
    unfold Dev.unbindAll Dev.each
    refine List.foldlRecOn (motive := fun e : Dev => e.hd.enum = d.hd.enum ∧ e.word 0x14008 = d.word 0x14008) _ _ ⟨rfl, rfl⟩
      fun e he s hs => ?_
    obtain ⟨-, henum, hword⟩ := e.unbindRing_rest s
    have hlt := List.mem_range.mp hs
    exact ⟨henum.trans he.1, (hword _ (by omega) (by decide)).trans he.2⟩
  have hkept : Dev.HostKept d.unbindAll d.enumSent :=
    (((Dev.HostKept.refl _).unbound.spn _).sendTone .north).sendTone .south
  refine ⟨hkept.enum.trans hall.1, fun f hf => ?_⟩
  unfold Dev.get
  rw [hf, hkept.word _ rfl, hall.2]

end

/-- Settles O40: with no other run, a descriptor of the admin ring ends, binds, unbinds or starts the enumeration at once; a
waiting run ends or asks again. -/
theorem streamBindingDescriptorsComplete : Obligations.StreamBindingDescriptorsComplete := by
  unfold Obligations.StreamBindingDescriptorsComplete
  refine ⟨fun d q e hs hr ht hruns henum h1 h4 hb => ?_, fun d q x hs hruns hopc hst =>
    State.lift_ended q hs hruns (bindTimeoutDev_ends hruns hopc hst),
    fun d q x a mask as hs hruns hst hsent hacts hpos => ⟨?_, fun m hm hl => ?_, fun m hm hl => ?_⟩⟩
  · have hslt : bitsOf e.data 3 0 < 16 := bitsNat_lt _ _ _
    have hconsume (a : Nat) (ha : 0x10000 ≤ a ∧ a < 0x11000) : (d.consume 0).word a = d.word a :=
      (Dev.HostKept.consume d 0).word a (hostReg_hif ha)
    obtain ⟨hrefused, hbound⟩ := bindDev_taken ht h1 h4 hb
    refine ⟨fun c hc => ?_, fun hn => ?_, ?_, fun hl => ?_⟩
    · have hend := Dev.endDesc_taken (x := { mkRun 0 0x0B e [] with pos := 0 }) (e := e) hruns rfl rfl stRefused c
      exact State.lift_grow q hs ((hrefused c hc).trans hend) (Dev.Grow.completed ..)
    · obtain ⟨load, x, hx, hdev⟩ := hbound hn
      have hserved := Dev.bind_served (c := d.consume 0) (s := bitsOf e.data 3 0) (anch := bitsOf e.data 15 12) (load := load)
        (lean := decide (bitsOf e.data 8 8 = 1)) hruns hx fun p hp => bindRefusal_none hn hp
      have hkept {f : Fld} (hf : 0x10000 ≤ f.addr ∧ f.addr < 0x11000) := congrArg (fun w => bitsOf w f.hi f.lo)
        (hserved.word f.addr (hostReg_hif hf))
      obtain ⟨hfmt, hanch⟩ := (d.consume 0).bindingShown_format (e.param % 2 ^ 64) (decide (bitsOf e.data 8 8 = 1))
        (bitsOf e.data 15 12) load hslt
      refine ⟨_, State.lift_grow q hs hdev ((Dev.Grow.bindingShown _ _ _ _ _ (Dev.Grow.consume d 0)).trans hserved.grow), ?_, ?_, ?_⟩
      · rw [← Dev.sbMask_congr hconsume hslt, ← Dev.bindingShown_sbMask _ _ _ _ _ hslt (Nat.mod_lt _ (by decide))]
        exact Dev.sbMask_congr (fun a ha => hserved.word a (hostReg_hif ha)) hslt
      · refine (hkept (by simp only [HIF_SBST_FMT]; omega)).trans (hfmt.trans ?_)
        have hbit : bitsOf e.data 8 8 < 2 := bitsNat_lt _ _ _
        by_cases h : bitsOf e.data 8 8 = 1
        · simp [h]
        · simp [h]
          omega
      · exact (hkept (by simp only [HIF_SBST_ANCH]; omega)).trans (hanch.trans (Nat.mod_eq_of_lt (bitsNat_lt _ _ _)))
    · have hnone : ((d.consume 0).unbindRing (bitsOf e.data 3 0)).unbound.hif.runs = [] :=
        ((Dev.HostKept.refl _).unbound.runs.trans ((d.consume 0).unbindRing_rest _).1).trans hruns
      have hkept : Dev.HostKept ((d.consume 0).unbindRing (bitsOf e.data 3 0)) (((d.consume 0).unbindRing
          (bitsOf e.data 3 0)).unbound.numberTaken.complete 0 (e.cid % 65536) stOk 0) :=
        ((Dev.HostKept.refl _).unbound.numberTaken hnone).complete ..
      have hgrow : Dev.Grow d (((d.consume 0).unbindRing (bitsOf e.data 3 0)).unbound.numberTaken.complete 0 (e.cid % 65536) stOk 0) :=
        ((((Dev.Grow.consume d 0).unbindRing _).sendRoutes.budgetEval 3).hrSettle.withHif _).complete ..
      obtain ⟨hmask, hlow, hload⟩ := (d.consume 0).unbindRing_shows _ hslt
      refine ⟨_, State.lift_grow q hs (unbindDev_taken ht hruns h1 h4 hb) hgrow, ?_, ?_, ?_⟩
      · exact (Dev.sbMask_congr (fun a ha => hkept.word a (hostReg_hif ha)) hslt).trans hmask
      · exact (hkept.get (hostReg_hif (by simp only [HIF_SBST_LOWRATE]; omega))).trans hlow
      · exact (hkept.get (hostReg_hif (by simp only [HIF_SBST_LOAD]; omega))).trans hload
    · have hstart := spnEnumGoDev_starts (d := d.runTaken 0 [enumRun d e]) (x := enumRun d e) hr henum hl rfl (by simp [enumRun, mkRun, hb])
      obtain ⟨hrun, hbusy, heid⟩ := Dev.enumBegun_shows (d := d.runTaken 0 [enumRun d e]) henum
      obtain ⟨hkeptEnum, hkept⟩ := Dev.enumSent_keeps (d := (d.runTaken 0 [enumRun d e]).enumBegun)
      refine ⟨_, State.lift_grow q hs ((enumDescDev_taken ht hruns h1 h4 hb).trans hstart)
        (hstart ▸ (Dev.Grow.runTaken d 0 _).spnEnumGoDev), hkeptEnum.trans hrun, (hkept _ rfl).trans hbusy, (hkept _ rfl).trans heid⟩
  · exact State.lift_ended q hs hruns ((commitWaitPollDev_member hruns hst hsent hacts hpos true).trans (if_pos rfl))
  · exact State.lift_grow q hs (commitWaitPollDev_again hruns hst hsent hacts hpos hm hl) (((Dev.Grow.refl d).withHif _).sendCommand ..)
  · refine State.lift_ended q hs hruns ((commitWaitPollDev_member hruns hst hsent hacts hpos false).trans ((if_neg (by decide)).trans ?_))
    rw [hm]
    exact if_pos hl

end Sys2Proof.Machine
end

section
/-!
SUPPORT. The rings of the host interface (15, R396 to R398, R423, R424): a write of a ring's configuration register, its
enabling and disabling, the doorbells, the timer and a DMA that fails.
-/

namespace Sys2Proof.Machine

/-! ## The configuration register of a command ring -/

/-- Where the configuration register of a ring lies (Table 15-14). -/
def rcfgLoc (r : Nat) : Loc := ⟨.core, .hif, 0x10000, 0x108 + 16 * r,
  ⟨0x108, 16, 34, [⟨31, 31, .rwL, 0⟩, ⟨30, 30, .ro, 0⟩, ⟨20, 16, .rwK, 0⟩, ⟨4, 0, .rwK, 0⟩]⟩, r⟩

theorem Dev.writeCore_ring {d : Dev} {l : Loc} (o : WrObs) (a : Nat) (v : Word) (hb : l.blk = .hif) (hoff : l.off ≠ 0)
    (hc : l.row.count = 34 ∧ l.off % 16 = 8) :
    d.writeCore o l a v = (d.putFields l a (setBits v 31 31 (bitsOf (d.word a) 31 31))).ask (.ring l.idx (wbit v 31)) := by
  obtain ⟨n, hn⟩ := Nat.exists_eq_succ_of_ne_zero hoff
  unfold Dev.writeCore
  simp only [hb, hn]
  rw [hn] at hc
  exact if_pos hc

theorem rcfg_located {r : Nat} (hr : r ≤ 8) : locate (0x10108 + 16 * r) = some (rcfgLoc r)
    ∧ blockAt (0x10108 + 16 * r) = some (.core, .hif, 0x10000) ∧ observing (0x10108 + 16 * r) = false
    ∧ stagedView (0x10108 + 16 * r) = false := by
  revert r
  decide +kernel

section
variable {d : Dev} {r : Nat} (hr : r ≤ 8) (hrole : d.role = .head)
include hr hrole

theorem Dev.rcfg_regAt : d.regAt (0x10108 + 16 * r) = some (rcfgLoc r) := by
  have hblk : d.hasBlk (rcfgLoc r).die (rcfgLoc r).blk = true := by
    unfold Dev.hasBlk rcfgLoc
    rw [hrole]
    cases d.build <;> rfl
  unfold Dev.regAt
  rw [(rcfg_located hr).1]
  exact if_pos ⟨hblk, rfl⟩

/-- A write of the register goes to the fields of the ring, and asks for the enabling or disabling. -/
theorem Dev.regWrite_rcfg (v : Word) (hoff : d.offends (rcfgLoc r) (0x10108 + 16 * r) v = false) :
    d.regWrite (0x10108 + 16 * r) v = (d.putFields (rcfgLoc r) (0x10108 + 16 * r) (setBits (d.allowed (rcfgLoc r)
      (0x10108 + 16 * r) v) 31 31 (bitsOf (d.word (0x10108 + 16 * r)) 31 31))).ask
      (.ring r (wbit (d.allowed (rcfgLoc r) (0x10108 + 16 * r) v) 31)) := by
  obtain ⟨-, hblk, hobs, hview⟩ := rcfg_located hr
  have haddr : regAddr (0x10108 + 16 * r) = 0x10108 + 16 * r := regAddr_self (by omega) (by omega)
  have hplace (o : Nat) (ho : 0xF00 ≤ o) : d.blkReg o (0x10108 + 16 * r) = none := by
    unfold Dev.blkReg
    rw [hblk]
    exact if_neg fun h => by omega
  unfold Dev.regWrite
  rw [if_neg (by simp [hobs])]
  unfold Dev.regWriteObs
  rw [haddr, if_neg (by simp [hview]), hplace 0xF00 (by decide), hplace 0xF04 (by decide), Dev.rcfg_regAt hr hrole]
  dsimp only
  rw [hoff]
  exact Dev.writeCore_ring _ _ _ rfl (show 0x108 + 16 * r ≠ 0 by omega) ⟨rfl, show (0x108 + 16 * r) % 16 = 8 by omega⟩

end

/-! ## The request that the write leaves (R28) -/

/-- A request about a ring, carried out. -/
def Dev.ringAsked (d : Dev) (r : Nat) (en : Bool) : Dev := if en then ringEnableDev r d else ringDisableDev r d

theorem Dev.takeAsk_ring (d : Dev) (r : Nat) (en : Bool) : d.takeAsk (.ring r en) = d.ringAsked r en := by
  cases en <;> rfl

theorem Dev.ringAsked_on (d : Dev) (r : Nat) : d.ringAsked r true = ringEnableDev r d := rfl

theorem Dev.ringAsked_off (d : Dev) (r : Nat) : d.ringAsked r false = ringDisableDev r d := rfl

theorem Dev.Grow.ringAsked {d e : Dev} (h : Dev.Grow d e) (r : Nat) (en : Bool) : Dev.Grow d (e.ringAsked r en) := by
  cases en
  · exact h.ringDisableDev r
  · exact h.ringEnableDev r

/-- The fields of the register took a word, and HOLD counts anew. -/
def Dev.rcfgWritten (d : Dev) (r : Nat) (v : Word) : Dev :=
  { (d.putFields (rcfgLoc r) (0x10108 + 16 * r) v).commandDone with asks := [] }

/-- The write of a ring's configuration: its fields, and then the ring is enabled or disabled. -/
theorem State.lift_rcfg {d : Dev} (q : List Instr) {r : Nat} {f : Dev → Dev} {v w : Word} {en : Bool} (h : d.ready)
    (hf : f d = registerWriteDev (0x10108 + 16 * r) v d)
    (hw : d.regWrite (0x10108 + 16 * r) v = (d.putFields (rcfgLoc r) (0x10108 + 16 * r) w).ask (.ring r en)) :
    ∃ z, (⟨d, q⟩ : State).lift f = .next ⟨{ (d.rcfgWritten r w).ringAsked r en with fz := z }, q⟩ := by
  have hg : Dev.Grow d (d.putFields (rcfgLoc r) (0x10108 + 16 * r) w) := (Dev.Grow.refl d).putFields ..
  have hnone : (d.putFields (rcfgLoc r) (0x10108 + 16 * r) w).asks = [] := hg.asks.trans h.1
  have hact : f d = { (d.putFields (rcfgLoc r) (0x10108 + 16 * r) w).commandDone with asks := [.ring r en] } := by
    rw [hf, registerWriteDev, Dev.command_awake _ _ h.2, hw]
    unfold Dev.ask Dev.commandDone Dev.setHold
    rw [hnone]
    rfl
  have hdone := Dev.Grow.done hg
  have htaken := (Dev.Grow.refl (d.rcfgWritten r w)).ringAsked r en
  rw [← Dev.takeAsk_ring] at htaken
  have hlift := State.lift_asked d _ q f _ hact htaken.asks (htaken.build.trans hdone.build) (htaken.role.trans hdone.role)
  have hdev := Dev.takeAsk_ring (d.rcfgWritten r w) r en
  unfold Dev.rcfgWritten at hdev
  rw [hdev] at hlift
  exact ⟨_, hlift⟩

section
variable {d : Dev} {r : Nat}

/-- A register of the host interface but the ring's own shows what it did. -/
theorem Dev.rcfgWritten_get (v : Word) {f : Fld} (hf : 0x10000 ≤ f.addr ∧ f.addr < 0x10F00) (ha : f.addr ≠ 0x10108 + 16 * r) :
    (d.rcfgWritten r v).get f = d.get f := by
  have hdone : (d.rcfgWritten r v).get f = (d.putFields (rcfgLoc r) (0x10108 + 16 * r) v).get f :=
    Dev.commandDone_get _ _ (by simp [moveRegs, sendRegs]; omega)
  rw [hdone]
  unfold Dev.get
  rw [Dev.word_putFields_other _ _ _ _ _ ha (by simp only [rcfgLoc]; omega)]

/-- The fields of a ring that lock do so while the ring is enabled (R396). -/
theorem Dev.fieldLocked_rcfg (d : Dev) (r : Nat) (f : FieldSpec) :
    d.fieldLocked (rcfgLoc r) f = (decide (f.acc = .rwK) && d.ringEn r) := by
  have hlife : d.lifeLocked (rcfgLoc r) f = false := by
    unfold Dev.lifeLocked rcfgLoc
    simp
  unfold Dev.fieldLocked
  rw [hlife, Bool.false_or]
  rfl

/-- A write to a ring that is off puts its fields. -/
theorem Dev.putFields_rcfg {w : Word} (hoff : d.ringEn r = false) (hw : bitsOf w 31 31 = 0) :
    d.putFields (rcfgLoc r) (0x10108 + 16 * r) w
      = ((d.put (HIF_RCFG_EN r) 0).put (HIF_RCFG_VEC r) (bitsOf w 20 16)).put (HIF_RCFG_LSIZE r) (bitsOf w 4 0) := by
  have hen : (d.put (HIF_RCFG_EN r) 0).ringEn r = false := Dev.bit_put_same _ _ _ rfl
  have hvec (x : Nat) : ((d.put (HIF_RCFG_EN r) 0).put (HIF_RCFG_VEC r) x).ringEn r = false :=
    (Dev.bit_put_apart _ _ _ _ rfl rfl (by simp [Fld.apart, HIF_RCFG_VEC, HIF_RCFG_EN])).trans hen
  have hstep {e : Dev} {f : FieldSpec} (hacc : f.acc = .rwL ∨ f.acc = .rwK) (he : e.ringEn r = false) :
      e.putField (rcfgLoc r) (0x10108 + 16 * r) w f = e.put ⟨0x10108 + 16 * r, f.hi, f.lo⟩ (bitsOf w f.hi f.lo) := by
    have hfree : e.fieldLocked (rcfgLoc r) f = false := by rw [Dev.fieldLocked_rcfg, he, Bool.and_false]
    unfold Dev.putField
    rcases hacc with h | h <;> rw [h] <;> exact if_neg (by simp [hfree])
  change (((d.putField _ _ w ⟨31, 31, .rwL, 0⟩).putField _ _ w ⟨30, 30, .ro, 0⟩).putField _ _ w ⟨20, 16, .rwK, 0⟩).putField _ _ w
    ⟨4, 0, .rwK, 0⟩ = _
  rw [hstep (.inl rfl) hoff, hw]
  change ((d.put (HIF_RCFG_EN r) 0).putField _ _ w ⟨20, 16, .rwK, 0⟩).putField _ _ w ⟨4, 0, .rwK, 0⟩ = _
  rw [hstep (.inr rfl) hen]
  exact hstep (.inr rfl) (hvec _)

end

/-! ## Enabling (R396) -/

theorem bitsOf_setEn (v : Word) : bitsOf (v ||| 0x80000000#32) 4 0 = bitsOf v 4 0 ∧ wbit (v ||| 0x80000000#32) 31 = true := by
  constructor
  · unfold bitsOf bitsNat
    rw [BitVec.toNat_or, pow_zero, Nat.div_one, Nat.div_one, Nat.or_mod_two_pow]
    exact Nat.or_zero _
  · simp [wbit]

section
variable {d : Dev} {r : Nat} (hr : r ≤ 8) (hrole : d.role = .head) (hoff : d.ringEn r = false) (v : Word)

/-- The word that a write of RCFG with EN = 1 puts into the fields. -/
def Dev.enablingWord (d : Dev) (r : Nat) (v : Word) : Word :=
  setBits (v ||| 0x80000000#32) 31 31 (bitsOf (d.word (0x10108 + 16 * r)) 31 31)

include hoff in
theorem Dev.enablingWord_fields : bitsOf (d.enablingWord r v) 31 31 = 0 ∧ bitsOf (d.enablingWord r v) 4 0 = bitsOf v 4 0 := by
  have hen : d.get (HIF_RCFG_EN r) = 0 := by simpa [Dev.ringEn, Dev.bit] using hoff
  constructor
  · refine (bitsOf_setBits _ _ _ _ (by decide) (by decide)).trans ?_
    exact (congrArg (· % 2 ^ (31 + 1 - 31)) hen).trans rfl
  · exact (bitsOf_setBits_apart _ _ _ _ _ _ (by decide) (.inl (by decide)) (by decide)).trans (bitsOf_setEn v).1

include hr hrole hoff in
theorem Dev.regWrite_enables : d.regWrite (0x10108 + 16 * r) (v ||| 0x80000000#32)
    = (d.putFields (rcfgLoc r) (0x10108 + 16 * r) (d.enablingWord r v)).ask (.ring r true) := by
  have hfree (f : FieldSpec) : d.fieldLocked (rcfgLoc r) f = false := by rw [Dev.fieldLocked_rcfg, hoff, Bool.and_false]
  have hall : d.allowed (rcfgLoc r) (0x10108 + 16 * r) (v ||| 0x80000000#32) = v ||| 0x80000000#32 :=
    Dev.allowed_free _ _ _ _ (fun f _ => hfree f) (by simp [IMP_CMASKL]; omega) (by simp [IMP_CMASKH]; omega)
  rw [Dev.regWrite_rcfg hr hrole _ (by simp [Dev.offends, hfree]), hall, (bitsOf_setEn v).2]
  rfl

/-- The device before its ring is enabled: the size that was written, and the ring still off. -/
theorem Dev.rcfgWritten_ring (hr : r ≤ 8) (hoff : d.ringEn r = false) :
    (d.rcfgWritten r (d.enablingWord r v)).get (HIF_RCFG_LSIZE r) = bitsOf v 4 0
      ∧ (d.rcfgWritten r (d.enablingWord r v)).get (HIF_RCFG_EN r) = 0 := by
  obtain ⟨hen, hsize⟩ := Dev.enablingWord_fields hoff v
  have hdone {f : Fld} (hf : f.addr = 0x10108 + 16 * r) : (d.rcfgWritten r (d.enablingWord r v)).get f
      = (((d.put (HIF_RCFG_EN r) 0).put (HIF_RCFG_VEC r) (bitsOf (d.enablingWord r v) 20 16)).put (HIF_RCFG_LSIZE r)
        (bitsOf v 4 0)).get f := by
    rw [← hsize, ← Dev.putFields_rcfg hoff hen]
    exact Dev.commandDone_get _ _ (by simp [moveRegs, sendRegs]; omega)
  rw [hdone rfl, hdone rfl]
  refine ⟨(Dev.get_put_same _ _ _ rfl).trans (Nat.mod_eq_of_lt (bitsNat_lt ..)), ?_⟩
  rw [Dev.get_put_apart _ _ _ _ rfl rfl (by simp [Fld.apart, HIF_RCFG_LSIZE, HIF_RCFG_EN]),
    Dev.get_put_apart _ _ _ _ rfl rfl (by simp [Fld.apart, HIF_RCFG_VEC, HIF_RCFG_EN])]
  exact Dev.get_put_same _ _ _ rfl

end

/-- Host memory follows from which rings are enabled and from their sizes. -/
theorem Dev.hostBytes_congr {d e : Dev} (h : ∀ i < 34, e.get (HIF_RCFG_EN i) = d.get (HIF_RCFG_EN i)
    ∧ e.get (HIF_RCFG_LSIZE i) = d.get (HIF_RCFG_LSIZE i)) (r : Nat) : e.hostBytes r = d.hostBytes r := by
  unfold Dev.hostBytes
  refine List.foldl_ext _ _ _ fun n i hi => ?_
  obtain ⟨hen, hsize⟩ := h i (List.mem_range.mp hi)
  unfold Dev.ringEn Dev.bit Dev.ringBytes Dev.ringSize
  rw [hen, hsize]

/-- A ring is on, and starts empty. -/
def Dev.ringOpened (d : Dev) (r : Nat) : Dev :=
  ((((d.put (HIF_RCFG_EN r) 1).put (HIF_RCFG_ERR r) 0).setRing r ⟨0, 0, false, 0, 0⟩).showMem).writeBack (wbOffset r) 0

section
variable {d : Dev} {r : Nat}

theorem ringEnableDev_opens (hr : r ≤ 8) (hrole : d.role = .head) (hoff : d.ringEn r = false) (hfault : d.enableFault r = none) :
    ringEnableDev r d = d.ringOpened r := by
  unfold ringEnableDev
  rw [if_neg (by simp [hrole, hoff]; omega), hfault]
  dsimp only
  rw [if_neg (by omega), if_neg (by omega)]
  rfl

theorem ringEnableDev_refused {c : Nat} (hr : r ≤ 8) (hrole : d.role = .head) (hoff : d.ringEn r = false)
    (hfault : d.enableFault r = some c) : ringEnableDev r d = d.ringError r c := by
  unfold ringEnableDev
  rw [if_neg (by simp [hrole, hoff]; omega), hfault]

theorem Dev.enableFault_none (hsize : lsizeOk r (d.get (HIF_RCFG_LSIZE r)) = true)
    (hwb : ¬ (d.get HIF_WBL_WB = 0 ∧ d.get HIF_WBH = 0)) (hcomp : d.ringEn (compRing r) = true) (hmem : d.hostBytes r ≤ 2 ^ 30) :
    d.enableFault r = none := by
  unfold Dev.enableFault
  rw [if_neg (by simp [hsize]), if_neg hwb, if_neg (by simp [hcomp]), if_neg (by omega)]

theorem Dev.ring_put (f : Fld) (v i : Nat) : (d.put f v).ring i = d.ring i := rfl

theorem Dev.ring_withFz (d : Dev) (x : Fuses) (i : Nat) : ({ d with fz := x } : Dev).ring i = d.ring i := rfl

theorem Dev.ring_emit (o : Output) (i : Nat) : (d.emit o).ring i = d.ring i := rfl

theorem Dev.setRing_runs (s : RingSt) : (d.setRing r s).hif.runs = d.hif.runs := rfl

theorem Dev.get_setRing (s : RingSt) (f : Fld) : (d.setRing r s).get f = d.get f := rfl

/-- A ring takes its new state, if the device has it. -/
theorem Dev.ring_setRing (s : RingSt) :
    (d.setRing r s).ring r = if r < d.hif.rings.length then s else ⟨0, 0, false, 0, 0⟩ := by
  simp only [Dev.ring, Dev.setRing, List.getElem?_set_self']
  by_cases h : r < d.hif.rings.length
  · simp [h]
  · simp [h]

theorem Dev.ringOpened_ring (d : Dev) (r : Nat) : (d.ringOpened r).ring r = ⟨0, 0, false, 0, 0⟩ := by
  unfold Dev.ringOpened Dev.writeBack Dev.showMem
  rw [Dev.ring_emit, Dev.ring_put, Dev.ring_setRing, ite_self]

theorem Dev.ringOpened_shows (hr : r ≤ 8) : (d.ringOpened r).get (HIF_RCFG_EN r) = 1
    ∧ (d.ringOpened r).get (HIF_RCFG_LSIZE r) = d.get (HIF_RCFG_LSIZE r) := by
  have hmem {f : Fld} (hf : f.addr = 0x10108 + 16 * r) : (d.ringOpened r).get f
      = ((d.put (HIF_RCFG_EN r) 1).put (HIF_RCFG_ERR r) 0).get f := by
    unfold Dev.ringOpened Dev.writeBack Dev.showMem
    rw [Dev.get_emit, Dev.get, Dev.word_put_other _ HIF_MEM_MIB _ _ (by rw [hf]; simp only [HIF_MEM_MIB]; omega)]
    exact Dev.get_setRing _ f
  rw [hmem rfl, hmem rfl, Dev.get_put_apart _ _ _ _ rfl rfl (by simp [Fld.apart, HIF_RCFG_ERR, HIF_RCFG_EN]), Dev.get_put_same _ _ _ rfl,
    Dev.get_put_apart _ _ _ _ rfl rfl (by simp [Fld.apart, HIF_RCFG_ERR, HIF_RCFG_LSIZE]),
    Dev.get_put_apart _ _ _ _ rfl rfl (by simp [Fld.apart, HIF_RCFG_EN, HIF_RCFG_LSIZE])]
  exact ⟨rfl, rfl⟩

theorem Dev.ringError_shows (hr : r ≤ 8) (c : Nat) : (d.ringError r c).get (HIF_RCFG_EN r) = d.get (HIF_RCFG_EN r)
    ∧ (d.ringError r c).get (HIF_RCFG_ERR r) = 1 := by
  have hraise {f : Fld} (hf : f.addr = 0x10108 + 16 * r) : (d.ringError r c).get f = (d.put (HIF_RCFG_ERR r) 1).get f :=
    Dev.raise_get _ _ _ _ _ (by rw [hf]; simp [sendRegs]; omega)
  rw [hraise rfl, hraise rfl, Dev.get_put_apart _ _ _ _ rfl rfl (by simp [Fld.apart, HIF_RCFG_ERR, HIF_RCFG_EN])]
  exact ⟨rfl, Dev.get_put_same _ _ _ rfl⟩

end

theorem Dev.rcfgWritten_role {d : Dev} (hrole : d.role = .head) (r : Nat) (w : Word) : (d.rcfgWritten r w).role = .head :=
  ((Dev.Grow.refl d).putFields (rcfgLoc r) (0x10108 + 16 * r) w).done.role.trans hrole

section
variable {d : Dev} (q : List Instr) {r : Nat} {v : Word} (h : d.ready) (hrole : d.role = .head) (hr : r ≤ 8)
include h hrole hr

/-- A ring that meets every condition is on, empty, and of the size that was written. -/
theorem exec_ringEnable_opens (hoff : d.ringEn r = false) (hsize : lsizeOk r (bitsOf v 4 0) = true)
    (hwb : ¬ (d.get HIF_WBL_WB = 0 ∧ d.get HIF_WBH = 0)) (hcomp : d.ringEn (compRing r) = true)
    (hmem : (d.put (HIF_RCFG_LSIZE r) (bitsOf v 4 0)).hostBytes r ≤ 2 ^ 30) :
    ∃ t, exec (.ringEnable r v) ⟨d, q⟩ = .next t ∧ t.dev.get (HIF_RCFG_EN r) = 1
      ∧ t.dev.ring r = ⟨0, 0, false, 0, 0⟩ ∧ t.dev.get (HIF_RCFG_LSIZE r) = bitsOf v 4 0 := by
  obtain ⟨z, hz⟩ := State.lift_rcfg q (f := fun d => if r < 34 then registerWriteDev (HIF_RCFG_EN r).addr (v ||| 0x80000000#32) d else d)
    h (if_pos (by omega)) (Dev.regWrite_enables hr hrole hoff v)
  obtain ⟨hlsize, hen⟩ := Dev.rcfgWritten_ring v hr hoff
  have hget {f : Fld} := Dev.rcfgWritten_get (d := d) (r := r) (d.enablingWord r v) (f := f)
  have hfault : (d.rcfgWritten r (d.enablingWord r v)).enableFault r = none := by
    have hcr : compRing r ≠ r ∧ compRing r ≤ 16 := by unfold compRing; split <;> omega
    refine Dev.enableFault_none (by rw [hlsize]; exact hsize) ?_ ?_ ?_
    · rw [hget (f := HIF_WBL_WB) (by decide) (by simp only [HIF_WBL_WB]; omega),
        hget (f := HIF_WBH) (by decide) (by simp only [HIF_WBH]; omega)]
      exact hwb
    · unfold Dev.ringEn Dev.bit
      rw [hget (f := HIF_RCFG_EN (compRing r)) (by simp only [HIF_RCFG_EN]; omega) (by simp only [HIF_RCFG_EN]; omega)]
      exact hcomp
    · refine (Dev.hostBytes_congr (fun i hi => ?_) r).trans_le hmem
      by_cases hir : i = r
      · subst hir
        rw [hen, hlsize, Dev.get_put_same _ _ _ rfl, Dev.get_put_apart _ _ _ _ rfl rfl (by simp [Fld.apart, HIF_RCFG_LSIZE, HIF_RCFG_EN])]
        exact ⟨(show d.get (HIF_RCFG_EN i) = 0 by simpa [Dev.ringEn, Dev.bit] using hoff).symm, (Nat.mod_eq_of_lt (bitsNat_lt ..)).symm⟩
      · rw [hget (f := HIF_RCFG_EN i) (by simp only [HIF_RCFG_EN]; omega) (by simp only [HIF_RCFG_EN]; omega),
          hget (f := HIF_RCFG_LSIZE i) (by simp only [HIF_RCFG_LSIZE]; omega) (by simp only [HIF_RCFG_LSIZE]; omega),
          Dev.get_put_apart _ _ _ _ rfl rfl (by simp [Fld.apart, HIF_RCFG_LSIZE, HIF_RCFG_EN]),
          Dev.get_put_apart _ _ _ _ rfl rfl (by simp [Fld.apart, HIF_RCFG_LSIZE]; omega)]
        exact ⟨rfl, rfl⟩
  have hdev := ringEnableDev_opens hr (Dev.rcfgWritten_role hrole r _) (by simp [Dev.ringEn, Dev.bit, hen]) hfault
  obtain ⟨hon, hkept⟩ := (Dev.ringOpened_shows (d := d.rcfgWritten r (d.enablingWord r v)) hr)
  rw [Dev.ringAsked_on, hdev] at hz
  exact ⟨_, hz, (Dev.get_withFz ..).trans hon, (Dev.ring_withFz ..).trans (Dev.ringOpened_ring _ r),
    (Dev.get_withFz ..).trans (hkept.trans hlsize)⟩

/-- A ring of a bad size stays off with ERR. -/
theorem exec_ringEnable_refused (hoff : d.ringEn r = false) (hsize : lsizeOk r (bitsOf v 4 0) = false) :
    ∃ t, exec (.ringEnable r v) ⟨d, q⟩ = .next t ∧ t.dev.get (HIF_RCFG_EN r) = 0 ∧ t.dev.get (HIF_RCFG_ERR r) = 1 := by
  obtain ⟨z, hz⟩ := State.lift_rcfg q (f := fun d => if r < 34 then registerWriteDev (HIF_RCFG_EN r).addr (v ||| 0x80000000#32) d else d)
    h (if_pos (by omega)) (Dev.regWrite_enables hr hrole hoff v)
  obtain ⟨hlsize, hen⟩ := Dev.rcfgWritten_ring v hr hoff
  have hfault : (d.rcfgWritten r (d.enablingWord r v)).enableFault r = some 1 := by
    unfold Dev.enableFault
    rw [hlsize]
    exact if_pos (by simp [hsize])
  have hdev := ringEnableDev_refused hr (Dev.rcfgWritten_role hrole r _) (by simp [Dev.ringEn, Dev.bit, hen]) hfault
  obtain ⟨hoff', herr⟩ := (Dev.ringError_shows (d := d.rcfgWritten r (d.enablingWord r v)) hr 1)
  rw [Dev.ringAsked_on, hdev] at hz
  exact ⟨_, hz, (Dev.get_withFz ..).trans (hoff'.trans hen), (Dev.get_withFz ..).trans herr⟩

end

/-! ## Disabling (R397) -/

theorem bitsOf_clearEn (w : Word) : bitsOf (w &&& 0x7FFFFFFF#32) 31 31 = 0
    ∧ bitsOf (w &&& 0x7FFFFFFF#32) 20 16 = bitsOf w 20 16 ∧ bitsOf (w &&& 0x7FFFFFFF#32) 4 0 = bitsOf w 4 0 := by
  have hmod : (w &&& 0x7FFFFFFF#32).toNat = w.toNat % 2 ^ 31 := by
    rw [BitVec.toNat_and]
    exact Nat.and_two_pow_sub_one_eq_mod _ 31
  unfold bitsOf bitsNat
  rw [hmod]
  refine ⟨?_, ?_, ?_⟩ <;> omega

theorem wbit_clear {w : Word} {i : Nat} (h : bitsOf w i i = 0) : wbit w i = false := by
  have hbit : w.toNat / 2 ^ i % 2 = 0 := by simpa [bitsOf, bitsNat] using h
  unfold wbit BitVec.getLsbD
  rw [Nat.testBit_eq_decide_div_mod_eq, hbit]
  rfl

section
variable {d : Dev} {r : Nat} (hr : r ≤ 8) (hrole : d.role = .head) (hon : d.ringEn r = true)

include hr hrole hon in
/-- A write of RCFG with EN = 0 to a ring that is on changes no field of it before the ring is disabled. -/
theorem Dev.regWrite_disables : ∃ w, d.regWrite (0x10108 + 16 * r) (d.word (0x10108 + 16 * r) &&& 0x7FFFFFFF#32)
      = (d.putFields (rcfgLoc r) (0x10108 + 16 * r) w).ask (.ring r false)
    ∧ bitsOf w 31 31 = d.get (HIF_RCFG_EN r) := by
  obtain ⟨hen, hvec, hsize⟩ := bitsOf_clearEn (d.word (0x10108 + 16 * r))
  have hlocked (f : FieldSpec) : d.fieldLocked (rcfgLoc r) f = decide (f.acc = .rwK) := by
    rw [Dev.fieldLocked_rcfg, hon, Bool.and_true]
  have hoff : d.offends (rcfgLoc r) (0x10108 + 16 * r) (d.word (0x10108 + 16 * r) &&& 0x7FFFFFFF#32) = false := by
    unfold Dev.offends
    simp only [hlocked]
    simp [rcfgLoc, hvec, hsize]
  have hzero : bitsOf (d.allowed (rcfgLoc r) (0x10108 + 16 * r) (d.word (0x10108 + 16 * r) &&& 0x7FFFFFFF#32)) 31 31 = 0 := by
    unfold Dev.allowed
    rw [if_neg (by simp only [IMP_CMASKL]; omega), if_neg (by simp only [IMP_CMASKH]; omega)]
    simp only [hlocked]
    refine Eq.trans ?_ hen
    exact (bitsOf_setBits_apart _ _ _ _ _ _ (by decide) (.inr (by decide)) (by decide)).trans
      (bitsOf_setBits_apart _ _ _ _ _ _ (by decide) (.inr (by decide)) (by decide))
  refine ⟨_, (Dev.regWrite_rcfg hr hrole _ hoff).trans (by rw [wbit_clear hzero]), ?_⟩
  rw [bitsOf_setBits _ _ _ _ (by decide) (by decide)]
  exact Nat.mod_eq_of_lt (Dev.get_lt d (HIF_RCFG_EN r))

include hr in
theorem Dev.rcfgWritten_on {w : Word} (hw : bitsOf w 31 31 = d.get (HIF_RCFG_EN r)) :
    (d.rcfgWritten r w).get (HIF_RCFG_EN r) = d.get (HIF_RCFG_EN r) := by
  have hdone : (d.rcfgWritten r w).get (HIF_RCFG_EN r) = (d.putFields (rcfgLoc r) (0x10108 + 16 * r) w).get (HIF_RCFG_EN r) :=
    Dev.commandDone_get _ _ (by simp [HIF_RCFG_EN, moveRegs, sendRegs]; omega)
  exact hdone.trans (Dev.get_putFields_kept d _ _ _ ⟨31, 31, .rwL, 0⟩ (rcfg_located hr).1 (by simp only [rcfgLoc]; omega)
    List.mem_cons_self (by decide) hw)

/-- A ring is off, and its stop is over. -/
def Dev.ringShut (d : Dev) (r : Nat) : Dev :=
  ((d.put (HIF_RCFG_EN r) 0).showMem).setRing r { ((d.put (HIF_RCFG_EN r) 0).showMem).ring r with stopped := false }

include hr hrole hon in
theorem ringDisableDev_closes : ringDisableDev r d = d.ringShut r := by
  unfold ringDisableDev
  rw [if_neg (by simp [hrole, hon]; omega)]
  dsimp only
  rw [if_neg (by omega)]
  rfl

theorem Dev.ringShut_shows : (d.ringShut r).get (HIF_RCFG_EN r) = 0 ∧ ((d.ringShut r).ring r).stopped = false := by
  unfold Dev.ringShut
  rw [Dev.get_setRing, Dev.ring_setRing]
  constructor
  · unfold Dev.showMem
    rw [Dev.get_put_apart _ HIF_MEM_MIB _ _ (by decide) rfl (by simp [Fld.apart, HIF_MEM_MIB, HIF_RCFG_EN])]
    exact Dev.get_put_same _ _ _ rfl
  · split <;> rfl

/-- A ring that is disabled is off, and no longer stopped. -/
theorem exec_ringDisable (q : List Instr) (h : d.ready) (hrole : d.role = .head) (hr : r ≤ 8) (hon : d.ringEn r = true) :
    ∃ t, exec (.ringDisable r) ⟨d, q⟩ = .next t ∧ t.dev.get (HIF_RCFG_EN r) = 0 ∧ (t.dev.ring r).stopped = false := by
  obtain ⟨w, hw, hsame⟩ := Dev.regWrite_disables hr hrole hon
  obtain ⟨z, hz⟩ := State.lift_rcfg q (f := fun d => if r < 34 then registerWriteDev (HIF_RCFG_EN r).addr
    (d.word (HIF_RCFG_EN r).addr &&& 0x7FFFFFFF#32) d else d) h (if_pos (by omega)) hw
  have hstill : (d.rcfgWritten r w).ringEn r = true := by
    unfold Dev.ringEn Dev.bit
    rw [Dev.rcfgWritten_on hr hsame]
    exact hon
  obtain ⟨hoff, hstop⟩ := Dev.ringShut_shows (d := d.rcfgWritten r w) (r := r)
  rw [Dev.ringAsked_off, ringDisableDev_closes hr (Dev.rcfgWritten_role hrole r w) hstill] at hz
  exact ⟨_, hz, (Dev.get_withFz ..).trans hoff, (congrArg RingSt.stopped (Dev.ring_withFz ..)).trans hstop⟩

end

/-! ## Doorbells, the timer and a DMA that fails (R398, R423, R424) -/

section
variable {d : Dev} {r : Nat}

theorem Dev.Grow.ringError {e : Dev} (h : Dev.Grow d e) (r c : Nat) : Dev.Grow d (e.ringError r c) := (h.put ..).raise ..

theorem Dev.Grow.badDoorbell (d : Dev) (r : Nat) : Dev.Grow d (d.badDoorbell r) := by
  have hput : Dev.Grow d (d.put HIF_STAT_DBERR 1) := (Dev.Grow.refl d).put ..
  exact (((hput.emit _).ite hput).setRing ..).ringError r 5

theorem producerDoorbellDev_eq (v : Word) (hrole : d.role = .head) (hr : r ≤ 8) (hon : d.ringEn r = true)
    (hstop : (d.ring r).stopped = false) (hl : d.lathe = true) : producerDoorbellDev r v d
    = if (v.toNat + 2 ^ 32 - (d.ring r).cidx) % 2 ^ 32 ≤ d.ringSize r
        ∧ ((d.ring r).pidx + 2 ^ 32 - (d.ring r).cidx) % 2 ^ 32 ≤ (v.toNat + 2 ^ 32 - (d.ring r).cidx) % 2 ^ 32
      then d.setRing r { d.ring r with pidx := v.toNat } else d.badDoorbell r :=
  if_neg (by simp [hrole, hon, hstop, hl]; omega)

theorem consumerDoorbellDev_eq (v : Word) (hrole : d.role = .head) (hlo : 9 ≤ r) (hhi : r < 34) (hon : d.ringEn r = true)
    (hstop : (d.ring r).stopped = false) (hl : d.lathe = true) : consumerDoorbellDev r v d
    = if (v.toNat + 2 ^ 32 - (d.ring r).cidx) % 2 ^ 32 ≤ ((d.ring r).pidx + 2 ^ 32 - (d.ring r).cidx) % 2 ^ 32
      then (d.setRing r { d.ring r with cidx := v.toNat }).flush else d.badDoorbell r :=
  if_neg (by simp [hrole, hon, hstop, hl]; omega)

/-- A DMA that failed has stopped its ring, with both events. -/
def Dev.dmaStopped (d : Dev) (r addr : Nat) : Dev :=
  (((d.put HIF_STAT_DMAERR 1).setRing r { d.ring r with stopped := true }).raise 0x9008 0 (item64 addr)).ringError r 6

theorem Dev.Grow.dmaStopped (d : Dev) (r addr : Nat) : Dev.Grow d (d.dmaStopped r addr) :=
  ((((Dev.Grow.refl d).put ..).setRing ..).raise ..).ringError r 6

theorem Dev.dmaStopped_runs (d : Dev) (r addr : Nat) : (d.dmaStopped r addr).hif.runs = d.hif.runs := by
  unfold Dev.dmaStopped Dev.ringError
  rw [(Dev.Sent.raise ..).hif]
  dsimp only
  rw [Dev.put_hif, (Dev.Sent.raise ..).hif]
  dsimp only
  rw [Dev.setRing_runs, Dev.put_hif]

theorem dmaErrorDev_stops {cid addr : Nat} (hrole : d.role = .head) (hr : r < 34) (hon : d.ringEn r = true)
    (hruns : d.hif.runs = []) (hflag : d.bit HIF_STAT_DMAERR = true) : dmaErrorDev r cid addr d = d.dmaStopped r addr := by
  have hnone (s : RingSt) : ((d.put HIF_STAT_DMAERR 1).setRing r s).hif.runs = [] := by
    rw [Dev.setRing_runs, Dev.put_hif, hruns]
  unfold dmaErrorDev
  rw [if_neg (by simp [hrole, hon]; omega)]
  dsimp only
  rw [if_neg (by simp [hflag]), hnone, List.find?_nil, Dev.ring_put]
  exact Dev.goOn_none ((d.dmaStopped_runs r addr).trans hruns)

end

/-- Settles O41: the register write puts its fields and then the ring is enabled or disabled; the others act on the ring at once. -/
theorem ringCommandsComplete : Obligations.RingCommandsComplete := by
  unfold Obligations.RingCommandsComplete
  refine ⟨fun d q en speed width hacc hrole => ?_, fun d q r v h hrole hr hoff => ⟨fun hsize hwb hcomp hmem => ?_, fun hsize => ?_⟩,
    fun d q r h hrole hr hon => exec_ringDisable q h hrole hr hon,
    fun d q r v h hrole hon hstop => ⟨fun hr hfits hheld => ?_, fun hr hbad => ?_, fun hlo hhi hfits => ?_, fun hlo hhi hbad => ?_⟩,
    fun d q r hs hon hdue => ?_, fun d q r cid addr hs hrole hr hon hruns hflag => ?_⟩
  · have hact : hifEnableDev en speed width d
        = (((d.putB HIF_CTRL_EN en).put HIF_LINK_SPEED speed).put HIF_LINK_WIDTH width).flush := if_neg (by simp [hrole])
    exact State.lift_takes_grow q hacc hact (hact ▸ (Dev.Grow.refl d).hifEnableDev en speed width)
  · exact exec_ringEnable_opens q h hrole hr hoff hsize hwb hcomp hmem
  · exact exec_ringEnable_refused q h hrole hr hoff hsize
  · exact State.lift_grow q h.1 ((producerDoorbellDev_eq v hrole hr hon hstop h.2).trans (if_pos ⟨hfits, hheld⟩)) ((Dev.Grow.refl d).setRing ..)
  · exact State.lift_grow q h.1 ((producerDoorbellDev_eq v hrole hr hon hstop h.2).trans (if_neg (by omega))) (Dev.Grow.badDoorbell d r)
  · exact State.lift_grow q h.1 ((consumerDoorbellDev_eq v hrole hlo hhi hon hstop h.2).trans (if_pos hfits))
      ((Dev.Grow.refl d).setRing ..).flush
  · exact State.lift_grow q h.1 ((consumerDoorbellDev_eq v hrole hlo hhi hon hstop h.2).trans (if_neg (Nat.not_le.mpr hbad)))
      (Dev.Grow.badDoorbell d r)
  · exact State.lift_grow q hs (if_pos ⟨hon, hdue⟩) (((Dev.Grow.refl d).setRing ..).emit _)
  · exact State.lift_grow q hs (dmaErrorDev_stops hrole hr hon hruns hflag) (Dev.Grow.dmaStopped d r addr)

end Sys2Proof.Machine
end

section
/-!
SUPPORT. The queues of the host interface and the resets of its link (15, R410, R412, R416, R425).
-/

namespace Sys2Proof.Machine

/-! ## Queues that drain (R412, R416) -/

section
variable {d : Dev}

theorem Dev.ringSignal_queues (r n : Nat) : (d.ringSignal r n).hif.evq = d.hif.evq ∧ (d.ringSignal r n).hif.evFullDue = d.hif.evFullDue := by
  unfold Dev.ringSignal
  dsimp only
  split <;> exact ⟨rfl, rfl⟩

/-- An entry written into a ring leaves the event queue. -/
theorem Dev.ringWrite_queues (r n : Nat) (bs : List Byte) :
    (d.ringWrite r n bs).hif.evq = d.hif.evq ∧ (d.ringWrite r n bs).hif.evFullDue = d.hif.evFullDue := by
  have h := Dev.ringSignal_queues (d := ((d.emit (.hostWrite (d.slotAddr r (d.ring r).pidx) bs)).setRing r
    { d.ring r with pidx := ((d.ring r).pidx + n) % 2 ^ 32 }).writeBack (wbOffset r) (((d.ring r).pidx + n) % 2 ^ 32)) r n
  exact h

/-- No event waits. -/
def Dev.evqEmptied (d : Dev) : Dev := { d with hif := { d.hif with evq := [] } }

theorem eventQueueDrainDev_one {e : EventRec} (hq : d.hif.evq = [e]) (hfull : d.hif.evFullDue = false)
    (hroom : d.eventRoom = true) : eventQueueDrainDev d = d.evqEmptied.ringWrite 17 1 e.bytes := by
  have hdrain : drainEvents d.hif.evq.length d = d.evqEmptied.ringWrite 17 1 e.bytes := by
    rw [hq]
    change drainEvents (0 + 1) d = _
    unfold drainEvents
    rw [hq]
    exact if_pos hroom
  have hdue : (d.evqEmptied.ringWrite 17 1 e.bytes).hif.evFullDue = false :=
    (Dev.ringWrite_queues 17 1 e.bytes).2.trans hfull
  unfold eventQueueDrainDev
  rw [hdrain]
  dsimp only
  exact if_neg (by simp [hdue])

theorem eventQueueDrainDev_none (hq : d.hif.evq = []) (hfull : d.hif.evFullDue = false) : eventQueueDrainDev d = d := by
  unfold eventQueueDrainDev
  rw [hq]
  change (if d.hif.evFullDue ∧ d.hif.evq.length < 4096 then _ else d) = d
  exact if_neg (by simp [hfull])

/-- No completion is held. -/
def Dev.heldEmptied (d : Dev) : Dev := { d with hif := { d.hif with held := [] } }.put HIF_STAT_HELD 0

/-- The one completion that a ring holds is written, with the event. -/
theorem heldCompletionDrainDev_one {i : Nat} {h : HeldComp} (hi : i < 8) (hh : d.hif.held = [h]) (hring : compRing h.ring = 9 + i)
    (hlive : d.ringLive (9 + i) = true) (hfree : 0 < d.ringFree (9 + i)) : heldCompletionDrainDev i d
    = (d.heldEmptied.ringWrite (9 + i) 1 (compBytes h.ring h.cid stAborted h.tq h.cause h.time)).raise 0x9003 0
      [9 + i, (d.hif.heldCount[i]?).getD 0] := by
  have hfind : [h].find? (fun x => compRing x.ring = 9 + i) = some h := by simp [hring]
  have herase : [h].erase h = [] := by simp
  have hhif {bs : List Byte} : (d.heldEmptied.ringWrite (9 + i) 1 bs).hif.held = []
      ∧ (d.heldEmptied.ringWrite (9 + i) 1 bs).hif.heldCount = d.hif.heldCount := by
    rw [(Dev.Sent.ringWrite ..).hif]
    dsimp only
    unfold Dev.heldEmptied
    rw [Dev.put_hif]
    exact ⟨rfl, rfl⟩
  unfold heldCompletionDrainDev
  rw [if_pos hi, hh]
  change writeHeld (0 + 1) d i = _
  unfold writeHeld
  dsimp only
  rw [hh, hfind]
  dsimp only
  rw [if_pos ⟨hlive, hfree⟩, herase]
  change (if (d.heldEmptied.ringWrite (9 + i) 1 (compBytes h.ring h.cid stAborted h.tq h.cause h.time)).hif.held.any _ = true
    then _ else (d.heldEmptied.ringWrite (9 + i) 1 (compBytes h.ring h.cid stAborted h.tq h.cause h.time)).raise 0x9003 0
      [9 + i, ((d.heldEmptied.ringWrite (9 + i) 1 (compBytes h.ring h.cid stAborted h.tq h.cause h.time)).hif.heldCount[i]?).getD 0]) = _
  rw [hhif.1, hhif.2]
  exact if_neg (by simp)

theorem Dev.flush_none (h : d.hif.compq = []) : d.flush = d := by
  unfold Dev.flush
  rw [h]
  rfl

end

/-! ## A reset of the host's link (R410) -/

section
variable (d : Dev)

/-- Every ring is off, and its stop is over. -/
def Dev.ringsShut (d : Dev) : Dev :=
  d.each (List.range 34) fun d r => (d.put (HIF_RCFG_EN r) 0).setRing r { d.ring r with stopped := false }

/-- The endpoint is gone: no D3hot and no PTM, and the wake of L2 ends at PERST#. -/
def Dev.endpointGone (d : Dev) (k : PcieResetKind) : Dev :=
  let d := { d with hif := { d.hif with d3hot := false } }
  let d := d.ptmGone.put HIF_LINK_PTMV 0
  if k = .perst then d.leaveL2 else d

/-- What a reset of the host's link does before the streams end. -/
def Dev.hostShut (d : Dev) (k : PcieResetKind) : Dev := (((d.put HIF_CTRL_EN 0).ringsShut.showMem).holdRuns 1).endpointGone k

theorem pcieResetDev_eq {k : PcieResetKind} (hr : d.role = .head) : ∃ items, pcieResetDev k d
    = (((d.hostShut k).unbindAll.unbound).put HIF_STAT_PRST 1).raise 0x9002 0 items := by
  unfold pcieResetDev
  rw [if_neg (by simp [hr])]
  exact ⟨_, rfl⟩

/-- The registers of the host interface that only a reset and the ring commands change. -/
def ringReg (a : Nat) : Bool := decide (0x10000 ≤ a ∧ a < 0x10400) && decide (a ∉ [0x10004, 0x10008, 0x10018])

theorem Dev.HostKept.setTq {d e : Dev} (h : Dev.HostKept d e) (x : Nat) : Dev.HostKept d (e.setTq x) := by
  have hput : Dev.HostKept d (e.put TB_STAT_TQ x) := h.put (by decide) x
  have hraise (c : Nat) : Dev.HostKept d ((e.put TB_STAT_TQ x).raise c 0 []) := hput.sent (Dev.Sent.raise ..)
  unfold Dev.setTq
  split
  · exact h
  · exact ((hraise _).ite ((hraise _).ite ((hraise _).ite hput))).ite hput

theorem Dev.HostKept.setAct {d e : Dev} (h : Dev.HostKept d e) (x : Nat) : Dev.HostKept d (e.setAct x) := by
  unfold Dev.setAct
  split
  · exact h
  · have hgood := (h.put (x := TB_STAT_ACT) (by decide) x).kin
      (Dev.Kin.tb' (e.put TB_STAT_ACT x) { (e.put TB_STAT_ACT x).tb with good := 0 })
    exact (hgood.sent (Dev.Sent.raise ..)).ite hgood

theorem Dev.HostKept.ptmGone {d e : Dev} (h : Dev.HostKept d e) : Dev.HostKept d e.ptmGone := by
  have htb := h.kin (Dev.Kin.tb' e { e.tb with ptmOk := false })
  unfold Dev.ptmGone Dev.sourceLost
  exact htb.ite (((htb.setAct _).setTq _).ite (htb.setAct _))

variable (k : PcieResetKind)

theorem Dev.leaveL2_rest : d.leaveL2.hif.runs = d.hif.runs ∧ ∀ a, d.leaveL2.word a = d.word a := by
  unfold Dev.leaveL2
  split
  · exact ⟨rfl, fun _ => rfl⟩
  · dsimp only
    split <;> exact ⟨rfl, fun _ => rfl⟩

theorem ringReg_bounds {a : Nat} (h : ringReg a = true) :
    0x10000 ≤ a ∧ a < 0x10400 ∧ a ≠ 0x10004 ∧ a ≠ 0x10008 ∧ a ≠ 0x10018 := by
  simp only [ringReg, Bool.and_eq_true, decide_eq_true_eq, List.mem_cons, List.not_mem_nil, or_false, not_or] at h
  omega

theorem ringReg_ring {a : Nat} (h : 0x10100 ≤ a ∧ a < 0x10400) : ringReg a = true := by
  simp only [ringReg, Bool.and_eq_true, decide_eq_true_eq, List.mem_cons, List.not_mem_nil, or_false, not_or]
  omega

theorem Dev.endpointGone_rest : (d.endpointGone k).hif.runs = d.hif.runs
    ∧ ∀ a, ringReg a = true → (d.endpointGone k).word a = d.word a := by
  have hgone := (Dev.HostKept.refl { d with hif := { d.hif with d3hot := false } }).ptmGone
  have hput : ((Dev.ptmGone { d with hif := { d.hif with d3hot := false } }).put HIF_LINK_PTMV 0).hif.runs = d.hif.runs
      ∧ ∀ a, ringReg a = true → ((Dev.ptmGone { d with hif := { d.hif with d3hot := false } }).put HIF_LINK_PTMV 0).word a = d.word a := by
    refine ⟨by rw [Dev.put_hif]; exact hgone.runs, fun a ha => ?_⟩
    have hb := ringReg_bounds ha
    rw [Dev.word_put_other _ HIF_LINK_PTMV _ _ (by simp only [HIF_LINK_PTMV]; omega)]
    exact hgone.word a (hostReg_hif (by omega))
  unfold Dev.endpointGone
  dsimp only
  split
  · obtain ⟨hruns, hword⟩ := Dev.leaveL2_rest ((Dev.ptmGone { d with hif := { d.hif with d3hot := false } }).put HIF_LINK_PTMV 0)
    exact ⟨hruns.trans hput.1, fun a ha => (hword a).trans (hput.2 a ha)⟩
  · exact hput

/-- Every ring is off after a reset of the host's link, and so is the interface. -/
theorem Dev.ringsShut_shows : (∀ r < 34, d.ringsShut.get (HIF_RCFG_EN r) = 0) ∧ d.ringsShut.get HIF_CTRL_EN = d.get HIF_CTRL_EN := by
  have hset (e : Dev) (i r : Nat) : ((e.put (HIF_RCFG_EN i) 0).setRing i { e.ring i with stopped := false }).get (HIF_RCFG_EN r)
      = if i = r then 0 else e.get (HIF_RCFG_EN r) := by
    rw [Dev.get_setRing]
    split
    · rename_i h
      rw [h]
      exact Dev.get_put_same _ _ _ rfl
    · exact Dev.get_put_apart _ _ _ _ rfl rfl (by simp [Fld.apart, HIF_RCFG_EN]; omega)
  unfold Dev.ringsShut Dev.each
  constructor
  · intro r hr
    refine foldl_sets (P := fun e : Dev => e.get (HIF_RCFG_EN r) = 0) d (List.mem_range.mpr hr) (fun e => ?_) fun e he i _ => ?_
    · exact (hset e r r).trans (if_pos rfl)
    · rw [hset e i r, he, ite_self]
  · refine List.foldlRecOn (motive := fun e : Dev => e.get HIF_CTRL_EN = d.get HIF_CTRL_EN) _ _ rfl fun e he i _ => ?_
    rw [Dev.get_setRing, Dev.get_put_apart _ _ _ _ rfl (by decide) (by simp [Fld.apart, HIF_RCFG_EN, HIF_CTRL_EN]), he]

theorem Dev.holdRuns_rest (c : Nat) : (d.holdRuns c).hif.runs = [] ∧ ∀ a, a ≠ 0x10004 → (d.holdRuns c).word a = d.word a := by
  unfold Dev.holdRuns
  exact ⟨by rw [Dev.put_hif], fun a ha => Dev.word_put_other _ HIF_STAT_HELD _ _ ha⟩

theorem Dev.hostShut_shows : (d.hostShut k).hif.runs = [] ∧ (d.hostShut k).get HIF_CTRL_EN = 0
    ∧ ∀ r < 34, (d.hostShut k).get (HIF_RCFG_EN r) = 0 := by
  obtain ⟨hruns, hword⟩ := Dev.endpointGone_rest (((d.put HIF_CTRL_EN 0).ringsShut.showMem).holdRuns 1) k
  obtain ⟨hrings, hctrl⟩ := (d.put HIF_CTRL_EN 0).ringsShut_shows
  have hget {f : Fld} (hf : ringReg f.addr = true) : (d.hostShut k).get f = (d.put HIF_CTRL_EN 0).ringsShut.get f := by
    have hb := ringReg_bounds hf
    unfold Dev.get Dev.hostShut
    rw [hword _ hf, (Dev.holdRuns_rest ..).2 _ (by omega), Dev.showMem, Dev.word_put_other _ HIF_MEM_MIB _ _ (by simp only [HIF_MEM_MIB]; omega)]
  refine ⟨hruns.trans (Dev.holdRuns_rest ..).1, ?_, fun r hr => ?_⟩
  · rw [hget (by decide), hctrl]
    exact Dev.get_put_same _ _ _ (by decide)
  · rw [hget (ringReg_ring (by simp only [HIF_RCFG_EN]; omega)), hrings r hr]

/-- Unbinding every ring leaves the runs and the registers of the rings, and no position. -/
theorem Dev.unbindAll_rest : d.unbindAll.hif.runs = d.hif.runs ∧ (∀ a, ringReg a = true → d.unbindAll.word a = d.word a)
    ∧ ∀ s < 16, d.unbindAll.sbMask s = 0 := by
  unfold Dev.unbindAll Dev.each
  refine ⟨?_, fun a ha => ?_, fun s hs => ?_⟩
  · exact List.foldlRecOn (motive := fun e : Dev => e.hif.runs = d.hif.runs) _ _ rfl fun e he s _ => (e.unbindRing_rest s).1.trans he
  · have hb := ringReg_bounds ha
    refine List.foldlRecOn (motive := fun e : Dev => e.word a = d.word a) _ _ rfl fun e he s _ => ?_
    exact ((e.unbindRing_rest s).2.2 a (by omega) (by simp [sendRegs]; omega)).trans he
  · refine foldl_sets (P := fun e : Dev => e.sbMask s = 0) d (List.mem_range.mpr hs) (fun e => (e.unbindRing_shows s hs).1)
      fun e he i hi => ?_
    by_cases h : i = s
    · rw [h]
      exact (e.unbindRing_shows s hs).1
    · have hlt := List.mem_range.mp hi
      have hword := (e.unbindRing_rest i).2.2
      have hget (f : Fld) (hf : f.addr = 0x10400 + 16 * s ∨ f.addr = 0x10404 + 16 * s) : (e.unbindRing i).get f = e.get f := by
        unfold Dev.get
        rw [hword _ (by omega) (by simp [sendRegs]; omega)]
      unfold Dev.sbMask Dev.get64 at he ⊢
      rw [hget _ (.inl rfl), hget _ (.inr rfl)]
      exact he

theorem Dev.boundMask_none (h : ∀ s < 16, d.sbMask s = 0) : d.boundMask = 0 := by
  unfold Dev.boundMask
  refine List.foldlRecOn (motive := fun a : Nat => a = 0) _ _ rfl fun a ha s hs => ?_
  rw [ha, show d.get64 (HIF_SBML_MASKL s) (HIF_SBMH_MASKH s) = 0 from h s (List.mem_range.mp hs)]
  rfl

theorem Dev.Grow.leaveL2 {e : Dev} (h : Dev.Grow d e) : Dev.Grow d e.leaveL2 := by
  unfold Dev.leaveL2
  split
  · exact h
  · dsimp only
    split
    · exact (h.emit _).withHif _
    · exact h.withHif _

theorem Dev.Grow.hostShut : Dev.Grow d (d.hostShut k) := by
  have hrings : Dev.Grow d (d.put HIF_CTRL_EN 0).ringsShut := ((Dev.Grow.refl d).put ..).each _ _ fun _ _ hc => (hc.put ..).setRing ..
  have hheld : Dev.Grow d (((d.put HIF_CTRL_EN 0).ringsShut.showMem).holdRuns 1) := (hrings.put ..).holdRuns 1
  have hgone := (Dev.Grow.sourceLost ((hheld.withHif { (((d.put HIF_CTRL_EN 0).ringsShut.showMem).holdRuns 1).hif with d3hot := false }).withTb
    { (((d.put HIF_CTRL_EN 0).ringsShut.showMem).holdRuns 1).tb with ptmOk := false })).put HIF_LINK_PTMV 0
  exact Dev.Grow.ite (Dev.Grow.leaveL2 d hgone) hgone

end

section
variable {d : Dev} (q : List Instr)

/-- A reset of the host's link leaves the interface and every ring off, no run, and no stream bound. -/
theorem exec_pcieReset (k : PcieResetKind) (hs : d.settled) (hr : d.role = .head) :
    ∃ t, exec (.pcieReset k) ⟨d, q⟩ = .next t ∧ t.dev.get HIF_CTRL_EN = 0 ∧ (∀ r, r < 34 → t.dev.ringEn r = false)
      ∧ t.dev.hif.runs = [] ∧ t.dev.get HIF_STAT_PRST = 1 ∧ t.dev.boundMask = 0 := by
  obtain ⟨items, hdev⟩ := pcieResetDev_eq d (k := k) hr
  obtain ⟨hruns, hctrl, hrings⟩ := Dev.hostShut_shows d k
  obtain ⟨hallRuns, hallWord, hallMask⟩ := (d.hostShut k).unbindAll_rest
  have hkept := (Dev.HostKept.refl (d.hostShut k).unbindAll).unbound
  have hraise := (Dev.HostKept.refl (((d.hostShut k).unbindAll.unbound).put HIF_STAT_PRST 1)).sent (Dev.Sent.raise _ 0x9002 0 items)
  have hword (a : Nat) (ha : 0x10000 ≤ a ∧ a < 0x11000) (hne : a ≠ 0x10004) :
      ((((d.hostShut k).unbindAll.unbound).put HIF_STAT_PRST 1).raise 0x9002 0 items).word a = (d.hostShut k).unbindAll.word a := by
    rw [hraise.word a (hostReg_hif ha), Dev.word_put_other _ HIF_STAT_PRST _ _ hne, hkept.word a (hostReg_hif ha)]
  have hget {f : Fld} (hf : ringReg f.addr = true) :
      ((((d.hostShut k).unbindAll.unbound).put HIF_STAT_PRST 1).raise 0x9002 0 items).get f = (d.hostShut k).get f := by
    have hb := ringReg_bounds hf
    unfold Dev.get
    rw [hword _ (by omega) (by omega), hallWord _ hf]
  have hgrow : Dev.Grow d ((((d.hostShut k).unbindAll.unbound).put HIF_STAT_PRST 1).raise 0x9002 0 items) :=
    (((((Dev.Grow.hostShut d k).each _ _ fun _ s hc => hc.unbindRing s).sendRoutes.budgetEval 3).hrSettle).put ..).raise ..
  refine ⟨_, State.lift_grow q hs hdev hgrow, (hget (by decide)).trans hctrl, fun r hr' => ?_, ?_, ?_, Dev.boundMask_none _ fun s hs' => ?_⟩
  · unfold Dev.ringEn Dev.bit
    rw [hget (ringReg_ring (by simp only [HIF_RCFG_EN]; omega)), hrings r hr']
    rfl
  · rw [hraise.runs, Dev.put_hif, hkept.runs, hallRuns, hruns]
  · exact (hraise.get rfl).trans (Dev.get_put_same _ _ _ (by decide))
  · refine Eq.trans ?_ (hallMask s hs')
    unfold Dev.sbMask Dev.get64 Dev.get
    rw [hword (HIF_SBML_MASKL s).addr (by simp only [HIF_SBML_MASKL]; omega) (by simp only [HIF_SBML_MASKL]; omega),
      hword (HIF_SBMH_MASKH s).addr (by simp only [HIF_SBMH_MASKH]; omega) (by simp only [HIF_SBMH_MASKH]; omega)]

end

/-- Settles O42: a queue of one entry drains by one write; a reset of the link shuts the rings and unbinds the streams. -/
theorem hostQueuesComplete : Obligations.HostQueuesComplete := by
  unfold Obligations.HostQueuesComplete
  refine ⟨fun d q e hs hq hfull hroom => ?_, fun d q i h hs hi hh hring hlive hfree => ?_,
    fun d q k hs hr => exec_pcieReset q k hs hr, fun d q hs hr => ⟨?_, fun hcomp hev hfull => ?_⟩⟩
  · exact State.lift_grow q hs (eventQueueDrainDev_one hq hfull hroom) (((Dev.Grow.refl d).withHif _).ringWrite ..)
  · exact State.lift_grow q hs (heldCompletionDrainDev_one hi hh hring hlive hfree)
      (((((Dev.Grow.refl d).withHif _).put ..).ringWrite ..).raise ..)
  · exact State.lift_grow q hs (if_neg (by simp [hr])) ((Dev.Grow.refl d).withHif _)
  · refine State.lift_grow q hs ?_ ((Dev.Grow.refl d).withHif { d.hif with d3hot := false })
    have hflush := Dev.flush_none (d := { d with hif := { d.hif with d3hot := false } }) hcomp
    have hdrain := eventQueueDrainDev_none (d := { d with hif := { d.hif with d3hot := false } }) hev hfull
    have hresume : pmStateChangeDev false d = eventQueueDrainDev ({ d with hif := { d.hif with d3hot := false } } : Dev).flush :=
      if_neg (by simp [hr])
    rw [hresume, hflush, hdrain]

end Sys2Proof.Machine
end

section
/-!
SUPPORT. Enumeration frames at a member, and the notices and answers that the head takes (13, R359 to R367).
-/

namespace Sys2Proof.Machine

/-! ## What a link change of the ring leaves alone (R364, R366, R367) -/

theorem hostReg_beyond {a : Nat} (h : 0x14100 ≤ a) : hostReg a = false := by
  simp only [hostReg, Bool.or_eq_false_iff, decide_eq_false_iff_not]
  omega

namespace Dev.HostKept

variable {d e : Dev}

theorem put64 (h : Dev.HostKept d e) {lo hi : Fld} (hlo : hostReg lo.addr = false) (hhi : hostReg hi.addr = false) (v : Nat) :
    Dev.HostKept d (e.put64 lo hi v) :=
  (h.put hlo _).put hhi _

theorem countMod (h : Dev.HostKept d e) {x : Fld} (hx : hostReg x.addr = false) (n : Nat) : Dev.HostKept d (e.countMod x n) :=
  h.put hx _

theorem withLinks (h : Dev.HostKept d e) (ls : List LinkSt) : Dev.HostKept d { e with hd := { e.hd with links := ls } } :=
  h.trans ⟨rfl, rfl, rfl, fun _ _ => rfl⟩

theorem untried (h : Dev.HostKept d e) : Dev.HostKept d { e with hd := { e.hd with tried := false } } :=
  h.trans ⟨rfl, rfl, rfl, fun _ _ => rfl⟩

theorem raiseAbout (h : Dev.HostKept d e) (pos code src : Nat) (items : List Nat) :
    Dev.HostKept d (e.raiseAbout pos code src items) := h.sent (Dev.Sent.raiseAbout ..)

theorem writeMaps (h : Dev.HostKept d e) (lost : List Nat) : Dev.HostKept d (e.writeMaps lost) := by
  have hord := h.each (List.range 16) (f := fun d i => d.put (SPN_RORD i)
    (leNat ((List.range 4).map (fun b => BitVec.ofNat 8 ((d.hd.order[4 * i + b]?).getD 255))))) fun c hc i hi => by
      have hlt := List.mem_range.mp hi
      exact hc.put (hostReg_beyond (by simp only [SPN_RORD]; omega)) _
  exact (hord.put64 rfl rfl _).put64 rfl rfl _

theorem forgetRoutes (h : Dev.HostKept d e) (ps : List Nat) : Dev.HostKept d (e.forgetRoutes ps) :=
  h.each _ fun _ hc _ _ => hc.setMember ..

theorem setWays (h : Dev.HostKept d e) : Dev.HostKept d e.setWays := by
  refine sendRoutes (h.each _ fun c hc p _ => ?_)
  split
  · split
    · exact hc
    · exact hc.setMember ..
  · exact hc

theorem ringBreak (h : Dev.HostKept d e) (l : Nat) : Dev.HostKept d (e.ringBreak l) := by
  unfold Dev.ringBreak
  split
  · exact h
  · split
    · exact h
    · extract_lets _ cut open' gone fresh mapped told turned _ waits bn bs shown
      have hcut : Dev.HostKept d cut := h.withLinks _
      have hopen : Dev.HostKept d open' := (hcut.put (x := SPN_RING_OPEN) rfl _).countMod (x := SPN_RING_REPCNT) rfl _
      have htold : Dev.HostKept d told := (hopen.writeMaps _).each _ fun _ hc _ _ => hc.raiseAbout ..
      have hturned : Dev.HostKept d turned := (htold.forgetRoutes _).setWays
      have hwaits : Dev.HostKept d waits := (hturned.untried.put (x := SPN_RING_RWAIT) rfl _).ite hturned
      have hshown : Dev.HostKept d shown := (hwaits.put (x := SPN_RING_BRKN) rfl _).put (x := SPN_RING_BRKS) rfl _
      exact hshown.sent (Dev.Sent.raise ..)

theorem ringMend (h : Dev.HostKept d e) (l : Nat) (hr : Bool) : Dev.HostKept d (e.ringMend l hr) := by
  unfold Dev.ringMend
  split
  · exact h
  · exact (h.withLinks _).ite ((h.untried.put (x := SPN_RING_RWAIT) rfl _).ite h)

end Dev.HostKept

/-- A link change leaves the runs. -/
theorem Dev.linkChange_runs (d : Dev) (pos : Nat) (p : Port) (up hr : Bool) : (d.linkChange pos p up hr).hif.runs = d.hif.runs := by
  unfold Dev.linkChange
  split
  · rfl
  · exact (Dev.HostKept.ite (Dev.HostKept.refl d) (((Dev.HostKept.refl d).ringMend ..).ite ((Dev.HostKept.refl d).ringBreak ..))).runs

/-! ## What the end of a frame leaves of the head's tables -/

theorem Dev.freeUnits_hd_hif (d : Dev) (p : Port) (tc n : Nat) :
    (d.freeUnits p tc n).hd = d.hd ∧ (d.freeUnits p tc n).hif = d.hif := by
  have hset (e : Dev) (s : PortSt) : (e.setPort p s).hd = e.hd ∧ (e.setPort p s).hif = e.hif := by cases p <;> exact ⟨rfl, rfl⟩
  have hdue (e : Dev) : (e.creditDue p).hd = e.hd ∧ (e.creditDue p).hif = e.hif := by
    unfold Dev.creditDue
    split
    · exact hset ..
    · exact ⟨rfl, rfl⟩
  have hboth (s : PortSt) : ((d.setPort p s).creditDue p).hd = d.hd ∧ ((d.setPort p s).creditDue p).hif = d.hif :=
    ⟨(hdue _).1.trans (hset d s).1, (hdue _).2.trans (hset d s).2⟩
  unfold Dev.freeUnits
  dsimp only
  split
  · exact hboth _
  · exact hboth _
  · exact hboth _
  · exact ⟨rfl, rfl⟩

theorem Dev.consumed_hd (d : Dev) (p : Port) (w : Word64) : (d.consumed p w).hd = d.hd := (Dev.freeUnits_hd_hif ..).1

theorem Dev.accepted_hd (d : Dev) (p : Port) (w : Word64) (sender : Nat) : (d.accepted p w sender).hd = d.hd :=
  Dev.consumed_hd ..

theorem Dev.accepted_hif (d : Dev) (p : Port) (w : Word64) (sender : Nat) : (d.accepted p w sender).hif = d.hif :=
  (Dev.freeUnits_hd_hif ..).2

theorem Dev.outstanding_congr {d e : Dev} (h : e.hif = d.hif) (pos : Nat) : e.outstanding pos = d.outstanding pos := by
  unfold Dev.outstanding
  rw [h]

theorem Dev.outstanding_none {d : Dev} (h : d.hif.runs = []) (pos : Nat) : d.outstanding pos = none := by
  unfold Dev.outstanding
  rw [h]
  rfl

/-! ## ENUM at a member (R359) -/

section
variable {d : Dev} (q : List Instr) {p : Port} {w : Word64}

/-- The member that has taken the host of an ENUM frame. -/
def Dev.boundTo (d : Dev) (hid : Nat) : Dev := (d.put SPN_POS_BOUND 1).put SPN_POS_HID hid

/-- The registers of a member that takes a position. -/
def Dev.positioned (d : Dev) (pos eid : Nat) : Dev :=
  ((((d.put SPN_POS_POS pos).put SPN_POS_EID eid).put SPN_POS_VALID 1).put SPN_CMD_LAST 0).put SPN_CMD_SYNCWAIT 0

theorem Dev.get_withSpnPw (e : Dev) (x : SpnSt) (y : PowerSt) (f : Fld) : ({ e with spn := x, pw := y } : Dev).get f = e.get f := rfl

theorem Dev.takePosition_get (hheld : d.pw.heldDoze = false) (pos eid : Nat) (f : Fld) :
    (d.takePosition pos eid).get f = (d.positioned pos eid).get f := by
  unfold Dev.takePosition Dev.positioned
  dsimp only
  rw [if_neg (by simp only [Dev.put_pw, hheld]; decide), Dev.get_withSpnPw]

theorem Dev.Grow.takePosition {e : Dev} (h : Dev.Grow d e) (pos eid : Nat) : Dev.Grow d (e.takePosition pos eid) := by
  unfold Dev.takePosition
  extract_lets told cleared held spn _ _ kept
  have hcleared : Dev.Grow d cleared := ((((h.put ..).put ..).put ..).put ..).put ..
  have hkept : Dev.Grow d kept := by apply hcleared.upd <;> rfl
  exact (hkept.budgetEval 3).ite hkept

theorem Dev.boundTo_get (d : Dev) (hid : Nat) {f : Fld} (hw : f.wf = true) (hb : SPN_POS_BOUND.apart f = true)
    (hh : SPN_POS_HID.apart f = true) : (d.boundTo hid).get f = d.get f := by
  unfold Dev.boundTo
  rw [Dev.get_put_apart _ _ _ _ rfl hw hh, Dev.get_put_apart _ _ _ _ rfl hw hb]

theorem Dev.positioned_boundTo (d : Dev) (pos eid hid : Nat) :
    ((d.boundTo hid).positioned pos eid).get SPN_POS_POS = pos % 2 ^ 6 ∧ ((d.boundTo hid).positioned pos eid).get SPN_POS_EID = eid % 2 ^ 8
      ∧ ((d.boundTo hid).positioned pos eid).get SPN_POS_VALID = 1 ∧ ((d.boundTo hid).positioned pos eid).get SPN_POS_BOUND = 1
      ∧ ((d.boundTo hid).positioned pos eid).get SPN_POS_HID = hid % 2 ^ 16 ∧ ((d.boundTo hid).positioned pos eid).get SPN_CMD_LAST = 0
      ∧ ((d.boundTo hid).positioned pos eid).get SPN_CMD_SYNCWAIT = 0 := by
  unfold Dev.positioned Dev.boundTo
  refine ⟨?_, ?_, ?_, ?_, ?_, ?_, ?_⟩ <;> simp (disch := decide) only [Dev.get_put_apart, Dev.get_put_same] <;> rfl

/-- The member that has noted the ALIVE of an ENUM frame, and taken its host and its position. -/
def Dev.placed (d : Dev) (w : Word64) (missed : Nat) : Dev :=
  (((d.noteAlive 0 kEnum (cfAlive w) missed).boundTo (bitsNat (cfPay w) 15 0)).takePosition (bitsNat (cfPay w) 31 26)
    (bitsNat (cfPay w) 23 16)).noteAlive 0 kEnum (cfAlive w) 0

/-- A member that takes a position answers, and passes ENUM on or ends it. -/
theorem Dev.enumAtMember_placed (hhost : d.bit SPN_POS_BOUND = false ∨ d.get SPN_POS_HID = bitsNat (cfPay w) 15 0)
    (hcheck : bitsNat (cfPay w) 24 24 = 0) (hdown : bitsNat (cfPay w) 25 25 = 0)
    (hnew : d.bit SPN_POS_VALID = false ∨ d.get SPN_POS_EID ≠ bitsNat (cfPay w) 23 16) {n : Nat}
    (halive : d.aliveMissed 0 kEnum (cfAlive w) = some n) :
    ∃ ndown legn x, let e := (d.placed w n).sendAns .south ndown false legn (bitsNat (cfPay w) 23 16)
      d.enumAtMember .south w = e.relay .south x ∨ d.enumAtMember .south w = e.consumed .south w := by
  have hkept {f : Fld} (hw : f.wf = true) (hg : SPN_ALIVE_GAP.apart f = true) (hb : SPN_POS_BOUND.apart f = true)
      (hh : SPN_POS_HID.apart f = true) :
      ((d.noteAlive 0 kEnum (cfAlive w) n).boundTo (bitsNat (cfPay w) 15 0)).get f = d.get f :=
    (Dev.boundTo_get _ _ hw hb hh).trans (Dev.noteAlive_get _ _ _ _ _ hw hg)
  have hvalid : ((d.noteAlive 0 kEnum (cfAlive w) n).boundTo (bitsNat (cfPay w) 15 0)).bit SPN_POS_VALID = d.bit SPN_POS_VALID := by
    unfold Dev.bit
    rw [hkept rfl rfl rfl rfl]
  have heid := hkept (f := SPN_POS_EID) rfl rfl rfl rfl
  unfold Dev.boundTo at hvalid heid
  unfold Dev.enumAtMember Dev.placed Dev.boundTo
  dsimp only
  rw [if_neg (by rcases hhost with h | h <;> simp [h]), if_neg (by simp [hcheck]), halive]
  dsimp only
  rw [if_pos (by simp [hdown]), if_neg (by rw [hvalid, heid]; rcases hnew with h | h <;> simp [h])]
  exact ⟨_, _, _, ite_eq_or_eq ..⟩

theorem Dev.Grow.placed (d : Dev) (w : Word64) (missed : Nat) : Dev.Grow d (d.placed w missed) :=
  (((((Dev.Grow.refl d).noteAlive ..).put ..).put ..).takePosition ..).noteAlive ..

theorem Dev.noteAlive_pw (d : Dev) (pos kind alive missed : Nat) : (d.noteAlive pos kind alive missed).pw = d.pw := rfl

theorem Dev.boundTo_pw (d : Dev) (hid : Nat) : (d.boundTo hid).pw = d.pw := by
  unfold Dev.boundTo
  rw [Dev.put_pw, Dev.put_pw]

theorem Dev.placed_get (hheld : d.pw.heldDoze = false) (missed : Nat) {f : Fld} (hw : f.wf = true)
    (ha : SPN_ALIVE_GAP.apart f = true) : (d.placed w missed).get f
      = (((d.noteAlive 0 kEnum (cfAlive w) missed).boundTo (bitsNat (cfPay w) 15 0)).positioned (bitsNat (cfPay w) 31 26)
        (bitsNat (cfPay w) 23 16)).get f :=
  (Dev.noteAlive_get _ _ _ _ _ hw ha).trans
    (Dev.takePosition_get (by rw [Dev.boundTo_pw, Dev.noteAlive_pw, hheld]) ..)

/-- A member takes its position, ring number and host from an ENUM frame. -/
theorem exec_enumerationFrame_placed (h : d.receives .south kEnum w) (hr : d.role = .member)
    (hhost : d.bit SPN_POS_BOUND = false ∨ d.get SPN_POS_HID = bitsNat (cfPay w) 15 0)
    (hcheck : bitsNat (cfPay w) 24 24 = 0) (hdown : bitsNat (cfPay w) 25 25 = 0)
    (hnew : d.bit SPN_POS_VALID = false ∨ d.get SPN_POS_EID ≠ bitsNat (cfPay w) 23 16) (hheld : d.pw.heldDoze = false)
    (halive : (d.aliveMissed 0 kEnum (cfAlive w)).isSome = true) :
    ∃ t, exec (.enumerationFrame .south w) ⟨d, q⟩ = .next t ∧ t.dev.get SPN_POS_POS = bitsNat (cfPay w) 31 26
      ∧ t.dev.get SPN_POS_EID = bitsNat (cfPay w) 23 16 ∧ t.dev.get SPN_POS_VALID = 1 ∧ t.dev.get SPN_POS_BOUND = 1
      ∧ t.dev.get SPN_POS_HID = bitsNat (cfPay w) 15 0 ∧ t.dev.get SPN_CMD_LAST = 0 ∧ t.dev.get SPN_CMD_SYNCWAIT = 0 := by
  obtain ⟨n, hn⟩ := Option.isSome_iff_exists.mp halive
  obtain ⟨ndown, legn, x, hend⟩ := Dev.enumAtMember_placed hhost hcheck hdown hnew hn
  obtain ⟨hs, hh, hk, hok⟩ := h
  have hact : enumerationFrameDev .south w d = d.enumAtMember .south w :=
    (compactIn_right hh hk hok).trans (by rw [hr])
  have hans : Dev.Kin (d.placed w n) ((d.placed w n).sendAns .south ndown false legn (bitsNat (cfPay w) 23 16)) :=
    Dev.Kin.sendCompact ..
  obtain ⟨e, he, hkin⟩ : ∃ e, enumerationFrameDev .south w d = e ∧ Dev.Kin (d.placed w n) e := by
    rcases hend with hend | hend
    · exact ⟨_, hact.trans hend, hans.trans (Dev.Sent.portSend ..).kin⟩
    · exact ⟨_, hact.trans hend, hans.trans (Dev.Sent.consumed ..).kin⟩
  have hget {f : Fld} (hf : settleReg f.addr = false) (hw : f.wf = true) (ha : SPN_ALIVE_GAP.apart f = true) :=
    (hkin.get f hf).trans (Dev.placed_get (w := w) hheld n hw ha)
  obtain ⟨hpos, heid, hvalid, hbound, hhid, hlast, hsync⟩ := Dev.positioned_boundTo (d.noteAlive 0 kEnum (cfAlive w) n)
    (bitsNat (cfPay w) 31 26) (bitsNat (cfPay w) 23 16) (bitsNat (cfPay w) 15 0)
  exact ⟨_, State.lift_grow q hs he ((Dev.Grow.placed d w n).trans hkin.grow),
    (hget rfl rfl rfl).trans (hpos.trans (Nat.mod_eq_of_lt (bitsNat_lt ..))),
    (hget rfl rfl rfl).trans (heid.trans (Nat.mod_eq_of_lt (bitsNat_lt ..))), (hget rfl rfl rfl).trans hvalid,
    (hget rfl rfl rfl).trans hbound, (hget rfl rfl rfl).trans (hhid.trans (Nat.mod_eq_of_lt (bitsNat_lt ..))),
    (hget rfl rfl rfl).trans hlast, (hget rfl rfl rfl).trans hsync⟩

/-- A repeat of an ENUM frame, and one of a host that the member is not bound to, end at the member. -/
theorem exec_enumerationFrame_ends (h : d.receives p kEnum w) (hr : d.role = .member)
    (hend : d.enumAtMember p w = d.consumed p w) :
    exec (.enumerationFrame p w) ⟨d, q⟩ = .next ⟨d.consumed p w, q⟩ := by
  obtain ⟨hs, hh, hk, hok⟩ := h
  refine State.lift_grow q hs ((compactIn_right hh hk hok).trans ?_) ((Dev.Grow.refl d).consumed ..)
  rw [hr]
  exact hend

theorem Dev.enumAtMember_repeat (hhost : d.bit SPN_POS_BOUND = false ∨ d.get SPN_POS_HID = bitsNat (cfPay w) 15 0)
    (hcheck : bitsNat (cfPay w) 24 24 = 0) (halive : d.aliveMissed 0 kEnum (cfAlive w) = none) :
    d.enumAtMember p w = d.consumed p w := by
  unfold Dev.enumAtMember
  dsimp only
  rw [if_neg (by rcases hhost with h | h <;> simp [h]), if_neg (by simp [hcheck]), halive]

theorem Dev.enumAtMember_otherHost (hb : d.bit SPN_POS_BOUND = true) (hhid : d.get SPN_POS_HID ≠ bitsNat (cfPay w) 15 0) :
    d.enumAtMember p w = d.consumed p w :=
  if_pos ⟨hb, hhid⟩

theorem exec_enumerationFrame_otherHead (h : d.receives p kEnum w) (hr : d.role = .head)
    (hhid : bitsNat (cfPay w) 15 0 ≠ Config.uid.toNat % 2 ^ 16) :
    exec (.enumerationFrame p w) ⟨d, q⟩ = .next ⟨(d.consumed p w).raise 0x7F01 0 [], q⟩ := by
  obtain ⟨hs, hh, hk, hok⟩ := h
  refine State.lift_grow q hs ((compactIn_right hh hk hok).trans ?_) (((Dev.Grow.refl d).consumed ..).raise ..)
  rw [hr]
  exact if_pos hhid

end

/-! ## The answers of an enumeration at the head (R360, R367) -/

section
variable {d : Dev} (q : List Instr) {p : Port} {w : Word64}

/-- The head has noted an answer, or anything else, in its enumeration. -/
def Dev.enumNow (d : Dev) (e : EnumRun) : Dev := { d with hd := { d.hd with enum := some e } }

theorem Dev.newSender_rest (d : Dev) (w : Word64) : d.newSender w = { d with spn := { d.spn with aliveIn := (d.newSender w).spn.aliveIn } } := by
  unfold Dev.newSender
  split
  · rfl
  · rfl

theorem Dev.newSender_receives {kind : Nat} (h : d.receives p kind w) : (d.newSender w).receives p kind w := by
  rw [Dev.newSender_rest]
  exact h

/-- The frame of an answer as the head takes it: the action on the device that has accepted it, its tables as they were. -/
theorem exec_enumans (h : d.receives p kNotice w) (hr : d.role = .head) (ht : (d.newSender w).inTurn w (cfPos w))
    (hsub : bitsNat (cfPay w) 31 28 = 6) {e : EnumRun} (he : d.hd.enum = some e)
    (heid : bitsNat (cfPay w) 23 16 = d.get SPN_ENUM_EID) :
    let a : EnumAns := ⟨cfPos w, bitsNat (cfPay w) 27 26, bitsNat (cfPay w) 14 0, bitsNat (cfPay w) 15 15 = 1⟩
    (e.phase = .north → bitsNat (cfPay w) 25 25 = 0 → exec (.enumans p w) ⟨d, q⟩
      = .next ⟨{ (d.newSender w).accepted p w (cfPos w) with hd := { d.hd with enum := some { e with
        north := e.north ++ [a] } } }, q⟩)
    ∧ (e.phase = .south → bitsNat (cfPay w) 25 25 = 0 → bitsNat (cfPay w) 24 24 = 0 → exec (.enumans p w) ⟨d, q⟩
      = .next ⟨{ (d.newSender w).accepted p w (cfPos w) with hd := { d.hd with enum := some { e with
        south := e.south ++ [a] } } }, q⟩)
    ∧ (e.phase = .check → exec (.enumans p w) ⟨d, q⟩
      = .next ⟨{ d.accepted p w (cfPos w) with hd := { d.hd with enum := some { e with north := e.north ++ [a] } } }, q⟩) := by
  intro a
  have hhead : ((d.newSender w).accepted p w (cfPos w)).hd = d.hd := by
    rw [Dev.accepted_hd, Dev.newSender_rest]
  have hshown : ((d.newSender w).accepted p w (cfPos w)).get SPN_ENUM_EID = d.get SPN_ENUM_EID := by
    rw [Dev.accepted_get _ _ _ _ rfl rfl (by decide), Dev.newSender_rest]
    rfl
  have hgrow : Dev.Grow d ((d.newSender w).accepted p w (cfPos w)) := by
    refine Dev.Grow.trans ?_ (Dev.Grow.accepted ..)
    rw [Dev.newSender_rest]
    exact (Dev.Grow.refl d).withSpn rfl
  have hrole : (d.newSender w).role = .head := by rw [Dev.newSender_rest]; exact hr
  have hact : enumansDev p w d = _ :=
    (noticeIn_sub hsub).trans (toHead_accepted (Dev.newSender_receives h) hrole ht)
  dsimp only at hact
  rw [hhead, he] at hact
  dsimp only at hact
  rw [if_neg (by rw [hshown, heid]; simp)] at hact
  obtain ⟨phase, north, south, notices⟩ := e
  dsimp only at hact ⊢
  refine ⟨fun hph hdown => ?_, fun hph hdown hfirst => ?_, fun hph => ?_⟩
  · subst hph
    dsimp only at hact
    rw [if_neg (by simp [hdown])] at hact
    exact State.lift_grow q h.1 hact (hgrow.withHd _)
  · subst hph
    dsimp only at hact
    rw [if_neg (by simp [hfirst]), if_neg (by simp [hdown])] at hact
    exact State.lift_grow q h.1 hact (hgrow.withHd _)
  · subst hph
    have hold : d.newSender w = d := if_neg (by simp [Dev.enumerates, he])
    rw [hold] at hact
    rw [hold] at hgrow
    exact State.lift_grow q h.1 hact (hgrow.withHd _)

/-! ## Notices at the head (R350, R362, R364, R366) -/

theorem exec_noticeLinkdown (h : d.receives p kNotice w) (hr : d.role = .head) (hsub : bitsNat (cfPay w) 31 28 = 1)
    (ht : d.inTurn w (cfPos w)) (hruns : d.hif.runs = []) : exec (.noticeLinkdown p w) ⟨d, q⟩
      = .next ⟨(d.accepted p w (cfPos w)).linkChange (cfPos w) (noticePort w) false false, q⟩ := by
  have hnone : ((d.accepted p w (cfPos w)).linkChange (cfPos w) (noticePort w) false false).hif.runs = [] := by
    rw [Dev.linkChange_runs, Dev.accepted_hif, hruns]
  exact State.lift_grow q h.1 ((noticeIn_sub hsub).trans ((toHead_accepted h hr ht).trans (Dev.copiesLost_none (.inr hnone))))
    ((Dev.Grow.accepted ..).linkChange ..)

theorem exec_noticeLinkup (h : d.receives p kNotice w) (hr : d.role = .head) (hsub : bitsNat (cfPay w) 31 28 = 2)
    (ht : d.inTurn w (cfPos w)) : exec (.noticeLinkup p w) ⟨d, q⟩
      = .next ⟨(d.accepted p w (cfPos w)).linkChange (cfPos w) (noticePort w) true (bitsNat (cfPay w) 26 26 = 1), q⟩ :=
  State.lift_grow q h.1 ((noticeIn_sub hsub).trans (toHead_accepted h hr ht)) ((Dev.Grow.accepted ..).linkChange ..)

/-- The entry of a position that was changed is the change of an entry. -/
theorem Dev.member_setMember {pos : Nat} {f : Member → Member} {m : Member} (h : (d.setMember pos f).member pos = some m) :
    ∃ n, m = f n := by
  have hpos : m.pos = pos := by simpa using List.find?_some h
  obtain ⟨n, -, hn⟩ := List.mem_map.mp (List.mem_of_find?_eq_some h)
  split at hn
  case isTrue => exact ⟨n, hn.symm⟩
  case isFalse hne => exact absurd (hn ▸ hpos) hne

/-- A member that the head knows to have reset warm. -/
def Member.rebegun (m : Member) : Member := { m with
  seq1 := 0, full1 := true, exp1 := 0, exp2 := 0, exp3 := 0, ahead := [], frag := [], sfrag := [], smiss := 0, route := none }

/-- The head takes the frames of a position, but for its notices, whatever their ALIVE. -/
def Dev.senderAnew (d : Dev) (pos : Nat) : Dev :=
  { d with spn := { d.spn with aliveIn := d.spn.aliveIn.filter (fun r => r.pos ≠ pos || r.kind = kNotice) } }

theorem exec_noticeWarmreset (h : d.receives p kNotice w) (hr : d.role = .head) (hsub : bitsNat (cfPay w) 31 28 = 3)
    (ht : d.inTurn w (cfPos w)) (hruns : d.hif.runs = []) : ∃ t, exec (.noticeWarmreset p w) ⟨d, q⟩ = .next t
      ∧ (∀ m, t.dev.member (cfPos w) = some m → m.seq1 = 0 ∧ m.exp1 = 0 ∧ m.exp2 = 0 ∧ m.exp3 = 0 ∧ m.full1 = true ∧ m.ahead = [])
      ∧ ∀ r ∈ t.dev.spn.aliveIn, r.pos = cfPos w → r.kind = kNotice := by
  have hnone : (((d.accepted p w (cfPos w)).senderAnew (cfPos w)).setMember (cfPos w) Member.rebegun).outstanding (cfPos w) = none :=
    Dev.outstanding_none ((congrArg HifSt.runs (Dev.accepted_hif d p w (cfPos w))).trans hruns) _
  have hact : noticeWarmresetDev p w d = ((d.accepted p w (cfPos w)).senderAnew (cfPos w)).setMember (cfPos w) Member.rebegun := by
    refine (noticeIn_sub hsub).trans ((toHead_accepted h hr ht).trans ?_)
    unfold Dev.senderAnew Member.rebegun at hnone ⊢
    dsimp only at hnone ⊢
    rw [hnone]
  have hanew : Dev.Grow d ((d.accepted p w (cfPos w)).senderAnew (cfPos w)) := (Dev.Grow.accepted ..).withSpn rfl
  refine ⟨_, State.lift_grow q h.1 hact (hanew.setMember ..), ?_, ?_⟩
  · intro m hm
    obtain ⟨n, rfl⟩ := Dev.member_setMember hm
    exact ⟨rfl, rfl, rfl, rfl, rfl, rfl⟩
  · intro r hmem hpos
    simpa [hpos] using (List.mem_filter.mp hmem).2

/-- An unnumbered device announces itself: at the head a UID that is known only shows, and a new one is reported. -/
theorem exec_noticeUnnumbered (h : d.receives p kNotice w) (hr : d.role = .head) (hsub : bitsNat (cfPay w) 31 28 = 4) :
    (bitsNat (cfPay w) 15 0 ∈ d.hd.unnum → exec (.noticeUnnumbered p w) ⟨d, q⟩
      = .next ⟨(d.consumed p w).put SPN_UNNUM_UID (bitsNat (cfPay w) 15 0), q⟩)
    ∧ (bitsNat (cfPay w) 15 0 ∉ d.hd.unnum → ∃ t, exec (.noticeUnnumbered p w) ⟨d, q⟩ = .next t
      ∧ t.dev.get SPN_UNNUM_UID = bitsNat (cfPay w) 15 0 ∧ t.dev.hd.unnum = bitsNat (cfPay w) 15 0 :: d.hd.unnum) := by
  obtain ⟨hs, hh, hk, hok⟩ := h
  have hknown : ((d.consumed p w).put SPN_UNNUM_UID (bitsNat (cfPay w) 15 0)).hd.unnum = d.hd.unnum :=
    congrArg HeadSt.unnum ((Dev.put_hd ..).trans (Dev.consumed_hd ..))
  have hgrow := ((Dev.Grow.refl d).consumed p w).put SPN_UNNUM_UID (bitsNat (cfPay w) 15 0)
  have hact : noticeUnnumberedDev p w d = _ := (if_pos hsub).trans (compactIn_right hh hk hok)
  rw [hr] at hact
  dsimp only at hact
  refine ⟨fun hin => ?_, fun hout => ?_⟩
  · rw [if_pos (by rw [hknown]; simpa using hin)] at hact
    exact State.lift_grow q hs hact hgrow
  · rw [if_neg (by rw [hknown]; simpa using hout)] at hact
    refine ⟨_, State.lift_grow q hs hact (((hgrow.withHd _).countSat ..).raise ..), ?_, ?_⟩
    · unfold Dev.countSat
      rw [Dev.raise_get _ _ _ _ _ (by decide), Dev.get_put_apart _ _ _ _ rfl rfl rfl, Dev.get_with_hd,
        Dev.get_put_same _ _ _ rfl]
      exact Nat.mod_eq_of_lt (bitsNat_lt ..)
    · rw [(Dev.Sent.raise ..).hd]
      exact congrArg _ hknown

theorem exec_noticeSynced (h : d.receives p kNotice w) (hr : d.role = .head) (hsub : bitsNat (cfPay w) 31 28 = 5)
    (ht : d.inTurn w (cfPos w)) :
    (d.outstanding (cfPos w) = none → exec (.noticeSynced p w) ⟨d, q⟩
      = .next ⟨(d.accepted p w (cfPos w)).setMember (cfPos w) (fun m => { m with tag := bitsNat (cfPay w) 15 0 }), q⟩)
    ∧ ((d.outstanding (cfPos w)).isSome = true →
      exec (.noticeSynced p w) ⟨d, q⟩ = .next ⟨d.accepted p w (cfPos w), q⟩) := by
  have hsame := Dev.outstanding_congr (Dev.accepted_hif d p w (cfPos w)) (cfPos w)
  have hact : noticeSyncedDev p w d = _ := (noticeIn_sub hsub).trans (toHead_accepted h hr ht)
  refine ⟨fun hnone => ?_, fun hsome => ?_⟩
  · exact State.lift_grow q h.1 (hact.trans (if_neg (by rw [hsame, hnone]; decide))) ((Dev.Grow.accepted ..).setMember ..)
  · exact State.lift_grow q h.1 (hact.trans (if_pos (by rw [hsame, hsome]))) (Dev.Grow.accepted ..)

end

/-- Settles O33: an ENUM frame places a member or ends there, and the head gathers the answers and acts on each notice. -/
theorem enumerationFramesAndNoticesComplete : Obligations.EnumerationFramesAndNoticesComplete :=
  ⟨fun _ q _ h hr hhost hcheck hdown hnew hheld halive => exec_enumerationFrame_placed q h hr hhost hcheck hdown hnew hheld halive,
    fun _ q _ _ h hr hhost hcheck halive => exec_enumerationFrame_ends q h hr (Dev.enumAtMember_repeat hhost hcheck halive),
    fun _ q _ _ h hr hb hhid => exec_enumerationFrame_ends q h hr (Dev.enumAtMember_otherHost hb hhid),
    fun _ q _ _ h hr hhid => exec_enumerationFrame_otherHead q h hr hhid,
    fun _ q _ _ _ h hr ht hsub he heid => exec_enumans q h hr ht hsub he heid,
    fun _ q _ _ h hr => ⟨exec_noticeLinkdown q h hr, exec_noticeLinkup q h hr, exec_noticeWarmreset q h hr,
      exec_noticeUnnumbered q h hr, exec_noticeSynced q h hr⟩⟩

end Sys2Proof.Machine
end

section
/-!
SUPPORT. The commands of the Spindle link (12, R304 to R319): link words, timers of a port, training, retraining and
line checks.
-/

namespace Sys2Proof.Machine

/-! ## What an event leaves of the ports -/

/-- Between two devices no port differs in its silence or in its line check. -/
structure Dev.PortsKept (d e : Dev) : Prop where
  silent    : ∀ p, (e.port p).silent = (d.port p).silent
  lineCheck : ∀ p, (e.port p).lineCheck = (d.port p).lineCheck

namespace Dev.PortsKept

variable {d e f : Dev}

theorem refl (d : Dev) : Dev.PortsKept d d := ⟨fun _ => rfl, fun _ => rfl⟩

theorem trans (h : Dev.PortsKept d e) (g : Dev.PortsKept e f) : Dev.PortsKept d f :=
  ⟨fun p => (g.silent p).trans (h.silent p), fun p => (g.lineCheck p).trans (h.lineCheck p)⟩

/-- Nothing of the ports changes. -/
theorem same (h : Dev.PortsKept d e) (hf : ∀ p, f.port p = e.port p) : Dev.PortsKept d f :=
  h.trans ⟨fun p => congrArg PortSt.silent (hf p), fun p => congrArg PortSt.lineCheck (hf p)⟩

theorem spn (h : Dev.PortsKept d e) (hs : f.spn = e.spn) : Dev.PortsKept d f :=
  h.same fun p => by unfold Dev.port; rw [hs]

theorem setPort (h : Dev.PortsKept d e) (p : Port) {s : PortSt} (hs : s.silent = (e.port p).silent)
    (hl : s.lineCheck = (e.port p).lineCheck) : Dev.PortsKept d (e.setPort p s) := by
  refine h.trans ⟨fun r => ?_, fun r => ?_⟩
  · cases p
    · cases r
      · exact hs
      · rfl
    · cases r
      · rfl
      · exact hs
  · cases p
    · cases r
      · exact hl
      · rfl
    · cases r
      · rfl
      · exact hl

theorem creditDue (h : Dev.PortsKept d e) (p : Port) : Dev.PortsKept d (e.creditDue p) := by
  unfold Dev.creditDue
  split
  · exact (h.setPort p (s := { e.port p with owed := 0 }) rfl rfl).spn rfl
  · exact h

theorem freeUnits (h : Dev.PortsKept d e) (p : Port) (tc n : Nat) : Dev.PortsKept d (e.freeUnits p tc n) := by
  unfold Dev.freeUnits
  dsimp only
  split
  · refine (h.setPort p ?_ ?_).creditDue p <;> rfl
  · refine (h.setPort p ?_ ?_).creditDue p <;> rfl
  · refine (h.setPort p ?_ ?_).creditDue p <;> rfl
  · exact h

theorem ite {c : Prop} [Decidable c] (h : Dev.PortsKept d e) (g : Dev.PortsKept d f) : Dev.PortsKept d (if c then e else f) := by
  split <;> assumption

theorem leave (h : Dev.PortsKept d e) (p : Port) (i : TxItem) : Dev.PortsKept d (e.leave p i) := by
  unfold Dev.leave
  extract_lets sent paid
  have hsent : Dev.PortsKept d sent := h.spn rfl
  have hpaid : Dev.PortsKept d paid := hsent.ite (hsent.spn (Dev.put_spn ..))
  split
  · exact hpaid.freeUnits ..
  · exact hpaid

theorem drainPort (h : Dev.PortsKept d e) (n : Nat) (p : Port) : Dev.PortsKept d (Dev.drainPort n e p) := by
  induction n generalizing e with
  | zero => exact h
  | succ n ih =>
    unfold Dev.drainPort
    split
    · refine ih ((h.setPort p ?_ ?_).leave ..) <;> rfl
    · exact h

theorem portSend (h : Dev.PortsKept d e) (p : Port) (src : Option Port) (b : Body) : Dev.PortsKept d (e.portSend p src b) := by
  unfold Dev.portSend
  dsimp only
  split
  · split
    · exact h.ite (h.freeUnits ..)
    · exact h
  · refine (h.setPort p ?_ ?_).drainPort .. <;> rfl

theorem sendEvents (h : Dev.PortsKept d e) : Dev.PortsKept d e.sendEvents := by
  unfold Dev.sendEvents
  split
  · refine same (e := e.each _ _) ?_ fun p => by cases p <;> rfl
    refine List.foldlRecOn (motive := Dev.PortsKept d) _ _ h fun c hc i _ => ?_
    exact (hc.portSend ..).same fun p => by cases p <;> rfl
  · exact h

theorem histAppend (h : Dev.PortsKept d e) (bs : List Byte) : Dev.PortsKept d (e.histAppend bs) := h.spn (Dev.histAppend_spn ..)

theorem hostEvent (h : Dev.PortsKept d e) (r : EventRec) : Dev.PortsKept d (e.hostEvent r) := by
  refine h.spn ?_
  unfold Dev.hostEvent
  split
  · unfold Dev.ringWrite Dev.writeBack Dev.ringSignal
    dsimp only
    split
    · rfl
    · rfl
  · split
    · rfl
    · rfl

theorem keepEvent (h : Dev.PortsKept d e) (r : EventRec) : Dev.PortsKept d (e.keepEvent r) := by
  unfold Dev.keepEvent
  split
  · exact ((h.same fun p => by cases p <;> rfl).spn (Dev.put_spn ..)).sendEvents
  · exact (h.same fun p => by cases p <;> rfl).spn (Dev.put_spn ..)

theorem raise (h : Dev.PortsKept d e) (code src : Nat) (items : List Nat) : Dev.PortsKept d (e.raise code src items) := by
  unfold Dev.raise
  split
  · extract_lets r _ counted
    have hcounted : Dev.PortsKept d counted := h.spn rfl
    exact (hcounted.histAppend _).hostEvent _
  · dsimp only
    exact (h.histAppend _).ite ((h.histAppend _).keepEvent _)

end Dev.PortsKept

/-! ## A port that goes DOWN (R313, R366) -/

theorem Dev.HostKept.intoDown {d e : Dev} (h : Dev.HostKept d e) (p : Port) : Dev.HostKept d (e.intoDown p) :=
  (((h.flushPort p).setPort ..).put (x := SPN_PORT_STATE p) (by cases p <;> rfl) _).put (x := SPN_PORT_DOWNCNT p)
    (by cases p <;> rfl) _

/-- A port that goes DOWN leaves the runs of the host. -/
theorem Dev.enterDown_runs (d : Dev) (p : Port) (cause : Nat) : (d.enterDown p cause).hif.runs = d.hif.runs := by
  unfold Dev.enterDown
  extract_lets was down _ swapped raised
  have hdown : Dev.HostKept d down := (Dev.HostKept.refl d).intoDown p
  have hswapped : Dev.HostKept d swapped := hdown.spn _
  have hraised : Dev.HostKept d raised := hswapped.sent (Dev.Sent.raise ..)
  split
  · split
    · exact (Dev.linkChange_runs ..).trans hraised.runs
    · exact ((hraised.kin (Dev.Kin.sendCompact ..)).ite hraised).runs
  · exact hdown.runs

theorem Dev.bridgeLost_runs (d : Dev) (p : Port) : (d.bridgeLost p).hif.runs = d.hif.runs := by
  unfold Dev.bridgeLost
  split
  · rw [Dev.put_hif]
  · rfl

theorem Dev.intoDown_pstate (d : Dev) (p : Port) : (d.intoDown p).pstate p = pDown := by
  unfold Dev.intoDown Dev.countMod Dev.pstate
  cases p
  · exact (Dev.get_put_apart _ _ _ _ rfl rfl rfl).trans (Dev.get_put_same _ _ _ rfl)
  · exact (Dev.get_put_apart _ _ _ _ rfl rfl rfl).trans (Dev.get_put_same _ _ _ rfl)

theorem Dev.Kin.linkNotice (d : Dev) (p : Port) (up : Bool) (low : Nat) : Dev.Kin d (d.linkNotice p up low) :=
  Dev.Kin.ite (Dev.Kin.sendCompact ..) (Dev.Kin.refl d)

theorem settleReg_port (p : Port) : settleReg (SPN_PORT_STATE p).addr = false := by cases p <;> decide

/-- At a member a port that goes DOWN is DOWN once the loss is told. -/
theorem Dev.enterDown_pstate {d : Dev} (hr : d.role = .member) (p : Port) (cause : Nat) :
    (d.enterDown p cause).pstate p = pDown := by
  unfold Dev.enterDown
  extract_lets was down _ swapped raised
  have hdown : down.pstate p = pDown := Dev.intoDown_pstate d p
  have hraised : raised.role = .member := by
    rw [(Dev.Sent.raise ..).role]
    exact (((Dev.Grow.refl d).intoDown p).role).trans hr
  split
  · rw [if_neg (by rw [hraised]; decide)]
    have hkin : Dev.Kin swapped (raised.linkNotice p false ((Config.eventCause 0x7002 cause).toNat % 8 * 2 ^ 24)) :=
      (Dev.Sent.raise ..).kin.trans (Dev.Kin.linkNotice ..)
    exact (hkin.get _ (settleReg_port p)).trans hdown
  · exact hdown

theorem Dev.seeTimePort_pstate (d : Dev) (p : Port) : d.seeTimePort.pstate p = d.pstate p := by
  have hset (x : TbSt) (v : Nat) : (({ d with tb := x } : Dev).put TB_STAT_TPORT v).pstate p = d.pstate p := by
    unfold Dev.pstate
    rw [Dev.get_put_apart _ _ _ _ rfl (by cases p <;> rfl) (by cases p <;> rfl), Dev.get_with_tb]
  unfold Dev.seeTimePort
  split
  · rfl
  · split
    · exact (Dev.Kin.ringUnlock d).get _ (settleReg_port p)
    · next r _ =>
      cases r
      · dsimp only
        split
        · rfl
        · exact hset _ _
      · dsimp only
        split
        · rfl
        · exact hset _ _

/-! ## Link words (R304 to R310, R314) -/

theorem State.lift_grows {d : Dev} (q : List Instr) {f : Dev → Dev} {e : Dev} (hs : d.settled) (hg : Dev.Grow d (f d))
    (he : f d = e) : (⟨d, q⟩ : State).lift f = .next ⟨e, q⟩ :=
  State.lift_grow q hs he (he ▸ hg)

section
variable {d e : Dev} (q : List Instr) {p : Port} {w : BitVec 16} {inv : Bool}

/-- The port takes a valid link word: it is not off, and its partner is native. -/
def Dev.takesWord (d : Dev) (p : Port) (w : BitVec 16) : Prop :=
  ¬(!wordValid w ∨ d.pstate p = pOff ∨ d.inLegacy ∨ !d.lathe ∨ d.bit (SPN_PORT_LEG p))

theorem Dev.takesWord_of (hv : wordValid w = true) (hr : d.runs) (hin : d.inLegacy = false) (hl : d.bit (SPN_PORT_LEG p) = false)
    (hoff : d.pstate p ≠ pOff) : d.takesWord p w := by
  simp [Dev.takesWord, hv, hr.2, hin, hl, hoff]

/-- A device that has noted a link word and the polarity it came in. -/
structure Dev.NotesWord (d e : Dev) (p : Port) (w : BitVec 16) (inv : Bool) : Prop where
  made  : (d.put (SPN_PORT_PWORD p) w.toNat).putB (SPN_PORT_INV p) inv = e
  state : e.pstate p = d.pstate p
  misw  : e.bit (SPN_PORT_MISW p) = d.bit (SPN_PORT_MISW p)
  port  : e.port p = d.port p

theorem Dev.notesWord (d : Dev) (p : Port) (w : BitVec 16) (inv : Bool) :
    d.NotesWord ((d.put (SPN_PORT_PWORD p) w.toNat).putB (SPN_PORT_INV p) inv) p w inv := by
  refine ⟨rfl, ?_, ?_, ?_⟩
  · unfold Dev.pstate Dev.putB
    cases p
    · exact (Dev.get_put_apart _ _ _ _ rfl rfl rfl).trans (Dev.get_put_apart _ _ _ _ rfl rfl rfl)
    · exact (Dev.get_put_apart _ _ _ _ rfl rfl rfl).trans (Dev.get_put_apart _ _ _ _ rfl rfl rfl)
  · unfold Dev.putB
    cases p
    · exact (Dev.bit_put_apart _ _ _ _ rfl rfl rfl).trans (Dev.bit_put_apart _ _ _ _ rfl rfl rfl)
    · exact (Dev.bit_put_apart _ _ _ _ rfl rfl rfl).trans (Dev.bit_put_apart _ _ _ _ rfl rfl rfl)
  · exact (Dev.port_put ..).trans (Dev.port_put ..)

theorem linkWordDev_wrong (hgo : d.takesWord p w) (hn : d.NotesWord e p w inv) (hport : lwPort w = portCode p)
    (hst : d.pstate p = pDown ∨ d.pstate p = pParked ∨ d.pstate p = pLr) : linkWordDev p w inv d = e.miswired p := by
  unfold linkWordDev
  rw [if_neg hgo]
  dsimp only
  rw [hn.made, hn.state, if_pos ⟨hport, hst⟩]

theorem linkWordDev_parked (hgo : d.takesWord p w) (hn : d.NotesWord e p w inv) (hport : lwPort w ≠ portCode p)
    (hst : d.pstate p = pParked) (hs : (d.port p).silent = false) :
    linkWordDev p w inv d = ((e.setPort p { d.port p with
      quietPeriods := 0, gotHeard := (d.port p).gotHeard || lwHeard w
      unheard := if lwHeard w then 0 else (d.port p).unheard + 1 }).sendWord p false).tryLr p := by
  unfold linkWordDev
  rw [if_neg hgo]
  dsimp only
  rw [hn.made, hn.state, if_neg fun h => hport h.1, if_pos (.inr hst), hn.port, if_neg (by simp [hs]),
    if_neg (by rw [hst]; simp [pParked, pDown])]

theorem linkWordDev_parks (hgo : d.takesWord p w) (hn : d.NotesWord e p w inv) (hport : lwPort w ≠ portCode p)
    (hst : d.pstate p = pLr) (hpark : lwPark w = true) :
    linkWordDev p w inv d = ((e.setPort p { d.port p with gotHeard := false, sentHeard := false, quietPeriods := 3 }).put
      (SPN_PORT_STATE p) pParked).raise 0x7004 0 [portCode p] := by
  have hset (s t : PortSt) : (e.setPort p s).setPort p t = e.setPort p t := by cases p <;> rfl
  unfold linkWordDev
  rw [if_neg hgo]
  dsimp only
  rw [hn.made, hn.state, if_neg fun h => hport h.1, if_neg (by rw [hst]; decide), if_pos hst, if_pos hpark, hset, Dev.port_setPort,
    hn.port]

theorem linkWordDev_trains (hgo : d.takesWord p w) (hn : d.NotesWord e p w inv) (hport : lwPort w ≠ portCode p)
    (hst : d.pstate p = pLr) (hpark : lwPark w = false) :
    linkWordDev p w inv d = (e.setPort p { d.port p with quietPeriods := 0 }).tryTrain p := by
  unfold linkWordDev
  rw [if_neg hgo]
  dsimp only
  rw [hn.made, hn.state, if_neg fun h => hport h.1, if_neg (by rw [hst]; decide), if_pos hst, if_neg (by simp [hpark]), hn.port]

/-- The port has found its partner miswired, and says so. -/
def Dev.foundMiswired (d : Dev) (p : Port) : Dev :=
  ((d.setPort p { d.port p with gotHeard := false, sentHeard := false }).put (SPN_PORT_MISW p) 1).raise 0x7005 0 [portCode p]

theorem Dev.foundMiswired_state (d : Dev) (p : Port) :
    (d.foundMiswired p).pstate p = d.pstate p ∧ ((d.foundMiswired p).port p).silent = (d.port p).silent := by
  have hget : (d.foundMiswired p).pstate p = d.pstate p := by
    unfold Dev.foundMiswired Dev.pstate
    rw [Dev.raise_get _ _ _ _ _ (by cases p <;> decide), Dev.get_put_apart _ _ _ _ (by cases p <;> rfl) (by cases p <;> rfl)
      (by cases p <;> rfl)]
    exact (Dev.Sent.setPort ..).get _ (by cases p <;> decide)
  refine ⟨hget, ((Dev.PortsKept.refl _).raise ..).silent p |>.trans ?_⟩
  rw [Dev.port_put, Dev.port_setPort]

theorem Dev.miswired_first (hm : d.bit (SPN_PORT_MISW p) = false) :
    d.miswired p = if (d.port p).silent ∨ d.pstate p = pLr then d.foundMiswired p else (d.foundMiswired p).sendWord p false := by
  obtain ⟨hst, hs⟩ := d.foundMiswired_state p
  have hbit : (d.setPort p { d.port p with gotHeard := false, sentHeard := false }).bit (SPN_PORT_MISW p) = false :=
    ((Dev.Sent.setPort ..).bit _ (by cases p <;> decide)).trans hm
  unfold Dev.miswired
  dsimp only
  rw [hbit, if_neg (c := false = true) (by decide), ← Dev.foundMiswired, hst, hs]

theorem exec_linkWord (hr : d.runs) (hv : wordValid w = true) (hin : d.inLegacy = false) (hl : d.bit (SPN_PORT_LEG p) = false) :
    let e := (d.put (SPN_PORT_PWORD p) w.toNat).putB (SPN_PORT_INV p) inv
    let wrong := ((e.setPort p { e.port p with gotHeard := false, sentHeard := false }).put (SPN_PORT_MISW p) 1).raise
      0x7005 0 [portCode p]
    (d.pstate p = pDown ∨ d.pstate p = pParked → lwPort w = portCode p → d.bit (SPN_PORT_MISW p) = false →
      exec (.linkWord p w inv) ⟨d, q⟩
        = .next ⟨(if (d.port p).silent then wrong else wrong.sendWord p false).seeTimePort, q⟩)
    ∧ (d.pstate p = pLr → lwPort w = portCode p → d.bit (SPN_PORT_MISW p) = false →
      exec (.linkWord p w inv) ⟨d, q⟩ = .next ⟨wrong.seeTimePort, q⟩)
    ∧ (d.pstate p = pParked → lwPort w ≠ portCode p → (d.port p).silent = false →
      exec (.linkWord p w inv) ⟨d, q⟩ = .next ⟨(((e.setPort p { d.port p with
        quietPeriods := 0, gotHeard := (d.port p).gotHeard || lwHeard w
        unheard := if lwHeard w then 0 else (d.port p).unheard + 1 }).sendWord p false).tryLr p).seeTimePort, q⟩)
    ∧ (d.pstate p = pLr → lwPort w ≠ portCode p → lwPark w = true →
      exec (.linkWord p w inv) ⟨d, q⟩ = .next ⟨(((e.setPort p { d.port p with
        gotHeard := false, sentHeard := false, quietPeriods := 3 }).put (SPN_PORT_STATE p) pParked).raise
        0x7004 0 [portCode p]).seeTimePort, q⟩)
    ∧ (d.pstate p = pLr → lwPort w ≠ portCode p → lwPark w = false → exec (.linkWord p w inv) ⟨d, q⟩
      = .next ⟨((e.setPort p { d.port p with quietPeriods := 0 }).tryTrain p).seeTimePort, q⟩) := by
  intro e wrong
  have hn : d.NotesWord e p w inv := Dev.notesWord ..
  have hlift {x : Dev} (hx : linkWordDev p w inv d = x) : exec (.linkWord p w inv) ⟨d, q⟩ = .next ⟨x.seeTimePort, q⟩ :=
    State.lift_grows q hr.1 ((Dev.Grow.refl d).linkWordDev ..).seeTimePort (congrArg Dev.seeTimePort hx)
  have hgo {n : Nat} (hst : d.pstate p = n) (hne : n ≠ pOff) : d.takesWord p w :=
    Dev.takesWord_of hv hr hin hl fun h => hne (hst.symm.trans h)
  have hmis := hn.misw
  refine ⟨fun hst hport hm => ?_, fun hst hport hm => ?_, fun hst hport hs => ?_, fun hst hport hpark => ?_,
    fun hst hport hpark => ?_⟩
  · refine hlift ((linkWordDev_wrong ?_ hn hport (hst.imp_right .inl)).trans ?_)
    · rcases hst with hst | hst
      · exact hgo hst (by decide)
      · exact hgo hst (by decide)
    · rw [Dev.miswired_first (hmis.trans hm), hn.port, hn.state]
      have hne : d.pstate p ≠ pLr := by rcases hst with hst | hst <;> (rw [hst]; decide)
      simp only [hne, or_false]
      rfl
  · refine hlift ((linkWordDev_wrong (hgo hst (by decide)) hn hport (.inr (.inr hst))).trans ?_)
    rw [Dev.miswired_first (hmis.trans hm), hn.state, if_pos (.inr hst)]
    rfl
  · exact hlift (linkWordDev_parked (hgo hst (by decide)) hn hport hst hs)
  · exact hlift (linkWordDev_parks (hgo hst (by decide)) hn hport hst hpark)
  · exact hlift (linkWordDev_trains (hgo hst (by decide)) hn hport hst hpark)

theorem exec_linkWordSend (hr : d.runs) (hin : d.inLegacy = false) (hl : d.bit (SPN_PORT_LEG p) = false)
    (hs : (d.port p).silent = false) :
    (d.pstate p = pDown ∨ (d.pstate p = pParked ∧ (d.level = 2 ∨ d.level = 3)) →
      exec (.linkWordSend p) ⟨d, q⟩ = .next ⟨(d.sendWord p false).seeTimePort, q⟩)
    ∧ (d.pstate p = pLr → exec (.linkWordSend p) ⟨d, q⟩ = .next ⟨((d.sendWord p false).tryTrain p).seeTimePort, q⟩) := by
  have hlift {x : Dev} (hx : linkWordSendDev p d = x) : exec (.linkWordSend p) ⟨d, q⟩ = .next ⟨x.seeTimePort, q⟩ :=
    State.lift_grows q hr.1 ((Dev.Grow.refl d).linkWordSendDev ..).seeTimePort (congrArg Dev.seeTimePort hx)
  have hgo : ¬(!d.lathe ∨ d.inLegacy ∨ (d.port p).silent ∨ d.bit (SPN_PORT_LEG p)) := by simp [hr.2, hin, hl, hs]
  refine ⟨fun hst => hlift ((if_neg hgo).trans (if_pos hst)),
    fun hst => hlift ((if_neg hgo).trans ((if_neg ?_).trans (if_pos hst)))⟩
  rw [hst]
  rintro (h | ⟨h, -⟩)
  · exact absurd h (by decide)
  · exact absurd h (by decide)

end

/-! ## Timers of a port, training and retraining (R308 to R313) -/

section
variable {d : Dev} (q : List Instr) {p : Port}

theorem Dev.enterDown_copies (hruns : d.hif.runs = []) (p : Port) (cause : Nat) :
    (d.enterDown p cause).copiesLost = d.enterDown p cause :=
  Dev.copiesLost_none (.inr ((Dev.enterDown_runs d p cause).trans hruns))

/-- The timers of LR take the port DOWN: the preamble with a native partner, the frames with a legacy one. -/
theorem exec_lrTimeouts (hr : d.runs) (hst : d.pstate p = pLr) (hruns : d.hif.runs = []) :
    (d.bit (SPN_PORT_LEG p) = false → exec (.preambleTimeout p) ⟨d, q⟩ = .next ⟨(d.enterDown p 1).seeTimePort, q⟩
      ∧ (d.role = .member → (d.enterDown p 1).seeTimePort.pstate p = pDown))
    ∧ (d.bit (SPN_PORT_LEG p) = true →
      exec (.legacyFrameTimeout p) ⟨d, q⟩ = .next ⟨((d.enterDown p 1).bridgeLost p).seeTimePort, q⟩) := by
  refine ⟨fun hl => ⟨?_, fun hm => (Dev.seeTimePort_pstate ..).trans (Dev.enterDown_pstate hm p 1)⟩, fun hl => ?_⟩
  · have hact : preambleTimeoutDev p d = d.enterDown p 1 := if_pos ⟨hst, by simp [hl], hr.2⟩
    refine State.lift_grow q hr.1 (congrArg Dev.seeTimePort ?_) ((Dev.Grow.refl d).enterDown ..).seeTimePort
    rw [hact, Dev.enterDown_copies hruns]
  · have hact : legacyFrameTimeoutDev p d = d.enterDown p 1 := if_pos ⟨hst, hl, hr.2⟩
    have hnone : ((d.enterDown p 1).bridgeLost p).hif.runs = [] := by rw [Dev.bridgeLost_runs, Dev.enterDown_runs, hruns]
    refine State.lift_grow q hr.1 (congrArg Dev.seeTimePort ?_) (((Dev.Grow.refl d).enterDown ..).bridgeLost ..).seeTimePort
    rw [hact, Dev.copiesLost_none (.inr hnone)]

theorem exec_downSilenceEnd (hs : d.settled) (hst : d.pstate p = pDown) :
    exec (.downSilenceEnd p) ⟨d, q⟩ = .next ⟨d.setPort p { d.port p with silent := false }, q⟩ :=
  State.lift_grow q hs (if_pos hst) ((Dev.Grow.refl d).setPort ..)

theorem Dev.att_eye (d : Dev) (p : Port) (eyeh eyev : Nat) :
    ((d.put (PRT_EYE_EYEH p) eyeh).put (PRT_EYE_EYEV p) eyev).get (PRT_STAT_ATT p) = d.get (PRT_STAT_ATT p) := by
  cases p
  · exact (Dev.get_put_apart _ _ _ _ rfl rfl rfl).trans (Dev.get_put_apart _ _ _ _ rfl rfl rfl)
  · exact (Dev.get_put_apart _ _ _ _ rfl rfl rfl).trans (Dev.get_put_apart _ _ _ _ rfl rfl rfl)

theorem exec_training (preset eyeh eyev : Nat) (rxinv : Bool) (hs : d.settled) (hst : d.pstate p = pTrain) :
    (exec (.trainingDone p preset eyeh eyev rxinv) ⟨d, q⟩ = .next ⟨(((((((d.put (PRT_STAT_PRESET p)
        (if d.bit (PRT_TXCFG_PFIX p) then d.get (PRT_TXCFG_PSET p) else preset % 8)).putB (PRT_STAT_RXINV p) rxinv).put
        (PRT_STAT_ATT p) 0).put (PRT_EYE_EYEH p) eyeh).put (PRT_EYE_EYEV p) eyev).countMod (PRT_STAT_TRNCNT p) 1).enterHr
        p true).seeTimePort, q⟩)
    ∧ (d.get (PRT_STAT_ATT p) < 2 → exec (.trainingFail p eyeh eyev) ⟨d, q⟩
      = .next ⟨((((d.put (PRT_EYE_EYEH p) eyeh).put (PRT_EYE_EYEV p) eyev).put (PRT_STAT_ATT p)
        (d.get (PRT_STAT_ATT p) + 1)).enterLr p false).seeTimePort, q⟩)
    ∧ (d.get (PRT_STAT_ATT p) = 2 → exec (.trainingFail p eyeh eyev) ⟨d, q⟩
      = .next ⟨((((((d.put (PRT_EYE_EYEH p) eyeh).put (PRT_EYE_EYEV p) eyev).put (PRT_STAT_ATT p) 3).enterLr p false).put
        (PRT_STAT_HRFAIL p) 1).raise 0x7003 0 [portCode p, eyeh, eyev]).seeTimePort, q⟩) := by
  have hfail {x : Dev} (hx : trainingFailDev p eyeh eyev d = x) :
      exec (.trainingFail p eyeh eyev) ⟨d, q⟩ = .next ⟨x.seeTimePort, q⟩ :=
    State.lift_grows q hs ((Dev.Grow.refl d).trainingFailDev ..).seeTimePort (congrArg Dev.seeTimePort hx)
  have hact : trainingFailDev p eyeh eyev d = _ := if_pos hst
  dsimp only at hact
  rw [Dev.att_eye] at hact
  refine ⟨State.lift_grows q hs ((Dev.Grow.refl d).trainingDoneDev ..).seeTimePort (congrArg Dev.seeTimePort (if_pos hst)),
    fun hn => hfail (hact.trans (if_neg (by omega))), fun hn => hfail (hact.trans ?_)⟩
  rw [hn, if_pos (by decide)]

theorem exec_hrRetryExpiry (hs : d.settled) (hf : d.bit (PRT_STAT_HRFAIL p) = true) : exec (.hrRetryExpiry p) ⟨d, q⟩
      = .next ⟨(((d.put (PRT_STAT_HRFAIL p) 0).put (PRT_STAT_ATT p) 0).tryTrain p).seeTimePort, q⟩ :=
  State.lift_grows q hs ((Dev.Grow.refl d).hrRetryExpiryDev ..).seeTimePort (congrArg Dev.seeTimePort (if_pos hf))

theorem exec_syncHeaderErrors (n : Nat) (hs : d.settled) (hst : d.pstate p = pHr) :
    (n < 16 → exec (.syncHeaderErrors p n) ⟨d, q⟩ = .next ⟨(d.countSat (PRT_ERR_HDRERR p) n).seeTimePort, q⟩)
    ∧ (16 ≤ n → exec (.syncHeaderErrors p n) ⟨d, q⟩ = .next ⟨((((d.countSat (PRT_ERR_HDRERR p) n).put
      (SPN_PORT_STATE p) pRetrain).countSat (PRT_ERR_RELOCK p) 1).put (SPN_CRED_FROZEN p) 1).seeTimePort, q⟩) := by
  have hlift {x : Dev} (hx : syncHeaderErrorsDev p n d = x) : exec (.syncHeaderErrors p n) ⟨d, q⟩ = .next ⟨x.seeTimePort, q⟩ :=
    State.lift_grows q hs ((Dev.Grow.refl d).syncHeaderErrorsDev ..).seeTimePort (congrArg Dev.seeTimePort hx)
  exact ⟨fun hn => hlift ((if_pos hst).trans (if_neg (by omega))), fun hn => hlift ((if_pos hst).trans (if_pos hn))⟩

theorem Dev.train_copies (h : d.bit SPN_RING_OPEN = false ∨ d.hif.runs = []) :
    (d.put (SPN_PORT_STATE p) pTrain).copiesLost = d.put (SPN_PORT_STATE p) pTrain := by
  refine Dev.copiesLost_none (h.imp (fun hopen => ?_) fun hruns => ?_)
  · rw [Dev.bit_put_apart _ _ _ _ (by cases p <;> rfl) rfl (by cases p <;> rfl), hopen]
  · rw [Dev.put_hif, hruns]

theorem exec_retrain (hs : d.settled) (hst : d.pstate p = pRetrain) :
    exec (.blockLockRegained p) ⟨d, q⟩
      = .next ⟨(((((d.put (SPN_PORT_STATE p) pHr).put (SPN_CRED_FROZEN p) 0).raise 0x7001 0
        [portCode p, (Config.eventCause 0x7001 1).toNat]).creditDue p).drain p).seeTimePort, q⟩
    ∧ (d.bit SPN_RING_OPEN = false ∨ d.hif.runs = [] →
      exec (.retrainTimeout p true) ⟨d, q⟩ = .next ⟨(d.put (SPN_PORT_STATE p) pTrain).seeTimePort, q⟩)
    ∧ (d.hif.runs = [] → exec (.retrainTimeout p false) ⟨d, q⟩ = .next ⟨(d.enterDown p 0).seeTimePort, q⟩) := by
  refine ⟨State.lift_grows q hs ((Dev.Grow.refl d).blockLockRegainedDev ..).seeTimePort (congrArg Dev.seeTimePort (if_pos hst)),
    fun h => State.lift_grow q hs (congrArg Dev.seeTimePort ?_) ((Dev.Grow.refl d).put ..).seeTimePort,
    fun h => State.lift_grow q hs (congrArg Dev.seeTimePort ?_) ((Dev.Grow.refl d).enterDown ..).seeTimePort⟩
  · exact (congrArg Dev.copiesLost (if_pos hst)).trans (Dev.train_copies h)
  · exact (congrArg Dev.copiesLost (if_pos hst)).trans (Dev.enterDown_copies h p 0)

/-! ## PRT_CTRL: RETRN, HRDIS and line checks (R310, R311, R318) -/

/-- The port with HRFAIL and its attempts cleared. -/
def Dev.attemptsCleared (d : Dev) (p : Port) : Dev := (d.put (PRT_STAT_HRFAIL p) 0).put (PRT_STAT_ATT p) 0

theorem Dev.attemptsCleared_pstate (d : Dev) (p : Port) : (d.attemptsCleared p).pstate p = d.pstate p := by
  unfold Dev.attemptsCleared Dev.pstate
  cases p
  · exact (Dev.get_put_apart _ _ _ _ rfl rfl rfl).trans (Dev.get_put_apart _ _ _ _ rfl rfl rfl)
  · exact (Dev.get_put_apart _ _ _ _ rfl rfl rfl).trans (Dev.get_put_apart _ _ _ _ rfl rfl rfl)

theorem Dev.attemptsCleared_leg (d : Dev) (p : Port) : (d.attemptsCleared p).bit (SPN_PORT_LEG p) = d.bit (SPN_PORT_LEG p) := by
  unfold Dev.attemptsCleared
  cases p
  · exact (Dev.bit_put_apart _ _ _ _ rfl rfl rfl).trans (Dev.bit_put_apart _ _ _ _ rfl rfl rfl)
  · exact (Dev.bit_put_apart _ _ _ _ rfl rfl rfl).trans (Dev.bit_put_apart _ _ _ _ rfl rfl rfl)

/-- RETRN of either end clears HRFAIL: HR trains at once; a port that is DOWN, or in LR with a legacy chain, does not. -/
theorem prtRetrnDev_cases (far : Bool) (hfit : fits d.build .phyN = true) (halive : d.dead (phyDie p) = false) :
    (d.pstate p = pHr → prtRetrnDev p far d = (d.attemptsCleared p).put (SPN_PORT_STATE p) pTrain)
    ∧ (d.pstate p = pLr → d.bit (SPN_PORT_LEG p) = true → prtRetrnDev p far d = d.attemptsCleared p)
    ∧ (d.pstate p = pDown → prtRetrnDev p far d = d.attemptsCleared p) := by
  have hgo : fits d.build .phyN ∧ !d.dead (phyDie p) := ⟨hfit, by simp [halive]⟩
  have hst := d.attemptsCleared_pstate p
  refine ⟨fun h => (if_pos hgo).trans (if_pos (hst.trans h)), fun h hl => (if_pos hgo).trans ((if_neg ?_).trans (if_neg ?_)),
    fun h => (if_pos hgo).trans ((if_neg ?_).trans (if_neg ?_))⟩
  · exact fun hc => absurd (h.symm.trans (hst.symm.trans hc)) (by decide)
  · rintro ⟨-, hc, -⟩
    rw [← Dev.attemptsCleared, Dev.attemptsCleared_leg, hl] at hc
    exact absurd hc (by decide)
  · exact fun hc => absurd (h.symm.trans (hst.symm.trans hc)) (by decide)
  · rintro ⟨hc, -⟩
    exact absurd (h.symm.trans (hst.symm.trans hc)) (by decide)

theorem exec_prtRetrn (hfit : fits d.build .phyN = true) (halive : d.dead (phyDie p) = false) :
    let e := (d.put (PRT_STAT_HRFAIL p) 0).put (PRT_STAT_ATT p) 0
    (d.accepts (PRT_CTRL_RETRN p) →
      (d.pstate p = pHr → exec (.prtRetrn p false) ⟨d, q⟩
        = .next ⟨(e.put (SPN_PORT_STATE p) pTrain).seeTimePort.commandDone, q⟩)
      ∧ (d.pstate p = pLr → d.bit (SPN_PORT_LEG p) = true → exec (.prtRetrn p false) ⟨d, q⟩
        = .next ⟨e.seeTimePort.commandDone, q⟩)
      ∧ (d.pstate p = pDown → exec (.prtRetrn p false) ⟨d, q⟩ = .next ⟨e.seeTimePort.commandDone, q⟩))
    ∧ (d.settled →
      (d.pstate p = pHr → exec (.prtRetrn p true) ⟨d, q⟩ = .next ⟨(e.put (SPN_PORT_STATE p) pTrain).seeTimePort, q⟩)
      ∧ (d.pstate p = pDown → exec (.prtRetrn p true) ⟨d, q⟩ = .next ⟨e.seeTimePort, q⟩)) := by
  intro e
  have hcleared : Dev.Grow d e := ((Dev.Grow.refl d).put ..).put ..
  have htrained : Dev.Grow d (e.put (SPN_PORT_STATE p) pTrain) := hcleared.put ..
  obtain ⟨hhr, hlr, hdown⟩ := prtRetrnDev_cases (p := p) false hfit halive
  obtain ⟨hhr', -, hdown'⟩ := prtRetrnDev_cases (p := p) true hfit halive
  refine ⟨fun hacc => ⟨fun h => ?_, fun h hl => ?_, fun h => ?_⟩, fun hs => ⟨fun h => ?_, fun h => ?_⟩⟩
  · exact State.lift_takes_grow q hacc (congrArg Dev.seeTimePort (hhr h)) htrained.seeTimePort
  · exact State.lift_takes_grow q hacc (congrArg Dev.seeTimePort (hlr h hl)) hcleared.seeTimePort
  · exact State.lift_takes_grow q hacc (congrArg Dev.seeTimePort (hdown h)) hcleared.seeTimePort
  · exact State.lift_grow q hs (congrArg Dev.seeTimePort (hhr' h)) htrained.seeTimePort
  · exact State.lift_grow q hs (congrArg Dev.seeTimePort (hdown' h)) hcleared.seeTimePort

theorem exec_prtHrdis (v : Bool) (h : d.accepts (PRT_CTRL_HRDIS p)) (hfit : fits d.build .phyN = true) :
    exec (.prtHrdis p v) ⟨d, q⟩ = .next ⟨((d.putB (PRT_CTRL_HRDIS p) v).hrSettle.seeTimePort).commandDone, q⟩ :=
  State.lift_takes_grow q h (congrArg (fun e : Dev => e.hrSettle.seeTimePort) (if_pos hfit))
    ((Dev.Grow.refl d).putB ..).hrSettle.seeTimePort

/-- The port whose line check is refused. -/
def Dev.checkRefused (d : Dev) (p : Port) : Dev := ((d.put (PRT_LCHK_RTX p) 4).put (PRT_LCHK_RRX p) 4).put (PRT_LCHK_VALID p) 1

theorem Dev.checkRefused_get (d : Dev) (p : Port) : (d.checkRefused p).get (PRT_LCHK_RTX p) = 4
    ∧ (d.checkRefused p).get (PRT_LCHK_RRX p) = 4 ∧ (d.checkRefused p).get (PRT_LCHK_VALID p) = 1 := by
  unfold Dev.checkRefused
  cases p <;> refine ⟨?_, ?_, ?_⟩ <;> simp (disch := decide) only [Dev.get_put_apart, Dev.get_put_same] <;> rfl

theorem exec_lineCheck (h : d.accepts (PRT_CTRL_LCHK p)) (hfit : fits d.build .phyN = true) :
    (d.pstate p = pDown → d.monitoring = true → exec (.lineCheck p) ⟨d, q⟩
      = .next ⟨((d.setPort p { d.port p with lineCheck := true }).put (PRT_LCHK_VALID p) 0).commandDone, q⟩)
    ∧ (d.pstate p ≠ pDown ∨ d.monitoring = false → ∃ t, exec (.lineCheck p) ⟨d, q⟩ = .next t
      ∧ t.dev.get (PRT_LCHK_RTX p) = 4 ∧ t.dev.get (PRT_LCHK_RRX p) = 4 ∧ t.dev.get (PRT_LCHK_VALID p) = 1) := by
  have hgo : ¬(!fits d.build .phyN) := by simp [hfit]
  refine ⟨fun hst hm => ?_, fun hno => ?_⟩
  · exact State.lift_takes_grow q h ((if_neg hgo).trans (if_pos ⟨hst, hm⟩)) (((Dev.Grow.refl d).setPort ..).put ..)
  · have hact : lineCheckDev p d = _ := (if_neg hgo).trans (if_neg fun hc => hno.elim (fun h => h hc.1) fun h => by simp [h] at hc)
    have hgrow : Dev.Grow d (d.checkRefused p) := (((Dev.Grow.refl d).put ..).put ..).put ..
    have hget {f : Fld} (hs : f.addr ∉ sendRegs) (hm : f.addr ∉ moveRegs) (code src : Nat) (items : List Nat) :
        ((d.checkRefused p).raise code src items).commandDone.get f = (d.checkRefused p).get f :=
      (Dev.commandDone_get _ _ hm).trans (Dev.raise_get _ _ _ _ _ hs)
    obtain ⟨hrtx, hrrx, hvalid⟩ := d.checkRefused_get p
    refine ⟨_, State.lift_takes_grow q h hact (hgrow.raise ..), ?_, ?_, ?_⟩
    · exact (hget (by cases p <;> decide) (by cases p <;> decide) ..).trans hrtx
    · exact (hget (by cases p <;> decide) (by cases p <;> decide) ..).trans hrrx
    · exact (hget (by cases p <;> decide) (by cases p <;> decide) ..).trans hvalid

/-- The port whose line check has ended. -/
def Dev.checkEnded (d : Dev) (p : Port) (rtx rrx dtx drx : Nat) : Dev :=
  (((((d.setPort p { d.port p with lineCheck := false }).put (PRT_LCHK_RTX p) rtx).put (PRT_LCHK_RRX p) rrx).put
    (PRT_LCHK_DTX p) dtx).put (PRT_LCHK_DRX p) drx).put (PRT_LCHK_VALID p) 1

theorem Dev.checkEnded_get (d : Dev) (p : Port) (rtx rrx dtx drx : Nat) :
    (d.checkEnded p rtx rrx dtx drx).get (PRT_LCHK_RTX p) = rtx % 8 ∧ (d.checkEnded p rtx rrx dtx drx).get (PRT_LCHK_RRX p) = rrx % 8
      ∧ (d.checkEnded p rtx rrx dtx drx).get (PRT_LCHK_VALID p) = 1
      ∧ ((d.checkEnded p rtx rrx dtx drx).port p).lineCheck = false := by
  unfold Dev.checkEnded
  refine ⟨?_, ?_, ?_, ?_⟩
  · cases p <;> simp (disch := decide) only [Dev.get_put_apart, Dev.get_put_same] <;> rfl
  · cases p <;> simp (disch := decide) only [Dev.get_put_apart, Dev.get_put_same] <;> rfl
  · cases p <;> simp (disch := decide) only [Dev.get_put_same] <;> rfl
  · simp only [Dev.port_put, Dev.port_setPort]

theorem exec_lineCheckDone (rtx rrx dtx drx : Nat) (hs : d.settled) (hc : (d.port p).lineCheck = true) :
    ∃ t, exec (.lineCheckDone p rtx rrx dtx drx) ⟨d, q⟩ = .next t ∧ t.dev.get (PRT_LCHK_RTX p) = rtx % 8
      ∧ t.dev.get (PRT_LCHK_RRX p) = rrx % 8 ∧ t.dev.get (PRT_LCHK_VALID p) = 1 ∧ (t.dev.port p).lineCheck = false := by
  have hact : lineCheckDoneDev p rtx rrx dtx drx d = _ := if_pos hc
  have hgrow : Dev.Grow d (d.checkEnded p rtx rrx dtx drx) :=
    ((((((Dev.Grow.refl d).setPort ..).put ..).put ..).put ..).put ..).put ..
  have hget {f : Fld} (hf : f.addr ∉ sendRegs) (code src : Nat) (items : List Nat) :
      ((d.checkEnded p rtx rrx dtx drx).raise code src items).get f = (d.checkEnded p rtx rrx dtx drx).get f :=
    Dev.raise_get _ _ _ _ _ hf
  obtain ⟨hrtx, hrrx, hvalid, hoff⟩ := d.checkEnded_get p rtx rrx dtx drx
  refine ⟨_, State.lift_grow q hs hact (hgrow.raise ..), ?_, ?_, ?_, ?_⟩
  · exact (hget (by cases p <;> decide) ..).trans hrtx
  · exact (hget (by cases p <;> decide) ..).trans hrrx
  · exact (hget (by cases p <;> decide) ..).trans hvalid
  · exact (((Dev.PortsKept.refl _).raise ..).lineCheck p).trans hoff

end

/-- Settles O29: each command of a port acts by the state the port is in, and an event leaves the port's silence and its line
check. -/
theorem linkCommandsComplete : Obligations.LinkCommandsComplete :=
  ⟨fun _ q _ _ _ hr hv hin hl => exec_linkWord q hr hv hin hl, fun _ q _ hr hin hl hs => exec_linkWordSend q hr hin hl hs,
    fun _ q _ hr hst hruns => exec_lrTimeouts q hr hst hruns, fun _ q _ hs hst => exec_downSilenceEnd q hs hst,
    fun _ q _ preset eyeh eyev rxinv hs hst => exec_training q preset eyeh eyev rxinv hs hst,
    fun _ q _ hs hf => exec_hrRetryExpiry q hs hf, fun _ q _ n hs hst => exec_syncHeaderErrors q n hs hst,
    fun _ q _ hs hst => exec_retrain q hs hst, fun _ q _ hfit halive => exec_prtRetrn q hfit halive,
    fun _ q _ v h hfit => exec_prtHrdis q v h hfit, fun _ q _ h hfit => exec_lineCheck q h hfit,
    fun _ q _ rtx rrx dtx drx hs hc => exec_lineCheckDone q rtx rrx dtx drx hs hc⟩

end Sys2Proof.Machine
end
